-- ==== Sys2Proof/Word.lean ====
section
/-!
DEFINITION. The plainest types of the model: a byte, a byte string, and the sparse table in which every
collection keyed by number (memory cells, cores, links, sessions) is held. A sparse table is a list of
(key, value) pairs with keys strictly rising; what an unlisted key reads as is named by each reader.
-/

namespace Sys2Proof

/-- One byte (R9). -/
abbrev Byte := BitVec 8

/-- A byte string, lowest offset first (R9). -/
abbrev Bytes := List Byte

/-- A sparse table keyed by number: keys strictly rising. -/
abbrev Tab (α : Type) := List (Nat × α)

namespace Tab

variable {α : Type}

/-- The entry at key `k`, if listed. -/
def find? (k : Nat) : Tab α → Option α
  | [] => none
  | (j, v) :: t => if j == k then some v else find? k t

/-- The entry at key `k`, or `d` where none is listed. -/
def getD (d : α) (k : Nat) (t : Tab α) : α := (find? k t).getD d

/-- Lists `v` at key `k`, keeping the keys strictly rising. -/
def put (k : Nat) (v : α) : Tab α → Tab α
  | [] => [(k, v)]
  | (j, w) :: t => if k < j then (k, v) :: (j, w) :: t else if k == j then (k, v) :: t else (j, w) :: put k v t

/-- Unlists key `k`. -/
def del (k : Nat) : Tab α → Tab α
  | [] => []
  | (j, w) :: t => if j == k then t else (j, w) :: del k t

/-- Writes `v` at key `k` where `d` is what an unlisted key reads as: writing `d` unlists the key, so
equal tables are equal lists. -/
def putD [DecidableEq α] (d : α) (k : Nat) (v : α) (t : Tab α) : Tab α :=
  if v = d then del k t else put k v t

/-- Changes the entry at `k` by `f`, where one is listed. -/
def modify (k : Nat) (f : α → α) (t : Tab α) : Tab α :=
  match find? k t with
  | none => t
  | some v => put k (f v) t

/-- Whether key `k` is listed. -/
def has (k : Nat) (t : Tab α) : Bool := (find? k t).isSome

/-- The listed keys, rising. -/
def keys (t : Tab α) : List Nat := t.map Prod.fst

/-- The listed values, in key order. -/
def vals (t : Tab α) : List α := t.map Prod.snd

/-- Applies `f` to every listed value. -/
def mapVals {β : Type} (f : Nat → α → β) (t : Tab α) : Tab β := t.map fun p => (p.1, f p.1 p.2)

/-- The lowest key at or above `start` that is not listed, looking at no more than `fuel` keys. -/
def freeKey (start : Nat) : Nat → Tab α → Option Nat
  | 0, _ => none
  | fuel + 1, t => if has start t then freeKey (start + 1) fuel t else some start

/-- Keys strictly rise. -/
def sorted : Tab α → Bool
  | [] => true
  | [_] => true
  | (j, _) :: (k, v) :: t => j < k && sorted ((k, v) :: t)

end Tab

/-- The value of a little-endian byte string (R9). -/
def leNat : Bytes → Nat
  | [] => 0
  | b :: t => b.toNat + 256 * leNat t

/-- `n` bytes of `v`, little-endian (R9). -/
def leBytes : Nat → Nat → Bytes
  | 0, _ => []
  | n + 1, v => BitVec.ofNat 8 v :: leBytes n (v / 256)

/-- The field of `n` bytes at offset `o` of `m`; a byte beyond the end reads as 0. -/
def leField (m : Bytes) (o n : Nat) : Nat := leNat ((m.drop o).take n)

/-- Bits `[hi:lo]` of `v` (R8). -/
def bitsOf (v hi lo : Nat) : Nat := (v >>> lo) % 2 ^ (hi + 1 - lo)

/-- Bit `i` of `v` (R8). -/
def bitOf (v i : Nat) : Bool := v.testBit i

/-- `true` as 1 and `false` as 0. -/
def bit (b : Bool) : Nat := if b then 1 else 0

/-- Ceiling of `a / b`. -/
def ceilDiv (a b : Nat) : Nat := (a + b - 1) / b

end Sys2Proof
end

