-- ==== Sys2Proof/Syntax.lean ====
section
/-!
DEFINITION. The commands of the module: one constructor of `Instr` for each row of spec/opcode_table.json, in the
table's order. Operands name who acts and carry what comes from outside the module (a received frame, a measured
value, the outcome of a physical test); everything else an effect needs stands in State.
-/

namespace Sys2Proof

/-- Where firmware takes a mail message from: a session's inbound slots (R609) or the JTAG mail register (R783). -/
inductive MailSrc where
  | session (idx : Nat)
  | jtag
deriving DecidableEq, Repr

/-- The two Ethernet ports (R579). -/
inductive PortId where
  | a
  | b
deriving DecidableEq, Repr

/-- The two lockkeepers (R734). -/
inductive LkId where
  | a
  | b
deriving DecidableEq, Repr

/-- A UDP datagram on the Ecden port as it reaches the protocol engine (R581, R583, R594). Addresses are
128 bits wide, IPv4 written IPv4-mapped (R829). -/
structure RxFrame where
  port    : PortId
  mac     : Nat
  vlan    : Nat
  pcp     : Nat
  ip      : Nat
  udp     : Nat
  payload : Bytes
deriving DecidableEq, Repr

/-- A member of a gang: graph slot, task index, rank (R285). -/
structure MRef where
  slot : Nat
  task : Nat
  rank : Nat
deriving DecidableEq, Repr

/-- Where a stored cell has gone wrong (R521, R887), with its storage address: a byte of a frame or of a stamp slot, one page-table copy,
both copies of a page's entry, or the lowered code of a kernel. -/
inductive MemLoc where
  | byte (st : Nat)
  | pageTable (second : Bool) (st : Nat)
  | bothTables (page st : Nat)
  | lowered (khandle st : Nat)
deriving DecidableEq, Repr

/-- What happens at a DRAM read, beside what stands in the cells (R520, R521): nothing, a flip on the bus that the second read does not
show, or a cell that is found to have gone wrong. -/
inductive ParitySeen where
  | clean
  | retried
  | persistent (loc : MemLoc)
deriving DecidableEq, Repr

/-- The core side's or the lighter's request at a scratch port in one core cycle (R96, R104): a read lists the byte offsets
it enables, a write the enabled bytes of the word as (byte offset, value) pairs. -/
inductive ScratchReq where
  | idle
  | read (word : Nat) (enables : List Nat)
  | write (word : Nat) (bytes : Tab Byte)
deriving DecidableEq, Repr

/-- A packet of the photonic base: the header fields of R409 that act, and the payload's bytes. -/
structure BasePacket where
  stamp     : Nat
  addr      : Nat
  kind      : Nat
  vc        : Nat
  destBerth : Nat
  destUnit  : Nat
  srcBerth  : Nat
  srcUnit   : Nat
  len       : Nat
  tag       : Nat
  payload   : Bytes
  bad       : List Nat := []
deriving DecidableEq, Repr

/-- What a packet is a part of: a write or a message, from which it takes its stamp at its credit grant (R361), or the COLL that a member
of a generation issued at a place in its order. -/
inductive Owner where
  | write (id : Nat)
  | msg (id : Nat)
  | part (m : MRef) (gen order : Nat)
  | none
deriving DecidableEq, Repr

/-- A packet on its way to a link of the base, and its owner. -/
structure TxPacket where
  owner : Owner
  pkt   : BasePacket
deriving DecidableEq, Repr

/-- A packet of the on-die network (R113 to R123). `elems` are a reduction packet's elements by width of `rtype`; `load` is the
packet of the base that a lighter's packet is, and `toBase` says that it leaves at the base port of router `dst` (R85, R93). -/
structure NetPacket where
  id      : Nat
  src     : Nat
  dst     : Nat
  vc      : Nat
  flits   : Nat
  stamp   : Nat
  rtype   : Nat
  group   : Nat
  word    : Nat
  carried : Nat
  expects : Nat
  flush   : Bool
  elems   : List Nat
  load    : Option TxPacket := none
  toBase  : Bool := false
deriving DecidableEq, Repr

/-- The light of one frame as a receive link meets it (R402, R405). On the base it is what the way changes of the bits that
the sender's encoder sends: the frame bits and the bits of lane WR that arrive inverted. On a fibre it is the frame's bits and
those of WR as they arrive, with what the far module makes known beside them: the lane whose bits stand on WR, the lane it runs without,
whether it sends again from the frame NAKed last, and the channels that its receive link's upper weir holds back
(notes/assumptions/176.md). -/
structure LinkFrame where
  bits : Nat
  wr   : Nat
  mirror : Option Nat := none
  missing : Option Nat := none
  again : Bool := false
  weir : List Nat := []
deriving DecidableEq, Repr

/-- A packet with the torus extension of R536. -/
structure TorusPacket where
  pound   : Nat
  route   : Nat
  hop     : Nat
  cls     : Nat
  dest    : Nat
  src     : Nat
  passage : Nat
  attempt : Nat
  base    : BasePacket
deriving DecidableEq, Repr

/-- What a flight's window changes at one module's link, named by the module's coordinate and the link (R427, R428): its
fast ports' destinations, or a circuit set on a port or released, with its share and passage. -/
inductive FlightAct where
  | ports (coord link : Nat) (dests : Tab Nat)
  | setCircuit (coord link port share passage : Nat)
  | releaseCircuit (coord link share passage : Nat)
deriving DecidableEq, Repr

/-- A window of a flight: its instant and what it changes (R427). -/
structure FlightWindow where
  start : Nat
  acts  : List FlightAct
deriving DecidableEq, Repr

/-- A partition notice (R564): a named cut (with the serial of a join, R561), a flight, a link state, a
time-master announcement. -/
inductive Notice where
  | cut (c : Nat) (serial : Option Nat)
  | flight (id : Nat) (windows : List FlightWindow)
  | linkState (coord : Nat) (dir : Nat) (up : Bool)
  | master (coord : Nat)
deriving DecidableEq, Repr

/-- One IEEE 1588 message and the time it carries in nanoseconds since the PTP epoch (R309, R310). -/
inductive PtpKind where
  | sync (twoStep : Bool)
  | followUp (ns : Nat)
  | delayReqSent
  | delayResp (ns : Nat)
  | silent
deriving DecidableEq, Repr

/-- A laser or fibre source line: `bank q j` is laser j of bank q (0 to 16 primaries, 17 to 20 spares, R697);
`fibre b c j` is lane j of source c (0 A, 1 B) of torus berth b (R570). -/
inductive LaserRef where
  | bank (q j : Nat)
  | fibre (b c j : Nat)
deriving DecidableEq, Repr

/-- A group of links that share a relief map: bank q (R457) or torus berth b (R571). -/
inductive LightUnit where
  | bank (q : Nat)
  | fibre (b : Nat)
deriving DecidableEq, Repr

/-- A collective that completes: a gang's (by its place in the sequence of R210), a router's reduction-table
entry (R123), or a basin's (R439). -/
inductive CollRef where
  | gang (slot task place : Nat)
  | table (core group : Nat)
  | basin (berth group addr : Nat)
deriving DecidableEq, Repr

/-- A ring, by its role (0 modulator, 1 filter, 2 fast-port switch) and side (R829). -/
structure RingRef where
  berth   : Nat
  receive : Bool
  link    : Nat
  role    : Nat
  lane    : Nat
deriving DecidableEq, Repr

/-- What a housekeeping round finds: channel readings, and the berths whose logic does not answer (R443, R696, R697). -/
structure HouseRound where
  samples : Tab Int
  silent  : List Nat
deriving DecidableEq, Repr

/-- What the scrubber of R740 finds in a pass. -/
inductive ScrubResult where
  | same
  | differs
  | parity (lk : LkId)
deriving DecidableEq, Repr

/-- Where a control triple or a lane group stands: a core's field, or a stack's base joint (R714, R716). -/
inductive JointRef where
  | core (core : Nat)
  | base (stack : Nat)
deriving DecidableEq, Repr

/-- How a core or its router is found faulty: a flit-buffer parity error, an output port with no credit for 2^12 ticks (R729), or a
parity error in the core's engine or sequencer state (R726), which no other row reports (notes/assumptions/187.md). -/
inductive RouterSymptom where
  | parity
  | creditStall
  | logicParity
deriving DecidableEq, Repr

/-- The outcome of an AVSBus frame (R680 to R683): the value read, a CRC failure or no response. -/
inductive AvsResult where
  | ok (value : Nat)
  | failed
deriving DecidableEq, Repr

/-- What a boot phase reports at its end (R812, R818). Each list names what failed; of memory, the sub-channels (48 to a berth) whose full
training failed, each with how often, and those whose restored values failed verification (R517, R518). -/
inductive PhaseReport where
  | done
  | laserPhase (bankDown : List Nat) (ringsUnlocked : List RingRef) (rejected : List (Nat × Nat))
  | memPhase (failed : List (Nat × Nat)) (restoredRejected : List Nat)
  | stackPhase (pllFailed : List Nat) (lanesFailed : List (Nat × Nat × Nat))
deriving DecidableEq, Repr

/-- A request that reaches this module's firmware from another module's (R547, R644). -/
inductive RemoteReq where
  | confirm (handle size : Nat)
  | release (handle : Nat)
deriving DecidableEq, Repr

/-- The commands: one constructor per row of the table. -/
inductive Instr where
  -- mail (chapter 13)
  | mailRefusedUnparsed (src : MailSrc)
  | identify (src : MailSrc)
  | ftRead (src : MailSrc)
  | telemetryRead (src : MailSrc)
  | eventSubscribe (src : MailSrc)
  | eventRead (src : MailSrc)
  | bufCreate (src : MailSrc)
  | bufFree (src : MailSrc)
  | rbufCreate (src : MailSrc)
  | rbufRemoteAnswer (job : Nat) (confirmed : Bool) (base : Nat)
  | rbufCreateTimeout (job : Nat)
  | memRead (src : MailSrc)
  | bargeOpen (src : MailSrc)
  | bargeCancel (src : MailSrc)
  | kernelLoad (src : MailSrc)
  | kernelLoweringDone (job : Nat)
  | kernelUnload (src : MailSrc)
  | graphSubmit (src : MailSrc)
  | graphCheckDone (job : Nat)
  | graphCancel (src : MailSrc)
  | poundClose (src : MailSrc)
  | poundStatus (src : MailSrc)
  | flatSet (src : MailSrc)
  | passageOpen (src : MailSrc)
  | passageConfirmed (job : Nat)
  | passageClose (src : MailSrc)
  | configRead (src : MailSrc)
  | configWrite (src : MailSrc)
  | calibRead (src : MailSrc)
  | calibWrite (src : MailSrc)
  | powerSet (src : MailSrc)
  | powerTransitionDone
  | resume (src : MailSrc)
  | moduleReset (src : MailSrc)
  | moduleResetTimer
  | updateStage (src : MailSrc)
  | slotProgramDone
  | healthConfirm (src : MailSrc)
  | attest (src : MailSrc)
  | keyInstall (src : MailSrc)
  | lifecycleSet (src : MailSrc)
  | debugOpen (src : MailSrc)
  | debugHalt (src : MailSrc)
  | debugStep (src : MailSrc)
  | debugRun (src : MailSrc)
  | debugRead (src : MailSrc)
  | debugClose (src : MailSrc)
  -- Ethernet and Ecden (chapter 12)
  | ethFrameInvalid (port : PortId) (frame : Bytes)
  | ethRxBufferFull (port : PortId) (len : Nat)
  | pfcPauseReceived (port : PortId) (priority : Nat) (quanta : Nat)
  | arpRequest (port : PortId) (senderMac senderIp targetIp : Nat)
  | neighborSolicitation (port : PortId) (senderMac senderIp targetIp : Nat)
  | ptpMessage (port : PortId) (domain : Nat) (kind : PtpKind)
  | portLinkChange (port : PortId) (up : Bool)
  | ecdenMalformedFrame (f : RxFrame)
  | ecdenAuthFail (f : RxFrame)
  | ecdenOpen (f : RxFrame)
  | ecdenMailFrame (f : RxFrame)
  | ecdenDataFrame (f : RxFrame)
  | ecdenAckFrame (f : RxFrame)
  | ecdenCloseFrame (f : RxFrame)
  | unknownSessionFrame (f : RxFrame)
  | ackTimer (idx : Nat)
  | creditRiseAck (idx : Nat)
  | engineVisit (idx : Nat)
  | retransmitTimeout (idx : Nat) (seq : Nat)
  | sessionStrand (idx : Nat)
  | strandedIndexFree (idx : Nat)
  -- kernel ops (chapter 4)
  | kNop (m : MRef)
  | kEnd (m : MRef)
  | kLoop (m : MRef)
  | kEndloop (m : MRef)
  | kTilefor (m : MRef)
  | kIf (m : MRef)
  | kElse (m : MRef)
  | kEndif (m : MRef)
  | kImov (m : MRef)
  | kIalu (m : MRef)
  | kQuery (m : MRef)
  | kParam (m : MRef)
  | kVdim (m : MRef)
  | kVsub (m : MRef)
  | kTload (m : MRef)
  | kTstore (m : MRef)
  | kTfill (m : MRef)
  | kXfer (m : MRef)
  | xferDone (m : MRef) (token : Nat)
  | kWait (m : MRef)
  | kMma (m : MRef)
  | kAccmov (m : MRef)
  | kEbin (m : MRef)
  | kEfma (m : MRef)
  | kEun (m : MRef)
  | kCmp (m : MRef)
  | kSel (m : MRef)
  | kRed (m : MRef)
  | kTrans (m : MRef)
  | kGather (m : MRef)
  | kScatter (m : MRef)
  | kSort (m : MRef)
  | kCvt (m : MRef)
  | kSend (m : MRef)
  | kRecv (m : MRef)
  | msgArrival (msg : Nat)
  | staleMessageHandle (msg : Nat)
  | kColl (m : MRef)
  | collDone (c : CollRef)
  | kStamp (m : MRef)
  | kBarrier (m : MRef)
  | barrierRelease (slot task : Nat)
  | kernelHang (slot task : Nat)
  | taskTimeout (slot task : Nat)
  -- scheduler (chapter 5)
  | admission (slot : Nat)
  | taskRebind (slot task : Nat)
  | cogroupRebind (slot group : Nat)
  | taskRelease (stack : Nat)
  | cogroupRelease (slot group : Nat)
  | headTaskStarve (stack : Nat)
  | cogroupHang (slot group : Nat)
  | taskEnd (slot task : Nat)
  -- cores and on-die network (chapter 3)
  | scratchCycle (core : Nat) (coreSide lighter : ScratchReq) (erring : List Nat)
  | routerCycle (router : Nat) (inject : List NetPacket)
  | reductionTableAdd (router : Nat)
  | lockChamberRead (chamber : Nat) (seqRead : Nat) (stampRead : Nat)
  -- time and clocks (chapter 6)
  | fabricTick
  | stampStallRelease (berth : Nat)
  | ftReplicaCheck (stack : Nat) (slip : Int)
  | timingFrameSend (port link : Nat)
  | timingFrameReceive (port link : Nat) (master : Option Nat) (senderFt hops roundTrip : Nat)
  | ftRefChange (ok : Bool)
  | stepChangeStart (stack : Nat)
  | avsFrameDone (r : AvsResult)
  | glideEnd (stack : Nat)
  | stackPllLoss (stack : Nat)
  | marginMonitor (stack reach : Nat) (levels : List Nat)
  -- pounds and memory (chapters 7 and 10)
  | poundDeadline
  | poolThresholdClose
  | poundCut
  | drainEnd
  | drainTimeout
  | verdict
  | poundCommit
  | versionFold (berth : Nat)
  | reorderRelease (berth : Nat)
  | memWriteArrival (w : Nat)
  | shadowCopyDone (page : Nat)
  | poolWaitResume (berth : Nat)
  | detectedFault
  | rollbackShadowsReturned
  | replayOpen
  | closeRequestReceive (coord : Nat) (issued : Nat)
  | namedCutReceive (c : Nat) (serial : Option Nat)
  | torusCommitNotice (sender n attempt : Nat)
  | torusRollbackNotice (sender n attempt : Nat)
  | holdExpiry (sender n : Nat)
  -- photonic base (chapter 8)
  | linkFrameReceive (link : Nat) (f : LinkFrame)
  | nakResend (link : Nat)
  | baseParityError (berth struct : Nat) (link : Nat)
  | grantPass (link : Nat) (requests : List (Nat × Nat)) (waited : Nat)
  | fastPortRetarget (link port : Nat)
  | creditReturn (link vc units : Nat)
  | lockWindowStart
  | lockWindowRingDeadline
  | basinReduce (link : Nat) (p : BasePacket)
  | baseLogicReset (berth : Nat)
  | baseResetRelease
  | basePlanReloaded (down : List Nat)
  -- light (chapter 9)
  | failComparatorTrip (laser : LaserRef)
  | handoverStart (u : LightUnit)
  | handoverDrainEnd (u : LightUnit)
  | spareTuned (u : LightUnit) (ok : Bool)
  | spareVerified (u : LightUnit) (ok : Bool)
  | handoverSwitch (u : LightUnit)
  | handoverLaneCheckEnd (u : LightUnit) (ok : Bool)
  | handoverMirrorStop (u : LightUnit)
  | ringRelock (ring : RingRef) (ownTone : Bool)
  | calibrationStep (cls item : Nat) (value aux : Int)
  | governorSlot (stack : Nat) (periods : Nat)
  -- memory service (chapter 10)
  | memReadReq (req : Nat) (parity : ParitySeen)
  | dramRefresh (berth subchannel bank : Nat)
  | trackingStep (berth subchannel : Nat) (ok : Bool)
  | patrolRead (berth addr : Nat) (parity : ParitySeen)
  -- torus (chapter 11)
  | fibrePacketReceive (port link : Nat) (p : TorusPacket)
  | torusLinkTrain (port link : Nat) (partition coord dir : Nat)
  | torusWriteAck (berth sender n : Nat)
  | torusAckReceive (dest n count : Nat)
  | torusUnackedCheck
  | remoteReadResend (req : Nat)
  | joinSend
  | joinReceive (coord serial : Nat)
  | partitionLeave
  | partitionNoticeReceive (port : Nat) (id : Nat) (n : Notice)
  | noticeResend (id : Nat)
  | flightRequest (coord id : Nat) (windows : List (List FlightAct))
  | masterLoss
  -- housekeeping, power, redundancy (chapters 14 and 15)
  | housekeepingRound (round : HouseRound)
  | hkEvaluation (tones : List (RingRef × Nat))
  | hkActionInstant
  | thermalTrip
  | tripLogWritten
  | miscompare (mechanism : Nat) (lk : Option LkId) (output : Nat)
  | lkDecision (aPass bPass cmpPass : Bool)
  | checkerInjection (tripped : Bool)
  | scrubPass (r : ScrubResult)
  | checkerSelfTest
  | checkerSelfTestDone (pass : Bool)
  | watchdogExpiry (lk : LkId)
  | retiredSelfTest (pass cmpPass : Bool)
  | rejoinHelm
  | moduleStrand
  | controlVoteFail (joint : JointRef) (triple bump : Nat)
  | laneTestDone (core word : Nat) (failed : List (Nat × Nat))
  | laneSpareWindow (core group : Nat) (failedLane : Option Nat)
  | baseGroupSpare (stack group : Nat) (failedAgain : Bool)
  | routerFault (core : Nat) (symptom : RouterSymptom)
  | routeTableWrite (stack : Nat)
  -- security and debug (chapter 16)
  | tamperDetect (source : Nat)
  | tamperClear
  | jtagExtest (cells : Nat)
  | jtagIdcode
  | jtagSamplePreload (cells : Nat)
  | jtagClamp
  | jtagHighz
  | dbgAuth (slot level reserved tag : Nat)
  | dbgMail (message : Bytes)
  | jtagBypass
  | tapReset
  -- reset, boot and records (chapters 17 and 19)
  | resetNAssert (nanoseconds : Nat)
  | bootStart (samples : Tab Int)
  | bootPhaseEnd (phase elapsedMs : Nat) (report : PhaseReport)
  | trialExpiry
  | recordWriteDone
  | powerLoss
  -- later rows of the table
  | stackPllRelock (stack : Nat)
  | retunedRingsLocked (rings : Nat × List Nat)
  | lockWindowEnd
  | recordEraseDone
  | remoteBufferRequest (coord : Nat) (req : RemoteReq)
deriving DecidableEq, Repr

end Sys2Proof
end

