-- ==== Sys2Proof/Decode.lean ====
section
/-!
DEFINITION. No row of the table gives a word: a command reaches the module as a frame, a pin, or an event of its own units, so no
word spells one.
-/

namespace Sys2Proof

/-- The command a word spells: none, since the table gives no row any bits. -/
def decodeTableWord (_nbits _w : Nat) : Option Instr := none

end Sys2Proof
end

