-- ==== Sys2Proof/Config.lean ====
section
/-!
DEFINITION. What the manual leaves free, as constants with no body: nothing in Lean can prove a value of one.
The step applies `Config.free` to a plain counter of State and advances the counter, so each draw is a fresh
free value (notes/assumptions/2.md).
-/

namespace Sys2Proof

/-- The n-th free value drawn by the machine (a choice, an order, or a value the manual does not state). -/
opaque Config.free : Nat → Nat

/-- The result the vector engine proposes for special function `fn` on the F32 bit pattern `x`; it is taken
only within the error limit of R70 (notes/assumptions/20.md). -/
opaque Config.specialFn : Nat → Nat → Nat

/-- The 5,605 bytes of the XMSS^MT signature made with a leaf over a report (R779, R780). -/
opaque Config.xmssmtSign : Nat → Bytes → Nat → Nat

/-- The attestation public key (68 bytes) and its endorsement (2,820 bytes), fixed at the factory (R780). -/
opaque Config.attestPub : Nat → Nat
opaque Config.endorsement : Nat → Nat

/-- The bytes of the module's current calibration set, whose inner layout is not an interface (R660). -/
opaque Config.calibSetLength : Nat
opaque Config.calibSet : Nat → Nat

/-- Whether a calibration set of this byte string is bound to this unit and readable (R660, R661):
`calibUnitOk` for the unit, `calibFormOk` for the digest and the format. -/
opaque Config.calibUnitOk : Bytes → Bool
opaque Config.calibFormOk : Bytes → Bool

/-- The factory's MAC addresses by port (R579, R821). -/
opaque Config.factoryMac : Nat → Nat

/-- The factory's highest plausible drive current of a laser in units of 1/255 of the ceiling of R453 (R477). -/
opaque Config.laserFactoryMax : Nat → Nat

/-- Ticks before a lock window from which a link it names admits no new packet, so that those with credit are sent before it (R424;
notes/assumptions/177.md). -/
opaque Config.windowLead : Nat

/-- Free value: the bytes of a CONTROL packet after the number of the notice it carries, whose form the manual does not give (R564,
R565). -/
opaque Config.noticeForm : Nat → Bytes

/-- The choice of the two packages that hold a memory berth's page-table copies (R509). -/
opaque Config.tablePackage : Nat → Nat

/-- The training values of a sub-channel in a calibration set, whose inner layout is not an interface (R518, R660). -/
opaque Config.trainingOf : Bytes → Nat → Nat

/-- The training values that a sub-channel's training or tracking gives, by the number of the free value drawn for it (R516, R519). -/
opaque Config.trained : Nat → Nat → Nat

/-- The energy coefficients of a stack's governor: by stack and activity, in mW for each count in a slot (R479). The activities are the
array cycles of the operand classes 0 to 7 of R89, 8 vector operations, 9 scratch accesses, 10 clocked core periods. -/
opaque Config.energy : Nat → Nat → Nat

/-- The nominal voltages of VMEM1, VMEM2 and VMEMQ in mV, as JESD209-6 sets them (R675, R695). -/
opaque Config.vmemNominal : Nat → Nat

/-- The grid position (modulo 16) of the base sensor nearest to the ring of a lane of a link (R706). -/
opaque Config.nearSensor : Nat → Nat → Nat

end Sys2Proof
end

