-- ==== Sys2Proof/Machine/Codes.lean ====
section
/-!
DEFINITION. The status codes of R674 and the event codes of R830, by the names the manual gives them.
-/

namespace Sys2Proof.Machine

/-! ### Status codes (R674) -/

abbrev St.ok : Nat := 0x0000
abbrev St.reserved : Nat := 0x0001
abbrev St.length : Nat := 0x0002
abbrev St.command : Nat := 0x0003
abbrev St.notReady : Nat := 0x0004
abbrev St.powerState : Nat := 0x0005
abbrev St.busy : Nat := 0x0006
abbrev St.cancelled : Nat := 0x0007
abbrev St.indexRange : Nat := 0x0008
abbrev St.kernelForm : Nat := 0x0101
abbrev St.formVersion : Nat := 0x0102
abbrev St.kernelDigest : Nat := 0x0103
abbrev St.kernelLimit : Nat := 0x0104
abbrev St.kernelSpace : Nat := 0x0105
abbrev St.kernelHandle : Nat := 0x0106
abbrev St.kernelMismatch : Nat := 0x0107
abbrev St.kernelBusy : Nat := 0x0108
abbrev St.opcode : Nat := 0x0109
abbrev St.operand : Nat := 0x010A
abbrev St.view : Nat := 0x010B
abbrev St.format : Nat := 0x010C
abbrev St.scratchRange : Nat := 0x0201
abbrev St.sealedOnly : Nat := 0x0202
abbrev St.viewAccess : Nat := 0x0203
abbrev St.viewShape : Nat := 0x0204
abbrev St.viewSpace : Nat := 0x0205
abbrev St.loopCount : Nat := 0x0206
abbrev St.paramRange : Nat := 0x0207
abbrev St.rank : Nat := 0x0208
abbrev St.recvSize : Nat := 0x0209
abbrev St.collMismatch : Nat := 0x020A
abbrev St.kernelHang : Nat := 0x020B
abbrev St.reductionOverrun : Nat := 0x020C
abbrev St.reductionTarget : Nat := 0x020D
abbrev St.taskTimeout : Nat := 0x020E
abbrev St.notCollective : Nat := 0x020F
abbrev St.external : Nat := 0x0210
abbrev St.skipped : Nat := 0x0211
abbrev St.staleRole : Nat := 0x0212
abbrev St.gangFit : Nat := 0x0213
abbrev St.graphForm : Nat := 0x0301
abbrev St.graphDigest : Nat := 0x0302
abbrev St.graphLimit : Nat := 0x0303
abbrev St.graphSlots : Nat := 0x0304
abbrev St.graphSlot : Nat := 0x0305
abbrev St.gang : Nat := 0x0306
abbrev St.affinity : Nat := 0x0307
abbrev St.cogroup : Nat := 0x0308
abbrev St.edge : Nat := 0x0309
abbrev St.resultRange : Nat := 0x030A
abbrev St.paramSize : Nat := 0x030B
abbrev St.taskError : Nat := 0x030C
abbrev St.graphFault : Nat := 0x030D
abbrev St.size : Nat := 0x0401
abbrev St.noMemory : Nat := 0x0402
abbrev St.bufferLimit : Nat := 0x0403
abbrev St.bufferHandle : Nat := 0x0404
abbrev St.bufferBusy : Nat := 0x0405
abbrev St.memRange : Nat := 0x0406
abbrev St.memPoison : Nat := 0x0407
abbrev St.memWorn : Nat := 0x0408
abbrev St.remoteBuffer : Nat := 0x0409
abbrev St.snapshotLost : Nat := 0x040A
abbrev St.lightLost : Nat := 0x040B
abbrev St.openForm : Nat := 0x0501
abbrev St.keySlot : Nat := 0x0502
abbrev St.authRequired : Nat := 0x0503
abbrev St.sessionLimit : Nat := 0x0504
abbrev St.sessionUnknown : Nat := 0x0505
abbrev St.sessionStranded : Nat := 0x0506
abbrev St.sessionClosed : Nat := 0x0507
abbrev St.bargeRange : Nat := 0x0508
abbrev St.bargeLimit : Nat := 0x0509
abbrev St.bargeNumber : Nat := 0x050A
abbrev St.route : Nat := 0x0601
abbrev St.endpoint : Nat := 0x0602
abbrev St.torusUnreachable : Nat := 0x0603
abbrev St.circuitLimit : Nat := 0x0604
abbrev St.passageLimit : Nat := 0x0605
abbrev St.passage : Nat := 0x0606
abbrev St.partition : Nat := 0x0607
abbrev St.telemetryItem : Nat := 0x0701
abbrev St.configItem : Nat := 0x0702
abbrev St.configValue : Nat := 0x0703
abbrev St.calibUnit : Nat := 0x0704
abbrev St.calibForm : Nat := 0x0705
abbrev St.thermal : Nat := 0x0706
abbrev St.updateSize : Nat := 0x0707
abbrev St.updateTrial : Nat := 0x0708
abbrev St.trialState : Nat := 0x0709
abbrev St.attestExhausted : Nat := 0x070A
abbrev St.lifecycle : Nat := 0x070B
abbrev St.denied : Nat := 0x070C
abbrev St.debugLevel : Nat := 0x070D

/-! ### Event codes: class times 0x100 plus position (R830) -/

abbrev Ev.ready : Nat := 0x0101
abbrev Ev.bootHalt : Nat := 0x0102
abbrev Ev.bootSlow : Nat := 0x0103
abbrev Ev.updateReverted : Nat := 0x0104
abbrev Ev.updateReject : Nat := 0x0105
abbrev Ev.imageInvalid : Nat := 0x0106
abbrev Ev.recordTorn : Nat := 0x0107
abbrev Ev.stranded : Nat := 0x0108
abbrev Ev.poundCommit : Nat := 0x0201
abbrev Ev.poundRollback : Nat := 0x0202
abbrev Ev.drainTimeout : Nat := 0x0203
abbrev Ev.lateWrite : Nat := 0x0204
abbrev Ev.closeLate : Nat := 0x0205
abbrev Ev.holdExpired : Nat := 0x0206
abbrev Ev.graphDone : Nat := 0x0301
abbrev Ev.taskError : Nat := 0x0302
abbrev Ev.secureAccess : Nat := 0x0303
abbrev Ev.scratchParity : Nat := 0x0401
abbrev Ev.coreFenced : Nat := 0x0402
abbrev Ev.routerFault : Nat := 0x0403
abbrev Ev.laneFailed : Nat := 0x0404
abbrev Ev.laneSpared : Nat := 0x0405
abbrev Ev.controlVote : Nat := 0x0406
abbrev Ev.crossingLost : Nat := 0x0407
abbrev Ev.chamberError : Nat := 0x0408
abbrev Ev.stackClock : Nat := 0x0409
abbrev Ev.ftState : Nat := 0x0501
abbrev Ev.ftOffset : Nat := 0x0502
abbrev Ev.ftReplica : Nat := 0x0503
abbrev Ev.ftMaster : Nat := 0x0504
abbrev Ev.stepMargin : Nat := 0x0505
abbrev Ev.linkUnrecovered : Nat := 0x0601
abbrev Ev.baseParity : Nat := 0x0602
abbrev Ev.portUnset : Nat := 0x0603
abbrev Ev.baseEpochLost : Nat := 0x0604
abbrev Ev.laserAdvisory : Nat := 0x0701
abbrev Ev.laserMigrate : Nat := 0x0702
abbrev Ev.laserFail : Nat := 0x0703
abbrev Ev.laserSpared : Nat := 0x0704
abbrev Ev.spareReject : Nat := 0x0705
abbrev Ev.laserNoSpare : Nat := 0x0706
abbrev Ev.reliefBusy : Nat := 0x0707
abbrev Ev.laneSuspect : Nat := 0x0708
abbrev Ev.wrongLock : Nat := 0x0709
abbrev Ev.bankDown : Nat := 0x070A
abbrev Ev.calibReject : Nat := 0x070B
abbrev Ev.memParity : Nat := 0x0801
abbrev Ev.memAddress : Nat := 0x0802
abbrev Ev.memTrainFail : Nat := 0x0803
abbrev Ev.memWorn : Nat := 0x0804
abbrev Ev.torusMiscable : Nat := 0x0901
abbrev Ev.routeError : Nat := 0x0902
abbrev Ev.torusUnacked : Nat := 0x0903
abbrev Ev.torusPortDown : Nat := 0x0904
abbrev Ev.passageLost : Nat := 0x0905
abbrev Ev.partitionJoin : Nat := 0x0906
abbrev Ev.partitionLeave : Nat := 0x0907
abbrev Ev.flightLate : Nat := 0x0908
abbrev Ev.sessionStranded : Nat := 0x0A01
abbrev Ev.authFail : Nat := 0x0A02
abbrev Ev.portLink : Nat := 0x0A03
abbrev Ev.bargeRewind : Nat := 0x0A04
abbrev Ev.powerState : Nat := 0x0B01
abbrev Ev.stepThermal : Nat := 0x0B02
abbrev Ev.thermalThrottle : Nat := 0x0B03
abbrev Ev.sensorBroken : Nat := 0x0B04
abbrev Ev.thermalTrip : Nat := 0x0B05
abbrev Ev.railRange : Nat := 0x0B06
abbrev Ev.avsFault : Nat := 0x0B07
abbrev Ev.miscompare : Nat := 0x0C01
abbrev Ev.lockkeeperRetired : Nat := 0x0C02
abbrev Ev.helmChange : Nat := 0x0C03
abbrev Ev.lockkeeperRejoin : Nat := 0x0C04
abbrev Ev.checkPause : Nat := 0x0C05
abbrev Ev.tamper : Nat := 0x0D01
abbrev Ev.lifecycle : Nat := 0x0D02
abbrev Ev.key : Nat := 0x0D03
abbrev Ev.debugOpen : Nat := 0x0D04
abbrev Ev.debugEnd : Nat := 0x0D05
abbrev Ev.debugDenied : Nat := 0x0D06

/-- The class of an event code (R830). -/
def eventClass (code : Nat) : Nat := code / 256

end Sys2Proof.Machine
end

