-- ==== Sys2Proof/Machine/Crypto.lean ====
section
/-!
DEFINITION. The hash functions the manual computes with (R17): SHAKE256 with 256-bit output (FIPS 202) for digests,
and KMAC256 with 256-bit output (NIST SP 800-185) for frame tags. The permutation works on 25 lanes of 64 bits held
as numbers, lane 5y + x at place 5y + x.
-/

namespace Sys2Proof.Machine

/-- Rotates a 64-bit lane left by `r`. -/
def laneRotl (v r : Nat) : Nat := ((v <<< r) % 2 ^ 64) ||| (v >>> (64 - r))

/-- The rotation offsets of the permutation, by lane. -/
def keccakRot : List Nat :=
  [0, 1, 62, 28, 27, 36, 44, 6, 55, 20, 3, 10, 43, 25, 39, 41, 45, 15, 21, 8, 18, 2, 61, 56, 14]

/-- The round constants of the permutation. -/
def keccakRc : List Nat :=
  [0x1, 0x8082, 0x800000000000808A, 0x8000000080008000, 0x808B, 0x80000001, 0x8000000080008081,
   0x8000000000008009, 0x8A, 0x88, 0x80008009, 0x8000000A] ++
  [0x8000808B, 0x800000000000008B, 0x8000000000008089, 0x8000000000008003, 0x8000000000008002,
   0x8000000000000080, 0x800A, 0x800000008000000A, 0x8000000080008081, 0x8000000000008080, 0x80000001,
   0x8000000080008008]

/-- Column parities and their spread. -/
def keccakTheta (a : List Nat) : List Nat :=
  let c := (List.range 5).map fun x =>
    a.getD x 0 ^^^ a.getD (x + 5) 0 ^^^ a.getD (x + 10) 0 ^^^ a.getD (x + 15) 0 ^^^ a.getD (x + 20) 0
  let d := (List.range 5).map fun x => c.getD ((x + 4) % 5) 0 ^^^ laneRotl (c.getD ((x + 1) % 5) 0) 1
  (List.range 25).map fun i => a.getD i 0 ^^^ d.getD (i % 5) 0

/-- Rotations and lane moves: the lane that ends at (x, y) comes from ((x + 3y) mod 5, x). -/
def keccakRhoPi (a : List Nat) : List Nat :=
  (List.range 25).map fun i =>
    let src := (i % 5 + 3 * (i / 5)) % 5 + 5 * (i % 5)
    laneRotl (a.getD src 0) (keccakRot.getD src 0)

/-- The nonlinear step of each row. -/
def keccakChi (b : List Nat) : List Nat :=
  (List.range 25).map fun i =>
    let row := 5 * (i / 5)
    b.getD i 0 ^^^
      ((0xFFFFFFFFFFFFFFFF ^^^ b.getD (row + (i % 5 + 1) % 5) 0) &&& b.getD (row + (i % 5 + 2) % 5) 0)

/-- One round with constant `rc`. -/
def keccakRound (a : List Nat) (rc : Nat) : List Nat :=
  match keccakChi (keccakRhoPi (keccakTheta a)) with
  | [] => []
  | h :: t => (h ^^^ rc) :: t

/-- The permutation of 24 rounds. -/
def keccakF (a : List Nat) : List Nat := keccakRc.foldl keccakRound a

/-- Mixes one block of 136 bytes into the state. -/
def keccakAbsorb (a : List Nat) (block : Bytes) : List Nat :=
  keccakF ((List.range 25).map fun i => a.getD i 0 ^^^ leField block (8 * i) 8)

/-- Mixes every whole block of `m`, at most `fuel` blocks. -/
def keccakAbsorbAll : Nat → List Nat → Bytes → List Nat
  | 0, a, _ => a
  | n + 1, a, m => keccakAbsorbAll n (keccakAbsorb a (m.take 136)) (m.drop 136)

/-- The message with its domain suffix and final bit, padded to whole blocks of 136 bytes. -/
def keccakPad (suffix : Nat) (m : Bytes) : Bytes :=
  let room := 136 - m.length % 136
  if room = 1 then m ++ [BitVec.ofNat 8 (suffix ||| 0x80)]
  else m ++ [BitVec.ofNat 8 suffix] ++ List.replicate (room - 2) 0 ++ [0x80#8]

/-- The first 32 bytes of the sponge's output. -/
def keccak32 (suffix : Nat) (m : Bytes) : Bytes :=
  let p := keccakPad suffix m
  ((keccakAbsorbAll (p.length / 136) (List.replicate 25 0) p).take 4).flatMap (leBytes 8)

/-- SHAKE256 with 256-bit output (R17). -/
def shake256 (m : Bytes) : Bytes := keccak32 0x1F m

/-- The big-endian bytes of `v`, at least one byte. -/
def beBytes (v : Nat) : Bytes :=
  if v < 256 then [BitVec.ofNat 8 v]
  else if v < 65536 then [BitVec.ofNat 8 (v / 256), BitVec.ofNat 8 v]
  else [BitVec.ofNat 8 (v / 65536), BitVec.ofNat 8 (v / 256), BitVec.ofNat 8 v]

/-- A string with its length in bits before it. -/
def encodeString (m : Bytes) : Bytes :=
  let n := beBytes (8 * m.length)
  BitVec.ofNat 8 n.length :: n ++ m

/-- Prefixes the block length 136 and pads with zeros to whole blocks. -/
def bytepad136 (m : Bytes) : Bytes :=
  let x := [1#8, 136#8] ++ m
  x ++ List.replicate ((136 - x.length % 136) % 136) 0

/-- KMAC256 with 256-bit output and customisation string `custom` (R588, R782). -/
def kmac256 (key input custom : Bytes) : Bytes :=
  keccak32 0x04 (bytepad136 (encodeString [0x4B#8, 0x4D#8, 0x41#8, 0x43#8] ++ encodeString custom) ++
    bytepad136 (encodeString key) ++ input ++ [1#8, 0#8, 2#8])

end Sys2Proof.Machine
end

