-- ==== Sys2Proof/Machine/State.lean ====
section
/-!
DEFINITION. The state of the module as plain data: one structure for each part of the manual, and `State`, which
holds them all, the queue of waiting commands, and the counter of free values. Every field's default is its value
right after reset; a value the manual does not state is marked in INVENTORY.md and in notes/assumptions.
Times are fabric-time instants in ticks (R15); cores are global core numbers (R83); links are numbered as R839.
-/

namespace Sys2Proof.Machine

/-! ### Time, stamps and the event log (chapters 6 and 18) -/

/-- What an issuer stamps when it must wait for the next TIME value (R317). -/
inductive HeldStamp where
  | write (id : Nat)
  | message (id : Nat)
  | event (lseq : Nat)
  | taskStart (slot task : Nat)
  | taskEnd (slot task : Nat)
  | stampRead (m : MRef) (dst : Nat)
  | reply (job : Nat)
  | commit (serial : Nat)
  | calib (cls : Nat)
  | strand
  | pauseStart
  | pauseStop (start first last : Option Nat)
  | relay (no : Nat)
deriving DecidableEq, Repr

/-- One stamp issuer (R316, R317). `nextSeq` is the SEQ of the next stamp in TIME value `time`. -/
structure Issuer where
  time    : Nat := 0
  nextSeq : Nat := 0
  stalls  : Nat := 0
  held    : List HeldStamp := []
deriving DecidableEq, Repr

/-- The state of IEEE 1588 slave discipline (R309): ticks of Sync arrival and Delay_Req departure, and the
follow-up time. -/
structure PtpState where
  syncAt   : Option Nat := none
  master   : Option Nat := none
  reqAt    : Option Nat := none
  inSync   : Bool := false
deriving DecidableEq, Repr

/-- Fabric time (R301 to R314) and the 32 stamp issuers. `correction` is how many ticks the counter has still to
gain (positive) or lose (negative) by R302; `offset16` is the measured offset in 1/16 tick (R313). -/
structure TimeState where
  ft          : Nat := 0
  loaded      : Bool := false
  firstStamp  : Bool := false
  source      : Nat := 0
  mode        : Nat := 0
  master      : Bool := false
  masterCoord : Option Nat := none
  ftrefOk     : Bool := false
  offset16    : Int := 0
  correction  : Int := 0
  lastCorrAt  : Option Nat := none
  repeated    : Bool := false
  offsetLogged : Bool := false
  everSourced : Bool := false
  hops        : Nat := 0
  lastTiming  : Option Nat := none
  ptp         : PtpState := {}
  issuers     : Tab Issuer := []
deriving DecidableEq, Repr

/-- One entry of the event log (R828). `stamp` is absent while the entry waits for it (R317, R816). -/
structure LogEntry where
  lseq     : Nat
  code     : Nat
  rollback : Bool
  heldBoot : Bool
  unlocked : Bool
  args     : Bytes
  stamp    : Option Nat
  ft       : Nat
  source   : Nat
  serial   : Nat
deriving DecidableEq, Repr

/-- The event log (R826, R827): at most 4,096 entries, oldest first. -/
structure EventLog where
  entries  : List LogEntry := []
  nextLseq : Nat := 1
  written  : Nat := 0
  lost     : Nat := 0
deriving DecidableEq, Repr

/-! ### Ports and sessions (chapter 12) -/

/-- A frame the module has put on an Ethernet port: the UDP payload and where it is addressed (R581). -/
structure OutFrame where
  port    : PortId
  mac     : Nat
  vlan    : Nat
  pcp     : Nat
  ip      : Nat
  udp     : Nat
  payload : Bytes
deriving DecidableEq, Repr

/-- An answer of a port below Ecden (R579, R582, R309): ARP, Neighbor Advertisement, PFC PAUSE, Delay_Req. -/
inductive PortOut where
  | arpReply (port : PortId) (destMac destIp targetIp : Nat)
  | neighborAdvert (port : PortId) (destMac destIp targetIp : Nat)
  | pause (port : PortId) (on : Bool)
  | delayReq (port : PortId)
deriving DecidableEq, Repr

/-- Why an outbound mail message stands in a slot (R609, R632). -/
inductive OutKind where
  | reply
  | event
  | push
deriving DecidableEq, Repr

/-- A sequenced frame not yet acknowledged (R604): how often it was sent, when last, whether SACK marks it. -/
structure TxFrame where
  seq     : Nat
  type    : Nat
  final   : Bool
  body    : Bytes
  tries   : Nat
  sentAt  : Nat
  sacked  : Bool
  slot    : Option OutKind
  barge   : Option (Nat × Nat)
deriving DecidableEq, Repr

/-- A received sequenced frame held until every lower SEQ is delivered (R598, R600). -/
structure RxHeld where
  seq   : Nat
  type  : Nat
  final : Bool
  body  : Bytes
  port  : PortId
  size  : Nat
deriving DecidableEq, Repr

/-- A mail message waiting for the engine to send it. -/
structure OutMsg where
  kind    : OutKind
  body    : Bytes
deriving DecidableEq, Repr

/-- The state of a session index (R623). -/
inductive SessState where
  | free
  | opened
  | closing
  | stranded
deriving DecidableEq, Repr

/-- A session index (R587 to R609, R623, R624). `rxNext` is the next SEQ expected, `dlvNext` the next to
deliver, `advAck` and `credit` the last advertisement, `inbox` the filled inbound
slots, `outbox` messages not yet sent, `unacked` frames sent and not acknowledged. -/
structure Session where
  st        : SessState := .free
  gen       : Nat := 0
  key       : Option Nat := none
  secret    : Bytes := []
  port      : PortId := .a
  mac       : Nat := 0
  vlan      : Nat := 0
  pcp       : Nat := 0
  ip        : Nat := 0
  udp       : Nat := 0
  pnonce    : Nat := 0
  mnonce    : Nat := 0
  maxPay    : Nat := 0
  rxNext    : Nat := 1
  dlvNext   : Nat := 1
  advAck    : Nat := 1
  rxHeld    : List RxHeld := []
  credit    : Nat := 0
  ackDue    : Option Nat := none
  txNext    : Nat := 1
  partnerAck : Nat := 1
  partnerCredit : Nat := 0
  unacked   : List TxFrame := []
  inbox     : List Bytes := []
  outbox    : List OutMsg := []
  mask      : Nat := 0
  cursor    : Nat := 1
  blocked   : Bool := false
  closeStatus : Option Nat := none
  strandedAt : Nat := 0
  authLogged : Option Nat := none
  noticeAt  : Option Nat := none
  level     : Nat := 0
  malformed : Nat := 0
  authFails : Nat := 0
  dups      : Nat := 0
  overCredit : Nat := 0
  retrans   : Nat := 0
  overruns  : Nat := 0
  staleBarge : Nat := 0
  pushGaps  : Nat := 0
deriving DecidableEq, Repr

/-- An Ethernet port (R579 to R582, R624, R840). -/
structure EthPort where
  up        : Bool := false
  fill      : Nat := 0
  pausing   : Bool := false
  pausedPrio : Option Nat := none
  pauseUntil : Nat := 0
  txHeld    : List OutFrame := []
  discards  : Nat := 0
  fullDrops : Nat := 0
  pauseSent : Nat := 0
  pauseRecv : Nat := 0
deriving DecidableEq, Repr

/-- A barge (R611 to R621). `ranges` are the byte ranges written so far with the pound each lies in: (offset,
length, serial of the pound, or the open pound while uncommitted). -/
structure Barge where
  session   : Nat
  handle    : Nat
  outbound  : Bool
  current   : Bool
  start     : Nat
  length    : Nat
  serial    : Nat
  openedNo  : Nat
  written   : List (Nat × Nat × Nat) := []
  committed : Nat := 0
  sent      : Nat := 0
  acked     : Nat := 0
  lastSerial : Nat := 0
  rewinding : Bool := false
  ended     : Option Nat := none
deriving DecidableEq, Repr

/-- Ports, sessions and barges. `openReplies` remembers the answered OPENs of R593 and `closeSent` the last
unsequenced CLOSE to each source address (R599). -/
structure NetState where
  ports     : Tab EthPort := []
  sessions  : Tab Session := []
  barges    : Tab Barge := []
  bargeNo   : Nat := 0
  opens     : Nat := 0
  openSeen  : List (Nat × Nat × Nat × Nat × Bytes) := []
  closeSent : Tab Nat := []
  lastVisit : Nat := 4095
  lastMail  : Nat := 4095
  wire      : List OutFrame := []
  portOut   : List PortOut := []
deriving DecidableEq, Repr

/-! ### Memory (chapters 7 and 10) -/

/-- A buffer (R504 to R508), or a remote buffer (R546 to R549): `remote` is (coordinate, handle, base address
there, passage). `marks` counts the remote modules that hold it busy (R547). -/
structure Buffer where
  gen    : Nat
  page   : Nat
  pages  : Nat
  size   : Nat
  marks  : Nat := 0
  remote : Option (Nat × Nat × Nat × Nat) := none
deriving DecidableEq, Repr

/-- A stamp entry (R363). -/
structure StampEntry where
  valid : Bool := false
  full  : Bool := false
  stamp : Nat := 0
deriving DecidableEq, Repr

/-- A shadow (R348 to R350, R510, R511): the whole content of `page` in pound `tag` as cells by offset in the page,
its stamp entries by line, its poisoned lines, the memory berths whose share is not yet folded, whether it is
discarded (R370), and whether its copy has ended (R349). It stands in a storage frame, and its entries in a stamp slot (R496, R497);
`marked` are the lines whose bad parity its copy carried (R525). -/
structure Shadow where
  page      : Nat
  tag       : Nat
  frame     : Nat := 0
  slot      : Nat := 0
  marked    : List Nat := []
  cells     : Tab Byte := []
  entries   : Tab StampEntry := []
  poison    : List Nat := []
  unfolded  : List Nat := [0, 1, 2, 3, 4, 5, 6, 7]
  discarded : Bool := false
  ready     : Bool := true
deriving DecidableEq, Repr

/-- Who keeps a pinned version (R384, R652). -/
inductive PinOwner where
  | barge (n : Nat)
  | graph (slot : Nat)
deriving DecidableEq, Repr

/-- A pinned version of a page: its content as of serial `serial` (R384, R385). -/
structure Pin where
  page   : Nat
  serial : Nat
  cells  : Tab Byte
  poison : List Nat
  owners : List PinOwner
  frame  : Option Nat := none
deriving DecidableEq, Repr

/-- A pre-image of a page kept for a carried task (R373). -/
structure PreImage where
  slot  : Nat
  task  : Nat
  page  : Nat
  cells : Tab Byte
  poison : List Nat
  frame : Nat := 0
deriving DecidableEq, Repr

/-- Where a write to device memory came from (R316, R366, R391). -/
inductive WriteFrom where
  | xfer (m : MRef) (token : Nat)
  | barge (n : Nat)
  | mail (job : Nat)
  | task (slot task : Nat)
  | basin (berth : Nat)
  | torus (sender n attempt stamp : Nat)
  | released (k : Nat)
  | other
deriving DecidableEq, Repr

/-- Where a write stands on its way into a line (R349, R354, R361, R362): before its credit grant, between its stamp and its memory
berth, in the reorder stage, waiting for a copy, waiting on the pool. -/
inductive WriteStage where
  | berth
  | flight
  | held
  | copying
  | pool
deriving DecidableEq, Repr

/-- One write (R361, R410): its first byte, the bytes from there on, the offsets among them that it does not write and those whose parity bit arrives wrong (R492), the issuing
berth, the stamp once issued, and the packets of it that have not yet reached a basin of the memory berth. Its part in each
64-byte line is one write of R364. -/
structure WriteReq where
  addr  : Nat
  data  : Bytes
  gaps  : List Nat := []
  bad   : List Nat := []
  berth : Nat
  unit  : Nat := 0
  stamp : Option Nat
  orig  : WriteFrom
  stage : WriteStage := .berth
  parts : Nat := 0
deriving DecidableEq, Repr

/-- Who asks for a read (R383, R367, R552): a transfer, an op that reads a remote buffer (0, or 1 above the number of a COLL), or a core of
another module. -/
inductive ReadFor where
  | xfer (m : MRef) (token : Nat)
  | op (m : MRef) (n : Nat)
  | torus (src tag : Nat)
  | other
deriving DecidableEq, Repr

/-- A READ_REQ (R409, R500, R553). `core` is the core whose lighter asked, `here` says that the request stands at its memory berth,
`poisoned` that its data comes from a poisoned line (R523), `landed` that the data has reached the core. -/
structure ReadReq where
  addr   : Nat
  len    : Nat
  berth  : Nat
  dest   : ReadFor
  core   : Nat := 0
  sentAt : Nat := 0
  tries  : Nat := 0
  here   : Bool := false
  data   : Option Bytes := none
  poisoned : Bool := false
  landed : Bool := false
deriving DecidableEq, Repr

/-- A page's entry in a berth's page table (R509): the frame of the folded committed version, the shadows by tag, each with its frame and
stamp slot, the pins by serial and the pre-images by graph slot and task, each with its frame. -/
structure PageEntry where
  frame     : Option Nat := none
  shadows   : List (Nat × Nat × Nat) := []
  pins      : List (Nat × Option Nat) := []
  preImages : List (Nat × Nat × Nat) := []
deriving DecidableEq, Repr

/-- What a storage address holds a byte of (R496, R500, R521). -/
inductive Held where
  | shadow (page tag : Nat)
  | slot (page tag : Nat)
  | committed (page : Nat)
  | pinned (page serial : Nat)
  | preImage (slot task page : Nat)
deriving DecidableEq, Repr

/-- A memory berth's own registers and counters (R396, R526, R527). `issued` and `done` count, by pound serial, the
writes sent to the berth and those applied or discarded there (R357); `tableA` and `tableB` are the two copies of its page table (R509,
R512); `values` are the training values in force by sub-channel, `trackedIn` the housekeeping round of its last tracking step (R516 to
R519), `allBank` the instant of the last all-bank refresh (R494). -/
structure MemBerth where
  stale    : Nat := 0
  late     : Nat := 0
  poolWait : Nat := 0
  retries  : Nat := 0
  errors   : Nat := 0
  poisoned : Nat := 0
  retired  : Nat := 0
  repairs  : Nat := 0
  retrains : Nat := 0
  rfm      : Nat := 0
  issued   : Tab Nat := []
  done     : Tab Nat := []
  refreshed : Tab Nat := []
  allBank  : Option Nat := none
  tracked  : Nat := 0
  trackedIn : Tab Nat := []
  values   : Tab Nat := []
  patrolled : Nat := 0
  tableA   : Tab PageEntry := []
  tableB   : Tab PageEntry := []
  selfRefresh : Bool := false
deriving DecidableEq, Repr

/-- Device memory: folded committed versions by module address (a byte no version lists reads 0, R507), shadows,
pins, pre-images, poison, and the writes and reads under way. `frames` are the storage frames of the folded versions by page, `retired`
the frames out of service, `retiring` those to be retired when they are released, with the berth that found the error; `wrong` are the
storage addresses of the bytes whose stored data and parity bit do not make nine odd bits (R491, R496, R497, R521, R525). -/
structure MemState where
  fraction  : Nat := 2
  buffers   : Tab Buffer := []
  gens      : Tab Nat := []
  freeing   : List (Nat × Nat) := []
  base      : Tab Byte := []
  shadows   : List Shadow := []
  pins      : List Pin := []
  preImages : List PreImage := []
  poison    : List Nat := []
  wrong     : List Nat := []
  frames    : Tab Nat := []
  retired   : List Nat := []
  retiring  : Tab Nat := []
  writes    : Tab WriteReq := []
  writeNo   : Nat := 1
  reads     : Tab ReadReq := []
  readNo    : Nat := 1
  berths    : Tab MemBerth := []
deriving DecidableEq, Repr

/-! ### Pounds (chapter 7) -/

/-- Why a pound closes (R355). -/
inductive Trigger where
  | deadline
  | pool
  | graphEnd
  | host
  | power
  | debug
  | named
deriving DecidableEq, Repr

/-- A close in progress (R357): the pound closing, its cut, and how far it has come. `commitAs` is the serial a
join commits (R561). -/
structure Closing where
  serial   : Nat
  cut      : Nat
  drained  : Bool := false
  verdict  : Bool := false
  commitAs : Option Nat := none
deriving DecidableEq, Repr

/-- One detected fault of a recovery (R368, R370, R381). -/
structure FaultRec where
  code : Nat
  ftAt : Nat
  sent : Bool := false
deriving DecidableEq, Repr

/-- A recovery in progress (R369, R370, R381): the pound to replay, its faults, whether the stop and discard have
been done, whether the shadows are back, and the earliest opening of the replay. -/
structure Recovery where
  serial   : Nat
  faults   : List FaultRec
  stopped  : Bool := false
  returned : Bool := false
  count    : Nat := 0
  notBefore : Nat := 0
deriving DecidableEq, Repr

/-- The pound machine (R346 to R360, R368 to R382). `cutSerial` is the serial a join names for the commit of the cut named
(R561); `poolHigh` says that the pool has reached 7/8 and the close waits for a task's start or end, `poolLatch` that this
crossing has been acted on (R355); `nextJoin` is the cut and the serial of a join that waits for its pound; `attempts` counts the rollbacks of each serial not yet
committed (R536); `cuts` are the cuts of the serials committed in the last 2^20 ticks (R393). -/
structure PoundState where
  opened    : Bool := false
  committed : Nat := 0
  kstamp    : Nat := 0
  lastCut   : Nat := 0
  lastK     : Nat := 0
  length    : Nat := 262144
  deadline  : Nat := 0
  cutAt     : Option Nat := none
  cutCause  : Option Trigger := none
  cutSerial : Option Nat := none
  nextCut   : Option (Nat × Trigger) := none
  nextJoin  : Option (Nat × Nat) := none
  closing   : Option Closing := none
  fails     : Nat := 0
  replay    : Bool := false
  taskSet   : List (Nat × Nat) := []
  closingSet : List (Nat × Nat) := []
  recovery  : Option Recovery := none
  poolHigh  : Bool := false
  poolLatch : Bool := false
  discardBefore : Nat := 0
  attempts  : Tab Nat := []
  cuts      : Tab Nat := []
deriving DecidableEq, Repr

/-! ### Kernels, graphs, tasks and members (chapters 4 and 5) -/

/-- A tensor view (R136 to R143). `strides` are signed element counts; `base` and `scaleOff` are byte addresses in
the space: local scratch offsets, or module addresses for space 2. -/
structure View where
  space    : Nat := 0
  fmt      : Nat := 0
  rank     : Nat := 1
  base     : Nat := 0
  scaleOff : Nat := 0
  ext      : List Nat := [0, 0, 0, 0]
  strides  : List Int := [0, 0, 0, 0]
  readOnly : Bool := false
  handle   : Nat := 0
deriving DecidableEq, Repr

/-- A loaded kernel (R128, R649): its image, held in the firmware region, and its handle's generation. -/
structure Kernel where
  gen      : Nat
  id       : Nat
  opWords  : List Nat
  views    : List View
deriving DecidableEq, Repr

/-- A tile slot or accumulator (R134, R135): element type and the 32 × 32 elements by row-major index; an unlisted
element is 0 (+0). -/
structure Tile where
  isInt : Bool := false
  elems : Tab (BitVec 32) := []
deriving DecidableEq, Repr

/-- An open control structure of a member (R150 to R156): where its body starts, where its closer stands. -/
inductive Ctl where
  | loop (body close : Nat) (slot : Nat) (i count : Nat)
  | tile (body close : Nat) (slot : Nat) (i rows cols : Nat) (colMajor : Bool)
  | cond (close : Nat)
deriving DecidableEq, Repr

/-- What an outstanding asynchronous op does (R169, R200, R202, R207). -/
inductive AsyncOp where
  | xfer (dst src : View)
  | send (src : View) (msg : Nat)
  | recv (dst : View) (srcSlot srcTask srcRank tag : Nat) (order : Nat)
  | coll (kind : Nat) (primary second : View) (type root place : Nat)
deriving DecidableEq, Repr

/-- An outstanding op on a token, in issue order (R91, R172). Of a COLL, `begun` says that every member has issued it, `piece` is the
round of its sum that is under way (R123, R439), and `left` counts the packets of other members' data still on their way to this one. -/
structure Outstanding where
  token : Nat
  order : Nat
  op    : AsyncOp
  landed : Bool := false
  begun : Bool := false
  piece : Nat := 0
  left  : Nat := 0
deriving DecidableEq, Repr

/-- What a member waits for (R172, R173, R215, R216). -/
inductive Waiting where
  | token (t : Nat)
  | barrier (id place : Nat)
  | ending
  | stamp
  | read
deriving DecidableEq, Repr

/-- A member of a gang on its core (R132). Index slots read 0 where unlisted. `waitFrom` is the instant from which it waits, or at which it
ended; `outWas` and `waitWas` are what it held when its gang stopped (R219, R220). -/
structure Member where
  core     : Nat
  pc       : Nat := 0
  ix       : Tab (BitVec 64) := []
  views    : Tab View := []
  tiles    : Tab Tile := []
  ctl      : List Ctl := []
  out      : List Outstanding := []
  order    : Nat := 0
  stoch    : Nat := 0
  aflags   : Nat := 0
  place    : Nat := 0
  seq      : List (Nat × Nat × Nat × Nat × List Nat) := []
  waiting  : Option Waiting := none
  waitFrom : Nat := 0
  stopped  : Bool := false
  ended    : Bool := false
  gen      : Nat := 0
  outWas   : List Outstanding := []
  waitWas  : Option Waiting := none
deriving DecidableEq, Repr

/-- Where a task stands (R261 to R273). -/
inductive TaskPhase where
  | image
  | admitted
  | running
  | stopping
  | ended
deriving DecidableEq, Repr

/-- A task record of a graph image (R240 to R242). -/
structure TaskRec where
  kernel   : Nat
  gang     : Nat
  affinity : Option Nat
  flags    : Nat
  priority : Nat
  ins      : List Nat
  outs     : List Nat
  param    : Nat
  cogroup  : Nat
  tag      : Nat
  runLimit : Nat
deriving DecidableEq, Repr

/-- A page as it stood when a task was first released (R373): its cells, its poisoned lines, and those that hold bad parity. -/
structure PageBefore where
  cells  : Tab Byte := []
  poison : List Nat := []
  marked : List Nat := []
deriving DecidableEq, Repr

/-- A task of a resident graph. `attempt` is the pound serial of its attempt (R286), `firstReady` the instant from which its age counts when a
rollback releases it again (R293), `stopBy` the rank that met an ending status and the instant (R220). -/
structure Task where
  info : TaskRec
  phase     : TaskPhase := .image
  stack     : Nat := 0
  readyAt   : Option Nat := none
  startAt   : Option Nat := none
  status    : Nat := 0
  endStamp  : Option Nat := none
  endSerial : Nat := 0
  home      : Option Nat := none
  attempt   : Nat := 0
  firstReady : Option Nat := none
  stopBy    : Option (Nat × Nat) := none
  aflags    : Nat := 0
  replays   : Nat := 0
  members   : Tab Member := []
  param     : Bytes := []
  before    : Tab PageBefore := []
  groups    : List Nat := []
  final     : Bool := false
  recorded  : Bool := false
  starving  : Bool := false
deriving DecidableEq, Repr

/-- A resident graph (R231 to R253, R295 to R298). `views` are its buffer table entries in space 2 (R239), with the
handle each names; `named` the kernel handles and KERNEL_IDs of its kernel table (R236); `killed` says that it was ended at once (R688). -/
structure Graph where
  session   : Option Nat
  sessionHandle : Nat
  order     : Nat
  tag       : Nat
  image     : Nat
  kernels   : List Nat
  named     : List (Nat × Nat) := []
  views     : List View
  tasks     : Tab Task
  edges     : List (Nat × Nat)
  resultHandle : Nat
  resultOffset : Nat
  admitNext : Nat := 0
  cancelled : Bool := false
  faulted   : Option Nat := none
  ended     : Bool := false
  killed    : Bool := false
  endPound  : Option Nat := none
  imageAt   : Nat := 0
  imageLen  : Nat := 0
deriving DecidableEq, Repr

/-- Where a message between members stands: on its way, at the core it was sent to, waiting there for a RECV, or returned to the
scheduler (R202, R287, R288). -/
inductive MsgStage where
  | flight
  | here
  | waiting
  | returned
deriving DecidableEq, Repr

/-- A message between members (R200, R286): its attempt is (pound serial of the attempt, replay count), `graph` the graph's number, `core`
the core it was sent to, `parts` the packets of it that have not yet reached that core. -/
structure Msg where
  src     : MRef
  dst     : MRef
  gen     : Nat
  serial  : Nat
  fails   : Nat
  graph   : Nat := 0
  core    : Nat := 0
  tag     : Nat
  token   : Nat
  order   : Nat
  stamp   : Option Nat
  body    : Bytes
  parts   : Nat := 0
  stage   : MsgStage := .flight
deriving DecidableEq, Repr

/-- Work that follows a message step (R629): what it is, who asked, and with which CODE and CORR. -/
inductive JobKind where
  | lowering (kernel : Kernel) (units : Nat)
  | graphCheck (g : Graph) (status : Nat) (handle : Nat)
  | poundClose
  | rbuf (coord handle size passage : Nat) (buf : Nat)
  | passage (id : Nat)
  | flash
  | atCommit (serial : Nat) (pre : Bytes) (addr : Nat) (data : Bytes)
  | attestWrite (nonce : Bytes) (handle offset : Nat)
  | power
  | halt
  | lifecycle
  | stamped (pre post : Bytes)
deriving DecidableEq, Repr

/-- A job: its kind, the reply's destination, and when it began. -/
structure Job where
  kind  : JobKind
  src   : MailSrc
  handle : Nat
  code  : Nat
  corr  : Nat
  since : Nat
deriving DecidableEq, Repr

/-- Kernels, graphs, messages and jobs. `roleGens` are the generations of the roles, by slot, task and rank (R285). -/
structure WorkState where
  kernels   : Tab Kernel := []
  kgens     : Tab Nat := []
  graphs    : Tab Graph := []
  graphNo   : Nat := 0
  msgs      : Tab Msg := []
  msgNo     : Nat := 1
  jobs      : Tab Job := []
  jobNo     : Nat := 1
  relower   : Tab Nat := []
  discarded : Nat := 0
  roleGens  : Tab Nat := []
  admitTurn : Nat := 63
deriving DecidableEq, Repr

/-! ### Cores, scratch, on-die network (chapter 3) -/

/-- A core, its scratch port and its vertical lanes (R104 to R111, R287, R717 to R722, R726, R752). `operandA` and
`operandB` are the matrix engine's two tile buffers for each operand (R88); `testWords` are words with bytes that erred, whose lanes are still to be
tested (R721). -/
structure Core where
  fence     : Nat := 0
  routerBad : Bool := false
  logicAt   : Option Nat := none
  heldLane  : Bool := false
  toSpare   : List (Nat × Nat) := []
  repairs   : Tab (List Nat) := []
  voted     : List Nat := []
  votedBump : Tab Nat := []
  deferred  : Option (Nat × Tab Byte) := none
  run       : Nat := 0
  starve    : Nat := 0
  lastRead  : Tab Byte := []
  lighterRead : Tab Byte := []
  operandA  : Tab (List Nat) := []
  operandB  : Tab (List Nat) := []
  outbox    : List NetPacket := []
  staleRole : Nat := 0
  wordErrs  : Tab Nat := []
  testWords : Tab (List Nat) := []
deriving DecidableEq, Repr

/-- A flit in an on-die router: its packet and its place in it. -/
structure Flit where
  pkt  : NetPacket
  idx  : Nat
  leg2 : Bool := false
deriving DecidableEq, Repr

/-- A router (R113 to R123, R729 to R732, R841). Input queues are keyed 10 × input + 5 × second leg + channel, with
inputs 0 west, 1 east, 2 north, 3 south, 4 core; `rr` holds the round-robin turn of each output; `worm` the input queue whose
packet an output is in the middle of, keyed 10 × output + 5 × second leg + channel. -/
structure Router where
  queues   : Tab (List Flit) := []
  rr       : Tab Nat := []
  ejected  : List Flit := []
  towpathAt : Option Nat := none
  cycle    : Nat := 0
  table    : Tab NetPacket := []
  complete : List Nat := []
  overrun  : List NetPacket := []
  parityAt : Option Nat := none
  forwarded : Tab Nat := []
  packets  : Tab Nat := []
  stalls   : Tab Nat := []
  highWater : Tab Nat := []
  worm     : Tab Nat := []
deriving DecidableEq, Repr

/-- A lock chamber (R341 to R344), numbered 4 × sending router + direction: entries (entry sequence, flit), the next
sequences to write and to expect, and the stamps of the packets being read, by packet. -/
structure Chamber where
  entries : List (Nat × Flit) := []
  wseq    : Nat := 0
  rseq    : Nat := 0
  stamps  : Tab Nat := []
deriving DecidableEq, Repr

/-- How far a frequency step change has come (R332, R333). -/
inductive ChangePhase where
  | scheduled
  | volts
  | settling
  | wait
  | glide
  | lowerVolts
deriving DecidableEq, Repr

/-- A step change of a stack (R331 to R333, R677), `slow` the ticks by which the governor has slowed its glide (R485). -/
structure StepChange where
  target : Nat
  start : Nat
  phase  : ChangePhase := .scheduled
  since  : Nat := 0
  slow   : Nat := 0
deriving DecidableEq, Repr

/-- A reach's margin and stretching (R335 to R337), its gating, and the matrix and vector issues that the governor leaves it in the slot
(R481; none is no cap). -/
structure Reach where
  level     : Nat := 7
  below     : Bool := false
  sinceStretch : Nat := 0
  stretches : Nat := 0
  lastRound : Nat := 0
  enable    : Nat := 0
  left      : Option Nat := none
deriving DecidableEq, Repr

/-- A compute stack, `ftCopy` its copy of fabric time, `ftChecked` when that was last checked, `slotAt` the governor's last slot, `acts` the activity counts of the slot (R305, R480, R329 to R340, R479 to R485, R700 to R701, R711, R714, R724, R753). -/
structure Stack where
  powered   : Bool := false
  clocked   : Bool := false
  pllOk     : Bool := true
  reaches   : Tab Reach := []
  step      : Nat := 0
  thermLimit : Nat := 0
  marginLimit : Nat := 0
  quiet     : Nat := 0
  coolRounds : Nat := 0
  change    : Option StepChange := none
  estimate  : Nat := 0
  riseSlots : Nat := 0
  ballastSlots : Nat := 0
  ballastEnergy : Nat := 0
  busyGroups : List Nat := []
  spareGroups : Nat := 4
  failedGroups : List Nat := []
  lostPorts : List Nat := []
  portOf    : Tab Nat := []
  lastRelease : Option Nat := none
  laneSpares : Nat := 0
  laneTests : Nat := 0
  fences    : Nat := 0
  voted     : List Nat := []
  routes    : Tab Nat := []
  ps3Off    : Bool := false
  ftCopy    : Nat := 0
  ftChecked : Nat := 0
  slotAt    : Option Nat := none
  acts      : Tab Nat := []
deriving DecidableEq, Repr

/-- The compute stacks, their cores and their networks. Scratch cells are keyed core × 2^21 + local offset
(R95, R786); an unlisted cell reads 0. `badBytes` are the cells whose parity bit does not fit their byte (R99). `packetNo` numbers the
lighters' packets. -/
structure StackState where
  dies   : Tab Stack := []
  cores    : Tab Core := []
  scratch  : Tab Byte := []
  badBytes : List Nat := []
  routers  : Tab Router := []
  chambers : Tab Chamber := []
  packetNo : Nat := 0
deriving DecidableEq, Repr

/-! ### Photonic base (chapter 8) -/

/-- A circuit on a link (R429): the passage it serves, as 65,536 × the index of its source module + its number there (R554), its share in
1/16, and the link at its other end. -/
structure Circuit where
  passage : Nat
  share   : Nat
  peer    : Nat
deriving DecidableEq, Repr

/-- A circuit that firmware sets again after a base logic reset (R444): its transmit link, the port that it pins and where that leads. -/
structure KeptCircuit where
  link  : Nat
  port  : Nat
  dest  : Nat
  circ  : Circuit
deriving DecidableEq, Repr

/-- How a transmit link uses the lanes to a receive link (R457): the lane whose bits stand on WR too, the lane it runs without, and the
frames left before a change that it has announced (R458). -/
structure LaneUse where
  mirror  : Option Nat := none
  missing : Option Nat := none
  announced : Nat := 0
deriving DecidableEq, Repr

/-- The rest of a packet whose first bytes a transmit link has sent (R409): the passage whose circuit carries it or 0, whether it is of VC1
to VC3, and its bytes. -/
structure TxPart where
  passage : Nat
  others  : Bool
  bytes   : Bytes
deriving DecidableEq, Repr

/-- A transmit or receive link of a berth, or a fibre link of a torus port (R398 to R449). `ports` are the fast
ports' destination berths by port. Of a transmit link: `queue` are the packets that hold credit, `txPart` the rest of the packet begun for
each receive link, `replay` the frames sent with their FSEQ and content, `nak` the frames NAKed by each receive link, `resend` those from
which it sends again, `frames` its place in the cycle of R429, `vcTurn` and `vcGap` the turn among VC1 to VC3 and the frames until VC0 may go again (R411), `trainLeft` the TRAIN frames a
retarget still sends (R420), `dealt` the working lane that takes the next lane share (R412), `prbs` the state of WR's idle sequence
(R402). Of a receive link: `rxPart` are the bytes of the packet under way from each sender, `nak` the frames it has NAKed, `badRun` the
transmissions of the frame due that have failed, each by sender, `prbs` the last 31 bits of WR, `wrErrs` the bits found
wrong there. `relief` are the lanes that a link's own flag, or request, relieves, each with the instant at which it was named, `leaving`
those given back, with the instant at which their mirror stops (R457, R474); `lanes` is how a transmit link uses the lanes to each receive
link (R457, R458, R467). `credits` is a transmit link's allotment, keyed 4 × receive link + channel (on a fibre 4 × class + channel), and `used` what
its packets hold of it. FSEQs are kept by the link at the other end, and so are the frames of `replay`. `ackDue` and `creditsDue` are what a fibre link's control words have still to carry for the paired link (R408),
`sentUnits` the class and units of the packets sent on each channel whose credits have not come back, oldest first (R542), and `farHigh` the
channels that the far receive link's upper weir holds back (R435, R543). -/
structure Link where
  state    : Nat := 0
  relief   : Tab Nat := []
  leaving  : Tab Nat := []
  lanes    : Tab LaneUse := []
  ports    : Tab Nat := []
  active   : Nat := 0
  retargetAt : Option Nat := none
  trainLeft : Nat := 0
  circuits : List Circuit := []
  paused   : Bool := false
  txSeq    : Tab Nat := []
  rxSeq    : Tab Nat := []
  queue    : List TxPacket := []
  txPart   : Tab TxPart := []
  rxPart   : Tab Bytes := []
  frames   : Nat := 0
  vcTurn   : Nat := 3
  vcGap    : Nat := 0
  dealt    : Nat := 0
  prbs     : Nat := 0x7FFFFFFF
  wrErrs   : Nat := 0
  replay   : List (Nat × Nat × Bytes) := []
  resend   : Tab Nat := []
  ackDue   : Nat := 0
  creditsDue : Tab Nat := []
  sentUnits : Tab (List (Nat × Nat)) := []
  farHigh  : List Nat := []
  nak      : Tab Nat := []
  badRun   : Tab Nat := []
  suspectRun : Tab Nat := []
  granted  : Option Nat := none
  grantFrames : Nat := 0
  grantCap : Nat := 64
  occupancy : Tab Nat := []
  credits  : Tab Nat := []
  used     : Tab Nat := []
  weirHigh : List Nat := []
  unset    : Tab Nat := []
  corrected : Nat := 0
  symbols  : Nat := 0
  uncorrectable : Nat := 0
  replays  : Nat := 0
  unrecovered : Nat := 0
  retargets : Nat := 0
  grantWaits : Nat := 0
  crossings : Nat := 0
  parityErrs : Nat := 0
  fifteen  : Nat := 0
deriving DecidableEq, Repr

/-- A change a lock window makes (R422). -/
inductive WindowAct where
  | ports (link : Nat) (dests : Tab Nat)
  | retry (link port dest : Nat)
  | setCircuit (link port : Nat) (share passage : Nat)
  | releaseCircuit (link : Nat) (share passage : Nat)
  | relock (ring : RingRef)
  | retrain (link : Nat)
  | laneSpare (core group : Nat)
  | groupSpare (stack group : Nat)
  | calib (item : Nat)
deriving DecidableEq, Repr

/-- A lock window (R422 to R428): its start, the links it names, what it does, and the flight it belongs to. -/
structure Window where
  start : Nat
  links  : List Nat
  acts   : List WindowAct
  flight : Option Nat := none
  started : Bool := false
  late   : Bool := false
deriving DecidableEq, Repr

/-- A packet that waits in a berth for a transmit link (R398, R400), and the base port it entered from, in a stack berth. -/
structure BerthWait where
  port : Option Nat
  tx   : TxPacket
deriving DecidableEq, Repr

/-- An accumulation entry of a basin (R437 to R440): its home link, and the receive and transmit link by which the packet that opened it
came, where it crossed a link. -/
structure BasinEntry where
  link    : Nat
  sender  : Option (Nat × Nat) := none
  units   : Nat
  unit    : Nat
  srcBerth : Nat
  sum     : List Nat
  rtype   : Nat
  flush   : Bool
  carried : Nat
  expects : Nat
  done    : Bool := false
deriving DecidableEq, Repr

/-- A base logic reset in progress (R444). -/
structure BaseReset where
  start : Nat
  released : Bool := false
deriving DecidableEq, Repr

/-- The photonic base: links, lock windows, basins, the base epoch (R407, R444). Basin entries are keyed by
(berth, group, address) as one list. `waiting` are the packets in each berth that hold no credit yet; `queues` the packets in each
receive link's basin, keyed 4 × link + channel, with the transmit link each came from, or `ownPort`; `finished` are the entries
(berth, group, address, sending stack) that have completed since their group was given out or taken for a new sum (R440). -/
structure BaseState where
  links   : Tab Link := []
  epoch   : Nat := 0
  windows : List Window := []
  basins  : List ((Nat × Nat × Nat) × BasinEntry) := []
  returned : List (Nat × Nat × Nat) := []
  finished : List (Nat × Nat × Nat × Nat) := []
  reset   : Option BaseReset := none
  resetWanted : Option Nat := none
  silent  : Tab Nat := []
  kept    : List KeptCircuit := []
  waiting : Tab (List BerthWait) := []
  queues  : Tab (List (BasePacket × Nat)) := []
  queueHigh : Tab Nat := []
deriving DecidableEq, Repr

/-! ### Lasers and rings (chapter 9) -/

/-- A laser or fibre source line (R450 to R456, R486). `serves` is 31 for a spare out of service and 0 at reset. `fade` is in units of 0.05 dB, `power` and `drive` as R486
and R477 give. `level` is the fade level of a spare in service, whose STATE stays SPARE_ACTIVE (R455). -/
structure Laser where
  state    : Nat := 0
  serves   : Nat := 0
  fade     : Int := 0
  lit      : Bool := false
  drive    : Nat := 0
  advisories : Nat := 0
  quiet    : Nat := 0
  rejects  : Nat := 0
  calPower : Int := 2000
  calCurrent : Option Int := none
  level     : Nat := 0
deriving DecidableEq, Repr

/-- How far a handover has come (R460). -/
inductive HandPhase where
  | waiting
  | mirrored
  | drained
  | tuned
  | verified
  | switched
  | checked
deriving DecidableEq, Repr

/-- A handover of a lane to a spare (R460): the lane, the spare, when the phase began, and since when the spare is tuned. -/
structure Handover where
  lane  : Nat
  spare : Nat
  phase : HandPhase
  since : Nat
  tunedAt : Option Nat := none
deriving DecidableEq, Repr

/-- A bank's, or a torus berth's, relief map and handovers (R457, R460 to R469, R487, R571). -/
structure LightGroup where
  relieved : Option Nat := none
  relievedAt : Nat := 0
  dropped  : Option Nat := none
  droppedAt : Nat := 0
  permanent : Bool := false
  handover : Option Handover := none
  queue    : List Nat := []
  down     : Bool := false
  handovers : Nat := 0
  fails    : Nat := 0
  rejects  : Nat := 0
deriving DecidableEq, Repr

/-- Calibration of one class (R477, R839): runs, rejects, stamp of the last. -/
structure CalibClass where
  count   : Nat := 0
  rejects : Nat := 0
  last    : Nat := 0
deriving DecidableEq, Repr

/-- Lasers, relief, rings and calibration. Bank lasers are keyed 21q + j; fibre lines 84 + 34(b − 24) + 17c + j;
groups q for banks and 4 + (b − 24) for torus berths. `suspects` are lanes as (link, lane), `faded` those of them whose cause a round
has found to be a laser, `calDue` the lasers whose drive calibration has moved to the next housekeeping slack (R455), `wrong` the wrongly locked rings, `swept` those that a window has swept since (R474 to R476). -/
structure LightState where
  lasers   : Tab Laser := []
  groups   : Tab LightGroup := []
  wrong    : List RingRef := []
  suspects : List (Nat × Nat) := []
  faded    : List (Nat × Nat) := []
  swept    : List RingRef := []
  wrongLocks : Tab Nat := []
  suspectCount : Tab Nat := []
  calib    : Tab CalibClass := []
  ringRejects : Tab Nat := []
  ringValue : Tab Int := []
  ringCoef : Tab Int := []
  calDue   : List Nat := []
  rxOffset : Tab Int := []
deriving DecidableEq, Repr

/-! ### Torus (chapter 11) -/

/-- A torus port (R572, R575, R576). Counters are keyed 10 × virtual channel + position; `far` holds what each link's last training has
shown of its far end: partition, coordinate and direction (R532). -/
structure TorusPort where
  far      : Tab (Nat × Nat × Nat) := []
  farPort  : Nat := 7
  farCoord : Nat := 0
  counters : Tab Nat := []
deriving DecidableEq, Repr

/-- A write held for its sender's notice (R389 to R393). -/
structure HeldWrite where
  berth   : Nat
  sender  : Nat
  n       : Nat
  attempt : Nat
  stamp   : Nat
  addr    : Nat
  data    : Bytes
  since : Nat
deriving DecidableEq, Repr

/-- Writes this module has sent to another in a pound (R550, R551). -/
structure SentWrites where
  dest  : Nat
  n     : Nat
  count : Nat
  acked : Nat := 0
deriving DecidableEq, Repr

/-- A reserved passage (R554 to R558): opened once every module has confirmed, carrying from the next cut on, with the
pounds left of a fixed number. -/
structure Passage where
  dest   : Nat
  link   : Nat
  share  : Nat
  pounds : Nat
  route  : Nat
  opened : Bool := false
  carries : Bool := false
  left   : Nat := 0
  closing : Bool := false
deriving DecidableEq, Repr

/-- A notice that waits for its acknowledgement (R565). -/
inductive SentNotice where
  | close (issued : Nat)
  | join (j : Nat)
  | commit (dest n attempt : Nat)
  | rollback (dest n attempt : Nat)
deriving DecidableEq, Repr

/-- An unacknowledged notice: when last sent and how often. -/
structure NoticeOut where
  what  : SentNotice
  sentAt : Nat
  tries : Nat := 1
deriving DecidableEq, Repr

/-- A CONTROL packet that stands at the wharf: the port it came by, its sender, and the number of the notice (R564, R565). -/
structure ControlIn where
  port : Nat
  src  : Nat
  no   : Nat
deriving DecidableEq, Repr

/-- What the module has put on the torus (observation of R532, R540, R548, R556, R561, R564, R565, R568). `notice` and `sent` say what the
CONTROL packet of that number carries. -/
inductive TorusOut where
  | frame (link : Nat) (lanes : List (Nat × Nat)) (wr : Nat) (weir : List Nat)
  | train (link partition coord dir : Nat)
  | notice (dir no id : Nat) (n : Notice)
  | sent (no : Nat) (n : SentNotice)
  | timing (port link : Nat) (master : Option Nat) (ft hops : Nat)
  | joinAnswer (coord c serial : Nat)
  | passageConfirm (passage : Nat)
  | answer (coord : Nat) (ok : Bool) (base : Nat)
  | ask (coord handle size : Nat)
  | release (coord handle : Nat)
  | flightAsk (id : Nat) (windows : List (List FlightAct))
deriving DecidableEq, Repr

/-- The torus: the partition in force (R529), in-step state (R559), ports, held writes, passages, notices. `behindAt` is the instant at
which the partition commits a pound that this member has rolled back (R559, R561), `namedCut` the cut this time-master has named last
(R388); `control` are the CONTROL packets that the wharf has received and not yet taken, and `relays` the packets that wait at a torus berth
for its stamp (R319). `left`: the module has left its partition, and has not yet asked to join again (R562, R687). -/
structure TorusState where
  partition : Nat := 0
  dims     : List Nat := [1, 1, 1]
  coord    : Nat := 0
  eligible : Bool := false
  inStep   : Bool := false
  behindAt : Option Nat := none
  namedCut : Option Nat := none
  joining  : Bool := false
  left     : Bool := false
  ports    : Tab TorusPort := []
  linkDown : List (Nat × Nat) := []
  held     : List HeldWrite := []
  released : Tab (HeldWrite × Nat) := []
  releaseNo : Nat := 0
  sent     : List SentWrites := []
  passages : Tab Passage := []
  seen     : List Nat := []
  notices  : Tab NoticeOut := []
  noticeNo : Nat := 1
  control  : List ControlIn := []
  relays   : Tab (Nat × TorusPacket) := []
  relayNo  : Nat := 0
  joiners  : List (Nat × Nat) := []
  flights  : Tab (List FlightWindow) := []
  delays   : Tab Nat := []
  timingAt : Tab Nat := []
  nearest  : Tab (Nat × Nat) := []
  out      : List TorusOut := []
deriving DecidableEq, Repr

/-! ### Power, housekeeping (chapter 14) -/

/-- Why a power-state transition runs (R691). -/
inductive PowerCause where
  | host
  | trip
  | boot
deriving DecidableEq, Repr

/-- A power-state transition (R685 to R691): from, target, cap, the job to answer, the instant at which its quiesce
ended, and whether a commit is still needed. -/
structure Transition where
  source : Nat
  target : Nat
  cap    : Nat
  job    : Option Nat
  since : Nat
  quiesced : Option Nat := none
  commitNeeded : Bool := false
  cause  : PowerCause := .host
deriving DecidableEq, Repr

/-- A power request held until EV_READY (R690). -/
structure PowerHeld where
  target : Nat
  cap    : Nat
  job    : Nat
deriving DecidableEq, Repr

/-- An AVSBus frame in the master's queue (R679 to R683). -/
structure AvsFrame where
  rail  : Nat
  cmd   : Nat
  value : Nat
  tries : Nat := 0
deriving DecidableEq, Repr

/-- A trip-log entry (R708). -/
structure TripEntry where
  stamp   : Nat
  channel : Nat
  reading : Int
  region  : Nat
  index   : Nat
  step    : Nat
  cause   : Nat
  trips   : Nat
  regTemp : Nat
deriving DecidableEq, Repr

/-- Power, thermal and housekeeping (R675 to R713). Regions are keyed 0 to 15 compute dies, 16 to 19 base
quadrants, 20 wharf, 21 to 28 memory berths. `phase` is 0 before the first round, then 1 to 3 as the round samples,
evaluates and acts; `hist` holds each temperature sensor's last 256 readings, newest first (R702); `found` the sensors found
broken whose event is due at the action instant. -/
structure PowerState where
  pstate    : Nat := 0
  cap       : Nat := 11
  transition : Option Transition := none
  heldReq   : Option PowerHeld := none
  shutdown  : Bool := false
  round     : Nat := 0
  phase     : Nat := 0
  roundAt   : Nat := 0
  samples   : Tab Int := []
  hist      : Tab (List Int) := []
  found     : List (Nat × Nat) := []
  broken    : Tab Nat := []
  readings  : Tab Int := []
  throttled : List Nat := []
  tripWanted : Option (Nat × Nat) := none
  tripAt    : Option Nat := none
  avs       : List AvsFrame := []
  avsFault  : List Nat := []
  volts     : Tab Nat := []
  correction : Tab Nat := []
  overCurrent : List Nat := []
  regTemp   : Option Nat := none
  railAt    : Tab Nat := []
  trips     : Nat := 0
  tripLog   : List TripEntry := []
  idleBias  : Bool := false
  biasStep  : Nat := 0
  comp      : Tab Int := []
deriving DecidableEq, Repr

/-! ### Lockkeepers (chapter 15) -/

/-- A lockkeeper's role (R751). -/
inductive LkRole where
  | helm
  | checker
  | selfTest
  | retired
  | rejoining
  | halted
  | stranded
deriving DecidableEq, Repr

/-- One lockkeeper (R734 to R751). -/
structure Lockkeeper where
  role     : LkRole := .checker
  passRun  : Nat := 0
  lastPass : Bool := false
  tests    : Nat := 0
  watchdogAt : Nat := 0
  watchdogs : Nat := 0
  faulty   : Bool := false
deriving DecidableEq, Repr

/-- A lockkeeper recovery in progress (R743): the detection instant. -/
structure LkTest where
  start : Nat
deriving DecidableEq, Repr

/-- The lockkeeper pair (R734 to R750). `pause` is (start instant, start stamp, first serial, last serial) of a
check pause. -/
structure LkState where
  a          : Lockkeeper := { role := .helm }
  b          : Lockkeeper := {}
  cmpOk      : Bool := false
  injectOk   : Bool := false
  missRun    : Nat := 0
  injectAt   : Nat := 0
  scrubAt    : Nat := 0
  testAt     : Nat := 0
  retiredAt  : Nat := 0
  test       : Option LkTest := none
  named      : Option LkId := none
  bothPassAt : Option Nat := none
  cmpRun     : Nat := 0
  pause      : Option (Nat × Option Nat × Option Nat × Option Nat) := none
  rejoinedA  : Option Nat := none
  checkpoint : Nat := 0
  outSeq     : Nat := 0
  stranded   : Option Nat := none
  strandedStamp : Nat := 0
  strandedDue : Bool := false
  miscompares : Nat := 0
  bothPass   : Nat := 0
  missed     : Nat := 0
  pauses     : Nat := 0
  helmChanges : Nat := 0
deriving DecidableEq, Repr

/-! ### Security (chapter 16) -/

/-- The one-time-programmable fuses (R755). -/
structure Fuses where
  lc         : Nat := 0
  tamper     : Nat := 0
  svn        : Nat := 0
  fwRoot     : Bytes := []
  ownerRoot  : Bytes := []
  secret     : Nat := 0
  unitId     : Nat := 0
deriving DecidableEq, Repr

/-- The JTAG port (R781 to R783, R874, R875). `auth` is the key class JTAG acts with (0 ADMIN, 1 DEBUG, 2 DATA). -/
structure Jtag where
  ir      : Nat := 0x01
  dr      : Nat := 0x14C9656B
  cells   : Nat := 0
  clamp   : Bool := false
  highz   : Bool := false
  nonce   : Nat := 0
  auth    : Option Nat := none
  level   : Nat := 0
  mail    : Option Bytes := none
  reply   : Bytes := []
deriving DecidableEq, Repr

/-- Security and debug (R755 to R790). `asserted` are the tamper sources met since the last clear, `counted` says that their
event has been counted, `clearFor` is the ticks since the last detection (R775, R777), `owed` a tamper found before the
lockkeepers ran, whose event the next boot logs (R774). `heldTrigger` is the close held while the pair is halted (R673). -/
structure SecState where
  fuses      : Fuses := {}
  vault      : Tab Bytes := []
  keyLoaded  : Bool := false
  wipeMarker : Bool := false
  asserted   : List Nat := []
  clearFor   : Nat := 0
  owed       : Option Nat := none
  counted    : Bool := false
  awaitSlot0 : Bool := false
  seeds      : Bool := false
  halted     : Option (LkRole × LkRole) := none
  heldTrigger : Option Trigger := none
  jtag       : Jtag := {}
  leafBound  : Option Nat := none
  leaf       : Nat := 0
deriving DecidableEq, Repr

/-! ### Flash, boot, configuration (chapter 17) -/

/-- A copy of a record (R793 to R796): blank, torn (neither valid nor blank), or valid with SEQ. -/
inductive CopyState where
  | blank
  | torn
  | valid (seq : Nat)
deriving DecidableEq, Repr

/-- A firmware slot's state (R805). -/
inductive SlotState where
  | empty
  | confirmed
  | pending
  | trial
  | rejected
deriving DecidableEq, Repr

/-- The boot state of R805. `running` is false for A and true for B. -/
structure BootRec where
  running : Bool := false
  count   : Nat := 0
  slotA   : SlotState := .confirmed
  slotB   : SlotState := .empty
deriving DecidableEq, Repr

/-- Configuration items as stored (R821), each as its value bytes, and the flat-identifier table (R534). -/
structure ConfigRec where
  items : Tab Bytes := []
  flat  : Tab Nat := []
deriving DecidableEq, Repr

/-- What a record write stores. -/
inductive RecordData where
  | boot (b : BootRec)
  | attest (bound : Nat)
  | wipe
  | keys (slots : Tab Bytes) (epoch : Nat)
  | trips (l : List TripEntry) (n : Nat)
  | repairs (r : Tab (Tab (List Nat))) (fences : Tab Nat) (groups ports : List (Nat × Nat))
  | config (c : ConfigRec)
  | calib (b : Bytes)
deriving DecidableEq, Repr

/-- A record: the states of its two copies and the content of the winning one (R793 to R797). -/
structure Record where
  copy0 : CopyState := .blank
  copy1 : CopyState := .blank
  data  : Option RecordData := none
deriving DecidableEq, Repr

/-- What a flash operation is followed by (R633, R806, R808). -/
inductive FlashThen where
  | nothing
  | reply (job : Nat)
  | stage (slotB : Bool) (image : Bytes) (job : Nat)
  | confirm (job : Option Nat)
  | attest (job : Nat)
  | lifecycle (job : Nat) (resets : Bool)
deriving DecidableEq, Repr

/-- An operation of the flash queue (R798). -/
inductive FlashOp where
  | write (kind : Nat) (d : RecordData) (next : FlashThen)
  | erase (kind copy : Nat)
  | eraseRecord (kind : Nat) (next : FlashThen)
  | program (slotB : Bool) (image : Bytes) (next : FlashThen)
deriving DecidableEq, Repr

/-- The configuration flash (R791): slot images, records, and the queue of operations (R798). `busy` says the
first operation has begun; `suspended` the write a trip-log write suspends. -/
structure FlashState where
  imageA  : Bytes := []
  imageB  : Bytes := []
  records : Tab Record := []
  queue   : List FlashOp := []
  suspended : Option FlashOp := none
deriving DecidableEq, Repr

/-- Boot (R805 to R823). `phase` is 0 before boot, then the codes of R812 (5 while phases 5 and 6 run together, with
`phase5` and `phase6` set as each ends and `parMs` the longer of the two), 8 once EV_READY has been announced. `trialAt` is the
ticks that the trial timer has counted (R808), `resetAt` the ticks left until a MODULE_RESET acts (R664), `faultSeen` a
detected fault since EV_READY (R809), `force` the configuration latched at boot. -/
structure BootState where
  phase     : Nat := 0
  cause     : Nat := 0
  poweredOnce : Bool := false
  halted    : Bool := false
  romHalt   : Bool := false
  elapsedMs : Nat := 0
  readyMs   : Nat := 0
  restored  : Bool := false
  fromPs4   : Bool := false
  bootRec : BootRec := {}
  trialAt   : Option Nat := none
  config    : ConfigRec := {}
  force     : ConfigRec := {}
  resetAt   : Option Nat := none
  resetCause : Nat := 0
  faultSeen : Bool := false
  phase5    : Bool := false
  phase6    : Bool := false
  parMs     : Nat := 0
deriving DecidableEq, Repr

/-- The board pins the manual names as inputs and outputs (R853 to R875): true is high. -/
structure Pins where
  resetN    : Bool := false
  vrReady   : Bool := false
  tamperN   : Bool := true
  thermtripN : Bool := true
  alertN    : Bool := true
  faultN    : Bool := true
  driven    : Bool := false
deriving DecidableEq, Repr

/-! ### The whole state -/

/-- The module. `pending` is the queue of commands that wait, first in first out; `freeCtr` counts the free values
drawn so far and is the model's own. -/
structure State where
  pending : List Instr := []
  freeCtr : Nat := 0
  time    : TimeState := {}
  log     : EventLog := {}
  net     : NetState := {}
  mem     : MemState := {}
  pound   : PoundState := {}
  work    : WorkState := {}
  stk     : StackState := {}
  base    : BaseState := {}
  light   : LightState := {}
  torus   : TorusState := {}
  power   : PowerState := {}
  lk      : LkState := {}
  sec     : SecState := {}
  flash   : FlashState := {}
  boot    : BootState := {}
  pins    : Pins := {}
deriving DecidableEq, Repr

/-- Why the machine stops with a fault. No command of this module stops it: every fault the manual names is an
event, a status or a rollback in State (notes/assumptions/3.md). -/
inductive Fault where
  /-- Raised by nothing: kept so that the type is inhabited. Safe. -/
  | unreachable
deriving DecidableEq, Repr

/-- Why a command has no meaning. -/
inductive Refusal where
  /-- Raised by a dispatch arm whose command has no meaning yet, by its mnemonic. Safe: the machine stops. -/
  | notModelled (mnemonic : String)
deriving DecidableEq, Repr

/-- The module right after reset (R346, R827, R870): every field at its default above, nothing queued, no memory
listed. -/
def State.reset : State := {}

end Sys2Proof.Machine
end

