-- ==== Sys2Proof/Machine/Ops.lean ====
section
/-!
DEFINITION. The named operations every command is built from: reading and writing a unit's registers, drawing a free
value, issuing a stamp, writing the event log, sending an Ecden frame, and raising a detected fault.
-/

namespace Sys2Proof.Machine

/-! ### Small numbers -/

/-- A 32-bit counter that saturates (R837). -/
def satAdd (v n : Nat) : Nat := min (v + n) 0xFFFFFFFF

/-- A 32-bit saturating counter one step on. -/
def satInc (v : Nat) : Nat := satAdd v 1

/-- A signed 64-bit number as its bits. -/
def intBits (w : Nat) (v : Int) : Nat := (v % (2 ^ w : Int)).toNat

/-- The number whose two's complement bits of width `w` are `v`. -/
def signedOf (w v : Nat) : Int := if v % 2 ^ w < 2 ^ (w - 1) then (v % 2 ^ w : Nat) else (v % 2 ^ w : Nat) - (2 ^ w : Int)

/-! ### Reading and writing a unit -/

namespace State

/-- Fabric time now (R301). -/
def ft (s : State) : Nat := s.time.ft

def issuer (s : State) (b : Nat) : Issuer := Tab.getD {} b s.time.issuers
def updIssuer (s : State) (b : Nat) (f : Issuer → Issuer) : State :=
  { s with time.issuers := Tab.put b (f (s.issuer b)) s.time.issuers }

def ethPort (s : State) (p : Nat) : EthPort := Tab.getD {} p s.net.ports
def updEth (s : State) (p : Nat) (f : EthPort → EthPort) : State :=
  { s with net.ports := Tab.put p (f (s.ethPort p)) s.net.ports }

def session (s : State) (i : Nat) : Session := Tab.getD {} i s.net.sessions
def updSession (s : State) (i : Nat) (f : Session → Session) : State :=
  { s with net.sessions := Tab.put i (f (s.session i)) s.net.sessions }

def updBarge (s : State) (n : Nat) (f : Barge → Barge) : State :=
  { s with net.barges := Tab.modify n f s.net.barges }

def memBerth (s : State) (k : Nat) : MemBerth := Tab.getD {} k s.mem.berths
def updMemBerth (s : State) (k : Nat) (f : MemBerth → MemBerth) : State :=
  { s with mem.berths := Tab.put k (f (s.memBerth k)) s.mem.berths }

def core (s : State) (c : Nat) : Core := Tab.getD {} c s.stk.cores
def updCore (s : State) (c : Nat) (f : Core → Core) : State :=
  { s with stk.cores := Tab.put c (f (s.core c)) s.stk.cores }

def stack (s : State) (k : Nat) : Stack := Tab.getD {} k s.stk.dies
def updStack (s : State) (k : Nat) (f : Stack → Stack) : State :=
  { s with stk.dies := Tab.put k (f (s.stack k)) s.stk.dies }

def router (s : State) (r : Nat) : Router := Tab.getD {} r s.stk.routers
def updRouter (s : State) (r : Nat) (f : Router → Router) : State :=
  { s with stk.routers := Tab.put r (f (s.router r)) s.stk.routers }

def chamber (s : State) (r : Nat) : Chamber := Tab.getD {} r s.stk.chambers
def updChamber (s : State) (r : Nat) (f : Chamber → Chamber) : State :=
  { s with stk.chambers := Tab.put r (f (s.chamber r)) s.stk.chambers }

def link (s : State) (l : Nat) : Link := Tab.getD {} l s.base.links
def updLink (s : State) (l : Nat) (f : Link → Link) : State :=
  { s with base.links := Tab.put l (f (s.link l)) s.base.links }

def laser (s : State) (i : Nat) : Laser := Tab.getD {} i s.light.lasers
def updLaser (s : State) (i : Nat) (f : Laser → Laser) : State :=
  { s with light.lasers := Tab.put i (f (s.laser i)) s.light.lasers }

def group (s : State) (g : Nat) : LightGroup := Tab.getD {} g s.light.groups
def updGroup (s : State) (g : Nat) (f : LightGroup → LightGroup) : State :=
  { s with light.groups := Tab.put g (f (s.group g)) s.light.groups }

def tport (s : State) (p : Nat) : TorusPort := Tab.getD {} p s.torus.ports
def updTport (s : State) (p : Nat) (f : TorusPort → TorusPort) : State :=
  { s with torus.ports := Tab.put p (f (s.tport p)) s.torus.ports }

def graph? (s : State) (g : Nat) : Option Graph := Tab.find? g s.work.graphs
def updGraph (s : State) (g : Nat) (f : Graph → Graph) : State :=
  { s with work.graphs := Tab.modify g f s.work.graphs }

def task? (s : State) (g t : Nat) : Option Task := (s.graph? g).bind fun x => Tab.find? t x.tasks
def updTask (s : State) (g t : Nat) (f : Task → Task) : State :=
  s.updGraph g fun x => { x with tasks := Tab.modify t f x.tasks }

def member? (s : State) (m : MRef) : Option Member := (s.task? m.slot m.task).bind fun x => Tab.find? m.rank x.members
def updMember (s : State) (m : MRef) (f : Member → Member) : State :=
  s.updTask m.slot m.task fun x => { x with members := Tab.modify m.rank f x.members }

def lkOf (s : State) : LkId → Lockkeeper
  | .a => s.lk.a
  | .b => s.lk.b
def updLk (s : State) (i : LkId) (f : Lockkeeper → Lockkeeper) : State :=
  match i with
  | .a => { s with lk.a := f s.lk.a }
  | .b => { s with lk.b := f s.lk.b }

/-- A record of the configuration flash by kind (R793). -/
def record (s : State) (k : Nat) : Record := Tab.getD {} k s.flash.records

end State

/-- The number of a port: 0 A, 1 B. -/
def portNum : PortId → Nat
  | .a => 0
  | .b => 1

/-- The code of a lockkeeper (R829). -/
def lkNum : LkId → Nat
  | .a => 0
  | .b => 1

def otherLk : LkId → LkId
  | .a => .b
  | .b => .a

/-! ### Free values (notes/assumptions/2.md) -/

/-- Draws the next free value. -/
def draw (s : State) : Nat × State := (Config.free s.freeCtr, { s with freeCtr := s.freeCtr + 1 })

/-- Draws a free value below `n` (0 where `n` is 0). -/
def drawBelow (n : Nat) (s : State) : Nat × State := ((draw s).1 % n, (draw s).2)

/-! ### Serials and the state of the module -/

/-- The serial of the pound that follows a close: one above the serial its commit takes (R346, R561). -/
def Closing.next (c : Closing) : Nat := c.commitAs.getD c.serial + 1

/-- The serial of the pound that follows the cut named (R347, R561). -/
def nextSerial (s : State) : Nat := s.pound.cutSerial.getD (s.pound.committed + 1) + 1

/-- The deadline trigger acts on the open pound: it is neither closing nor rolled back, the pair is not halted for debug, and the module
is not in PS3, which keeps the committed serial (R355, R395, R673). -/
def deadlineCounts (s : State) : Bool :=
  s.pound.opened && s.pound.closing.isNone && s.pound.recovery.isNone && s.sec.halted.isNone && s.power.pstate != 3

/-- The cut of the open pound: the one named, or its deadline once that has come, from its instant on (R324, R355). -/
def cutInForce (s : State) : Option Nat :=
  s.pound.cutAt.or (if deadlineCounts s && decide (s.pound.deadline ≤ s.ft) then some s.pound.deadline else none)

/-- The pound a write of the TIME of instant `t` belongs to: before or after the cut named (R347). -/
def serialOfTime (s : State) (t : Nat) : Nat :=
  match s.pound.closing with
  | some c => if t < c.cut then c.serial else c.next
  | none =>
    match cutInForce s with
    | some c => if t < c then s.pound.committed + 1 else nextSerial s
    | none => s.pound.committed + 1

/-- The pound that writes stamped now belong to. -/
def openSerial (s : State) : Nat := serialOfTime s s.ft

/-- The module is stranded (R749). -/
def stranded (s : State) : Bool := s.lk.stranded.isSome

/-- Whether a pound is open for a rollback to act on (R889). -/
def poundActive (s : State) : Bool := s.pound.opened && !stranded s

/-- R469 is in force: some bank is down. -/
def lightLost (s : State) : Bool :=
  (List.range 4).any fun q => (s.group q).down

/-- EV_READY has been announced. -/
def ready (s : State) : Bool := s.boot.phase == 8

/-- Life-cycle code (R756): the highest LC bit blown. -/
def lifeCycle (s : State) : Nat :=
  let lc := s.sec.fuses.lc
  if lc.testBit 3 then 4 else if lc.testBit 2 then 3 else if lc.testBit 1 then 2 else if lc.testBit 0 then 1 else 0

/-- The stored bytes of a configuration item, or its default (R821). -/
def configDefault (item : Nat) : Bytes :=
  if item = 0x0001 then [2]
  else if item = 0x0002 then leBytes 4 64
  else if item = 0x0003 then [0x3F]
  else if item = 0x0004 then leBytes 4 0
  else if item = 0x0010 then leBytes 8 0
  else if item = 0x0011 ∨ item = 0x0201 ∨ item = 0x0300 then [0]
  else if item = 0x0200 then leBytes 2 41960
  else if item = 0x0202 then leBytes 20 0
  else if item = 0x0100 ∨ item = 0x0110 ∨ item = 0x0103 ∨ item = 0x0113 then [0]
  else if item = 0x0101 then leBytes 6 (Config.factoryMac 0)
  else if item = 0x0111 then leBytes 6 (Config.factoryMac 1)
  else if item = 0x0102 ∨ item = 0x0112 then leBytes 2 0
  else if item = 0x0104 ∨ item = 0x0114 then leBytes 4 0
  else if item = 0x0105 ∨ item = 0x0115 then leBytes 16 0
  else []

/-- An item in a configuration record. -/
def itemIn (c : ConfigRec) (item : Nat) : Bytes := (Tab.find? item c.items).getD (configDefault item)

/-- An item as stored (R822). -/
def itemStored (s : State) (item : Nat) : Bytes := itemIn s.boot.config item

/-- An item as latched at the last boot, for those that take effect at the next boot (R821). -/
def itemBoot (s : State) (item : Nat) : Bytes := itemIn s.boot.force item

/-! ### Stamps (R315 to R320) -/

/-- The 52-bit TIME of an instant (R315). -/
def timeField (ft : Nat) : Nat := ft % 2 ^ 52

/-- A stamp from its fields (R315). -/
def mkStamp (time berth seq : Nat) : Nat := time * 4096 + berth * 128 + seq

/-- The TIME field of a stamp. -/
def stampTime (a : Nat) : Nat := a / 4096

/-- Stamp `a` is earlier than stamp `b` (R320). -/
def earlier (a b : Nat) : Bool :=
  let d := (stampTime b + 2 ^ 52 - stampTime a % 2 ^ 52) % 2 ^ 52
  if d ≠ 0 then d < 2 ^ 51 else a % 4096 < b % 4096

/-- The fabric-time instant of a stamp's TIME that lies nearest to `now` (R321). -/
def stampInstant (now a : Nat) : Nat :=
  let d := (now + 2 ^ 52 - stampTime a) % 2 ^ 52
  if d < 2 ^ 51 then now - d else now + (2 ^ 52 - d)

/-- The SEQ the issuer of berth `b` gives next in TIME value `t`: 0 at the first stamp of each TIME value, and 1
at B0 in TIME value 0 (R317). -/
def nextSeq (b t : Nat) (i : Issuer) : Nat :=
  let base := if i.time = t then i.nextSeq else 0
  if b = 0 ∧ t = 0 then max base 1 else base

/-- The issuers of B16 to B31 give no stamp while a base logic reset holds them (R442, R444). -/
def issuerDown (s : State) (b : Nat) : Bool := decide (16 ≤ b) && s.base.reset.any fun r => !r.released

/-- Asks the issuer of berth `b` for a stamp (R316, R317): the stamp, or none where the request waits. -/
def issueStamp (b : Nat) (h : HeldStamp) (s : State) : Option Nat × State :=
  let i := s.issuer b
  let t := timeField s.ft
  let q := nextSeq b t i
  if i.held = [] ∧ q < 128 ∧ !issuerDown s b then
    (some (mkStamp t b q),
      { s.updIssuer b (fun i => { i with time := t, nextSeq := q + 1 }) with time.firstStamp := true })
  else
    (none, s.updIssuer b fun i => { i with stalls := satInc i.stalls, held := i.held ++ [h] })

/-! ### The event log (R826 to R830, R832, R833) -/

/-- This module's native address with berth and core 0 (R530). -/
def nativeAddr (s : State) : Nat := s.torus.coord

/-- The handle of a session index (R587). -/
def sessionHandle (s : State) (i : Nat) : Nat := i + 4096 * (s.session i).gen

/-- Whether a session is to receive an entry: by its MASK, or by R833. -/
def wantsEntry (s : State) (i : Nat) (e : LogEntry) : Bool :=
  let ss := s.session i
  ss.st == .opened &&
    (ss.mask.testBit (eventClass e.code)
      || (e.code == Ev.bargeRewind && leField e.args 0 2 == sessionHandle s i)
      || (e.code == Ev.tamper && ss.key.isNone))

/-- The 64 bytes of an entry (R828). -/
def entryBytes (e : LogEntry) : Bytes :=
  leBytes 4 e.lseq ++ leBytes 2 e.code ++
  [BitVec.ofNat 8 (bit e.rollback + 2 * bit e.heldBoot + 4 * bit e.unlocked), BitVec.ofNat 8 e.args.length] ++
  leBytes 8 (e.stamp.getD 0) ++ leBytes 2 (bitsOf e.ft 63 52) ++ leBytes 2 0 ++ leBytes 4 e.source ++
  leBytes 8 e.serial ++ (e.args ++ List.replicate (32 - e.args.length) 0).take 32

/-- A new entry at the end of the log: the oldest leaves a full log, and counts as lost when a session that was to
receive it has not had it (R826, R834). -/
def appendEntry (e : LogEntry) (s : State) : State :=
  match s.log.entries with
  | old :: rest =>
    if s.log.entries.length < 4096 then
      { s with log.entries := s.log.entries ++ [e], log.nextLseq := e.lseq + 1, log.written := satInc s.log.written }
    else
      let missed := fun i (ss : Session) => wantsEntry s i old && decide (ss.cursor ≤ old.lseq)
      { s with
        log.entries := rest ++ [e], log.nextLseq := e.lseq + 1, log.written := satInc s.log.written
        log.lost := if s.net.sessions.any fun p => missed p.1 p.2 then satInc s.log.lost else s.log.lost
        net.sessions := s.net.sessions.mapVals fun i ss =>
          if missed i ss then { ss with cursor := old.lseq + 1, pushGaps := satInc ss.pushGaps } else ss }
  | [] => { s with log.entries := [e], log.nextLseq := e.lseq + 1, log.written := satInc s.log.written }

/-- The events also sent as NOTICE frames to the configured address (R835). -/
def isNotice (code : Nat) : Bool :=
  code == Ev.ready || code == Ev.bootHalt || code == Ev.thermalTrip || code == Ev.tamper || code == Ev.stranded

/-- The 32-byte header of R583. -/
def ecdenHeader (type flags sess len seq ack sack credit : Nat) : Bytes :=
  [1#8, BitVec.ofNat 8 type] ++ leBytes 2 flags ++ leBytes 2 sess ++ leBytes 2 len ++ leBytes 4 seq ++
  leBytes 4 ack ++ leBytes 8 sack ++ leBytes 2 credit ++ leBytes 6 0

/-- Hands a frame to its port: it leaves, or waits while the partner has paused its priority (R579). -/
def putWire (fr : OutFrame) (s : State) : State :=
  if (s.ethPort (portNum fr.port)).pausedPrio = some fr.pcp then
    s.updEth (portNum fr.port) fun p => { p with txHeld := p.txHeld ++ [fr] }
  else { s with net.wire := s.net.wire ++ [fr] }

/-- Ends a port's pause: what waited leaves. -/
def unpause (p : Nat) (s : State) : State :=
  let l := (s.ethPort p).txHeld
  { s.updEth p (fun x => { x with pausedPrio := none, txHeld := [] }) with net.wire := s.net.wire ++ l }

/-- Ends the pauses whose time has run out. -/
def pausesEnd (s : State) : State :=
  ([0, 1].filter fun p => (s.ethPort p).pausedPrio.isSome && decide ((s.ethPort p).pauseUntil ≤ s.ft)).foldl
    (fun s p => unpause p s) s

/-- Puts a NOTICE with one entry on the wire to the configured notice address, untagged (R622); no address is
configured while the item is all zeros. The destination MAC is a free value: the manual gives the module no way to
learn it (notes/assumptions/21.md). -/
def noticeToAddress (body : Bytes) (s : State) : State :=
  let a := itemStored s 0x0202
  if leNat a = 0 then s
  else
    let (mac, s) := draw s
    let port := if leField a 18 1 = 0 then PortId.a else PortId.b
    let fr : OutFrame :=
      { port := port, mac := mac, vlan := leField (itemBoot s (0x0102 + 0x10 * portNum port)) 0 2 % 4096,
        pcp := leField (itemBoot s (0x0102 + 0x10 * portNum port)) 0 2 / 4096 % 8,
        ip := leField a 0 16, udp := leField a 16 2,
        payload := ecdenHeader 6 0 0xFFFF body.length 0 0 0 0 ++ body }
    putWire fr s

/-- Writes an event (R826, R828). Before the fabric-time counter is loaded the entry is held unstamped (R816); when
the issuer has no stamp left in this TIME value it waits for one (R317). -/
def logEventR (rollback : Bool) (code : Nat) (args : Bytes) (s : State) : State :=
  let lseq := s.log.nextLseq
  let mk (st : Option Nat) : LogEntry :=
    { lseq := lseq, code := code, rollback := rollback, heldBoot := !s.time.loaded, unlocked := s.time.mode != 2,
      args := args, stamp := st, ft := s.ft, source := nativeAddr s, serial := s.pound.committed }
  if s.time.loaded then
    let (st, s) := issueStamp 30 (.event lseq) s
    let s := appendEntry (mk st) s
    if isNotice code && st.isSome then noticeToAddress (entryBytes (mk st)) s else s
  else appendEntry (mk none) s

/-- Writes an event with the ROLLBACK flag clear. -/
def logEvent (code : Nat) (args : Bytes) (s : State) : State := logEventR false code args s

/-- ALERT_N is asserted while a region throttles, a sensor is broken or a bus fault stands (R705). -/
def alertPin (s : State) : State :=
  { s with pins.alertN := decide (s.power.throttled = [] ∧ s.power.broken = [] ∧ s.power.avsFault = []) }

/-! ### Detected faults (R368 to R370, R381, R889) -/

/-- The verdict instant of the close in progress has come (R357, R369). -/
def pastVerdict (s : State) : Bool :=
  match s.pound.closing with
  | some c => c.drained && decide (c.cut + 2300 ≤ s.ft)
  | none => false

/-- The serial a rollback now replays (R369): the open pound after the verdict, else the oldest uncommitted one. -/
def replaySerial (s : State) : Nat :=
  match s.pound.closing with
  | some c => if pastVerdict s then c.next else c.serial
  | none => s.pound.committed + 1

/-- A detected fault (R368): logs its event with the ROLLBACK flag set and starts the recovery, or restarts the one
in progress (R381). Where no pound is open, or the module is stranded, the flag is clear and nothing is rolled back
(R889). -/
def raiseFault (code : Nat) (args : Bytes) (s : State) : State :=
  let s : State := { s with boot.faultSeen := true }
  if poundActive s then
    let s := logEventR true code args s
    match s.pound.recovery with
    | none =>
      { s with pound.recovery := some { serial := replaySerial s, faults := [{ code := code, ftAt := s.ft }] } }
    | some r =>
      let m := match s.pound.closing with
        | some c => if pastVerdict s then r.serial else min r.serial c.serial
        | none => r.serial
      let r : Recovery :=
        { r with serial := m, faults := r.faults ++ [{ code := code, ftAt := s.ft }], stopped := false, returned := false }
      { s with pound.recovery := some r }
  else logEvent code args s

/-! ### Ecden frames the module sends (R583 to R589, R601, R604) -/

/-- The 64 bits of SACK: bit i says that frame ACK + 1 + i has been received (R583). -/
def sackBits (ss : Session) : Nat :=
  ss.rxHeld.foldl (fun a h =>
    let d := (h.seq + 2 ^ 32 - ss.rxNext) % 2 ^ 32
    if 1 ≤ d ∧ d ≤ 64 then a ||| (1 <<< (d - 1)) else a) 0

/-- The credit the module advertises to a session now (R602). -/
def creditNow (s : State) (i : Nat) : Nat :=
  let ss := s.session i
  if ss.blocked then 0 else if (s.ethPort (portNum ss.port)).fill < 8 * 2 ^ 20 then 64 else 8

/-- The key of a key slot (R759): slot 0 from the fuses in PROVISIONED and FIELD, once it is loaded (R777); the vault's
otherwise, where one stands. -/
def slotKey (s : State) (slot : Nat) : Option Bytes :=
  if slot = 0 ∧ lifeCycle s ≠ 0 then
    if (lifeCycle s = 1 ∨ lifeCycle s = 2) ∧ !s.sec.awaitSlot0 then some s.sec.fuses.ownerRoot else none
  else Tab.find? slot s.sec.vault

/-- Adds the tag of R588 where the session uses a key. -/
def sealFrame (ss : Session) (hb : Bytes) : Bytes :=
  match ss.key with
  | none => hb
  | some _ =>
    hb ++ kmac256 ss.secret (leBytes 8 ss.pnonce ++ leBytes 8 ss.mnonce ++ hb)
      [0x45#8, 0x43#8, 0x44#8, 0x45#8, 0x4E#8, 0x31#8]

/-- Puts a frame of a session on the wire, to where its partner's last accepted frame came from (R581), and notes
the advertisement it carries (R601, R602). -/
def sendFrame (i type flags seq : Nat) (body : Bytes) (s : State) : State :=
  let ss := s.session i
  let cr := creditNow s i
  let hb := ecdenHeader type (flags ||| bit ss.key.isSome) (sessionHandle s i) body.length seq ss.rxNext (sackBits ss)
    cr ++ body
  let fr : OutFrame :=
    { port := ss.port, mac := ss.mac, vlan := ss.vlan, pcp := ss.pcp, ip := ss.ip, udp := ss.udp,
      payload := sealFrame ss hb }
  (putWire fr s).updSession i fun ss => { ss with advAck := ss.rxNext, credit := cr, ackDue := none }

/-- Sends an ACK frame (R601). -/
def sendAck (i : Nat) (s : State) : State := sendFrame i 4 0 0 [] s

/-- Sends a sequenced frame for the first time and keeps it until acknowledged (R604). -/
def sendSequenced (i type flags : Nat) (body : Bytes) (slot : Option OutKind) (barge : Option (Nat × Nat)) (s : State) : State :=
  let q := (s.session i).txNext
  let s := s.updSession i fun ss =>
    { ss with
      txNext := (q + 1) % 2 ^ 32
      unacked := ss.unacked ++ [
        { seq := q, type := type, final := flags.testBit 1, body := body, tries := 0, sentAt := s.ft,
          sacked := false, slot := slot, barge := barge }] }
  sendFrame i type flags q body s

/-- Queues a message of the module in a session's outbound slots (R609). -/
def queueMail (i : Nat) (kind : OutKind) (body : Bytes) (s : State) : State :=
  s.updSession i fun ss => { ss with outbox := ss.outbox ++ [{ kind := kind, body := body }] }

/-- The header of a reply (R626, R627). -/
def replyHeader (code corr status : Nat) : Bytes :=
  leBytes 2 (code ||| 0x8000) ++ leBytes 2 corr ++ leBytes 2 status ++ leBytes 2 0

/-- Whether a session index still holds the open session of a handle. -/
def sessionLive (s : State) (i handle : Nat) : Bool :=
  (s.session i).st == .opened && sessionHandle s i == handle

/-- Queues a reply at its sender: an outbound slot, or the JTAG mail register (R609, R783). A reply to a session
that has closed or stranded is discarded (R606). -/
def sendReply (src : MailSrc) (handle : Nat) (body : Bytes) (s : State) : State :=
  match src with
  | .session i => if sessionLive s i handle then queueMail i .reply body s else s
  | .jtag => { s with sec.jtag.reply := body }

/-- The handle that goes with a sender (0xFFFF for JTAG, R887). -/
def srcHandle (s : State) : MailSrc → Nat
  | .session i => sessionHandle s i
  | .jtag => 0xFFFF

/-- Answers the message a command took, at once. -/
def answer (src : MailSrc) (code corr status : Nat) (extra : Bytes) (s : State) : State :=
  sendReply src (srcHandle s src) (replyHeader code corr status ++ extra) s

/-! ### Work that follows a step (R629) -/

/-- Begins work whose reply comes later. -/
def addJob (kind : JobKind) (src : MailSrc) (code corr : Nat) (s : State) : State :=
  { s with
    work.jobs := Tab.put s.work.jobNo
      { kind := kind, src := src, handle := srcHandle s src, code := code, corr := corr, since := s.ft } s.work.jobs
    work.jobNo := s.work.jobNo + 1 }

/-- Answers a job and forgets it. -/
def endJob (n status : Nat) (extra : Bytes) (s : State) : State :=
  match Tab.find? n s.work.jobs with
  | none => s
  | some j =>
    sendReply j.src j.handle (replyHeader j.code j.corr status ++ extra)
      { s with work.jobs := Tab.del n s.work.jobs }

/-! ### Barges (R611 to R621, R648) -/

/-- Ranges (offset, length) in rising order of offset. -/
def insertRange (r : Nat × Nat) : List (Nat × Nat) → List (Nat × Nat)
  | [] => [r]
  | h :: t => if r.1 ≤ h.1 then r :: h :: t else h :: insertRange r t

/-- How many bytes a list of ranges covers, bytes named twice counting once. -/
def coveredLen (l : List (Nat × Nat)) : Nat :=
  ((l.foldr insertRange []).foldl (fun (a : Nat × Nat) r =>
    let hi := r.1 + r.2
    if hi ≤ a.1 then a else (hi, a.2 + (hi - max r.1 a.1))) (0, 0)).2

/-- The end of the run of covered bytes that begins at 0. -/
def coveredPrefix (l : List (Nat × Nat)) : Nat :=
  (l.foldr insertRange []).foldl (fun a r => if r.1 ≤ a then max a (r.1 + r.2) else a) 0

/-- The byte ranges an inbound barge has written. -/
def bargeRanges (b : Barge) : List (Nat × Nat) := b.written.map fun r => (r.1, r.2.1)

/-- The BARGE_DONE message (R648). -/
def bargeDone (n : Nat) (b : Barge) (status : Nat) : Bytes :=
  let bytes := if b.outbound then b.acked else coveredLen (bargeRanges b)
  leBytes 2 0x7F02 ++ leBytes 2 0 ++ leBytes 2 status ++ leBytes 2 0 ++
  leBytes 2 n ++ leBytes 6 0 ++ leBytes 8 bytes ++ leBytes 8 b.lastSerial

/-- A shadow is the committed version, or an older one, of the page shares not folded yet (R510). -/
def isCommitted (s : State) (h : Shadow) : Bool := h.tag ≤ s.pound.committed && !h.discarded

/-- Shadows in rising order of tag. -/
def insertShadow (h : Shadow) : List Shadow → List Shadow
  | [] => [h]
  | x :: t => if h.tag ≤ x.tag then h :: x :: t else x :: insertShadow h t

def byTag (l : List Shadow) : List Shadow := l.foldr insertShadow []

/-- The frames that hold versions (R352, R497). -/
def framesInUse (s : State) : List Nat :=
  s.mem.frames.vals ++ s.mem.shadows.map Shadow.frame ++ s.mem.pins.filterMap Pin.frame ++ s.mem.preImages.map PreImage.frame

/-- Takes a frame out of service until the next boot, counted at the berth that found its error (R521, R522). -/
def retireFrame (k f : Nat) (s : State) : State :=
  if s.mem.retired.contains f then s
  else
    { s.updMemBerth k (fun b => { b with retired := satInc b.retired }) with
      mem.retired := s.mem.retired ++ [f], mem.retiring := Tab.del f s.mem.retiring }

/-- Frames that hold a version no more go back to the pool, or out of service where a persistent error has been found in them (R511, R521,
R522). -/
def releaseFrames (l : List Nat) (s : State) : State :=
  (l.filter fun f => !(framesInUse s).contains f).foldl (fun s f =>
    match Tab.find? f s.mem.retiring with
    | some k => retireFrame k f s
    | none => { s with mem.wrong := s.mem.wrong.filter fun a => a / 65536 != f }) s

/-- A page's entry as a memory berth's page table records it (R509): a committed shadow that the berth has folded is the entry's frame. -/
def pageEntry (s : State) (k p : Nat) : PageEntry :=
  let l := byTag (s.mem.shadows.filter fun h => h.page == p && !h.discarded)
  let folded := l.filter fun h => isCommitted s h && !h.unfolded.contains k
  { frame := (folded.getLast?.map Shadow.frame).or (Tab.find? p s.mem.frames)
    shadows := (l.filter fun h => !isCommitted s h || h.unfolded.contains k).map fun h => (h.tag, h.frame, h.slot)
    pins := (s.mem.pins.filter fun x => x.page = p).map fun x => (x.serial, x.frame)
    preImages := (s.mem.preImages.filter fun x => x.page = p).map fun x => (x.slot, x.task, x.frame) }

/-- The page table of a memory berth (R509). -/
def tableOf (s : State) (k : Nat) : Tab PageEntry :=
  ((s.mem.frames.keys ++ s.mem.shadows.map Shadow.page ++ s.mem.pins.map Pin.page ++ s.mem.preImages.map PreImage.page).eraseDups).foldl
    (fun t p => Tab.put p (pageEntry s k p) t) []

/-- A berth updates its page table: it has completed the second copy of the update before, and updates the first (R512). -/
def tableUpdate (k : Nat) (s : State) : State :=
  s.updMemBerth k fun b => { b with tableB := b.tableA, tableA := tableOf s k }

/-- The berths record a change of the versions that stand (R509). -/
def tablesUpdate (s : State) : State := (List.range 8).foldl (fun s k => tableUpdate k s) s

/-- The packages that hold a berth's two page-table copies: two different ones of its own six (R509). -/
def tablePackages (k : Nat) : Nat × Nat :=
  let x := Config.tablePackage k
  (6 * k + x % 6, 6 * k + (x + 1 + x / 6 % 5) % 6)

/-- Both copies of a berth's page table stand alike: the second is completed, or one is restored from the other (R512, R515, R521). -/
def tablesAlike (b : MemBerth) : MemBerth := { b with tableB := b.tableA }

/-- Releases the pins an owner holds (R384, R652): a pin no one holds goes. -/
def releasePins (o : PinOwner) (s : State) : State :=
  let l := s.mem.pins.map fun p => { p with owners := p.owners.erase o }
  let gone := l.filter fun p => p.owners = []
  if gone = [] then { s with mem.pins := l }
  else tablesUpdate (releaseFrames (gone.filterMap Pin.frame) { s with mem.pins := l.filter fun p => p.owners ≠ [] })

/-- Ends a barge with a status: BARGE_DONE is queued where its session is still open (R620, R632, R647). -/
def endBarge (n status : Nat) (s : State) : State :=
  match Tab.find? n s.net.barges with
  | none => s
  | some b =>
    let s := releasePins (.barge n) { s with net.barges := Tab.del n s.net.barges }
    if sessionLive s (b.session % 4096) b.session then queueMail (b.session % 4096) .push (bargeDone n b status) s else s

/-- Ends every open barge a test selects. -/
def endBarges (p : Barge → Bool) (status : Nat) (s : State) : State :=
  (s.net.barges.filter fun x => p x.2).foldl (fun s x => endBarge x.1 status s) s

end Sys2Proof.Machine
end

