-- ==== Sys2Proof/Machine/Frames.lean ====
section
/-!
DEFINITION. Link frames as bits: the Reed-Solomon codes and their field, the frame control word, the packet stream with its
headers and padding, the torus extension, and the idle sequence of WR (R402 to R412, R536).
-/

namespace Sys2Proof.Machine

/-! ### GF(2^10) (R404) -/

/-- A field element times α. -/
def gfX (a : Nat) : Nat := if 512 ≤ a then (2 * a) ^^^ 0x409 else 2 * a

/-- The product of two field elements, modulo x^10 + x^3 + 1. -/
def gfMul (a b : Nat) : Nat :=
  (List.range 10).foldl (fun c i => gfX c ^^^ if b.testBit (9 - i) then a else 0) 0

/-- `a` to the power 2^n − 1 and its place: the squares of `a` multiplied up. -/
def gfInv (a : Nat) : Nat :=
  ((List.range 9).foldl (fun (x : Nat × Nat) _ => let q := gfMul x.1 x.1; (q, gfMul x.2 q)) (a, 1)).2

/-- α to a power. -/
def alpha : Nat → Nat
  | 0 => 1
  | n + 1 => gfX (alpha n)

/-- The value of a polynomial, highest coefficient first. -/
def gfEval (p : List Nat) (x : Nat) : Nat := p.foldl (fun a c => gfMul a x ^^^ c) 0

/-- Adds two polynomials, lowest coefficient first. -/
def gfAdd : List Nat → List Nat → List Nat
  | a :: l, b :: m => (a ^^^ b) :: gfAdd l m
  | l, [] => l
  | [], m => m

/-- A polynomial times a constant. -/
def gfScale (c : Nat) (p : List Nat) : List Nat := p.map (gfMul c)

/-- The coefficients of g(x) below x^r, highest first (R404). -/
def rsGen (r : Nat) : List Nat :=
  (((List.range r).foldl (fun g i => gfAdd (0 :: g) (gfScale (alpha i) g)) [1]).reverse).drop 1

/-- The check symbols of a message: the remainder of the message times x^(n−k) modulo g(x), highest first (R404). -/
def rsCheck (r : Nat) (msg : List Nat) : List Nat :=
  let g := rsGen r
  msg.foldl (fun reg m =>
    let f := m ^^^ reg.headD 0
    gfAdd (reg.drop 1 ++ [0]) (gfScale f g)) (List.replicate r 0)

/-- The state of the Berlekamp–Massey search: connection polynomial, the last one replaced, its length, its age and discrepancy. -/
structure KeySearch where
  c : List Nat := [1]
  b : List Nat := [1]
  len : Nat := 0
  age : Nat := 1
  disc : Nat := 1

/-- One step of the search with the syndromes up to the `n`-th. -/
def keyStep (syn : List Nat) (k : KeySearch) (n : Nat) : KeySearch :=
  let d := (List.range (k.len + 1)).foldl (fun a i => a ^^^ gfMul (k.c.getD i 0) (syn.getD (n - i) 0)) 0
  let c := gfAdd k.c (List.replicate k.age 0 ++ gfScale (gfMul d (gfInv k.disc)) k.b)
  if d = 0 then { k with age := k.age + 1 }
  else if 2 * k.len ≤ n then { c := c, b := k.c, len := n + 1 - k.len, age := 1, disc := d }
  else { k with c := c, age := k.age + 1 }

/-- The product of two polynomials modulo x^r, lowest coefficient first. -/
def gfMulMod (r : Nat) (a b : List Nat) : List Nat :=
  (List.range r).map fun n => (List.range (n + 1)).foldl (fun s i => s ^^^ gfMul (a.getD i 0) (b.getD (n - i) 0)) 0

/-- The terms of a polynomial's derivative: in characteristic 2 those of odd degree. -/
def gfDeriv (p : List Nat) : List Nat :=
  (List.range (p.length - 1)).map fun i => if i % 2 = 0 then p.getD (i + 1) 0 else 0

/-- Decodes a word of n symbols with r check symbols: the symbols of the codeword within r / 2 symbols of it and the places
corrected, where there is one (R403, R404). -/
def rsDecode (r : Nat) (word : List Nat) : Option (List Nat × List Nat) :=
  let n := word.length
  let syn := fun (w : List Nat) => (List.range r).map fun i => gfEval w (alpha i)
  let s := syn word
  if s.all (· == 0) then some (word, [])
  else
    let k := (List.range r).foldl (keyStep s) {}
    let omega := (gfMulMod r s k.c).reverse
    let deriv := (gfDeriv k.c).reverse
    let fixed := word.zipIdx.map fun x =>
      let xi := alpha (1023 - (n - 1 - x.2))
      if gfEval k.c.reverse xi = 0 then
        (x.1 ^^^ gfMul (alpha (n - 1 - x.2)) (gfMul (gfEval omega xi) (gfInv (gfEval deriv xi))), some x.2)
      else (x.1, none)
    let places := fixed.filterMap Prod.snd
    let w := fixed.map Prod.fst
    if 2 * places.length ≤ r ∧ places.length = k.len ∧ (syn w).all (· == 0) then some (w, places) else none

/-! ### Frames (R403, R405, R406) -/

/-- The check symbols, content bytes and bits of a lane in a frame of the short and the long code (R403). -/
def checkSyms (long : Bool) : Nat := if long then 16 else 8
def contentLen (long : Bool) : Nat := if long then 320 else 160
def laneBits (long : Bool) : Nat := if long then 170 else 85

/-- The 10-bit symbols of a number of bits (R405). -/
def symsOf (n bits : Nat) : List Nat := (List.range n).map fun j => bits >>> (10 * j) % 1024

/-- The bits of a list of symbols (R405). -/
def bitsOfSyms (l : List Nat) : Nat := l.foldr (fun x a => a * 1024 + x) 0

/-- A frame's bits from its content (R404, R406). -/
def encodeFrame (long : Bool) (content : Bytes) : Nat :=
  let msg := symsOf (contentLen long * 8 / 10) (leNat content)
  bitsOfSyms (msg ++ rsCheck (checkSyms long) msg)

/-- A frame's content and the symbols corrected, where the code corrects what it shows (R403, R404). -/
def decodeFrame (long : Bool) (bits : Nat) : Option (Bytes × List Nat) :=
  let k := contentLen long * 8 / 10
  (rsDecode (checkSyms long) (symsOf (k + checkSyms long) bits)).map fun x =>
    (leBytes (contentLen long) (bitsOfSyms (x.1.take k)), x.2)

/-- The bits that a lane of a frame carries, the first sent lowest (R405). -/
def laneShare (long : Bool) (bits lane : Nat) : Nat := bits >>> (laneBits long * lane) % 2 ^ laneBits long

/-! ### The control word (R407) -/

/-- The fields of the frame control word. -/
structure Control where
  type    : Nat := 0
  fseq    : Nat := 0
  epoch   : Nat := 0
  first   : Nat := 0x1FF
  aseq    : Nat := 0
  akind   : Nat := 0
  cvc     : Nat := 0
  credits : Nat := 0
deriving DecidableEq, Repr

/-- The control word's 64 bits. -/
def Control.word (c : Control) : Nat :=
  c.type % 16 * 2 ^ 60 + c.fseq % 4096 * 2 ^ 48 + c.epoch % 256 * 2 ^ 40 + c.first % 512 * 2 ^ 31 + c.aseq % 4096 * 2 ^ 19 +
    c.akind % 4 * 2 ^ 17 + c.cvc % 4 * 2 ^ 15 + c.credits % 512 * 2 ^ 6

/-- The control word of a frame's content (R406). -/
def controlOf (content : Bytes) : Control :=
  let w := leField content 0 8
  { type := bitsOf w 63 60, fseq := bitsOf w 59 48, epoch := bitsOf w 47 40, first := bitsOf w 39 31, aseq := bitsOf w 30 19
    akind := bitsOf w 18 17, cvc := bitsOf w 16 15, credits := bitsOf w 14 6 }

/-- A frame's content from its control word and its packet stream, zeros to the end (R406, R410). -/
def contentOf (long : Bool) (c : Control) (stream : Bytes) : Bytes :=
  (leBytes 8 c.word ++ stream ++ List.replicate (contentLen long) 0).take (contentLen long)

/-! ### Packets as bytes (R409, R410, R536) -/

/-- The 32-byte header (R409). -/
def headerBytes (p : BasePacket) : Bytes :=
  leBytes 8 p.stamp ++ leBytes 8 (p.addr % 2 ^ 48) ++ leBytes 1 (p.vc % 4 * 64 + p.kind % 64) ++ leBytes 1 (p.destBerth % 32) ++
    leBytes 1 p.destUnit ++ leBytes 1 (p.srcBerth % 32) ++ leBytes 1 p.srcUnit ++ [0#8] ++ leBytes 2 p.len ++ leBytes 8 p.tag

/-- A packet as it stands in a packet stream of the base. -/
def packetBytes (p : BasePacket) : Bytes := headerBytes p ++ p.payload

/-- The header that 32 bytes hold. -/
def headerOf (b : Bytes) : BasePacket :=
  { stamp := leField b 0 8, addr := leField b 8 6, kind := leField b 16 1 % 64, vc := leField b 16 1 / 64
    destBerth := leField b 17 1 % 32, destUnit := leField b 18 1, srcBerth := leField b 19 1 % 32, srcUnit := leField b 20 1
    len := leField b 22 2, tag := leField b 24 8, payload := [] }

/-- The torus extension (R536). -/
def extBytes (p : TorusPacket) : Bytes :=
  leBytes 8 p.pound ++ leBytes 9 p.route ++ leBytes 1 (p.hop % 32 + p.cls % 2 * 32) ++ leBytes 3 p.dest ++ leBytes 3 p.src ++
    leBytes 2 p.passage ++ leBytes 1 p.attempt ++ leBytes 5 0

/-- A torus packet as a packet of the base: the extension stands as the first 32 bytes of the payload (R536). -/
def torusBase (p : TorusPacket) : BasePacket := { p.base with len := p.base.len + 32, payload := extBytes p ++ p.base.payload }

/-- The torus packet that a base packet of a torus berth carries. -/
def torusOf (b : BasePacket) : TorusPacket :=
  let e := b.payload
  { pound := leField e 0 8, route := leField e 8 9, hop := leField e 17 1 % 32, cls := leField e 17 1 / 32 % 2, dest := leField e 18 3
    src := leField e 21 3, passage := leField e 24 2, attempt := leField e 26 1
    base := { b with len := b.len - 32, payload := e.drop 32 } }

/-- A packet of a fibre's packet stream: the extension directly before the header (R536). -/
def fibreBytes (b : BasePacket) : Bytes := b.payload.take 32 ++ headerBytes b ++ b.payload.drop 32

/-- The bytes of a packet in a stream. -/
def streamBytes (long : Bool) (b : BasePacket) : Bytes := if long then fibreBytes b else packetBytes b

/-- The first packet of a stream's bytes and what follows it; none while it is not whole (R409, R536). -/
def takePacket (long : Bool) (d : Bytes) : Option (BasePacket × Bytes) :=
  let at' := if long then 32 else 0
  if d.length < at' + 32 then none
  else
    let h := headerOf (d.drop at')
    if d.length < 32 + h.len then none
    else
      let body := (d.drop (at' + 32)).take (h.len - at')
      some ({ h with payload := d.take at' ++ body }, d.drop (32 + h.len))

/-- The packets that a stream's bytes hold whole, and the bytes of the one that goes on in the next frame; 32 zero bytes where a
packet would begin are padding to the end of the frame (R409, R410). -/
def takePackets (long : Bool) : Nat → Bytes → List BasePacket × Bytes
  | 0, d => ([], d)
  | fuel + 1, d =>
    if 32 ≤ d.length ∧ (d.take 32).all (· == 0) then ([], [])
    else match takePacket long d with
      | some (p, rest) =>
        let (l, left) := takePackets long fuel rest
        (p :: l, left)
      | none => ([], d)

/-- What a frame's packet stream brings to a receiver that holds `part` of a packet: a header at offset 0 says that what it holds
was padding (R407, R410; notes/assumptions/143.md). -/
def readStream (long : Bool) (part : Bytes) (c : Control) (content : Bytes) : List BasePacket × Bytes :=
  takePackets long 16 ((if c.first = 0 then [] else part) ++ content.drop 8)

/-! ### The idle sequence of WR (R402) -/

/-- The next bit of PRBS31 after the 31 bits of `st`, the newest lowest (notes/assumptions/144.md). -/
def prbsBit (st : Nat) : Nat := (st >>> 30 ^^^ st >>> 27) % 2

/-- `n` bits of PRBS31, the first lowest, and the state after them. -/
def prbsBits (n st : Nat) : Nat × Nat :=
  (List.range n).foldl (fun (x : Nat × Nat) i =>
    let b := prbsBit x.2
    (x.1 + b * 2 ^ i, (2 * x.2 + b) % 2 ^ 31)) (0, st)

/-- Bits of a received idle sequence that are not what the 31 before them give, and the state after them. -/
def prbsErrors (n st bits : Nat) : Nat × Nat :=
  (List.range n).foldl (fun (x : Nat × Nat) i =>
    let b := bits >>> i % 2
    (x.1 + bit (b != prbsBit x.2), (2 * x.2 + b) % 2 ^ 31)) (0, st)

end Sys2Proof.Machine
end

