-- ==== Sys2Proof/Machine/MemOps.lean ====
section
/-!
DEFINITION. Device memory: the address map, buffers, versions of pages, reads of each kind, and the path of a write
from its issuer to a line (chapters 7 and 10). Page content is held as cells, and a byte no version lists reads 0
(R507).
-/

namespace Sys2Proof.Machine

/-! ### The address map (R351, R496 to R503) -/

/-- Frames in the shadow pool (R351). -/
def poolPages (s : State) : Nat := 1572864 * s.mem.fraction

/-- The stamp base (R496). -/
def stampBase (s : State) : Nat := 0x017F00000000 - 0x000300000000 * s.mem.fraction

/-- Bytes of the buffer window (R496, R499). -/
def bufferCapacity (s : State) : Nat := stampBase s - poolPages s * 65536

/-- The page of a module address. -/
def pageOf (a : Nat) : Nat := a / 65536

/-- The memory berth of a byte of the buffer window (R503). -/
def memBerthOf (a : Nat) : Nat := a % 65536 / 4096 % 8

/-- Frames in the frame area, and stamp slots in the stamp region (R496). -/
def frameCount (s : State) : Nat := stampBase s / 65536
def slotCount (s : State) : Nat := (0x017F00000000 - stampBase s) / 8192

/-- The first number from `x` on, below `n` and round it, that is not in use. -/
def firstFree (n x : Nat) (used : List Nat) : Nat :=
  (((List.range (used.length + 1)).map fun i => (x + i) % n).find? fun f => !used.contains f).getD x

/-- A frame from the pool; which one is a free value (R497; notes/assumptions/71.md). -/
def poolFrame (s : State) : Nat × State :=
  let (x, s) := drawBelow (frameCount s) s
  (firstFree (frameCount s) x (framesInUse s ++ s.mem.retired), s)

/-- A stamp slot for a shadow; which one is a free value. -/
def takeSlot (s : State) : Nat × State :=
  let (x, s) := drawBelow (slotCount s) s
  (firstFree (slotCount s) x (s.mem.shadows.map Shadow.slot), s)

/-- The memory berth of a storage address, and its package, sub-channel, block and byte in the block (R501). -/
def storeBerth (st : Nat) : Nat := st / 4096 % 8
def locate (st : Nat) : Nat × Nat × Nat × Nat :=
  let u := st / 4096
  let k := u % 8
  let a := u / 8 * 4096 + st % 4096
  let blk := a / 256
  let c := blk % 48
  (6 * k + c / 8, c % 8, blk / 48, a % 256)

/-! ### Buffers (R504 to R508) -/

/-- The handle of a buffer (R504). -/
def bufHandle (idx gen : Nat) : Nat := idx + gen * 2 ^ 18

/-- The buffer a handle names (R505). -/
def bufOf (s : State) (h : Nat) : Option Buffer :=
  if h % 2 ^ 18 = 0 then none else (Tab.find? (h % 2 ^ 18) s.mem.buffers).filter fun b => b.gen == h / 2 ^ 18

/-- The module address of a buffer's byte 0 (R499). -/
def bufBase (b : Buffer) : Nat := b.page * 65536

/-- The buffer that holds a page. -/
def bufAtPage (s : State) (p : Nat) : Option Buffer :=
  (List.find? (fun x => x.2.page ≤ p ∧ p < x.2.page + x.2.pages) s.mem.buffers).map Prod.snd

/-- Page runs that no new buffer may take: those of buffers, and those freed since the last commit (R508). -/
def usedRuns (s : State) : List (Nat × Nat) :=
  (s.mem.buffers.vals.map fun b => (b.page, b.pages)) ++ s.mem.freeing

/-- Pages that count against the buffer capacity (R506): a remote buffer's pages hold no frame, but take their place
in the window (R546). -/
def usedPages (s : State) : Nat := (usedRuns s).foldl (fun a r => a + r.2) 0

/-- The lowest start of `n` free contiguous pages: 0 or the end of a used run (R506). -/
def findRun (s : State) (n : Nat) : Option Nat :=
  let runs := usedRuns s
  let cap := bufferCapacity s / 65536
  let starts := (0 :: runs.map fun r => r.1 + r.2).filter fun p =>
    p + n ≤ cap ∧ runs.all fun r => p + n ≤ r.1 ∨ r.1 + r.2 ≤ p
  starts.foldl (fun a p => match a with
    | none => some p
    | some q => some (min p q)) none

/-- Creates a buffer of `size` bytes (R506, R507): the refusal, or its handle and base. -/
def createBuffer (size : Nat) (remote : Option (Nat × Nat × Nat × Nat)) (s : State) : Nat ⊕ (Nat × Nat × State) :=
  let n := ceilDiv size 65536
  if size = 0 then .inl St.size
  else match Tab.freeKey 1 262143 s.mem.buffers with
    | none => .inl St.bufferLimit
    | some idx =>
      if bufferCapacity s / 65536 < usedPages s + n then .inl St.noMemory
      else match findRun s n with
        | none => .inl St.noMemory
        | some p =>
          let gen := Tab.getD 0 idx s.mem.gens
          let b : Buffer := { gen := gen, page := p, pages := n, size := size, remote := remote }
          .inr (bufHandle idx gen, p * 65536,
            { s with mem.buffers := Tab.put idx b s.mem.buffers
                     mem.gens := Tab.put idx ((gen + 1) % 2 ^ 14) s.mem.gens })

/-! ### Versions (R348, R359, R367, R510) -/

/-- Lays the cells of a later version over those of an earlier one, for the berths' shares listed. -/
def overlayShares (shares : List Nat) (under upper : Tab Byte) : Tab Byte :=
  (upper.filter fun c => shares.contains (memBerthOf c.1)).foldl (fun t c => Tab.put c.1 c.2 t)
    (under.filter fun c => !shares.contains (memBerthOf c.1))

/-- The folded cells of a page, by offset in the page. -/
def foldedCells (s : State) (p : Nat) : Tab Byte :=
  (s.mem.base.filter fun c => pageOf c.1 = p).map fun c => (c.1 % 65536, c.2)

/-- The committed version of a page (R359, R510). -/
def committedCells (s : State) (p : Nat) : Tab Byte :=
  (byTag (s.mem.shadows.filter fun h => h.page = p ∧ isCommitted s h)).foldl
    (fun t h => overlayShares h.unfolded t h.cells) (foldedCells s p)

/-- The newest shadow of a page that is committed (R510). -/
def committedShadow (s : State) (p : Nat) : Option Shadow :=
  (byTag (s.mem.shadows.filter fun h => h.page == p && isCommitted s h)).getLast?

/-- The frame of a page's committed version; a page that no commit has written holds none (R507, R510). -/
def committedFrame (s : State) (p : Nat) : Option Nat :=
  ((committedShadow s p).map Shadow.frame).or (Tab.find? p s.mem.frames)

/-- The shadow of a page in the pound of a serial (R348). -/
def shadowOf (s : State) (p tag : Nat) : Option Shadow :=
  s.mem.shadows.find? fun h => h.page == p && h.tag == tag && !h.discarded

/-- The newest uncommitted shadow of a page. -/
def newestShadow (s : State) (p : Nat) : Option Shadow :=
  ((byTag (s.mem.shadows.filter fun h => h.page = p ∧ s.pound.committed < h.tag ∧ !h.discarded)).getLast?)

/-- The newest version of a page: the open pound's shadow where one exists, else the committed version (R367). -/
def newestCells (s : State) (p : Nat) : Tab Byte :=
  match newestShadow s p with
  | some h => h.cells
  | none => committedCells s p

/-- `n` bytes of a page's cells from offset `o`. -/
def cellBytes (t : Tab Byte) (o n : Nat) : Bytes := (List.range n).map fun i => Tab.getD 0 (o + i) t

/-- Splits a range at page ends: (page, offset, length). -/
def pageRuns : Nat → Nat → Nat → List (Nat × Nat × Nat)
  | 0, _, _ => []
  | fuel + 1, a, n =>
    if n = 0 then []
    else
      let k := min n (65536 - a % 65536)
      (pageOf a, a % 65536, k) :: pageRuns fuel (a + k) (n - k)

/-- The runs of a range, whole. -/
def runsOf (a n : Nat) : List (Nat × Nat × Nat) := pageRuns (n / 65536 + 2) a n

/-- Bytes of the committed version (R383). -/
def committedRead (s : State) (a n : Nat) : Bytes :=
  (runsOf a n).flatMap fun r => cellBytes (committedCells s r.1) r.2.1 r.2.2

/-- Bytes of the newest applied version (R367, R386). -/
def newestRead (s : State) (a n : Nat) : Bytes :=
  (runsOf a n).flatMap fun r => cellBytes (newestCells s r.1) r.2.1 r.2.2

/-- One byte as a committed read returns it. -/
def committedByte (s : State) (a : Nat) : Byte := Tab.getD 0 (a % 65536) (committedCells s (pageOf a))

/-- One byte as a task reads it. -/
def newestByte (s : State) (a : Nat) : Byte := Tab.getD 0 (a % 65536) (newestCells s (pageOf a))

/-- The pin that holds a page as committed at a serial: the earliest replaced version not older than it. A pin's
serial is the last one its version was the committed version of. -/
def pinFor (s : State) (serial p : Nat) : Option Pin :=
  (s.mem.pins.filter fun x => x.page = p ∧ serial ≤ x.serial).foldl (fun a x => match a with
    | none => some x
    | some y => if x.serial < y.serial then some x else some y) none

/-- The cells of a page as committed at a pinned serial (R384): the pin that holds it, else the committed version. -/
def pinnedCells (s : State) (serial p : Nat) : Tab Byte :=
  match pinFor s serial p with
  | some x => x.cells
  | none => committedCells s p

/-- Bytes of the version committed at a serial, as pins keep it (R384, R652). -/
def pinnedRead (s : State) (serial a n : Nat) : Bytes :=
  (runsOf a n).flatMap fun r => cellBytes (pinnedCells s serial r.1) r.2.1 r.2.2

/-! ### Poison (R521 to R525) -/

/-- The 64-byte lines of a range, by address / 64. -/
def linesOf (a n : Nat) : List Nat := if n = 0 then [] else (List.range ((a + n - 1) / 64 + 1 - a / 64)).map (· + a / 64)

/-- The parity bit that makes it and a byte's eight bits odd (R491). -/
def oddBit (b : Byte) : Bool := (List.range 8).foldl (fun p i => p != b.getLsbD i) true

/-- A byte read with its metadata bit passes the check of R492: the nine bits are odd. -/
def nineOdd (b : Byte) (parity : Bool) : Bool := oddBit b == parity

/-- What a storage address holds (R496, R497, R500): a byte of a version's frame, or of the stamp slot of a shadow that is not
committed. A frame or a slot that is free holds nothing. -/
def holderOf (s : State) (st : Nat) : Option Held :=
  if stampBase s ≤ st then
    if st < 0x017F00000000 then
      (s.mem.shadows.find? fun h => h.slot == (st - stampBase s) / 8192 && !isCommitted s h && !h.discarded).map fun h => .slot h.page h.tag
    else none
  else
    let f := st / 65536
    match s.mem.pins.find? fun x => x.frame == some f with
    | some x => some (.pinned x.page x.serial)
    | none => match s.mem.preImages.find? fun x => x.frame == f with
      | some x => some (.preImage x.slot x.task x.page)
      | none => match s.mem.shadows.find? fun h => h.frame == f && !h.discarded with
        | some h =>
          if !isCommitted s h then some (.shadow h.page h.tag)
          else if committedFrame s h.page = some f then some (.committed h.page) else none
        | none =>
          (List.find? (fun (x : Nat × Nat) => x.2 == f && committedFrame s x.1 == some f) s.mem.frames).map fun x => .committed x.1

/-- A stamp entry's 64 bits (R363). -/
def entryWord (e : StampEntry) : Nat := bit e.valid * 2 ^ 63 + bit e.full * 2 ^ 62 + e.stamp % 2 ^ 62

/-- The byte that a storage address holds; in a stamp slot entry `l` stands in bytes 8l to 8l + 7 (R363, R496). -/
def storedByte (s : State) (st : Nat) : Byte :=
  let o := st % 65536
  match holderOf s st with
  | some (.shadow p tag) => ((s.mem.shadows.find? fun h => h.page == p && h.tag == tag && !h.discarded).map fun h => Tab.getD 0 o h.cells).getD 0
  | some (.slot p tag) =>
    let q := (st - stampBase s) % 8192
    let e := ((s.mem.shadows.find? fun h => h.page == p && h.tag == tag && !h.discarded).bind fun h => Tab.find? (q / 8) h.entries).getD {}
    (leBytes 8 (entryWord e)).getD (q % 8) 0
  | some (.committed p) => committedByte s (p * 65536 + o)
  | some (.pinned p sr) => ((s.mem.pins.find? fun x => x.page == p && x.serial == sr).map fun x => Tab.getD 0 o x.cells).getD 0
  | some (.preImage g k p) =>
    ((s.mem.preImages.find? fun x => x.slot == g && x.task == k && x.page == p).map fun x => Tab.getD 0 o x.cells).getD 0
  | none => 0

/-- The metadata bit stored with a byte: its parity bit, as it was written or gone wrong since (R491, R492). -/
def metaBit (s : State) (st : Nat) : Bool := oddBit (storedByte s st) != s.mem.wrong.contains st

/-- The 256 data bits and 32 metadata bits of the access that holds a byte (R490, R491). -/
def dramAccess (s : State) (st : Nat) : Nat × Nat :=
  let first := st / 32 * 32
  ((List.range 32).foldl (fun v i => v + (storedByte s (first + i)).toNat * 2 ^ (8 * i)) 0,
   (List.range 32).foldl (fun v i => v + bit (metaBit s (first + i)) * 2 ^ i) 0)

/-- Some byte of a line of a frame holds bad parity (R525). -/
def wrongLine (s : State) (f line : Nat) : Bool := s.mem.wrong.any fun a => a / 64 == f * 1024 + line

/-- The lines of a frame that hold bad parity. -/
def wrongLines (s : State) (f : Nat) : List Nat :=
  ((s.mem.wrong.filter fun a => a / 65536 == f).map fun a => a % 65536 / 64).eraseDups

/-- The committed version of a line is poisoned, listed or by bad parity (R523, R525). -/
def committedPoison (s : State) (line : Nat) : Bool :=
  s.mem.poison.contains line || (committedFrame s (line / 1024)).any fun f => wrongLine s f (line % 1024)

/-- The listed lines of a page's committed version, by their place in the page. -/
def pagePoison (s : State) (p : Nat) : List Nat := (s.mem.poison.filter fun l => l / 1024 = p).map (· % 1024)

/-- A committed read of the range meets a poisoned line (R523, R525). -/
def rangePoisoned (s : State) (a n : Nat) : Bool :=
  let meets := fun (l : Nat) => decide (a < (l + 1) * 64 ∧ l * 64 < a + n ∧ n ≠ 0)
  s.mem.poison.any meets || s.mem.wrong.any fun st => match holderOf s st with
    | some (.committed p) => meets (p * 1024 + st % 65536 / 64)
    | _ => false

/-- A task's read of a line meets poison: that of the newest version (R523, R524). -/
def newestPoison (s : State) (line : Nat) : Bool :=
  match newestShadow s (line / 1024) with
  | some h => h.poison.contains (line % 1024) || h.marked.contains (line % 1024)
  | none => committedPoison s line

/-- A line of a pinned version is poisoned. -/
def pinPoison (s : State) (x : Pin) (line : Nat) : Bool := x.poison.contains line || x.frame.any fun f => wrongLine s f line

/-- A line of a pre-image is poisoned. -/
def preImagePoison (s : State) (x : PreImage) (line : Nat) : Bool := x.poison.contains line || wrongLine s x.frame line

/-- A berth's list of poisoned lines is full: those of committed versions, pinned versions and pre-images count (R525). -/
def listFull (s : State) (k : Nat) : Bool :=
  let mine := fun (l : Nat) => memBerthOf (l * 64) == k
  decide (65536 ≤ (s.mem.poison.filter mine).length + (s.mem.pins.flatMap fun x => x.poison.filter mine).length +
    (s.mem.preImages.flatMap fun x => x.poison.filter mine).length)

/-- Some berth's list of poisoned lines is full (R525). -/
def poisonFull (s : State) : Bool := (List.range 8).any (listFull s)

/-! ### Parity errors (R520 to R525) -/

/-- EV_MEM_WORN, when a berth's list of poisoned lines has become full (R525). -/
def wornCheck (k : Nat) (s : State) : State := if listFull s k then logEvent Ev.memWorn (leBytes 1 k) s else s

/-- Counts a line that a berth's list has taken (R525, R527). -/
def tookLine (k : Nat) (s : State) : State := wornCheck k (s.updMemBerth k fun b => { b with poisoned := satInc b.poisoned })

/-- Poisons a line of a committed version: in the berth's list, or while that is full by its bad parity in DRAM (R521, R525). -/
def poisonLine (k line : Nat) (s : State) : State :=
  if s.mem.poison.contains line then s
  else if listFull s k then
    match committedFrame s (line / 1024) with
    | some f => if wrongLine s f (line % 1024) then s else { s with mem.wrong := s.mem.wrong ++ [f * 65536 + line % 1024 * 64] }
    | none => s
  else tookLine k { s with mem.poison := s.mem.poison ++ [line] }

/-- Lines of a page that lie in a memory berth's share (R503). -/
def shareLines (page k : Nat) : List Nat :=
  ((List.range 1024).filter fun l => memBerthOf (l * 64) = k).map (· + page * 1024)

/-- The structure code of what a storage address holds (R887), and whether its errors are those that R525 keeps quiet. -/
def Held.code : Held → Nat
  | .shadow _ _ => 0
  | .slot _ _ => 1
  | .committed _ => 2
  | .pinned _ _ => 3
  | .preImage _ _ _ => 4

/-- The commit that makes a shadow the committed version can no longer be stopped (R369). -/
def commitSure (s : State) (tag : Nat) : Bool :=
  match s.pound.closing with
  | some c => decide (tag ≤ c.serial) && pastVerdict s
  | none => false

/-- EV_MEM_PARITY, which names the place in DRAM and the structure; it is counted, and rolls back but where R525 has it not (R521,
R525, R527, R528). -/
def parityReport (st code : Nat) (quiet : Bool) (s : State) : State :=
  let k := storeBerth st
  let l := locate st
  let args := leBytes 1 l.1 ++ leBytes 1 l.2.1 ++ leBytes 4 l.2.2.1 ++ leBytes 1 code
  let s := s.updMemBerth k fun b => { b with errors := satInc b.errors }
  if quiet then logEvent Ev.memParity args s else raiseFault Ev.memParity args s

/-- A frame is to be retired when the version in it is replaced or released (R521). -/
def retireLater (k f : Nat) (s : State) : State := { s with mem.retiring := Tab.put f k s.mem.retiring }

/-- What a persistent error leaves at its location (R521, R525). A shadow whose commit can no longer be stopped is as a committed version
(notes/assumptions/71.md). -/
def heldOutcome (st : Nat) (v : Held) (s : State) : State :=
  let k := storeBerth st
  let f := st / 65536
  let line := st % 65536 / 64
  match v with
  | .shadow p tag =>
    if commitSure s tag then
      retireLater k f
        { s with mem.shadows := s.mem.shadows.map fun h =>
            if h.page = p ∧ h.tag = tag ∧ !h.discarded then { h with poison := (h.poison ++ [line]).eraseDups } else h }
    else retireFrame k f s
  | .slot p tag => match s.mem.shadows.find? fun h => h.page == p && h.tag == tag && !h.discarded with
    | some h => retireFrame k h.frame s
    | none => s
  | .committed p => poisonLine k (p * 1024 + line) (retireLater k f s)
  | .pinned p sr =>
    let s := retireLater k f s
    if listFull s k then s
    else tookLine k { s with mem.pins := s.mem.pins.map fun x =>
      if x.page = p ∧ x.serial = sr then { x with poison := (x.poison ++ [line]).eraseDups } else x }
  | .preImage g n p =>
    let s := retireLater k f s
    if listFull s k then s
    else tookLine k { s with mem.preImages := s.mem.preImages.map fun x =>
      if x.slot = g ∧ x.task = n ∧ x.page = p then { x with poison := (x.poison ++ [line]).eraseDups } else x }

/-- A line's place in its version is known to be poisoned, so that its bad parity is no new error (R521, R524, R525). -/
def knownPoison (s : State) (v : Held) (line : Nat) : Bool :=
  match v with
  | .shadow p tag => (shadowOf s p tag).any fun h => h.poison.contains line || h.marked.contains line
  | .slot _ _ => false
  | .committed p => s.mem.poison.contains (p * 1024 + line)
  | .pinned p sr => (s.mem.pins.find? fun x => x.page == p && x.serial == sr).any fun x => x.poison.contains line
  | .preImage g n p => (s.mem.preImages.find? fun x => x.slot == g && x.task == n && x.page == p).any fun x => x.poison.contains line

/-- Errors of a version that R525 handles without a rollback while its berth's list is full. -/
def quietError (s : State) (k : Nat) (v : Held) : Bool :=
  listFull s k && match v with
    | .shadow _ _ | .slot _ _ => false
    | .committed _ | .pinned _ _ | .preImage _ _ _ => true

/-- The second read of an access repeats the parity error of a byte (R521). -/
def byteError (st : Nat) (s : State) : State :=
  match holderOf s st with
  | some v => if knownPoison s v (st % 65536 / 64) then s else heldOutcome st v (parityReport st v.code (quietError s (storeBerth st) v) s)
  | none => s

/-- A persistent error at a location. A byte that has gone wrong stays so in its cell. -/
def parityFault (loc : MemLoc) (s : State) : State :=
  match loc with
  | .byte st => byteError st (if s.mem.wrong.contains st then s else { s with mem.wrong := s.mem.wrong ++ [st] })
  | .pageTable second st =>
    let k := storeBerth st
    (tableUpdate k (parityReport st 5 false s)).updMemBerth k fun b =>
      { (if second then { b with tableB := b.tableA } else tablesAlike b) with repairs := satInc b.repairs }
  | .bothTables page st =>
    let k := storeBerth st
    tableUpdate k ((shareLines page k).foldl (fun s l => poisonLine k l s) (parityReport st 5 false s))
  | .lowered h st =>
    let s := parityReport st 6 false s
    { s with work.relower := Tab.put s.work.jobNo h s.work.relower, work.jobNo := s.work.jobNo + 1 }

/-- The second read of an access is clean (R520). -/
def parityRetry (k : Nat) (s : State) : State := s.updMemBerth k fun b => { b with retries := satInc b.retries }

/-- What a DRAM read at a memory berth shows of parity beside what the cells hold (R520, R521). -/
def paritySeen (k : Nat) (p : ParitySeen) (s : State) : State :=
  match p with
  | .clean => s
  | .retried => parityRetry k s
  | .persistent loc => parityFault loc s

/-- The first of the storage addresses in each line. -/
def lineHeads (l : List Nat) : List Nat := l.foldl (fun a st => if a.any fun x => x / 64 == st / 64 then a else a ++ [st]) []

/-- The bytes with bad parity that a read of the range meets in the versions it sees. -/
def wrongIn (s : State) (sees : Held → Option Nat) (a n : Nat) : List Nat :=
  lineHeads (s.mem.wrong.filter fun st => match (holderOf s st).bind sees with
    | some p => decide (a ≤ p * 65536 + st % 65536 ∧ p * 65536 + st % 65536 < a + n)
    | none => false)

/-- The page of a version that a committed read sees, and that a task's read sees; that of a read of the version committed at a serial
(R367, R383, R384). -/
def seesCommitted : Held → Option Nat
  | .committed p => some p
  | _ => none
def seesNewest (s : State) : Held → Option Nat
  | .shadow p tag => if (newestShadow s p).any fun h => h.tag == tag then some p else none
  | .committed p => if (newestShadow s p).isNone then some p else none
  | _ => none
def seesPinned (s : State) (serial : Nat) : Held → Option Nat
  | .pinned p sr => if (pinFor s serial p).any fun x => x.serial == sr then some p else none
  | .committed p => if (pinFor s serial p).isNone then some p else none
  | _ => none

/-- A read of a range checks every byte it reads (R492, R520, R521): each line in which a byte does not check is an error. -/
def readErrors (sees : Held → Option Nat) (a n : Nat) (s : State) : State :=
  (wrongIn s sees a n).foldl (fun s st => byteError st s) s

/-! ### Pool use (R352 to R354, R522) -/

/-- The frames of versions that a commit has replaced and the fold has not returned yet (R357, R511). -/
def replacedFrames (s : State) : List Nat :=
  (((s.mem.shadows.filter fun h => isCommitted s h).flatMap fun h => h.frame :: (Tab.find? h.page s.mem.frames).toList).eraseDups).filter
    fun f => !(s.mem.shadows.any fun h => h.frame == f && committedFrame s h.page == some f) &&
      !(s.mem.pins.any fun x => x.frame == some f)

/-- Frames the pool has in use: shadows, replaced versions not yet returned, pins, pre-images, held torus data, retired frames. Held torus
data takes one frame for each 64 KiB begun (notes/assumptions/34.md). -/
def poolUse (s : State) : Nat :=
  (s.mem.shadows.filter fun h => !isCommitted s h).length + (replacedFrames s).length + s.mem.pins.length + s.mem.preImages.length +
  ceilDiv (s.torus.held.foldl (fun a w => a + w.data.length) 0) 65536 + s.mem.retired.length

/-- Whether a write of the pound of `serial` may take a shadow page (R353, R354). -/
def poolAdmits (s : State) (serial : Nat) : Bool :=
  match s.pound.closing with
  | some c =>
    if serial = c.serial then poolUse s < poolPages s else poolUse s + poolPages s / 64 < poolPages s
  | none => poolUse s < poolPages s

/-! ### A write reaches a line (R347 to R350, R362 to R364, R371) -/

/-- The newest uncommitted shadow of a page in a pound before that of `tag`. -/
def shadowBelow (s : State) (p tag : Nat) : Option Shadow :=
  (byTag (s.mem.shadows.filter fun h =>
    h.page = p ∧ s.pound.committed < h.tag ∧ h.tag < tag ∧ !h.discarded)).getLast?

/-- The version that a new shadow of a page copies: the newest no later than its pound (R349). -/
def sourceFrame (s : State) (p tag : Nat) : Option Nat := ((shadowBelow s p tag).map Shadow.frame).or (committedFrame s p)

/-- A new shadow of a page in a frame, with a stamp slot: the content of the newest version no later than its pound, that version's poison,
the lines whose bad parity the copy carries, and entries at 0 (R349, R363, R525). -/
def newShadow (s : State) (p tag frame slot : Nat) : Shadow :=
  let marked := ((sourceFrame s p tag).map (wrongLines s)).getD []
  match shadowBelow s p tag with
  | some h => { page := p, tag := tag, frame := frame, slot := slot, marked := marked, cells := h.cells, ready := false, poison := h.poison }
  | none =>
    { page := p, tag := tag, frame := frame, slot := slot, marked := marked, cells := committedCells s p, ready := false
      poison := pagePoison s p }

/-- The copy carries the bad parity of the bytes it reads (R525). -/
def carryWrong (source frame : Nat) (s : State) : State :=
  { s with mem.wrong := s.mem.wrong ++ ((s.mem.wrong.filter fun a => a / 65536 == source).map fun a => frame * 65536 + a % 65536) }

/-- Takes a shadow for a page (R349): what the copy reads is checked (R492), and carried as it is (R525). -/
def addShadow (p tag : Nat) (s : State) : State :=
  let s := match sourceFrame s p tag with
    | some f => (lineHeads (s.mem.wrong.filter fun a => a / 65536 == f)).foldl (fun s st => byteError st s) s
    | none => s
  let (f, s) := poolFrame s
  let (q, s) := takeSlot s
  let s' : State := { s with mem.shadows := s.mem.shadows ++ [newShadow s p tag f q] }
  tablesUpdate (match sourceFrame s p tag with
    | some g => carryWrong g f s'
    | none => s')

/-- Stamp entries compare by R320 with TIME modulo 2^50 (R363). -/
def entryEarlier (a b : Nat) : Bool :=
  let ta := a / 4096 % 2 ^ 50
  let tb := b / 4096 % 2 ^ 50
  let d := (tb + 2 ^ 50 - ta) % 2 ^ 50
  if d ≠ 0 then d < 2 ^ 49 else a % 4096 < b % 4096

/-- The entry of a line in a shadow. -/
def entryOf (h : Shadow) (line : Nat) : StampEntry := Tab.getD {} line h.entries

/-- Writes changed bytes, by offset in the page, into the cells of a page. -/
def putCells (t c : Tab Byte) : Tab Byte := c.foldl (fun t p => Tab.putD 0 p.1 p.2 t) t

/-- The bytes a write changes, by offset in its page (R410). -/
def WriteReq.cells (w : WriteReq) : Tab Byte :=
  (w.data.zipIdx.filter fun p => !w.gaps.contains p.2).map fun p => (w.addr % 65536 + p.2, p.1)

/-- A write of all 64 bytes of a line leaves none of it poisoned (R524). -/
def clearPoison (line : Nat) (c : Tab Byte) (poison : List Nat) : List Nat :=
  if c.length == 64 then poison.filter (· ≠ line) else poison

/-- Applies a write's part in a line to a shadow by its byte enables and sets the line's entry (R364, R524). -/
def applyToShadow (h : Shadow) (line : Nat) (c : Tab Byte) (stamp : Nat) : Shadow :=
  { h with
    cells := putCells h.cells c
    entries := Tab.put line { valid := true, full := c.length == 64, stamp := stamp % 2 ^ 62 } h.entries
    poison := clearPoison line c h.poison, marked := clearPoison line c h.marked }

/-- Replaces one shadow of the list. -/
def setShadow (h : Shadow) (l : List Shadow) : List Shadow :=
  l.map fun x => if x.page = h.page ∧ x.tag = h.tag ∧ !x.discarded then h else x

/-- Counts a write of pound `serial` as applied or discarded at its berth (R357). -/
def countDone (k serial : Nat) (s : State) : State :=
  s.updMemBerth k fun b => { b with done := Tab.put serial (Tab.getD 0 serial b.done + 1) b.done }

/-- Notes what a barge has written (R616, R617), and the pound that holds a mail command's
bytes (R660) or a released torus write (R392). -/
def noteBargeWrite (w : WriteReq) (serial : Nat) (s : State) : State :=
  match w.orig with
  | .barge n => s.updBarge n fun b =>
      match bufOf s b.handle with
      | some bf => { b with written := b.written ++ [(w.addr - bufBase bf - b.start, w.data.length, serial)]
                            lastSerial := max b.lastSerial serial }
      | none => b
  | .mail job =>
    match Tab.find? job s.work.jobs with
    | some { kind := .atCommit sr pre addr d, src, handle, code, corr, since } =>
      let j : Job :=
        { kind := .atCommit (max sr serial) pre addr d, src := src, handle := handle, code := code, corr := corr, since := since }
      { s with work.jobs := Tab.put job j s.work.jobs }
    | _ => s
  | .released k => { s with torus.released := Tab.modify k (fun x => (x.1, max x.2 serial)) s.torus.released }
  | _ => s

/-- Each byte is written with its parity bit as that bit arrived (R492). -/
def storeParity (f : Nat) (c : Tab Byte) (bad : List Nat) (s : State) : State :=
  { s with mem.wrong := (s.mem.wrong.filter fun a => !(a / 65536 == f && Tab.has (a % 65536) c)) ++
      ((bad.filter fun o => Tab.has o c).map fun o => f * 65536 + o) }

/-- The 32-byte accesses that a part of a write in a line covers in part, by their place in the page: each is read, merged and written
back (R490, R493). -/
def partAccesses (c : Tab Byte) : List Nat :=
  ((c.map fun x => x.1 / 32).eraseDups).filter fun a => (c.filter fun x => x.1 / 32 = a).length < 32

/-- The bytes with bad parity that a line test meets, in a line that is not known to be poisoned: of the line's stamp entry, which is read
and written in its access, and of the accesses that the write covers in part (R364, R492, R493). -/
def testErrors (s : State) (h : Shadow) (line : Nat) (c : Tab Byte) : List Nat :=
  let entry := s.mem.wrong.filter fun a => a / 32 == (stampBase s + 8192 * h.slot + 8 * line) / 32
  let halves := if h.poison.contains line || h.marked.contains line then []
    else s.mem.wrong.filter fun a => a / 65536 == h.frame && (partAccesses c).contains (a % 65536 / 32)
  entry ++ halves

/-- A write of the closing pound that is applied goes into the next pound's shadow of its page too, where the line has not been
written there, and a whole line clears its poison there as well (R350, R524). -/
def secondShadow (page line serial : Nat) (c : Tab Byte) (bad : List Nat) (s : State) : State :=
  match s.pound.closing with
  | some cl =>
    if serial = cl.serial then
      match shadowOf s page cl.next with
      | some h =>
        if (entryOf h line).valid then s
        else
          let h' : Shadow :=
            { h with cells := putCells h.cells c, poison := clearPoison line c h.poison, marked := clearPoison line c h.marked }
          storeParity h.frame c bad { s with mem.shadows := setShadow h' s.mem.shadows }
      | none => s
    else s
  | none => s

/-- The line test of R364 on the part of a write that falls in one line of its page; what it reads of the line and of its entry is checked
(R492, R493). -/
def lineTest (k st serial page line : Nat) (c : Tab Byte) (bad : List Nat) (s : State) : State :=
  match shadowOf s page serial with
  | none => s
  | some h =>
    let s := (testErrors s h line c).foldl (fun s a => byteError a s) s
    let e := entryOf h line
    if e.valid && entryEarlier st e.stamp then
      let s := s.updMemBerth k fun b => { b with stale := satInc b.stale }
      if e.full then s
      else
        raiseFault Ev.lateWrite
          (leBytes 1 k ++ leBytes 8 ((page * 1024 + line) * 64) ++ leBytes 8 st ++ leBytes 8 e.stamp)
          s
    else
      secondShadow page line serial c bad
        (storeParity h.frame c bad { s with mem.shadows := setShadow (applyToShadow h line c st) s.mem.shadows })

/-- The lines that changed bytes of a page lie in, rising. -/
def cellLines (c : Tab Byte) : List Nat := (c.map fun p => p.1 / 64).eraseDups

/-- A write reaches its lines (R364). -/
def linesTest (id : Nat) (w : WriteReq) (st serial : Nat) (s : State) : State :=
  let k := memBerthOf w.addr
  let s : State := { s with mem.writes := Tab.del id s.mem.writes }
  let s := (cellLines w.cells).foldl (fun s l =>
    lineTest k st serial (pageOf w.addr) l (w.cells.filter fun p => p.1 / 64 = l) (w.bad.map (w.addr % 65536 + ·)) s) s
  noteBargeWrite w serial (countDone k serial s)

/-! ### The fold of committed versions (R510, R511) -/

/-- A berth folds its share of a committed shadow into the page's entry. Once the last berth has folded its share, the frame replaced goes
back to the pool. -/
def foldShare (k : Nat) (h : Shadow) (s : State) : State :=
  let mine := fun (o : Nat) => memBerthOf o == k
  let kept := s.mem.base.filter fun c => !(pageOf c.1 == h.page && mine (c.1 % 65536))
  let base := (h.cells.filter fun c => mine c.1).foldl (fun t c => Tab.put (h.page * 65536 + c.1) c.2 t) kept
  let h' : Shadow := { h with unfolded := h.unfolded.filter (· ≠ k) }
  let s : State := { s with mem.base := base }
  if h'.unfolded = [] then
    let old := (Tab.find? h.page s.mem.frames).toList
    tableUpdate k (releaseFrames old
      { s with
        mem.shadows := s.mem.shadows.filter fun x => !(x.page == h.page && x.tag == h.tag && !x.discarded)
        mem.frames := Tab.put h.page h.frame s.mem.frames })
  else tableUpdate k { s with mem.shadows := setShadow h' s.mem.shadows }

/-- The oldest committed shadow whose share a berth still holds. -/
def nextFold (s : State) (k : Nat) (p : Shadow → Bool) : Option Shadow :=
  (byTag (s.mem.shadows.filter fun h => isCommitted s h && h.unfolded.contains k && p h)).head?

/-- A berth folds the oldest committed shadow whose share it still holds into the page's entry. -/
def foldStep (k : Nat) (s : State) : State :=
  match nextFold s k fun _ => true with
  | some h => foldShare k h s
  | none => s

/-- The berths fold every committed shadow of a page. -/
def foldPage (p : Nat) (s : State) : State :=
  (List.range 8).foldl (fun s k => (List.range s.mem.shadows.length).foldl (fun s _ =>
    match nextFold s k fun h => h.page == p with
    | some h => foldShare k h s
    | none => s) s) s

/-- An entry that still holds two shadows is folded before it takes another (R348, R511). -/
def foldFull (p : Nat) (s : State) : State :=
  if 2 ≤ (s.mem.shadows.filter fun h => h.page == p && !h.discarded).length then foldPage p s else s

/-- Takes a released or late write to its line: the shadow it belongs to, a new shadow where the pool admits one, or
a wait (R349, R353, R354). -/
def applyWrite (id : Nat) (s : State) : State :=
  match Tab.find? id s.mem.writes with
  | none => s
  | some w =>
    match w.stamp with
    | none => s
    | some st =>
      let t := stampInstant s.ft st
      let serial := serialOfTime s t
      let p := pageOf w.addr
      match shadowOf s p serial with
      | some h =>
        if h.ready then linesTest id w st serial s
        else { s with mem.writes := Tab.put id { w with stage := .copying } s.mem.writes }
      | none =>
        if poolAdmits s serial then
          let s := addShadow p serial (foldFull p s)
          { s with mem.writes := Tab.put id { w with stage := .copying } s.mem.writes }
        else
          let s := s.updMemBerth (memBerthOf w.addr) fun b =>
            if w.stage = .pool then b else { b with poolWait := satInc b.poolWait }
          { s with mem.writes := Tab.put id { w with stage := .pool } s.mem.writes }

/-- The writes of a stage at a berth in stamp order (R362). -/
def insertByStamp (x : Nat × WriteReq) : List (Nat × WriteReq) → List (Nat × WriteReq)
  | [] => [x]
  | y :: t => if earlier (x.2.stamp.getD 0) (y.2.stamp.getD 0) then x :: y :: t else y :: insertByStamp x t

def stampOrder (l : List (Nat × WriteReq)) : List (Nat × WriteReq) := l.foldl (fun a x => insertByStamp x a) []

/-! ### A write leaves its issuer (R316, R357, R361, R410) -/

/-- Splits data at the multiples of a size. -/
def blockChunks (size : Nat) : Nat → Nat → Bytes → List (Nat × Bytes)
  | 0, _, _ => []
  | fuel + 1, a, d =>
    if d = [] then []
    else
      let n := size - a % size
      (a, d.take n) :: blockChunks size fuel (a + n) (d.drop n)

/-- Counts a write of pound `serial` as sent to its memory berth (R357). -/
def countIssued (k serial : Nat) (s : State) : State :=
  s.updMemBerth k fun b => { b with issued := Tab.put serial (Tab.getD 0 serial b.issued + 1) b.issued }

/-- A write that came over the torus: it is held, and belongs to no pound of this module until released (R389, R391). -/
def torusWrite (w : WriteReq) : Bool :=
  match w.orig with
  | .torus _ _ _ _ => true
  | _ => false

/-- Notes a new write, and its number. -/
def newWrite (w : WriteReq) (s : State) : Nat × State :=
  (s.mem.writeNo, { s with mem.writes := Tab.put s.mem.writeNo w s.mem.writes, mem.writeNo := s.mem.writeNo + 1 })

/-- A write's berth grants it transmit credit: it takes its stamp now, or waits for one at the issuer (R317, R361). One that has
its stamp keeps it. -/
def stampWrite (id : Nat) (s : State) : State :=
  match Tab.find? id s.mem.writes with
  | none => s
  | some w =>
    if w.stage = .berth then
      let sent := fun (st : Option Nat) (s : State) =>
        ({ s with mem.writes := Tab.put id { w with stage := .flight, stamp := st } s.mem.writes } : State)
      if w.stamp.isSome then sent w.stamp s
      else
        let (st, s) := issueStamp w.berth (.write id) s
        sent st (if st.isSome && !torusWrite w then countIssued (memBerthOf w.addr) (openSerial s) s else s)
    else s

/-- Writes of an origin still on their way to their lines. -/
def writesPending (s : State) (o : WriteFrom) : Bool := s.mem.writes.any fun p => p.2.orig = o

end Sys2Proof.Machine
end

