-- ==== Sys2Proof/Machine/Mail.lean ====
section
/-!
DEFINITION. How firmware takes a mail message and refuses it: the order of reading, the layouts, the refusals of R628
and R890, the classes of R630 and the authority of R631, R768 and R769. A command's own effect is the body that
`mailStep` runs once none of them applies.
-/

namespace Sys2Proof.Machine

/-! ### Taking a message (R609, R628, R629, R673, R743) -/

/-- The lockkeepers serve mail: configuration is loaded (R815), and they are not halted for debug (R673), in the
self-test of R743, or stranded (R750). -/
def lkServing (s : State) : Bool :=
  4 ≤ s.boot.phase && !s.boot.romHalt && s.sec.halted.isNone && s.lk.test.isNone && !stranded s

/-- The first of a rising list after `last`, going round (R607, R609). -/
def nextAfter (l : List Nat) (last : Nat) : Option Nat := (l.find? fun k => decide (last < k)).or l.head?

/-- The session whose message firmware takes next (R609). -/
def mailTurn (s : State) : Option Nat :=
  nextAfter ((s.net.sessions.filter fun p => p.2.st = .opened ∧ p.2.inbox ≠ []).map Prod.fst) s.net.lastMail

/-- The codes of R633 that a partner may send. -/
def mailCodes : List Nat :=
  [0x01, 0x02, 0x03, 0x04, 0x05, 0x10, 0x11, 0x12, 0x13, 0x18, 0x19, 0x20, 0x21, 0x28, 0x29, 0x30, 0x31] ++
  [0x38, 0x39, 0x3A, 0x40, 0x41, 0x42, 0x43, 0x48, 0x49, 0x4A, 0x50, 0x51, 0x58, 0x59, 0x5A, 0x60, 0x61, 0x62]

/-- The CODE of a message, where it has one of the command table (R628). -/
def mailCode (m : Bytes) : Option Nat :=
  if m.length < 8 then none
  else if mailCodes.contains (leField m 0 2) then some (leField m 0 2) else none

/-- A message the debug agent serves while the lockkeepers are halted (R672, R673). -/
def forAgent (m : Bytes) : Bool := mailCode m == some 0x61 || mailCode m == some 0x62

/-- The message firmware, or while the pair is halted the debug agent, would take next from a sender. -/
def frontMail (s : State) : MailSrc → Option Bytes
  | .session i =>
    if (s.session i).st ≠ .opened then none
    else if lkServing s then
      if mailTurn s = some i then (s.session i).inbox.head? else none
    else if s.sec.halted.isSome && s.lk.test.isNone && !stranded s then (s.session i).inbox.find? forAgent
    else none
  | .jtag =>
    if lkServing s then s.sec.jtag.mail
    else if s.sec.halted.isSome && s.lk.test.isNone && !stranded s then s.sec.jtag.mail.filter forAgent
    else none

/-- Takes a message out of its slot (R609). -/
def dropMail (src : MailSrc) (m : Bytes) (s : State) : State :=
  match src with
  | .session i =>
    { s.updSession i (fun ss => { ss with inbox := ss.inbox.erase m }) with net.lastMail := i }
  | .jtag => { s with sec.jtag.mail := none }

/-- Takes the next message of a sender where a test selects it. -/
def takeMail (src : MailSrc) (sel : Bytes → Bool) (s : State) : Option (Bytes × State) :=
  match frontMail s src with
  | none => none
  | some m => if sel m then some (m, dropMail src m s) else none

/-! ### Layouts (R626, R628, and each message's table) -/

/-- The length a message of a code must have, counting its COUNT or LENGTH field (R628). -/
def mailLength (code : Nat) (m : Bytes) : Nat :=
  if [0x01, 0x02, 0x30, 0x31, 0x49, 0x4A, 0x51, 0x62].contains code then 8
  else if [0x04, 0x05, 0x10, 0x11, 0x19, 0x21, 0x39, 0x3A, 0x40, 0x48, 0x60].contains code then 16
  else if [0x03, 0x20, 0x29, 0x42, 0x5A].contains code then 24
  else if [0x12, 0x13, 0x18, 0x28, 0x43, 0x50, 0x61].contains code then 32
  else if code = 0x38 then 16 + 4 * leField m 0x0A 2
  else if code = 0x41 then 16 + leField m 0x0A 2
  else if code = 0x58 then 56
  else if code = 0x59 then 48
  else 0

/-- Reserved bits of an ENDPOINT (R643). -/
def endpointReserved (e : Nat) : Bool := if e.testBit 31 then bitsOf e 30 16 ≠ 0 else bitsOf e 30 24 ≠ 0

/-- A reserved field of the message is not 0, STATUS of a request among them (R12, R626). -/
def mailReserved (code : Nat) (m : Bytes) : Bool :=
  let f := fun o n => leField m o n ≠ 0
  f 4 2 || f 6 2 ||
  (code = 0x03 && f 0x12 6) || (code = 0x04 && (leField m 8 8 % 2 = 1 || bitsOf (leField m 8 8) 63 14 ≠ 0)) ||
  (code = 0x05 && f 0x0E 2) || (code = 0x11 && f 0x0C 4) ||
  (code = 0x12 && (endpointReserved (leField m 8 4) || f 0x1A 6)) ||
  (code = 0x13 && (2 ≤ leField m 0x0C 4 || f 0x1C 4)) || (code = 0x18 && f 0x0E 2) || (code = 0x19 && f 0x0A 6) ||
  ([0x21, 0x28, 0x42, 0x43, 0x50].contains code && f 0x0C 4) || (code = 0x29 && f 0x09 7) || (code = 0x38 && f 0x0C 4) ||
  (code = 0x38 && (List.range (leField m 0x0A 2)).any fun i => bitsOf (leField m (0x10 + 4 * i) 4) 30 24 ≠ 0) ||
  (code = 0x39 && endpointReserved (leField m 8 4)) || (code = 0x3A && f 0x0A 6) || (code = 0x40 && f 0x0A 6) ||
  (code = 0x41 && f 0x0C 4) || (code = 0x48 && f 0x0A 6) || (code = 0x58 && f 0x2C 4) || (code = 0x59 && f 0x0B 5) ||
  (code = 0x5A && f 0x09 7) || (code = 0x60 && f 0x09 7) ||
  (code = 0x61 && (f 0x09 1 || f 0x0A 2 || f 0x18 8))

/-- A value outside the range its layout states, or not 0 where its layout states 0 (R890): the status, or 0. -/
def mailRange (code : Nat) (m : Bytes) : Nat :=
  if code = 0x12 then (if leField m 0x10 8 = 0 then St.size else 0)
  else if code = 0x13 then (if 992 < leField m 0x18 4 then St.memRange else 0)
  else if code = 0x18 then
    if 1 < leField m 0x0C 1 ∨ 1 < leField m 0x0D 1 then St.indexRange
    else if leField m 0x0D 1 ≠ 0 ∧ leField m 0x0C 1 = 0 then St.reserved else 0
  else if code = 0x38 then (if 250 < leField m 0x0A 2 then St.indexRange else 0)
  else if code = 0x39 then
    if 7 < leField m 0x0C 1 ∨ leField m 0x0D 1 = 0 ∨ 12 < leField m 0x0D 1 then St.indexRange else 0
  else if code = 0x48 then
    if 4 < leField m 8 1 then St.powerState
    else if 11 < leField m 9 1 then St.indexRange
    else if leField m 9 1 ≠ 0 ∧ leField m 8 1 ≠ 1 then St.reserved else 0
  else if code = 0x59 then
    if 255 < leField m 8 2 ∨ 1 < leField m 0x0A 1 then St.indexRange
    else if leField m 0x0A 1 = 1 ∧ leField m 0x10 32 ≠ 0 then St.reserved else 0
  else if code = 0x5A then (if 4 < leField m 8 1 then St.lifecycle else 0)
  else if code = 0x60 then (if leField m 8 1 = 0 ∨ 3 < leField m 8 1 then St.debugLevel else 0)
  else if code = 0x61 then
    if 3 < leField m 8 1 then St.indexRange
    else if leField m 8 1 = 3 ∧ 992 < leField m 0x0C 4 then St.memRange
    else if leField m 8 1 ≠ 3 ∧ (leField m 0x0C 4 ≠ 0 ∨ leField m 0x10 8 ≠ 0) then St.reserved else 0
  else 0

/-! ### Authority (R631, R767 to R769, R783, R785) -/

/-- The class of a key slot: 0 ADMIN, 1 DEBUG, 2 DATA (R759). -/
def slotClass (slot : Nat) : Nat := if slot ≤ 3 then 0 else if slot ≤ 7 then 1 else 2

/-- The messages marked K (R633). -/
def keyMessage (code : Nat) : Bool :=
  [0x38, 0x41, 0x43, 0x48, 0x49, 0x4A, 0x50, 0x51, 0x59, 0x5A, 0x60, 0x61, 0x62].contains code

/-- The class a sender acts with, where it has one. -/
def senderClass (s : State) : MailSrc → Option Nat
  | .session i => (s.session i).key.map slotClass
  | .jtag => s.sec.jtag.auth

/-- The debug level a sender holds. -/
def senderLevel (s : State) : MailSrc → Nat
  | .session i => (s.session i).level
  | .jtag => s.sec.jtag.level

/-- The refusal of a sender without the authority a message needs, or 0. -/
def mailAuthority (s : State) (src : MailSrc) (code : Nat) (m : Bytes) : Nat :=
  let lc := lifeCycle s
  let debug := code = 0x60 ∨ code = 0x61 ∨ code = 0x62
  if lc = 4 then (if code = 0x01 then 0 else St.lifecycle)
  else if src = .jtag ∧ [0x18, 0x19, 0x04].contains code then St.command
  else if src = .jtag ∧ (code = 0x03 ∨ code = 0x05) ∧ s.sec.jtag.level = 0 then St.debugLevel
  else if !keyMessage code then 0
  else if src ≠ .jtag ∧ (senderClass s src).isNone ∧ lc ≠ 0 then St.authRequired
  else if lc = 0 then 0
  else if debug then
    if senderClass s src = some 1 ∨ (lc = 3 ∧ src = .jtag) then 0 else St.denied
  else if lc = 3 then
    if src ≠ .jtag then St.denied
    else if code = 0x59 ∧ (s.sec.jtag.level ≠ 3 ∨ leField m 8 2 < 4) then St.denied
    else 0
  else if senderClass s src ≠ some 0 then St.denied
  else if code = 0x59 ∧ leField m 8 2 = 0 then St.denied
  else 0

/-! ### Classes (R630) -/

/-- The class of a message: 0 T, 1 C, 2 M, 3 G (R633). -/
def mailClass (code : Nat) : Nat :=
  if [0x01, 0x02, 0x03, 0x04, 0x05, 0x31, 0x48, 0x49, 0x4A, 0x5A, 0x62].contains code then 0
  else if [0x38, 0x40, 0x41, 0x51, 0x59, 0x60, 0x61].contains code then 1
  else if code = 0x18 ∨ code = 0x28 then 3
  else 2

/-- The refusal of a message by its class, or 0 (R630). -/
def mailClassGate (s : State) (code : Nat) : Nat :=
  let c := mailClass code
  if 2 ≤ c ∧ !ready s then St.notReady
  else if 2 ≤ c ∧ 3 ≤ s.power.pstate then St.powerState
  else if 1 ≤ c ∧ lightLost s then St.lightLost
  else if c = 3 ∧ poisonFull s then St.memWorn
  else 0

/-- The refusal that comes before a message's own checks, or 0: R628 in its order, then the authority of the sender,
then the class (notes/assumptions/10.md). -/
def mailRefusal (s : State) (src : MailSrc) (code : Nat) (m : Bytes) : Nat :=
  if m.length ≠ mailLength code m then St.length
  else if mailReserved code m then St.reserved
  else if mailRange code m ≠ 0 then mailRange code m
  else if mailAuthority s src code m ≠ 0 then mailAuthority s src code m
  else mailClassGate s code

/-! ### The message step (R629, R737) -/

/-- The checkpoint at the end of a message step records the last released output (R737). -/
def checkpointStep (s : State) : State :=
  { s with lk.outSeq := s.lk.outSeq + 1, lk.checkpoint := s.lk.outSeq + 1 }

/-- One message step: takes the sender's next message where it is one of `code` (and of `sel`), refuses it by the
first row that applies, or runs the message's body. Where there is no such message nothing happens. -/
def mailStepSel (src : MailSrc) (code : Nat) (sel : Bytes → Bool) (body : Nat → Bytes → State → State) (s : State) :
    State :=
  match takeMail src (fun m => mailCode m == some code && sel m) s with
  | none => s
  | some (m, s) =>
    let corr := leField m 2 2
    let st := mailRefusal s src code m
    checkpointStep (if st = 0 then body corr m s else answer src code corr st [] s)

/-- One message step of a code. -/
def mailStep (src : MailSrc) (code : Nat) (body : Nat → Bytes → State → State) (s : State) : State :=
  mailStepSel src code (fun _ => true) body s

/-- A message without a CODE of the table (R628): ST_LENGTH with CODE 0x8000 below 8 bytes, else ST_COMMAND. -/
def refuseUnparsed (src : MailSrc) (s : State) : State :=
  match takeMail src (fun m => (mailCode m).isNone) s with
  | none => s
  | some (m, s) =>
    checkpointStep
      (if m.length < 8 then answer src 0 0 St.length [] s
       else answer src (leField m 0 2) (leField m 2 2) St.command [] s)

/-- MAIL_REFUSED_UNPARSED (R628). -/
def execMailRefusedUnparsed (src : MailSrc) (s : State) : Host.Outcome State Fault Refusal :=
  .next (refuseUnparsed src s)

/-! ### Buffer ranges named in mail (R634) -/

/-- The refusal of a range that a message names, or the buffer. `source` is set for a range that is read. -/
def mailBuffer (s : State) (handle offset len : Nat) (source : Bool) : Nat ⊕ Buffer :=
  match bufOf s handle with
  | none => .inl St.bufferHandle
  | some b =>
    if b.remote.isSome then .inl St.remoteBuffer
    else if b.size < offset + len then .inl St.memRange
    else if source && rangePoisoned s (bufBase b + offset) len then .inl St.memPoison
    else .inr b

/-- A range that is read is checked for parity as it is read (R492, R521). -/
def sourceErrors (handle offset len : Nat) (s : State) : State :=
  match bufOf s handle with
  | some b => if b.remote.isSome || b.size < offset + len then s else readErrors seesCommitted (bufBase b + offset) len s
  | none => s

/-- Refuses by a status, or runs the rest. -/
def orRefuse {α : Type} (src : MailSrc) (code corr : Nat) (r : Nat ⊕ α) (k : α → State → State) (s : State) : State :=
  match r with
  | .inl st => answer src code corr st [] s
  | .inr x => k x s

end Sys2Proof.Machine
end

