-- ==== Sys2Proof/Machine/Links.lean ====
section
/-!
DEFINITION. Links of the photonic base and of the fibres: their numbers and lanes, the default port plan, the units and sources of a
receive link, lock-window slots (R397 to R400, R418, R421, R422, R426, R432 to R434, R457, R572).
-/

namespace Sys2Proof.Machine

/-! ### Links that carry traffic (R27, R447, R572) -/

/-- A link that carries traffic: UP, UP15 or RELIEF (R447). -/
def linkUp (s : State) (l : Nat) : Bool := (s.link l).state == 2 || (s.link l).state == 3 || (s.link l).state == 4

/-- The links of the wharf's berth and of a memory berth carry traffic, so that the wharf reads and writes there (R27, R442). -/
def wharfReaches (s : State) (k : Nat) : Bool :=
  s.base.reset.isNone && (List.range 8).any (fun i => linkUp s (480 + i)) && (List.range 8).any fun i => linkUp s (16 * (16 + k) + i)

/-- The memory berths of a range's bytes (R503). -/
def rangeBerths (a n : Nat) : List Nat :=
  if n = 0 then [] else ((List.range (min 8 ((a + n - 1) / 4096 + 1 - a / 4096))).map fun i => (a / 4096 + i) % 8).eraseDups

/-- The wharf can read a range of device memory now: the reads and their data cross the base between B30 and the memory berths (R27;
notes/assumptions/183.md). -/
def rangeReached (s : State) (a n : Nat) : Bool := (rangeBerths a n).all (wharfReaches s)

/-- The fibre receive links of a torus port that are UP (R572, R839). -/
def upLinks (s : State) (dir : Nat) : Nat := ((List.range 8).filter fun r => linkUp s (512 + 16 * dir + 8 + r)).length

/-- A torus port is UP while one of its links is (R572). -/
def portUp (s : State) (dir : Nat) : Bool := upLinks s dir != 0

/-! ### Link numbers (R839) -/

/-- The berth of a link. -/
def linkBerth (l : Nat) : Nat := if l < 512 then l / 16 else 24 + (l - 512) / 16

/-- A link's index in its berth and direction. -/
def linkIdx (l : Nat) : Nat := l % 8

/-- A receive link. -/
def linkRx (l : Nat) : Bool := l / 8 % 2 == 1

/-- A fibre link of a torus port. -/
def linkFibre (l : Nat) : Bool := decide (512 ≤ l)

/-- The two directions of a link (R416). -/
def linkPair (l : Nat) : List Nat := if linkRx l then [l - 8, l] else [l, l + 8]

def txLink (b r : Nat) : Nat := 16 * b + r
def rxLink (b r : Nat) : Nat := 16 * b + 8 + r

/-- The fibre links of a torus port. -/
def fibreTx (dir r : Nat) : Nat := 512 + 16 * dir + r
def fibreRx (dir r : Nat) : Nat := 512 + 16 * dir + 8 + r

/-- The berths of a quadrant (R18). -/
def quadrantBerths (q : Nat) : List Nat :=
  [4 * q, 4 * q + 1, 4 * q + 2, 4 * q + 3, 16 + 2 * q, 17 + 2 * q] ++
    (if q = 0 then [24, 25] else if q = 1 then [26, 27] else if q = 2 then [28, 30] else [29, 31])

/-- The 64 transmit links that take light from a bank (R21). -/
def bankLinks (q : Nat) : List Nat := (quadrantBerths q).flatMap fun b => (List.range 8).map (txLink b)

/-- The links of a light group: a bank's transmit links, or every fibre link of a torus berth's port (R21, R570). -/
def groupLinks (g : Nat) : List Nat := if g < 4 then bankLinks g else (List.range 16).map fun i => 512 + 16 * (g - 4) + i

/-- The light group whose bank, or whose fibre sources, light a transmit link (R21, R570). -/
def linkGroup (t : Nat) : Nat :=
  if linkFibre t then 4 + (t - 512) / 16 else ((List.range 4).find? fun q => (quadrantBerths q).contains (linkBerth t)).getD 0

/-- The lasers of a group. -/
def groupLasers (g : Nat) : List Nat :=
  if g < 4 then (List.range 21).map (· + 21 * g) else (List.range 34).map (· + (84 + 34 * (g - 4)))

/-- The laser of a group that lights a lane. -/
def servingLaser (s : State) (g lane : Nat) : Option Nat :=
  (groupLasers g).find? fun k => (s.laser k).lit && (s.laser k).serves == lane

def laneLit (s : State) (g lane : Nat) : Bool := (servingLaser s g lane).isSome

/-- The lanes that a link's own flag or request relieves, each with the instant it was named; one given back counts until its mirror stops
(R457, R474). -/
def reliefOf (s : State) (l : Nat) : Tab Nat :=
  ((s.link l).leaving.filter fun x => decide (s.ft < x.2)).map (fun x => (x.1, 0)) ++ (s.link l).relief

/-- Puts a named lane behind those named before it. -/
def insertNamed (x : Nat × Nat) : Tab Nat → Tab Nat
  | [] => [x]
  | y :: t => if x.2 < y.2 then x :: y :: t else y :: insertNamed x t

/-- The union of the lanes that the three relief sources name for frames from a transmit link to a receive link, in the order in which they
were named: the group's relief map, the transmit link's flag, the receive link's request (R457; of lanes named at one instant
notes/assumptions/155.md). -/
def reliefs (s : State) (t l : Nat) : List Nat :=
  let g := s.group (linkGroup t)
  let all := g.relieved.toList.map (fun i => (i, g.relievedAt)) ++ g.dropped.toList.map (fun i => (i, g.droppedAt)) ++
    reliefOf s t ++ reliefOf s l
  ((all.foldl (fun a x => insertNamed x a) []).map Prod.fst).eraseDups

/-- How a transmit link is to use the lanes to a receive link: with one lane to relieve, its bits stand on WR too; with two, the first is on
WR and the link runs without the second (R457). With WR dark the link runs without the one lane (R467). -/
def laneWanted (s : State) (t l : Nat) : LaneUse :=
  match reliefs s t l with
  | [] => {}
  | [a] => if laneLit s (linkGroup t) 16 then { mirror := some a } else { missing := some a }
  | a :: b :: _ => { mirror := some a, missing := some b }

/-- With more lanes to relieve than WR and one lane less allow nothing is sent, and the pair counts as unreachable (R457). -/
def pairOpen (s : State) (t l : Nat) : Bool :=
  let n := (reliefs s t l).length
  decide (n ≤ 1) || (n == 2 && laneLit s (linkGroup t) 16)

/-- How a transmit link uses the lanes to a receive link now. -/
def laneUse (s : State) (t l : Nat) : LaneUse := Tab.getD {} l (s.link t).lanes

/-- Links that a light group that is down holds DOWN (R469, R571). -/
def darkLinks (s : State) : List Nat := (List.range 10).flatMap fun g => if (s.group g).down then groupLinks g else []

/-! ### The default port plan (R421) -/

/-- Destinations with no unset port. -/
def portList (l : List (Option Nat)) : Tab Nat :=
  l.zipIdx.filterMap fun x => x.1.map fun d => (x.2, d)

/-- The torus berths other than one, ascending. -/
def otherTorus (b : Nat) : List Nat := ([24, 25, 26, 27, 28, 29] : List Nat).filter (· ≠ b)

/-- The fast ports of TXr of a berth. -/
def planPorts (b r : Nat) : Tab Nat :=
  if b < 16 then
    portList [some (16 + r), some ((b + 1 + r) % 16), if r = 7 then some 31 else some ((b + 9 + r) % 16),
      if r = 0 then some 30 else if r ≤ 6 then some (23 + r) else none]
  else if b < 24 then
    portList [some r, some (r + 8), if r ≤ 5 then some (24 + r) else if r = 6 then some 30 else some 31, none]
  else if b < 30 then
    portList [some (16 + r), some r, some (r + 8),
      if r ≤ 4 then (otherTorus b)[r]? else if r = 5 then some 30 else if r = 6 then some 31 else none]
  else if b = 30 then
    portList [some r, some (r + 8), some (16 + r),
      if r ≤ 5 then some (24 + r) else if r = 6 then some 31 else none]
  else
    portList [some r, some (r + 8), some (16 + r),
      if r ≤ 5 then some (24 + r) else if r = 6 then some 30 else none]

/-! ### Credits (R432 to R434) -/

/-- A virtual channel's part of a receive link's basin, in credits of 64 bytes (R432). -/
def basinPart (l vc : Nat) : Nat :=
  if 24 ≤ linkBerth l ∧ linkBerth l < 30 then
    (if vc = 0 then 128 else if vc = 3 then 896 else 1536)
  else if vc = 0 then 32 else if vc = 3 then 480 else 256

/-- Credits a packet takes (R433). -/
def packetUnits (p : BasePacket) : Nat := ceilDiv (32 + p.len) 64

/-- The transmit links that a fast port or a circuit points at a receive link (R418, R429, R434). -/
def sourcesOf (s : State) (l : Nat) : List Nat :=
  (((List.range 32).filter fun b => b % 8 = linkIdx l).flatMap fun b => (List.range 8).map (txLink b)).filter fun t =>
    ((s.link t).ports.any fun p => p.2 == linkBerth l) || (s.link t).circuits.any fun c => c.peer == l

/-- Gives every source of a receive link its equal allotment of each channel's part, the remainder to the lowest-numbered
source berth (R434). What a source's packets hold stays held. -/
def allot (l : Nat) (s : State) : State :=
  let src := sourcesOf s l
  let n := src.length
  src.zipIdx.foldl (fun s t => s.updLink t.1 fun x =>
    { x with credits := (List.range 4).foldl (fun c vc =>
        let part := basinPart l vc
        Tab.put (4 * l + vc) (part / n + if t.2 = 0 then part % n else 0) c) x.credits }) s

/-- The receive links a transmit link's ports lead to (R418). -/
def targetsOf (b : Nat) (ports : Tab Nat) : List Nat := ports.map fun p => rxLink p.2 (b % 8)

/-! ### Lock-window slots (R422, R426, R427) -/

/-- No window of a slot names one of the links (R422). -/
def slotClear (s : State) (links : List Nat) (w : Nat) : Bool :=
  s.base.windows.all fun x => x.start != w || links.all fun l => !x.links.contains l

/-- The first slot at least `ahead` slots on that is free for the links (R422, R426). -/
def freeSlot (s : State) (links : List Nat) (ahead : Nat) : Nat :=
  let first := s.ft / 1024 + ahead
  (((List.range (s.base.windows.length + 1)).map fun i => (first + i) * 1024).find? (slotClear s links)).getD (first * 1024)

/-- Adds a window. -/
def addWindow (start : Nat) (links : List Nat) (acts : List WindowAct) (flight : Option Nat) (s : State) : State :=
  let w : Window := { start := start, links := links, acts := acts, flight := flight }
  { s with base.windows := s.base.windows ++ [w] }

/-- Places a window in the next slot free for its links (R400, R416, R425). -/
def nextWindow (links : List Nat) (acts : List WindowAct) (s : State) : State :=
  addWindow (freeSlot s links 1) links acts none s

/-- Places a maintenance action (R426). -/
def maintenance (links : List Nat) (acts : List WindowAct) (s : State) : State :=
  addWindow (freeSlot s links 2) links acts none s

/-! ### Ports that must wait (R424, R429) -/

/-- A circuit pins a port of a transmit link (R429). -/
def pinned (x : Link) (port : Nat) : Bool :=
  match Tab.find? port x.ports with
  | some d => x.circuits.any fun c => linkBerth c.peer == d
  | none => false

/-- A lock window that is about to begin names a link (R424; notes/assumptions/177.md). -/
def windowNear (s : State) (l : Nat) : Bool :=
  s.base.windows.any fun w => !w.started && w.links.contains l && decide (w.start ≤ s.ft + Config.windowLead)

end Sys2Proof.Machine
end

