-- ==== Sys2Proof/Machine/TorusOps.lean ====
section
/-!
DEFINITION. Addresses and routes of the torus, the passage of a packet, and the counters of a port (R529 to R539, R554, R576).
-/

namespace Sys2Proof.Machine

/-- The module of a native address: its coordinate with berth and core 0 (R530). -/
def coordOf (a : Nat) : Nat := a / 4096 % 4096 * 4096

/-- Coordinate `d` (0 x, 1 y, 2 z) of a native address (R530). -/
def axis (a d : Nat) : Nat := a >>> (12 + 4 * d) % 16

/-- A native address from a module, a berth and a core (R530). -/
def nativeOf (coord berth core : Nat) : Nat := coordOf coord + berth % 32 * 128 + core % 128

def dimOf (s : State) (d : Nat) : Nat := s.torus.dims.getD d 1

/-- An address within the partition's dimensions (R531). -/
def addrOk (s : State) (a : Nat) : Bool := (List.range 3).all fun d => axis a d < dimOf s d

/-- The neighbour of a module in a direction: an even direction code is +, an odd one − (R537). -/
def stepCoord (s : State) (a dir : Nat) : Nat :=
  let d := dir / 2
  let n := dimOf s d
  let x := axis a d
  let y := if dir % 2 = 0 then (x + 1) % n else (x + n - 1) % n
  coordOf a - x <<< (12 + 4 * d) + y <<< (12 + 4 * d)

/-- The opposite direction. -/
def reverseDir (dir : Nat) : Nat := if dir % 2 = 0 then dir + 1 else dir - 1

/-- The port of a module in a direction is known to be DOWN (R539, R572); a dimension of size 1 carries nothing (R533). -/
def linkDownAt (s : State) (a dir : Nat) : Bool :=
  dimOf s (dir / 2) == 1 || s.torus.linkDown.contains (coordOf a, dir) ||
  (coordOf a == coordOf s.torus.coord && !portUp s dir)

/-- `n` hops in a direction from a module: where they lead, or none where a link on the way is DOWN. -/
def walk (s : State) : Nat → Nat → Nat → Option Nat
  | 0, a, _ => some a
  | n + 1, a, dir => if linkDownAt s a dir then none else walk s n (stepCoord s a dir) dir

/-- The hops of one dimension: the direction of fewer hops, ties going to +, or the other where a link on that path is
DOWN (R539). -/
def axisHops (s : State) (a dest d : Nat) : Option (List Nat × Nat) :=
  let n := dimOf s d
  let fwd := (axis dest d + n - axis a d) % n
  let try' := fun (dir k : Nat) => (walk s k a dir).map fun b => (List.replicate k dir, b)
  if fwd = 0 then some ([], a)
  else if fwd ≤ n - fwd then (try' (2 * d) fwd).or (try' (2 * d + 1) (n - fwd))
  else (try' (2 * d + 1) (n - fwd)).or (try' (2 * d) fwd)

/-- The direction codes that lead to a module, or none where both directions of a dimension are blocked (R539). -/
def torusPath (s : State) (dest : Nat) : Option (List Nat) :=
  match axisHops s (coordOf s.torus.coord) dest 0 with
  | none => none
  | some (x, a) =>
    match axisHops s a dest 1 with
    | none => none
    | some (y, b) => (axisHops s b dest 2).map fun z => x ++ y ++ z.1

/-- The route to a module: its path, where that has at most 24 hops and so a valid form (R538, R539). -/
def routeTo (s : State) (dest : Nat) : Option (List Nat) := (torusPath s dest).filter fun r => r.length ≤ 24

/-- The ROUTE field: the codes, Local, then Stop (R536 to R538). -/
def routeField (codes : List Nat) : Nat :=
  let l := (codes ++ [6] ++ List.replicate 24 7).take 24
  l.zipIdx.foldl (fun a x => a + x.1 * 8 ^ x.2) 0

/-- Hop code `i` of a ROUTE field; index 24 counts as Local (R538). -/
def hopCode (route i : Nat) : Nat := if 24 ≤ i then 6 else route / 8 ^ i % 8

/-- The codes of a ROUTE field up to Local. -/
def routeCodes (route : Nat) : List Nat := ((List.range 24).map (hopCode route)).takeWhile (· < 6)

/-- Directions go by x, then y, then z. -/
def axesRise : List Nat → Bool
  | a :: b :: t => decide (a / 2 ≤ b / 2) && axesRise (b :: t)
  | _ => true

/-- A valid ROUTE field (R538). -/
def routeValid (route : Nat) : Bool :=
  let l := routeCodes route
  let one := fun (d : Nat) => (l.filter fun c => c / 2 = d).eraseDups.length ≤ 1
  axesRise l && one 0 && one 1 && one 2 && routeField l == route

/-- Flits of a packet on a fibre: 64 bytes each of extension, header and data (R543, R576). -/
def fibreFlits (p : TorusPacket) : Nat := ceilDiv (64 + p.base.len) 64

/-- Adds to a counter of a torus port and virtual channel by its position in R576. -/
def countPort (dir vc pos n : Nat) (s : State) : State :=
  s.updTport dir fun t => { t with counters := Tab.put (10 * vc + pos) (satAdd (Tab.getD 0 (10 * vc + pos) t.counters) n) t.counters }

/-- The flits of a channel's packets that wait at a torus port for the fibre's credits (R543, R576). -/
def portDepth (s : State) (dir vc : Nat) : Nat :=
  ((Tab.getD [] (32 + dir) s.base.waiting).filter fun w => w.tx.pkt.vc % 4 = vc).foldl
    (fun a w => a + ceilDiv (32 + w.tx.pkt.len) 64) 0

/-- The high-water mark of a port's queues follows their depth (R576). -/
def markDepth (dir : Nat) (s : State) : State :=
  (List.range 4).foldl (fun s vc => s.updTport dir fun t =>
    { t with counters := Tab.putD 0 (10 * vc + 7) (max (Tab.getD 0 (10 * vc + 7) t.counters) (portDepth s dir vc)) t.counters }) s

/-- The passage a packet travels on: one of this module that carries, to the destination's module (R554, R556). -/
def passageFor (s : State) (id dest : Nat) : Option Passage :=
  (Tab.find? id s.torus.passages).filter fun p => p.carries && coordOf p.dest == coordOf dest

/-- The far end of a fibre link is the one that its near port must see (R532). -/
def farOk (s : State) (port partition coord dir : Nat) : Bool :=
  partition == s.torus.partition && dir == reverseDir port && coordOf coord == stepCoord s s.torus.coord port

/-- The last training of a link of a torus port has shown the far end that the port must see (R532). -/
def trainedRight (s : State) (port link : Nat) : Bool :=
  (Tab.find? (link % 8) (s.tport port).far).any fun f => farOk s port f.1 f.2.1 f.2.2

/-- R532 holds a link of a torus port in TRAIN (R575). -/
def miscabled (s : State) (port : Nat) : Bool :=
  (List.range 8).any fun r =>
    (s.link (fibreRx port r)).state == 1 && Tab.has r (s.tport port).far && !trainedRight s port r

/-- The attempt of a pound: its rollbacks so far, modulo 256 (R536). -/
def attemptOf (s : State) (serial : Nat) : Nat := Tab.getD 0 serial s.pound.attempts % 256

end Sys2Proof.Machine
end

