-- ==== Sys2Proof/Machine/Berths.lean ====
section
/-!
DEFINITION. The berth switch: credit and stamp of the packets that wait in a berth, and the packets that berths send over the base to the
torus (R361, R398, R400, R424, R433, R435, R536, R540).
-/

namespace Sys2Proof.Machine

/-! ### The berth switch and admission (R398, R400, R433, R435) -/

/-- A transmit link that works and that no window holds (R398, R424). -/
def txFree (s : State) (t : Nat) : Bool := linkUp s t && !(s.link t).paused

/-- The port by which a transmit link reaches a berth. -/
def portTo (x : Link) (dest : Nat) : Option Nat := (List.find? (fun p => p.2 == dest) x.ports).map Prod.fst

/-- The transmit links of a berth. -/
def berthLinks (b : Nat) : List Nat := (List.range 8).map (txLink b)

/-- The transmit link the berth switch chooses: that of the base port the packet entered from, else the lowest-numbered working
one that holds a fast port or circuit to the destination (R398). -/
def switchLink (s : State) (b : Nat) (port : Option Nat) (dest : Nat) : Option Nat :=
  let good := fun (t : Nat) => txFree s t && (portTo (s.link t) dest).isSome && pairOpen s t (rxLink dest (b % 8))
  ((port.map (txLink b)).filter good).or ((berthLinks b).find? good)

/-- The receive link and channel a packet takes its credits of, as a key of `Link.credits`. -/
def creditKey (b : Nat) (p : BasePacket) : Nat := 4 * rxLink p.destBerth (b % 8) + p.vc % 4

/-- Units a transmit link may still send (R433). -/
def creditsLeft (x : Link) (k : Nat) : Nat := Tab.getD 0 k x.credits - Tab.getD 0 k x.used

/-- Takes units of credit, or gives them back. -/
def takeCredits (k n : Nat) (x : Link) : Link := { x with used := Tab.put k (Tab.getD 0 k x.used + n) x.used }
def giveCredits (k n : Nat) (x : Link) : Link := { x with used := Tab.putD 0 k (Tab.getD 0 k x.used - n) x.used }

/-- What a packet belongs to still stands: a write or message that a rollback has dropped leaves its packets behind (R445). -/
def ownerStands (s : State) : Owner → Bool
  | .write id => Tab.has id s.mem.writes
  | .msg id => Tab.has id s.work.msgs
  | .part m gen order => (s.member? m).any fun x => x.gen == gen && x.out.any fun o => o.order == order
  | .none => true

/-- A packet's credit grant: its write takes its stamp (R361). -/
def grantStamp (o : Owner) (s : State) : State :=
  match o with
  | .write id => stampWrite id s
  | .msg _ | .part _ _ _ | .none => s

/-- The transmit link that takes a waiting packet now: it reaches the destination, whose weir does not hold the channel back, holds the
credits, and no window that is about to begin names it or the receive link (R398, R424, R433, R435). -/
def admits (s : State) (b : Nat) (w : BerthWait) : Option Nat :=
  let l := rxLink w.tx.pkt.destBerth (b % 8)
  (switchLink s b w.port w.tx.pkt.destBerth).filter fun t =>
    !(s.link l).weirHigh.contains (w.tx.pkt.vc % 4) && !windowNear s t && !windowNear s l &&
      packetUnits w.tx.pkt ≤ creditsLeft (s.link t) (creditKey b w.tx.pkt)

/-- A transmit link takes a packet: credits, stamp, and a place in its queue (R361, R433). -/
def linkTakes (b t : Nat) (tx : TxPacket) (s : State) : State :=
  let k := creditKey b tx.pkt
  (grantStamp tx.owner s).updLink t fun x => { takeCredits k (packetUnits tx.pkt) x with queue := x.queue ++ [tx] }

/-- A port that the berth sets anew for a destination: an unset one of its lowest working link, else P3 of it, if no circuit pins it
(notes/assumptions/148.md). -/
def newPort (s : State) (b : Nat) : Option (Nat × Nat) :=
  ((berthLinks b).find? (linkUp s)).map fun t =>
    (t, ((List.range 4).find? fun p => !Tab.has p (s.link t).ports).getD
      (((List.range 4).reverse.find? fun p => !pinned (s.link t) p).getD 3))

/-- A window is to set a port of the berth for a destination. -/
def portComing (s : State) (b dest : Nat) : Bool :=
  ((berthLinks b).any fun t => (s.link t).unset.any fun p => p.2 == dest) ||
    s.base.windows.any fun w => w.acts.any fun a => match a with
      | .retry l _ d => linkBerth l == b && d == dest
      | .ports l ds => linkBerth l == b && ds.any fun p => p.2 == dest
      | _ => false

/-- A destination that no working link of the berth reaches: firmware installs a fast port for it in the next slot free for the
berth's links (R400). -/
def installPort (b dest : Nat) (s : State) : State :=
  if ((berthLinks b).any fun t => linkUp s t && (portTo (s.link t) dest).isSome && pairOpen s t (rxLink dest (b % 8))) ||
      portComing s b dest || b = dest then s
  else match newPort s b with
    | some (t, p) => addWindow (freeSlot s (berthLinks b) 1) [t] [.retry t p dest] none s
    | none => s

/-- Takes the waiting packets of a berth in order; one that must wait holds back those behind it for the same destination and
channel, and no others (R398, R400, R415). -/
def admitList (b : Nat) : List BerthWait → List Nat → State → List BerthWait × State
  | [], _, s => ([], s)
  | w :: l, held, s =>
    let k := creditKey b w.tx.pkt
    if !ownerStands s w.tx.owner then admitList b l held s
    else if held.contains k then
      let (left, s) := admitList b l held s
      (w :: left, s)
    else match admits s b w with
      | some t => admitList b l held (linkTakes b t w.tx s)
      | none =>
        let (left, s) := admitList b l (k :: held) (installPort b w.tx.pkt.destBerth s)
        (w :: left, s)

/-- The berth switch admits what it can of the packets that wait in a berth. -/
def admitBerth (b : Nat) (s : State) : State :=
  let (left, s) := admitList b (Tab.getD [] b s.base.waiting) [] s
  { s with base.waiting := Tab.putD [] b left s.base.waiting }

/-- Packets enter a berth from its electrical side. -/
def enterBerth (b : Nat) (port : Option Nat) (l : List TxPacket) (s : State) : State :=
  let w := l.map fun t => ({ port := port, tx := t } : BerthWait)
  admitBerth b { s with base.waiting := Tab.putD [] b (Tab.getD [] b s.base.waiting ++ w) s.base.waiting }

/-- A packet that has not begun on a transmit link goes back to its berth, ahead of those that wait there: its credits are free, and it keeps
the stamp it may have (R424; notes/assumptions/177.md). -/
def takeBack (f : Nat → TxPacket → Bool) (t : Nat) (s : State) : State :=
  let back := (s.link t).queue.filter (f t)
  let b := linkBerth t
  if back = [] then s
  else
    { s.updLink t (fun x =>
        { back.foldl (fun x p => giveCredits (creditKey b p.pkt) (packetUnits p.pkt) x) x with
          queue := x.queue.filter fun p => !f t p }) with
      base.waiting := Tab.putD [] b
        (back.map (fun p => ({ port := some (linkIdx t), tx := p } : BerthWait)) ++ Tab.getD [] b s.base.waiting) s.base.waiting }

/-- Every berth's waiting packets are looked at again: ports, credits, windows or links have changed. -/
def admitAll (s : State) : State := (s.base.waiting.keys).foldl (fun s b => admitBerth b s) s

/-! ### Torus packets across the base (R536, R540, R548) -/

/-- Sends a torus packet over the base from a berth to another, whatever owns it (R536). -/
def torusHop (o : Owner) (b dest unit : Nat) (p : TorusPacket) (s : State) : State :=
  enterBerth b none [{ owner := o, pkt := { torusBase p with destBerth := dest, destUnit := unit, srcBerth := b } }] s

/-- Sends a packet of a berth of this module to another module, by its passage's route or that of R539; the first hop's code is
spent at this module. Where no route exists the packet is dropped, and R551, R553 or R565 decides the outcome here. -/
def sendTorusPacket (src dest pound passage attempt : Nat) (b : BasePacket) (s : State) : State :=
  let p := passageFor s passage dest
  match (p.map fun p => routeCodes p.route).or (routeTo s dest) with
  | some (d :: t) =>
    torusHop .none b.srcBerth (24 + d) 0
      { pound := pound, route := routeField (d :: t), hop := 1, cls := 0, dest := dest, src := src
        passage := if p.isSome then passage else 0, attempt := attempt % 256, base := b } s
  | _ => s

/-- The packet of the torus that a packet from a torus berth carries (R536). -/
def fromTorus (p : BasePacket) : BasePacket := if 24 ≤ p.srcBerth ∧ p.srcBerth < 30 then (torusOf p).base else p

/-- A packet that entered from the torus leaves its torus berth under the stamp that the berth's issuer has given it (R319, R540). -/
def sendRelay (no st : Nat) (s : State) : State :=
  match Tab.find? no s.torus.relays with
  | some (t, p) =>
    torusHop .none t (p.dest / 128 % 32) (p.dest % 128) { p with base := { p.base with stamp := st } }
      { s with torus.relays := Tab.del no s.torus.relays }
  | none => s

/-- A torus berth asks its issuer for the new stamp of a packet (R319). -/
def relay (t : Nat) (p : TorusPacket) (s : State) : State :=
  let k := s.torus.relayNo
  let (st, s) := issueStamp t (.relay k) { s with torus.relays := Tab.put k (t, p) s.torus.relays, torus.relayNo := k + 1 }
  match st with
  | some st => sendRelay k st s
  | none => s

/-- A CONTROL packet of the wharf, or its acknowledgement. Its payload begins with the notice's number; the rest is a free value, since the
manual gives it no form (R409, R564, R565; notes/assumptions/184.md). -/
def controlPacket (kind no : Nat) : BasePacket :=
  let d := leBytes 8 no ++ if kind = 5 then (Config.noticeForm no).take 216 else []
  { stamp := 0, addr := 0, kind := kind, vc := 0, destBerth := 30, destUnit := 0, srcBerth := 30, srcUnit := 0, len := d.length, tag := 0
    payload := d }

/-- The wharf sends the wharf of a neighbour a CONTROL packet, with route Local (R564). -/
def sendNeighbour (d no : Nat) (s : State) : State :=
  let n := openSerial s
  torusHop .none 30 (24 + d) 0
    { pound := n, route := routeField [], hop := 0, cls := 0, dest := nativeOf (stepCoord s s.torus.coord d) 30 0
      src := nativeOf s.torus.coord 30 0, passage := 0, attempt := attemptOf s n, base := controlPacket 5 no } s

/-- The wharf sends the wharf of a module a CONTROL packet, or its acknowledgement, by R539 (R565). -/
def sendControl (kind no coord : Nat) (s : State) : State :=
  let n := openSerial s
  sendTorusPacket (nativeOf s.torus.coord 30 0) (nativeOf coord 30 0) n 0 (attemptOf s n) (controlPacket kind no) s

end Sys2Proof.Machine
end

