-- ==== Sys2Proof/Machine/PoundOps.lean ====
section
/-!
DEFINITION. Asking for a close of the open pound (R355, R388), and the notices that carry it across a partition
(R564, R565). The commands of the pound machine itself stand in Pounds.lean.
-/

namespace Sys2Proof.Machine

/-- Puts something the module sends on the torus. -/
def torusSend (o : TorusOut) (s : State) : State := { s with torus.out := s.torus.out ++ [o] }

/-- Floods a partition notice under a fresh identity on every UP port but the one it came from (R564). -/
def floodNotice (except : Option Nat) (id : Nat) (n : Notice) (s : State) : State :=
  let no := s.torus.noticeNo
  ((List.range 6).filter fun d => portUp s d ∧ except ≠ some d).foldl (fun s d => sendNeighbour d no (torusSend (.notice d no id n) s))
    { s with torus.seen := if s.torus.seen.contains id then s.torus.seen else s.torus.seen ++ [id], torus.noticeNo := no + 1 }

/-- Floods a notice of this module's own. Its identity is a free value: the manual gives a notice none. -/
def announce (n : Notice) (s : State) : State :=
  let (id, s) := draw s
  floodNotice none id n s

/-- The time-master's native address, where one is known. -/
def masterAddr (s : State) : Option Nat := if s.time.master then some s.torus.coord else s.time.masterCoord

/-- The module a notice is for. -/
def noticeDest (s : State) : SentNotice → Option Nat
  | .close _ | .join _ => masterAddr s
  | .commit d _ _ | .rollback d _ _ => some d

/-- A routed notice goes to its module; where no route leads there it waits for its next turn (R539, R565). -/
def routeNotice (no : Nat) (n : SentNotice) (s : State) : State :=
  match noticeDest s n with
  | some d => if (routeTo s d).all (· == []) then s else sendControl 5 no d (torusSend (.sent no n) s)
  | none => s

/-- Sends a routed notice that must be acknowledged (R565). -/
def sendNotice (n : SentNotice) (s : State) : State :=
  let no := s.torus.noticeNo
  routeNotice no n
    { s with torus.notices := Tab.put no { what := n, sentAt := s.ft } s.torus.notices, torus.noticeNo := no + 1 }

/-- The serial of an instant's pound changes, as a cut is named. -/
def poundMoves (was s : State) (st : Nat) : Bool :=
  serialOfTime was (stampInstant s.ft st) != serialOfTime s (stampInstant s.ft st)

/-- A task's end that was recorded in a pound which the cut just named puts it out of. -/
def endMoves (was s : State) (t : Task) : Bool := t.recorded && t.endStamp.any (poundMoves was s)

/-- Ends recorded at or after a cut just named belong to the next pound, as their records do, and so do the ends of their graphs (R347,
R387). -/
def moveEnds (was s : State) : State :=
  let serial := fun (t : Task) => serialOfTime s (stampInstant s.ft (t.endStamp.getD 0))
  { s with work.graphs := s.work.graphs.mapVals fun _ g =>
      { g with
        tasks := g.tasks.mapVals fun _ t => if endMoves was s t then { t with endSerial := serial t } else t
        endPound := if g.ended then g.tasks.foldl (fun a t => if endMoves was s t.2 then some (max (a.getD 0) (serial t.2)) else a) g.endPound
          else g.endPound } }

/-- Moves the counts of the writes, and the ends of the tasks, that a cut just named puts in another pound (R347, R357, R387). `was` is
the state without the cut. -/
def recount (was s : State) : State :=
  moveEnds was (s.mem.writes.foldl (fun s' p =>
    match p.2.stamp with
    | none => s'
    | some st =>
      if poundMoves was s st ∧ !torusWrite p.2 then
        let n := serialOfTime was (stampInstant s.ft st)
        let k := serialOfTime s (stampInstant s.ft st)
        s'.updMemBerth (memBerthOf p.2.addr) fun b =>
          { b with issued := Tab.put n (Tab.getD 0 n b.issued - 1) (Tab.put k (Tab.getD 0 k b.issued + 1) b.issued) }
      else s') s)

/-- A trigger waits for the next pound to open; of several the earliest counts (R355). -/
def deferCut (c : Nat) (cause : Trigger) (s : State) : State :=
  { s with pound.nextCut := some (match s.pound.nextCut with
      | none => (c, cause)
      | some d => if c < d.1 then (c, cause) else d) }

/-- Names the cut of the open pound, unless one is in force: the first trigger sets it. A trigger that arises before the pound it
closes has opened, or after a cut in force or the deadline and so in the pound after it, waits for that pound's opening (R295, R355). -/
def nameCut (c : Nat) (cause : Trigger) (s : State) : State :=
  if s.pound.opened && s.pound.closing.isNone && s.pound.recovery.isNone then
    match cutInForce s with
    | some d => if c ≤ d then s else deferCut c cause s
    | none =>
      if deadlineCounts s && decide (s.pound.deadline < c) then deferCut c cause s
      else recount s { s with pound.cutAt := some c, pound.cutCause := some cause }
  else deferCut c cause s

/-- A join's cut: the open pound's where it comes no later than the cut that is in force or the deadline, and else one that waits for a
pound to open before it (R561). -/
def joinCut (c serial : Nat) (cause : Trigger) (s : State) : State :=
  let bound := (cutInForce s).or (if deadlineCounts s then some s.pound.deadline else none)
  if s.pound.opened && s.pound.closing.isNone && s.pound.recovery.isNone && bound.all (c ≤ ·) then
    recount s { s with pound.cutAt := some c, pound.cutCause := some cause, pound.cutSerial := some serial }
  else { s with pound.nextJoin := some (c, serial) }

/-- A member is in step: its committed serial equals the partition's, which a rollback leaves so until the partition commits the pound
that this module replays (R559). -/
def inStepNow (s : State) : Bool :=
  s.torus.inStep && match s.torus.behindAt with
    | some t => decide (s.ft < t)
    | none => true

/-- Whether the close triggers of this module follow R388: it is a member in step (R559, R560). -/
def inPartition (s : State) : Bool := s.torus.partition ≠ 0 && inStepNow s

/-- The tick after the partition's pound to be closed opens, where it has not opened: a close of the pound before it is in progress
(R388). -/
def partitionOpens (s : State) : Nat :=
  match s.pound.closing with
  | some c => c.cut + 2501
  | none => match s.torus.behindAt with
    | some t => if t ≤ s.ft + 2500 then t + 1 else 0
    | none => match cutInForce s with
      | some d => d + 2501
      | none => if deadlineCounts s && decide (s.pound.deadline < s.ft + 2048) then s.pound.deadline + 2501 else 0

/-- The cut a time-master names (R388): a free value between its lowest and highest instants for a request that
arrives now and was issued at `issued`, not before the tick after the pound to be closed has opened, and no later than that pound's
deadline. -/
def masterCut (issued : Nat) (s : State) : Nat × State :=
  let lo := max (s.ft + 2048) (partitionOpens s)
  let hi := max lo (if s.ft ≤ issued + 2048 then issued + 4096 else s.ft + 2304)
  let hi := if deadlineCounts s && decide (lo ≤ s.pound.deadline) then min hi s.pound.deadline else hi
  let (x, s) := drawBelow (hi + 1 - lo) s
  (lo + x, s)

/-- A member takes a cut that the time-master has named, with the serial a join commits: at once for its open pound, or for the next
one to open (R388, R561). -/
def takeCut (c : Nat) (serial : Option Nat) (cause : Trigger) (s : State) : State :=
  if s.torus.partition = 0 ∨ !(inStepNow s || (s.torus.joining && serial.isSome)) then s
  else
    let s : State := { s with torus.behindAt := s.torus.behindAt.map (min (c + 2500)) }
    match serial with
    | some n => joinCut c n cause s
    | none => nameCut c cause s

/-- The serial that the pound after the close in progress carries. -/
def serialToClose (s : State) : Nat :=
  match s.pound.closing with
  | some c => c.next
  | none => s.pound.committed + 1

/-- The serial a join commits (R561): above the partition's committed serial and every joiner's. A time-master that is out of step does
not know the partition's, which is then a free value, not below its own. -/
def joinSerial (s : State) : Nat × State :=
  let (x, s) := if inStepNow s then (0, s) else draw s
  (s.torus.joiners.foldl (fun a j => max a (j.2 + 1)) (serialToClose s + x), s)

/-- The time-master answers each joiner with the cut and the serial it commits (R561). -/
def answerJoiners (c serial : Nat) (s : State) : State :=
  s.torus.joiners.foldl (fun s j =>
    if coordOf j.1 = coordOf s.torus.coord then s else torusSend (.joinAnswer (coordOf j.1) c serial) s) s

/-- The time-master names a cut and floods it, unless one that it has named is still to come, which a request joins (R388, R564);
joiners take the serial the cut commits (R561). -/
def nameMasterCut (issued : Nat) (cause : Trigger) (s : State) : State :=
  if s.torus.namedCut.any (s.ft < ·) then s
  else
    let (c, s) := masterCut issued s
    let joins := s.torus.joiners ≠ []
    let (n, s) := if joins then joinSerial s else (0, s)
    let sr := if joins then some n else none
    let s := answerJoiners c n s
    announce (.cut c sr)
      (takeCut c sr (if joins then .named else cause) { s with torus.joiners := [], torus.namedCut := some c })

/-- A trigger of R355 other than the deadline, due at its instant `c`. While the pair is halted for debug the pool
and graph-end triggers are held and the first acts at RUN (R673). In a partition the trigger asks the time-master
(R388). -/
def askClose (c : Nat) (cause : Trigger) (s : State) : State :=
  if s.sec.halted.isSome && (cause == .pool || cause == .graphEnd || cause == .deadline) then
    { s with sec.heldTrigger := s.sec.heldTrigger.or (some cause) }
  else if inPartition s then
    if s.time.master then nameMasterCut s.ft cause s else sendNotice (.close s.ft) s
  else nameCut c cause s

/-- The pool has reached 7/8 (R355). -/
def poolHighNow (s : State) : Bool := 7 * poolPages s ≤ 8 * poolUse s

/-- A task start or end closes the pound once the pool has reached 7/8 (R355). -/
def poolTrigger (s : State) : State :=
  if s.pound.poolHigh then askClose s.ft .pool { s with pound.poolHigh := false } else s

end Sys2Proof.Machine
end

