-- ==== Sys2Proof/Machine/TimeOps.lean ====
section
/-!
DEFINITION. The timekeeper's state and the selection of its discipline source (R304, R306, R311).
-/

namespace Sys2Proof.Machine

/-- Reports a change of the timekeeper's state (R311). -/
def setTimeMode (mode : Nat) (s : State) : State :=
  if s.time.mode = mode then s
  else
    let old := s.time.mode
    logEvent Ev.ftState (leBytes 1 old ++ leBytes 1 mode ++ leBytes 1 s.time.source)
      { s with time.mode := mode, time.offsetLogged := s.time.offsetLogged && mode == 3 }

/-- The configured sources allow a source code (R821 FT_SOURCES). -/
def sourceAllowed (s : State) (c : Nat) : Bool := (leNat (itemStored s 0x0003)).testBit c

/-- The PTP item (R821): enable, port, domain. -/
def ptpItem (s : State) : Nat := leNat (itemStored s 0x0004)

def ptpPort (s : State) : Nat := bitsOf (ptpItem s) 1 1

/-- The torus gives time: the module is not the time-master, and a link is up (R306). -/
def torusTime (s : State) : Bool := !s.time.master && (List.range 6).any fun p => portUp s p

/-- In PS4 the lockkeepers hold a count that no source disciplines (R304). -/
def standby (s : State) : Bool := s.power.pstate == 4 && !s.boot.fromPs4

/-- The first source of R306 that is available and allowed. -/
def bestSource (s : State) : Nat :=
  let ok := fun (c : Nat) (avail : Bool) => avail && sourceAllowed s c && !standby s
  if ok 1 (torusTime s && s.time.ftrefOk) then 1
  else if ok 2 (torusTime s && !s.time.ftrefOk) then 2
  else if ok (3 + ptpPort s) ((ptpItem s).testBit 0 && s.time.ptp.inSync) then 3 + ptpPort s
  else if ok 5 s.time.ftrefOk then 5
  else 0

/-- A source gives a value: its code is 1 to 4. -/
def givesValue (c : Nat) : Bool := c != 0 && c < 5

/-- Takes the best source now available. A source newly taken is ACQUIRING until its first value; a source that is lost leaves HOLDOVER,
or FREE where none has ever supplied a value (R306, R311). -/
def reselect (s : State) : State :=
  let c := bestSource s
  if c = s.time.source then s
  else
    setTimeMode (if givesValue c then 1 else if s.time.everSourced then 4 else 0)
      { s with time.source := c, time.correction := 0 }

end Sys2Proof.Machine
end

