-- ==== Sys2Proof/Machine/BaseOps.lean ====
section
/-!
DEFINITION. Shared operations of the photonic base: a link, a passage or a torus port that goes down, circuits, and the occupancy of the
basins (R429, R430, R433, R435, R555 to R558, R572).
-/

namespace Sys2Proof.Machine

/-! ### A link or a port goes down (R416, R558, R572) -/

/-- A direction code and link carry a passage's first hop. -/
def passageUses (p : Passage) (dir r : Nat) : Bool := hopCode p.route 0 == dir && p.link == r

/-- The base and fibre links a passage holds at its source, with this module's part of R555. -/
def passageLinks (p : Passage) : List Nat :=
  let dir := hopCode p.route 0
  ((List.range 8).map fun k => txLink (16 + k) dir) ++ [fibreTx dir p.link]

/-- A passage of this module as circuits name it (R554): its number, and the index of its source. -/
def passageKey (s : State) (id : Nat) : Nat := coordOf s.torus.coord / 4096 * 65536 + id

/-- The circuits of a passage, module by module along its route, each with its link and port; those of a fibre hop on the links at both its
ends (R555). -/
def passageActs (s : State) (p : Passage) (act : Nat → Nat → Nat → FlightAct) : List FlightAct :=
  let codes := routeCodes p.route
  let mods := codes.foldl (fun (l : List Nat) d => l ++ [stepCoord s (l.getLastD 0) d]) [coordOf s.torus.coord]
  let first := codes.headD 0
  let src := ((List.range 8).map fun k => act (mods.headD 0) (txLink (16 + k) first) 2) ++
    [act (mods.headD 0) (fibreTx first p.link) 0]
  let transit := (List.range (codes.length - 1)).flatMap fun i =>
    let inb := 24 + reverseDir (codes.getD i 0)
    let dep := codes.getD (i + 1) 0
    [act (mods.getD (i + 1) 0) (fibreRx (inb - 24) p.link) 0,
     act (mods.getD (i + 1) 0) (txLink inb ((otherTorus inb).findIdx (· == 24 + dep))) 3,
     act (mods.getD (i + 1) 0) (fibreTx dep p.link) 0]
  let last := 24 + reverseDir (codes.getLastD 0)
  src ++ transit ++ [act (mods.getLastD 0) (fibreRx (last - 24) p.link) 0] ++
    (List.range 8).map fun r => act (mods.getLastD 0) (txLink last r) 0

/-- The identity of the flight that sets or releases a passage's circuits: the module, the passage, and which. -/
def flightId (s : State) (id : Nat) (release : Bool) : Nat := (2 * (s.torus.coord / 4096) + bit release) * 65536 + id

/-- A passage's circuits are released in the first window that follows here, and by a flight on the other modules of its route (R556,
R558). -/
def dropPassage (id : Nat) (p : Passage) (s : State) : State :=
  let links := passageLinks p
  let key := passageKey s id
  let s := nextWindow links (links.map fun l => .releaseCircuit l p.share key) s
  let other := (passageActs s p fun c l _ => .releaseCircuit c l p.share key).filter fun a => match a with
    | .releaseCircuit c _ _ _ => coordOf c != coordOf s.torus.coord
    | _ => false
  torusSend (.flightAsk (flightId s id true) [other]) s

/-- A passage's last pound has been cut (R556). -/
def releasePassage (id : Nat) (p : Passage) (s : State) : State :=
  dropPassage id p { s with torus.passages := Tab.del id s.torus.passages }

/-- At a cut, a confirmed passage begins to carry, counts its pounds, or ends (R556, R658). -/
def passagesAtCut (s : State) : State :=
  (s.torus.passages.filter fun x => x.2.opened).foldl (fun s x =>
    let p := x.2
    let upd := fun (q : Passage) => { s with torus.passages := Tab.put x.1 q s.torus.passages }
    if p.closing then releasePassage x.1 p s
    else if !p.carries then upd { p with carries := true, left := p.pounds }
    else if p.pounds = 0 then s
    else if p.left ≤ 1 then releasePassage x.1 p s
    else upd { p with left := p.left - 1 }) s

/-- Ends a passage whose link is lost: its circuits are released, and its source logs it (R558). -/
def losePassage (id : Nat) (s : State) : State :=
  match Tab.find? id s.torus.passages with
  | none => s
  | some p =>
    let s := dropPassage id p s
    let s := logEvent Ev.passageLost (leBytes 2 id) { s with torus.passages := Tab.del id s.torus.passages }
    (s.work.jobs.filter fun j => j.2.kind = .passage id).foldl (fun s j => endJob j.1 St.torusUnreachable [] s) s

/-- Ends every passage a test selects. -/
def losePassages (f : Passage → Bool) (s : State) : State :=
  (s.torus.passages.filter fun x => f x.2).foldl (fun s x => losePassage x.1 s) s

/-- Of torus ports that were UP, those none of whose links is UP now are DOWN: the module logs it and floods the link state (R572). -/
def portsDown (was : List Nat) (s : State) : State :=
  (was.filter fun d => !portUp s d).foldl (fun s d =>
    announce (.linkState s.torus.coord d false)
      (logEvent Ev.torusPortDown (leBytes 1 d)
        { s with torus.linkDown := (s.torus.linkDown ++ [(coordOf s.torus.coord, d)]).eraseDups })) s

/-- Sets the state of links, and follows what becomes of the torus ports and passages they carry (R558, R572). -/
def setLinks (links : List Nat) (st : Nat) (s : State) : State :=
  let was := (List.range 6).filter (portUp s)
  let s := links.foldl (fun s l => s.updLink l fun x => { x with state := st }) s
  let s := losePassages (fun p => links.any fun l => linkFibre l && passageUses p ((l - 512) / 16) (linkIdx l) && st == 0) s
  let s := portsDown was s
  reselect (((List.range 6).filter fun d => portUp s d && !was.contains d).foldl (fun s d =>
    announce (.linkState s.torus.coord d true)
      { s with torus.linkDown := s.torus.linkDown.erase (coordOf s.torus.coord, d) }) s)

/-! ### Circuits (R429, R430) -/

/-- The circuit shares on a link, in 1/16. -/
def Link.share (x : Link) : Nat := x.circuits.foldl (fun a c => a + c.share) 0

/-- Sets a circuit on a port of a transmit link and on the receive link that the port leads to, or on a fibre link, where both have
the share free (R429, R430). -/
def setCircuit (l port share passage : Nat) (s : State) : State :=
  if linkFibre l then
    if 12 < (s.link l).share + share then s
    else s.updLink l fun x => { x with circuits := x.circuits ++ [{ passage := passage, share := share, peer := l }] }
  else match (Tab.find? port (s.link l).ports).or (Tab.find? port (s.link l).unset) with
    | none => s
    | some d =>
      let r := rxLink d (linkBerth l % 8)
      if 12 < (s.link l).share + share ∨ 12 < (s.link r).share + share then s
      else
        (s.updLink l fun x => { x with circuits := x.circuits ++ [{ passage := passage, share := share, peer := r }] }).updLink r
          fun x => { x with circuits := x.circuits ++ [{ passage := passage, share := share, peer := l }] }

/-- Releases a passage's circuit on a link and on the link at its other end (R429, R431). -/
def dropCircuit (l passage : Nat) (s : State) : State :=
  match (s.link l).circuits.find? fun c => c.passage == passage with
  | none => s
  | some c =>
    (s.updLink l fun x => { x with circuits := x.circuits.filter fun y => y.passage ≠ passage }).updLink c.peer fun x =>
      { x with circuits := x.circuits.filter fun y => !(y.passage == passage && y.peer == l) }

/-! ### Base packets in a berth -/

/-- The packets that stand in a berth's queues on a channel, in 64-byte units (R839). -/
def berthDepth (s : State) (b vc : Nat) : Nat :=
  (List.range 8).foldl (fun a r => a + Tab.getD 0 vc (s.link (rxLink b r)).occupancy) 0

/-- The receive link a pair is accumulated in (R437). -/
def homeLink (b addr : Nat) : Nat := rxLink b (addr / 64 % 8)

/-- Stands in place of a transmit link for packets that entered from a stack's own base ports and crossed no link (R437). -/
def ownPort : Nat := 4096

/-- Units of a channel of a receive link's basin are taken: its occupancy rises. A rise to 3/4 or more is an upper-weir crossing, and holds
the channel's senders back until it falls below 1/2 (R433, R435, R448). -/
def occupy (l vc units : Nat) (s : State) : State :=
  let was := Tab.getD 0 vc (s.link l).occupancy
  let occ := was + units
  let high := fun (n : Nat) => decide (3 * basinPart l vc ≤ 4 * n)
  let s := s.updLink l fun x =>
    { x with
      occupancy := Tab.put vc occ x.occupancy
      weirHigh := if high occ && !x.weirHigh.contains vc then x.weirHigh ++ [vc] else x.weirHigh
      crossings := if high occ && !high was then satInc x.crossings else x.crossings }
  let b := linkBerth l
  let k := 4 * b + vc
  { s with base.queueHigh := Tab.put k (max (Tab.getD 0 k s.base.queueHigh) (berthDepth s b vc)) s.base.queueHigh }

/-- A receive link's basin takes a packet from a transmit link (R433). -/
def basinTake (l sender : Nat) (p : BasePacket) (s : State) : State :=
  let k := 4 * l + p.vc % 4
  let s := occupy l (p.vc % 4) (packetUnits p) s
  { s with base.queues := Tab.put k (Tab.getD [] k s.base.queues ++ [(p, sender)]) s.base.queues }

/-- Units of a channel leave a receive link's basin; the weir opens again below 1/2 (R435). -/
def basinGive (l vc units : Nat) (s : State) : State :=
  let occ := Tab.getD 0 vc (s.link l).occupancy - units
  s.updLink l fun x =>
    { x with
      occupancy := Tab.putD 0 vc occ x.occupancy
      weirHigh := if 2 * occ < basinPart l vc then x.weirHigh.erase vc else x.weirHigh }

end Sys2Proof.Machine
end

