-- ==== Sys2Proof/Machine/Flags.lean ====
section
/-!
DEFINITION. Arithmetic and its flags (chapter 2): values held exactly as a sign, a magnitude and a power of two,
decoding from and rounding to each format, the arithmetic flag byte, quantisation, and the special functions.
-/

namespace Sys2Proof.Machine

/-! ### The flag byte (R74) -/

abbrev flFLUSH : Nat := 1
abbrev flINV : Nat := 2
abbrev flOVF : Nat := 4
abbrev flFSAT : Nat := 8
abbrev flISAT : Nat := 16
abbrev flT2R : Nat := 32
abbrev flSCN : Nat := 64

/-! ### Exact values -/

/-- A number as computed: NaN, an infinity, or ± m × 2^e with the sign of a zero kept. -/
inductive Fv where
  | nan
  | inf (neg : Bool)
  | num (neg : Bool) (m : Nat) (e : Int)
deriving DecidableEq, Repr

namespace Fv

def zero : Fv := .num false 0 0
def ofInt (v : Int) : Fv := .num (v < 0) v.natAbs 0
def neg : Fv → Fv
  | .nan => .nan
  | .inf s => .inf !s
  | .num s m e => .num (!s) m e
def isNan : Fv → Bool
  | .nan => true
  | _ => false
def isZero : Fv → Bool
  | .num _ m _ => m == 0
  | _ => false
def finite : Fv → Bool
  | .num _ _ _ => true
  | _ => false
def sign : Fv → Bool
  | .nan => false
  | .inf s => s
  | .num s _ _ => s

end Fv

/-- A signed integer scaled: m × 2^(e − lo) for lo ≤ e. -/
def scaleInt (s : Bool) (m : Nat) (e lo : Int) : Int :=
  let v : Int := (m * 2 ^ (e - lo).toNat : Nat)
  if s then -v else v

/-- The exact sum, and whether it is an invalid operation. -/
def fvAdd : Fv → Fv → Fv × Nat
  | .nan, _ => (.nan, 0)
  | _, .nan => (.nan, 0)
  | .inf a, .inf b => if a = b then (.inf a, 0) else (.nan, flINV)
  | .inf a, .num _ _ _ => (.inf a, 0)
  | .num _ _ _, .inf b => (.inf b, 0)
  | .num s m e, .num t n f =>
    let lo := min e f
    let v := scaleInt s m e lo + scaleInt t n f lo
    if v = 0 then (.num (s && t) 0 0, 0) else (.num (v < 0) v.natAbs lo, 0)

/-- The exact product, and whether it is an invalid operation. -/
def fvMul : Fv → Fv → Fv × Nat
  | .nan, _ => (.nan, 0)
  | _, .nan => (.nan, 0)
  | .inf a, .inf b => (.inf (a != b), 0)
  | .inf a, .num t n _ => if n = 0 then (.nan, flINV) else (.inf (a != t), 0)
  | .num s m _, .inf b => if m = 0 then (.nan, flINV) else (.inf (s != b), 0)
  | .num s m e, .num t n f => (.num (s != t) (m * n) (e + f), 0)

/-- Order of two numbers that are not NaN; −0 and +0 compare equal. -/
def fvLt : Fv → Fv → Bool
  | .nan, _ => false
  | _, .nan => false
  | .inf a, .inf b => a && !b
  | .inf a, .num _ _ _ => a
  | .num _ _ _, .inf b => !b
  | .num s m e, .num t n f =>
    let lo := min e f
    scaleInt s m e lo < scaleInt t n f lo

def fvEq : Fv → Fv → Bool
  | .nan, _ => false
  | _, .nan => false
  | .inf a, .inf b => a == b
  | .num s m e, .num t n f =>
    let lo := min e f
    scaleInt s m e lo == scaleInt t n f lo
  | _, _ => false

/-- The order of max, min and SORT: −0 below +0 (R71, R195). -/
def fvBelow (a b : Fv) : Bool := fvLt a b || (a.isZero && b.isZero && a.sign && !b.sign)

/-! ### Float formats (R31 to R35) -/

/-- The fields of a float format (R32). `inf` says it has infinities; `top` is the code of its largest finite value;
`nanCode` its canonical NaN. -/
structure FloatFmt where
  ebits : Nat
  mbits : Nat
  bias  : Int
  hasInf : Bool
  hasNan : Bool
  top   : Nat
  nanCode : Nat
deriving DecidableEq, Repr

def fmtF32 : FloatFmt := ⟨8, 23, 127, true, true, 0x7F7FFFFF, 0x7FC00000⟩
def fmtBF16 : FloatFmt := ⟨8, 7, 127, true, true, 0x7F7F, 0x7FC0⟩
def fmtF16 : FloatFmt := ⟨5, 10, 15, true, true, 0x7BFF, 0x7E00⟩
def fmtE4M3 : FloatFmt := ⟨4, 3, 7, false, true, 0x7E, 0x7F⟩
def fmtE5M2 : FloatFmt := ⟨5, 2, 15, true, true, 0x7B, 0x7E⟩
def fmtE3M2 : FloatFmt := ⟨3, 2, 3, false, false, 0x1F, 0⟩
def fmtE2M3 : FloatFmt := ⟨2, 3, 1, false, false, 0x1F, 0⟩
def fmtE2M1 : FloatFmt := ⟨2, 1, 1, false, false, 0x7, 0⟩

/-- The float format of a format code (R31), for the codes that have one. -/
def floatFmt (code : Nat) : Option FloatFmt :=
  match code with
  | 0 => some fmtF32
  | 1 => some fmtBF16
  | 2 => some fmtF16
  | 3 => some fmtE4M3
  | 4 => some fmtE5M2
  | 5 => some fmtE3M2
  | 6 => some fmtE2M3
  | 7 => some fmtE2M1
  | _ => none

/-- Element width in bits by format code (R31). -/
def fmtBits (code : Nat) : Nat :=
  match code with
  | 0 => 32 | 1 => 16 | 2 => 16 | 3 => 8 | 4 => 8 | 5 => 6 | 6 => 6 | 7 => 4 | 8 => 8 | 9 => 4 | 10 => 2 | 11 => 32
  | _ => 8

/-- Block formats (R40). -/
def isBlock (code : Nat) : Bool := code == 5 || code == 6 || code == 7 || code == 10

/-- Integer formats. -/
def isIntFmt (code : Nat) : Bool := code == 8 || code == 9 || code == 11

/-- Decodes a code of a float format (R32). -/
def decodeFloat (f : FloatFmt) (code : Nat) : Fv :=
  let sgn := code.testBit (f.ebits + f.mbits)
  let mag := code % 2 ^ (f.ebits + f.mbits)
  let ex := mag / 2 ^ f.mbits
  let man := mag % 2 ^ f.mbits
  if f.hasInf && ex == 2 ^ f.ebits - 1 then (if man = 0 then .inf sgn else .nan)
  else if f.hasNan && !f.hasInf && mag == f.nanCode then .nan
  else if ex = 0 then .num sgn man (1 - f.bias - f.mbits)
  else .num sgn (2 ^ f.mbits + man) (ex - f.bias - f.mbits)

/-- A subnormal F32, BF16 or F16 number is flushed to ±0 under the task's flag (R54). -/
def flushIn (flush : Bool) (f : FloatFmt) (code : Nat) : Nat × Nat :=
  let mag := code % 2 ^ (f.ebits + f.mbits)
  if flush && decide (0 < mag) && decide (mag < 2 ^ f.mbits) then (code - mag, flFLUSH) else (code, 0)

/-- Whether R54 applies to a format code: F32, BF16, F16 (R55). -/
def flushable (code : Nat) : Bool := code ≤ 2

/-! ### Rounding (R56 to R60) -/

/-- How a conversion rounds: to nearest even, or stochastically by the random word's upper half (R58, R59). -/
inductive Rounding where
  | nearest
  | stochastic (r : Nat)
deriving DecidableEq, Repr

/-- m × 2^(−d) rounded to an integer, for d ≥ 0. -/
def roundShift (rd : Rounding) (m d : Nat) : Nat :=
  let k := m / 2 ^ d
  let rest := m % 2 ^ d
  if rest = 0 then k
  else match rd with
    | .nearest =>
      if 2 * rest < 2 ^ d then k
      else if 2 * rest = 2 ^ d then (if k % 2 = 0 then k else k + 1)
      else k + 1
    | .stochastic r => if r / 2 ^ 32 < rest * 2 ^ 32 / 2 ^ d then k + 1 else k

/-- m × 2^e rounded to a multiple of 2^q, as the multiple. -/
def roundAt (rd : Rounding) (m : Nat) (e q : Int) : Nat :=
  if q ≤ e then m * 2 ^ (e - q).toNat else roundShift rd m (q - e).toNat

/-- The magnitude code of m × 2^e rounded to a float format, before the overflow of R57. -/
def roundMag (rd : Rounding) (f : FloatFmt) (m : Nat) (e : Int) : Nat :=
  if m = 0 then 0
  else
    let top := e + (Nat.log2 m : Nat)
    let ex := max top (1 - f.bias)
    let n := roundAt rd m e (ex - f.mbits)
    ((ex + f.bias - 1).toNat) * 2 ^ f.mbits + n

/-- Converts to F32, BF16, F16, E4M3 or E5M2 by R56 to R58 with the outcomes of R57 and the flush of R54: the code and
the flags it sets. -/
def toFloat (rd : Rounding) (flush : Bool) (code : Nat) (x : Fv) : Nat × Nat :=
  match floatFmt code with
  | none => (0, 0)
  | some f =>
    let sb := fun (s : Bool) => bit s * 2 ^ (f.ebits + f.mbits)
    match x with
    | .nan => (f.nanCode, 0)
    | .inf s => if f.hasInf then (sb s + f.top + 1, 0) else (sb s + f.top, flFSAT)
    | .num s m e =>
      let c := roundMag rd f m e
      if f.top < c then (if f.hasInf then (sb s + f.top + 1, flOVF) else (sb s + f.top, flFSAT))
      else if flush && flushable code && decide (0 < c) && decide (c < 2 ^ f.mbits) then (sb s, flFLUSH)
      else (sb s + c, 0)

/-- Rounds to F32 (R69). -/
def toF32 (flush : Bool) (x : Fv) : Nat × Nat := toFloat .nearest flush 0 x

/-- The value of an F32 bit pattern as an input of a task (R54). -/
def f32In (flush : Bool) (bits : Nat) : Fv × Nat :=
  let (c, fl) := flushIn flush fmtF32 bits
  (decodeFloat fmtF32 c, fl)

/-- The range of an integer format. -/
def intRange (code : Nat) : Int × Int :=
  match code with
  | 8 => (-128, 127)
  | 9 => (-8, 7)
  | _ => (-2147483648, 2147483647)

/-- Rounds to an integer by R56 and saturates by R57. -/
def toIntFmt (code : Nat) (x : Fv) : Int × Nat :=
  let (lo, hi) := intRange code
  match x with
  | .nan => (0, flINV)
  | .inf s => (if s then lo else hi, flISAT)
  | .num s m e =>
    let n : Int := roundAt .nearest m e 0
    let v := if s then -n else n
    if v < lo then (lo, flISAT) else if hi < v then (hi, flISAT) else (v, 0)

/-- One step of the 64-bit mixing function of R60. -/
def mix64 (x : Nat) : Nat :=
  let z := (x + 0x9E3779B97F4A7C15) % 2 ^ 64
  let z := ((z ^^^ (z >>> 30)) * 0xBF58476D1CE4E5B9) % 2 ^ 64
  let z := ((z ^^^ (z >>> 27)) * 0x94D049BB133111EB) % 2 ^ 64
  z ^^^ (z >>> 31)

/-- The random word of an element (R60). -/
def randomWord (p g t m c e : Nat) : Nat :=
  let seed := mix64 (p % 2 ^ 64 ^^^ mix64 ((g <<< 20) ||| t))
  mix64 (seed ^^^ (m <<< 56) ^^^ ((c % 2 ^ 24) <<< 32) ^^^ (e % 2 ^ 32))

/-! ### Quantisation (R62 to R68) -/

/-- floor(log2) of a positive number m × 2^e. -/
def log2Of (m : Nat) (e : Int) : Int := e + (Nat.log2 m : Nat)

/-- emax of a block format (R62). -/
def emaxOf (code : Nat) : Int :=
  match code with
  | 5 => 4
  | 6 => 2
  | 7 => 2
  | _ => 0

/-- The magnitudes of finite inputs. -/
def magsOf (l : List Fv) : List (Nat × Int) :=
  l.filterMap fun x => match x with
    | .num _ m e => if m = 0 then none else some (m, e)
    | _ => none

/-- The scale exponent under MAX (R62), before the clamp. -/
def scaleMax (code : Nat) (l : List Fv) : Int :=
  match magsOf l with
  | [] => 0
  | h :: t => (t.foldl (fun a x => max a (log2Of x.1 x.2)) (log2Of h.1 h.2)) - emaxOf code

/-- The scale exponent under MEAN (R63), before the clamp: the mean is formed exactly over the elements held. -/
def scaleMean (l : List Fv) : Int :=
  let mags := magsOf l
  let lo := mags.foldl (fun a x => min a x.2) 0
  let sum : Nat := mags.foldl (fun a x => a + x.1 * 2 ^ (x.2 - lo).toNat) 0
  let n := l.length
  if sum = 0 ∨ n = 0 then 0
  else
    -- the mean is sum / n × 2^lo; k is floor(log2(sum / n))
    let big := sum * 2 ^ 16
    let k := Nat.log2 (big / n)
    let half : Nat := bit (decide (3 * n * 2 ^ k ≤ 2 * big))
    lo + (k : Int) - 16 + half

/-- The code of one element divided by 2^s (R66): the code and whether it saturated. -/
def quantElem (code : Nat) (s : Int) (x : Fv) : Nat × Bool :=
  match x with
  | .num sg m e =>
    if code = 10 then
      let n := roundAt .nearest m (e - s) 0
      if n = 0 then (0, false) else (if sg then 3 else 1, decide (1 < n))
    else match floatFmt code with
      | none => (0, false)
      | some f =>
        let c := roundMag .nearest f m (e - s)
        let sb := bit sg * 2 ^ (f.ebits + f.mbits)
        if f.top < c then (sb + f.top, true) else (sb + c, false)
  | _ => (0, false)

/-- A block's scale byte, element codes and flags from its inputs (R57, R62 to R67). -/
def quantBlock (code : Nat) (mean : Bool) (l : List Fv) : Nat × List Nat × Nat :=
  if l.any fun x => !x.finite then (0xFF, l.map fun _ => 0, flINV)
  else if magsOf l = [] then (0x7F, l.map fun _ => 0, 0)
  else
    let s0 := if mean then scaleMean l else scaleMax code l
    let s := max (-127) (min 127 s0)
    let q := l.map (quantElem code s)
    ((s + 127).toNat, q.map Prod.fst, if decide (127 < s0) && q.any Prod.snd then flFSAT else 0)

/-! ### Vector engine (R69 to R73, R179 to R182) -/

/-- EBIN on F32 (R69, R71). -/
def ebinF32 (op : Nat) (flush : Bool) (a b : Nat) : Nat × Nat :=
  let (x, f1) := f32In flush a
  let (y, f2) := f32In flush b
  let (z, f3) : Fv × Nat :=
    match op with
    | 0 => fvAdd x y
    | 1 => fvAdd x y.neg
    | 2 => fvMul x y
    | 3 => if x.isNan || y.isNan then (.nan, 0) else (if fvBelow x y then y else x, 0)
    | _ => if x.isNan || y.isNan then (.nan, 0) else (if fvBelow y x then y else x, 0)
  let (r, f4) := toF32 flush z
  (r, f1 ||| f2 ||| f3 ||| f4)

/-- Wraps to 32 bits (R51). -/
def wrap32 (v : Int) : Nat := (v % (2 ^ 32 : Int)).toNat

/-- EBIN on I32 (R51). -/
def ebinI32 (op : Nat) (a b : Nat) : Nat :=
  let x := signedOf 32 a
  let y := signedOf 32 b
  match op with
  | 0 => wrap32 (x + y)
  | 1 => wrap32 (x - y)
  | 2 => wrap32 (x * y)
  | 3 => wrap32 (max x y)
  | _ => wrap32 (min x y)

/-- EFMA, rounded once (R69). -/
def efmaF32 (flush : Bool) (a b c : Nat) : Nat × Nat :=
  let (x, f1) := f32In flush a
  let (y, f2) := f32In flush b
  let (z, f3) := f32In flush c
  let (p, f4) := fvMul x y
  let f4 := if z.isNan then 0 else f4
  let (q, f5) := fvAdd p z
  let (r, f6) := toF32 flush q
  (r, f1 ||| f2 ||| f3 ||| f4 ||| f5 ||| f6)

/-- The comparison codes of R149 on an order: less, equal. -/
def compareCode (code : Nat) (lt eq gt : Bool) : Bool :=
  match code with
  | 0 => eq
  | 1 => lt || gt
  | 2 => lt
  | 3 => lt || eq
  | 4 => gt
  | _ => gt || eq

/-! ### Special functions (R70)

A result is the engine's proposal where that lies within the error limit, and the nearest F32 value otherwise. The
exact result is held as a fixed-point number with 128 fraction bits, far finer than any limit. -/

abbrev fxOne : Nat := 2 ^ 128

/-- The fixed-point value of m × 2^e, truncated. -/
def fxOf (m : Nat) (e : Int) : Nat := if 0 ≤ e + 128 then m * 2 ^ (e + 128).toNat else m / 2 ^ (-(e + 128)).toNat

def fxMul (a b : Nat) : Nat := a * b / fxOne
def fxDiv (a b : Nat) : Nat := a * fxOne / b

/-- ln 2 with 128 fraction bits. -/
def fxLn2 : Nat := 0xB17217F7D1CF79ABC9E3B39803F2F6AF

/-- e^y for 0 ≤ y, by its series; `fuel` terms. -/
def fxExpTerms (y : Nat) : Nat → Nat → Nat → Nat → Nat
  | 0, _, _, acc => acc
  | fuel + 1, n, term, acc =>
    let t := fxMul term y / n
    fxExpTerms y fuel (n + 1) t (acc + t)

/-- e^y for 0 ≤ y < 1. -/
def fxExp (y : Nat) : Nat := fxExpTerms y 40 1 fxOne fxOne

/-- 2^f for a fraction f. -/
def fxExp2 (f : Nat) : Nat := fxExp (fxMul f fxLn2)

/-- e^y for y ≥ 0 as (fraction in [1, 2), power of two). -/
def fxExpBig (y : Nat) : Nat × Nat :=
  let k := y / fxLn2
  (fxExp (y - k * fxLn2), k)

/-- The odd series of atanh: z + z^3/3 + … -/
def fxAtanhTerms (z2 : Nat) : Nat → Nat → Nat → Nat → Nat
  | 0, _, _, acc => acc
  | fuel + 1, n, pw, acc =>
    let p := fxMul pw z2
    fxAtanhTerms z2 fuel (n + 2) p (acc + p / n)

/-- log2 of a fixed-point number in [1, 2). -/
def fxLog2 (x : Nat) : Nat :=
  let z := fxDiv (x - fxOne) (x + fxOne)
  fxDiv (2 * fxAtanhTerms (fxMul z z) 45 3 z z) fxLn2

/-- The series of erf: x Σ (2x²)^n / (2n + 1)!!. -/
def fxErfTerms (x2 : Nat) : Nat → Nat → Nat → Nat → Nat
  | 0, _, _, acc => acc
  | fuel + 1, n, term, acc =>
    let t := fxMul term (2 * x2) / n
    fxErfTerms x2 fuel (n + 2) t (acc + t)

/-- 2 / √π with 128 fraction bits. -/
def fxTwoRootPi : Nat := 0x120DD750429B6D11AE3A914FED7FD8688

/-- erf of a fixed-point number below 6. -/
def fxErf (x : Nat) : Nat :=
  let x2 := fxMul x x
  let (ef, k) := fxExpBig x2
  fxDiv (fxMul fxTwoRootPi (fxErfTerms x2 200 3 x x)) ef / 2 ^ k

/-- Integer square root, bit by bit from `fuel`. -/
def isqrtStep (n : Nat) : Nat → Nat → Nat
  | 0, r => r
  | k + 1, r =>
    let c := r + 2 ^ k
    isqrtStep n k (if c * c ≤ n then c else r)

def isqrt (n : Nat) : Nat := isqrtStep n (Nat.log2 n / 2 + 1) 0

/-- Limit check of R70: |p − x| within `ulps` units in the last place of x, or within 2^−`absb` where `absb` is not 0.
Both are m × 2^e with a sign; the exact result is (sx, mx, ex). The unit in the last place of a result of 0, as of any
result below the smallest normal, is 2^−149. -/
def withinLimit (p : Fv) (sx : Bool) (mx : Nat) (ex : Int) (ulps absb : Nat) : Bool :=
  match p with
  | .num sp mp ep =>
    let lo := min (min ep ex) (-200)
    let d := (scaleInt sp mp ep lo - scaleInt sx mx ex lo).natAbs
    let ue := if mx = 0 then -149 else max (log2Of mx ex) (-126) - 23
    (decide (d ≤ ulps * 2 ^ (ue - lo).toNat)) || (decide (absb ≠ 0) && decide (d ≤ 2 ^ (-(absb : Int) - lo).toNat))
  | _ => false

/-- The proposal where it is within the limit, else the nearest value. -/
def pickSpecial (fn bits : Nat) (flush : Bool) (sx : Bool) (mx : Nat) (ex : Int) (ulps absb : Nat) : Nat × Nat :=
  let p := Config.specialFn fn bits % 2 ^ 32
  if withinLimit (decodeFloat fmtF32 p) sx mx ex ulps absb then
    if flush && decide (0 < p % 2 ^ 31) && decide (p % 2 ^ 31 < 2 ^ 23) then (p - p % 2 ^ 31, flFLUSH) else (p, 0)
  else toF32 flush (.num sx mx ex)

/-- The exact result of a function of R70 on a finite non-zero input ± m × 2^e, as sign, magnitude, exponent. tanh and erf
near their limit stand just below 1, whose unit in the last place is 2^−24. -/
def specialExact (fn : Nat) (s : Bool) (m : Nat) (e : Int) : Bool × Nat × Int :=
  match fn with
  | 2 => (s, 2 ^ 200 / m, -200 - e)
  | 3 =>
    let (m', e') := if e % 2 = 0 then (m, e) else (2 * m, e - 1)
    (false, isqrt (2 ^ 400 / m'), -200 - e' / 2)
  | 4 =>
    let y := fxOf m e
    if s then
      let k := (y + fxOne - 1) / fxOne
      (false, fxExp2 (k * fxOne - y), -128 - (k : Int))
    else (false, fxExp2 (y % fxOne), -128 + (y / fxOne : Nat))
  | 5 =>
    let k := log2Of m e
    let x := fxOf m (e - k)
    let v : Int := k * (fxOne : Int) + (fxLog2 x : Int)
    (v < 0, v.natAbs, -128)
  | 6 =>
    if 5 ≤ log2Of m e then (s, fxOne - 1, -128)
    else
      let (f, k) := fxExpBig (2 * fxOf m e)
      let w := f * 2 ^ k
      (s, fxDiv (w - fxOne) (w + fxOne), -128)
  | 7 =>
    let y := if 7 ≤ log2Of m e then 128 * fxOne else fxOf m e
    let (f, k) := fxExpBig y
    let w := f * 2 ^ k
    (false, if s then fxDiv fxOne (w + fxOne) else fxDiv w (w + fxOne), -128)
  | _ =>
    if decide (3 ≤ log2Of m e) || decide (6 * fxOne ≤ fxOf m e) then (s, fxOne - 1, -128) else (s, fxErf (fxOf m e), -128)

/-- The limit of a function: ulps, and the absolute limit's exponent or 0 (R70). -/
def specialLimit (fn : Nat) : Nat × Nat :=
  match fn with
  | 2 => (1, 0)
  | 3 => (2, 0)
  | 4 => (2, 0)
  | 5 => (2, 22)
  | 6 => (4, 22)
  | 7 => (4, 23)
  | _ => (4, 22)

/-- A special function of R70 on an F32 pattern: the result and its flags. -/
def specialFn (fn : Nat) (flush : Bool) (bits : Nat) : Nat × Nat :=
  let (x, f1) := f32In flush bits
  let inf := fun (s : Bool) => (bit s * 2 ^ 31 + 0x7F800000, 0)
  let one := 0x3F800000
  let (r, f2) : Nat × Nat :=
    match x with
    | .nan => (0x7FC00000, 0)
    | .inf s =>
      match fn with
      | 2 => (bit s * 2 ^ 31, 0)
      | 3 => if s then (0x7FC00000, flINV) else (0, 0)
      | 4 => if s then (0, 0) else inf false
      | 5 => if s then (0x7FC00000, flINV) else inf false
      | 7 => (if s then 0 else one, 0)
      | _ => (bit s * 2 ^ 31 + one, 0)
    | .num s m e =>
      let (ulps, absb) := specialLimit fn
      if m = 0 then
        match fn with
        | 2 => inf s
        | 3 => inf s
        | 5 => inf true
        | 4 => pickSpecial fn bits flush false 1 0 ulps absb
        | 7 => pickSpecial fn bits flush false 1 (-1) ulps absb
        | _ => pickSpecial fn bits flush s 0 0 ulps absb
      else if (fn = 3 ∨ fn = 5) ∧ s then (0x7FC00000, flINV)
      else if fn = 4 ∧ 7 ≤ log2Of m e ∧ !s then (0x7F800000, flOVF)
      else if fn = 4 ∧ 8 ≤ log2Of m e ∧ s then pickSpecial fn bits flush false 1 (-256) ulps absb
      else
        let (sx, mx, ex) := specialExact fn s m e
        pickSpecial fn bits flush sx mx ex ulps absb
  (r, f1 ||| f2)

/-! ### Sums in a free order (R76) -/

/-- Adds two values and rounds once to a float format, F32 in the engines (R69, R78, R122). -/
def addRoundTo (fmt : Nat) (flush : Bool) (a b : Fv) : Fv × Nat :=
  let (z, f1) := fvAdd a b
  let (r, f2) := toFloat .nearest flush fmt z
  (match floatFmt fmt with
    | some f => decodeFloat f r
    | none => z, f1 ||| f2)

/-- Removes the element at an index. -/
def takeAt {α : Type} : Nat → List α → Option (α × List α)
  | _, [] => none
  | 0, h :: t => some (h, t)
  | n + 1, h :: t => (takeAt n t).map fun p => (p.1, h :: p.2)

/-- Sums a list by adding two of its members chosen freely until one is left: `pick` gives the choices. -/
def freeSumTo (fmt : Nat) (flush : Bool) : Nat → Nat → List Fv → Fv × Nat
  | 0, _, l => (l.headD Fv.zero, 0)
  | _ + 1, _, [] => (Fv.zero, 0)
  | _ + 1, _, [x] => (x, 0)
  | fuel + 1, pick, a :: b :: t =>
    let l := a :: b :: t
    let n := l.length
    match takeAt (pick % n) l with
    | none => (Fv.zero, 0)
    | some (x, l1) =>
      match takeAt (pick / n % (n - 1)) l1 with
      | none => (Fv.zero, 0)
      | some (y, l2) =>
        let (z, f) := addRoundTo fmt flush x y
        let (r, f') := freeSumTo fmt flush fuel (pick / n / (n - 1)) (z :: l2)
        (r, f ||| f')

/-- The free-order sum of the engines, in F32 (R76). -/
def freeSum (flush : Bool) (fuel pick : Nat) (l : List Fv) : Fv × Nat := freeSumTo 0 flush fuel pick l

/-- An F32 value split exactly into three parts of eight significand bits (R50), by truncation or to nearest
(notes/assumptions/22.md). In the topmost binade, where a part rounded up could pass the largest BF16 value, the split
truncates. -/
def splitF32 (near : Bool) (x : Fv) : Fv × Fv × Fv :=
  match x with
  | .num s m e =>
    let k := Nat.log2 (max m 1)
    let near := near && decide (e + (k : Int) < 127)
    let part := fun (v : Int) (top : Int) =>
      -- the leading eight bits of v × 2^e below 2^(top+1)
      let q := (top - 7 - e).toNat
      let h : Int := if near then (v + 2 ^ q / 2) / (2 ^ q : Int) else (if v < 0 then -((-v) / (2 ^ q : Int)) else v / (2 ^ q : Int))
      h * 2 ^ q
    let v : Int := if s then -(m : Int) else m
    let h := part v (e + (k : Int))
    let mid := part (v - h) (e + (k : Int) - 8)
    let f := fun (w : Int) => Fv.num (w < 0) w.natAbs e
    (f h, f mid, f (v - h - mid))
  | y => (y, Fv.zero, Fv.zero)

end Sys2Proof.Machine
end

