-- ==== Sys2Proof/Machine/Scratch.lean ====
section
/-!
DEFINITION. A core's scratch region and its one port: the bytes, the arbitration of the core side and the lighter, the
deferred write, and the accesses that ops and transfers make (R95 to R112).
-/

namespace Sys2Proof.Machine

/-! ### The bytes (R95, R786) -/

/-- The key of a scratch byte (R95, R786). -/
def scratchKey (core off : Nat) : Nat := core * 2 ^ 21 + off

def scratchByte (s : State) (core off : Nat) : Byte := Tab.getD 0 (scratchKey core off) s.stk.scratch

/-- Writes one scratch byte with its parity; a byte of 0 is not listed (R95, R99). -/
def putScratch (core : Nat) (c : Nat × Byte) (s : State) : State :=
  { s with
    stk.scratch := Tab.putD 0 (scratchKey core c.1) c.2 s.stk.scratch
    stk.badBytes := s.stk.badBytes.filter (· ≠ scratchKey core c.1) }

/-! ### Parity (R99) -/

/-- The bytes of a word, among those enabled, that the array holds with wrong parity (R99). -/
def badIn (s : State) (c w : Nat) (e : List Nat) : List Nat :=
  e.filter fun i => decide (i < 256) && s.stk.badBytes.contains (scratchKey c (w * 256 + i))

/-- A byte of the array goes wrong: what it holds is then a free value, and its parity fails until it is written again (R99;
notes/assumptions/168.md). -/
def spoilByte (c off : Nat) (s : State) : State :=
  let (x, s) := draw s
  let k := scratchKey c off
  { s with
    stk.scratch := Tab.putD 0 k (BitVec.ofNat 8 x) s.stk.scratch
    stk.badBytes := if s.stk.badBytes.contains k then s.stk.badBytes else s.stk.badBytes ++ [k] }

/-- Bytes of a word go wrong. -/
def spoilWord (c w : Nat) (l : List Nat) (s : State) : State := l.foldl (fun s i => spoilByte c (w * 256 + i) s) s

/-- A read of a word finds parity errors in bytes of it: EV_SCRATCH_PARITY, the rollback of the open pound, and their vertical lanes are
to be tested (R99, R721). -/
def scratchError (c w : Nat) (l : List Nat) (s : State) : State :=
  raiseFault Ev.scratchParity (leBytes 1 (c / 128) ++ leBytes 1 (c % 128) ++ leBytes 2 w)
    (s.updCore c fun x => { x with testWords := Tab.put w l x.testWords })

/-- The check of a read's enabled bytes (R99). -/
def checkWord (c w : Nat) (e : List Nat) (s : State) : State :=
  let l := badIn s c w e
  if l = [] then s else scratchError c w l s

/-- The words that byte ranges of the region touch, each with the offsets in it. -/
def runWords (l : List (Nat × Nat)) : List (Nat × List Nat) :=
  ((l.flatMap fun r => if r.1 < r.2 then (List.range ((r.2 - 1) / 256 + 1 - r.1 / 256)).map (· + r.1 / 256) else []).eraseDups).map
    fun w => (w, (List.range 256).filter fun i => l.any fun r => decide (r.1 ≤ w * 256 + i ∧ w * 256 + i < r.2))

/-- The check of an op's reads from the core side (R99). -/
def checkRuns (c : Nat) (l : List (Nat × Nat)) (s : State) : State :=
  if s.stk.badBytes = [] then s else (runWords l).foldl (fun s x => checkWord c x.1 x.2 s) s

/-! ### The port in one core cycle (R96, R103 to R110) -/

/-- A core whose scratch region works: its stack is powered, its compute die, which clocks the scratch die, runs, and the core is
not fenced (R102, R327, R727). -/
def scratchLive (s : State) (c : Nat) : Bool :=
  (s.stack (c / 128)).powered && (s.stack (c / 128)).clocked && (s.core c).fence == 0

/-- A request that the port performs: one that touches no offset at or above 0x18_0000 (R97). -/
def portReq : ScratchReq → ScratchReq
  | .idle => .idle
  | .read w e => if w < 6144 then .read w e else .idle
  | .write w b => if w < 6144 then .write w b else .idle

/-- The enabled bytes of a scratch word that are not 0, by offset in the word (R96). -/
def wordBytes (s : State) (c w : Nat) (enables : List Nat) : Tab Byte :=
  (enables.filter (· < 256)).foldl (fun t i => Tab.putD 0 i (scratchByte s c (w * 256 + i)) t) []

/-- Bytes laid over those of a word. -/
def overBytes (upper under : Tab Byte) : Tab Byte := upper.foldl (fun t b => Tab.putD 0 b.1 b.2 t) under

/-- The enabled bytes of a write land in the word. -/
def landBytes (c w : Nat) (b : Tab Byte) (s : State) : State :=
  (b.filter fun x => x.1 < 256).foldl (fun s x => putScratch c (w * 256 + x.1, x.2) s) s

/-- The refusal run counter counts on, and at 4,096 a starvation event (R109, R110). -/
def countRefusal (x : Core) : Core :=
  if x.run + 1 = 4096 then { x with run := 0, starve := satInc x.starve } else { x with run := x.run + 1 }

/-- The deferred bytes of a word (R106). -/
def deferredBytes (x : Core) (w : Nat) : Tab Byte :=
  match x.deferred with
  | some (dw, b) => if dw = w then b else []
  | none => []

/-- A core-side write takes from the deferred write of its word the bytes it writes; with none left the register is empty
(R107). -/
def clearDeferred (w : Nat) (b : Tab Byte) (x : Core) : Core :=
  match x.deferred with
  | some (dw, d) =>
    let left := if w = dw then d.filter fun y => !Tab.has y.1 b else d
    { x with deferred := if left = [] then none else some (dw, left) }
  | none => x

/-- The core side's data of a read of a word, with deferred bytes merged (R104, R106). -/
def coreRead (c w : Nat) (e : List Nat) (s : State) : State :=
  let d := (deferredBytes (s.core c) w).filter fun b => e.contains b.1
  s.updCore c fun x => { x with lastRead := overBytes d (wordBytes s c w e) }

/-- One cycle while a lighter write is deferred (R105 to R109). -/
def deferredCycle (c dw : Nat) (d : Tab Byte) (req : ScratchReq) (s : State) : State :=
  match req with
  | .idle => (landBytes c dw d s).updCore c fun x => { x with deferred := none, run := 0 }
  | .read w e => (coreRead c w e s).updCore c countRefusal
  | .write w b => (landBytes c w b s).updCore c fun x => clearDeferred w b (countRefusal x)

/-- One cycle with no write deferred: the truth table of R104. -/
def portCycle (c : Nat) (req lighter : ScratchReq) (s : State) : State :=
  let served := fun (s : State) => s.updCore c fun x => { x with run := 0 }
  let lightRead := fun (w : Nat) (e : List Nat) (s : State) => s.updCore c fun x => { x with lighterRead := wordBytes s c w e }
  match req, lighter with
  | .idle, .idle => served s
  | .read w e, .idle => served (coreRead c w e s)
  | .write w b, .idle => served (landBytes c w b s)
  | .idle, .read w e => served (lightRead w e s)
  | .idle, .write w b => served (landBytes c w b s)
  | .read w e, .read v f =>
    if w = v then served (lightRead v f (coreRead c w e s)) else (coreRead c w e s).updCore c countRefusal
  | .read w e, .write v b =>
    if w = v then served (landBytes c v b (coreRead c w e s)) else (coreRead c w e s).updCore c countRefusal
  | .write w b, .read v f =>
    if w = v then served (landBytes c w b (lightRead v f s)) else (landBytes c w b s).updCore c countRefusal
  | .write w b, .write v d =>
    if w = v then (landBytes c w b s).updCore c fun x => { x with deferred := some (v, d), run := 0 }
    else (landBytes c w b s).updCore c countRefusal

/-- One cycle of the port, whether or not a write is deferred (R103 to R108). -/
def anyCycle (c : Nat) (req lighter : ScratchReq) (s : State) : State :=
  match (s.core c).deferred with
  | some (dw, d) => deferredCycle c dw d req s
  | none => portCycle c req lighter s

/-! ### Accesses of ops and transfers -/

/-- A scratch byte as the core side reads it (R106). -/
def coreByte (s : State) (core off : Nat) : Byte :=
  Tab.getD (scratchByte s core off) (off % 256) (deferredBytes (s.core core) (off / 256))

/-- The bytes of changes by offset in the region that lie in one word, by offset in the word. -/
def wordPart (w : Nat) (t : Tab Byte) : Tab Byte := (t.filter fun x => x.1 / 256 = w).map fun x => (x.1 % 256, x.2)

/-- Words that changes touch, rising. -/
def wordsOf (t : Tab Byte) : List Nat := (t.map fun x => x.1 / 256).eraseDups

/-- An op's write from the core side lands at once and overtakes the deferred write's bytes (R104, R107). -/
def coreWrite (core : Nat) (t : Tab Byte) (s : State) : State :=
  (t.foldl (fun s c => putScratch core c s) s).updCore core fun x =>
    (wordsOf t).foldl (fun x w => clearDeferred w (wordPart w t) x) x

/-- A deferred write lands before the lighter issues another request (R105, R108). -/
def landDeferred (core : Nat) (s : State) : State :=
  if (s.core core).deferred.isSome then anyCycle core .idle .idle s else s

/-- Data that reaches scratch through the lighter side of the port, word by word in cycles that the core side leaves free; a
deferred write lands first; with no data no cycle passes (R92, R93, R103 to R105, R108; notes/assumptions/132.md). -/
def lighterWrite (core : Nat) (t : Tab Byte) (s : State) : State :=
  if t = [] then s
  else (wordsOf t).foldl (fun s w => portCycle core .idle (.write w (wordPart w t)) s) (landDeferred core s)

/-- Bytes that the lighter takes from scratch through its side of the port, word by word in such cycles, each read checked (R93, R99,
R103, R104). -/
def lighterFetch (core : Nat) (l : List (Nat × Nat)) (s : State) : Tab Byte × State :=
  if runWords l = [] then ([], s)
  else (runWords l).foldl (fun a x =>
    let s := portCycle core .idle (.read x.1 x.2) a.2
    (a.1 ++ (s.core core).lighterRead.map (fun b => (x.1 * 256 + b.1, b.2)), checkWord core x.1 x.2 s)) ([], landDeferred core s)

end Sys2Proof.Machine
end

