-- ==== Sys2Proof/Machine/Transport.lean ====
section
/-!
DEFINITION. How packets reach the berths: a core's lighter and the mesh to its reach's base port, and the sends of writes, reads and
messages (R85, R93, R94, R354, R361, R409, R410).
-/

namespace Sys2Proof.Machine

/-! ### Entries of a basin, and the groups that leave (R433, R437 to R440) -/

/-- Gives a packet's units back to the transmit link that sent it; one of the stack's own base ports holds none (R433, R437). -/
def backTo (t k n : Nat) (s : State) : State := if t = ownPort then s else s.updLink t (giveCredits k n)

/-- A basin's entry goes: its space is free, and the units that its first packet kept go back to their sender (R433, R438). -/
def closeEntry (k : Nat × Nat × Nat) (e : BasinEntry) (s : State) : State :=
  let s := basinGive e.link 3 e.units { s with base.basins := s.base.basins.filter fun x => x.1 ≠ k }
  match e.sender with
  | some (l, t) => backTo t (4 * l + 3) e.units s
  | none => s

/-- Reduction groups of a stack go back to its pool: what they left in reduction tables and basins goes (R124, R276, R370, R440). -/
def dropSums (k : Nat) (groups : List Nat) (s : State) : State :=
  let s : State := { s with
    stk.routers := s.stk.routers.mapVals fun r q =>
      if r / 128 = k then
        { q with table := q.table.filter fun e => !groups.contains e.1, complete := q.complete.filter fun g => !groups.contains g }
      else q
    base.finished := s.base.finished.filter fun x => !(x.2.2.2 == k && groups.contains x.2.1) }
  (s.base.basins.filter fun e => e.2.srcBerth == k && groups.contains e.1.2.1).foldl (fun s e => closeEntry e.1 e.2 s) s

/-! ### REDUCE packets (R122, R409) -/

/-- Bytes of an element of a reduction type (0 F32, 1 BF16, 2 I32). -/
def reduceWidth (type : Nat) : Nat := if type = 1 then 2 else 4

/-- The bytes of a list of elements. -/
def elemBytes (type : Nat) (l : List Nat) : Bytes := l.flatMap (leBytes (reduceWidth type))

/-- The elements in a payload. -/
def bytesElems (type : Nat) (d : Bytes) : List Nat :=
  (List.range (d.length / reduceWidth type)).map fun i => leField d (i * reduceWidth type) (reduceWidth type)

/-- The TAG of a REDUCE packet, and its fields (R409). -/
def reduceTag (type : Nat) (flush : Bool) (group carried expects : Nat) : Nat :=
  type % 4 + 4 * bit flush + 2 ^ 8 * (group % 2 ^ 8) + 2 ^ 16 * (carried % 2 ^ 16) + 2 ^ 32 * (expects % 2 ^ 16)
def tagType (tag : Nat) : Nat := tag % 4
def tagFlush (tag : Nat) : Bool := tag.testBit 2
def tagGroup (tag : Nat) : Nat := bitsOf tag 15 8
def tagCarried (tag : Nat) : Nat := bitsOf tag 31 16
def tagExpects (tag : Nat) : Nat := bitsOf tag 47 32

/-! ### From a core to its base port (R84, R85, R93, R94) -/

/-- A core's reach (R84). -/
def reachOf (c : Nat) : Nat := c % 128 / 16 / 4 * 4 + c % 16 / 4

/-- The base-port router of a reach (R85). -/
def baseRouter (k r : Nat) : Nat := 128 * k + 16 * (4 * (r / 4) + 1) + 4 * (r % 4) + 2

/-- The base port that serves a reach: its own, or the one its traffic is assigned to (R85, R94). -/
def servingPort (s : State) (k r : Nat) : Nat := Tab.getD r r (s.stack k).portOf

/-- A base port carries traffic: it is not lost, and no group of its joint waits for a spare (R724, R725). -/
def portLive (s : State) (k p : Nat) : Bool :=
  !(s.stack k).lostPorts.contains p && !(s.base.windows.any fun w => w.acts.any fun a => match a with
    | .groupSpare j g => j == k && g / 2 == p
    | _ => false)

/-- The base port whose router a core is. -/
def portHere (c : Nat) : Option Nat := (List.range 8).find? fun r => baseRouter (c / 128) r = c

/-- A packet of a lighter on the mesh: a header flit and the payload's (R113, R116), and of a REDUCE packet what its tag says (R121,
R409). -/
def meshPacket (s : State) (src dst : Nat) (toBase : Bool) (t : TxPacket) : NetPacket :=
  let p : NetPacket :=
    { id := 2 ^ 40 + s.stk.packetNo, src := src, dst := dst, vc := t.pkt.vc % 4, flits := 1 + ceilDiv t.pkt.payload.length 64
      stamp := t.pkt.stamp, rtype := 0, group := 0, word := 0, carried := 0, expects := 0, flush := false, elems := []
      load := some t, toBase := toBase }
  if t.pkt.kind = 4 then
    { p with
      rtype := tagType t.pkt.tag, group := tagGroup t.pkt.tag, word := t.pkt.addr / 256, carried := tagCarried t.pkt.tag
      expects := tagExpects t.pkt.tag, flush := tagFlush t.pkt.tag, elems := bytesElems (tagType t.pkt.tag) t.pkt.payload }
  else p

/-- A core's lighter puts a packet on the mesh, to a core of its stack or to the base port of its reach (R85, R93, R94). -/
def sendMesh (c : Nat) (toBase : Bool) (t : TxPacket) (s : State) : State :=
  let dst := if toBase then baseRouter (c / 128) (servingPort s (c / 128) (reachOf c)) else 128 * (c / 128) + t.pkt.destUnit
  let p := meshPacket s c dst toBase t
  { s.updCore c fun x => { x with outbox := x.outbox ++ [p] } with stk.packetNo := s.stk.packetNo + 1 }

/-- A core's lighter sends packets: to a core of its stack over the mesh, else to the base port of its reach (R93). -/
def lighterSend (c : Nat) (l : List TxPacket) (s : State) : State :=
  l.foldl (fun s t => sendMesh c (decide (t.pkt.destBerth ≠ c / 128)) t s) s

/-! ### Writes (R361, R366, R410) -/

/-- The runs of bytes a write changes, each with its first address. -/
def WriteReq.runs (w : WriteReq) : List (Nat × Bytes) :=
  (w.data.zipIdx.foldl (fun (a : List (Nat × Bytes) × Bool) x =>
    if w.gaps.contains x.2 then (a.1, false)
    else match a with
      | ((p, d) :: l, true) => ((p, d ++ [x.1]) :: l, true)
      | (l, _) => ((w.addr + x.2, [x.1]) :: l, true)) ([], false)).1.reverse

/-- The packets of a write from a berth and unit: one for each run (R409, R410). -/
def writePackets (id : Nat) (w : WriteReq) (unit : Nat) : List TxPacket :=
  w.runs.map fun r =>
    { owner := .write id
      pkt := { stamp := 0, addr := r.1, kind := 0, vc := 1, destBerth := 16 + memBerthOf w.addr, destUnit := 0, srcBerth := w.berth
               srcUnit := unit, len := r.2.length, tag := 0, payload := r.2 } }

/-- The least and greatest key of changed bytes. -/
def cellSpan (t : Tab Byte) : Nat × Nat := ((t.head?.map Prod.fst).getD 0, (t.getLast?.map Prod.fst).getD 0)

/-- A write of changed bytes by address, all in one 256-byte block (R410). -/
def cellWrite (berth : Nat) (orig : WriteFrom) (t : Tab Byte) : WriteReq :=
  let (lo, hi) := cellSpan t
  { addr := lo, data := (List.range (hi + 1 - lo)).map fun i => Tab.getD 0 (lo + i) t
    gaps := (List.range (hi + 1 - lo)).filter fun i => !Tab.has (lo + i) t, berth := berth, stamp := none, orig := orig }

/-- The 256-byte blocks of changed bytes by address, each with its bytes. -/
def cellBlocks (t : Tab Byte) : List (Tab Byte) :=
  ((t.map fun c => c.1 / 256).eraseDups).map fun k => t.filter fun c => c.1 / 256 = k

/-- A core writes changed bytes of device memory: one write in each 256-byte block, by way of its lighter (R93, R361, R410). -/
def coreSend (c : Nat) (orig : WriteFrom) (cells : Tab Byte) (s : State) : State :=
  (cellBlocks cells).foldl (fun s t =>
    let w : WriteReq := { cellWrite (c / 128) orig t with unit := c % 128 }
    let (id, s) := newWrite { w with parts := w.runs.length } s
    lighterSend c (writePackets id w (c % 128)) s) s

/-- A write of a memory berth's own issuer, which stands there already (R316, R366). -/
def berthWrite (w : WriteReq) (s : State) : State :=
  let (id, s) := newWrite w s
  stampWrite id s

/-- A write leaves a berth, or stands in its memory berth already (R361). -/
def sendWrite (w : WriteReq) (s : State) : State :=
  if w.berth = 16 + memBerthOf w.addr then berthWrite w s
  else
    let (id, s) := newWrite { w with parts := w.runs.length } s
    enterBerth w.berth none (writePackets id w 0) s

/-- Sends a payload of a barge: each 64-byte line is one stamped write of the B30 issuer (R616). -/
def lineWrites (a : Nat) (d : Bytes) (orig : WriteFrom) (s : State) : State :=
  (blockChunks 64 (d.length / 64 + 2) a d).foldl (fun s c =>
    sendWrite { addr := c.1, data := c.2, berth := 30, stamp := none, orig := orig } s) s

/-- Sends a range of bytes of one issuer as writes in 256-byte blocks (R391, R410, R636). -/
def sendWrites (berth a : Nat) (d : Bytes) (orig : WriteFrom) (s : State) : State :=
  (blockChunks 256 (d.length / 256 + 2) a d).foldl (fun s c =>
    sendWrite { addr := c.1, data := c.2, berth := berth, stamp := none, orig := orig } s) s

/-- Sends bytes of one issuer under a stamp already taken (R250). -/
def stampedWrite (berth stamp a : Nat) (d : Bytes) (orig : WriteFrom) (s : State) : State :=
  (blockChunks 256 (d.length / 256 + 2) a d).foldl (fun s c =>
    sendWrite { addr := c.1, data := c.2, berth := berth, stamp := some stamp, orig := orig }
      (countIssued (memBerthOf c.1) (serialOfTime s (stampInstant s.ft stamp)) s)) s

/-! ### Reads and messages (R93, R286, R409, R500) -/

/-- The packet of a read: its request, whose payload is the number of bytes it asks for (notes/assumptions/149.md), or its data
(R409). -/
def readPacket (id kind src dst unit addr : Nat) (d : Bytes) (from' : Nat) : TxPacket :=
  { owner := .none
    pkt := { stamp := 0, addr := addr, kind := kind, vc := kind, destBerth := dst, destUnit := unit, srcBerth := src, srcUnit := from'
             len := d.length, tag := id, payload := d } }

/-- A core's lighter asks for 256-byte blocks of device memory (R93, R500). -/
def coreReads (c : Nat) (dest : ReadFor) (blocks : List Nat) (s : State) : State :=
  blocks.foldl (fun s b =>
    let id := s.mem.readNo
    let r : ReadReq := { addr := b * 256, len := 256, berth := c / 128, dest := dest, core := c, sentAt := s.ft }
    lighterSend c [readPacket id 1 (c / 128) (16 + memBerthOf (b * 256)) 0 (b * 256) (leBytes 2 256) (c % 128)]
      { s with mem.reads := Tab.put id r s.mem.reads, mem.readNo := id + 1 }) s

/-- The first 32 bytes of a MSG packet: destination role, role generation, attempt and tag (R286, R409;
notes/assumptions/146.md). -/
def msgHeader (g : Msg) : Bytes :=
  leBytes 1 g.dst.slot ++ leBytes 4 g.dst.task ++ leBytes 1 g.dst.rank ++ leBytes 4 g.gen ++ leBytes 8 g.serial ++ leBytes 4 g.fails ++
    leBytes 2 g.tag ++ leBytes 8 0

/-- The parts of a message, of at most 224 bytes each; an empty message has one. -/
def msgParts : Nat → Bytes → List Bytes
  | 0, _ => []
  | fuel + 1, d => if d.length ≤ 224 then [d] else d.take 224 :: msgParts fuel (d.drop 224)

/-- A message leaves a core for the core that holds its destination role (R93, R200, R286). -/
def launchMsg (c n : Nat) (g : Msg) (s : State) : State :=
  let l := msgParts (g.body.length / 224 + 1) g.body
  let g : Msg := { g with stage := .flight, parts := l.length }
  lighterSend c (l.map fun d =>
      { owner := .msg n
        pkt := { stamp := g.stamp.getD 0, addr := 0, kind := 3, vc := 1, destBerth := g.core / 128, destUnit := g.core % 128
                 srcBerth := c / 128, srcUnit := c % 128, len := 32 + d.length, tag := 0, payload := msgHeader g ++ d } })
    { s with work.msgs := Tab.put n g s.work.msgs }

end Sys2Proof.Machine
end

