-- ==== Sys2Proof/Machine/Operands.lean ====
section
/-!
DEFINITION. Operands of kernel ops: the op word and its selectors (R144, R145), tensor views and where their elements
stand (R136 to R143), reading and writing elements in every format (R32 to R43, R56 to R68), and the bytes an op
touches (R173).
-/

namespace Sys2Proof.Machine

/-! ### The op word (R144 to R148) -/

def opcOf (w : Nat) : Nat := bitsOf w 31 24
def nextOf (w : Nat) : Nat := bitsOf w 23 21
def modOf (w : Nat) : Nat := bitsOf w 20 16
def opaOf (w : Nat) : Nat := bitsOf w 15 8
def opbOf (w : Nat) : Nat := bitsOf w 7 0

/-- Operand classes of a selector (R145). Accumulator a is tile 16 + a. -/
inductive Operand where
  | index (slot : Nat)
  | view (slot : Nat)
  | tile (slot : Nat)
  | imm (v : Int)
  | reserved
deriving DecidableEq, Repr

/-- Decodes a selector (R145). -/
def operandOf (b : Nat) : Operand :=
  if b < 0x40 then .index b
  else if b < 0x80 then .view (b - 0x40)
  else if b < 0x94 then .tile (b - 0x80)
  else if b < 0xC0 then .reserved
  else .imm (signedOf 6 (b % 64))

def isIndexDest (b : Nat) : Bool := b < 0x40
def isIndexArg (b : Nat) : Bool := b < 0x40 || (0xC0 ≤ b && b < 0x100)
def isViewArg (b : Nat) : Bool := 0x40 ≤ b && b < 0x80
def isTileArg (b : Nat) : Bool := 0x80 ≤ b && b < 0x94
def isAccArg (b : Nat) : Bool := 0x90 ≤ b && b < 0x94
/-- An immediate from 0 to 15: a token or a barrier id. -/
def isSmallImm (b : Nat) : Bool := 0xC0 ≤ b && b < 0xD0

/-! ### Views (R136 to R140) -/

/-- The extent of dimension `d`, 1 at or above RANK (R137, R161). -/
def View.extAt (v : View) (d : Nat) : Nat := if d < v.rank then v.ext.getD d 0 else 1
def View.strideAt (v : View) (d : Nat) : Int := if d < v.rank then v.strides.getD d 0 else 0

/-- An extent of 0 below RANK (R137). -/
def View.empty (v : View) : Bool := (List.range 4).any fun d => v.extAt d == 0

/-- The element offset of an index (R138). -/
def View.offset (v : View) (i : List Nat) : Int :=
  (List.range 4).foldl (fun a d => a + (i.getD d 0 : Int) * v.strideAt d) 0

/-- The bit address of the element at an offset from BASE (R38, R39). -/
def View.bitAt (v : View) (off : Int) : Nat := ((v.base * 8 : Nat) + off * (fmtBits v.fmt : Int)).toNat

/-- The address of the scale byte of block `b` of the row whose element 0 stands at `off` (R140). -/
def View.scaleAt (v : View) (off : Int) (b : Nat) : Nat := ((v.scaleOff : Int) + off / 32 + (b : Int)).toNat

/-- The least and greatest element offset of the dimensions from `lo` to 3. -/
def View.offsetRange (v : View) (lo : Nat) : Int × Int :=
  ((List.range 4).filter fun d => lo ≤ d).foldl (fun a d =>
    let e := ((v.extAt d : Int) - 1) * v.strideAt d
    (a.1 + min 0 e, a.2 + max 0 e)) (0, 0)

/-- Lowest and highest byte of a non-empty view's elements. -/
def View.elemSpan (v : View) : Int × Int :=
  let (lo, hi) := v.offsetRange 0
  let w : Int := fmtBits v.fmt
  (((v.base * 8 : Nat) + lo * w) / 8, ((v.base * 8 : Nat) + hi * w + w - 1) / 8)

/-- Lowest and highest byte of a non-empty view's scale array. -/
def View.scaleSpan (v : View) : Int × Int :=
  let (lo, hi) := v.offsetRange 1
  ((v.scaleOff : Int) + lo / 32, (v.scaleOff : Int) + hi / 32 + ((ceilDiv (v.extAt 0) 32 : Nat) : Int) - 1)

/-- The byte span of a view, scale array included, or none where it is empty (R255, R256). -/
def View.span (v : View) : Option (Int × Int) :=
  if v.empty then none
  else if isBlock v.fmt then
    some (min v.elemSpan.1 v.scaleSpan.1, max v.elemSpan.2 v.scaleSpan.2)
  else some v.elemSpan

/-- Every byte of the view and of its scale array lies in [lo, hi). -/
def View.inside (v : View) (lo hi : Int) : Bool :=
  v.empty || (decide (lo ≤ v.elemSpan.1 ∧ v.elemSpan.2 < hi) &&
    (!isBlock v.fmt || decide (lo ≤ v.scaleSpan.1 ∧ v.scaleSpan.2 < hi)))

/-- R137 and R139, with RANK from 1 to 4 and SCALE_OFF 0 for a format that is not a block format. -/
def View.formOk (v : View) : Bool :=
  decide (1 ≤ v.rank ∧ v.rank ≤ 4) &&
  ((List.range 4).all fun d => d < v.rank || (v.ext.getD d 0 == 0 && v.strides.getD d 0 == 0)) &&
  (8 ≤ fmtBits v.fmt || v.strides.getD 0 0 == 1) &&
  (!isBlock v.fmt || (v.strides.getD 0 0 == 1 && (List.range 4).all fun d => d = 0 || v.strides.getD d 0 % 32 == 0)) &&
  (isBlock v.fmt || v.scaleOff == 0)

/-- The four extents and strides of a descriptor from an offset in it. -/
def readExts (m : Bytes) (o : Nat) : List Nat := (List.range 4).map fun d => leField m (o + 4 * d) 4
def readStrides (m : Bytes) (o : Nat) : List Int := (List.range 4).map fun d => signedOf 32 (leField m (o + 4 * d) 4)

/-- The empty view of R161. -/
def emptyView : View := {}

/-! ### Bits of storage -/

/-- The `w`-bit code at a bit address, through a byte reader (R38, R39). -/
def readCode (rd : Nat → Byte) (bitAddr w : Nat) : Nat :=
  leNat ((List.range ((bitAddr % 8 + w + 7) / 8)).map fun i => rd (bitAddr / 8 + i)) >>> (bitAddr % 8) % 2 ^ w

/-- Lays a `w`-bit code over bytes already changed, reading the others. -/
def writeCode (rd : Nat → Byte) (bitAddr w code : Nat) (t : Tab Byte) : Tab Byte :=
  let a := bitAddr / 8
  let n := (bitAddr % 8 + w + 7) / 8
  let old := leNat ((List.range n).map fun i => Tab.getD (rd (a + i)) (a + i) t)
  let sh := bitAddr % 8
  let new := old - ((old >>> sh) % 2 ^ w) <<< sh + (code % 2 ^ w) <<< sh
  ((leBytes n new).zipIdx).foldl (fun t p => Tab.put (a + p.2) p.1 t) t

/-- Who reads or writes through a view: the member, its core, and whether its task replays (R373). -/
structure Access where
  ref    : MRef
  core   : Nat
  replay : Bool
  stack  : Nat
deriving DecidableEq, Repr

/-- The pre-image a replay of a task reads an input page from (R373). -/
def preImageOf (s : State) (a : Access) (v : View) (page : Nat) : Option PreImage :=
  if a.replay && v.readOnly then
    s.mem.preImages.find? fun x => x.slot == a.ref.slot && x.task == a.ref.task && x.page == page
  else none

/-- A byte of device memory as a task reads it (R367, R373). -/
def taskByte (s : State) (a : Access) (v : View) (addr : Nat) : Byte :=
  match preImageOf s a v (pageOf addr) with
  | some x => Tab.getD 0 (addr % 65536) x.cells
  | none => newestByte s addr

/-- A line a task reads is poisoned (R523, R524). -/
def taskPoison (s : State) (a : Access) (v : View) (line : Nat) : Bool :=
  match preImageOf s a v (line / 1024) with
  | some x => preImagePoison s x (line % 1024)
  | none => newestPoison s line

/-- The view stands on a remote buffer (R546). -/
def viewRemote (s : State) (v : View) : Bool :=
  v.space == 2 && match bufOf s v.handle with
    | some b => b.remote.isSome
    | none => false

/-- Reads a byte of a view's space: of scratch as the core side reads it, deferred bytes merged (R106). The bytes of a
remote buffer come from another module: free values. -/
def spaceByte (s : State) (a : Access) (v : View) (seed addr : Nat) : Byte :=
  if v.space < 2 then coreByte s a.core addr
  else if viewRemote s v then BitVec.ofNat 8 (seed / 256 ^ (addr - v.base))
  else taskByte s a v addr

/-- Writes changed bytes to a view's space from the core side: to scratch at once, to device memory as stamped line writes
(R28, R107, R361). -/
def writeSpace (a : Access) (space : Nat) (orig : WriteFrom) (t : Tab Byte) (s : State) : State :=
  if space < 2 then coreWrite a.core t s
  else coreSend a.core orig t s

/-- Writes data that the lighter brings to a view's space: to scratch through the lighter side of the port, to device memory as
line writes (R93, R123, R361). -/
def landSpace (a : Access) (space : Nat) (orig : WriteFrom) (t : Tab Byte) (s : State) : State :=
  if space < 2 then lighterWrite a.core t s
  else coreSend a.core orig t s

/-! ### Elements (R31 to R43) -/

/-- The value of an element's own code, before any scale, and its flags: F32, BF16 and F16 inputs flush by R54, a
reserved T2 code reads 0 (R37). -/
def elemValue (fmt : Nat) (flush : Bool) (code : Nat) : Fv × Nat :=
  if fmt = 10 then
    (if code = 1 then (.num false 1 0, 0) else if code = 3 then (.num true 1 0, 0)
     else if code = 2 then (Fv.zero, flT2R) else (Fv.zero, 0))
  else if isIntFmt fmt then (Fv.ofInt (signedOf (fmtBits fmt) code), 0)
  else match floatFmt fmt with
    | none => (Fv.zero, 0)
    | some f =>
      let (c, fl) := flushIn (flush && flushable fmt) f code
      (decodeFloat f c, fl)

/-- A value times the block scale of a byte (R33, R40, R43). -/
def scaleValue (x : Fv) (scale : Nat) : Fv × Nat :=
  if scale = 255 then (.nan, flSCN)
  else match x with
    | .num s m e => (.num s m (e + (scale : Int) - 127), 0)
    | y => (y, 0)

/-- Reads the element at column `c` of the row whose element 0 stands at `row`, through a byte reader: its own value,
its scale byte (127 where the format has none) and its flags. -/
def readElem (rd : Nat → Byte) (v : View) (flush : Bool) (row : Int) (c : Nat) : Fv × Nat × Nat :=
  let code := readCode rd (v.bitAt (row + (c : Int) * v.strideAt 0)) (fmtBits v.fmt)
  let (x, fl) := elemValue v.fmt flush code
  (x, if isBlock v.fmt then (rd (v.scaleAt row (c / 32))).toNat else 127, fl)

/-- The tile element of a view's element (R166): F32 bits, or I32 for I8, I4 and I32 views. -/
def tileElem (rd : Nat → Byte) (v : View) (flush : Bool) (row : Int) (c : Nat) : BitVec 32 × Nat :=
  let (x, sc, f1) := readElem rd v flush row c
  if isIntFmt v.fmt then
    (BitVec.ofNat 32 (match x with
      | .num s m _ => wrap32 (if s then -(m : Int) else m)
      | _ => 0), f1)
  else if isBlock v.fmt then
    let (y, f2) := scaleValue x sc
    let (b, f3) := toF32 false y
    (BitVec.ofNat 32 b, f1 ||| f2 ||| f3)
  else
    let (b, f3) := toF32 false x
    (BitVec.ofNat 32 b, f1 ||| f3)

/-! ### Tiles (R134, R135) -/

def Tile.at (t : Tile) (r c : Nat) : BitVec 32 := Tab.getD 0 (r * 32 + c) t.elems

/-- A tile from its elements. -/
def tileOf (isInt : Bool) (f : Nat → Nat → BitVec 32) : Tile :=
  { isInt := isInt
    elems := (List.range 1024).filterMap fun k =>
      if f (k / 32) (k % 32) = 0 then none else some (k, f (k / 32) (k % 32)) }

/-- The value of a tile element as an input (R54). -/
def tileValue (t : Tile) (flush : Bool) (r c : Nat) : Fv × Nat :=
  if t.isInt then (Fv.ofInt (t.at r c).toInt, 0) else f32In flush (t.at r c).toNat

/-! ### Converting tile elements for a store (R56 to R60, R68, R167, R168) -/

/-- A stochastic conversion op of R168 writes these formats. -/
def stochFmt (fmt : Nat) : Bool := fmt == 1 || fmt == 2 || fmt == 3 || fmt == 4

/-- An element as the code of a format that is not a block format, and its flags. -/
def convertElem (fmt : Nat) (rd : Rounding) (flush isInt : Bool) (mult : Nat) (x : BitVec 32) : Nat × Nat :=
  if isIntFmt fmt then
    if isInt then
      let (v, fl) := toIntFmt fmt (Fv.ofInt x.toInt)
      (intBits (fmtBits fmt) v, fl)
    else
      let (a, f1) := f32In flush x.toNat
      let (b, f2) := f32In flush mult
      let (y, _) := toF32 false (fvMul a b).1
      let (v, f3) := toIntFmt fmt (decodeFloat fmtF32 y)
      (intBits (fmtBits fmt) v, f1 ||| f2 ||| f3)
  else
    let (a, f1) :=
      if isInt then (decodeFloat fmtF32 (toF32 flush (Fv.ofInt x.toInt)).1, 0) else f32In flush x.toNat
    let (c, f2) := toFloat rd flush fmt a
    (c, f1 ||| f2)

/-- The bytes a store changes, with the flags it sets. -/
structure StoreAcc where
  cells : Tab Byte := []
  flags : Nat := 0
deriving DecidableEq, Repr

/-- How a store converts: scale rule MEAN, multiplier, flags of the task, and the random word of an element index. -/
structure StoreRule where
  mean  : Bool
  mult  : Nat
  flush : Bool
  stoch : Bool
  word  : Nat → Nat

/-- The rounding of an element (R58). -/
def StoreRule.rounding (r : StoreRule) (fmt e : Nat) : Rounding :=
  if r.stoch && stochFmt fmt then .stochastic (r.word e) else .nearest

/-- Stores one row: the tile elements `cols` = (tile column, view column) of tile row `tr` to view row `vr`. A block
format writes each block it touches with a scale from the elements it writes (R42, R199). -/
def storeRow (rd : Nat → Byte) (v : View) (t : Tile) (rule : StoreRule) (tr vr : Nat) (cols : List (Nat × Nat))
    (acc : StoreAcc) : StoreAcc :=
  let row : Int := (vr : Int) * v.strideAt 1
  let w := fmtBits v.fmt
  if isBlock v.fmt then
    (List.range (ceilDiv (v.extAt 0) 32)).foldl (fun acc b =>
      let mine := cols.filter fun c => c.2 / 32 = b
      if mine = [] then acc
      else
        let vals := mine.map fun c =>
          if t.isInt then (decodeFloat fmtF32 (toF32 false (Fv.ofInt (t.at tr c.1).toInt)).1, 0)
          else f32In rule.flush (t.at tr c.1).toNat
        let (sc, codes, fl) := quantBlock v.fmt rule.mean (vals.map Prod.fst)
        let cells := (mine.zip codes).foldl (fun cs p =>
          writeCode rd (v.bitAt (row + (p.1.2 : Int))) w p.2 cs) acc.cells
        { cells := Tab.put (v.scaleAt row b) (BitVec.ofNat 8 sc) cells
          flags := vals.foldl (fun a x => a ||| x.2) (acc.flags ||| fl) }) acc
  else
    cols.foldl (fun acc c =>
      let e := vr * v.extAt 0 + c.2
      let (code, fl) := convertElem v.fmt (rule.rounding v.fmt e) rule.flush t.isInt rule.mult (t.at tr c.1)
      { cells := writeCode rd (v.bitAt (row + (c.2 : Int) * v.strideAt 0)) w code acc.cells
        flags := acc.flags ||| fl }) acc

/-- The positions of a window along one dimension that lie inside the view: (tile index, view index) (R165). -/
def windowAxis (origin : Int) (ext : Nat) : List (Nat × Nat) :=
  (List.range 32).filterMap fun i =>
    let p : Int := origin + Int.ofNat i
    if 0 ≤ p ∧ p < Int.ofNat ext then some (i, p.toNat) else none

/-! ### Bytes an op touches (R173) -/

/-- A byte range [lo, hi). -/
abbrev Run := Nat × Nat

/-- The byte range of a `w`-bit element. -/
def elemRun (bitAddr w : Nat) : Run := (bitAddr / 8, (bitAddr + w + 7) / 8)

/-- Every index of a view's dimensions 1 to 3. -/
def View.rows (v : View) : List (List Nat) :=
  (List.range (v.extAt 3)).flatMap fun l => (List.range (v.extAt 2)).flatMap fun k =>
    (List.range (v.extAt 1)).map fun j => [0, j, k, l]

/-- The byte ranges of a row of a view and its scales. -/
def View.rowRuns (v : View) (row : Int) (cols : List Nat) : List Run :=
  cols.map (fun (c : Nat) => elemRun (v.bitAt (row + Int.ofNat c * v.strideAt 0)) (fmtBits v.fmt)) ++
  if isBlock v.fmt then
    ((List.range (ceilDiv (v.extAt 0) 32)).filter fun b => cols.any fun c => c / 32 = b).map fun b =>
      (v.scaleAt row b, v.scaleAt row b + 1)
  else []

/-- The byte ranges of a whole view. -/
def View.runs (v : View) : List Run :=
  if v.empty then [] else v.rows.flatMap fun r => v.rowRuns (v.offset r) (List.range (v.extAt 0))

/-- The byte ranges of a window of a view. -/
def View.windowRuns (v : View) (rows cols : List (Nat × Nat)) : List Run :=
  if v.empty then [] else rows.flatMap fun r => v.rowRuns ((r.2 : Int) * v.strideAt 1) (cols.map Prod.snd)

/-- Two sets of byte ranges share a byte. -/
def runsMeet (a b : List Run) : Bool := a.any fun x => b.any fun y => decide (x.1 < y.2 ∧ y.1 < x.2)

/-- Runs of a view in scratch; a view in device memory has none. -/
def scratchRuns (v : View) : List Run := if v.space < 2 then v.runs else []

/-- The scratch bytes an outstanding op of the member of a rank reads (R173, R207, R288): a BROADCAST reads the root's view
alone. -/
def AsyncOp.reads (rank : Nat) : AsyncOp → List Run
  | .xfer _ src => scratchRuns src
  | .send src _ => scratchRuns src
  | .recv _ _ _ _ _ _ => []
  | .coll kind p _ _ root _ => if kind = 2 ∧ rank ≠ root then [] else scratchRuns p

/-- The scratch bytes an outstanding op of the member of a rank writes (R173, R207): a REDUCE writes the root's view alone, a
BROADCAST every other one. -/
def AsyncOp.writes (rank : Nat) : AsyncOp → List Run
  | .xfer dst _ => scratchRuns dst
  | .send _ _ => []
  | .recv dst _ _ _ _ _ => scratchRuns dst
  | .coll kind p q _ root _ =>
    if 3 ≤ kind then scratchRuns q
    else if kind = 0 ∨ (kind = 1 ∧ rank = root) ∨ (kind = 2 ∧ rank ≠ root) then scratchRuns p
    else []

/-- The token of an outstanding op that an op reading `rs` and writing `ws` of scratch must wait for (R173). -/
def hazardToken (rank : Nat) (mem : Member) (rs ws : List Run) : Option Nat :=
  (mem.out.find? fun o => runsMeet (rs ++ ws) (o.op.writes rank) || runsMeet ws (o.op.reads rank)).map Outstanding.token

/-- The element bytes of a view in row-major order as one packed run (R200, R202). -/
def viewBits (rd : Nat → Byte) (v : View) : List Nat :=
  if v.empty then [] else v.rows.flatMap fun r => (List.range (v.extAt 0)).map fun (c : Nat) =>
    readCode rd (v.bitAt (v.offset r + Int.ofNat c * v.strideAt 0)) (fmtBits v.fmt)

/-- Packs codes of `w` bits into bytes (R39). -/
def packCodes (w : Nat) (l : List Nat) : Bytes :=
  leBytes ((l.length * w + 7) / 8) (l.foldr (fun c a => a * 2 ^ w + c) 0)

/-- The codes of `w` bits that whole bytes hold. -/
def unpackCodes (w : Nat) (d : Bytes) : List Nat :=
  let x := leNat d
  (List.range (d.length * 8 / w)).map fun i => (x >>> (w * i)) % 2 ^ w

/-- The positions of a view's elements in row-major order, as bit addresses. -/
def View.bitList (v : View) : List Nat :=
  if v.empty then [] else v.rows.flatMap fun r => (List.range (v.extAt 0)).map fun (c : Nat) =>
    v.bitAt (v.offset r + Int.ofNat c * v.strideAt 0)

/-- The bytes of a message written into a view in row-major element order; what it does not hold stays (R202,
R203). A last element that the message holds in part takes the bits it holds. -/
def fillView (rd : Nat → Byte) (v : View) (d : Bytes) : Tab Byte :=
  let w := fmtBits v.fmt
  let codes := unpackCodes w d
  let t := (v.bitList.zip codes).foldl (fun t p => writeCode rd p.1 w p.2 t) []
  let rest := d.length * 8 - codes.length * w
  match v.bitList.drop codes.length with
  | b :: _ => if rest ≠ 0 then writeCode rd b rest (leNat d / 2 ^ (codes.length * w)) t else t
  | [] => t

/-- The scale bytes of a block-format view, in block order: their addresses. -/
def View.scaleList (v : View) : List Nat :=
  if v.empty || !isBlock v.fmt then []
  else v.rows.flatMap fun r => (List.range (ceilDiv (v.extAt 0) 32)).map fun b => v.scaleAt (v.offset r) b

end Sys2Proof.Machine
end

