-- ==== Sys2Proof/Machine/Kernel.lean ====
section
/-!
DEFINITION. How a member runs an op, and the ops of control, index slots, parameters and views (R131 to R164, R217 to
R220).
-/

namespace Sys2Proof.Machine

/-! ### Running an op -/

/-- What an op works on: the member's place, its graph, task and state, the op word and its extension words. -/
structure KOp where
  ref  : MRef
  g    : Graph
  t    : Task
  mem  : Member
  word : Nat
  ext  : List Nat
  ops  : List Nat
deriving DecidableEq, Repr

namespace KOp

def opa (k : KOp) : Nat := opaOf k.word
def opb (k : KOp) : Nat := opbOf k.word
def mod (k : KOp) : Nat := modOf k.word
def e1 (k : KOp) : Nat := k.ext.getD 0 0
def e2 (k : KOp) : Nat := k.ext.getD 1 0
/-- Task flags (R242). -/
def sealed (k : KOp) : Bool := k.t.info.flags.testBit 0
def collective (k : KOp) : Bool := k.t.info.flags.testBit 1
def external (k : KOp) : Bool := k.t.info.flags.testBit 2
def flush (k : KOp) : Bool := k.t.info.flags.testBit 3
def stoch (k : KOp) : Bool := k.t.info.flags.testBit 4

/-- An index slot (R132, R133). -/
def ix (k : KOp) (i : Nat) : BitVec 64 := if i = 0 then 0 else Tab.getD 0 i k.mem.ix

/-- The signed value of an index slot or immediate (R145, R146). -/
def index (k : KOp) (b : Nat) : Int :=
  match operandOf b with
  | .index i => (k.ix i).toInt
  | .imm v => v
  | _ => 0

/-- A view slot, empty where none stands (R132). -/
def view (k : KOp) (b : Nat) : View := Tab.getD emptyView (b % 64) k.mem.views

/-- A view stands in the slot: a declared view, a task view, or one that VSUB made of such a view (R132, R161). -/
def declared (k : KOp) (b : Nat) : Bool := Tab.has (b % 64) k.mem.views

/-- A tile slot or accumulator. -/
def tile (k : KOp) (b : Nat) : Tile := Tab.getD {} (b - 0x80) k.mem.tiles

/-- Slots V0 to V7 and views derived from them are read-only (R143). -/
def viewReadOnly (k : KOp) (b : Nat) : Bool := b % 64 < 8 || (k.view b).readOnly

def access (k : KOp) : Access :=
  { ref := k.ref, core := k.mem.core, replay := k.t.replays != 0, stack := k.t.stack }

end KOp

/-- What an op ends in: the next op, a jump, a wait, or an ending status (R219). -/
inductive KRes where
  | next (f : Member → Member) (s : State)
  | jump (pc : Nat) (f : Member → Member) (s : State)
  | wait (w : Waiting) (s : State)
  | stop (status : Nat) (s : State)

/-- A member stops and its outstanding tokens are abandoned (R219); what it held and waited for is kept for the judgement of R220. -/
def abandonMember (x : Member) : Member :=
  if x.stopped then { x with waiting := none, out := [] }
  else { x with stopped := true, waiting := none, out := [], outWas := x.out, waitWas := x.waiting }

/-- A member as it stood when its gang stopped (R220). -/
def asBefore (x : Member) : Member := if x.stopped then { x with out := x.outWas, waiting := x.waitWas } else x

/-- Forgets the reads of a task's transfers. -/
def dropReads (slot task : Nat) (s : State) : State :=
  { s with mem.reads := s.mem.reads.filter fun r => match r.2.dest with
      | .xfer m _ | .op m _ => !(m.slot == slot && m.task == task)
      | .torus _ _ | .other => true }

/-- A gang stops with a status: every member stops (R219). -/
def endGang (slot task status : Nat) (s : State) : State :=
  dropReads slot task (s.updTask slot task fun t =>
    { t with phase := .stopping, status := status, members := t.members.mapVals fun _ x => abandonMember x })

/-- A member meets an ending status: it and every other member of the gang stop (R219). Who met it and when is kept for R220. -/
def stopMember (m : MRef) (status : Nat) (s : State) : State :=
  (endGang m.slot m.task status s).updTask m.slot m.task fun t => { t with stopBy := some (m.rank, s.ft) }

/-- A running task's kernel (R128, R235). -/
def kernelOf (s : State) (g : Graph) (t : Task) : Option Kernel :=
  Tab.find? (g.kernels.getD t.info.kernel 4096) s.work.kernels

/-- A member does not wait at a barrier or for a stamp (R215, R317). -/
def mayIssue (x : Member) : Bool :=
  match x.waiting with
  | some (.barrier _ _) => false
  | some .stamp => false
  | _ => true

/-- A member that may run its next op now: its task runs, its stack has its clock, and it does not wait at a barrier
or for a stamp (R215, R317, R334). -/
def runnable (s : State) (t : Task) (x : Member) : Bool :=
  t.phase == .running && !x.stopped && !x.ended && (s.stack t.stack).clocked && mayIssue x

/-- Writes what an op ended in. -/
def finishOp (k : KOp) (now : Nat) : KRes → State
  | .next f s => s.updMember k.ref fun x => { f x with pc := k.mem.pc + 1 + nextOf k.word, waiting := none }
  | .jump pc f s => s.updMember k.ref fun x => { f x with pc := pc, waiting := none }
  | .wait w s => s.updMember k.ref fun x =>
      { x with waiting := some w, waitFrom := if x.waiting.isSome then x.waitFrom else now }
  | .stop st s => stopMember k.ref st s

/-- Another member of the gang met an ending status at this tick, and this one, of a lower rank, stood at an op of its own: the two
may have met theirs in the same core cycle (R220; notes/assumptions/133.md). -/
def stopsWith (s : State) (m : MRef) (t : Task) : Bool :=
  match t.stopBy with
  | some (rank, at') => t.phase == .stopping && decide (at' = s.ft) && decide (m.rank < rank)
  | none => false

/-- The op a member stands at, where `may` allows it. -/
def opAt (may : Task → Member → Bool) (s : State) (m : MRef) : Option KOp :=
  match s.graph? m.slot with
  | none => none
  | some g =>
    match Tab.find? m.task g.tasks with
    | none => none
    | some t =>
      match Tab.find? m.rank t.members, kernelOf s g t with
      | some x, some kn =>
        if may t x then
          match kn.opWords.drop x.pc with
          | w :: rest => some { ref := m, g := g, t := t, mem := x, word := w, ext := rest.take (nextOf w), ops := kn.opWords }
          | [] => none
        else none
      | _, _ => none

/-- The op a member stands at, where it may run. -/
def currentOp (s : State) (m : MRef) : Option KOp := opAt (runnable s) s m

/-- A member of a lower rank meets a status of its own in the core cycle in which its gang stopped: it is the task's (R220). -/
def lowerStatus (m : MRef) (st : Nat) (s : State) : State :=
  s.updTask m.slot m.task fun t => { t with status := st, stopBy := some (m.rank, s.ft) }

/-- The op that a member stood at when its gang stopped in this core cycle, with the gang as it stood then (R220). -/
def stoppedOp (s : State) (m : MRef) : Option KOp :=
  (opAt (fun t x => stopsWith s m t && !x.ended && mayIssue (asBefore x)) s m).map fun k =>
    { k with mem := asBefore k.mem, t := { k.t with members := k.t.members.mapVals fun _ x => asBefore x } }

/-- A member whose gang stopped in this core cycle meets an ending status of its own: of two statuses of one core cycle the lower
rank's is the task's (R220), with the event that R98 logs for it. Nothing else of the op takes effect (R219). -/
def kopStopped (m : MRef) (opc : Nat) (body : KOp → State → KRes) (s : State) : State :=
  match stoppedOp s m with
  | none => s
  | some k =>
    if opcOf k.word = opc then
      match body k s with
      | .stop st s => lowerStatus m st s
      | .next _ _ | .jump _ _ _ | .wait _ _ => s
    else s

/-! ### The governor's counts and caps (R479, R481) -/

/-- The operand class of a pair of formats, by its row in the table of R89, and eight times its reduction elements per core cycle. -/
def pairClass (a b : Nat) : Nat :=
  if a = 0 then 0 else if a ≤ 2 then 1 else if 3 ≤ a ∧ a ≤ 6 then 2 else if a = 7 then 6 else if a = 9 then 5
  else if a = 8 ∧ b = 8 then 3 else if a = 10 ∧ b = 10 then 7 else 4
def classRate (c : Nat) : Nat := [1, 8, 16, 16, 16, 32, 32, 64].getD c 8

/-- An op of the matrix or the vector engine, whose issue the governor caps. -/
def engineOp (opc : Nat) : Bool := ([0x22, 0x30, 0x31, 0x40, 0x41, 0x42, 0x48, 0x49, 0x50, 0x58, 0x5B, 0x60] : List Nat).contains opc

/-- The activity of an op that the governor counts: an MMA's array cycles by its class, another engine's op, an access of the scratch
(R89, R479). -/
def opActs (k : KOp) : List (Nat × Nat) :=
  let opc := opcOf k.word
  if opc = 0x30 then
    let a := k.view k.opb
    let c := pairClass a.fmt (k.view (k.e1 % 256)).fmt
    [(c, ceilDiv (8 * a.extAt 0) (classRate c)), (9, 1)]
  else if engineOp opc then [(8, 1)]
  else if ([0x20, 0x21, 0x23, 0x59, 0x5A] : List Nat).contains opc then [(9, 1)]
  else []

/-- The governor leaves no issue to an engine op's reach in this slot (R481). -/
def issueCapped (s : State) (k : KOp) : Bool :=
  let c := k.mem.core
  engineOp (opcOf k.word) && (Tab.getD {} (reachOf (c % 128)) (s.stack (c / 128)).reaches).left == some 0

/-- An op has been issued: the governor counts it (R479, R481). -/
def noteIssue (k : KOp) (s : State) : State :=
  let c := k.mem.core
  let r := reachOf (c % 128)
  if opActs k = [] then s
  else s.updStack (c / 128) fun x =>
    { x with
      acts := (opActs k).foldl (fun t a => Tab.put a.1 (Tab.getD 0 a.1 t + a.2) t) x.acts
      reaches := if engineOp (opcOf k.word) && Tab.has r x.reaches then
        Tab.modify r (fun y => { y with left := y.left.map (· - 1) }) x.reaches else x.reaches }

/-- What an op that has run comes to, and the governor's count of it. -/
def issueOp (k : KOp) (now : Nat) (r : KRes) : State :=
  match r with
  | .next f s => finishOp k now (.next f (noteIssue k s))
  | .jump _ _ _ | .wait _ _ | .stop _ _ => finishOp k now r

/-- Runs one op of a member where it stands at one of the opcode, unless the governor leaves its reach no issue. -/
def kop (m : MRef) (opc : Nat) (body : KOp → State → KRes) (s : State) : State :=
  match currentOp s m with
  | none => kopStopped m opc body s
  | some k => if opcOf k.word = opc ∧ !issueCapped s k then issueOp k s.ft (body k s) else s

/-- Writes an index slot; IX0 discards the value (R133). -/
def setIx (i : Nat) (v : Int) (x : Member) : Member :=
  if i = 0 then x else { x with ix := Tab.putD 0 i (BitVec.ofInt 64 v) x.ix }

def setView (b : Nat) (v : View) (x : Member) : Member := { x with views := Tab.put (b % 64) v x.views }

def setTile (b : Nat) (t : Tile) (x : Member) : Member := { x with tiles := Tab.put (b - 0x80) t x.tiles }

def addFlags (fl : Nat) (x : Member) : Member := { x with aflags := x.aflags ||| fl }

def withToken (t : Nat) (x : Member) : Bool := x.out.any fun o => o.token == t

/-! ### Control (R150 to R157) -/

/-- The matching closer of an opener, from the op after it: where ELSE (if asked for), ENDIF or ENDLOOP stands at its
own depth (R156). -/
def findCloser (ops : List Nat) (stopElse : Bool) : Nat → Nat → Nat → Option Nat
  | 0, _, _ => none
  | fuel + 1, pc, depth =>
    match ops.drop pc with
    | [] => none
    | w :: _ =>
      let o := opcOf w
      let nx := pc + 1 + nextOf w
      if o = 0x02 ∨ o = 0x04 ∨ o = 0x05 then findCloser ops stopElse fuel nx (depth + 1)
      else if o = 0x03 ∨ o = 0x07 then
        if depth = 0 then some pc else findCloser ops stopElse fuel nx (depth - 1)
      else if o = 0x06 ∧ depth = 0 ∧ stopElse then some pc
      else findCloser ops stopElse fuel nx depth

def closerOf (k : KOp) (stopElse : Bool) : Nat :=
  (findCloser k.ops stopElse k.ops.length (k.mem.pc + 1 + nextOf k.word) 0).getD k.ops.length

def opNop (_k : KOp) (s : State) : KRes := .next id s

/-- Another member of the gang waits in a COLL or BARRIER that this one has not issued (R211). -/
def othersInColl (k : KOp) : Bool :=
  k.t.members.any fun p => p.1 ≠ k.ref.rank &&
    ((match p.2.waiting with
      | some (.barrier _ place) => k.mem.place ≤ place
      | _ => false) || p.2.out.any fun o => match o.op with
      | .coll _ _ _ _ _ place => k.mem.place ≤ place
      | _ => false)

/-- Another member of the gang has reached END and has not issued what this one issues now: one held at END by a COLL of its own
at this place keeps the sequence of R210 (R211; notes/assumptions/134.md). -/
def othersEnded (k : KOp) : Bool :=
  k.t.members.any fun p => p.1 ≠ k.ref.rank && (p.2.ended || p.2.waiting == some .ending) && decide (p.2.place ≤ k.mem.place)

/-- END: the member ends once every token it holds has signalled (R157). -/
def opEnd (k : KOp) (s : State) : KRes :=
  if othersInColl k then .stop St.collMismatch s
  else if k.mem.out = [] then .jump k.mem.pc (fun x => { x with ended := true, waitFrom := s.ft }) s
  else .wait .ending s

def opLoop (k : KOp) (s : State) : KRes :=
  let n := k.index k.opb
  let close := closerOf k false
  if n < 0 then .stop St.loopCount s
  else if n = 0 then .jump (close + 1) id s
  else
    .next (fun x => setIx k.opa 0
      { x with ctl := .loop (k.mem.pc + 1 + nextOf k.word) close k.opa 0 n.toNat :: x.ctl }) s

/-- The origins of tile `i` of a TILEFOR (R152). -/
def tileOrigin (rows cols : Nat) (colMajor : Bool) (i : Nat) : Nat × Nat :=
  if colMajor then (i % ceilDiv rows 32 * 32, i / ceilDiv rows 32 * 32)
  else (i / ceilDiv cols 32 * 32, i % ceilDiv cols 32 * 32)

def setOrigin (slot rows cols : Nat) (colMajor : Bool) (i : Nat) (x : Member) : Member :=
  let o := tileOrigin rows cols colMajor i
  setIx (slot + 1) (o.2 : Int) (setIx slot (o.1 : Int) x)

def opTilefor (k : KOp) (s : State) : KRes :=
  let v := k.view k.opb
  let cm := k.mod % 2 = 1
  let rows := v.extAt 1
  let cols := v.extAt 0
  let close := closerOf k false
  if v.empty then .jump (close + 1) id s
  else
    .next (fun x => setOrigin k.opa rows cols cm 0
      { x with ctl := .tile (k.mem.pc + 1 + nextOf k.word) close k.opa 0 rows cols cm :: x.ctl }) s

def opEndloop (k : KOp) (s : State) : KRes :=
  match k.mem.ctl with
  | .loop body close slot i n :: rest =>
    if i + 1 < n then
      .jump body (fun x => setIx slot ((i + 1 : Nat) : Int) { x with ctl := .loop body close slot (i + 1) n :: rest }) s
    else .next (fun x => { x with ctl := rest }) s
  | .tile body close slot i rows cols cm :: rest =>
    if i + 1 < ceilDiv rows 32 * ceilDiv cols 32 then
      .jump body (fun x => setOrigin slot rows cols cm (i + 1)
        { x with ctl := .tile body close slot (i + 1) rows cols cm :: rest }) s
    else .next (fun x => { x with ctl := rest }) s
  | _ => .next id s

/-- The comparison of IF (R149). -/
def ifHolds (k : KOp) : Bool :=
  let a := k.index k.opa
  let b := k.index k.opb
  compareCode (k.mod % 8) (a < b) (a == b) (b < a)

def opIf (k : KOp) (s : State) : KRes :=
  let fin := closerOf k false
  if ifHolds k then .next (fun x => { x with ctl := .cond fin :: x.ctl }) s
  else
    let els := closerOf k true
    if els = fin then .jump (fin + 1) id s
    else .jump (els + 1) (fun x => { x with ctl := .cond fin :: x.ctl }) s

/-- ELSE is reached at the end of the true branch, and goes past ENDIF (R154). -/
def opElse (k : KOp) (s : State) : KRes :=
  match k.mem.ctl with
  | .cond fin :: rest => .jump (fin + 1) (fun x => { x with ctl := rest }) s
  | _ => .next id s

def opEndif (k : KOp) (s : State) : KRes :=
  match k.mem.ctl with
  | .cond _ :: rest => .next (fun x => { x with ctl := rest }) s
  | _ => .next id s

/-! ### Index slots and parameters (R133, R158 to R161) -/

def opImov (k : KOp) (s : State) : KRes :=
  let v : Int := if nextOf k.word = 1 then signedOf 32 k.e1 else signedOf 64 (k.e2 % 2 ^ 32 * 2 ^ 32 + k.e1 % 2 ^ 32)
  .next (setIx k.opa v) s

/-- IALU's operations (R158). -/
def ialu (op : Nat) (a b : BitVec 64) : BitVec 64 :=
  match op with
  | 0 => a + b
  | 1 => a - b
  | 2 => a * b
  | 3 => if b = 0 then 0 else a.sdiv b
  | 4 => if b = 0 then a else a - b * a.sdiv b
  | 5 => if a.sle b then a else b
  | 6 => if a.sle b then b else a
  | 7 => a <<< (b.toNat % 64)
  | 8 => a.sshiftRight (b.toNat % 64)
  | 9 => a &&& b
  | 10 => a ||| b
  | _ => a ^^^ b

def opIalu (k : KOp) (s : State) : KRes :=
  let a := BitVec.ofInt 64 (k.index k.opb)
  let b := BitVec.ofInt 64 (k.index (k.e1 % 256))
  .next (setIx k.opa (ialu k.mod a b).toInt) s

/-- QUERY's values (R159). -/
def queryValue (k : KOp) (sel : Nat) : Nat :=
  match sel with
  | 0 => 32
  | 1 => 32
  | 2 => k.t.info.gang
  | 3 => k.ref.rank
  | 4 => 4
  | 5 => 16
  | 6 => 0x0100
  | _ => bit k.sealed

def opQuery (k : KOp) (s : State) : KRes := .next (setIx k.opa (queryValue k k.mod : Int)) s

def opParam (k : KOp) (s : State) : KRes :=
  let off := k.e1 % 65536
  let n := if k.mod % 2 = 1 then 8 else 4
  if off % n ≠ 0 ∨ k.t.param.length < off + n then .stop St.paramRange s
  else .next (setIx k.opa (signedOf (8 * n) (leField k.t.param off n))) s

def opVdim (k : KOp) (s : State) : KRes := .next (setIx k.opa ((k.view k.opb).extAt (k.mod % 4) : Int)) s

/-! ### VSUB (R162 to R164) -/

/-- VSUB (R162 to R164). The origin and extent of a dimension at or above RANK play no part but in the check of R163: the
manual does not say what they would do (DESIGN CHOICE, notes/assumptions/135.md). An empty source slot leaves an empty slot. -/
def opVsub (k : KOp) (s : State) : KRes :=
  let v := k.view k.opb
  let od := (List.range 4).map fun d => (k.ix (k.e1 % 256 % 64 + d)).toInt
  let xd := (List.range 4).map fun d => (k.ix (k.e1 / 256 % 64 + d)).toInt
  if (od ++ xd).any fun i => decide (i < 0) then .stop St.indexRange s
  else if !k.declared k.opb then .next (fun x => { x with views := Tab.del (k.opa % 64) x.views }) s
  else if isBlock v.fmt && od.getD 0 0 % 32 ≠ 0 then .stop St.indexRange s
  else
    let ext := (List.range 4).map fun d =>
      if d < v.rank then (max 0 (min (xd.getD d 0) ((v.extAt d : Int) - od.getD d 0))).toNat else 0
    let off : Int := (List.range 4).foldl (fun a d => a + od.getD d 0 * v.strideAt d) 0
    let w : Int := fmtBits v.fmt
    let d : View :=
      { v with
        ext := ext, base := ((v.base : Int) + off * w / 8).toNat, readOnly := k.viewReadOnly k.opb
        scaleOff := if isBlock v.fmt then ((v.scaleOff : Int) + off / 32).toNat else v.scaleOff }
    if !d.empty && !isBlock v.fmt && fmtBits v.fmt < 8 && off * w % 8 ≠ 0 then .stop St.indexRange s
    else
      let d := if d.empty then { d with base := v.base, scaleOff := v.scaleOff } else d
      .next (setView k.opa d) s

/-! ### STAMP (R217, R218) -/

def opStamp (k : KOp) (s : State) : KRes :=
  match issueStamp k.t.stack (.stampRead k.ref k.opa) s with
  | (some st, s) => .next (setIx k.opa (signedOf 64 st)) s
  | (none, s) => .wait .stamp s

/-! ### The commands -/

def execKNop (m : MRef) (s : State) : Host.Outcome State Fault Refusal := .next (kop m 0x00 opNop s)
def execKEnd (m : MRef) (s : State) : Host.Outcome State Fault Refusal := .next (kop m 0x01 opEnd s)
def execKLoop (m : MRef) (s : State) : Host.Outcome State Fault Refusal := .next (kop m 0x02 opLoop s)
def execKEndloop (m : MRef) (s : State) : Host.Outcome State Fault Refusal := .next (kop m 0x03 opEndloop s)
def execKTilefor (m : MRef) (s : State) : Host.Outcome State Fault Refusal := .next (kop m 0x04 opTilefor s)
def execKIf (m : MRef) (s : State) : Host.Outcome State Fault Refusal := .next (kop m 0x05 opIf s)
def execKElse (m : MRef) (s : State) : Host.Outcome State Fault Refusal := .next (kop m 0x06 opElse s)
def execKEndif (m : MRef) (s : State) : Host.Outcome State Fault Refusal := .next (kop m 0x07 opEndif s)
def execKImov (m : MRef) (s : State) : Host.Outcome State Fault Refusal := .next (kop m 0x10 opImov s)
def execKIalu (m : MRef) (s : State) : Host.Outcome State Fault Refusal := .next (kop m 0x11 opIalu s)
def execKQuery (m : MRef) (s : State) : Host.Outcome State Fault Refusal := .next (kop m 0x12 opQuery s)
def execKParam (m : MRef) (s : State) : Host.Outcome State Fault Refusal := .next (kop m 0x13 opParam s)
def execKVdim (m : MRef) (s : State) : Host.Outcome State Fault Refusal := .next (kop m 0x14 opVdim s)
def execKVsub (m : MRef) (s : State) : Host.Outcome State Fault Refusal := .next (kop m 0x18 opVsub s)
def execKStamp (m : MRef) (s : State) : Host.Outcome State Fault Refusal := .next (kop m 0x7E opStamp s)

end Sys2Proof.Machine
end

