-- ==== Sys2Proof/Machine/Memory.lean ====
section
/-!
DEFINITION. The memory berths: writes that arrive, wait and are applied, reads, remote pages, parity errors, refresh and
patrol (R349 to R354, R362 to R371, R498 to R526, R548, R549).
-/

namespace Sys2Proof.Machine

/-- A write or read to an address that no buffer of the window holds (R498). -/
def addressBad (s : State) (a : Nat) : Bool := decide (bufferCapacity s ≤ a) || (bufAtPage s (pageOf a)).isNone

/-- The core a read's data goes to, as a native address of this module (R552). -/
def readerAddr (s : State) (r : ReadReq) : Nat :=
  match r.dest with
  | .torus src _ => src
  | .xfer _ _ | .op _ _ | .other => nativeOf s.torus.coord (r.core / 128) (r.core % 128)

/-! ### Writes (R362, R364, R371, R389, R548) -/

/-- Counts a torus write of a pound to a module's memory berth (R550, R551). -/
def countSent (dest n : Nat) (s : State) : State :=
  if s.torus.sent.any fun x => x.dest == dest && x.n == n then
    { s with torus.sent := s.torus.sent.map fun x => if x.dest = dest ∧ x.n = n then { x with count := x.count + 1 } else x }
  else
    let e : SentWrites := { dest := dest, n := n, count := 1 }
    { s with torus.sent := s.torus.sent ++ [e] }

/-- The packets of a run of bytes that is forwarded: one, or above 224 bytes two, the first of 192 bytes (R549). -/
def splitRun (r : Nat × Bytes) : List (Nat × Bytes) :=
  if 224 < r.2.length then [(r.1, r.2.take 192), (r.1 + 192, r.2.drop 192)] else [r]

/-- Forwards a write of a remote page to its module, keeping its stamp; each packet counts as one write (R548, R549). -/
def forwardWrite (w : WriteReq) (st serial : Nat) (b : Buffer) (r : Nat × Nat × Nat × Nat) (s : State) : State :=
  let k := memBerthOf w.addr
  let dest := nativeOf r.1 (16 + k) 0
  (w.runs.flatMap splitRun).foldl (fun s d =>
    let p : BasePacket :=
      { stamp := st, addr := r.2.2.1 + (d.1 - bufBase b), kind := 0, vc := 1, destBerth := 16 + k, destUnit := 0, srcBerth := 16 + k
        srcUnit := 0, len := d.2.length, tag := 0, payload := d.2 }
    countSent dest serial
      (sendTorusPacket (nativeOf s.torus.coord w.berth w.unit) dest serial r.2.2.2 (attemptOf s serial) p s)) s

/-- Drops a write on its way. -/
def dropWrite (id : Nat) (s : State) : State := { s with mem.writes := Tab.del id s.mem.writes }

/-- A write of a pound that a recovery rolls back, between the stop and the replay: it changes nothing, and its barge
rewinds (R370, R379). -/
def lostInRecovery (s : State) (serial : Nat) : Bool :=
  match s.pound.recovery with
  | some r => r.stopped && decide (r.serial ≤ serial)
  | none => false

/-- A write of another module, at its memory berth: it is held until the writes of its pound may be applied (R392, R498, R548). -/
def torusArrival (id : Nat) (w : WriteReq) (sender n attempt first : Nat) (s : State) : State :=
  if addressBad s w.addr then
    raiseFault Ev.memAddress (leBytes 1 w.berth ++ leBytes 8 w.addr) (dropWrite id s)
  else
    let h : HeldWrite :=
      { berth := w.berth, sender := sender, n := n, attempt := attempt, stamp := first, addr := w.addr, data := w.data
        since := s.ft }
    { dropWrite id s with torus.held := s.torus.held ++ [h] }

/-- A write that arrives at or after its TIME + 32 ticks is late, and its memory berth counts it so (R362, R396). -/
def countLate (k t : Nat) (s : State) : State :=
  if t + 32 ≤ s.ft then s.updMemBerth k fun b => { b with late := satInc b.late } else s

/-- A write waits in its berth's reorder buffer for its instant (R364, R498). -/
def holdWrite (id : Nat) (w : WriteReq) (s : State) : State :=
  { s with mem.writes := Tab.put id { w with stage := .held } s.mem.writes }

/-- A write of this module, stamped `st` at instant `t`, at its memory berth: stale it is discarded and counted, in a recovery that
replays it it is discarded, at an address the map does not hold it is a fault, of a remote buffer it goes on to its module; any other
is applied at once where it is late and held where it is not (R362, R364, R371, R389, R396, R498, R548). -/
def berthArrival (id : Nat) (w : WriteReq) (st t : Nat) (s : State) : State :=
  let serial := serialOfTime s t
  let k := memBerthOf w.addr
  if t < s.pound.lastCut ∨ t < s.pound.discardBefore then
    (dropWrite id s).updMemBerth k fun b => { b with stale := satInc b.stale }
  else if lostInRecovery s serial then
    match w.orig with
    | .barge n => (dropWrite id s).updBarge n fun b => { b with rewinding := true }
    | _ => dropWrite id s
  else if addressBad s w.addr then
    raiseFault Ev.memAddress (leBytes 1 w.berth ++ leBytes 8 w.addr) (countDone k serial (dropWrite id s))
  else match (bufAtPage s (pageOf w.addr)).bind fun b => b.remote.map fun r => (b, r) with
    | some (b, r) => forwardWrite w st serial b r (countDone k serial (dropWrite id s))
    | none => if t + 32 ≤ s.ft then applyWrite id s else holdWrite id w s

/-- A write reaches its memory berth: all its packets stand in the berth's basins, and a base hop takes more than a tick, so that it
is received later than its stamp. One that arrives at or after its TIME + 32 ticks is late, and counts so (R322, R362, R364, R371, R389, R396, R413, R498, R548). -/
def writeArrival (id : Nat) (s : State) : State :=
  match Tab.find? id s.mem.writes with
  | none => s
  | some w =>
    match w.stamp with
    | none => s
    | some st =>
      if w.stage != .flight || w.parts != 0 || decide (s.ft ≤ stampInstant s.ft st) then s
      else match w.orig with
        | .torus sender n attempt first => torusArrival id w sender n attempt first s
        | _ => berthArrival id w st (stampInstant s.ft st) (countLate (memBerthOf w.addr) (stampInstant s.ft st) s)

/-- MEM_WRITE_ARRIVAL (R364). -/
def execMemWriteArrival (w : Nat) (s : State) : Host.Outcome State Fault Refusal := .next (writeArrival w s)

/-- The writes of a stage at a memory berth, in stamp order. -/
def stagedAt (s : State) (k : Nat) (p : WriteReq → Bool) : List (Nat × WriteReq) :=
  stampOrder (s.mem.writes.filter fun x => memBerthOf x.2.addr == k && p x.2)

/-- The reorder stage releases the earliest held write whose TIME + 32 ticks has come (R362). -/
def reorderStep (k : Nat) (s : State) : State :=
  match (stagedAt s k fun w => w.stage == .held).head? with
  | some (id, w) => if stampInstant s.ft (w.stamp.getD 0) + 32 ≤ s.ft then applyWrite id s else s
  | none => s

/-- REORDER_RELEASE (R362). -/
def execReorderRelease (berth : Nat) (s : State) : Host.Outcome State Fault Refusal := .next (reorderStep berth s)

/-- The copy of a page into its new shadow ends, and the writes that waited for it reach their lines in stamp order
(R349). -/
def copyStep (page : Nat) (s : State) : State :=
  match (byTag (s.mem.shadows.filter fun h => h.page = page ∧ !h.ready ∧ !h.discarded)).head? with
  | none => s
  | some h =>
    let s : State := { s with mem.shadows := setShadow { h with ready := true } s.mem.shadows }
    let mine := fun (w : WriteReq) => pageOf w.addr == page && w.stage == .copying &&
      serialOfTime s (stampInstant s.ft (w.stamp.getD 0)) == h.tag
    (stampOrder (s.mem.writes.filter fun x => mine x.2)).foldl (fun s x => applyWrite x.1 s) s

/-- SHADOW_COPY_DONE (R349). -/
def execShadowCopyDone (page : Nat) (s : State) : Host.Outcome State Fault Refusal := .next (copyStep page s)

/-- A write that waits for a shadow may take one now. -/
def poolFits (s : State) (w : WriteReq) : Bool :=
  let serial := serialOfTime s (stampInstant s.ft (w.stamp.getD 0))
  (shadowOf s (pageOf w.addr) serial).isSome || poolAdmits s serial

/-- The earliest write that waits for a shadow proceeds once the pool has one (R354). -/
def poolResumeStep (k : Nat) (s : State) : State :=
  match (stagedAt s k fun w => w.stage == .pool && poolFits s w).head? with
  | some (id, _) => applyWrite id s
  | none => s

/-- POOL_WAIT_RESUME (R354). -/
def execPoolWaitResume (berth : Nat) (s : State) : Host.Outcome State Fault Refusal := .next (poolResumeStep berth s)

/-! ### Reads (R367, R498, R500, R548, R549, R552) -/

/-- Sends the READ_DATA of a torus read to its requesting core, in packets of at most 224 bytes of data (R536, R552). -/
def answerTorusRead (r : ReadReq) (src tag : Nat) (d : Bytes) (bad : List Nat) (s : State) : State :=
  let k := memBerthOf r.addr
  let n := s.pound.committed
  (splitRun (r.addr, d)).foldl (fun s c =>
    let off := c.1 - r.addr
    let p : BasePacket :=
      { stamp := 0, addr := c.1, kind := 2, vc := 2, destBerth := src / 128 % 32, destUnit := src % 128, srcBerth := 16 + k
        srcUnit := 0, len := c.2.length, tag := tag, payload := c.2
        bad := (bad.filter fun i => decide (off ≤ i ∧ i < off + c.2.length)).map (· - off) }
    sendTorusPacket (nativeOf s.torus.coord (16 + k) 0) src n 0 (attemptOf s n) p s) s

/-- Sends a forwarded READ_REQ (R548). -/
def sendRead (id : Nat) (r : ReadReq) (b : Buffer) (f : Nat × Nat × Nat × Nat) (s : State) : State :=
  let k := memBerthOf r.addr
  let p : BasePacket :=
    { stamp := 0, addr := f.2.2.1 + (r.addr - bufBase b), kind := 1, vc := 1, destBerth := 16 + k, destUnit := 0
      srcBerth := 16 + k, srcUnit := 0, len := 2, tag := id, payload := leBytes 2 r.len }
  sendTorusPacket (readerAddr s r) (nativeOf f.1 (16 + k) 0) (openSerial s) f.2.2.2 (attemptOf s (openSerial s)) p s

/-- Forwards a read of a remote page, in two parts where it is larger than 224 bytes (R548, R549). -/
def forwardRead (id : Nat) (r : ReadReq) (b : Buffer) (f : Nat × Nat × Nat × Nat) (s : State) : State :=
  let first : ReadReq := { r with len := if 224 < r.len then 192 else r.len, sentAt := s.ft, tries := 1 }
  let s := sendRead id first b f { s with mem.reads := Tab.put id first s.mem.reads }
  if 224 < r.len then
    let id2 := s.mem.readNo
    let rest : ReadReq := { r with addr := r.addr + 192, len := r.len - 192, sentAt := s.ft, tries := 1 }
    sendRead id2 rest b f { s with mem.reads := Tab.put id2 rest s.mem.reads, mem.readNo := id2 + 1 }
  else s

/-- The READ_DATA of a read leaves its memory berth, each byte with its parity bit (R409, R492, R552). -/
def readAnswer (id : Nat) (r : ReadReq) (d : Bytes) (bad : List Nat) (poisoned : Bool) (s : State) : State :=
  match r.dest with
  | .torus src tag => answerTorusRead r src tag d bad { s with mem.reads := Tab.del id s.mem.reads }
  | .xfer _ _ | .op _ _ | .other =>
    let k := 16 + memBerthOf r.addr
    let t := readPacket id 2 k (r.core / 128) (r.core % 128) r.addr d 0
    enterBerth k none [{ t with pkt := { t.pkt with bad := bad } }]
      { s with mem.reads := Tab.put id { r with data := some d, poisoned := poisoned } s.mem.reads }

/-- The offsets of a range whose bytes hold bad parity in the versions a read sees. -/
def badOffsets (s : State) (sees : Held → Option Nat) (a n : Nat) : List Nat :=
  s.mem.wrong.filterMap fun st => match (holderOf s st).bind sees with
    | some p => let x := p * 65536 + st % 65536; if a ≤ x ∧ x < a + n then some (x - a) else none
    | none => none

/-- A memory berth answers a read from the version it concerns: a torus read is a committed read, which a poisoned line refuses, in a
READ_DATA without bytes; a task that reads one is to end (R367, R500, R523, R552; notes/assumptions/182.md). -/
def serveRead (id : Nat) (r : ReadReq) (s : State) : State :=
  match r.dest with
  | .torus _ _ =>
    if rangePoisoned s r.addr r.len then readAnswer id r [] [] true s
    else readAnswer id r (committedRead s r.addr r.len) (badOffsets s seesCommitted r.addr r.len) false s
  | .xfer _ _ | .op _ _ | .other =>
    readAnswer id r (newestRead s r.addr r.len) (badOffsets s (seesNewest s) r.addr r.len)
      ((linesOf r.addr r.len).any (newestPoison s)) s

/-- A memory berth serves a READ_REQ that stands there from the version the access concerns (R367, R500, R552). What it reads from DRAM is
checked (R492, R520, R521). -/
def readStep (id : Nat) (parity : ParitySeen) (s : State) : State :=
  match Tab.find? id s.mem.reads with
  | none => s
  | some r =>
    if r.data.isSome || r.tries != 0 || !r.here then s
    else
      if addressBad s r.addr then
        logEvent Ev.memAddress (leBytes 1 r.berth ++ leBytes 8 r.addr) (readAnswer id r (List.replicate r.len 0) [] false s)
      else match (bufAtPage s (pageOf r.addr)).bind fun b => b.remote.map fun f => (b, f) with
        | some (b, f) => forwardRead id r b f s
        | none =>
          serveRead id r (readErrors (match r.dest with
            | .torus _ _ => seesCommitted
            | _ => seesNewest s) r.addr r.len (paritySeen (memBerthOf r.addr) parity s))

/-- MEM_READ_REQ (R500). -/
def execMemReadReq (req : Nat) (parity : ParitySeen) (s : State) : Host.Outcome State Fault Refusal :=
  .next (readStep req parity s)

/-! ### Refresh, tracking, patrol (R513, R519, R526) -/

/-- A berth's packages are in operation: not in self-refresh, as in PS3, and not without power, as in PS4 (R513, R515). -/
def memAwake (s : State) (k : Nat) : Bool := !(s.memBerth k).selfRefresh && s.power.pstate != 4

/-- Per-bank refresh: the instant of each bank's last one is kept; in self-refresh the packages refresh themselves (R513,
R515). Whether it honours a refresh-management request of the package, which R494 has counted (R527), is a free value
(notes/assumptions/73.md). -/
def refreshStep (k sub bank : Nat) (s : State) : State :=
  if !memAwake s k then s
  else
    let (x, s) := drawBelow 2 s
    s.updMemBerth k fun b =>
      { b with refreshed := Tab.put (sub * 16 + bank) s.ft b.refreshed, rfm := if x = 1 then satInc b.rfm else b.rfm }

/-- DRAM_REFRESH (R513). -/
def execDramRefresh (berth subchannel bank : Nat) (s : State) : Host.Outcome State Fault Refusal :=
  .next (refreshStep berth subchannel bank s)

/-- Counts a calibration step of a class, stamped by the service berth's issuer, and logs one that is rejected with its class
and item (R316, R477, R489). -/
def calibCount (cls item : Nat) (ok : Bool) (s : State) : State :=
  let (st, s) := issueStamp 31 (.calib cls) s
  let c : CalibClass := Tab.getD {} cls s.light.calib
  let c : CalibClass :=
    { count := satInc c.count, rejects := if ok then c.rejects else satInc c.rejects, last := st.getD c.last }
  let s : State := { s with light.calib := Tab.put cls c s.light.calib }
  if ok then s else logEvent Ev.calibReject (leBytes 1 cls ++ leBytes 2 item) s

/-- Housekeeping slack, from 65,536 ticks into each round (R696); at boot lasers are calibrated in a phase of their own (R812). -/
def inSlack (s : State) : Bool := !ready s || decide (65536 ≤ s.ft % 131072)

/-- A tracking step in a refresh gap of the housekeeping slack, one for each sub-channel in a round; its result replaces the training
values, and one outside its limits is discarded (R323, R519, R696). -/
def trackStep (k sub : Nat) (ok : Bool) (s : State) : State :=
  let round := s.ft / 131072
  if !memAwake s k || !inSlack s || Tab.find? sub (s.memBerth k).trackedIn == some round then s
  else
    calibCount 5 (48 * k + sub) ok
      ({ s with freeCtr := s.freeCtr + 1 }.updMemBerth k fun b =>
        { b with tracked := b.tracked + 1, trackedIn := Tab.put sub round b.trackedIn
                 values := if ok then Tab.put sub (Config.trained s.freeCtr (48 * k + sub)) b.values else b.values })

/-- Every berth runs a tracking step on each of its 48 sub-channels, as it leaves self-refresh; whether a result is within its limits is a
free value, and one stamp marks the last (R515, R519; notes/assumptions/94.md). -/
def trackAll (s : State) : State :=
  let (x, s) := draw s
  let c := s.freeCtr
  let bad := (List.range 384).filter x.testBit
  let u : State :=
    { s with freeCtr := c + 1
             mem.berths := (List.range 8).map fun k =>
               (k, { s.memBerth k with
                 tracked := (s.memBerth k).tracked + 48
                 values := (List.range 48).map fun j =>
                   (j, if x.testBit (48 * k + j) then Tab.getD 0 j (s.memBerth k).values else Config.trained c (48 * k + j)) }) }
  let (st, u) := issueStamp 31 (.calib 5) u
  let cls : CalibClass := Tab.getD {} 5 u.light.calib
  let cls : CalibClass := { count := satAdd cls.count 384, rejects := satAdd cls.rejects bad.length, last := st.getD cls.last }
  bad.foldl (fun s i => logEvent Ev.calibReject (leBytes 1 5 ++ leBytes 2 i) s) { u with light.calib := Tab.put 5 cls u.light.calib }

/-- TRACKING_STEP (R519). -/
def execTrackingStep (berth subchannel : Nat) (ok : Bool) (s : State) : Host.Outcome State Fault Refusal :=
  .next (trackStep berth subchannel ok s)

/-- A patrol read of the access at a storage address of a berth, in what the berth holds (R526). -/
def patrolStep (k addr : Nat) (parity : ParitySeen) (s : State) : State :=
  if !memAwake s k || storeBerth addr != k then s
  else
    let s := paritySeen k parity (s.updMemBerth k fun b => { b with patrolled := b.patrolled + 1 })
    (lineHeads (s.mem.wrong.filter fun a => a / 32 == addr / 32)).foldl (fun s a => byteError a s) s

/-- PATROL_READ (R526). -/
def execPatrolRead (berth addr : Nat) (parity : ParitySeen) (s : State) : Host.Outcome State Fault Refusal :=
  .next (patrolStep berth addr parity s)

end Sys2Proof.Machine
end

