-- ==== Sys2Proof/Machine/KernelTile.lean ====
section
/-!
DEFINITION. Ops on tile state and windows of views: loads, stores, the matrix engine, element-wise ops, reductions,
layout, sorting and conversion (R165 to R168, R175 to R199).
-/

namespace Sys2Proof.Machine

/-! ### Reaching a view (R97, R98, R143, R173, R523) -/

/-- EV_SECURE_ACCESS (R98). -/
def logSecure (k : KOp) (s : State) : State :=
  logEvent Ev.secureAccess
    (leBytes 1 k.t.stack ++ leBytes 1 (k.mem.core % 128) ++ leBytes 1 k.ref.slot ++ leBytes 4 k.ref.task) s

/-- The status an access to scratch bytes ends the task with, or none (R97, R98). An access that meets both rules takes that of
R97: the manual orders neither before the other (DESIGN CHOICE, notes/assumptions/138.md). -/
def scratchStop (k : KOp) (runs : List Run) : Option Nat :=
  if runs.any fun r => 0x180000 < r.2 then some St.scratchRange
  else if !k.sealed && runs.any fun r => 0x160000 < r.2 then some St.sealedOnly
  else none

/-- A read of a task meets a poisoned line of device memory (R523). -/
def devicePoison (s : State) (k : KOp) (v : View) (runs : List Run) : Bool :=
  !viewRemote s v && runs.any fun r => (linesOf r.1 (r.2 - r.1)).any fun l => taskPoison s k.access v l

/-- Ends a task with an access's status, logging what R98 logs. -/
def stopAccess (k : KOp) (st : Nat) (s : State) : KRes :=
  .stop st (if st = St.sealedOnly then logSecure k s else s)

/-- One access of an op: a view, the byte ranges it touches there, and whether it writes. -/
structure Touch where
  view  : View
  runs  : List Run
  write : Bool
deriving DecidableEq, Repr

/-- The page of a version that a task's read of a view sees (R367, R373). -/
def seesTask (s : State) (a : Access) (v : View) (h : Held) : Option Nat :=
  match h with
  | .preImage g n p => if a.replay && v.readOnly && g == a.ref.slot && n == a.ref.task then some p else none
  | h => (seesNewest s h).filter fun p => (preImageOf s a v p).isNone

/-- What an op reads of this module's device memory is checked for parity as it is read (R492, R520, R521). -/
def deviceErrors (k : KOp) (l : List Touch) (s : State) : State :=
  l.foldl (fun s a =>
    if 2 ≤ a.view.space && !a.write && !viewRemote s a.view then
      a.runs.foldl (fun s r => readErrors (seesTask s k.access a.view) r.1 (r.2 - r.1) s) s
    else s) s

/-- The 256-byte blocks a view's bytes touch. -/
def blocksOf (runs : List Run) : List Nat :=
  (runs.flatMap fun r => if r.1 < r.2 then (List.range ((r.2 - 1) / 256 + 1 - r.1 / 256)).map (· + r.1 / 256) else []).eraseDups

/-- A byte of device memory as responses brought it. -/
def readByte (l : List ReadReq) (a : Nat) : Byte :=
  match l.find? fun r => r.addr ≤ a && a < r.addr + r.len with
  | some r => (r.data.getD []).getD (a - r.addr) 0
  | none => 0

/-- The reads of an op of a member. -/
def opReads (s : State) (m : MRef) (n : Nat) : List ReadReq := (s.mem.reads.filter fun r => r.2.dest == .op m n).map Prod.snd

/-- The reads of an op are over. -/
def dropOpReads (m : MRef) (n : Nat) (s : State) : State :=
  { s with mem.reads := s.mem.reads.filter fun r => r.2.dest != .op m n }

/-- The blocks of remote buffers that an op reads. -/
def remoteBlocks (s : State) (l : List Touch) : List Nat :=
  ((l.filter fun a => !a.write && viewRemote s a.view).flatMap fun a => blocksOf a.runs).eraseDups

/-- An op that reads a remote buffer asks for its blocks, and waits at the op until each has reached the core; one that meets poison ends
the task (R523, R548, R549, R553; notes/assumptions/35.md). -/
def withRemote (k : KOp) (n : Nat) (l : List Touch) (work : State → KRes) (s : State) : KRes :=
  if remoteBlocks s l = [] then work s
  else
    let rs := opReads s k.ref n
    if rs = [] then .wait .read (coreReads k.mem.core (.op k.ref n) (remoteBlocks s l) s)
    else if rs.any ReadReq.poisoned then .stop St.memPoison (dropOpReads k.ref n s)
    else if rs.all ReadReq.landed then work s
    else .wait .read s

/-- The status the first refused access ends the task with. -/
def touchStop (s : State) (k : KOp) : List Touch → Option Nat
  | [] => none
  | a :: rest =>
    match (if a.view.space < 2 then scratchStop k a.runs
           else if !a.write && devicePoison s k a.view a.runs then some St.memPoison else none) with
    | some st => some st
    | none => touchStop s k rest

/-- Scratch ranges the accesses read or write. -/
def touched (write : Bool) (l : List Touch) : List Run :=
  (l.filter fun a => a.view.space < 2 && a.write == write).flatMap Touch.runs

/-- Issues an op to the lighter once its accesses are allowed and no outstanding op stands in its way (R97, R98, R173); what it reads of
scratch is read, and checked, when the lighter reads it (R93, R99). -/
def issueAccess (k : KOp) (l : List Touch) (work : State → KRes) (s : State) : KRes :=
  let s := deviceErrors k l s
  match touchStop s k l with
  | some st => stopAccess k st s
  | none =>
    match hazardToken k.ref.rank k.mem (touched false l) (touched true l) with
    | some t => .wait (.token t) s
    | none => work s

/-- Runs an op's work on the core side in the same way: its reads of scratch are checked (R99). -/
def withAccess (k : KOp) (l : List Touch) (work : State → KRes) (s : State) : KRes :=
  issueAccess k l (withRemote k 0 l fun s => work (checkRuns k.mem.core (touched false l) s)) s

/-- A byte reader of a view that an op loads from; the bytes of a remote buffer have been fetched (R548). -/
def loadReader (k : KOp) (v : View) (s : State) : Nat → Byte :=
  if viewRemote s v then readByte (opReads s k.ref 0) else spaceByte s k.access v 0

/-- A byte reader of a view that an op stores to, for bytes that an element covers in part; those of a remote buffer, which a write cannot
merge, are free values (notes/assumptions/35.md). -/
def viewReader (k : KOp) (v : View) (s : State) : (Nat → Byte) × State :=
  if viewRemote s v then
    let (x, s') := draw s
    (spaceByte s k.access v x, s')
  else (spaceByte s k.access v 0, s)

/-! ### TLOAD and TSTORE (R165 to R168) -/

/-- The window of a view at (row origin, column origin) (R165). -/
def windowOf (k : KOp) (v : View) (e : Nat) : List (Nat × Nat) × List (Nat × Nat) :=
  if v.empty then ([], [])
  else (windowAxis (k.index (e % 256)) (v.extAt 1), windowAxis (k.index (e / 256 % 256)) (v.extAt 0))

/-- The tile elements of rows read from a view, with their flags: (tile row, view row) and (tile column, view
column). The tile of a slot in which no view stands is F32 (DESIGN CHOICE, notes/assumptions/140.md). -/
def loadTile (rd : Nat → Byte) (v : View) (flush : Bool) (rows cols : List (Nat × Nat)) : Tile × Nat :=
  let cells : List (Nat × BitVec 32 × Nat) := rows.flatMap fun r => cols.map fun c =>
    let (x, fl) := tileElem rd v flush ((r.2 : Int) * v.strideAt 1) c.2
    (r.1 * 32 + c.1, x, fl)
  let e : Tab (BitVec 32) := (cells.filter fun c => c.2.1 ≠ 0).map fun c => (c.1, c.2.1)
  ({ isInt := isIntFmt v.fmt, elems := e }, cells.foldl (fun a c => a ||| c.2.2) 0)

/-- TLOAD (R165, R166). From a slot in which no view stands it makes an F32 tile of zeros (DESIGN CHOICE, notes/assumptions/140.md). -/
def opTload (k : KOp) (s : State) : KRes :=
  let v := k.view k.opb
  let (rows, cols) := windowOf k v k.e1
  withAccess k [{ view := v, runs := v.windowRuns rows cols, write := false }] (fun s =>
    let (t, fl) := loadTile (loadReader k v s) v k.flush rows cols
    .next (fun x => addFlags fl (setTile k.opa t x)) (dropOpReads k.ref 0 s)) s

/-- The rule of a store without a CVT: MAX, multiplier 1.0 (R167), with the random words of R60. -/
def storeRule (k : KOp) (mean : Bool) (mult : Nat) : StoreRule :=
  { mean := mean, mult := mult, flush := k.flush, stoch := k.stoch
    word := fun e => randomWord (k.t.home.getD 0) k.ref.slot k.ref.task k.ref.rank k.mem.stoch e }

/-- Counts a stochastic conversion op of R168. -/
def countStoch (fmt : Nat) (x : Member) : Member := if stochFmt fmt then { x with stoch := x.stoch + 1 } else x

/-- Stores rows of a tile into a view: (tile row, view row) and (tile column, view column). A later row stands over an
earlier one (R191). -/
def storeTile (k : KOp) (v : View) (t : Tile) (rule : StoreRule) (rows cols : List (Nat × Nat)) (s : State) : KRes :=
  withAccess k [{ view := v, runs := v.windowRuns rows cols, write := true }] (fun s =>
    let (rd, s) := viewReader k v s
    let acc := rows.foldl (fun acc r => storeRow rd v t rule r.1 r.2 cols acc) {}
    .next (fun x => countStoch v.fmt (addFlags acc.flags x))
      (writeSpace k.access v.space (.task k.ref.slot k.ref.task) acc.cells s)) s

/-- TSTORE (R165 to R168). A read-only view ends the task before any other check of the op does, as in CVT, SCATTER, XFER and RECV;
the manual orders them not (DESIGN CHOICE, notes/assumptions/139.md). -/
def opTstore (k : KOp) (s : State) : KRes :=
  let v := k.view k.opb
  if k.viewReadOnly k.opb then .stop St.viewAccess s
  else
    let (rows, cols) := windowOf k v k.e1
    storeTile k v (k.tile k.opa) (storeRule k false 0x3F800000) rows cols s

/-- TFILL (R148): the value's low 32 bits in every element (notes/assumptions/41.md). -/
def opTfill (k : KOp) (s : State) : KRes :=
  let x := BitVec.ofInt 32 (k.index k.opb)
  .next (setTile k.opa (tileOf (k.mod % 2 = 1) fun _ _ => x)) s

/-! ### MMA (R44 to R52, R175 to R178) -/

/-- The operand pairs of R45. -/
def pairOk (a b : Nat) : Bool :=
  (a == b && (a ≤ 2 || a == 7 || a == 8 || a == 9 || a == 10)) ||
  (3 ≤ a && a ≤ 6 && 3 ≤ b && b ≤ 6) || (a == 10 && b == 8) || (a == 8 && b == 10)

/-- The pairs that accumulate in I32 (R46). -/
def pairInt (a b : Nat) : Bool := (a == 8 && b == 8) || (a == 9 && b == 9)

/-- The exact product of two operands, and INV where it is invalid. -/
def productOf (x y : Fv) : Fv × Nat := fvMul x y

/-- The eight part products of the F32 pair (R50); a part that is not finite has no split. -/
def f32Products (near : Bool) (x y : Fv) : List Fv :=
  if x.finite && y.finite then
    let (h, m, l) := splitF32 near x
    let (h', m', l') := splitF32 near y
    [(fvMul h h').1, (fvMul h m').1, (fvMul m h').1, (fvMul h l').1, (fvMul l h').1, (fvMul m m').1, (fvMul m l').1,
     (fvMul l m').1]
  else [(fvMul x y).1]

/-- The exact sum of a list of values. -/
def exactSum (l : List (Fv × Nat)) : Fv × Nat :=
  l.foldl (fun a p => let z := fvAdd a.1 p.1
    (z.1, a.2 ||| p.2 ||| z.2)) (Fv.zero, 0)

/-- The values an output element of MMA sums, and the flags of forming them: products, or block partials of up to 32
products times their scales (R46 to R50). Operands come as (value, scale byte, flags) by k. A block partial times its scales is
kept exact, and only the addition that takes it rounds, overflows or underflows: the manual says only that it is exact
unless the F32 result overflows or underflows (DESIGN CHOICE, notes/assumptions/22.md). Where a scale byte is 0xFF every element of
the block is NaN, which sets SCN and no INV (R35, R43; DEDUCED, notes/assumptions/169.md). -/
def mmaTerms (fa fb : Nat) (near : Bool) (a b : List (Fv × Nat × Nat)) : List Fv × Nat :=
  let pairs := a.zip b
  let fl := pairs.foldl (fun f p => f ||| p.1.2.2 ||| p.2.2.2) 0
  if isBlock fa || isBlock fb then
    (List.range (ceilDiv pairs.length 32)).foldl (fun acc i =>
      let blk := (pairs.drop (32 * i)).take 32
      let sa := (blk.head?.map fun p => p.1.2.1).getD 127
      let sb := (blk.head?.map fun p => p.2.2.1).getD 127
      if sa = 255 ∨ sb = 255 then (acc.1 ++ [.nan], acc.2 ||| flSCN)
      else
        let (sum, f1) := exactSum (blk.map fun p => productOf p.1.1 p.2.1)
        (acc.1 ++ [(scaleValue (scaleValue sum sa).1 sb).1], acc.2 ||| f1)) ([], fl)
  else if fa = 0 then
    (pairs.flatMap fun p => f32Products near p.1.1 p.2.1,
      pairs.foldl (fun f p => f ||| (fvMul p.1.1 p.2.1).2) fl)
  else
    (pairs.map fun p => (fvMul p.1.1 p.2.1).1, pairs.foldl (fun f p => f ||| (fvMul p.1.1 p.2.1).2) fl)

/-- The I32 sum of products (R46, R51). -/
def mmaInt (acc : BitVec 32) (a b : List (Fv × Nat × Nat)) : BitVec 32 :=
  (a.zip b).foldl (fun z p => match (fvMul p.1.1 p.2.1).1 with
    | .num s m _ => z + BitVec.ofInt 32 (if s then -(m : Int) else m)
    | _ => z) acc

/-- The operand row `i` of a view along K. -/
def mmaRow (rd : Nat → Byte) (v : View) (flush : Bool) (i : Nat) : List (Fv × Nat × Nat) :=
  (List.range (v.extAt 0)).map fun c => readElem rd v flush ((i : Int) * v.strideAt 1) c

/-- One element of MMA's result and its flags; `n` numbers the free choices of the sum's order. -/
def mmaElem (k : KOp) (fa fb : Nat) (acc : BitVec 32) (a b : List (Fv × Nat × Nat)) (n : Nat) : BitVec 32 × Nat :=
  if pairInt fa fb then (mmaInt acc a b, 0)
  else if a = [] then (acc, 0)
  else
    let pick := Config.free n
    let (x, f1) := f32In k.flush acc.toNat
    let (terms, f2) := mmaTerms fa fb (pick % 2 = 1) a b
    -- an accumulator of zero is no partial of its own: the sum makes one addition fewer than it has terms, and the zero adds its sign
    -- alone (R52, R79)
    let (y, f3) := match x with
      | .num _ 0 _ =>
        let (y, f) := freeSum k.flush terms.length (pick / 2) terms
        ((fvAdd x y).1, f)
      | _ => freeSum k.flush (terms.length + 1) (pick / 2) (x :: terms)
    let (z, f4) := toF32 k.flush y
    (BitVec.ofNat 32 z, f1 ||| f2 ||| f3 ||| f4)

/-- The codes of an operand's tile: its rows' elements in up to 32 columns from 32 × `j` on, row by row. -/
def operandTile (rd : Nat → Byte) (v : View) (j : Nat) : List Nat :=
  (List.range (v.extAt 1)).flatMap fun (r : Nat) => ((List.range (v.extAt 0)).filter fun c => c / 32 = j).map fun (c : Nat) =>
    readCode rd (v.bitAt ((r : Int) * v.strideAt 1 + (c : Int) * v.strideAt 0)) (fmtBits v.fmt)

/-- The two tile buffers of an operand take its tiles in turn, so that one fills while the other feeds the array (R88). -/
def fillBuffers (rd : Nat → Byte) (v : View) (t : Tab (List Nat)) : Tab (List Nat) :=
  let n := ceilDiv (v.extAt 0) 32
  ((List.range n).drop (n - 2)).foldl (fun t j => Tab.put (j % 2) (operandTile rd v j) t) t

/-- The status MMA's views end the task with, in the order in which R178's conditions stand (DESIGN CHOICE, notes/assumptions/139.md). -/
def mmaStop (a b : View) : Option Nat :=
  if 2 ≤ a.space ∨ 2 ≤ b.space then some St.viewSpace
  else if a.rank ≠ 2 ∨ b.rank ≠ 2 then some St.viewShape
  else if 32 < a.extAt 1 ∨ 32 < b.extAt 1 ∨ a.extAt 0 ≠ b.extAt 0 then some St.viewShape
  else if !pairOk a.fmt b.fmt then some St.format
  else none

def opMma (k : KOp) (s : State) : KRes :=
  let a := k.view k.opb
  let b := k.view (k.e1 % 256)
  let int := pairInt a.fmt b.fmt
  let past := k.mod % 2 = 1
  match mmaStop a b with
  | some st => .stop st s
  | none =>
    if !past && (k.tile k.opa).isInt != int then .stop St.format s
    else
      withAccess k [{ view := a, runs := a.runs, write := false }, { view := b, runs := b.runs, write := false }]
        (fun s =>
          let rd := spaceByte s k.access a 0
          let acc := if past then { isInt := int } else k.tile k.opa
          let rowsA := (List.range (a.extAt 1)).map (mmaRow rd a k.flush)
          let rowsB := (List.range (b.extAt 1)).map (mmaRow rd b k.flush)
          let res := (List.range 1024).map fun e =>
            match rowsA[e / 32]?, rowsB[e % 32]? with
            | some x, some y => mmaElem k a.fmt b.fmt (acc.at (e / 32) (e % 32)) x y (s.freeCtr + e)
            | _, _ => (acc.at (e / 32) (e % 32), 0)
          let t := tileOf int fun r c => (res.getD (r * 32 + c) (0, 0)).1
          let fl := res.foldl (fun f p => f ||| p.2) 0
          let s := s.updCore k.mem.core fun c =>
            { c with operandA := fillBuffers rd a c.operandA, operandB := fillBuffers rd b c.operandB }
          .next (fun x => addFlags fl (setTile k.opa t x)) { s with freeCtr := s.freeCtr + 1024 }) s

/-- ACCMOV: the elements as they stand (R175; notes/assumptions/170.md). -/
def opAccmov (k : KOp) (s : State) : KRes := .next (setTile k.opa (k.tile k.opb)) s

/-! ### Element-wise ops (R179 to R183) -/

/-- An operand of EBIN, EFMA or CMP: a tile, or a value broadcast to a tile of the type named (R179). -/
def elemOperand (k : KOp) (b : Nat) (isInt : Bool) : Tile :=
  if isTileArg b then k.tile b else
    let x := BitVec.ofInt 32 (k.index b)
    tileOf isInt fun _ _ => x

/-- Applies a function to the elements of a tile, gathering flags. -/
def mapTile (isInt : Bool) (f : Nat → Nat → Nat × Nat) : Tile × Nat :=
  let res := (List.range 1024).map fun e => f (e / 32) (e % 32)
  (tileOf isInt fun r c => BitVec.ofNat 32 (res.getD (r * 32 + c) (0, 0)).1, res.foldl (fun a p => a ||| p.2) 0)

/-- Writes a result tile and its flags. -/
def tileResult (k : KOp) (p : Tile × Nat) (s : State) : KRes := .next (fun x => addFlags p.2 (setTile k.opa p.1 x)) s

def opEbin (k : KOp) (s : State) : KRes :=
  let a := k.tile k.opb
  let b := elemOperand k (k.e1 % 256) a.isInt
  if a.isInt != b.isInt then .stop St.format s
  else tileResult k (mapTile a.isInt fun r c =>
    if a.isInt then (ebinI32 (k.mod % 8) (a.at r c).toNat (b.at r c).toNat, 0)
    else ebinF32 (k.mod % 8) k.flush (a.at r c).toNat (b.at r c).toNat) s

def opEfma (k : KOp) (s : State) : KRes :=
  let a := k.tile k.opb
  let b := elemOperand k (k.e1 % 256) false
  let d := elemOperand k (k.e1 / 256 % 256) false
  if a.isInt || b.isInt || d.isInt then .stop St.format s
  else tileResult k (mapTile false fun r c => efmaF32 k.flush (a.at r c).toNat (b.at r c).toNat (d.at r c).toNat) s

/-- ABS and NEG of an F32 number; NaN gives the canonical NaN (R34, R35), and a subnormal flushes under the task's
flag (R54). -/
def absNegF32 (neg flush : Bool) (x : Nat) : Nat × Nat :=
  let (v, fl) := f32In flush x
  (match v with
    | .nan => 0x7FC00000
    | _ =>
      let m := (flushIn flush fmtF32 x).1
      if neg then (if m < 2 ^ 31 then m + 2 ^ 31 else m - 2 ^ 31) else m % 2 ^ 31, fl)

/-- One element of EUN (R180, R181). -/
def eunElem (fn : Nat) (flush isInt : Bool) (x : BitVec 32) : Nat × Nat :=
  match fn with
  | 0 => if isInt then (wrap32 (x.toInt.natAbs : Int), 0) else absNegF32 false flush x.toNat
  | 1 => if isInt then (wrap32 (-x.toInt), 0) else absNegF32 true flush x.toNat
  | 9 => toF32 flush (Fv.ofInt x.toInt)
  | 10 =>
    let (a, f1) := f32In flush x.toNat
    let (v, f2) := toIntFmt 11 a
    (intBits 32 v, f1 ||| f2)
  | _ => specialFn fn flush x.toNat

def opEun (k : KOp) (s : State) : KRes :=
  let fn := k.mod % 16
  let a := k.tile k.opb
  if (2 ≤ fn ∧ fn ≤ 8 ∧ a.isInt) ∨ (fn = 9 ∧ !a.isInt) ∨ (fn = 10 ∧ a.isInt) then .stop St.format s
  else
    let out := if fn < 2 then a.isInt else fn == 10
    tileResult k (mapTile out fun r c => eunElem fn k.flush a.isInt (a.at r c)) s

/-- The comparison of CMP on two elements (R71, R182). -/
def cmpElem (code : Nat) (flush isInt : Bool) (a b : BitVec 32) : Bool × Nat :=
  if isInt then (compareCode code (a.toInt < b.toInt) (a == b) (b.toInt < a.toInt), 0)
  else
    let (x, f1) := f32In flush a.toNat
    let (y, f2) := f32In flush b.toNat
    (!x.isNan && !y.isNan && compareCode code (fvLt x y) (fvEq x y) (fvLt y x), f1 ||| f2)

/-- CMP: the destination takes the type of the operands compared (R134, R182; notes/assumptions/42.md). -/
def opCmp (k : KOp) (s : State) : KRes :=
  let a := k.tile k.opb
  let b := elemOperand k (k.e1 % 256) a.isInt
  let int := a.isInt
  if a.isInt != b.isInt then .stop St.format s
  else tileResult k (mapTile int fun r c =>
    let (t, fl) := cmpElem (k.mod % 8) k.flush a.isInt (a.at r c) (b.at r c)
    (if t then (if int then 1 else 0x3F800000) else 0, fl)) s

/-- The mask element is non-zero and not NaN (R183). -/
def maskHolds (t : Tile) (flush : Bool) (r c : Nat) : Bool × Nat :=
  let (x, fl) := tileValue t flush r c
  (!x.isNan && !x.isZero, fl)

/-- An element that SEL takes as an input (R54). -/
def selInput (t : Tile) (flush : Bool) (r c : Nat) : Nat × Nat :=
  if t.isInt then ((t.at r c).toNat, 0) else flushIn flush fmtF32 (t.at r c).toNat

def opSel (k : KOp) (s : State) : KRes :=
  let mask := k.tile k.opb
  let a := k.tile (k.e1 % 256)
  let b := k.tile (k.e1 / 256 % 256)
  if a.isInt != b.isInt then .stop St.format s
  else tileResult k (mapTile a.isInt fun r c =>
    let (m, fl) := maskHolds mask k.flush r c
    let (x, f1) := selInput a k.flush r c
    let (y, f2) := selInput b k.flush r c
    (if m then x else y, fl ||| f1 ||| f2)) s

/-! ### Reductions (R184 to R187) -/

/-- The index of the greatest of a list by ARGMAX's rule (R73). −0 and +0 tie, since R71's order of zeros is given for max
and min alone (DESIGN CHOICE, notes/assumptions/131.md). -/
def argMax (l : List Fv) : Nat :=
  match l.findIdx? Fv.isNan with
  | some i => i
  | none => (l.zipIdx.foldl (fun (a : Option (Fv × Nat)) p => match a with
      | none => some p
      | some q => if fvLt q.1 p.1 then some p else a) none).map Prod.snd |>.getD 0

/-- MAX or MIN of a list that is not empty, −0 below +0, NaN where any is (R71, R72). -/
def extreme (min : Bool) (l : List Fv) : Fv :=
  if l.any Fv.isNan then .nan
  else match l with
    | [] => Fv.zero
    | h :: t => t.foldl (fun a x => if min then (if fvBelow x a then x else a) else (if fvBelow a x then x else a)) h

/-- One result of RED over elements (R184, R186, R187): its bits and flags. -/
def redElem (kind : Nat) (flush isInt : Bool) (l : List (BitVec 32)) (pick : Nat) : Nat × Nat :=
  if kind = 3 then
    if l = [] then (0xFFFFFFFF, 0)
    else
      let v := l.map fun x => if isInt then (Fv.ofInt x.toInt, 0) else f32In flush x.toNat
      (argMax (v.map Prod.fst), v.foldl (fun a x => a ||| x.2) 0)
  else if isInt then
    match kind with
    | 0 => ((l.foldl (· + ·) 0).toNat, 0)
    | 1 => if l = [] then (0x80000000, 0) else (wrap32 (l.foldl (fun a x => max a x.toInt) (-(2 ^ 31 : Int))), 0)
    | _ => if l = [] then (0x7FFFFFFF, 0) else (wrap32 (l.foldl (fun a x => min a x.toInt) (2 ^ 31 - 1 : Int)), 0)
  else
    let v := l.map fun x => f32In flush x.toNat
    let fl := v.foldl (fun a x => a ||| x.2) 0
    if l = [] then (match kind with
      | 0 => 0
      | 1 => 0xFF800000
      | _ => 0x7F800000, 0)
    else match kind with
      | 0 =>
        let (y, f2) := freeSum flush l.length pick (v.map Prod.fst)
        let (z, f3) := toF32 flush y
        (z, fl ||| f2 ||| f3)
      | _ =>
        let (z, f3) := toF32 flush (extreme (kind == 2) (v.map Prod.fst))
        (z, fl ||| f3)

def opRed (k : KOp) (s : State) : KRes :=
  let a := k.tile k.opb
  let n := k.index (k.e1 % 256)
  let kind := k.mod % 4
  let cols := k.mod / 4 % 2 = 1
  if n < 0 ∨ 32 < n then .stop St.indexRange s
  else
    let line := fun i => (List.range n.toNat).map fun j => if cols then a.at j i else a.at i j
    let res := (List.range 32).map fun i => redElem kind k.flush a.isInt (line i) (Config.free (s.freeCtr + i))
    let t := tileOf (a.isInt || kind == 3) fun r c =>
      if cols then (if r = 0 then BitVec.ofNat 32 (res.getD c (0, 0)).1 else 0)
      else (if c = 0 then BitVec.ofNat 32 (res.getD r (0, 0)).1 else 0)
    .next (fun x => addFlags (res.foldl (fun f p => f ||| p.2) 0) (setTile k.opa t x))
      { s with freeCtr := s.freeCtr + 32 }

/-! ### Layout and sorting (R188 to R196) -/

/-- TRANS (R188). It moves elements as they stand, as ACCMOV does: neither takes them as inputs that R54 flushes, while SEL and SORT do
(DESIGN CHOICE, notes/assumptions/170.md). -/
def opTrans (k : KOp) (s : State) : KRes :=
  let a := k.tile k.opb
  .next (setTile k.opa (tileOf a.isInt fun r c => a.at c r)) s

/-- The view rows an index tile names for the first `n` rows: (tile row, index). -/
def gatherRows (idx : Tile) (n : Nat) : List (Nat × Int) := (List.range n).map fun i => (i, (idx.at i 0).toInt)

/-- The status a GATHER's or SCATTER's operands end the task with (R190, R192, R193): that of an F32 index tile before that of `n`
(DESIGN CHOICE, notes/assumptions/139.md). -/
def gatherStop (idx : Tile) (n : Int) (v : View) : Option Nat :=
  if idx.isInt = false then some St.format
  else if n < 0 ∨ 32 < n then some St.indexRange
  else if (gatherRows idx n.toNat).any fun p => decide ((v.extAt 1 : Int) ≤ p.2) then some St.indexRange
  else none

def opGather (k : KOp) (s : State) : KRes :=
  let v := k.view k.opb
  let idx := k.tile (k.e1 % 256)
  let n := k.index (k.e1 / 256 % 256)
  match gatherStop idx n v with
  | some st => .stop st s
  | none =>
    let rows := if v.empty then [] else
      (gatherRows idx n.toNat).filterMap fun p => if 0 ≤ p.2 then some (p.1, p.2.toNat) else none
    let cols := windowAxis 0 (v.extAt 0)
    withAccess k [{ view := v, runs := v.windowRuns rows cols, write := false }] (fun s =>
      let (t, fl) := loadTile (loadReader k v s) v k.flush rows cols
      .next (fun x => addFlags fl (setTile k.opa t x)) (dropOpReads k.ref 0 s)) s

def opScatter (k : KOp) (s : State) : KRes :=
  let v := k.view k.opa
  let idx := k.tile (k.e1 % 256)
  let n := k.index (k.e1 / 256 % 256)
  if k.viewReadOnly k.opa then .stop St.viewAccess s
  else match gatherStop idx n v with
    | some st => .stop st s
    | none =>
      let rows := if v.empty then [] else
        (gatherRows idx n.toNat).filterMap fun p => if 0 ≤ p.2 then some (p.1, p.2.toNat) else none
      storeTile k v (k.tile k.opb) (storeRule k false 0x3F800000) rows (windowAxis 0 (v.extAt 0)) s

/-- `a` stands after `b` in SORT's order: strictly greater, −0 below +0, NaN after every number (R195). -/
def sortAfter (desc : Bool) (a b : Fv) : Bool :=
  if a.isNan then !b.isNan else if b.isNan then false else if desc then fvBelow a b else fvBelow b a

/-- Stable insertion of an element (R194). -/
def sortInsert (desc : Bool) (x : Fv × Nat) : List (Fv × Nat) → List (Fv × Nat)
  | [] => [x]
  | y :: t => if sortAfter desc x.1 y.1 then y :: sortInsert desc x t else x :: y :: t

/-- Source columns of a row's first `n` elements in sorted order. -/
def sortOrder (desc : Bool) (l : List Fv) : List Nat := (l.zipIdx.foldr (sortInsert desc) []).map Prod.snd

/-- SORT (R194 to R196). Where the destination and the index output name one tile, the index tile stands (DESIGN CHOICE,
notes/assumptions/171.md). -/
def opSort (k : KOp) (s : State) : KRes :=
  let a := k.tile k.opb
  let n := k.index (k.e1 / 256 % 256)
  let desc := k.mod % 2 = 1
  if n < 0 ∨ 32 < n then .stop St.indexRange s
  else
    let flg := (List.range 32).map fun r => (List.range n.toNat).map fun c => tileValue a k.flush r c
    let order := flg.map fun row => sortOrder desc (row.map Prod.fst)
    let src := fun r c => if c < n.toNat then (order.getD r []).getD c c else c
    let t := tileOf a.isInt fun r c =>
      if a.isInt || n.toNat ≤ c then a.at r (src r c)
      else BitVec.ofNat 32 (flushIn k.flush fmtF32 (a.at r (src r c)).toNat).1
    let idx := tileOf true fun r c => BitVec.ofNat 32 (src r c)
    let fl := flg.foldl (fun f row => row.foldl (fun f x => f ||| x.2) f) 0
    .next (fun x =>
      let x := addFlags fl (setTile k.opa t x)
      if isTileArg (k.e1 % 256) then setTile (k.e1 % 256) idx x else x) s

/-! ### CVT (R197 to R199) -/

/-- The scale rules a format permits (R197). -/
def ruleOk (fmt rule : Nat) : Bool :=
  if fmt = 10 then rule == 1 || rule == 2 else if isBlock fmt then rule == 1 else rule == 0

/-- The multiplier of CVT: an index slot's low 32 bits, or 2^v for an immediate v (R198). -/
def cvtMult (k : KOp) (b : Nat) : Nat :=
  match operandOf b with
  | .imm v => (127 + v).toNat * 2 ^ 23
  | _ => intBits 32 (k.index b)

/-- CVT (R197 to R199). A slot in which no view stands counts as F32, so that the rules MAX and MEAN end the task with ST_FORMAT
(DESIGN CHOICE, notes/assumptions/140.md). -/
def opCvt (k : KOp) (s : State) : KRes :=
  let v := k.view k.opb
  let rule := k.e2 % 4
  if k.viewReadOnly k.opb then .stop St.viewAccess s
  else if !ruleOk v.fmt rule then .stop St.format s
  else
    let (rows, cols) := windowOf k v k.e1
    storeTile k v (k.tile k.opa) (storeRule k (rule == 2) (cvtMult k (k.e2 / 256 % 256))) rows cols s

/-! ### The commands -/

def execKTload (m : MRef) (s : State) : Host.Outcome State Fault Refusal := .next (kop m 0x20 opTload s)
def execKTstore (m : MRef) (s : State) : Host.Outcome State Fault Refusal := .next (kop m 0x21 opTstore s)
def execKTfill (m : MRef) (s : State) : Host.Outcome State Fault Refusal := .next (kop m 0x22 opTfill s)
def execKMma (m : MRef) (s : State) : Host.Outcome State Fault Refusal := .next (kop m 0x30 opMma s)
def execKAccmov (m : MRef) (s : State) : Host.Outcome State Fault Refusal := .next (kop m 0x31 opAccmov s)
def execKEbin (m : MRef) (s : State) : Host.Outcome State Fault Refusal := .next (kop m 0x40 opEbin s)
def execKEfma (m : MRef) (s : State) : Host.Outcome State Fault Refusal := .next (kop m 0x41 opEfma s)
def execKEun (m : MRef) (s : State) : Host.Outcome State Fault Refusal := .next (kop m 0x42 opEun s)
def execKCmp (m : MRef) (s : State) : Host.Outcome State Fault Refusal := .next (kop m 0x48 opCmp s)
def execKSel (m : MRef) (s : State) : Host.Outcome State Fault Refusal := .next (kop m 0x49 opSel s)
def execKRed (m : MRef) (s : State) : Host.Outcome State Fault Refusal := .next (kop m 0x50 opRed s)
def execKTrans (m : MRef) (s : State) : Host.Outcome State Fault Refusal := .next (kop m 0x58 opTrans s)
def execKGather (m : MRef) (s : State) : Host.Outcome State Fault Refusal := .next (kop m 0x59 opGather s)
def execKScatter (m : MRef) (s : State) : Host.Outcome State Fault Refusal := .next (kop m 0x5A opScatter s)
def execKSort (m : MRef) (s : State) : Host.Outcome State Fault Refusal := .next (kop m 0x5B opSort s)
def execKCvt (m : MRef) (s : State) : Host.Outcome State Fault Refusal := .next (kop m 0x60 opCvt s)

end Sys2Proof.Machine
end

