-- ==== Sys2Proof/Machine/KernelAsync.lean ====
section
/-!
DEFINITION. Asynchronous ops: transfers, messages, collectives, barriers, their completions, and the limits on waits
and on run time (R91, R92, R169 to R174, R200 to R216, R274, R281 to R288).
-/

namespace Sys2Proof.Machine

/-! ### Issuing (R172) -/

/-- Issues an op on a token once the token is idle (R172). -/
def onToken (k : KOp) (token : Nat) (work : State → KRes) (s : State) : KRes :=
  if withToken token k.mem then .wait (.token token) s else work s

/-- Adds an outstanding op to the member. -/
def outAdd (token : Nat) (op : AsyncOp) (x : Member) : Member :=
  { x with out := x.out ++ [{ token := token, order := x.order, op := op }], order := x.order + 1 }

/-- Signals the token of the outstanding op issued at `order` (R172). -/
def outDone (order : Nat) (x : Member) : Member := { x with out := x.out.filter fun o => o.order ≠ order }

/-- The data of an outstanding op has been written: its token signals at once where it went to scratch, and once the
writes are applied where it went to device memory (R172). -/
def outLanded (space order : Nat) (x : Member) : Member :=
  if space < 2 then outDone order x
  else { x with out := x.out.map fun o => if o.order = order then { o with landed := true } else o }

/-- The access of a member by its reference. -/
def accessOf (s : State) (m : MRef) : Option Access :=
  match s.task? m.slot m.task, s.member? m with
  | some t, some x => some { ref := m, core := x.core, replay := t.replays != 0, stack := t.stack }
  | _, _ => none

/-! ### XFER (R91 to R93, R169 to R171) -/

/-- The bytes a copy of one view to another writes: each element's code and each block's scale byte (R169). -/
def copyCells (rs rd : Nat → Byte) (src dst : View) : Tab Byte :=
  let w := fmtBits src.fmt
  let t := (src.bitList.zip dst.bitList).foldl (fun t p => writeCode rd p.2 w (readCode rs p.1 w) t) []
  (src.scaleList.zip dst.scaleList).foldl (fun t p => Tab.put p.2 (rs p.1) t) t

/-- The status XFER's views end the task with (R143, R169, R170): that of a read-only view first, then ST_VIEW_SPACE, then
ST_VIEW_SHAPE (DESIGN CHOICE, notes/assumptions/139.md). -/
def xferStop (k : KOp) (dst src : View) : Option Nat :=
  if k.viewReadOnly k.opa then some St.viewAccess
  else if 2 ≤ dst.space ∧ 2 ≤ src.space then some St.viewSpace
  else if (List.range 4).any fun d => dst.extAt d ≠ src.extAt d then some St.viewShape
  else if dst.fmt ≠ src.fmt then some St.viewShape
  else none

/-- A slot in which no view stands has no format of its own, so that R169 compares none: it takes that of the other view
(notes/assumptions/140.md). -/
def alignEmpty (declared : Bool) (v other : View) : View := if declared then v else { v with fmt := other.fmt }

/-- A byte of what the lighter has fetched. -/
def fetched (t : Tab Byte) (i : Nat) : Byte := Tab.getD 0 i t

def opXfer (k : KOp) (s : State) : KRes :=
  let dst0 := k.view k.opa
  let src0 := k.view k.opb
  let dst := alignEmpty (k.declared k.opa) dst0 src0
  let src := alignEmpty (k.declared k.opb) src0 dst0
  match xferStop k dst src with
  | some st => .stop st s
  | none =>
    onToken k (k.e1 % 16) (fun s =>
      issueAccess k [{ view := src, runs := src.runs, write := false }, { view := dst, runs := dst.runs, write := true }]
        (fun s =>
          let token := k.e1 % 16
          let s :=
            if 2 ≤ src.space then coreReads k.mem.core (.xfer k.ref token) (blocksOf src.runs) s
            else if 2 ≤ dst.space then
              let (rd, s) := viewReader k dst s
              let (t, s) := lighterFetch k.mem.core src.runs s
              writeSpace k.access 2 (.xfer k.ref token) (copyCells (fetched t) rd src dst) s
            else s
          .next (outAdd token (.xfer dst src)) s) s) s

/-- A byte reader of a view that an op of the lighter reads: scratch through the lighter side of the port, device memory as a task reads
it; the bytes of a remote buffer have been fetched for the op `n` (R93, R367, R548). -/
def lighterReader (a : Access) (n : Nat) (v : View) (s : State) : (Nat → Byte) × State :=
  if v.space < 2 then
    let (t, s) := lighterFetch a.core v.runs s
    (fetched t, s)
  else if viewRemote s v then (readByte (opReads s a.ref n), s)
  else (spaceByte s a v 0, s)

/-- The reads of a transfer. -/
def xferReads (s : State) (m : MRef) (token : Nat) : List ReadReq :=
  (s.mem.reads.filter fun r => r.2.dest == .xfer m token).map Prod.snd

/-- A transfer's data has landed: every response has reached the core and no write of it is still on its way. -/
def xferLanded (s : State) (m : MRef) (token : Nat) : Bool :=
  (xferReads s m token).all (fun r => r.landed) && !writesPending s (.xfer m token)

/-- The earliest outstanding transfer of a member, the only one whose token may signal (R91). -/
def firstXfer (x : Member) : Option Outstanding :=
  x.out.find? fun o => match o.op with
    | .xfer _ _ => true
    | _ => false

/-- A message or collective whose data went to device memory signals once its writes are applied (R172). -/
def landedDone (m : MRef) (token : Nat) (x : Member) (s : State) : State :=
  match x.out.find? fun o => o.token == token && o.landed with
  | some o => if writesPending s (.xfer m token) then s else s.updMember m (outDone o.order)
  | none => s

/-- XFER_DONE: the data lands in scratch and the token signals in issue order (R91, R92, R172); data from a poisoned line ends the task
(R523). -/
def xferDoneStep (m : MRef) (token : Nat) (s : State) : State :=
  match s.member? m, accessOf s m with
  | some x, some a =>
    match firstXfer x with
    | some { token := tk, order := ord, op := .xfer dst src, .. } =>
      if tk = token then
        if xferLanded s m token then
          let l := xferReads s m token
          if l.any ReadReq.poisoned then stopMember m St.memPoison s
          else
          let (t, s) := if 2 ≤ src.space then ([], s) else lighterFetch a.core src.runs s
          let rs := fun (i : Nat) =>
            if 2 ≤ src.space then
              match preImageOf s a src (pageOf i) with
              | some p => Tab.getD 0 (i % 65536) p.cells
              | none => readByte l i
            else fetched t i
          let s : State := if dst.space < 2 then
              lighterWrite a.core (copyCells rs (spaceByte s a dst 0) src dst) s
            else s
          let s : State := { s with mem.reads := s.mem.reads.filter fun r => r.2.dest != .xfer m token }
          s.updMember m (outDone ord)
        else s
      else landedDone m token x s
    | _ => landedDone m token x s
  | _, _ => s

def execXferDone (m : MRef) (token : Nat) (s : State) : Host.Outcome State Fault Refusal := .next (xferDoneStep m token s)

/-- WAIT (R172, R174). -/
def opWait (k : KOp) (s : State) : KRes :=
  if withToken (k.opa % 16) k.mem then .wait (.token (k.opa % 16)) s else .next id s

/-! ### Messages between members (R200 to R206, R281 to R288) -/

/-- The task an op of SEND or RECV names, or the status that ends the task (R201, R281, R282, R284). -/
def peerOf (s : State) (k : KOp) (rank : Int) : Nat ⊕ (Nat × Task) :=
  let named : Nat ⊕ (Nat × Task) :=
    if k.mod % 2 = 0 then .inr (k.ref.task, k.t)
    else if !k.external then .inl St.external
    else match s.task? k.ref.slot (k.e2 % 2 ^ 20) with
      | none => .inl St.external
      | some t =>
        if t.info.cogroup = 0 ∨ t.info.cogroup ≠ k.t.info.cogroup then .inl St.external
        else if t.phase == .ended && t.status != St.ok then .inl St.rank
        else .inr (k.e2 % 2 ^ 20, t)
  match named with
  | .inl st => .inl st
  | .inr (n, t) => if rank < 0 ∨ (t.info.gang : Int) ≤ rank then .inl St.rank else .inr (n, t)

def tagOf (k : KOp) : Nat := bitsOf k.e1 19 4

/-- The number by which the scheduler keys a role. -/
def roleKey (m : MRef) : Nat := (m.slot * 2 ^ 20 + m.task) * 128 + m.rank

/-- The generation of a role as the scheduler holds it, across the graphs that its slot has held (R285). -/
def roleGen (s : State) (m : MRef) : Nat := Tab.getD 0 (roleKey m) s.work.roleGens

/-- The number of bytes a view holds. -/
def View.byteSize (v : View) : Nat :=
  if v.empty then 0 else (v.extAt 0 * v.extAt 1 * v.extAt 2 * v.extAt 3 * fmtBits v.fmt + 7) / 8

/-- The earliest outstanding RECV of a member that a message matches (R202). -/
def recvFor (x : Member) (g : Msg) : Option Outstanding :=
  x.out.find? fun o => match o.op with
    | .recv _ slot task rank tag _ => !o.landed && slot == g.src.slot && task == g.src.task && rank == g.src.rank && tag == g.tag
    | _ => false

/-- Two messages come from one attempt of one task (R286). -/
def sameAttempt (a b : Msg) : Bool := a.src == b.src && a.graph == b.graph && a.serial == b.serial && a.fails == b.fails

/-- Whether an earlier unmatched message of the same attempt stands before one from the same source with the same tag (R202, R286). -/
def earlierMsg (s : State) (n : Nat) (g : Msg) : Bool :=
  s.work.msgs.any fun p => p.1 ≠ n && sameAttempt p.2 g && p.2.dst == g.dst && p.2.tag == g.tag && p.2.order < g.order

/-- The task that sent a message, while its graph is still resident. -/
def senderTask (s : State) (g : Msg) : Option Task :=
  match s.graph? g.src.slot with
  | some x => if x.order = g.graph then Tab.find? g.src.task x.tasks else none
  | none => none

/-- The sender's attempt has been abandoned by a rollback: its task has been reset, or stands in another attempt (R286, R288). -/
def attemptAbandoned (s : State) (g : Msg) : Bool :=
  match senderTask s g with
  | some t => t.attempt != g.serial || t.replays != g.fails || t.phase == .image || t.phase == .admitted
  | none => false

/-- Signals the token of a SEND (R172). -/
def signalSend (s : State) (n : Nat) (g : Msg) : State :=
  if (senderTask s g).isSome && !attemptAbandoned s g then
    s.updMember g.src fun x => { x with out := x.out.filter fun o => match o.op with
      | .send _ i => i ≠ n
      | _ => true }
  else s

/-- Removes a message. -/
def dropMsg (n : Nat) (s : State) : State := { s with work.msgs := Tab.del n s.work.msgs }

/-- A message waits for a RECV. -/
def parkMsg (n : Nat) (g : Msg) (s : State) : State :=
  { s with work.msgs := Tab.put n { g with stage := .waiting } s.work.msgs }

/-- A message that has arrived meets its RECV: the bytes land, both tokens signal; a message larger than the view ends
the receiver's task (R202, R203). Without a RECV it waits. -/
def landMsg (n : Nat) (g : Msg) (s : State) : State :=
  match s.member? g.dst, accessOf s g.dst with
  | some x, some a =>
    if earlierMsg s n g then parkMsg n g s
    else match recvFor x g with
      | none => parkMsg n g s
      | some o =>
        match o.op with
        | .recv v _ _ _ _ _ =>
          let s := dropMsg n (signalSend s n g)
          if v.byteSize < g.body.length then stopMember g.dst St.recvSize s
          else
            let cells := fillView (spaceByte s a v 0) v g.body
            (landSpace a v.space (.xfer g.dst o.token) cells s).updMember g.dst (outLanded v.space o.order)
        | _ => s
  | _, _ => s

/-- The earliest message that waits at a member for a RECV that now stands (R202). -/
def nextMatch (m : MRef) (s : State) : Option (Nat × Msg) :=
  List.find? (fun p => p.2.dst == m && p.2.stage == .waiting && !earlierMsg s p.1 p.2 &&
      (match s.member? m with
        | some x => (recvFor x p.2).isSome
        | none => false)) s.work.msgs

/-- Every waiting message that has a RECV is delivered, one after the other: each may be what the next one waited for (R202). -/
def matchWaiting (m : MRef) : Nat → State → State
  | 0, s => s
  | fuel + 1, s =>
    match nextMatch m s with
    | some p => matchWaiting m fuel (landMsg p.1 p.2 s)
    | none => s

/-- A message is delivered, and then the messages it stood before. -/
def deliver (n : Nat) (g : Msg) (s : State) : State := matchWaiting g.dst s.work.msgs.length (landMsg n g s)

/-- A message is gone: those that it stood before may meet their RECVs (R202). -/
def afterDrop (g : Msg) (s : State) : State := matchWaiting g.dst s.work.msgs.length s

def opSend (k : KOp) (s : State) : KRes :=
  let v := k.view k.opa
  let rank := k.index k.opb
  match peerOf s k rank with
  | .inl st => .stop st s
  | .inr (task, t) =>
    onToken k (k.e1 % 16) (fun s =>
      let l : List Touch := [{ view := v, runs := v.runs, write := false }]
      issueAccess k l (withRemote k 0 l fun s =>
        let (rd, s) := lighterReader k.access 0 v s
        let s := dropOpReads k.ref 0 s
        let n := s.work.msgNo
        let dst : MRef := { slot := k.ref.slot, task := task, rank := rank.toNat }
        let g : Msg :=
          { src := k.ref, dst := dst, gen := roleGen s dst, serial := k.t.attempt, fails := k.t.replays, graph := k.g.order
            tag := tagOf k, token := k.e1 % 16, order := k.mem.order, stamp := none
            core := ((Tab.find? dst.rank t.members).map Member.core).getD (128 * t.stack)
            body := packCodes (fmtBits v.fmt) (viewBits rd v) }
        let (st, s) := issueStamp k.t.stack (.message n) s
        .next (outAdd (k.e1 % 16) (.send v n))
          (launchMsg k.mem.core n { g with stamp := st } { s with work.msgNo := n + 1 })) s) s

def opRecv (k : KOp) (s : State) : KRes :=
  let v := k.view k.opa
  let rank := k.index k.opb
  if k.viewReadOnly k.opa then .stop St.viewAccess s
  else match peerOf s k rank with
    | .inl st => .stop st s
    | .inr (task, _) =>
      onToken k (k.e1 % 16) (fun s =>
        issueAccess k [{ view := v, runs := v.runs, write := true }] (fun s =>
          .next (outAdd (k.e1 % 16) (.recv v k.ref.slot task rank.toNat (tagOf k) k.mem.order)) s) s) s

/-- The core a message went to holds its destination role: the role is bound to that core with this generation (R285, R287). A core
holds a role until the task ends, a member that has reached END included (DESIGN CHOICE, notes/assumptions/141.md). -/
def roleHeld (s : State) (g : Msg) : Bool :=
  match s.task? g.dst.slot g.dst.task, s.member? g.dst with
  | some t, some x => t.phase == .running && x.core == g.core && roleGen s g.dst == g.gen
  | _, _ => false

/-- A core does not accept a message: it returns it to the scheduler and counts it (R287). -/
def returnMsg (n : Nat) (g : Msg) (s : State) : State :=
  let s := s.updCore g.core fun x => { x with staleRole := satInc x.staleRole }
  { s with work.msgs := Tab.put n { g with stage := .returned } s.work.msgs }

/-- A message that a RECV takes is larger than its view, at a member whose gang stopped in this core cycle (R203, R220). -/
def recvStops (m : MRef) (v : View) (g : Msg) (s : State) : State :=
  if v.byteSize < g.body.length then lowerStatus m St.recvSize s else s

/-- A message arrives in the core cycle in which its receiver's gang stopped: with the RECV that stood there it may be the lower rank's
status (R203, R220). -/
def lateArrival (n : Nat) (g : Msg) (s : State) : State :=
  match s.task? g.dst.slot g.dst.task, s.member? g.dst with
  | some t, some x =>
    if stopsWith s g.dst t && !x.ended && x.core == g.core && roleGen s g.dst == g.gen && !earlierMsg s n g then
      match recvFor (asBefore x) g with
      | some { op := .recv v _ _ _ _ _, .. } => recvStops g.dst v g s
      | _ => s
    else s
  | _, _ => s

/-- A RECV that a member of a lower rank issues in the core cycle in which its gang stopped meets a message that waits for it (R202, R203,
R220). -/
def lateRecv (m : MRef) (s : State) : State :=
  match stoppedOp s m with
  | none => s
  | some k =>
    if opcOf k.word = 0x71 then
      match opRecv k s with
      | .next f _ =>
        let x := f k.mem
        match List.find? (fun p => p.2.dst == m && p.2.stage == .waiting && !earlierMsg s p.1 p.2 && (recvFor x p.2).isSome) s.work.msgs with
        | some (_, g) => match recvFor x g with
          | some { op := .recv v _ _ _ _ _, .. } => recvStops m v g s
          | _ => s
        | none => s
      | .jump _ _ _ | .wait _ _ | .stop _ _ => s
    else s

/-- MSG_ARRIVAL: a message has reached the core it was sent to. It is received later than its stamp (R322). A core that
does not hold the role returns it (R287). -/
def msgArrivalStep (n : Nat) (s : State) : State :=
  match Tab.find? n s.work.msgs with
  | none => s
  | some g =>
    if g.stage != .here || g.stamp.all (fun st => decide (s.ft ≤ stampInstant s.ft st)) then s
    else if roleHeld s g then deliver n g s
    else returnMsg n g (lateArrival n g s)

def execMsgArrival (msg : Nat) (s : State) : Host.Outcome State Fault Refusal := .next (msgArrivalStep msg s)

/-- STALE_MESSAGE_HANDLE (R288): a message of an attempt that a rollback abandoned is discarded; one whose destination task runs is sent
again to the core and generation that now hold the role; one whose destination task has ended, with its graph or without, is discarded and
counted, and its token signals. -/
def staleMessageStep (n : Nat) (s : State) : State :=
  match Tab.find? n s.work.msgs with
  | none => s
  | some g =>
    if g.stage != .returned then s
    else if attemptAbandoned s g then afterDrop g (dropMsg n s)
    else
      let discard := fun (s : State) =>
        afterDrop g (dropMsg n (signalSend { s with work.discarded := satInc s.work.discarded } n g))
      match (if (senderTask s g).isSome then s.task? g.dst.slot g.dst.task else none) with
      | none => discard s
      | some t =>
        if t.phase == .ended then discard s
        else if t.phase == .running then
          match s.member? g.dst with
          | some x =>
            let from' := ((s.member? g.src).map Member.core).getD g.core
            launchMsg from' n { g with stage := .flight, gen := roleGen s g.dst, core := x.core } s
          | none => s
        else s

def execStaleMessageHandle (msg : Nat) (s : State) : Host.Outcome State Fault Refusal := .next (staleMessageStep msg s)

/-! ### Collectives (R207 to R214) -/

/-- The format a reduction type matches (R208). -/
def collFmt (type : Nat) : Nat := if type = 0 then 0 else if type = 1 then 1 else 11

/-- The outermost dimension of a view. -/
def View.outer (v : View) : Nat := v.rank - 1

/-- Extents below the outermost dimension agree. -/
def innerExtsEq (a b : View) : Bool := a.rank == b.rank && (List.range a.outer).all fun d => a.extAt d == b.extAt d

/-- The status COLL's operands end the task with (R143, R201, R208, R209, R275), in an order that the manual does not give
(DESIGN CHOICE, notes/assumptions/139.md); ST_COLL_MISMATCH is tested after them. A slot in which no view stands has format F32
(DESIGN CHOICE, notes/assumptions/140.md). -/
def collStop (k : KOp) (kind : Nat) (p q : View) (type : Nat) (root : Int) : Option Nat :=
  let gang := k.t.info.gang
  if !k.collective then some St.notCollective
  else if (kind = 1 ∨ kind = 2) ∧ (root < 0 ∨ (gang : Int) ≤ root) then some St.rank
  else if ((kind = 0 ∨ (kind = 2 ∧ (k.ref.rank : Int) ≠ root) ∨ (kind = 1 ∧ (k.ref.rank : Int) = root)) ∧ k.viewReadOnly k.opa)
      ∨ (3 ≤ kind ∧ k.viewReadOnly (k.e2 % 256)) then some St.viewAccess
  else if p.fmt ≠ collFmt type ∨ (3 ≤ kind ∧ q.fmt ≠ collFmt type) then some St.format
  else if kind = 3 ∧ (!innerExtsEq p q ∨ q.extAt q.outer ≠ gang * p.extAt p.outer) then some St.viewShape
  else if kind = 4 ∧ (!innerExtsEq p q ∨ p.extAt p.outer ≠ gang * q.extAt q.outer) then some St.viewShape
  else none

/-- What R210 compares at a place in the sequence: op, kind or id, type, root, extents. -/
def collSig (kind type : Nat) (root : Int) (p q : View) : Nat × Nat × Nat × Nat × List Nat :=
  (0, kind, type, intBits 64 root,
    (List.range 4).map p.extAt ++ if 3 ≤ kind then (List.range 4).map q.extAt else [])

/-- Another member has something else at this place of the sequence, or has ended (R210, R211). -/
def seqBreaks (k : KOp) (sig : Nat × Nat × Nat × Nat × List Nat) : Bool :=
  othersEnded k || k.t.members.any fun p => p.1 ≠ k.ref.rank && match p.2.seq[k.mem.place]? with
    | some x => x != sig
    | none => false

/-- Notes a COLL or BARRIER in the member's sequence. -/
def seqAdd (sig : Nat × Nat × Nat × Nat × List Nat) (x : Member) : Member :=
  { x with seq := x.seq ++ [sig], place := x.place + 1 }

/-- Outstanding COLL ops of a member. -/
def collOut (x : Member) : List Outstanding := x.out.filter fun o => match o.op with
  | .coll _ _ _ _ _ _ => true
  | _ => false

/-- What COLL reads and writes at a member (R207). -/
def collTouches (rank kind : Nat) (root : Int) (p q : View) : List Touch :=
  let read := if kind = 2 ∧ (rank : Int) ≠ root then [] else [{ view := p, runs := p.runs, write := false }]
  if kind = 0 ∨ (kind = 1 ∧ (rank : Int) = root) ∨ (kind = 2 ∧ (rank : Int) ≠ root) then
    read ++ [{ view := p, runs := p.runs, write := true }]
  else if 3 ≤ kind then read ++ [{ view := q, runs := q.runs, write := true }]
  else read

/-- The codes of a view's elements in row-major order. -/
def viewCodes (a : Access) (n : Nat) (v : View) (s : State) : List Nat × State :=
  let (rd, s) := lighterReader a n v s
  (viewBits rd v, s)

/-- Writes codes into a view in row-major order. -/
def putCodes (a : Access) (v : View) (orig : WriteFrom) (l : List Nat) (s : State) : State :=
  let w := fmtBits v.fmt
  let rd := spaceByte s a { v with readOnly := false } 0
  landSpace a v.space orig ((v.bitList.zip l).foldl (fun t p => writeCode rd p.1 w p.2 t) []) s

/-- A gang of one completes every COLL at once: ALLGATHER and REDUCESCATTER copy the primary view to the second (R212). -/
def collSingle (k : KOp) (token kind : Nat) (p q : View) (s : State) : State :=
  if 3 ≤ kind then
    let (codes, s) := viewCodes k.access (k.mem.order + 1) p s
    putCodes k.access q (.xfer k.ref token) codes (dropOpReads k.ref (k.mem.order + 1) s)
  else s

/-- What a COLL of a gang of one leaves at its token: it signals at once, or once its writes to device memory are applied
(R172, R212). -/
def singleOut (k : KOp) (token kind : Nat) (p q : View) (type root : Nat) (x : Member) : Member :=
  outLanded (if 3 ≤ kind then q.space else 0) k.mem.order (outAdd token (.coll kind p q type root x.place) x)

def opColl (k : KOp) (s : State) : KRes :=
  let kind := k.mod % 8
  let p := k.view k.opa
  let q := if 3 ≤ kind then k.view (k.e2 % 256) else emptyView
  let type := k.e1 / 16 % 4
  let root := k.index k.opb
  let sig := collSig kind type root p q
  match collStop k kind p q type root with
  | some st => .stop st s
  | none =>
    if seqBreaks k sig then .stop St.collMismatch s
    else
      onToken k (k.e1 % 16) (fun s =>
        if 4 ≤ (collOut k.mem).length then
          .wait (.token (((collOut k.mem).head?.map Outstanding.token).getD 0)) s
        else
          let l := collTouches k.ref.rank kind root p q
          issueAccess k l (withRemote k (k.mem.order + 1) l fun s =>
            if k.t.info.gang = 1 then
              .next (fun x => seqAdd sig (singleOut k (k.e1 % 16) kind p q type root.toNat x)) (collSingle k (k.e1 % 16) kind p q s)
            else .next (fun x => seqAdd sig (outAdd (k.e1 % 16) (.coll kind p q type root.toNat x.place) x)) s) s) s

/-- The outstanding COLL of a member at a place. -/
def collAt (x : Member) (place : Nat) : Option Outstanding :=
  x.out.find? fun o => match o.op with
    | .coll _ _ _ _ _ p => p == place && !o.landed
    | _ => false

/-- The group, of its task's four, of an outstanding COLL: the member's COLLs take them in turn (R276; notes/assumptions/150.md). -/
def collGroup (t : Task) (x : Member) (o : Outstanding) : Option Nat :=
  match o.op with
  | .coll _ _ _ _ _ place => t.groups[((x.seq.take place).filter fun q => q.1 == 0).length % 4]?
  | .xfer _ _ | .send _ _ | .recv _ _ _ _ _ _ => none

/-! ### How a COLL is lowered (R121 to R124, R213, R437 to R441; notes/assumptions/175.md) -/

/-- One member's part in a collective: its rank, the member, and the outstanding op. -/
abbrev Part := Nat × Member × Outstanding

/-- Every member's part in the COLL at a place, where all have issued it. -/
def collParts (t : Task) (place : Nat) : List Part :=
  let l := t.members.filterMap fun p => (collAt p.2 place).map fun o => (p.1, p.2, o)
  if l.length = t.members.length && l.length = t.info.gang then l else []

/-- The access of a member of a task. -/
def partAccess (slot task : Nat) (t : Task) (p : Part) : Access :=
  { ref := { slot := slot, task := task, rank := p.1 }, core := p.2.1.core, replay := t.replays != 0, stack := t.stack }

/-- Kind, views, type and root of a COLL. -/
def collArgs (o : Outstanding) : Nat × View × View × Nat × Nat :=
  match o.op with
  | .coll kind p q type root _ => (kind, p, q, type, root)
  | .xfer _ _ | .send _ _ | .recv _ _ _ _ _ _ => (0, emptyView, emptyView, 0, 0)

/-- The view that a COLL writes at a member, if it writes one there (R207). -/
def collDest (p : Part) : Option View :=
  let (kind, v, w, _, root) := collArgs p.2.2
  if kind = 0 then some v
  else if kind = 1 then (if p.1 = root then some v else none)
  else if kind = 2 then (if p.1 = root then none else some v)
  else some w

/-- Runs of consecutive elements of a view, in row-major order, whose bytes follow one another and begin in one 256-byte block: the first
element's number, how many, and the first byte's address. -/
def View.pieces (v : View) : List (Nat × Nat × Nat) :=
  let w := fmtBits v.fmt / 8
  (v.bitList.zipIdx.foldl (fun (l : List (Nat × Nat × Nat)) p =>
    let a := p.1 / 8
    match l with
    | (f, n, b) :: t => if b + n * w = a ∧ a / 256 = b / 256 then (f, n + 1, b) :: t else (p.2, 1, a) :: l
    | [] => [(p.2, 1, a)]) []).reverse

/-- One round of a lowered sum: every member sends its elements of one piece of one member's view. -/
structure SumRound where
  rank  : Nat
  first : Nat
  count : Nat
  addr  : Nat
deriving DecidableEq, Repr

/-- The rounds of a collective that sums: for each member whose view takes a sum, the pieces of that view. -/
def collRounds (l : List Part) : List SumRound :=
  l.flatMap fun p =>
    let kind := (collArgs p.2.2).1
    if kind = 2 ∨ kind = 3 then []
    else match collDest p with
      | some v => v.pieces.map fun x => { rank := p.1, first := x.1, count := x.2.1, addr := x.2.2 }
      | none => []

/-- Where the partials of a sum meet (R441). -/
inductive SumAt where
  | table
  | stackBasin
  | memBasin
deriving DecidableEq, Repr

/-- Firmware's choice (R441). -/
def sumAt (l : List Part) : SumAt :=
  let big := l.any fun p => decide (16384 < (collArgs p.2.2).2.1.byteSize)
  let rootDevice := l.any fun p => (collArgs p.2.2).1 = 1 ∧ p.1 = (collArgs p.2.2).2.2.2.2 ∧ 2 ≤ (collArgs p.2.2).2.1.space
  if rootDevice then .memBasin else if big then .stackBasin else .table

/-- What a member contributes to a round: its elements at the round's place in the sum (R207). -/
def contribution (a : Access) (p : Part) (r : SumRound) (s : State) : List Nat × State :=
  let (kind, v, w, _, _) := collArgs p.2.2
  let off := if kind = 4 then r.rank * w.bitList.length else 0
  let bits := (v.bitList.drop (off + r.first)).take r.count
  let n := fmtBits v.fmt
  let (rd, s) :=
    if v.space < 2 then
      let (t, s) := lighterFetch a.core (bits.map fun b => elemRun b n) s
      (fetched t, s)
    else lighterReader a (p.2.2.order + 1) v s
  (bits.map fun b => readCode rd b n, s)

/-- The REDUCE packet of a contribution (R409). -/
def reducePacket (at' : SumAt) (p : Part) (own : Owner) (stack group gang dest : Nat) (flush : Bool) (r : SumRound) (l : List Nat) : TxPacket :=
  let type := (collArgs p.2.2).2.2.2.1
  let d := elemBytes type l
  { owner := own
    pkt := { stamp := 0, addr := r.addr, kind := 4, vc := 3
             destBerth := if at' = .memBasin then 16 + memBerthOf r.addr else stack
             destUnit := if at' = .memBasin then 0 else dest % 128, srcBerth := stack, srcUnit := p.2.1.core % 128
             len := d.length, tag := reduceTag type flush group 1 gang, payload := d } }

/-- A new sum of a group begins at a destination: what an earlier one left there is over (R124, R440). -/
def freshSum (at' : SumAt) (stack group core addr : Nat) (s : State) : State :=
  match at' with
  | .table => s.updRouter core fun q => { q with complete := q.complete.erase group }
  | .stackBasin => { s with base.finished := s.base.finished.filter (· ≠ (stack, group, addr, stack)) }
  | .memBasin => { s with base.finished := s.base.finished.filter (· ≠ (16 + memBerthOf addr, group, addr, stack)) }

/-- The round under way of a collective. -/
def currentRound (l : List Part) : Option SumRound := (collRounds l)[((l.head?.map fun p => p.2.2.piece).getD 0)]?

/-- The core of the member of a rank. -/
def partCore (l : List Part) (rank : Nat) : Nat := ((Tab.find? rank l).map fun p => p.1.core).getD 0

/-- Every member's lighter sends its contribution to the round under way (R93, R121, R441). -/
def sendRound (slot task place : Nat) (s : State) : State :=
  match s.task? slot task with
  | none => s
  | some t =>
    let l := collParts t place
    match l.head?.bind fun p => collGroup t p.2.1 p.2.2, currentRound l with
    | some g, some r =>
      let w := sumAt l
      let dest := partCore l r.rank
      l.foldl (fun s p =>
        let a := partAccess slot task t p
        let (c, s) := contribution a p r s
        sendMesh p.2.1.core (w ≠ .table)
          (reducePacket w p (.part a.ref p.2.1.gen p.2.2.order) t.stack g t.info.gang dest (t.info.flags.testBit 3) r c) s)
        (freshSum w t.stack g dest r.addr s)
    | _, _ => s

/-- The packets that carry changed bytes from a core to a core of its stack: WRITEs of at most 256 bytes (R93, R409, R410). -/
def partPackets (own : Owner) (src dst : Nat) (cells : Tab Byte) : List TxPacket :=
  (cellBlocks cells).flatMap fun b => (cellWrite 0 .other b).runs.map fun r =>
    { owner := own
      pkt := { stamp := 0, addr := r.1, kind := 0, vc := 1, destBerth := dst / 128, destUnit := dst % 128, srcBerth := src / 128
               srcUnit := src % 128, len := r.2.length, tag := 0, payload := r.2 } }

/-- Changes the outstanding op of a member that it issued at `order`. -/
def outUpd (order : Nat) (f : Outstanding → Outstanding) (x : Member) : Member :=
  { x with out := x.out.map fun o => if o.order = order then f o else o }

/-- The cells that codes make of elements of a view, by the elements' bit addresses. -/
def codeCells (v : View) (bits l : List Nat) : Tab Byte :=
  (bits.zip l).foldl (fun t p => writeCode (fun _ => 0) p.1 (fmtBits v.fmt) p.2 t) []

/-- One member's data goes to another: to its scratch over the mesh, to device memory as writes (R93, R207). -/
def sendShare (slot task : Nat) (t : Task) (src dst : Part) (codes : List Nat) (s : State) : State :=
  match collDest dst with
  | none => s
  | some v =>
    let kind := (collArgs dst.2.2).1
    let cells := codeCells v (if kind = 3 then v.bitList.drop (src.1 * codes.length) else v.bitList) codes
    let a := partAccess slot task t dst
    if 2 ≤ v.space then coreSend src.2.1.core (.xfer a.ref dst.2.2.token) cells s
    else if src.1 = dst.1 then lighterWrite dst.2.1.core cells s
    else
      let l := partPackets (.part a.ref dst.2.1.gen dst.2.2.order) src.2.1.core dst.2.1.core cells
      lighterSend src.2.1.core l (s.updMember a.ref (outUpd dst.2.2.order fun o => { o with left := o.left + l.length }))

/-- BROADCAST and ALLGATHER: each member with data to give sends it to every member that takes it (R207). -/
def sendShares (slot task place : Nat) (s : State) : State :=
  match s.task? slot task with
  | none => s
  | some t =>
    let l := collParts t place
    (l.filter fun p => (collArgs p.2.2).1 = 3 ∨ p.1 = (collArgs p.2.2).2.2.2.2).foldl (fun s p =>
      let (codes, s) := viewCodes (partAccess slot task t p) (p.2.2.order + 1) (collArgs p.2.2).2.1 s
      l.foldl (fun s d => sendShare slot task t p d codes s) s) s

/-- Every member has issued the COLL at a place: it begins (R207, R213). -/
def beginColl (slot task place : Nat) (s : State) : State :=
  match s.task? slot task with
  | none => s
  | some t =>
    let l := collParts t place
    if t.phase ≠ .running ∨ t.info.gang < 2 ∨ l = [] ∨ l.any (fun p => p.2.2.begun) then s
    else
      let s := l.foldl (fun s p => s.updMember (partAccess slot task t p).ref (outUpd p.2.2.order fun o => { o with begun := true })) s
      if l.any fun p => (collArgs p.2.2).1 = 2 ∨ (collArgs p.2.2).1 = 3 then sendShares slot task place s
      else sendRound slot task place s

/-- The COLLs that a member's issue may have completed begin. -/
def beginColls (m : MRef) (s : State) : State :=
  match s.member? m with
  | none => s
  | some x => (collOut x).foldl (fun s o => match o.op with
      | .coll _ _ _ _ _ place => beginColl m.slot m.task place s
      | .xfer _ _ | .send _ _ | .recv _ _ _ _ _ _ => s) s

/-- A collective is over: every member's token signals, at once, or where its view stands in device memory once the writes are applied
(R123, R172, R213, R439). -/
def signalColl (slot task place : Nat) (s : State) : State :=
  match s.task? slot task with
  | none => s
  | some t => (collParts t place).foldl (fun s p =>
      (dropOpReads (partAccess slot task t p).ref (p.2.2.order + 1) s).updMember (partAccess slot task t p).ref (outLanded (((collDest p).map View.space).getD 0) p.2.2.order)) s

/-- A round's sum has gone to its place: the next round begins, or the collective is over (R123, R439). -/
def roundDone (slot task place : Nat) (s : State) : State :=
  match s.task? slot task with
  | none => s
  | some t =>
    let l := collParts t place
    let n := (l.head?.map fun p => p.2.2.piece).getD 0
    if (collRounds l).length ≤ n + 1 then signalColl slot task place s
    else sendRound slot task place
      (l.foldl (fun s p => s.updMember (partAccess slot task t p).ref (outUpd p.2.2.order fun o => { o with piece := n + 1 })) s)

/-- A round's sum is written to the elements of its piece at its member (R123, R439). -/
def landRound (slot task place : Nat) (sum : List Nat) (s : State) : State :=
  match s.task? slot task with
  | none => s
  | some t =>
    let l := collParts t place
    match currentRound l with
    | none => s
    | some r => match l.find? fun p => p.1 == r.rank with
      | none => s
      | some p => match collDest p with
        | none => s
        | some v =>
          let a := partAccess slot task t p
          landSpace a v.space (.xfer a.ref p.2.2.token) (codeCells v ((v.bitList.drop r.first).take r.count) sum) s

/-- COLL_DONE of a gang: a BROADCAST or ALLGATHER all of whose data has landed, or a COLL over empty views that every member has issued
(R207, R213). -/
def collDoneGang (slot task place : Nat) (s : State) : State :=
  match s.task? slot task with
  | none => s
  | some t =>
    let l := collParts t place
    if t.phase = .running ∧ l.all (fun p => p.2.2.begun && p.2.2.left == 0) ∧ collRounds l = [] then signalColl slot task place s else s

/-! ### Barriers (R215) -/

def opBarrier (k : KOp) (s : State) : KRes :=
  let id := k.opa % 16
  let sig := (1, id, 0, 0, [])
  if !k.collective then .stop St.notCollective s
  else if seqBreaks k sig then .stop St.collMismatch s
  else
    .wait (.barrier id k.mem.place)
      (s.updMember k.ref (seqAdd sig))

/-- BARRIER_RELEASE: every member stands at the same BARRIER (R215). -/
def barrierReleaseStep (slot task : Nat) (s : State) : State :=
  match s.task? slot task with
  | none => s
  | some t =>
    let first := (t.members.head?.map fun p => p.2.waiting).getD none
    let all := t.members.all fun p => p.2.waiting == first
    match first with
    | some (.barrier _ _) =>
      if t.phase == .running && all && t.members.length == t.info.gang then
        s.updTask slot task fun t =>
          { t with members := t.members.mapVals fun _ x => { x with waiting := none, pc := x.pc + 1 } }
      else s
    | _ => s

def execBarrierRelease (slot task : Nat) (s : State) : Host.Outcome State Fault Refusal :=
  .next (barrierReleaseStep slot task s)

/-! ### Limits (R216, R274, R283) -/

/-- The opcode a member stands at. -/
def opcodeAt (s : State) (g : Graph) (t : Task) (x : Member) : Option Nat :=
  (kernelOf s g t).bind fun k => ((k.opWords.drop x.pc).head?).map opcOf

/-- What a member waits for has not come: its token is not idle, or at END some token is not (R157, R172, R216). -/
def stillWaits (x : Member) : Bool :=
  match x.waiting with
  | some (.token t) => withToken t x
  | some .ending => x.out != []
  | some (.barrier _ _) => true
  | some .read => true
  | some .stamp | none => false

/-- A member has waited since `since` at the latest in BARRIER, COLL, SEND, RECV or WAIT (R216, R283), or has ended by then
(notes/assumptions/43.md). -/
def waitedSince (s : State) (g : Graph) (t : Task) (since : Nat) (x : Member) : Bool :=
  decide (x.waitFrom ≤ since) && (x.ended ||
  (stillWaits x &&
    match opcodeAt s g t x with
    | some o => o == 0x7F || o == 0x78 || o == 0x70 || o == 0x71 || o == 0x24
    | none => false))

/-- The outstanding ops whose token a member waits for: the one it names, or at END every one (R157, R172, R173). -/
def waitedOps (x : Member) : List Outstanding :=
  match x.waiting with
  | some (.token t) => x.out.filter fun o => o.token = t
  | some .ending => x.out
  | _ => []

/-- A member waits on a message to or from another task. -/
def waitsOutside (task : Nat) (s : State) (x : Member) : Bool :=
  (waitedOps x).any fun o => match o.op with
    | .recv _ _ t _ _ _ => t != task
    | .send _ n => match Tab.find? n s.work.msgs with
      | some g => g.dst.task != task
      | none => false
    | _ => false

/-- KERNEL_HANG: every member has waited inside the gang for 2^20 ticks (R216). -/
def kernelHangStep (slot task : Nat) (s : State) : State :=
  match s.graph? slot, s.task? slot task with
  | some g, some t =>
    if t.phase == .running && t.members.any (fun p => !p.2.ended) &&
        t.members.all (fun p => waitedSince s g t (s.ft - 2 ^ 20) p.2 && !waitsOutside task s p.2) && decide (2 ^ 20 ≤ s.ft) then
      endGang slot task St.kernelHang s
    else s
  | _, _ => s

def execKernelHang (slot task : Nat) (s : State) : Host.Outcome State Fault Refusal := .next (kernelHangStep slot task s)

/-- TASK_TIMEOUT: a task of which a member still runs has run for its RUN_LIMIT (R273, R274). -/
def taskTimeoutStep (slot task : Nat) (s : State) : State :=
  match s.task? slot task with
  | none => s
  | some t =>
    match t.startAt with
    | some x =>
      if t.phase == .running && t.members.any (fun p => !p.2.ended) && t.info.runLimit != 0 && decide (x + t.info.runLimit * 2 ^ 12 ≤ s.ft) then
        endGang slot task St.taskTimeout s
      else s
    | none => s

def execTaskTimeout (slot task : Nat) (s : State) : Host.Outcome State Fault Refusal := .next (taskTimeoutStep slot task s)

/-! ### The commands -/

def execKXfer (m : MRef) (s : State) : Host.Outcome State Fault Refusal := .next (kop m 0x23 opXfer s)
def execKWait (m : MRef) (s : State) : Host.Outcome State Fault Refusal := .next (kop m 0x24 opWait s)
def execKSend (m : MRef) (s : State) : Host.Outcome State Fault Refusal := .next (kop m 0x70 opSend s)
def execKRecv (m : MRef) (s : State) : Host.Outcome State Fault Refusal :=
  let s := lateRecv m (kop m 0x71 opRecv s)
  .next (matchWaiting m s.work.msgs.length s)
def execKColl (m : MRef) (s : State) : Host.Outcome State Fault Refusal := .next (beginColls m (kop m 0x78 opColl s))
def execKBarrier (m : MRef) (s : State) : Host.Outcome State Fault Refusal := .next (kop m 0x7F opBarrier s)

end Sys2Proof.Machine
end

