-- ==== Sys2Proof/Machine/Network.lean ====
section
/-!
DEFINITION. The scratch port, the on-die routers, reduction in the network, and the lock chambers (R95 to R125, R341 to
R345, R732, R841). Cycles are core cycles of the stack's clock (R82).
-/

namespace Sys2Proof.Machine

/-! ### The scratch port (R99, R103 to R112) -/

/-- The word that the array reads in the cycle, where it reads one, and the bytes that either side enables. -/
def arrayRead (deferred : Bool) (req lighter : ScratchReq) : Option (Nat × List Nat) :=
  match req, lighter with
  | .read w e, .read v f => some (w, if !deferred && w == v then (e ++ f).eraseDups else e)
  | .read w e, _ => some (w, e)
  | .idle, .read v e => if deferred then none else some (v, e)
  | .write w _, .read v e => if !deferred && w == v then some (v, e) else none
  | _, _ => none

/-- The word that the array writes in the cycle, where it writes one and reads none, and the bytes written. -/
def arrayWrite (deferred : Option (Nat × Tab Byte)) (req lighter : ScratchReq) : Option (Nat × List Nat) :=
  match arrayRead deferred.isSome req lighter, req, deferred, lighter with
  | none, .write w b, _, _ => some (w, b.keys)
  | none, .idle, some d, _ => some (d.1, d.2.keys)
  | none, .idle, none, .write v b => some (v, b.keys)
  | _, _, _, _ => none

/-- SCRATCH_CYCLE (R104). The bytes `erring` of those that the array reads, or where it reads none writes, go wrong in the cycle, and a
read is checked: parity errors roll back the open pound, and their vertical lanes are to be tested (R99, R721). -/
def scratchStep (c : Nat) (coreSide lighter : ScratchReq) (erring : List Nat) (s : State) : State :=
  if scratchLive s c then
    let req := portReq coreSide
    let li := portReq lighter
    let d := (s.core c).deferred
    let wrong := fun (e : List Nat) => e.filter fun b => decide (b < 256) && erring.contains b
    match arrayRead d.isSome req li with
    | some (w, e) =>
      let s := spoilWord c w (wrong e) s
      let bad := badIn s c w e
      if bad = [] then anyCycle c req li s else scratchError c w bad (anyCycle c req li s)
    | none =>
      match arrayWrite d req li with
      | some (w, e) => spoilWord c w (wrong e) (anyCycle c req li s)
      | none => anyCycle c req li s
  else s

def execScratchCycle (core : Nat) (coreSide lighter : ScratchReq) (erring : List Nat) (s : State) :
    Host.Outcome State Fault Refusal :=
  .next (scratchStep core coreSide lighter erring s)

/-! ### Reduction adds (R122) -/

/-- The sum of two elements of a reduction type (0 F32, 1 BF16, 2 I32), and its flags (R54, R74, R122). -/
def reduceAdd (type : Nat) (flush : Bool) (a b : Nat) : Nat × Nat :=
  if type = 2 then ((a + b) % 2 ^ 32, 0)
  else
    let fmt := collFmt type
    let (x, f1) := elemValue fmt flush a
    let (y, f2) := elemValue fmt flush b
    let (z, f3) := addRoundTo fmt flush x y
    let (c, f4) := toFloat .nearest flush fmt z
    (c, f1 ||| f2 ||| f3 ||| f4)

/-- Element-wise sums, and their flags; the shorter list's missing elements add nothing. -/
def reduceElems (type : Nat) (flush : Bool) : List Nat → List Nat → List Nat × Nat
  | a :: l, b :: m =>
    let (c, f) := reduceAdd type flush a b
    let (r, g) := reduceElems type flush l m
    (c :: r, f ||| g)
  | l, [] => (l, 0)
  | [], m => (m, 0)

/-- The running task of a stack that uses a reduction group. -/
def groupTask (s : State) (stack group : Nat) : Option (Nat × Nat) :=
  ((s.work.graphs.flatMap fun g => g.2.tasks.map fun t => (g.1, t.1, t.2)).find? fun x =>
    x.2.2.phase == .running && x.2.2.stack == stack && x.2.2.groups.contains group).map fun x => (x.1, x.2.1)

/-- The flags of a group's adds are its task's (R54, R74, R122). -/
def groupFlags (stack group fl : Nat) (s : State) : State :=
  match groupTask s stack group with
  | some (slot, task) => s.updTask slot task fun t => { t with aflags := t.aflags ||| fl }
  | none => s

/-- A packet returned to the scheduler ends its collective, and the task with it, with a status (R124, R436, R440). -/
def endCollective (stack group status : Nat) (s : State) : State :=
  match groupTask s stack group with
  | some (slot, task) => endGang slot task status s
  | none => s

/-! ### Routers (R113 to R122, R732, R841) -/

/-- The input-queue key. -/
def queueKey (input : Nat) (leg2 : Bool) (vc : Nat) : Nat := 10 * input + 5 * bit leg2 + vc

/-- The neighbour of a router through an output: 0 west, 1 east, 2 north (y − 1), 3 south (y + 1). -/
def neighbour (r out : Nat) : Nat :=
  if out = 0 then r - 1 else if out = 1 then r + 1 else if out = 2 then r - 16 else r + 16

/-- The input at which a neighbour receives what leaves through an output. -/
def inputOf (out : Nat) : Nat := if out % 2 = 0 then out + 1 else out - 1

/-- Dimension order from a router to a destination on its die: x first, then y; 4 is the core (R114). -/
def dimOut (r dst : Nat) : Nat :=
  if dst % 16 < r % 16 then 0 else if r % 16 < dst % 16 then 1
  else if dst % 128 / 16 < r % 128 / 16 then 2 else if r % 128 / 16 < dst % 128 / 16 then 3 else 4

/-- The waypoint of a source and destination, where the route tables give one (R730). -/
def waypoint (s : State) (src dst : Nat) : Option Nat :=
  Tab.find? (src % 128 * 128 + dst % 128) (s.stack (src / 128)).routes

/-- The output to a packet's destination: at its router the core, or the base port (R85, R114). -/
def lastOut (r : Nat) (p : NetPacket) : Nat := if p.toBase && dimOut r p.dst == 4 then 5 else dimOut r p.dst

/-- The output a flit takes at a router, and whether it leaves on the second leg (R732). -/
def outOf (s : State) (r : Nat) (f : Flit) : Nat × Bool :=
  if f.leg2 then (lastOut r f.pkt, true)
  else match waypoint s f.pkt.src f.pkt.dst with
    | some w => if r % 128 = w % 128 then (lastOut r f.pkt, true) else (dimOut r w, false)
    | none => (lastOut r f.pkt, false)

/-- A link from a router through an output crosses a reach boundary (R84, R341). -/
def crosses (r out : Nat) : Bool :=
  let n := neighbour r out
  r % 16 / 4 != n % 16 / 4 || r % 128 / 16 / 4 != n % 128 / 16 / 4

def chamberOf (r out : Nat) : Nat := 4 * r + out

/-- Flits of a channel and leg held for the next router's input buffer: in the buffer, and in the chamber before it. -/
def heldNext (s : State) (r out : Nat) (leg2 : Bool) (vc : Nat) : Nat :=
  (Tab.getD [] (queueKey (inputOf out) leg2 vc) (s.router (neighbour r out)).queues).length +
  ((s.chamber (chamberOf r out)).entries.filter fun e => e.2.pkt.vc = vc ∧ e.2.leg2 = leg2).length

/-- A router holds a credit for a channel at the next router: 8 flits, or 2 on the second leg, and the chamber between them
below 6 entries (R118, R343, R732); a base port must carry traffic (R724). -/
def hasCredit (s : State) (r out : Nat) (leg2 : Bool) (vc : Nat) : Bool :=
  decide (out = 4) || (out == 5 && (portHere r).any fun p => portLive s (r / 128) p) ||
  (decide (out < 4 ∧ heldNext s r out leg2 vc < if leg2 then 2 else 8) &&
    (!crosses r out || decide ((s.chamber (chamberOf r out)).entries.length < 6)))

/-- A towpath flit of the core or of the base port may enter: none has in the last 8 core cycles (R119). -/
def towpathFree (q : Router) : Bool :=
  match q.towpathAt with
  | some t => decide (t + 8 ≤ q.cycle)
  | none => true

/-- The input queues whose head goes out through an output on a channel, rising. -/
def headsFor (s : State) (r out vc : Nat) : List (Nat × Flit) :=
  (s.router r).queues.filterMap fun q =>
    if q.1 % 5 = vc then
      match q.2 with
      | f :: _ => if (outOf s r f).1 = out then some (q.1, f) else none
      | [] => none
    else none

/-- A head that may leave now: a credit is held, the output's channel is not in the middle of another packet, and the
towpath limit allows it. -/
def headGoes (s : State) (r out vc : Nat) (h : Nat × Flit) : Bool :=
  let q := s.router r
  let leg := (outOf s r h.2).2
  hasCredit s r out leg vc &&
  (match Tab.find? (queueKey out leg vc) q.worm with
    | some k => k == h.1
    | none => h.2.idx == 0) &&
  (vc != 0 || h.1 / 10 < 4 || towpathFree q)

/-- The head an output serves: VC0 first, else round robin among VC1 to VC3 (R117). -/
def pickHead (s : State) (r out : Nat) : Option (Nat × Flit) :=
  let first := fun (vc : Nat) => (headsFor s r out vc).find? (headGoes s r out vc)
  let turn := Tab.getD 3 out (s.router r).rr
  let order := (List.range 3).map fun i => (turn + i) % 3 + 1
  (first 0).or (order.findSome? first)

/-- Adds to a per-channel counter of a router. -/
def bumpVc (vc : Nat) (t : Tab Nat) : Tab Nat := Tab.put vc (satInc (Tab.getD 0 vc t)) t

/-- The message whose packet arrives: that of the packet's owner, or, once it has crossed the base, of its stamp. -/
def msgOfPacket (s : State) (t : TxPacket) : Option Nat :=
  match t.owner with
  | .msg n => some n
  | .write _ | .part _ _ _ | .none => (List.find? (fun x => x.2.stage == .flight && x.2.stamp == some t.pkt.stamp) s.work.msgs).map Prod.fst

/-- A part of other members' data, or of a sum that a basin has sent, has landed at a member; with a sum its round is over (R207, R439). -/
def partLanded (m : MRef) (order : Nat) (s : State) : State :=
  let s := s.updMember m (outUpd order fun o => { o with left := o.left - 1 })
  match (s.member? m).bind fun x => x.out.find? fun o => o.order == order with
  | some { op := .coll kind _ _ _ _ place, .. } => if kind = 2 ∨ kind = 3 then s else roundDone m.slot m.task place s
  | _ => s

/-- The message that a MSG packet from the torus brings a core: its header says whom it is for, and no member of this module has sent it, so
that no RECV matches it (R202, R286, R319, R540). -/
def farMsg (core : Nat) (p : BasePacket) : Msg :=
  let d := p.payload
  { src := { slot := 65536, task := 0, rank := 0 }, dst := { slot := leField d 0 1, task := leField d 1 4, rank := leField d 5 1 }
    gen := leField d 6 4, serial := leField d 10 8, fails := leField d 18 4, core := core, tag := leField d 22 2, token := 0, order := 0
    stamp := some p.stamp, body := d.drop 32, stage := .here }

/-- A message takes its number. -/
def addMsg (g : Msg) (s : State) : State :=
  { s with work.msgs := Tab.put s.work.msgNo g s.work.msgs, work.msgNo := s.work.msgNo + 1 }

/-- A lighter's packet reaches a core: a write to its scratch, which may be a part of another member's data, read data, or a part of a
message (R93, R207, R409). What an abandoned op of a member has left on its way is dropped (R370). -/
def landPacket (t : TxPacket) (s : State) : State :=
  let p := fromTorus t.pkt
  if p.kind = 0 then
    let land := lighterWrite (p.destBerth * 128 + p.destUnit) (p.payload.zipIdx.map fun b => (p.addr + b.2, b.1))
    match t.owner with
    | .part m _ order =>
      if ownerStands s t.owner then partLanded m order (land s) else s
    | .write _ | .msg _ | .none => land s
  else if p.kind = 2 then
    { s with mem.reads := Tab.modify p.tag (fun r => { r with landed := true }) s.mem.reads }
  else if p.kind = 3 then
    match msgOfPacket s t with
    | some n =>
      { s with work.msgs := Tab.modify n (fun g =>
          if g.stage = .flight then { g with parts := g.parts - 1, stage := if g.parts ≤ 1 then .here else .flight } else g) s.work.msgs }
    | none =>
      if 24 ≤ t.pkt.srcBerth ∧ t.pkt.srcBerth < 30 then addMsg (farMsg (p.destBerth * 128 + p.destUnit) p) s else s
  else s

/-- The last flit of a lighter's packet leaves the mesh: into its core, or at the base port into the stack's berth; there a REDUCE packet
for the berth's own basins enters its home basin through the berth switch (R85, R93, R437). -/
def leaveMesh (r out : Nat) (t : TxPacket) (s : State) : State :=
  if out = 5 then
    if t.pkt.kind = 4 ∧ t.pkt.destBerth = r / 128 then (if ownerStands s t.owner then basinTake (homeLink (r / 128) t.pkt.addr) ownPort t.pkt s else s)
    else enterBerth (r / 128) (portHere r) [t] s
  else landPacket t s

/-- A packet carries a contribution to a sum. -/
def isReduce (p : NetPacket) : Bool := p.load.all fun t => t.pkt.kind == 4

/-- A flit reaches the next router, its chamber, the core, or the base port. A REDUCE packet for the core goes to the router's reduction
table (R123). -/
def placeFlit (r out : Nat) (f : Flit) (s : State) : State :=
  if 4 ≤ out then
    match (if out = 4 ∧ isReduce f.pkt then none else f.pkt.load) with
    | some t => if f.pkt.flits ≤ f.idx + 1 then leaveMesh r out t s else s
    | none => s.updRouter r fun q => { q with ejected := q.ejected ++ [f] }
  else if crosses r out then
    s.updChamber (chamberOf r out) fun c => { c with entries := c.entries ++ [(c.wseq, f)], wseq := (c.wseq + 1) % 8 }
  else
    s.updRouter (neighbour r out) fun q =>
      let k := queueKey (inputOf out) f.leg2 f.pkt.vc
      { q with queues := Tab.put k (Tab.getD [] k q.queues ++ [f]) q.queues }

/-- An output sends one flit (R113). -/
def sendFlit (r out : Nat) (s : State) : State :=
  match pickHead s r out with
  | none => s
  | some (k, f) =>
    let vc := f.pkt.vc
    let leg := (outOf s r f).2
    let last := decide (f.pkt.flits ≤ f.idx + 1)
    let w := queueKey out leg vc
    let s := s.updRouter r fun q =>
      { q with
        queues := Tab.modify k List.tail q.queues
        worm := if last then Tab.del w q.worm else Tab.put w k q.worm
        rr := if vc = 0 then q.rr else Tab.put out vc q.rr
        towpathAt := if vc = 0 ∧ 4 ≤ k / 10 then some q.cycle else q.towpathAt
        forwarded := bumpVc vc q.forwarded
        packets := if last then bumpVc vc q.packets else q.packets }
    placeFlit r out { f with leg2 := leg } s

/-- The queued flits of a channel. -/
def depthOf (q : Router) (vc : Nat) : Nat := (q.queues.filter fun x => x.1 % 5 = vc).foldl (fun a x => a + x.2.length) 0

/-- A channel of a router has a flit that waits for a credit. -/
def stalled (s : State) (r vc : Nat) : Bool :=
  (s.router r).queues.any fun q => q.1 % 5 == vc && match q.2 with
    | f :: _ => !hasCredit s r (outOf s r f).1 (outOf s r f).2 vc
    | [] => false

/-- The flits of a packet. -/
def flitsOf (p : NetPacket) : List Flit := (List.range (max 1 p.flits)).map fun i => { pkt := p, idx := i }

/-- The core's packets that its input buffers take (R118). -/
def injectAll (r : Nat) (l : List NetPacket) (s : State) : State :=
  l.foldl (fun s p =>
    let k := queueKey 4 false p.vc
    let q := Tab.getD [] k (s.router r).queues
    if p.vc < 4 ∧ q.length + (flitsOf p).length ≤ 8 then
      s.updRouter r fun x => { x with queues := Tab.put k (q ++ flitsOf p) x.queues }
    else s) s

/-- A lighter's packet may enter the mesh: its message has its stamp, which it then carries (R317, R361). -/
def mayEnter (s : State) (p : NetPacket) : Option NetPacket :=
  match p.load with
  | some { owner := .msg n, pkt := b } =>
    match Tab.find? n s.work.msgs with
    | some g => g.stamp.map fun st => { p with stamp := st, load := some { owner := .msg n, pkt := { b with stamp := st } } }
    | none => none
  | _ => some p

/-- What becomes of a core's waiting packets: in order on each channel, those that its input buffers take enter, and those of
messages dropped meanwhile go (R115, R118). -/
def outboxStep (r : Nat) : List NetPacket → List Nat → State → List NetPacket × State
  | [], _, s => ([], s)
  | p :: l, held, s =>
    let room := decide ((Tab.getD [] (queueKey 4 false p.vc) (s.router r).queues).length + (flitsOf p).length ≤ 8)
    if (p.load.any fun t => !ownerStands s t.owner) then outboxStep r l held s
    else match (if room && !held.contains p.vc then mayEnter s p else none) with
      | some q => outboxStep r l held (injectAll r [q] s)
      | none =>
        let (left, s) := outboxStep r l (p.vc :: held) s
        (p :: left, s)

/-- The lighter's packets of a core enter its router. -/
def injectOutbox (r : Nat) (s : State) : State :=
  let (left, s) := outboxStep r (s.core r).outbox [] s
  s.updCore r fun x => { x with outbox := left }

/-- The packets that stand whole in a router's buffers on VC3, with their queues. -/
def wholePackets (q : Router) : List (Nat × NetPacket) :=
  (q.queues.filter fun x => x.1 % 5 = 3).flatMap fun x =>
    (x.2.filter fun f => f.idx = 0 ∧ (x.2.filter fun g => g.pkt.id = f.pkt.id).length = max 1 f.pkt.flits).map fun f => (x.1, f.pkt)

/-- The place at which a packet's sum is made: its router's core, or where its load goes. -/
def sumTarget (p : NetPacket) : Nat × Bool × Option (Nat × Nat × Nat) :=
  (p.dst, p.toBase, p.load.map fun t => (t.pkt.destBerth, t.pkt.destUnit, t.pkt.addr))

/-- Two packets meet for one sum (R121). -/
def meets (a b : NetPacket) : Bool :=
  isReduce a && isReduce b && a.id != b.id && a.group == b.group && a.word == b.word && a.rtype == b.rtype && sumTarget a == sumTarget b

/-- The packet that carries the sum of two, and the flags of its adds (R121, R122). -/
def sumPacket (a b : NetPacket) : NetPacket × Nat :=
  let (l, f) := reduceElems a.rtype a.flush a.elems b.elems
  ({ a with
     elems := l, carried := a.carried + b.carried
     load := a.load.map fun t => { t with pkt := { t.pkt with
       tag := reduceTag a.rtype a.flush a.group (a.carried + b.carried) a.expects, payload := elemBytes a.rtype l } } }, f)

/-- The pairs of packets that meet in a router (R121). -/
def meetingPairs (q : Router) : List (NetPacket × NetPacket) :=
  (wholePackets q).flatMap fun a => ((wholePackets q).filter fun b => meets a.2 b.2).map fun b => (a.2, b.2)

/-- A pair becomes one packet, in the place of its first. -/
def mergePair (a b c : NetPacket) (q : Router) : Router :=
  { q with queues := q.queues.mapVals fun _ fs =>
    (fs.filter fun f => f.pkt.id != b.id).map fun f => if f.pkt.id = a.id then { f with pkt := c } else f }

/-- Every pair that meets is added, in a free order (R121, R125). -/
def mergeAll (r : Nat) : Nat → State → State
  | 0, s => s
  | n + 1, s =>
    let l := meetingPairs (s.router r)
    if l = [] then s
    else
      let (i, s) := drawBelow l.length s
      match l[i]? with
      | none => s
      | some (a, b) =>
        let (c, f) := sumPacket a b
        mergeAll r n (groupFlags (r / 128) a.group f (s.updRouter r (mergePair a b c)))

/-- The cores of a stack. -/
def stackCores (k : Nat) : List Nat := (List.range 128).map (· + 128 * k)

/-- A stack's mesh holds no flit. -/
def meshDrained (s : State) (k : Nat) : Bool :=
  (stackCores k).all fun r => (s.router r).queues.all (fun q => q.2 = []) && (List.range 4).all fun d =>
    (s.chamber (chamberOf r d)).entries = []

/-- The clock mesh of a stack's reach is not gated (R327, R481). -/
def reachOn (s : State) (k r : Nat) : Bool := decide (0 < (Tab.getD {} r (s.stack k).reaches).enable)

/-- A router's clock runs: its die is powered and clocked, and its reach's clock mesh is not gated (R327, R334, R341, R481, R684). -/
def routerLive (s : State) (r : Nat) : Bool :=
  (s.stack (r / 128)).powered && (s.stack (r / 128)).clocked && reachOn s (r / 128) (reachOf (r % 128)) &&
    decide (r < 2048 ∧ s.power.pstate < 2)

/-- ROUTER_CYCLE (R85, R93, R113 to R121): packets of the core and of its lighter enter, reduction packets that meet are added, every output sends at
most one flit, and the counters of R841 move. -/
def routerStep (r : Nat) (inject : List NetPacket) (s : State) : State :=
  if routerLive s r then
    let s := mergeAll r 64 (injectAll r inject (injectOutbox r s))
    let wait := (List.range 4).filter (stalled s r)
    let s := (List.range 6).foldl (fun s out => sendFlit r out s) s
    s.updRouter r fun q =>
      { q with
        cycle := q.cycle + 1
        stalls := wait.foldl (fun t vc => bumpVc vc t) q.stalls
        highWater := (List.range 4).foldl (fun t vc => Tab.put vc (max (Tab.getD 0 vc t) (depthOf q vc)) t) q.highWater }
  else s

def execRouterCycle (router : Nat) (inject : List NetPacket) (s : State) : Host.Outcome State Fault Refusal :=
  .next (routerStep router inject s)

/-! ### The reduction table (R123, R124) -/

/-- The VC3 packets that have wholly left the router for its core. -/
def ejectedPackets (q : Router) : List NetPacket :=
  (q.ejected.filter fun f => f.idx == 0 && f.pkt.vc == 3 &&
    (q.ejected.filter fun g => g.pkt.id == f.pkt.id).length == max 1 f.pkt.flits).map Flit.pkt

/-- Adds a packet, one of those that have arrived, to the destination router's table, in a free order, or returns it to the
scheduler (R123 to R125). A packet of an abandoned COLL is dropped (R370). -/
def tableStep (r : Nat) (s : State) : State :=
  let l := ejectedPackets (s.router r)
  let (i, s) := if l.length ≤ 1 then (0, s) else drawBelow l.length s
  match l[i]? with
  | none => s
  | some p =>
    let s := s.updRouter r fun q => { q with ejected := q.ejected.filter fun f => f.pkt.id != p.id }
    let q := s.router r
    let gone := p.load.any fun t => !ownerStands s t.owner
    let back := fun (s : State) =>
      endCollective (r / 128) p.group St.reductionOverrun (s.updRouter r fun q => { q with overrun := q.overrun ++ [p] })
    let keep := fun (e : NetPacket) (s : State) => s.updRouter r fun q =>
      { q with table := Tab.put p.group e q.table
               complete := if e.expects ≤ e.carried then q.complete ++ [p.group] else q.complete }
    if gone then s
    else if q.complete.contains p.group then back s
    else match Tab.find? p.group q.table with
      | some e =>
        if e.expects < e.carried + p.carried then back s
        else groupFlags (r / 128) p.group (sumPacket e p).2 (keep (sumPacket e p).1 s)
      | none => if 64 ≤ q.table.length then back s else keep p s

/-- REDUCTION_TABLE_ADD (R123). -/
def execReductionTableAdd (router : Nat) (s : State) : Host.Outcome State Fault Refusal := .next (tableStep router s)

/-- The COLL whose sum a group of a stack carries now: its task and place (R276). -/
def collOfGroup (s : State) (stack group : Nat) : Option (Nat × Nat × Nat) :=
  match groupTask s stack group with
  | none => none
  | some (slot, task) => (s.task? slot task).bind fun t =>
      (t.members.findSome? fun p => (collOut p.2).findSome? fun o => match o.op with
        | .coll _ _ _ _ _ place => if o.begun && !o.landed && collGroup t p.2 o == some group then some place else none
        | .xfer _ _ | .send _ _ | .recv _ _ _ _ _ _ => none).map fun place => (slot, task, place)

/-- Bytes of a sum by local scratch offset. -/
def sumCells (off : Nat) (d : Bytes) : Tab Byte := d.zipIdx.map fun b => (off + b.2, b.1)

/-- A complete entry of a reduction table: its sum goes to its destination through the lighter side of the core's port, and the COLL goes
on, or its tokens signal (R123). A sum that belongs to no COLL of the scheduler's goes to its destination word. The entry leaves the
table; its group stays marked as complete until a new sum of it begins or its task ends (R124; DESIGN CHOICE, notes/assumptions/151.md). -/
def tableDone (r group : Nat) (s : State) : State :=
  match Tab.find? group (s.router r).table with
  | none => s
  | some e =>
    if (s.router r).complete.contains group then
      let s := s.updRouter r fun q => { q with table := Tab.del group q.table }
      match collOfGroup s (r / 128) group with
      | some (slot, task, place) => roundDone slot task place (landRound slot task place e.elems s)
      | none => lighterWrite r (sumCells (e.word * 256) ((elemBytes e.rtype e.elems).take 256)) s
    else s

/-! ### Lock chambers (R341 to R344) -/

/-- The reading side takes the oldest flit of a chamber, on the receiving reach's clock, and checks its side band (R341, R342). -/
def chamberStep (ch seqRead stampRead : Nat) (s : State) : State :=
  match (if routerLive s (neighbour (ch / 4) (ch % 4)) then (s.chamber ch).entries else []) with
  | [] => s
  | (_, f) :: rest =>
    let c := s.chamber ch
    let r := ch / 4
    let out := ch % 4
    let bad := seqRead != c.rseq || (Tab.find? f.pkt.id c.stamps).any (· != stampRead)
    let last := decide (f.pkt.flits ≤ f.idx + 1)
    let s := s.updChamber ch fun c =>
      { c with
        entries := rest, rseq := (c.rseq + 1) % 8
        stamps := if last then Tab.del f.pkt.id c.stamps
          else if Tab.has f.pkt.id c.stamps then c.stamps else Tab.put f.pkt.id stampRead c.stamps }
    let s := s.updRouter (neighbour r out) fun q =>
      let k := queueKey (inputOf out) f.leg2 f.pkt.vc
      { q with queues := Tab.put k (Tab.getD [] k q.queues ++ [f]) q.queues }
    let reach := fun (c : Nat) => c % 128 / 16 / 4 * 4 + c % 16 / 4
    if bad then
      raiseFault Ev.chamberError (leBytes 1 (r / 128) ++ leBytes 1 (reach r) ++ leBytes 1 (reach (neighbour r out))) s
    else s

/-- LOCK_CHAMBER_READ (R342). -/
def execLockChamberRead (chamber : Nat) (seqRead : Nat) (stampRead : Nat) (s : State) : Host.Outcome State Fault Refusal :=
  .next (chamberStep chamber seqRead stampRead s)

end Sys2Proof.Machine
end

