-- ==== Sys2Proof/Machine/MailMem.lean ====
section
/-!
DEFINITION. Mail of identity, time, events, buffers, reads, barges and pounds (R637 to R648, R655): each body writes
the module's change and its reply.
-/

namespace Sys2Proof.Machine

/-! ### Identity and time -/

/-- The running firmware image. -/
def runningImage (s : State) : Bytes := if s.boot.bootRec.running then s.flash.imageB else s.flash.imageA

/-- The running image is on trial (R805). -/
def onTrial (s : State) : Bool :=
  (if s.boot.bootRec.running then s.boot.bootRec.slotB else s.boot.bootRec.slotA) == .trial

/-- The SLOT byte of IDENTIFY (R637). -/
def slotByte (s : State) : Nat := bit s.boot.bootRec.running + 2 * bit (onTrial s)

/-- The IDENTIFY reply after its header (R637). -/
def identifyReply (s : State) : Bytes :=
  [0x4C#8, 0x46#8, 0x39#8, 0x36#8, 0x2D#8, 0x4D#8, 0x32#8, 0x41#8] ++ leBytes 2 0x4C96 ++ [0xA1#8] ++
  leBytes 1 (lifeCycle s) ++ leBytes 4 (leField (runningImage s) 0x0C 4) ++ leBytes 4 s.sec.fuses.svn ++
  leBytes 1 (slotByte s) ++ leBytes 1 s.power.pstate ++
  leBytes 1 (bit (ready s) + 2 * bit (lightLost s) + 4 * bit (poisonFull s) + 8 * bit s.power.shutdown) ++ leBytes 1 0 ++
  leBytes 16 s.sec.fuses.unitId ++ leBytes 2 s.torus.partition ++ leBytes 3 (nativeAddr s) ++ leBytes 3 0

def mailIdentify (src : MailSrc) (corr : Nat) (_m : Bytes) (s : State) : State :=
  answer src 0x01 corr St.ok (identifyReply s) s

/-- IDENTIFY (R637). -/
def execIdentify (src : MailSrc) (s : State) : Host.Outcome State Fault Refusal :=
  .next (mailStep src 0x01 (mailIdentify src) s)

/-- The FT_STATUS word (R313). -/
def ftStatus (s : State) : Nat :=
  s.time.source * 2 ^ 24 + s.time.mode * 2 ^ 21 + bit s.time.master * 2 ^ 20 + bit s.time.ftrefOk * 2 ^ 19 +
  intBits 16 (max (-32767) (min 32767 s.time.offset16))

/-- Answers with a stamp of the read between two parts; where the issuer has none left in this TIME value the reply
waits for it as R317 lets any request for a stamp wait. -/
def answerStamped (src : MailSrc) (code corr : Nat) (pre post : Bytes) (s : State) : State :=
  match issueStamp 30 (.reply s.work.jobNo) s with
  | (some st, s) => answer src code corr St.ok (pre ++ leBytes 8 st ++ post) s
  | (none, s) => addJob (.stamped pre post) src code corr s

def mailFtRead (src : MailSrc) (corr : Nat) (_m : Bytes) (s : State) : State :=
  answerStamped src 0x02 corr (leBytes 8 s.ft) (leBytes 4 (ftStatus s) ++ leBytes 4 0) s

/-- FT_READ (R638). -/
def execFtRead (src : MailSrc) (s : State) : Host.Outcome State Fault Refusal :=
  .next (mailStep src 0x02 (mailFtRead src) s)

/-- The POUND_STATUS word (R396). -/
def poundStatus (s : State) : Nat :=
  s.pound.fails * 2 ^ 28 + bit s.pound.closing.isSome * 2 ^ 27 + bit s.pound.replay * 2 ^ 26 +
  bit (s.torus.held ≠ []) * 2 ^ 25 + bit (inPartition s) * 2 ^ 24 +
  min 1023 (poolUse s * 1024 / poolPages s) * 2 ^ 14

def mailPoundStatus (src : MailSrc) (corr : Nat) (_m : Bytes) (s : State) : State :=
  answer src 0x31 corr St.ok
    (leBytes 8 s.pound.committed ++ leBytes 8 s.pound.kstamp ++ leBytes 4 (poundStatus s) ++ leBytes 4 0) s

/-- POUND_STATUS (R638, R396). -/
def execPoundStatus (src : MailSrc) (s : State) : Host.Outcome State Fault Refusal :=
  .next (mailStep src 0x31 (mailPoundStatus src) s)

/-! ### Events -/

def mailEventSubscribe (src : MailSrc) (corr : Nat) (m : Bytes) (s : State) : State :=
  let mask := leField m 8 8
  let s := match src with
    | .session i => s.updSession i fun ss => { ss with mask := mask, cursor := s.log.nextLseq }
    | .jtag => s
  answer src 0x04 corr St.ok (leBytes 8 mask) s

/-- EVENT_SUBSCRIBE (R640, R832). -/
def execEventSubscribe (src : MailSrc) (s : State) : Host.Outcome State Fault Refusal :=
  .next (mailStep src 0x04 (mailEventSubscribe src) s)

/-- The log sequence number meant by a 32-bit FIRST: the one of its residue nearest the newest (R826). -/
def fullLseq (s : State) (first : Nat) : Nat :=
  let d := (first + 2 ^ 32 - s.log.nextLseq % 2 ^ 32) % 2 ^ 32
  if d < 2 ^ 31 then s.log.nextLseq + d else s.log.nextLseq + d - 2 ^ 32

/-- The entries an EVENT_READ returns: from FIRST on, before the first one still held, at most 15 of 64 bytes in
1,000 (R641). -/
def eventsFrom (s : State) (first count : Nat) : List LogEntry :=
  (((s.log.entries.filter fun e => fullLseq s first ≤ e.lseq).takeWhile fun e => e.stamp.isSome).take count).take 15

def mailEventRead (src : MailSrc) (corr : Nat) (m : Bytes) (s : State) : State :=
  let first := leField m 8 4
  let l := eventsFrom s first (leField m 0x0C 2)
  let start := match s.log.entries with
    | [] => first
    | e :: _ => if fullLseq s first < e.lseq then e.lseq else first
  answer src 0x05 corr St.ok (leBytes 4 start ++ leBytes 2 l.length ++ leBytes 2 0 ++ l.flatMap entryBytes) s

/-- EVENT_READ (R641). -/
def execEventRead (src : MailSrc) (s : State) : Host.Outcome State Fault Refusal :=
  .next (mailStep src 0x05 (mailEventRead src) s)

/-! ### Buffers and reads -/

def mailBufCreate (src : MailSrc) (corr : Nat) (m : Bytes) (s : State) : State :=
  match createBuffer (leField m 8 8) none s with
  | .inl st => answer src 0x10 corr st [] s
  | .inr (h, base, s) => answer src 0x10 corr St.ok (leBytes 4 h ++ leBytes 4 0 ++ leBytes 8 base) s

/-- BUF_CREATE (R506, R507, R642). -/
def execBufCreate (src : MailSrc) (s : State) : Host.Outcome State Fault Refusal :=
  .next (mailStep src 0x10 (mailBufCreate src) s)

/-- A resident graph names a buffer: in its buffer table, its result area or its image (R254, R652). -/
def graphNames (g : Graph) (h : Nat) : Bool :=
  g.image == h || (g.resultHandle == h && h != 0) || g.views.any fun v => v.handle == h

/-- A buffer may not be freed: a graph, a barge or a remote buffer names it (R508, R547). -/
def bufferBusy (s : State) (h : Nat) (b : Buffer) : Bool :=
  s.work.graphs.any (fun g => graphNames g.2 h) || s.net.barges.any (fun x => x.2.handle == h) || b.marks != 0

/-- Frees a buffer: its handle at once, its shadows in the open pound, its poisoned lines; its pages at the next
commit (R508, R525). A remote buffer releases the far busy mark (R644). -/
def freeBuffer (h : Nat) (b : Buffer) (s : State) : State :=
  let mine := fun p => b.page ≤ p && p < b.page + b.pages
  let lost := (s.mem.shadows.filter fun x => mine x.page && x.tag == openSerial s).map Shadow.frame
  let s : State :=
    { s with
      mem.buffers := Tab.del (h % 2 ^ 18) s.mem.buffers
      mem.freeing := s.mem.freeing ++ [(b.page, b.pages)]
      mem.shadows := s.mem.shadows.filter fun x => !(mine x.page && x.tag == openSerial s)
      mem.poison := s.mem.poison.filter fun l => !mine (l / 1024) }
  let s := tablesUpdate (releaseFrames lost s)
  match b.remote with
  | some (coord, rh, _, _) => torusSend (.release coord rh) s
  | none => s

def mailBufFree (src : MailSrc) (corr : Nat) (m : Bytes) (s : State) : State :=
  let h := leField m 8 4
  match bufOf s h with
  | none => answer src 0x11 corr St.bufferHandle [] s
  | some b =>
    if bufferBusy s h b then answer src 0x11 corr St.bufferBusy [] s
    else answer src 0x11 corr St.ok [] (freeBuffer h b s)

/-- BUF_FREE (R508, R642). -/
def execBufFree (src : MailSrc) (s : State) : Host.Outcome State Fault Refusal :=
  .next (mailStep src 0x11 (mailBufFree src) s)

/-- A live read (R386): each line is the committed version or the newest applied one, by a free choice. -/
def liveRead (a n : Nat) (s : State) : Bytes × State :=
  let (v, s) := draw s
  ((List.range n).map fun i =>
    if v.testBit ((a + i) / 64 - a / 64) then newestByte s (a + i) else committedByte s (a + i), s)

def mailMemRead (src : MailSrc) (corr : Nat) (m : Bytes) (s : State) : State :=
  let off := leField m 0x10 8
  let len := leField m 0x18 4
  let s := sourceErrors (leField m 8 4) off len s
  orRefuse src 0x13 corr (mailBuffer s (leField m 8 4) off len true) (fun b s =>
    if leField m 0x0C 4 % 2 = 1 then
      let (d, s) := liveRead (bufBase b + off) len s
      answer src 0x13 corr St.ok (leBytes 8 0 ++ leBytes 4 len ++ leBytes 4 0 ++ d) s
    else
      answer src 0x13 corr St.ok
        (leBytes 8 s.pound.committed ++ leBytes 4 len ++ leBytes 4 0 ++ committedRead s (bufBase b + off) len) s) s

/-- A MEM_READ can be answered now: its range is refused, or the wharf reaches the memory berths of its bytes (R27). -/
def memReadReady (src : MailSrc) (s : State) (m : Bytes) : Bool :=
  mailRefusal s src 0x13 m != 0 || match mailBuffer s (leField m 8 4) (leField m 0x10 8) (leField m 0x18 4) true with
    | .inl _ => true
    | .inr b => rangeReached s (bufBase b + leField m 0x10 8) (leField m 0x18 4)

/-- MEM_READ (R645, R383, R386); while the base is down between the wharf and the range's berths the message waits (R27). -/
def execMemRead (src : MailSrc) (s : State) : Host.Outcome State Fault Refusal :=
  .next (mailStepSel src 0x13 (memReadReady src s) (mailMemRead src) s)

/-! ### Barges -/

/-- Open barges of a session handle. -/
def bargesOf (s : State) (handle : Nat) : Nat := (s.net.barges.filter fun x => x.2.session = handle).length

/-- The refusal of a barge open, or its buffer (R612, R646). -/
def bargeRefusal (s : State) (handle sess off len : Nat) (out : Bool) : Nat ⊕ Buffer :=
  match bufOf s handle with
  | none => .inl St.bufferHandle
  | some b =>
    if b.remote.isSome then .inl St.remoteBuffer
    else if off % 64 ≠ 0 then .inl St.bargeRange
    else if b.size < off + len then .inl St.bargeRange
    else if len = 0 then .inr b
    else if 16 ≤ bargesOf s sess ∨ 4096 ≤ s.net.barges.length then .inl St.bargeLimit
    else if out && rangePoisoned s (bufBase b + off) len then .inl St.memPoison
    else .inr b

def mailBargeOpen (src : MailSrc) (corr : Nat) (m : Bytes) (s : State) : State :=
  let sess := srcHandle s src
  let out := leField m 0x0C 1 = 1
  let current := leField m 0x0D 1 = 1
  let serial := if out ∧ ¬current then s.pound.committed else 0
  let len := leField m 0x18 8
  let s := if out then sourceErrors (leField m 8 4) (leField m 0x10 8) len s else s
  orRefuse src 0x18 corr (bargeRefusal s (leField m 8 4) sess (leField m 0x10 8) len out) (fun _ s =>
    if len = 0 then answer src 0x18 corr St.ok (leBytes 2 0xFFFF ++ leBytes 6 0 ++ leBytes 8 serial) s
    else match Tab.freeKey 0 4096 s.net.barges with
      | none => answer src 0x18 corr St.bargeLimit [] s
      | some n =>
        let b : Barge :=
          { session := sess, handle := leField m 8 4, outbound := out, current := current, start := leField m 0x10 8,
            length := len, serial := serial, openedNo := s.net.bargeNo, lastSerial := serial }
        answer src 0x18 corr St.ok (leBytes 2 n ++ leBytes 6 0 ++ leBytes 8 serial)
          { s with net.barges := Tab.put n b s.net.barges, net.bargeNo := s.net.bargeNo + 1 }) s

/-- BARGE_OPEN (R612, R613, R646). -/
def execBargeOpen (src : MailSrc) (s : State) : Host.Outcome State Fault Refusal :=
  .next (mailStep src 0x18 (mailBargeOpen src) s)

def mailBargeCancel (src : MailSrc) (corr : Nat) (m : Bytes) (s : State) : State :=
  let n := leField m 8 2
  match Tab.find? n s.net.barges with
  | none => answer src 0x19 corr St.bargeNumber [] s
  | some b =>
    if b.session = srcHandle s src then endBarge n St.cancelled (answer src 0x19 corr St.ok [] s)
    else answer src 0x19 corr St.bargeNumber [] s

/-- BARGE_CANCEL (R647). -/
def execBargeCancel (src : MailSrc) (s : State) : Host.Outcome State Fault Refusal :=
  .next (mailStep src 0x19 (mailBargeCancel src) s)

/-! ### Pounds -/

def mailPoundClose (src : MailSrc) (corr : Nat) (_m : Bytes) (s : State) : State :=
  askClose (s.ft + 1) .host (addJob .poundClose src 0x30 corr s)

/-- POUND_CLOSE (R655, R355, R388). -/
def execPoundClose (src : MailSrc) (s : State) : Host.Outcome State Fault Refusal :=
  .next (mailStep src 0x30 (mailPoundClose src) s)

end Sys2Proof.Machine
end

