-- ==== Sys2Proof/Machine/KernelImage.lean ====
section
/-!
DEFINITION. Kernel images: their checks in the order of R224, loading, lowering and unloading (R126 to R131, R141,
R146 to R149, R155, R156, R222 to R226, R649, R650).
-/

namespace Sys2Proof.Machine

/-! ### What each opcode admits (R148) -/

/-- A class of operand in the opcode table (R146, R153, R163, R195, R222). -/
inductive OpClass where
  | zero
  | index
  | indexDest
  | view
  | tile
  | acc
  | tileIndex
  | tileZero
  | small
  | slot60
  | origin
deriving DecidableEq, Repr

/-- A field of an extension word: a selector, or a plain value. -/
inductive ExtField where
  | sel (lsb : Nat) (c : OpClass)
  | val (lsb width : Nat)
deriving DecidableEq, Repr

/-- A row of the opcode table: NEXT values, the highest MOD, operand classes, extension words. -/
structure OpRow where
  next : List Nat
  top  : Nat
  a    : OpClass
  b    : OpClass
  e1   : List ExtField := []
  e2   : List ExtField := []
deriving DecidableEq, Repr

/-- Row and column origins (TLOAD, TSTORE, CVT). -/
def originFields : List ExtField := [.sel 0 .index, .sel 8 .index]

/-- The opcodes of form version 1.0 (R148). EBIN's MOD values 5 to 7, which R148 does not list, are refused at load with ST_RESERVED like
those that R149, R158, R180 and R207 call reserved (DESIGN CHOICE, notes/assumptions/174.md). -/
def opRow (opc : Nat) : Option OpRow :=
  match opc with
  | 0x00 => some ⟨[0], 0, .zero, .zero, [], []⟩
  | 0x01 => some ⟨[0], 0, .zero, .zero, [], []⟩
  | 0x02 => some ⟨[0], 0, .indexDest, .index, [], []⟩
  | 0x03 => some ⟨[0], 0, .zero, .zero, [], []⟩
  | 0x04 => some ⟨[0], 1, .origin, .view, [], []⟩
  | 0x05 => some ⟨[1], 5, .index, .index, [], []⟩
  | 0x06 => some ⟨[0], 0, .zero, .zero, [], []⟩
  | 0x07 => some ⟨[0], 0, .zero, .zero, [], []⟩
  | 0x10 => some ⟨[1, 2], 0, .indexDest, .zero, [.val 0 32], [.val 0 32]⟩
  | 0x11 => some ⟨[1], 11, .indexDest, .index, [.sel 0 .index], []⟩
  | 0x12 => some ⟨[0], 7, .indexDest, .zero, [], []⟩
  | 0x13 => some ⟨[1], 1, .indexDest, .zero, [.val 0 16], []⟩
  | 0x14 => some ⟨[0], 3, .indexDest, .view, [], []⟩
  | 0x18 => some ⟨[1], 0, .view, .view, [.sel 0 .slot60, .sel 8 .slot60], []⟩
  | 0x20 => some ⟨[1], 0, .tile, .view, originFields, []⟩
  | 0x21 => some ⟨[1], 0, .tile, .view, originFields, []⟩
  | 0x22 => some ⟨[0], 1, .tile, .index, [], []⟩
  | 0x23 => some ⟨[1], 0, .view, .view, [.val 0 4], []⟩
  | 0x24 => some ⟨[0], 0, .small, .zero, [], []⟩
  | 0x30 => some ⟨[1], 1, .acc, .view, [.sel 0 .view], []⟩
  | 0x31 => some ⟨[0], 0, .tile, .tile, [], []⟩
  | 0x40 => some ⟨[1], 4, .tile, .tile, [.sel 0 .tileIndex], []⟩
  | 0x41 => some ⟨[1], 0, .tile, .tile, [.sel 0 .tileIndex, .sel 8 .tileIndex], []⟩
  | 0x42 => some ⟨[0], 10, .tile, .tile, [], []⟩
  | 0x48 => some ⟨[1], 5, .tile, .tile, [.sel 0 .tileIndex], []⟩
  | 0x49 => some ⟨[1], 0, .tile, .tile, [.sel 0 .tile, .sel 8 .tile], []⟩
  | 0x50 => some ⟨[1], 7, .tile, .tile, [.sel 0 .index], []⟩
  | 0x58 => some ⟨[0], 0, .tile, .tile, [], []⟩
  | 0x59 => some ⟨[1], 0, .tile, .view, [.sel 0 .tile, .sel 8 .index], []⟩
  | 0x5A => some ⟨[1], 0, .view, .tile, [.sel 0 .tile, .sel 8 .index], []⟩
  | 0x5B => some ⟨[1], 1, .tile, .tile, [.sel 0 .tileZero, .sel 8 .index], []⟩
  | 0x60 => some ⟨[2], 0, .tile, .view, originFields, [.val 0 2, .sel 8 .index]⟩
  | 0x70 => some ⟨[1, 2], 1, .view, .index, [.val 0 4, .val 4 16], [.val 0 20]⟩
  | 0x71 => some ⟨[1, 2], 1, .view, .index, [.val 0 4, .val 4 16], [.val 0 20]⟩
  | 0x78 => some ⟨[1, 2], 4, .view, .index, [.val 0 4, .val 4 2], [.sel 0 .view]⟩
  | 0x7E => some ⟨[0], 0, .indexDest, .zero, [], []⟩
  | 0x7F => some ⟨[0], 0, .small, .zero, [], []⟩
  | _ => none

/-- Whether NEXT is the one the op takes: SEND and RECV have e2 when external, COLL for kinds 3 and 4 (R147, R148). -/
def nextOk (opc : Nat) (r : OpRow) (nx mod : Nat) : Bool :=
  if opc = 0x70 ∨ opc = 0x71 then nx == (if mod % 2 = 1 then 2 else 1)
  else if opc = 0x78 then nx == (if mod % 8 = 3 ∨ mod % 8 = 4 then 2 else 1)
  else r.next.contains nx

/-- A selector is reserved where the table shows 0x00 and it is not, or from 0x94 to 0xBF (R145, R148). -/
def selReserved (c : OpClass) (b : Nat) : Bool := if c = .zero then b != 0 else 0x94 ≤ b && b < 0xC0

/-- A selector is of the class an operand accepts (R146, R153, R163, R195, R222). A first origin slot of TILEFOR outside IX1 to
IX62 is refused as an operand, with ST_OPERAND: R153 names no status (DESIGN CHOICE, notes/assumptions/136.md). -/
def selOk (c : OpClass) (b : Nat) : Bool :=
  match c with
  | .zero => b == 0
  | .index => isIndexArg b
  | .indexDest => isIndexDest b
  | .view => isViewArg b
  | .tile => isTileArg b
  | .acc => isAccArg b
  | .tileIndex => isTileArg b || isIndexArg b
  | .tileZero => isTileArg b || b == 0xC0
  | .small => isSmallImm b
  | .slot60 => b ≤ 60
  | .origin => 1 ≤ b && b ≤ 62

/-- The selectors of an extension word with their classes. -/
def extSels (fs : List ExtField) (w : Nat) : List (OpClass × Nat) :=
  fs.filterMap fun f => match f with
    | .sel lsb c => some (c, w / 2 ^ lsb % 256)
    | .val _ _ => none

/-- The bits of an extension word that its fields do not list. -/
def extRest (fs : List ExtField) (w : Nat) : Nat :=
  fs.foldl (fun a f => match f with
    | .sel lsb _ => a - (a / 2 ^ lsb % 256) * 2 ^ lsb
    | .val lsb n => a - (a / 2 ^ lsb % 2 ^ n) * 2 ^ lsb) w

/-- The refusal of one op word by its own fields, or 0: opcode, NEXT, reserved fields, operand classes (R224 step 9). -/
def opWordCheck (w : Nat) (ext : List Nat) : Nat :=
  match opRow (opcOf w) with
  | none => St.opcode
  | some r =>
    let nx := nextOf w
    if !nextOk (opcOf w) r nx (modOf w) ∨ ext.length ≠ nx then St.kernelForm
    else
      let e1 := ext.getD 0 0
      let e2 := ext.getD 1 0
      let sels := [(r.a, opaOf w), (r.b, opbOf w)] ++ (if 1 ≤ nx then extSels r.e1 e1 else []) ++
        (if 2 ≤ nx then extSels r.e2 e2 else [])
      if r.top < modOf w ∨ (1 ≤ nx ∧ extRest r.e1 e1 ≠ 0) ∨
          (2 ≤ nx ∧ extRest r.e2 e2 ≠ 0) ∨ (opcOf w = 0x78 ∧ e1 / 16 % 4 = 3) ∨
          sels.any fun x => selReserved x.1 x.2 then St.reserved
      else if sels.all fun x => selOk x.1 x.2 then 0 else St.operand

/-- An opener that is still open: IF with or without its ELSE, or a loop. -/
inductive Opener where
  | loop
  | cond (hasElse : Bool)
deriving DecidableEq, Repr

/-- Nesting and pairing at one op (R155, R156): the openers after it, or the refusal. -/
def pairCheck (opc : Nat) (st : List Opener) : Nat ⊕ List Opener :=
  if opc = 0x02 ∨ opc = 0x04 then (if 8 ≤ st.length then .inl St.kernelLimit else .inr (.loop :: st))
  else if opc = 0x05 then (if 8 ≤ st.length then .inl St.kernelLimit else .inr (.cond false :: st))
  else if opc = 0x06 then
    match st with
    | .cond false :: t => .inr (.cond true :: t)
    | _ => .inl St.kernelForm
  else if opc = 0x07 then
    match st with
    | .cond _ :: t => .inr t
    | _ => .inl St.kernelForm
  else if opc = 0x03 then
    match st with
    | .loop :: t => .inr t
    | _ => .inl St.kernelForm
  else .inr st

/-- Steps 9 and 10 of R224 over the op words: the refusal, or 0. `lastEnd` says the last op was END at depth 0. -/
def opsCheck : Nat → List Nat → List Opener → Bool → Nat
  | 0, _, _, _ => St.kernelForm
  | _ + 1, [], st, lastEnd => if st = [] && lastEnd then 0 else St.kernelForm
  | fuel + 1, w :: rest, st, _ =>
    let nx := nextOf w
    let c := opWordCheck w (rest.take nx)
    if c ≠ 0 then c
    else match pairCheck (opcOf w) st with
      | .inl e => e
      | .inr st => opsCheck fuel (rest.drop nx) st (opcOf w = 0x01 ∧ st = [])

/-- The op words that begin ops, with their extension words. -/
def splitOps : Nat → List Nat → List (Nat × List Nat)
  | 0, _ => []
  | _ + 1, [] => []
  | fuel + 1, w :: rest => (w, rest.take (nextOf w)) :: splitOps fuel (rest.drop (nextOf w))

/-- Step 11 of R224: an MMA of two declared local views that no VSUB writes names a pair of R45 (R178). -/
def mmaCheck (ops : List (Nat × List Nat)) (views : List View) : Bool :=
  let subs := (ops.filter fun o => opcOf o.1 = 0x18).map fun o => opaOf o.1 % 64
  let view := fun (b : Nat) => if subs.contains (b % 64) ∨ b % 64 < 12 then none else views[b % 64 - 12]?
  ops.all fun o =>
    if opcOf o.1 = 0x30 then
      match view (opbOf o.1), view (o.2.getD 0 0 % 256) with
      | some a, some b => pairOk a.fmt b.fmt
      | _, _ => true
    else true

/-! ### The image (R127 to R131, R141) -/

/-- A local view descriptor (R136). -/
def parseView (m : Bytes) (o : Nat) : View :=
  { space := leField m o 1, fmt := leField m (o + 1) 1 % 16, rank := leField m (o + 2) 1, base := leField m (o + 4) 4
    scaleOff := leField m (o + 8) 4, ext := readExts m (o + 0x10), strides := readStrides m (o + 0x20) }

/-- The refusal of a local view descriptor, or 0: reserved fields, format code, then R141. R31's ST_FORMAT stands between the two
that step 8 of R224 orders: the manual does not place it (DESIGN CHOICE, notes/assumptions/137.md). -/
def viewCheck (m : Bytes) (o : Nat) : Nat :=
  let v := parseView m o
  if leField m (o + 1) 1 / 16 ≠ 0 ∨ leField m (o + 3) 1 ≠ 0 ∨ leField m (o + 0x0C) 4 ≠ 0 then St.reserved
  else if 12 ≤ v.fmt then St.format
  else if 2 ≤ v.space ∨ !v.formOk then St.view
  else if v.space = 0 then (if v.inside 0 0x160000 then 0 else St.view)
  else if v.inside 0x160000 0x180000 then 0 else St.view

/-- The first status of a list that is not 0. -/
def firstStatus : List Nat → Nat
  | [] => 0
  | x :: t => if x ≠ 0 then x else firstStatus t

/-- Units of 4 KiB a kernel's lowered code takes (R226). -/
def loweredUnits (words : Nat) : Nat := ceilDiv words 256

/-- Kernels being lowered. -/
def loweringUnits (s : State) : List Nat :=
  s.work.jobs.filterMap fun j => match j.2.kind with
    | .lowering _ u => some u
    | _ => none

/-- Units in use by loaded kernels and kernels being lowered. -/
def usedUnits (s : State) : Nat :=
  s.work.kernels.foldl (fun a p => a + loweredUnits p.2.opWords.length) 0 + (loweringUnits s).foldl (· + ·) 0

def imageWords (m : Bytes) (o n : Nat) : List Nat := (List.range n).map fun i => leField m (o + 4 * i) 4

/-- The checks of R224 in their order: the refusal, or the kernel. -/
def kernelCheck (s : State) (m : Bytes) : Nat ⊕ Kernel :=
  let words := leField m 0x08 4
  let views := leField m 0x0C 2
  if 4096 ≤ s.work.kernels.length + (loweringUnits s).length then .inl St.kernelLimit
  else if m.length < 64 ∨ leField m 0 4 ≠ 0x464B5359 then .inl St.kernelForm
  else if leField m 5 1 ≠ 1 ∨ leField m 4 1 ≠ 0 then .inl St.formVersion
  else if words = 0 ∨ 65536 < words ∨ 52 < views then .inl St.kernelLimit
  else if m.length ≠ 64 + 4 * words + 48 * views then .inl St.kernelForm
  else if leField m 6 2 ≠ 0 ∨ leField m 0x0E 2 ≠ 0 ∨ leField m 0x18 8 ≠ 0 then .inl St.reserved
  else if shake256 (m.drop 64) ≠ (m.drop 0x20).take 32 then .inl St.kernelDigest
  else
    let vo := fun (i : Nat) => 64 + 4 * words + 48 * i
    let st := firstStatus ((List.range views).map fun i => viewCheck m (vo i))
    if st ≠ 0 then .inl st
    else
      let ops := imageWords m 64 words
      let vs := (List.range views).map fun i => parseView m (vo i)
      let st := opsCheck (words + 1) ops [] false
      if st ≠ 0 then .inl st
      else if !mmaCheck (splitOps words ops) vs then .inl St.format
      else if 256 < loweredUnits words then .inl St.kernelLimit
      else if 16384 < usedUnits s + loweredUnits words then .inl St.kernelSpace
      else .inr { gen := 0, id := leField m 0x10 8, opWords := ops, views := vs }

/-! ### KERNEL_LOAD, KERNEL_LOWERING_DONE, KERNEL_UNLOAD -/

def mailKernelLoad (src : MailSrc) (corr : Nat) (m : Bytes) (s : State) : State :=
  let len := leField m 0x0C 4
  let off := leField m 0x10 8
  let s := sourceErrors (leField m 8 4) off len s
  orRefuse src 0x20 corr (mailBuffer s (leField m 8 4) off len true) (fun b s =>
    orRefuse src 0x20 corr (kernelCheck s (committedRead s (bufBase b + off) len)) (fun k s =>
      addJob (.lowering k (loweredUnits k.opWords.length)) src 0x20 corr s) s) s

/-- KERNEL_LOAD (R224, R649). -/
def execKernelLoad (src : MailSrc) (s : State) : Host.Outcome State Fault Refusal :=
  .next (mailStep src 0x20 (mailKernelLoad src) s)

/-- The handle of a kernel index and generation (R649). -/
def kernelHandle (idx gen : Nat) : Nat := idx + gen * 4096

/-- The end of lowering: the kernel takes the lowest free index, and the reply goes (R224, R649); or a kernel whose lowered code had a
parity error has been lowered again from its kept image (R521). -/
def loweringDone (job : Nat) (s : State) : State :=
  match Tab.find? job s.work.jobs with
  | some { kind := .lowering k _, .. } =>
    match Tab.freeKey 0 4096 s.work.kernels with
    | none => endJob job St.kernelLimit [] s
    | some idx =>
      let gen := (Tab.getD 0 idx s.work.kgens + 1) % 2 ^ 20
      let gen := if gen = 0 then 1 else gen
      endJob job St.ok (leBytes 4 (kernelHandle idx gen) ++ leBytes 4 0 ++ leBytes 8 k.id)
        { s with work.kernels := Tab.put idx { k with gen := gen } s.work.kernels
                 work.kgens := Tab.put idx gen s.work.kgens }
  | _ => { s with work.relower := Tab.del job s.work.relower }

/-- KERNEL_LOWERING_DONE (R225, R649). -/
def execKernelLoweringDone (job : Nat) (s : State) : Host.Outcome State Fault Refusal :=
  .next (if lkServing s then loweringDone job s else s)

/-- The kernel a handle names. -/
def kernelAt (s : State) (h : Nat) : Option Kernel :=
  (Tab.find? (h % 4096) s.work.kernels).filter fun k => k.gen == h / 4096

def mailKernelUnload (src : MailSrc) (corr : Nat) (m : Bytes) (s : State) : State :=
  let h := leField m 8 4
  match kernelAt s h with
  | none => answer src 0x21 corr St.kernelHandle [] s
  | some _ =>
    if s.work.graphs.any fun g => g.2.kernels.contains (h % 4096) then answer src 0x21 corr St.kernelBusy [] s
    else answer src 0x21 corr St.ok [] { s with work.kernels := Tab.del (h % 4096) s.work.kernels }

/-- KERNEL_UNLOAD (R254, R650). -/
def execKernelUnload (src : MailSrc) (s : State) : Host.Outcome State Fault Refusal :=
  .next (mailStep src 0x21 (mailKernelUnload src) s)

end Sys2Proof.Machine
end

