-- ==== Sys2Proof/Machine/Sched.lean ====
section
/-!
DEFINITION. Task graphs and the scheduler: graph images and their checks, dependences, admission, release, ends and
completion (chapter 5, R650 to R654).
-/

namespace Sys2Proof.Machine

/-! ### Stacks, cores and reaches (R83, R84, R888) -/

/-- A stack counts as powered: one unpowered by PS3 still does (R888). -/
def stackCounts (s : State) (k : Nat) : Bool := (s.stack k).powered || (s.stack k).ps3Off

/-- Cores of a stack that are not fenced (R728). -/
def unfenced (s : State) (k : Nat) : List Nat :=
  ((List.range 128).map (· + 128 * k)).filter fun c => (s.core c).fence == 0

/-- A task holds its cores: it runs or its members are stopping. -/
def holdsCores (t : Task) : Bool := t.phase == .running || t.phase == .stopping

/-- Every task of every resident graph, with its place. -/
def allTasks (s : State) : List (Nat × Nat × Graph × Task) :=
  s.work.graphs.flatMap fun g => g.2.tasks.map fun t => (g.1, t.1, g.2, t.2)

/-- Cores that members of running gangs stand on. -/
def busyCores (s : State) : List Nat :=
  (allTasks s).flatMap fun x => if holdsCores x.2.2.2 then x.2.2.2.members.map fun m => m.2.core else []

/-- Free unfenced cores of a stack, held cores counting as busy (R270, R722). -/
def freeCores (s : State) (k : Nat) : List Nat :=
  let busy := busyCores s
  (unfenced s k).filter fun c => !busy.contains c && !(s.core c).heldLane && (s.core c).testWords == []

/-- Where a gang of `g` goes among free cores of one stack (R270). -/
def placeGang (free : List Nat) (g : Nat) : Option (List Nat) :=
  let inReach := fun (r : Nat) => free.filter fun c => reachOf (c % 128) = r
  let fit := (List.range 8).filter fun r => g ≤ (inReach r).length
  if g ≤ 16 ∧ fit ≠ [] then
    let best := fit.foldl (fun (a : Option Nat) r => match a with
      | none => some r
      | some b => if (inReach r).length < (inReach b).length then some r else some b) none
    some ((inReach (best.getD 0)).take g)
  else if g ≤ free.length then some (free.take g) else none

/-! ### The graph image (R231 to R251) -/

/-- A buffer table entry as a view within its buffer (R237, R238). -/
def parseEntry (m : Bytes) (o : Nat) : View :=
  { space := 2, fmt := leField m (o + 4) 1 % 16, rank := leField m (o + 5) 1, base := leField m (o + 8) 8
    scaleOff := leField m (o + 0x10) 8, ext := readExts m (o + 0x18), strides := readStrides m (o + 0x28)
    handle := leField m o 4 }

/-- The refusal of a buffer table entry, or 0 (R238). ST_FORMAT, a format code of R31 above 11, comes after ST_BUFFER_HANDLE and before
ST_VIEW (DESIGN CHOICE, notes/assumptions/137.md). -/
def entryCheck (s : State) (m : Bytes) (o : Nat) : Nat :=
  let v := parseEntry m o
  if leField m (o + 4) 1 / 16 ≠ 0 ∨ leField m (o + 6) 2 ≠ 0 ∨ leField m (o + 0x38) 8 ≠ 0 then St.reserved
  else match bufOf s v.handle with
    | none => St.bufferHandle
    | some b =>
      if 12 ≤ v.fmt then St.format
      else if !v.formOk || !v.inside 0 b.size then St.view
      else 0

/-- An entry with module addresses (R239). -/
def entryView (s : State) (m : Bytes) (o : Nat) : View :=
  let v := parseEntry m o
  let base := ((bufOf s v.handle).map bufBase).getD 0
  { v with base := base + v.base, scaleOff := if isBlock v.fmt then base + v.scaleOff else 0 }

/-- A kernel table entry's refusal, or 0 (R236). -/
def kernelEntryCheck (s : State) (m : Bytes) (o : Nat) : Nat :=
  if leField m (o + 4) 4 ≠ 0 then St.reserved
  else match kernelAt s (leField m o 4) with
    | none => St.kernelHandle
    | some k => if k.id = leField m (o + 8) 8 then 0 else St.kernelMismatch

/-- A task record (R240 to R242). -/
def parseTask (m : Bytes) (o : Nat) : TaskRec :=
  let aff := leField m (o + 3) 1
  let counts := leField m (o + 7) 1
  { kernel := leField m o 2, gang := leField m (o + 2) 1
    affinity := if aff.testBit 7 then some (aff % 16) else none
    flags := leField m (o + 4) 2, priority := leField m (o + 6) 1 % 16
    ins := (List.range (min 8 (counts % 16))).map fun i => leField m (o + 8 + 2 * i) 2
    outs := (List.range (min 4 (counts / 16 % 8))).map fun i => leField m (o + 0x18 + 2 * i) 2
    param := leField m (o + 0x20) 2, cogroup := leField m (o + 0x24) 2, tag := leField m (o + 0x28) 8
    runLimit := leField m (o + 0x30) 4 }

/-- A reserved field of a task record is not 0 (R251 step 11). -/
def taskReserved (m : Bytes) (o : Nat) : Bool :=
  let aff := leField m (o + 3) 1
  let counts := leField m (o + 7) 1
  bitsOf aff 6 4 ≠ 0 || (!aff.testBit 7 && aff % 16 ≠ 0) || leField m (o + 4) 2 / 64 ≠ 0 ||
  leField m (o + 6) 1 / 16 ≠ 0 || counts.testBit 7 ||
  ((List.range 8).any fun i => counts % 16 ≤ i && leField m (o + 8 + 2 * i) 2 ≠ 0) ||
  ((List.range 4).any fun i => counts / 16 % 8 ≤ i && leField m (o + 0x18 + 2 * i) 2 ≠ 0) ||
  (!(leField m (o + 4) 2).testBit 5 && leField m (o + 0x20) 2 ≠ 0) ||
  leField m (o + 0x22) 2 ≠ 0 || leField m (o + 0x26) 2 ≠ 0 || leField m (o + 0x34) 12 ≠ 0

/-- A parameter entry: I8, rank 1, 4 to 4,096 bytes (R243). -/
def paramOk (v : View) : Bool := v.fmt == 8 && v.rank == 1 && decide (4 ≤ v.extAt 0 ∧ v.extAt 0 ≤ 4096)

/-- The sender is a session opened with an ADMIN slot (R770); JTAG is no session. -/
def adminSession (s : State) : MailSrc → Bool
  | .session i => senderClass s (.session i) == some 0
  | .jtag => false

/-- The refusal of a task record, or 0: steps 11 to 19 of R251. Step 19 adds nothing to the checks made at load, which
concern local views only (R178). -/
def taskCheck (s : State) (src : MailSrc) (m : Bytes) (o kernels : Nat) (views : List View) : Nat :=
  let t := parseTask m o
  let counts := leField m (o + 7) 1
  let nb := views.length
  let hasParam := t.flags.testBit 5
  if taskReserved m o then St.reserved
  else if kernels ≤ t.kernel ∨ ((t.ins ++ t.outs).any fun i => nb ≤ i) ∨ (hasParam ∧ nb ≤ t.param) then St.graphForm
  else if 8 < counts % 16 ∨ 4 < counts / 16 % 8 then St.graphForm
  else if t.gang = 0 ∨ 128 < t.gang then St.gang
  else if (match t.affinity with
      | some k => !stackCounts s k || decide ((unfenced s k).length < t.gang)
      | none => false) then St.affinity
  else if hasParam && !(match views[t.param]? with
      | some v => paramOk v
      | none => false) then St.paramSize
  else if t.flags.testBit 0 && !(lifeCycle s == 1 || lifeCycle s == 2) then St.lifecycle
  else if t.flags.testBit 0 && !(adminSession s src) then St.denied
  else 0

/-- The refusal of an edge, or 0 (R246, R247). -/
def edgeCheck (m : Bytes) (o tasks : Nat) : Nat :=
  let a := leField m o 4
  let b := leField m (o + 4) 4
  if 2 ^ 20 ≤ a ∨ 2 ^ 20 ≤ b then St.reserved else if b ≤ a ∨ tasks ≤ b then St.edge else 0

/-! ### Dependences (R255 to R258) -/

/-- The views of a task, each with whether it is an output; the parameter block is an input (R245). -/
def taskViews (views : List View) (t : TaskRec) : List (View × Bool) :=
  let at' := fun (i : Nat) => views.getD i emptyView
  t.ins.map (fun i => (at' i, false)) ++ t.outs.map (fun i => (at' i, true)) ++
  if t.flags.testBit 5 then [(at' t.param, false)] else []

/-- Two views overlap: one buffer, and spans that share a byte (R255, R256). -/
def viewsOverlap (a b : View) : Bool :=
  a.handle == b.handle &&
  match a.span, b.span with
  | some x, some y => decide (x.1 ≤ y.2 ∧ y.1 ≤ x.2)
  | _, _ => false

/-- Two tasks' views overlap with an output among the two (R255). -/
def tasksOverlap (a b : List (View × Bool)) : Bool :=
  a.any fun x => b.any fun y => (x.2 || y.2) && viewsOverlap x.1 y.1

/-- Task `b` of a graph depends on task `a` of the same graph (R255). -/
def dependsIn (g : Graph) (a b : Nat) : Bool :=
  decide (a < b) && (g.edges.contains (a, b) ||
    match Tab.find? a g.tasks, Tab.find? b g.tasks with
    | some x, some y => tasksOverlap (taskViews g.views x.info) (taskViews g.views y.info)
    | _, _ => false)

/-- A task of a graph depends on a task of a graph accepted earlier (R258). -/
def dependsAcross (ga : Graph) (a : Task) (gb : Graph) (b : Task) : Bool :=
  decide (ga.order < gb.order) && tasksOverlap (taskViews ga.views a.info) (taskViews gb.views b.info)

/-- The tasks a task depends on: those of other graphs, or of its own. -/
def predsOf (s : State) (slot task : Nat) (g : Graph) (t : Task) : List Task :=
  ((allTasks s).filter fun x =>
    if x.1 = slot then dependsIn g x.2.1 task else dependsAcross x.2.2.1 x.2.2.2 g t).map fun x => x.2.2.2

/-- The tasks of other graphs a task depends on (R264). -/
def predsAcross (s : State) (slot : Nat) (g : Graph) (t : Task) : List Task :=
  ((allTasks s).filter fun x => x.1 ≠ slot && dependsAcross x.2.2.1 x.2.2.2 g t).map fun x => x.2.2.2

/-! ### Co-start groups (R277, R279) -/

/-- The tasks of a co-start group. -/
def groupTasks (g : Graph) (n : Nat) : List (Nat × Task) := g.tasks.filter fun t => t.2.info.cogroup = n

/-- R277's refusals over a graph. -/
def cogroupBad (g : Graph) : Bool :=
  (g.tasks.any fun t => t.2.info.flags.testBit 2 && t.2.info.cogroup == 0) ||
  (((g.tasks.map fun t => t.2.info.cogroup).filter (· ≠ 0)).eraseDups).any fun n =>
    let l := groupTasks g n
    let lo := (l.head?.map Prod.fst).getD 0
    let hi := (l.getLast?.map Prod.fst).getD 0
    16 < l.length || hi + 1 - lo ≠ l.length ||
    (l.any fun a => l.any fun b => dependsIn g a.1 b.1) ||
    (List.range 16).any fun k =>
      128 < (l.filter fun t => t.2.info.affinity = some k).foldl (fun a t => a + t.2.info.gang) 0

/-- The checks of R251 in their order: the refusal, or the graph. A header field that a short image does not hold reads 0 until step 5
refuses the image (DESIGN CHOICE, notes/assumptions/172.md). -/
def graphCheck (s : State) (src : MailSrc) (image : Nat) (m : Bytes) : Nat ⊕ Graph :=
  let tc := leField m 0x08 4
  let ec := leField m 0x0C 4
  let kc := leField m 0x10 2
  let bc := leField m 0x14 4
  let rh := leField m 0x18 4
  let ro := leField m 0x20 8
  let ko := 96
  let bo := ko + 16 * kc
  let hiEnd := bo + 64 * bc
  let eo := hiEnd + 64 * tc
  if 64 ≤ s.work.graphs.length then .inl St.graphSlots
  else if leField m 0 4 ≠ 0x46475359 then .inl St.graphForm
  else if leField m 5 1 ≠ 1 ∨ leField m 4 1 ≠ 0 then .inl St.formVersion
  else if 1048576 < tc ∨ 16777216 < ec ∨ 4096 < kc ∨ 65536 < bc then .inl St.graphLimit
  else if m.length ≠ eo + 8 * ec then .inl St.graphForm
  else if leField m 6 2 ≠ 0 ∨ leField m 0x12 2 ≠ 0 ∨ leField m 0x1C 4 ≠ 0 ∨ leField m 0x50 16 ≠ 0 then .inl St.reserved
  else if shake256 (m.drop 0x60) ≠ (m.drop 0x30).take 32 then .inl St.graphDigest
  else
    let st := firstStatus ((List.range kc).map fun i => kernelEntryCheck s m (ko + 16 * i))
    if st ≠ 0 then .inl st
    else
      let st := firstStatus ((List.range bc).map fun i => entryCheck s m (bo + 64 * i))
      if st ≠ 0 then .inl st
      else
        let views := (List.range bc).map fun i => entryView s m (bo + 64 * i)
        let rb := bufOf s rh
        let area : View := { space := 2, fmt := 8, rank := 1, base := (rb.map bufBase).getD 0 + ro
                             ext := [16 * tc, 0, 0, 0], strides := [1, 0, 0, 0], handle := rh }
        if rh ≠ 0 ∧ rb.isNone then .inl St.bufferHandle
        else if ro % 16 ≠ 0 ∨ (rh = 0 ∧ ro ≠ 0) ∨ (rh ≠ 0 ∧ ((rb.map Buffer.size).getD 0 < ro + 16 * tc ∨
            views.any fun v => viewsOverlap area v)) then .inl St.resultRange
        else
          let st := firstStatus ((List.range tc).map fun i => taskCheck s src m (hiEnd + 64 * i) kc views)
          if st ≠ 0 then .inl st
          else
            let st := firstStatus ((List.range ec).map fun i => edgeCheck m (eo + 8 * i) tc)
            if st ≠ 0 then .inl st
            else
              let g : Graph :=
                { session := match src with
                    | .session i => some i
                    | .jtag => none
                  sessionHandle := srcHandle s src, order := 0, tag := leField m 0x28 8, image := image
                  kernels := (List.range kc).map fun i => leField m (ko + 16 * i) 4 % 4096
                  named := (List.range kc).map fun i => (leField m (ko + 16 * i) 4, leField m (ko + 16 * i + 8) 8)
                  views := views
                  tasks := (List.range tc).map fun i => (i, { info := parseTask m (hiEnd + 64 * i) })
                  edges := ((List.range ec).map fun i => (leField m (eo + 8 * i) 4, leField m (eo + 8 * i + 4) 4)).eraseDups
                  resultHandle := rh, resultOffset := ro }
              if cogroupBad g then .inl St.cogroup else .inr g

/-! ### Task ends (R248 to R250, R289 to R292) -/

/-- A result record (R248). -/
def resultRecord (t : Task) (stamp : Nat) : Bytes :=
  leBytes 2 t.status ++ leBytes 1 t.aflags ++ leBytes 1 (min 3 t.replays) ++ leBytes 4 0 ++ leBytes 8 stamp

/-- The end of a task takes its stamp: its record is written and its error logged (R248, R250, R292). The record's write carries the
end stamp itself, which puts it into the pound in which the task ends (R250; notes/assumptions/142.md). -/
def recordEnd (slot task stamp : Nat) (s : State) : State :=
  match s.graph? slot, s.task? slot task with
  | some g, some t =>
    let now := stampInstant s.ft stamp
    let s := s.updTask slot task fun t => { t with endStamp := some stamp, endSerial := serialOfTime s now, recorded := true }
    let s := if t.status ≠ St.ok ∧ t.status ≠ St.skipped then
        logEvent Ev.taskError (leBytes 1 slot ++ leBytes 4 task ++ leBytes 8 t.info.tag ++ leBytes 2 t.status ++ leBytes 8 stamp) s
      else s
    match bufOf s g.resultHandle with
    | some b => stampedWrite 30 stamp (bufBase b + g.resultOffset + 16 * task) (resultRecord t stamp) .other s
    | none => s
  | _, _ => s

/-- Messages that wait at a member of a task are returned when the task ends: its cores hold the roles no longer (R287). -/
def returnParked (slot task : Nat) (s : State) : State :=
  (s.work.msgs.filter fun p => p.2.stage = .waiting ∧ p.2.dst.slot = slot ∧ p.2.dst.task = task).foldl
    (fun s p => returnMsg p.1 p.2 s) s

/-- A task's reduction groups go back to its stack's pool (R276). -/
def freeGroupsOf (t : Task) (s : State) : State :=
  dropSums t.stack t.groups (s.updStack t.stack fun k => { k with busyGroups := k.busyGroups.filter fun g => !t.groups.contains g })

/-- Ends a task with a status: it leaves its window, gives back its reduction groups, asks for its end stamp, and lets a close
come that waited for the end of a task (R265, R273, R276, R289, R355). -/
def endTask (slot task status : Nat) (s : State) : State :=
  match s.task? slot task with
  | none => s
  | some t =>
    let fl := t.members.foldl (fun a m => a ||| m.2.aflags) t.aflags
    let s := freeGroupsOf t s
    let s := s.updTask slot task fun t =>
      { t with phase := .ended, status := status, aflags := fl, groups := []
               members := t.members.mapVals fun _ x =>
                 { abandonMember x with ended := true, waitFrom := if x.ended then x.waitFrom else s.ft } }
    match issueStamp 30 (.taskEnd slot task) (returnParked slot task s) with
    | (some st, s) => poolTrigger (recordEnd slot task st s)
    | (none, s) => poolTrigger s

/-- A task not yet released that depends on a task which ended with another status than ST_OK (R290). -/
def skippable (s : State) (x : Nat × Nat × Graph × Task) : Bool :=
  (x.2.2.2.phase == .image || x.2.2.2.phase == .admitted) &&
  (predsOf s x.1 x.2.1 x.2.2.1 x.2.2.2).any fun p => p.phase == .ended && p.status != St.ok

/-- Ends every task that R290 skips, until none is left. -/
def skipAll : Nat → State → State
  | 0, s => s
  | fuel + 1, s =>
    match (allTasks s).find? (skippable s) with
    | none => s
    | some x => skipAll fuel (endTask x.1 x.2.1 St.skipped s)

/-- A graph with tasks whose every task has ended ends, and asks for the close of the pound at the tick after the TIME of
the last end stamp (R295, R355). -/
def graphEnd (slot : Nat) (s : State) : State :=
  match s.graph? slot with
  | none => s
  | some g =>
    if g.ended || g.tasks = [] || g.tasks.any fun t => t.2.phase != .ended || t.2.endStamp.isNone then s
    else
      let last := g.tasks.foldl (fun a t => max a (stampInstant s.ft (t.2.endStamp.getD 0))) 0
      let serial := g.tasks.foldl (fun a t => max a t.2.endSerial) 0
      askClose (last + 1) .graphEnd (s.updGraph slot fun g => { g with ended := true, endPound := some serial })

/-- A task is ready: every task it depends on has ended with ST_OK. -/
def depsMet (s : State) (slot task : Nat) (g : Graph) (t : Task) : Bool :=
  (predsOf s slot task g t).all fun p => p.phase == .ended && p.status == St.ok

/-- Notes the instant from which each admitted task is ready; a task that a rollback releases again keeps its age (R267, R293). -/
def markReady (s : State) : State :=
  (allTasks s).foldl (fun s' x =>
    if x.2.2.2.phase == .admitted && x.2.2.2.readyAt.isNone && depsMet s x.1 x.2.1 x.2.2.1 x.2.2.2 then
      s'.updTask x.1 x.2.1 fun t => { t with readyAt := some (t.firstReady.getD s.ft) }
    else s') s

/-- What follows the end of a task: skipped dependants, ended graphs, tasks that have become ready (R290, R295). -/
def settle (s : State) : State :=
  let s := skipAll (allTasks s).length s
  let s := (s.work.graphs.keys).foldl (fun s g => graphEnd g s) s
  markReady s

/-- A task's writes are all applied (R259). -/
def taskWritesDone (s : State) (slot task : Nat) : Bool :=
  !s.mem.writes.any fun w => match w.2.orig with
    | .task g t => g == slot && t == task
    | .xfer m _ => m.slot == slot && m.task == task
    | _ => false

/-- Tasks that wait for messages of an ended task: their RECVs end them with ST_RANK (R284). -/
def failPeers (slot task : Nat) (s : State) : State :=
  (allTasks s).foldl (fun s x =>
    if x.1 = slot && x.2.1 ≠ task && x.2.2.2.phase == .running && x.2.2.2.members.any fun m => m.2.out.any fun o => match o.op with
        | .recv _ sl t _ _ _ => sl == slot && t == task
        | _ => false
    then endGang slot x.2.1 St.rank s else s) s

/-- A quiesce ends when no task runs any more; a transition to PS3 then closes the open pound (R395, R685). -/
def quiesceCheck (s : State) : State :=
  match s.power.transition with
  | none => s
  | some t =>
    if (t.target = 2 ∨ t.target = 3) ∧ t.quiesced.isNone ∧ !((allTasks s).any fun x => holdsCores x.2.2.2) then
      let s : State := { s with power.transition := some { t with quiesced := some s.ft } }
      if t.target = 3 then askClose s.ft .power s else s
    else s

/-- TASK_END: the last member has ended or the gang has stopped, and its writes are applied (R157, R259, R273). -/
def taskEndStep (slot task : Nat) (s : State) : State :=
  match s.task? slot task with
  | none => s
  | some t =>
    let past := t.phase == .stopping || (t.phase == .running && t.members.all fun m => m.2.ended)
    if past && taskWritesDone s slot task then
      let st := if t.phase == .stopping then t.status else St.ok
      let s := endTask slot task st s
      let s := if st = St.ok then s else failPeers slot task s
      quiesceCheck (settle s)
    else s

def execTaskEnd (slot task : Nat) (s : State) : Host.Outcome State Fault Refusal := .next (taskEndStep slot task s)

/-! ### Graph completion (R295 to R298, R654) -/

/-- The status of a graph (R298). -/
def graphStatus (g : Graph) : Nat :=
  if g.cancelled then St.cancelled
  else match g.faulted with
    | some st => st
    | none => if g.tasks.any fun t => t.2.status != St.ok then St.taskError else St.ok

/-- Reports a graph's completion and frees its slot (R297). -/
def reportGraph (slot serial : Nat) (s : State) : State :=
  match s.graph? slot with
  | none => s
  | some g =>
    let bad := (g.tasks.filter fun t => t.2.status ≠ St.ok).length
    let st := graphStatus g
    let s := logEvent Ev.graphDone (leBytes 1 slot ++ leBytes 8 g.tag ++ leBytes 2 st ++ leBytes 4 bad ++ leBytes 8 serial) s
    let images := (s.mem.preImages.filter fun p => p.slot == slot).map PreImage.frame
    let body := leBytes 2 0x7F03 ++ leBytes 2 0 ++ leBytes 2 st ++ leBytes 2 0 ++ leBytes 1 slot ++ leBytes 3 0 ++
      leBytes 4 bad ++ leBytes 8 g.tag ++ leBytes 8 serial
    let s := match g.session with
      | some i => if sessionLive s i g.sessionHandle then queueMail i .push body s else s
      | none => s
    let s : State :=
      { s with work.graphs := Tab.del slot s.work.graphs
               mem.preImages := s.mem.preImages.filter fun p => p.slot ≠ slot
               pound.taskSet := s.pound.taskSet.filter fun p => p.1 ≠ slot
               pound.closingSet := s.pound.closingSet.filter fun p => p.1 ≠ slot }
    releasePins (.graph slot) (if images = [] then s else tablesUpdate (releaseFrames images s))

/-- A graph ended at once is reported, with the serial of the last commit, when its last task has its end stamp (R317, R469,
R688). -/
def killedReport (slot : Nat) (s : State) : State :=
  match s.graph? slot with
  | none => s
  | some g => if g.killed && g.tasks.all fun t => t.2.endStamp.isSome then reportGraph slot s.pound.committed s else s

/-- Ends a graph at once with a status, its tasks that have not ended with it, each with its end stamp and its event, and reports it
(R289, R292, R469, R688). -/
def killGraph (status slot : Nat) (s : State) : State :=
  match s.graph? slot with
  | none => s
  | some g =>
    let s := (g.tasks.filter fun t => t.2.phase ≠ .ended).foldl (fun s t => endTask slot t.1 status (dropReads slot t.1 s)) s
    killedReport slot (s.updGraph slot fun g => { g with faulted := some status, ended := true, killed := true })

/-- Ends every resident graph at once. -/
def killGraphs (status : Nat) (s : State) : State := (s.work.graphs.keys).foldl (fun s g => killGraph status g s) s

/-! ### GRAPH_SUBMIT, GRAPH_CHECK_DONE, GRAPH_CANCEL -/

def mailGraphSubmit (src : MailSrc) (corr : Nat) (m : Bytes) (s : State) : State :=
  let h := leField m 8 4
  let off := leField m 0x10 8
  let len := leField m 0x18 8
  let s := sourceErrors h off len s
  orRefuse src 0x28 corr (mailBuffer s h off len true) (fun b s =>
    match graphCheck s src h (committedRead s (bufBase b + off) len) with
      | .inl st => answer src 0x28 corr st [] s
      | .inr g => addJob (.graphCheck { g with imageAt := bufBase b + off, imageLen := len } St.ok h) src 0x28 corr s) s

/-- GRAPH_SUBMIT (R251, R651). -/
def execGraphSubmit (src : MailSrc) (s : State) : Host.Outcome State Fault Refusal :=
  .next (mailStep src 0x28 (mailGraphSubmit src) s)

/-- What a checked graph names is still there when its reply goes: each kernel by its handle and KERNEL_ID (R236, R253). -/
def graphStillGood (s : State) (g : Graph) (image : Nat) : Nat :=
  if g.named.any fun k => (kernelAt s k.1).isNone then St.kernelHandle
  else if g.named.any fun k => ((kernelAt s k.1).map Kernel.id) != some k.2 then St.kernelMismatch
  else if (bufOf s image).isNone || (g.resultHandle ≠ 0 && (bufOf s g.resultHandle).isNone) ||
      g.views.any fun v => (bufOf s v.handle).isNone then St.bufferHandle
  else 0

/-- The reply to a graph that passed: it takes the lowest free slot (R252, R253, R296). -/
def graphCheckDone (job : Nat) (s : State) : State :=
  match Tab.find? job s.work.jobs with
  | some { kind := .graphCheck g _ image, .. } =>
    let st := if lightLost s then St.lightLost else graphStillGood s g image
    if st ≠ 0 then endJob job st [] s
    else match Tab.freeKey 0 64 s.work.graphs with
      | none => endJob job St.graphSlots [] s
      | some slot =>
        settle (endJob job St.ok (leBytes 1 slot ++ leBytes 7 0)
          { s with work.graphs := Tab.put slot { g with order := s.work.graphNo, ended := g.tasks = [] } s.work.graphs
                   work.graphNo := s.work.graphNo + 1 })
  | _ => s

/-- GRAPH_CHECK_DONE (R252, R253). -/
def execGraphCheckDone (job : Nat) (s : State) : Host.Outcome State Fault Refusal :=
  .next (if lkServing s then graphCheckDone job s else s)

/-- Ends the tasks of a cancelled graph that have not been released (R294). -/
def cancelGraph (slot : Nat) (s : State) : State :=
  match s.graph? slot with
  | none => s
  | some g =>
    let s := s.updGraph slot fun g => { g with cancelled := true }
    settle ((g.tasks.filter fun t => t.2.phase = .image ∨ t.2.phase = .admitted).foldl
      (fun s t => endTask slot t.1 St.cancelled s) s)

def mailGraphCancel (src : MailSrc) (corr : Nat) (m : Bytes) (s : State) : State :=
  let slot := leField m 8 1
  match s.graph? slot with
  | none => answer src 0x29 corr St.graphSlot [] s
  | some g =>
    if g.tag = leField m 0x10 8 then answer src 0x29 corr St.ok [] (cancelGraph slot s)
    else answer src 0x29 corr St.graphSlot [] s

/-- GRAPH_CANCEL (R294, R653). -/
def execGraphCancel (src : MailSrc) (s : State) : Host.Outcome State Fault Refusal :=
  .next (mailStep src 0x29 (mailGraphCancel src) s)

/-! ### Admission (R261 to R266, R278, R279) -/

/-- Tasks in flight bound to a stack: its window (R261, R265). -/
def windowCount (s : State) (k : Nat) : Nat :=
  ((allTasks s).filter fun x => x.2.2.2.stack = k ∧ (x.2.2.2.phase = .admitted ∨ holdsCores x.2.2.2)).length

/-- The best of a list of stacks by a score, the lowest number winning ties. -/
def bestStack (score : Nat → Nat) (l : List Nat) : Option Nat :=
  l.foldl (fun (a : Option Nat) k => match a with
    | none => some k
    | some b => if score b < score k then some k else some b) none

/-- The stack a task in no co-start group is bound to (R262), or none (R266). -/
def bindTask (s : State) (t : Task) : Option Nat :=
  let ok := fun (k : Nat) => stackCounts s k && decide (t.info.gang ≤ (unfenced s k).length)
  match t.info.affinity with
  | some k => if ok k then some k else none
  | none => bestStack (fun k => 1024 - windowCount s k) ((List.range 16).filter ok)

/-- Tasks in descending order of GANG, lower index first (R279). -/
def insertGang (x : Nat × Task) : List (Nat × Task) → List (Nat × Task)
  | [] => [x]
  | y :: t => if y.2.info.gang ≤ x.2.info.gang then x :: y :: t else y :: insertGang x t

/-- Counts gangs against stacks. -/
def countGang (k g : Nat) (c : Tab Nat) : Tab Nat := Tab.put k (Tab.getD 0 k c + g) c

/-- The binding of a co-start group's tasks to stacks, or none (R279). -/
def bindGroup (s : State) (l : List (Nat × Task)) : Option (List (Nat × Nat)) :=
  let cap := fun (k : Nat) => if stackCounts s k then (unfenced s k).length else 0
  let fixed := l.filterMap fun t => t.2.info.affinity.map fun k => (t.1, k, t.2.info.gang)
  let c0 : Tab Nat := fixed.foldl (fun c x => countGang x.2.1 x.2.2 c) []
  if (List.range 16).any fun k => cap k < Tab.getD 0 k c0 then none
  else
    let rest := (l.filter fun t => t.2.info.affinity.isNone).foldr insertGang []
    let r := rest.foldl (fun (a : Option (Tab Nat × List (Nat × Nat))) t =>
      match a with
      | none => none
      | some (c, b) =>
        let left := fun (k : Nat) => cap k - Tab.getD 0 k c
        match bestStack left ((List.range 16).filter fun k => stackCounts s k) with
        | some k => if t.2.info.gang ≤ left k then some (countGang k t.2.info.gang c, b ++ [(t.1, k)]) else none
        | none => none) (some (c0, []))
    r.map fun x => (fixed.map fun f => (f.1, f.2.1)) ++ x.2

/-- The next admission unit of a graph: task indices of one task, or of a whole co-start group (R261). -/
def admissionUnit (g : Graph) : List (Nat × Task) :=
  match Tab.find? g.admitNext g.tasks with
  | none => []
  | some t => if t.info.cogroup = 0 then [(g.admitNext, t)] else groupTasks g t.info.cogroup

/-- What admission of a graph's next unit would do: nothing, end the unit's tasks, or bind them. -/
inductive Admit where
  | pause
  | unfit
  | bind (l : List (Nat × Nat))
deriving DecidableEq, Repr

/-- Decides admission of a unit (R262 to R264, R266, R279). -/
def admitDecide (s : State) (slot : Nat) (g : Graph) : Admit :=
  let u := admissionUnit g
  let live := u.filter fun t => t.2.phase = .image
  if g.cancelled || u = [] then .pause
  else if live.any fun t => (predsAcross s slot g t.2).any fun p => p.phase == .image then .pause
  else if live = [] then .bind []
  else
    let b := match live with
      | [(i, t)] => if t.info.cogroup = 0 then (bindTask s t).map fun k => [(i, k)] else bindGroup s live
      | l => bindGroup s l
    match b with
    | none => .unfit
    | some l =>
      if (List.range 16).any fun k =>
          let n := (l.filter fun x => x.2 = k).length
          n ≠ 0 && decide (1024 < windowCount s k + n) then .pause
      else .bind l

/-- Graphs whose next unit can be admitted now. -/
def admittable (s : State) : List Nat :=
  (s.work.graphs.filter fun g => admitDecide s g.1 g.2 ≠ .pause).map Prod.fst

/-- The phase of a task is set when it enters a window. -/
def admitTask (slot : Nat) (x : Nat × Nat) (s : State) : State :=
  s.updTask slot x.1 fun t => { t with phase := .admitted, stack := x.2 }

/-- ADMISSION: the next unit of the graph whose turn it is (R261). -/
def admissionStep (slot : Nat) (s : State) : State :=
  if nextAfter (admittable s) s.work.admitTurn ≠ some slot then s
  else match s.graph? slot with
    | none => s
    | some g =>
      let u := admissionUnit g
      let last := (u.getLast?.map Prod.fst).getD g.admitNext
      let s : State := { s with work.admitTurn := slot }
      let s := s.updGraph slot fun g => { g with admitNext := last + 1 }
      match admitDecide s slot g with
      | .pause => s
      | .unfit => settle ((u.filter fun t => t.2.phase = .image).foldl (fun s t => endTask slot t.1 St.gangFit s) s)
      | .bind l => markReady (l.foldl (fun s x => admitTask slot x s) s)

def execAdmission (slot : Nat) (s : State) : Host.Outcome State Fault Refusal := .next (admissionStep slot s)

/-- A stack no longer has the cores a task needs (R888). -/
def stackUnfit (s : State) (k g : Nat) : Bool := !stackCounts s k || decide ((unfenced s k).length < g)

/-- TASK_REBIND (R888). -/
def taskRebindStep (slot task : Nat) (s : State) : State :=
  match s.task? slot task with
  | none => s
  | some t =>
    if t.phase == .admitted && t.info.cogroup == 0 && stackUnfit s t.stack t.info.gang then
      match (if t.info.affinity.isSome then none else bindTask s t) with
      | some k => s.updTask slot task fun t => { t with stack := k, starving := false }
      | none => settle (endTask slot task St.gangFit s)
    else s

def execTaskRebind (slot task : Nat) (s : State) : Host.Outcome State Fault Refusal := .next (taskRebindStep slot task s)

/-- The tasks of a co-start group that wait for release. -/
def groupWaiting (g : Graph) (n : Nat) : List (Nat × Task) := (groupTasks g n).filter fun t => t.2.phase = .admitted

/-- The gangs of a bound group no longer fit together on their stacks (R280). -/
def groupUnfit (s : State) (l : List (Nat × Task)) : Bool :=
  (List.range 16).any fun k =>
    let need := (l.filter fun t => t.2.stack = k).foldl (fun a t => a + t.2.info.gang) 0
    need ≠ 0 && stackUnfit s k need

/-- COGROUP_REBIND (R280). -/
def cogroupRebindStep (slot n : Nat) (s : State) : State :=
  match s.graph? slot with
  | none => s
  | some g =>
    let l := groupWaiting g n
    if n ≠ 0 && l ≠ [] && groupUnfit s l then
      match bindGroup s l with
      | some b => b.foldl (fun s x => s.updTask slot x.1 fun t => { t with stack := x.2, starving := false }) s
      | none => settle (l.foldl (fun s t => endTask slot t.1 St.gangFit s) s)
    else s

def execCogroupRebind (slot group : Nat) (s : State) : Host.Outcome State Fault Refusal :=
  .next (cogroupRebindStep slot group s)

/-! ### Release (R244, R267 to R276, R278, R285) -/

/-- The scheduler releases tasks now: a pound is open, no recovery, self-test, debug halt, quiesce, light loss or
stranding stands in the way (R370, R469, R673, R685, R743, R749). -/
def releasesOn (s : State) : Bool :=
  ready s && s.pound.opened && s.pound.recovery.isNone && s.lk.test.isNone && s.sec.halted.isNone && !stranded s &&
  !lightLost s && decide (s.power.pstate < 2) &&
  (match s.power.transition with
    | some t => decide (t.target < 2)
    | none => true)

/-- Effective priority (R267). -/
def effPriority (s : State) (t : Task) : Nat :=
  min 15 (t.info.priority + (s.ft - t.readyAt.getD s.ft) / 2 ^ 16)

/-- A task that waits for release on a stack. -/
def isReady (t : Task) : Bool := t.phase == .admitted && t.readyAt.isSome

/-- `a` is offered cores before `b` (R268). -/
def before (s : State) (a b : Nat × Nat × Graph × Task) : Bool :=
  let pa := effPriority s a.2.2.2
  let pb := effPriority s b.2.2.2
  if pa ≠ pb then pb < pa
  else if a.2.2.1.order ≠ b.2.2.1.order then a.2.2.1.order < b.2.2.1.order else a.2.1 < b.2.1

/-- Ready tasks in release order. -/
def insertReady (s : State) (x : Nat × Nat × Graph × Task) :
    List (Nat × Nat × Graph × Task) → List (Nat × Nat × Graph × Task)
  | [] => [x]
  | y :: t => if before s x y then x :: y :: t else y :: insertReady s x t

/-- The ready tasks of a stack in the order of R268. A task whose stack has lost the cores it needs is not checked for release
before it is bound again (R280, R888). -/
def readyOrder (s : State) (k : Nat) : List (Nat × Nat × Graph × Task) :=
  ((allTasks s).filter fun x => isReady x.2.2.2 && x.2.2.2.stack == k && !stackUnfit s k x.2.2.2.info.gang).foldr
    (insertReady s) []

/-- Free reduction group numbers of a stack (R276). -/
def freeGroups (s : State) (k : Nat) : List Nat := (List.range 64).filter fun g => !(s.stack k).busyGroups.contains g

/-- Where a task would go now, or none where it does not fit (R269, R270, R276). -/
def fitTask (s : State) (t : Task) : Option (List Nat) :=
  if t.info.flags.testBit 1 && decide ((freeGroups s t.stack).length < 4) then none
  else placeGang (freeCores s t.stack) t.info.gang

/-- The pages of a task's output spans that overlap its input spans (R373). -/
def inOutPages (g : Graph) (t : Task) : List Nat :=
  let vs := taskViews g.views t.info
  let ins := vs.filter fun v => !v.2
  let outs := vs.filter fun v => v.2
  ((outs.filter fun o => ins.any fun i => viewsOverlap i.1 o.1).flatMap fun o => match o.1.span with
    | some (lo, hi) => (List.range (hi.toNat / 65536 + 1 - lo.toNat / 65536)).map (· + lo.toNat / 65536)
    | none => []).eraseDups

/-- The bytes of a task's parameter block, read at release (R244). Those of a remote buffer are free values, from `seed`. -/
def paramBytes (s : State) (a : Access) (v : View) (seed : Nat) : Bytes :=
  (List.range (v.extAt 0)).map fun (i : Nat) => spaceByte s a v seed (v.bitAt (Int.ofNat i * v.strideAt 0) / 8)

/-- The view slots of a member at its start (R132, R143). -/
def startViews (g : Graph) (t : Task) (k : Kernel) : Tab View :=
  (t.info.ins.zipIdx.map fun p => (p.2, { g.views.getD p.1 emptyView with readOnly := true })) ++
  (t.info.outs.zipIdx.map fun p => (8 + p.2, { g.views.getD p.1 emptyView with readOnly := false })) ++
  (k.views.zipIdx.map fun p => (12 + p.2, p.1))

/-- A page as a task finds it: the newest version with its poison (R367, R373, R524). -/
def pageNow (s : State) (p : Nat) : PageBefore :=
  match newestShadow s p with
  | some h => { cells := h.cells, poison := h.poison, marked := h.marked }
  | none => { cells := committedCells s p, poison := pagePoison s p, marked := ((committedFrame s p).map (wrongLines s)).getD [] }

/-- Binds a task's roles to cores and starts it (R132, R244, R273, R276, R285): a new generation of each role, its home
pound at its first release, its parameter block, and a start stamp. -/
def startTask (slot task : Nat) (cores : List Nat) (s : State) : State :=
  match s.graph? slot, s.task? slot task with
  | some g, some t =>
    match kernelOf s g t with
    | none => s
    | some k =>
      let a : Access := { ref := { slot := slot, task := task, rank := 0 }, core := 0, replay := t.replays != 0, stack := t.stack }
      let pv := { g.views.getD t.info.param emptyView with readOnly := true }
      let hasParam := t.info.flags.testBit 5
      let groups := if t.info.flags.testBit 1 then (freeGroups s t.stack).take 4 else []
      let views := startViews g t k
      let key := fun (rank : Nat) => roleKey { slot := slot, task := task, rank := rank }
      let gens : Tab Nat := cores.zipIdx.foldl (fun gs c => Tab.put (key c.2) ((Tab.getD 0 (key c.2) gs + 1) % 65536) gs) s.work.roleGens
      let (seed, s) := if hasParam && viewRemote s pv then draw s else (0, s)
      let (st, s) := issueStamp 30 (.taskStart slot task) s
      let members : Tab Member := cores.zipIdx.map fun c =>
        (c.2, { core := c.1, views := views, gen := Tab.getD 0 (key c.2) gens, waiting := if st.isSome then none else some .stamp })
      let s := s.updStack t.stack fun k => { k with busyGroups := k.busyGroups ++ groups, lastRelease := some s.ft }
      let prior : Tab PageBefore := if t.home.any (· ≤ s.pound.committed) then t.before
        else (inOutPages g t).map fun p => (p, pageNow s p)
      let s' := s.updTask slot task fun t =>
        { t with phase := .running, members := members, groups := groups, before := prior, stopBy := none
                 home := some (t.home.getD (openSerial s)), attempt := openSerial s, startAt := if st.isSome then some s.ft else none
                 param := if hasParam then paramBytes s a pv seed else [], aflags := 0, status := 0, starving := false
                 endStamp := none, recorded := false }
      let s : State := { s' with work.roleGens := gens, pound.taskSet := if s'.pound.taskSet.contains (slot, task) then s'.pound.taskSet
                                  else s'.pound.taskSet ++ [(slot, task)] }
      let bad := hasParam && !viewRemote s pv && (List.range (pv.extAt 0)).any fun (i : Nat) =>
        taskPoison s a pv (pv.bitAt (Int.ofNat i * pv.strideAt 0) / 8 / 64)
      if bad then endGang slot task St.memPoison s else s
  | _, _ => s

/-- Places every task of a list at once, or none. -/
def placeAll (s : State) : List (Nat × Task) → List Nat → Tab Nat → Option (List (Nat × List Nat))
  | [], _, _ => some []
  | (i, t) :: rest, taken, groups =>
    let free := (freeCores s t.stack).filter fun c => !taken.contains c
    let need := if t.info.flags.testBit 1 then 4 else 0
    if (freeGroups s t.stack).length < Tab.getD 0 t.stack groups + need then none
    else match placeGang free t.info.gang with
      | none => none
      | some cs => (placeAll s rest (taken ++ cs) (countGang t.stack need groups)).map fun l => (i, cs) :: l

/-- The member tasks of a co-start group that are left for release. -/
def groupLeft (g : Graph) (n : Nat) : List (Nat × Task) := (groupTasks g n).filter fun t => t.2.phase ≠ .ended

/-- Where the members of a co-start group would go now: every one that is left is ready, on a stack that runs and still has the
cores, and all fit at once (R278, R280). -/
def fitGroup (s : State) (g : Graph) (n : Nat) : Option (List (Nat × List Nat)) :=
  let l := groupLeft g n
  if l ≠ [] && l.all (fun t => isReady t.2 && (s.stack t.2.stack).clocked) && !groupUnfit s l then placeAll s l [] [] else none

/-- A ready task could be released now: alone where it is in no co-start group, else with its group (R269, R278). -/
def fitsNow (s : State) (x : Nat × Nat × Graph × Task) : Bool :=
  if x.2.2.2.info.cogroup = 0 then (fitTask s x.2.2.2).isSome else (fitGroup s x.2.2.1 x.2.2.2.info.cogroup).isSome

/-- The task a stack releases next: the first of its order that fits; or, once one has waited too long without fitting at the
head, that one alone (R268, R269). -/
def nextRelease (s : State) (k : Nat) : Option (Nat × Nat × Graph × Task) :=
  let order := readyOrder s k
  match order.find? fun x => x.2.2.2.starving with
  | some x => if fitsNow s x then some x else none
  | none => order.find? (fitsNow s)

/-- The governor has ungated the reaches of cores to the last step: till then it delays a release onto them (R271, R481). -/
def reachesReady (s : State) (cores : List Nat) : Bool :=
  cores.all fun c => (Tab.getD {} (reachOf (c % 128)) (s.stack (c / 128)).reaches).enable == 8

/-- TASK_RELEASE: at most one release per stack in each microsecond (R268 to R273). -/
def taskReleaseStep (k : Nat) (s : State) : State :=
  let paced := match (s.stack k).lastRelease with
    | some t => decide (t + 125 ≤ s.ft)
    | none => true
  if releasesOn s && (s.stack k).clocked && paced then
    match nextRelease s k with
    | some x =>
      if x.2.2.2.info.cogroup = 0 then
        match fitTask s x.2.2.2 with
        | some cores => if reachesReady s cores then poolTrigger (startTask x.1 x.2.1 cores s) else s
        | none => s
      else s
    | none => s
  else s

def execTaskRelease (stack : Nat) (s : State) : Host.Outcome State Fault Refusal := .next (taskReleaseStep stack s)

/-- The stack's next release is this group's (R268, R269). -/
def groupNext (s : State) (slot n k : Nat) : Bool :=
  match nextRelease s k with
  | some x => x.1 == slot && x.2.2.2.info.cogroup == n
  | none => false

/-- COGROUP_RELEASE: every member task that is left is ready, all of them fit at once, and on the stack of each the group is what
the order of R268 releases next (R268, R269, R278). -/
def cogroupReleaseStep (slot n : Nat) (s : State) : State :=
  match s.graph? slot with
  | none => s
  | some g =>
    if releasesOn s && n ≠ 0 && (groupLeft g n).all (fun t => groupNext s slot n t.2.stack) then
      match fitGroup s g n with
      | some p =>
        if p.all fun x => reachesReady s x.2 then poolTrigger (p.foldl (fun s x => startTask slot x.1 x.2 s) s) else s
      | none => s
    else s

def execCogroupRelease (slot group : Nat) (s : State) : Host.Outcome State Fault Refusal :=
  .next (cogroupReleaseStep slot group s)

/-- HEAD_TASK_STARVE: the head of a stack's order has waited 2^15 ticks without fitting; it bars the stack until it is released
(R269). -/
def headStarveStep (k : Nat) (s : State) : State :=
  match (readyOrder s k).head? with
  | some x =>
    if decide (x.2.2.2.readyAt.getD s.ft + 2 ^ 15 ≤ s.ft) && !fitsNow s x && !(readyOrder s k).any (fun y => y.2.2.2.starving) then
      s.updTask x.1 x.2.1 fun t => { t with starving := true }
    else s
  | none => s

def execHeadTaskStarve (stack : Nat) (s : State) : Host.Outcome State Fault Refusal := .next (headStarveStep stack s)

/-- A member of the task still runs. -/
def runsOn (t : Nat × Task) : Bool := t.2.members.any fun m => !m.2.ended

/-- COGROUP_HANG: every member of every task of the group has waited for 2^20 ticks, and none has ended since (R283). The tasks that have
members left to run end. -/
def cogroupHangStep (slot n : Nat) (s : State) : State :=
  match s.graph? slot with
  | none => s
  | some g =>
    let l := groupLeft g n
    if n ≠ 0 && l ≠ [] && decide (2 ^ 20 ≤ s.ft) &&
        l.all (fun t => t.2.phase == .running) &&
        (groupTasks g n).all (fun t => t.2.members.all fun m => waitedSince s g t.2 (s.ft - 2 ^ 20) m.2) &&
        l.any runsOn then
      (l.filter runsOn).foldl (fun s t => endGang slot t.1 St.kernelHang s) s
    else s

def execCogroupHang (slot group : Nat) (s : State) : Host.Outcome State Fault Refusal := .next (cogroupHangStep slot group s)

end Sys2Proof.Machine
end

