-- ==== Sys2Proof/Machine/Pounds.lean ====
section
/-!
DEFINITION. The pound machine: deadline, cut, drain, verdict and commit, the fold of committed versions, and the
recovery from detected faults (chapter 7, R510, R511).
-/

namespace Sys2Proof.Machine

/-! ### Triggers (R355) -/

/-- The deadline is the cut of the open pound from its instant on, on every module alike (R324, R355, R388); it is held while the pair
is halted for debug (R673). -/
def deadlineStep (s : State) : State :=
  let p := s.pound
  if p.opened && p.cutAt.isNone && p.closing.isNone && p.recovery.isNone && s.power.pstate != 3 && decide (p.deadline ≤ s.ft) then
    if s.sec.halted.isSome then askClose s.ft .deadline s
    else { s with pound.cutAt := some p.deadline, pound.cutCause := some .deadline }
  else s

/-- POUND_DEADLINE (R355). -/
def execPoundDeadline (s : State) : Host.Outcome State Fault Refusal := .next (deadlineStep s)

/-- Some task of the module runs. -/
def tasksRun (s : State) : Bool := (allTasks s).any fun x => holdsCores x.2.2.2

/-- The pool has reached 7/8: with no task running the cut is now, else at the first task start or end (R355). -/
def thresholdStep (s : State) : State :=
  if s.pound.opened && poolHighNow s && !s.pound.poolLatch then
    let s : State := { s with pound.poolLatch := true }
    if tasksRun s then { s with pound.poolHigh := true } else askClose s.ft .pool s
  else s

/-- POOL_THRESHOLD_CLOSE (R355). -/
def execPoolThresholdClose (s : State) : Host.Outcome State Fault Refusal := .next (thresholdStep s)

/-! ### Cut, drain, verdict (R356 to R358) -/

/-- The tasks that run now, as a pound opens with them (R372). -/
def runningSet (s : State) : List (Nat × Nat) :=
  ((allTasks s).filter fun x => holdsCores x.2.2.2).map fun x => (x.1, x.2.1)

/-- The tasks that ended before the cut was named, and at or after its instant: they run on into the next pound (R347, R372). -/
def endedAfterCut (s : State) : List (Nat × Nat) :=
  ((allTasks s).filter fun x => x.2.2.2.phase == .ended && x.2.2.2.recorded && x.2.2.2.endSerial == nextSerial s).map
    fun x => (x.1, x.2.1)

/-- At the cut the pound begins to close: its task set stands apart from that of the next, which begins with the tasks that
run or whose end belongs to it (R372), and the empty graphs accepted since the last cut complete with it (R296). -/
def cutStep (s : State) : State :=
  match s.pound.cutAt with
  | none => s
  | some c =>
    if decide (c ≤ s.ft) && s.pound.recovery.isNone && s.pound.closing.isNone then
      let n := s.pound.committed + 1
      let s := passagesAtCut s
      { s with
        pound.closing := some { serial := n, cut := c, commitAs := s.pound.cutSerial }
        pound.cutAt := none, pound.cutSerial := none
        pound.closingSet := s.pound.taskSet, pound.taskSet := runningSet s ++ endedAfterCut s
        pound.poolHigh := false, pound.poolLatch := poolHighNow s
        work.graphs := s.work.graphs.mapVals fun _ g =>
          if g.tasks = [] && g.endPound.isNone then { g with endPound := some n } else g }
    else s

/-- POUND_CUT (R357). -/
def execPoundCut (s : State) : Host.Outcome State Fault Refusal := .next (cutStep s)

/-- A memory berth's count of applied or discarded writes of a pound differs from the count delivered to it (R357). -/
def unmatched (s : State) (n k : Nat) : Bool :=
  Tab.getD 0 n (s.memBerth k).issued != Tab.getD 0 n (s.memBerth k).done

/-- Every memory berth has met its count. -/
def countsMatch (s : State) (n : Nat) : Bool := (List.range 8).all fun k => !unmatched s n k

def drainStep (s : State) : State :=
  match s.pound.closing with
  | none => s
  | some c =>
    if !c.drained && decide (c.cut + 32 ≤ s.ft) && decide (s.ft ≤ c.cut + 1024) && countsMatch s c.serial then
      { s with pound.closing := some { c with drained := true } }
    else s

/-- DRAIN_END (R357). -/
def execDrainEnd (s : State) : Host.Outcome State Fault Refusal := .next (drainStep s)

/-- A drain that has not ended by C + 1,024 ticks rolls its pound back (R358). -/
def drainLateStep (s : State) : State :=
  match s.pound.closing with
  | none => s
  | some c =>
    let late := decide (c.cut + 1024 < s.ft) || (decide (c.cut + 1024 ≤ s.ft) && !countsMatch s c.serial)
    if !c.drained && late && s.pound.recovery.isNone then
      let k := ((List.range 8).find? fun k => unmatched s c.serial k).getD 0
      raiseFault Ev.drainTimeout (leBytes 8 c.serial ++ leBytes 1 k) s
    else s

/-- DRAIN_TIMEOUT (R358). -/
def execDrainTimeout (s : State) : Host.Outcome State Fault Refusal := .next (drainLateStep s)

/-- A recovery that rolls back the pound of a serial is in progress. -/
def rollsBack (s : State) (n : Nat) : Bool :=
  match s.pound.recovery with
  | some r => decide (r.serial ≤ n)
  | none => false

/-- At the verdict instant the helm confirms that no detected fault came before it (R357). A lockkeeper in self-test,
halted or stranded gives none (R673, R743, R749). A check pause notes the serial (R741). -/
def verdictStep (s : State) : State :=
  match s.pound.closing with
  | none => s
  | some c =>
    if c.drained && !c.verdict && decide (c.cut + 2300 ≤ s.ft) && !rollsBack s c.serial && s.lk.test.isNone &&
        s.sec.halted.isNone && !stranded s then
      let m := c.commitAs.getD c.serial
      { s with pound.closing := some { c with verdict := true }
               lk.pause := s.lk.pause.map fun p => (p.1, p.2.1, p.2.2.1.or (some m), some m) }
    else s

/-- VERDICT (R357). -/
def execVerdict (s : State) : Host.Outcome State Fault Refusal := .next (verdictStep s)

/-! ### Commit (R357, R359, R360, R373, R384, R385) -/

/-- The uncommitted shadows that a commit makes the committed versions. -/
def closingShadows (s : State) (m : Nat) : List Shadow :=
  s.mem.shadows.filter fun h => s.pound.committed < h.tag && decide (h.tag ≤ m) && !h.discarded

/-- A task has ended in a pound at or below a serial. -/
def endedBy (t : Task) (n : Nat) : Bool := t.phase == .ended && t.recorded && decide (t.endSerial ≤ n)

/-- A task's pre-image of a page, which takes a frame of its own; bad parity that the page held stays with its lines (R373, R525). -/
def addPreImage (slot task page : Nat) (b : PageBefore) (s : State) : State :=
  let (f, s) := poolFrame s
  let x : PreImage := { slot := slot, task := task, page := page, cells := b.cells, poison := b.poison, frame := f }
  { s with mem.preImages := s.mem.preImages ++ [x], mem.wrong := s.mem.wrong ++ b.marked.map fun l => f * 65536 + l * 64 }

/-- A task holds a pre-image of a page. -/
def hasPreImage (s : State) (slot task page : Nat) : Bool :=
  s.mem.preImages.any fun x => x.slot == slot && x.task == task && x.page == page

/-- Keeps the pre-images of the pages whose versions the commit replaces, for tasks that run on, and releases those of
tasks that ended in a committed pound (R373). -/
def keepPreImages (m : Nat) (pages : List Nat) (s : State) : State :=
  let carried := (allTasks s).filter fun x => x.2.2.2.home.isSome && !endedBy x.2.2.2 m
  let gone := fun (p : PreImage) => match s.task? p.slot p.task with
    | some t => endedBy t m
    | none => true
  let s := releaseFrames ((s.mem.preImages.filter gone).map PreImage.frame)
    { s with mem.preImages := s.mem.preImages.filter fun p => !gone p }
  carried.foldl (fun s x =>
    (x.2.2.2.before.filter fun b => pages.contains b.1 && !hasPreImage s x.1 x.2.1 b.1).foldl (fun s b =>
      addPreImage x.1 x.2.1 b.1 b.2 s) s) s

/-- Pins the version of a page about to be replaced, for an owner that holds none of it yet (R384, R652). -/
def pinPage (o : PinOwner) (p : Nat) (s : State) : State :=
  if s.mem.pins.any fun x => x.page == p && x.owners.contains o then s
  else if s.mem.pins.any fun x => x.page == p && x.serial == s.pound.committed then
    { s with mem.pins := s.mem.pins.map fun x =>
        if x.page == p && x.serial == s.pound.committed then { x with owners := x.owners ++ [o] } else x }
  else
    let x : Pin :=
      { page := p, serial := s.pound.committed, cells := committedCells s p
        poison := pagePoison s p, owners := [o], frame := committedFrame s p }
    { s with mem.pins := s.mem.pins ++ [x] }

/-- A page lies in a byte range of module addresses. -/
def pageIn (p a n : Nat) : Bool := n != 0 && decide (pageOf a ≤ p ∧ p ≤ pageOf (a + n - 1))

/-- The open SNAPSHOT barges. -/
def snapshotBarges (s : State) : List (Nat × Barge) := s.net.barges.filter fun x => x.2.outbound && !x.2.current

/-- Pins every page that SNAPSHOT barges and resident graphs' images still need (R384, R652). -/
def pinAll (pages : List Nat) (s : State) : State :=
  let s := (snapshotBarges s).foldl (fun s x =>
    match bufOf s x.2.handle with
    | some b =>
      (pages.filter fun p => pageIn p (bufBase b + x.2.start) x.2.length).foldl (fun s p => pinPage (.barge x.1) p s) s
    | none => s) s
  s.work.graphs.foldl (fun s g =>
    (pages.filter fun p => pageIn p g.2.imageAt g.2.imageLen).foldl (fun s p => pinPage (.graph g.1) p s) s) s

/-- A pin some barge holds. -/
def bargePin (p : Pin) : Bool := p.owners.any fun o => match o with
  | .barge _ => true
  | .graph _ => false

/-- The most recently opened SNAPSHOT barge that holds a pin (R385). -/
def newestPinner (s : State) : Option Nat :=
  ((snapshotBarges s).filter fun x => s.mem.pins.any fun p => p.owners.contains (.barge x.1)).foldl
    (fun (a : Option (Nat × Nat)) x => match a with
      | none => some (x.1, x.2.openedNo)
      | some y => if y.2 < x.2.openedNo then some (x.1, x.2.openedNo) else some y) none |>.map Prod.fst

/-- Ends SNAPSHOT barges, from the most recent backward, until the barges' pins fit in 1/4 of the pool (R385). -/
def fitPins : Nat → State → State
  | 0, s => s
  | fuel + 1, s =>
    if 4 * (s.mem.pins.filter bargePin).length ≤ poolPages s then s
    else match newestPinner s with
      | some n => fitPins fuel (endBarge n St.snapshotLost s)
      | none => s

/-- The poison of the pages replaced becomes that of their new versions (R524, R525). -/
def newPoison (new : List Shadow) (s : State) : State :=
  { s with mem.poison := (s.mem.poison.filter fun l => !new.any fun h => h.page == l / 1024) ++
      new.flatMap fun h => h.poison.map fun l => h.page * 1024 + l }

/-- Pages freed since the last commit. -/
def freedPage (s : State) (p : Nat) : Bool := s.mem.freeing.any fun r => decide (r.1 ≤ p ∧ p < r.1 + r.2)

/-- The frames of freed pages are free, or retired, at the commit (R508, R521). -/
def freePages (s : State) : State :=
  let freed := freedPage s
  let old := ((s.mem.frames.filter fun x => freed x.1).map Prod.snd) ++ ((s.mem.shadows.filter fun h => freed h.page).map Shadow.frame)
  releaseFrames old
    { s with
      mem.freeing := []
      mem.base := s.mem.base.filter fun c => !freed (pageOf c.1)
      mem.frames := s.mem.frames.filter fun x => !freed x.1
      mem.shadows := s.mem.shadows.filter fun h => !freed h.page }

/-- The commit itself: the berths advance the committed serial and release the stamp entries, and pages freed since the
last commit are free, reading as zeros when they are next used (R359, R360, R507, R508). -/
def advance (n m : Nat) (s : State) : State :=
  let s := freePages s
  { s with
    pound.committed := m
    mem.shadows := s.mem.shadows.map fun h => if h.tag ≤ m then { h with entries := [] } else h
    mem.berths := s.mem.berths.mapVals fun _ b =>
      { b with issued := b.issued.filter fun x => n < x.1, done := b.done.filter fun x => n < x.1 } }

/-- The stamp of a commit reaches EV_POUND_COMMIT and the jobs that wait for it (R357, R655). -/
def commitReport (m stamp : Nat) (s : State) : State :=
  let s := logEvent Ev.poundCommit (leBytes 8 m ++ leBytes 8 stamp) s
  let s := (s.work.jobs.filter fun j => match j.2.kind with
      | .poundClose => decide (j.2.since ≤ s.pound.lastCut)
      | _ => false).foldl (fun s j => endJob j.1 St.ok (leBytes 8 m ++ leBytes 8 stamp) s) s
  let s := (s.work.jobs.filter fun j => match j.2.kind with
      | .atCommit sr _ _ _ => decide (sr ≤ m) && !writesPending s (.mail j.1)
      | _ => false).foldl (fun s j => match j.2.kind with
        | .atCommit _ pre _ _ => endJob j.1 St.ok (pre ++ leBytes 8 m) s
        | _ => s) s
  (s.work.graphs.filter fun g => g.2.endPound.any (· ≤ m)).foldl (fun s g => reportGraph g.1 m s) s

/-- Barges after a commit: the committed offset advances, and an inbound barge whose every byte has committed completes
with the serial of its last pound (R379, R617). `n` is the serial the pound carried while open and `m` the one committed. -/
def bargesAfter (n m : Nat) (s : State) : State :=
  let s : State := { s with net.barges := s.net.barges.mapVals fun _ b =>
    if b.outbound then b
    else
      let w := b.written.map fun x => if x.2.2 = n then (x.1, x.2.1, m) else x
      { b with
        written := w, lastSerial := if b.lastSerial = n then m else b.lastSerial
        committed := coveredPrefix ((w.filter fun x => x.2.2 ≤ m).map fun x => (x.1, x.2.1)) } }
  let past := fun (n : Nat) (b : Barge) => !b.outbound && b.committed == b.length &&
    b.written.all (fun x => decide (x.2.2 ≤ m)) && !writesPending s (.barge n)
  (s.net.barges.filter fun x => past x.1 x.2).foldl (fun s x => endBarge x.1 St.ok s) s

/-- The modules that received writes of pounds a test selects, each with the pound's serial (R390). -/
def sentTo (s : State) (p : SentWrites → Bool) : List (Nat × Nat) :=
  ((s.torus.sent.filter p).map fun x => (x.dest / 4096 * 4096, x.n)).eraseDups

/-- Torus after a commit: COMMIT notices for the writes of the pound, and released writes that are now committed are
forgotten, but for those that have not been applied, which belong to the next pound (R390, R392, R563). -/
def torusAfter (n : Nat) (s : State) : State :=
  let s := (sentTo s fun x => x.n ≤ n).foldl (fun s x =>
    sendNotice (.commit x.1 x.2 (Tab.getD 0 x.2 s.pound.attempts % 256)) s) s
  { s with
    torus.sent := s.torus.sent.filter fun x => n < x.n
    torus.released := (s.torus.released.filter fun x => n < x.2.2 || writesPending s (.released x.1)).map fun x =>
      if n < x.2.2 then x else (x.1, x.2.1, s.pound.committed + 1)
    pound.attempts := s.pound.attempts.filter fun x => n < x.1 }

/-- A member that had rolled back stays in step if it commits its pound with the partition, and is out of step otherwise (R559). -/
def inStepAfter (c : Closing) (s : State) : State :=
  match s.torus.behindAt with
  | some t => if c.cut + 2500 < t then s else { s with torus.inStep := s.torus.inStep && t == c.cut + 2500, torus.behindAt := none }
  | none => s

/-- A join commit takes its place in the partition (R559, R561). -/
def joinAfter (c : Closing) (m : Nat) (s : State) : State :=
  let s := inStepAfter c s
  if c.commitAs.isSome then
    if s.torus.joining then
      logEvent Ev.partitionJoin (leBytes 8 m) { s with torus.joining := false, torus.inStep := true, torus.behindAt := none }
    else s
  else s

/-- The pound length in force, in ticks (R355, R821). -/
def poundLength (s : State) : Nat := leNat (itemStored s 0x0002) * 4096

/-- A join's cut that came before the pound opened at `opens`. A member in step cuts the pound as the partition does; one that would join
cannot by a cut that has passed, and asks again (R355, R561; notes/assumptions/83.md). -/
def takeNextJoin (opens c serial : Nat) (s : State) : State :=
  if c ≤ opens && s.torus.joining then { s with torus.joining := false }
  else joinCut (max c (opens + 1)) serial .named s

/-- A trigger that came before the pound opened at `opens` names its cut (R355), with the serial of a join (R561). -/
def takeNextCut (opens : Nat) (s : State) : State :=
  let s := match s.pound.nextCut with
    | some c => nameCut (max c.1 (opens + 1)) c.2 { s with pound.nextCut := none }
    | none => s
  match s.pound.nextJoin with
  | some j => takeNextJoin opens j.1 j.2 { s with pound.nextJoin := none }
  | none => s

/-- The next pound opens at the commit instant `k`: its deadline counts from it, and a trigger that came early names its cut
(R347, R355); a time-master names the cut of the modules that wait to join (R561). During a recovery the replay opens it
instead, with the length that is in force now (R370). -/
def openNext (k : Nat) (s : State) : State :=
  let s : State := { s with pound.length := poundLength s }
  if s.pound.recovery.isSome then s
  else
    let s := takeNextCut k { s with pound.deadline := k + s.pound.length }
    if s.torus.joiners ≠ [] ∧ s.time.master then nameMasterCut s.ft .named s else s

/-- Both lockkeepers halt together, keeping the roles to return to; a retired one stays so (R673). -/
def haltPair (s : State) : State :=
  { s with sec.halted := some (s.lk.a.role, s.lk.b.role), lk.a.role := if s.lk.a.role = .retired then .retired else .halted
           lk.b.role := if s.lk.b.role = .retired then .retired else .halted }

/-- Debug HALT after its commit: releases stop and both lockkeepers halt together (R673). -/
def haltAfter (s : State) : State :=
  let l := s.work.jobs.filter fun j => match j.2.kind with
    | .halt => decide (j.2.since ≤ s.pound.lastCut)
    | _ => false
  if l = [] then s
  else
    l.foldl (fun s j => endJob j.1 St.ok [] s) (haltPair s)

/-- The commit instant has come: the verdict stands, and no rollback takes the pound (R357, R369, R745). -/
def mayCommit (s : State) (c : Closing) : Bool :=
  c.verdict && decide (c.cut + 2500 ≤ s.ft) && !rollsBack s c.serial && !stranded s

/-- POUND_COMMIT's effect. -/
def commitStep (s : State) : State :=
  match s.pound.closing with
  | none => s
  | some c =>
    if mayCommit s c then
      let n := c.serial
      let m := c.commitAs.getD n
      let new := closingShadows s n
      let pages := (new.map Shadow.page).eraseDups
      let s := fitPins s.net.barges.length (pinAll pages (keepPreImages n pages s))
      let s := tablesUpdate (advance n m (newPoison new s))
      let s : State :=
        { s with
          pound.closing := none, pound.closingSet := [], pound.lastCut := c.cut, pound.lastK := c.cut + 2500
          pound.cuts := Tab.put n c.cut (s.pound.cuts.filter fun x => s.ft < x.2 + 1048576)
          pound.fails := match s.pound.recovery with
            | some r => r.count % 4
            | none => 0
          pound.replay := false
          pound.poolLatch := s.pound.poolHigh
          power.transition := s.power.transition.map fun t =>
            if t.quiesced.any (· ≤ c.cut) then { t with commitNeeded := false } else t }
      let s := openNext (c.cut + 2500) s
      let (st, s) := issueStamp 30 (.commit m) s
      let s : State := match st with
        | some st => commitReport m st { s with pound.kstamp := st }
        | none => s
      haltAfter (joinAfter c m (torusAfter n (bargesAfter n m (checkpointStep s))))
    else s

/-- POUND_COMMIT (R359). -/
def execPoundCommit (s : State) : Host.Outcome State Fault Refusal := .next (commitStep s)

/-! ### The fold of committed versions (R510, R511) -/

/-- VERSION_FOLD (R511). -/
def execVersionFold (berth : Nat) (s : State) : Host.Outcome State Fault Refusal := .next (foldStep berth s)

/-! ### Rollback (R368 to R381) -/

/-- A task of the set as it waits for its release again, with the age it has (R267, R293, R370, R372). One that waits already, or that a
cancellation has ended while it waited, stays as it is (R294, R380). -/
def resetTask (t : Task) : Task :=
  if t.phase = .admitted ∨ t.phase = .image ∨ (t.phase = .ended ∧ t.status = St.cancelled) then t
  else
    { t with
      phase := .admitted, members := [], status := 0, firstReady := t.readyAt.or t.firstReady, readyAt := none, startAt := none
      stopBy := none, endStamp := none, endSerial := 0, recorded := false, groups := [], aflags := 0, starving := false
      replays := t.replays + 1 }

/-- Stops the members of a task of the set and abandons its tokens, reads and reduction groups (R370); a graph that has been ended with
a fault stays so. -/
def rollTask (x : Nat × Nat) (s : State) : State :=
  match s.task? x.1 x.2 with
  | none => s
  | some t =>
    if (s.graph? x.1).any fun g => g.faulted.isSome then s
    else
      let s := freeGroupsOf t s
      dropReads x.1 x.2 (s.updTask x.1 x.2 resetTask)

/-- An end taken in the rolled-back pounds by a task that they do not release again: it was never released, or its graph was cancelled
or faulted (R290, R294, R266, R378). -/
def endUndone (m : Nat) (t : Task) : Bool := t.phase == .ended && !(t.recorded && decide (t.endSerial < m))

/-- A task that was skipped may run after all: it waits for admission again, or ends with its graph's cancellation (R290, R294). -/
def skipUndone (m : Nat) (t : Task) : Bool := endUndone m t && t.status == St.skipped

/-- Such a task's record is written again at the replay (R290, R372, R378). -/
def unEnd (m : Nat) (cancelled : Bool) (t : Task) : Task :=
  if endUndone m t then
    { t with phase := if t.status = St.skipped ∧ !cancelled then .image else .ended
             status := if t.status = St.skipped then (if cancelled then St.cancelled else 0) else t.status
             endStamp := none, endSerial := 0, recorded := false, readyAt := none }
  else t

/-- Takes back such ends of a graph, and its own end with them; admission goes back to the first task that waits for it again. An
empty graph completes with the replay (R295, R296). -/
def unEndGraph (m : Nat) (g : Graph) : Graph :=
  let stays := g.tasks.all fun x => endedBy x.2 (m - 1)
  if g.killed then g
  else { g with
    tasks := g.tasks.mapVals fun _ t => unEnd m g.cancelled t
    ended := g.ended && stays
    endPound := g.endPound.filter fun n => stays && decide (n < m)
    admitNext := g.tasks.foldl (fun a x => if skipUndone m x.2 && !g.cancelled then min a x.1 else a) g.admitNext }

/-- The messages of members whose tasks are rolled back: one that waits at its core goes with a sender that is rolled back, and else
back to the scheduler. One on its way reaches its core, which returns and counts it (R286 to R288). -/
def rollMessages (set : List (Nat × Nat)) (s : State) : State :=
  let inSet := fun (m : MRef) => set.contains (m.slot, m.task)
  { s with work.msgs := (s.work.msgs.filter fun m => !(m.2.stage == .waiting && inSet m.2.src)).map fun m =>
      if m.2.stage = .waiting ∧ inSet m.2.dst then (m.1, { m.2 with stage := .returned }) else m }

/-- A write of a rolled-back pound, or one not yet stamped. -/
def writeRolled (m : Nat) (s : State) (w : WriteReq) : Bool :=
  match w.stamp with
  | some st => decide (m ≤ serialOfTime s (stampInstant s.ft st))
  | none => true

/-- Removes the rolled-back pounds' writes that have reached their berths, and those that still wait for a stamp, with the
stamps that stopped members and their tasks wait for. Writes on
their way are discarded when they arrive (R371). -/
def rollWrites (m : Nat) (s : State) : State :=
  let gone := fun (w : WriteReq) => !torusWrite w && writeRolled m s w && (w.stage != .flight || w.stamp.isNone)
  let ids := (s.mem.writes.filter fun x => gone x.2 && x.2.stamp.isNone).map Prod.fst
  { s with
    mem.writes := s.mem.writes.filter fun x => !gone x.2
    time.issuers := s.time.issuers.mapVals fun _ i =>
      { i with held := i.held.filter fun h => match h with
          | .write id => !ids.contains id
          | .taskStart _ _ | .taskEnd _ _ | .stampRead _ _ | .message _ => false
          | _ => true } }

/-- Inbound barges lose what the rolled-back pounds held, and wait for their rewind (R379). -/
def rollBarges (m : Nat) (s : State) : State :=
  { s with net.barges := s.net.barges.mapVals fun n b =>
      if b.outbound then b
      else
        let hit := b.written.any (fun x => decide (m ≤ x.2.2)) || writesPending s (.barge n)
        { b with written := b.written.filter fun x => x.2.2 < m, rewinding := b.rewinding || hit } }

/-- ROLLBACK notices to the receivers of the rolled-back pounds' torus writes (R390, R563). -/
def rollTorus (m : Nat) (s : State) : State :=
  let s := (sentTo s fun x => m ≤ x.n).foldl (fun s x =>
    sendNotice (.rollback x.1 x.2 (Tab.getD 0 x.2 s.pound.attempts % 256)) s) s
  { s with torus.sent := s.torus.sent.filter fun x => x.n < m }

/-- The partition goes on to commit the pound that this member rolls back: from then on the member is out of step (R388, R559). -/
def fallBehind (covered : Bool) (s : State) : State :=
  let due := match s.pound.closing with
    | some c => if covered then c.cut else ((s.pound.nextCut.map fun x => max x.1 (c.cut + 2501)).getD (c.cut + 2500 + poundLength s))
    | none => (cutInForce s).getD s.pound.deadline
  { s with torus.behindAt := some (min (due + 2500) (s.torus.behindAt.getD (due + 2500))) }

/-- The failure count a rollback leads to (R376). -/
def failCount (s : State) (m : Nat) : Nat := if m = s.pound.committed + 1 then s.pound.fails + 1 else 1

/-- The fourth failure of a pound ends the graphs of its task set (R377). -/
def faultGraphs (m : Nat) (set : List (Nat × Nat)) (s : State) : State :=
  ((set.map Prod.fst).eraseDups).foldl (fun s slot => s.updGraph slot fun g =>
    { g with
      faulted := some St.graphFault, ended := false, endPound := none
      tasks := g.tasks.mapVals fun _ t =>
        if endedBy t (m - 1) then t
        else { t with phase := .ended, status := St.graphFault, members := [], endStamp := none, endSerial := 0
                      recorded := false } }) s

/-- A trigger that outlives a rollback: a host's, a power change's or a debug halt's. A deadline, pool, graph-end or
partition trigger goes with the attempt that set it (R355, R370). -/
def Trigger.stays : Trigger → Bool
  | .host | .power | .debug => true
  | .deadline | .pool | .graphEnd | .named => false

/-- The earlier of two pending cuts. -/
def earlierCut (a b : Option (Nat × Trigger)) : Option (Nat × Trigger) :=
  match a, b with
  | some x, some y => if y.1 < x.1 then some y else some x
  | some x, none => some x
  | none, y => y

/-- The cut that stays pending over a rollback: one named for a pound that is rolled back, or one that waited for its
opening. -/
def keptCut (covered : Bool) (s : State) : Option (Nat × Trigger) :=
  let cause := s.pound.cutCause.getD .deadline
  let named := match s.pound.closing with
    | some c => if covered then some (c.cut, cause) else none
    | none => s.pound.cutAt.map fun c => (c, cause)
  let keep := fun (x : Nat × Trigger) => x.2.stays
  earlierCut (named.filter keep) (s.pound.nextCut.filter keep)

/-- An admitted task is ready no longer once a task that it depends on is to run again (R267, R290, R293; notes/assumptions/173.md). -/
def unready (s : State) : State :=
  (allTasks s).foldl (fun s' x =>
    if x.2.2.2.phase == .admitted && x.2.2.2.readyAt.isSome && !depsMet s x.1 x.2.1 x.2.2.1 x.2.2.2 then
      s'.updTask x.1 x.2.1 fun t => { t with readyAt := none, starving := false }
    else s') s

/-- DETECTED_FAULT: releases stop, the members of the set stop at their op boundary, and every shadow of the rolled-back
pounds is discarded (R370). -/
def faultStep (s : State) : State :=
  match s.pound.recovery with
  | none => s
  | some r =>
    if r.stopped then s
    else
      let m := r.serial
      let covered := rollsBack s ((s.pound.closing.map Closing.serial).getD 0)
      let set := if covered then (s.pound.closingSet ++ s.pound.taskSet).eraseDups else s.pound.taskSet
      let first := r.count = 0
      let count := if first then failCount s m else r.count
      let other := match s.pound.closing with
        | some c => if covered then c.next else m
        | none => m
      let s := rollTorus m (rollWrites m (rollBarges m (if first && s.torus.inStep then fallBehind covered s else s)))
      let bump := fun (n : Nat) (t : Tab Nat) => Tab.put n (Tab.getD 0 n t + 1) t
      let tries := if !first then s.pound.attempts
        else if other = m then bump m s.pound.attempts else bump other (bump m s.pound.attempts)
      let s : State :=
        { s with
          mem.shadows := s.mem.shadows.map fun h => if m ≤ h.tag then { h with discarded := true } else h
          pound.nextCut := keptCut covered s
          pound.cutAt := none, pound.cutSerial := none, pound.nextJoin := none, pound.poolHigh := false
          pound.attempts := tries
          pound.closing := if covered then none else s.pound.closing
          pound.closingSet := if covered then [] else s.pound.closingSet
          pound.taskSet := set
          pound.fails := if m = s.pound.committed + 1 then count % 4 else s.pound.fails
          pound.recovery := some
            { r with stopped := true, count := count
                     notBefore := max r.notBefore ((s.lk.test.map fun t => t.start + 25000).getD 0) } }
      let s := if first then rollMessages set (set.foldl (fun s x => rollTask x s) s) else s
      let s : State := { s with work.graphs := s.work.graphs.mapVals fun _ g => unEndGraph m g }
      unready (if count = 4 then faultGraphs m set s else s)

/-- DETECTED_FAULT (R370, R377). -/
def execDetectedFault (s : State) : Host.Outcome State Fault Refusal := .next (faultStep s)

/-- ROLLBACK_SHADOWS_RETURNED: the discarded shadows are back in the pool, and each fault sends its own EV_POUND_ROLLBACK
(R370, R381). -/
def returnStep (s : State) : State :=
  match s.pound.recovery with
  | none => s
  | some r =>
    if r.stopped && !r.returned then
      let s := (r.faults.filter fun f => !f.sent).foldl (fun s f =>
        logEvent Ev.poundRollback (leBytes 8 r.serial ++ leBytes 1 r.count ++ leBytes 2 f.code) s) s
      let gone := s.mem.shadows.filter Shadow.discarded
      let s := tablesUpdate (releaseFrames (gone.map Shadow.frame) { s with mem.shadows := s.mem.shadows.filter fun h => !h.discarded })
      { s with
        pound.recovery := some
          { r with returned := true, faults := r.faults.map fun f => { f with sent := true } } }
    else s

def execRollbackShadowsReturned (s : State) : Host.Outcome State Fault Refusal := .next (returnStep s)

/-- The rewinds of the inbound barges a rollback has hit (R379). -/
def rewindBarges (s : State) : State :=
  (s.net.barges.filter fun x => x.2.rewinding || (!x.2.outbound && writesPending s (.barge x.1))).foldl (fun s x =>
    logEvent Ev.bargeRewind (leBytes 2 x.2.session ++ leBytes 2 x.1 ++ leBytes 8 x.2.committed)
      (s.updBarge x.1 fun b => { b with rewinding := false })) s

/-- Writes made again at the opening of a replay: torus writes released into the pound (R392) and the writes of mail
commands (R660), each under a new stamp. -/
def rewrites (m : Nat) (s : State) : State :=
  let rel := s.torus.released.filter fun x => m ≤ x.2.2
  let s := rel.foldl (fun s x => sendWrites x.2.1.berth x.2.1.addr x.2.1.data (.released x.1) s)
    { s with torus.released := s.torus.released.mapVals fun _ x => if m ≤ x.2 then (x.1, m) else x }
  s.work.jobs.foldl (fun s j => match j.2.kind with
    | .atCommit _ _ a d =>
      if writesPending s (.mail j.1) then s else sendWrites 30 a d (.mail j.1) s
    | _ => s) s

/-- Writes the records of tasks whose ends the rollback has taken back (R372, R378). -/
def reRecord (s : State) : State :=
  ((allTasks s).filter fun x => x.2.2.2.phase == .ended && !x.2.2.2.recorded).foldl (fun s x =>
    match issueStamp 30 (.taskEnd x.1 x.2.1) s with
    | (some st, s) => recordEnd x.1 x.2.1 st s
    | (none, s) => s) s

/-- The task set of a replay: the tasks of the discarded pounds, without those of faulted graphs (R370, R378). -/
def replaySet (s : State) : List (Nat × Nat) :=
  s.pound.taskSet.filter fun x => match s.graph? x.1 with
    | some g => g.faulted.isNone
    | none => false

/-- REPLAY_OPEN: the replay attempt of the pound opens with its deadline at R + L, and its tasks may be released again
(R293, R370, R371, R378), but not while a base logic reset lasts (R444). -/
def replayStep (s : State) : State :=
  match s.pound.recovery with
  | none => s
  | some r =>
    if r.returned && decide (r.notBefore ≤ s.ft) && s.lk.test.isNone && !stranded s && s.pound.closing.isNone && s.base.reset.isNone then
      let m := r.serial
      let s : State := { s with lk.named := none }
      let s := rewindBarges s
      let s : State :=
        { s with
          pound.recovery := none, pound.replay := decide (r.count < 4), pound.fails := r.count % 4
          pound.deadline := s.ft + s.pound.length, pound.discardBefore := s.ft, pound.taskSet := replaySet s
          pound.poolHigh := false, pound.poolLatch := false
          mem.writes := s.mem.writes.filter fun x => torusWrite x.2 || (x.2.stage = .flight && x.2.stamp.isSome)
          time.issuers := s.time.issuers.mapVals fun _ i =>
            { i with held := i.held.filter fun h => match h with
                | .write id => (Tab.find? id s.mem.writes).any torusWrite
                | _ => true }
          mem.berths := s.mem.berths.mapVals fun _ b =>
            { b with issued := b.issued.filter fun x => x.1 < m, done := b.done.filter fun x => x.1 < m } }
      settle (reRecord (rewrites m (takeNextCut s.ft s)))
    else s

/-- REPLAY_OPEN (R370). -/
def execReplayOpen (s : State) : Host.Outcome State Fault Refusal := .next (replayStep s)

end Sys2Proof.Machine
end

