-- ==== Sys2Proof/Machine/Base.lean ====
section
/-!
DEFINITION. The photonic base at work: link frames and their replay, grants and retargets, credits, lock windows, the
reduction basins, and the base logic reset (chapter 8).
-/

namespace Sys2Proof.Machine

/-! ### Lanes (R405, R412, R457, R474) -/

/-- A change of lanes needs no announcement: it is one that a Fail has caused, or a mirrored step of a handover or of a lane's return
(R458, R460, R467, R470, R474). -/
def changesNow (s : State) (t : Nat) (was want : LaneUse) : Bool :=
  let g := linkGroup t
  let dark := fun (i : Option Nat) => i.any fun i => !laneLit s g i
  dark want.missing || dark want.mirror || (was.mirror.isSome && !laneLit s g 16) ||
    (want.missing == was.missing && (want.mirror.isNone || want.mirror == (s.group g).relieved))

/-- At a frame boundary a transmit link goes over to the lanes wanted for a receive link, which reads them so from that frame on: at once
where the change needs no announcement, else from a frame announced 16 frames ahead (R458). -/
def laneStep (t l : Nat) (s : State) : State :=
  let was := laneUse s t l
  let want := laneWanted s t l
  let put := fun (u : LaneUse) (s : State) => s.updLink t fun x => { x with lanes := Tab.put l u x.lanes }
  let change := fun (s : State) => (put want s).updLink l fun x => { x with dealt := 0 }
  if want.mirror = was.mirror ∧ want.missing = was.missing then (if was.announced = 0 then s else put { was with announced := 0 } s)
  else if changesNow s t was want || was.announced == 1 then change s
  else put { was with announced := if was.announced = 0 then 16 else was.announced - 1 } s

/-- The lane that a receive link reads from WR in frames of a transmit link: the one that stands there too, but in a mirrored handover only
from the drain's end to the lane check's (R458, R460). -/
def readFromWr (s : State) (t l : Nat) : Option Nat :=
  (laneUse s t l).mirror.filter fun i =>
    !((s.group (linkGroup t)).handover.any fun h => h.lane == i && (h.phase == .mirrored || h.phase == .checked))

/-- The physical lane that carries lane share `share` of a frame: in 15-lane operation the shares of consecutive frames are dealt in turn
onto the 15 working lanes, of which `dealt` takes the frame's first (R412). -/
def shareLane (missing : Option Nat) (dealt share : Nat) : Nat :=
  match missing with
  | none => share
  | some m => ((List.range 16).filter (· ≠ m)).getD ((dealt + share) % 15) 0

/-- The lane shares a frame symbol touches (R405). -/
def symbolShares (long : Bool) (j : Nat) : List Nat := [10 * j / laneBits long, (10 * j + 9) / laneBits long].eraseDups

/-- The lanes on which a decoded frame shows errored symbols; one read from WR shows none of its own. -/
def errLanes (long : Bool) (missing fromWr : Option Nat) (dealt : Nat) (syms : List Nat) : List Nat :=
  ((syms.flatMap fun j => (symbolShares long j).map (shareLane missing dealt)).filter fun i => fromWr != some i).eraseDups

/-- What the lanes carry of a frame: each share on the lane it is dealt to, and the bits of the relieved lane on WR too (R405, R412,
R457). -/
def laneSends (long : Bool) (bits : Nat) (u : LaneUse) (dealt : Nat) : List (Nat × Nat) :=
  (List.range 16).flatMap fun i =>
    let lane := shareLane u.missing dealt i
    (lane, laneShare long bits i) :: if u.mirror = some lane then [(16, laneShare long bits i)] else []

/-- A suspect lane: the receiver asks its sender for relief (R474). -/
def suspectLane (l lane : Nat) (s : State) : State :=
  let b := linkBerth l
  let s := s.updLink l fun x =>
    { x with relief := if Tab.has lane x.relief then x.relief else Tab.put lane s.ft x.relief, leaving := Tab.del lane x.leaving
             suspectRun := Tab.del lane x.suspectRun }
  logEvent Ev.laneSuspect (leBytes 1 b ++ leBytes 1 (linkIdx l) ++ leBytes 1 lane)
    { s with light.suspects := (s.light.suspects ++ [(l, lane)]).eraseDups
             light.suspectCount := Tab.put b (satInc (Tab.getD 0 b s.light.suspectCount)) s.light.suspectCount }

/-- Counts the consecutive decoded frames with errored symbols on each lane; at 8 the lane is suspect (R474). -/
def watchLanes (l : Nat) (bad : List Nat) (s : State) : State :=
  let s := s.updLink l fun x =>
    { x with suspectRun := bad.foldl (fun t i => Tab.put i (Tab.getD 0 i x.suspectRun + 1) t) [] }
  (bad.filter fun i => 8 ≤ Tab.getD 0 i (s.link l).suspectRun && !s.light.suspects.contains (l, i)).foldl (fun s i => suspectLane l i s) s

/-- Lane WR of a transmit link carries a lane's bits (R457). -/
def wrBusy (s : State) (t l : Nat) : Bool := reliefs s t l != []

/-- A handover of WR masks its check, from the switch S to S + 1,250 ticks (R465). -/
def wrMasked (s : State) (t : Nat) : Bool :=
  (s.group (linkGroup t)).handover.any fun h => h.lane == 16 && h.phase == .switched && decide (s.ft ≤ h.since + 1250)

/-- WR during one frame: while it carries no lane, the sender's next bits of PRBS31, of which the way inverts `flips`, are checked against
the sequence received so far, unless a handover of WR masks the check (R402, R465). -/
def idleWave (t l n flips : Nat) (s : State) : State :=
  if wrBusy s t l then s
  else
    let (bits, st) := prbsBits n (s.link t).prbs
    let (errs, rx) := prbsErrors n (s.link l).prbs (bits ^^^ flips % 2 ^ n)
    let masked := wrMasked s t
    (s.updLink t fun x => { x with prbs := st }).updLink l fun x =>
      { x with prbs := rx, wrErrs := if masked then x.wrErrs else satAdd x.wrErrs errs }

/-! ### What a transmit link sends (R403 to R412, R414, R420, R429) -/

/-- The circuit that a place in the cycle of 256 frames belongs to: circuits take its first frames, 16 for each 1/16 of share. -/
def circuitAt : Nat → List Circuit → Option Circuit
  | _, [] => none
  | n, c :: t => if n < 16 * c.share then some c else circuitAt (n - 16 * c.share) t

/-- The circuit whose frame a transmit link sends next. -/
def circuitNow (x : Link) : Option Circuit := circuitAt (x.frames % 256) x.circuits

/-- The passage of a packet that crosses the torus, as circuits name it; 0 for none (R536, R554). -/
def passageOf (p : BasePacket) : Nat :=
  let n := leField p.payload 24 2
  if ((24 ≤ p.destBerth ∧ p.destBerth < 30) ∨ (24 ≤ p.srcBerth ∧ p.srcBerth < 30)) ∧ n ≠ 0 then
    coordOf (leField p.payload 21 3) / 4096 * 65536 + n
  else 0

/-- A packet of a transmit link is for a receive link and goes in its next frame: in a circuit's frame the packets of the circuit's passage,
in another those of no circuit of the link (R429). On a fibre every packet is for the far link. -/
def goesNow (x : Link) (t l : Nat) (p : BasePacket) : Bool :=
  (linkFibre t || rxLink p.destBerth (linkBerth t % 8) == l) &&
    match circuitNow x with
    | some c => passageOf p == c.passage
    | none => !x.circuits.any fun c => c.passage == passageOf p

/-- A packet with the stamp it carries: that of its write, once issued (R361, R415). -/
def stamped (s : State) (t : TxPacket) : Option BasePacket :=
  match t.owner with
  | .write id => ((Tab.find? id s.mem.writes).bind WriteReq.stamp).map fun st => { t.pkt with stamp := st }
  | .msg _ | .part _ _ _ | .none => some t.pkt

/-- Drops the packets of a transmit link whose write or message a rollback has dropped before they were sent (R445). -/
def pruneQueue (t : Nat) (s : State) : State :=
  let gone := (s.link t).queue.filter fun p => !ownerStands s p.owner
  s.updLink t fun x =>
    { gone.foldl (fun x p => giveCredits (creditKey (linkBerth t) p.pkt) (packetUnits p.pkt) x) x with
      queue := x.queue.filter fun p => ownerStands s p.owner }

/-- The packet a transmit link takes at a packet boundary: VC0 first, at most one in 8 frames that carry other channels, else round robin
among VC1 to VC3 (R411). `shared` says that the frame carries one of those already. -/
def nextToSend (s : State) (x : Link) (t l : Nat) (shared : Bool) : Option (TxPacket × BasePacket) :=
  let first := fun (vc : Nat) =>
    (x.queue.find? fun p => p.pkt.vc % 4 == vc && goesNow x t l p.pkt).bind fun p => (stamped s p).map fun b => (p, b)
  let others := ((List.range 3).map fun i => (x.vcTurn + i) % 3 + 1).findSome? first
  match first 0 with
  | some p => if x.vcGap = 0 || (others.isNone && !shared) then some p else others
  | none => others

/-- A frame's packet stream as it fills: its bytes, the offset of the first header that begins in it, whether a packet of VC1 to VC3 is
in it, whether the last is one, and the link. -/
structure Filling where
  bytes  : Bytes
  first  : Option Nat
  others : Bool
  last   : Bool
  link   : Link

/-- The frames left, the next one among them, before the next frames of a transmit link are another circuit's or no circuit's, or the grant
of the receive link ends (R419, R429). -/
def framesLeft (s : State) (t l : Nat) : Nat :=
  let x := s.link t
  let now := circuitNow x
  let cycle := if x.circuits = [] then 256
    else ((List.range 256).find? fun i => circuitAt ((x.frames + i) % 256) x.circuits != now).getD 256
  if linkFibre t || now.isSome then cycle else min cycle ((s.link l).grantCap - (s.link l).grantFrames)

/-- A window whose instant has come, and which waits for a packet under way, lets no other begin (R424). -/
def windowWaits (s : State) (t l : Nat) : Bool :=
  s.base.windows.any fun w => !w.started && decide (w.start ≤ s.ft) && (w.links.contains t || w.links.contains l)

/-- Fills a frame with packets while there is room, a packet may go, and it ends within the `left` frames that are its link's in one run
(R409 to R411; notes/assumptions/178.md). -/
def fillFrame (s : State) (t l left : Nat) : Nat → Filling → Filling
  | 0, f => f
  | fuel + 1, f =>
    let room := contentLen (linkFibre t) - 8
    if room ≤ f.bytes.length || windowWaits s t l then f
    else match nextToSend s f.link t l f.others with
      | none => f
      | some (p, b) =>
        let d := f.bytes ++ streamBytes (linkFibre t) b
        if room * left < d.length then f
        else
          let vc0 := b.vc % 4 == 0
          fillFrame s t l left fuel
            { bytes := d, first := f.first.or (some f.bytes.length), others := f.others || !vc0, last := !vc0
              link := { f.link with queue := f.link.queue.erase p, vcTurn := if vc0 then f.link.vcTurn else b.vc % 4
                                    vcGap := if vc0 then 8 else f.link.vcGap } }

/-- Frames that a replay buffer keeps (R414). -/
def replayDepth (t : Nat) : Nat := if linkFibre t then 512 else 256

/-- The control word's fields for the paired link, on a fibre: an acknowledgement or NAK of what it has received, and the credits of the
lowest channel that has some to return (R407, R408). -/
def pairFields (s : State) (t : Nat) (c : Control) : Control × State :=
  if linkFibre t then
    let x := s.link t
    let due := (x.creditsDue.head?).getD (0, 0)
    let n := min due.2 511
    let seq := Tab.getD 0 t (s.link (t + 8)).rxSeq
    ({ c with aseq := (seq + 4095) % 4096, akind := x.ackDue, cvc := due.1, credits := n },
     s.updLink t fun x => { x with ackDue := 0, creditsDue := Tab.putD 0 due.1 (due.2 - n) x.creditsDue })
  else (c, s)

/-- The rest of a packet begun for a receive link does not go in the next frame: it is of a circuit whose frame that is not, or of none
while that is a circuit's (R429). -/
def partWaits (x : Link) (l : Nat) : Bool :=
  (Tab.find? l x.txPart).any fun p => match circuitNow x with
    | some c => c.passage != p.passage
    | none => x.circuits.any fun c => c.passage == p.passage

/-- A new frame of a transmit link for a receive link: the rest of the packet begun, then packets, then padding; with none it is IDLE (R406
to R411). It stays in the replay buffer (R414). -/
def newFrame (t l : Nat) (s : State) : Bytes × State :=
  let s := pruneQueue t s
  let x := s.link t
  let long := linkFibre t
  let waits := partWaits x l
  let part := if waits then none else Tab.find? l x.txPart
  let d := (part.map TxPart.bytes).getD []
  let f0 : Filling := { bytes := d, first := none, others := part.any TxPart.others, last := part.any TxPart.others, link := x }
  let f := if waits then f0 else fillFrame s t l (framesLeft s t l) 8 f0
  let room := contentLen long - 8
  let seq := Tab.getD 0 l x.txSeq
  let (c, s) := pairFields s t
    { type := if f.bytes = [] then 1 else 0, fseq := seq, epoch := s.base.epoch
      first := (f.first.filter (· < room)).getD 0x1FF }
  let content := contentOf long c (f.bytes.take room)
  (content, s.updLink t fun y =>
    let kept := x.replay ++ [(l, seq, content)]
    let rest := f.bytes.drop room
    { y with
      queue := f.link.queue, vcTurn := f.link.vcTurn
      txPart := if waits then x.txPart else if rest = [] then Tab.del l x.txPart
        else Tab.put l { passage := ((circuitNow x).map Circuit.passage).getD 0, others := f.last, bytes := rest } x.txPart
      vcGap := if f.others then f.link.vcGap - 1 else f.link.vcGap
      txSeq := Tab.put l ((seq + 1) % 4096) x.txSeq, replay := kept.drop (kept.length - replayDepth t) })

/-- The next frame of a transmit link for a receive link: a TRAIN frame after a retarget, which no circuit's frame carries, a frame sent
again from the replay buffer, or a new one (R414, R420, R429). -/
def nextFrame (t l : Nat) (s : State) : Bytes × State :=
  let x := s.link t
  if x.trainLeft ≠ 0 ∧ (circuitNow x).isNone then
    (contentOf (linkFibre t) { type := 2, epoch := s.base.epoch } [], s.updLink t fun x => { x with trainLeft := x.trainLeft - 1 })
  else match (Tab.find? l x.resend).bind fun r => x.replay.find? fun y => y.1 == l && y.2.1 == r with
    | some y =>
      let n := (y.2.1 + 1) % 4096
      (y.2.2, s.updLink t fun x =>
        { x with resend := if n = Tab.getD 0 l x.txSeq then Tab.del l x.resend else Tab.put l n x.resend })
    | none => newFrame t l (s.updLink t fun x => { x with resend := Tab.del l x.resend })

/-- Counts a frame of a transmit link in its cycle of R429, and the grant's frame at the receive link (R419). -/
def countFrame (t l : Nat) (s : State) : State :=
  let granted := (circuitNow (s.link t)).isNone
  let missing := (laneUse s t l).missing
  let s := s.updLink t fun x =>
    { x with frames := (x.frames + 1) % 256
             fifteen := if missing.isSome then satInc x.fifteen else x.fifteen }
  s.updLink l fun x =>
    { x with grantFrames := if granted then x.grantFrames + 1 else x.grantFrames
             dealt := if missing.isSome then (x.dealt + 16) % 15 else 0 }

/-- The transmit link that sends a base receive link its next frame: that of a circuit in the circuit's frames, else the holder of the
grant, whose port in use leads here and whose grant has frames left (R418, R419, R429). -/
def frameSender (s : State) (l : Nat) : Option Nat :=
  let x := s.link l
  ((x.circuits.find? fun c => (circuitNow (s.link c.peer)).any fun d => d.peer == l).map Circuit.peer).or
    (x.granted.filter fun t =>
      decide (x.grantFrames < x.grantCap) && (circuitNow (s.link t)).isNone &&
        Tab.find? (s.link t).active (s.link t).ports == some (linkBerth l))

/-- A transmit link sends in this base cycle: it works, no window holds it, and after a retarget the first DATA frame comes 8 ns, one tick,
after the last frame to the old port; a circuit's frames wait for no retarget (R420, R423, R429). -/
def sendsNow (s : State) (t l : Nat) : Bool :=
  txFree s t && pairOpen s t l &&
    ((circuitNow (s.link t)).isSome || (s.link t).trainLeft != 0 || (s.link t).retargetAt.all fun T0 => decide (T0 + 1 ≤ s.ft))

/-! ### Receiving a frame (R403, R408, R414 to R416, R445) -/

/-- Both directions of a link enter TRAIN, to retrain in the next slot free for it (R416). -/
def toTrain (l : Nat) (s : State) : State :=
  let pair := linkPair l
  nextWindow pair (pair.map .retrain)
    (setLinks pair 1 (pair.foldl (fun s x => s.updLink x fun k => { k with nak := [], badRun := [] }) s))

/-- A frame that has failed four transmissions (R416). -/
def unrecovered (l fseq : Nat) (s : State) : State :=
  toTrain l (raiseFault Ev.linkUnrecovered (leBytes 1 (linkBerth l) ++ leBytes 1 (linkIdx l) ++ leBytes 2 fseq)
    (s.updLink l fun x => { x with unrecovered := satInc x.unrecovered }))

/-- Gives units back to the packets of a channel in the order in which they were sent, each to its class (R542). -/
def returnUnits (vc : Nat) : Nat → List (Nat × Nat) → Link → Link
  | _, [], x => { x with sentUnits := Tab.putD [] vc [] x.sentUnits }
  | n, (cls, u) :: rest, x =>
    let k := min n u
    let y := giveCredits (4 * cls + vc) k x
    if k < u then { y with sentUnits := Tab.putD [] vc ((cls, u - k) :: rest) x.sentUnits } else returnUnits vc (n - k) rest y

/-- What a fibre frame's control word tells the paired transmit link: acknowledgement, NAK, credits; those of a channel return to the classes
of its packets in the order in which these were sent (R407, R408, R414, R542, R543; notes/assumptions/145.md). -/
def fibreControl (l : Nat) (c : Control) (s : State) : State :=
  s.updLink (l - 8) fun x =>
    let y := returnUnits (c.cvc % 4) c.credits (Tab.getD [] (c.cvc % 4) x.sentUnits) x
    { y with
      replay := if c.akind = 1 then (x.replay.filter fun r => 2048 ≤ (c.aseq + 4096 - r.2.1) % 4096) else x.replay
      nak := if c.akind = 2 then Tab.put (l - 8) ((c.aseq + 1) % 4096) x.nak else x.nak }

/-- A packet reaches a receive link's basin. A memory berth notes a write's part and a read's request (R361, R409). -/
def arrivePacket (l t : Nat) (p : BasePacket) (s : State) : State :=
  let s := basinTake l t p s
  if linkFibre l || linkBerth l < 16 || 24 ≤ linkBerth l then s
  else if p.kind = 0 then
    match List.find? (fun x => x.2.stamp == some p.stamp && x.2.stage == .flight && x.2.parts != 0) s.mem.writes with
    | some x => { s with mem.writes := Tab.put x.1 { x.2 with parts := x.2.parts - 1 } s.mem.writes }
    | none => s
  else if p.kind = 1 then { s with mem.reads := Tab.modify p.tag (fun r => { r with here := true }) s.mem.reads }
  else s

/-- The key of a receive link's expected FSEQ: its sender's link, or on a fibre its own pair's (notes/assumptions/147.md). -/
def seqKey (l t : Nat) : Nat := if linkFibre l then l - 8 else t

/-- The lanes of a frame that a receive link takes: its sender's, or on a fibre what the far module has made known. -/
def lanesRead (s : State) (l t : Nat) : LaneUse := if linkFibre l then laneUse s l l else laneUse s t l

/-- What a decoded frame has shown: symbols corrected are counted, and their lanes watched (R448, R474). -/
def countDecoded (l t : Nat) (syms : List Nat) (s : State) : State :=
  let fromWr := if linkFibre l then (laneUse s l l).mirror else readFromWr s t l
  watchLanes l (errLanes (linkFibre l) (lanesRead s l t).missing fromWr (s.link l).dealt syms) (s.updLink l fun x =>
    { x with corrected := if syms ≠ [] then satInc x.corrected else x.corrected, symbols := satAdd x.symbols syms.length })

/-- A frame taken in order: its packets enter the basin (R415, R433). -/
def acceptFrame (l t : Nat) (c : Control) (content : Bytes) (s : State) : State :=
  let k := seqKey l t
  let (pkts, part) := readStream (linkFibre l) (Tab.getD [] k (s.link l).rxPart) c content
  let s := s.updLink l fun x =>
    { x with
      rxSeq := Tab.put k ((c.fseq + 1) % 4096) x.rxSeq, nak := Tab.del k x.nak, badRun := Tab.del k x.badRun
      rxPart := if c.type = 0 then Tab.putD [] k part x.rxPart else x.rxPart }
  if c.type = 0 then pkts.foldl (fun s p => arrivePacket l t p s) s else s

/-- A receiver asks for a frame again: over the side band on the base, in the paired link's control word on a fibre (R408, R414). -/
def askAgain (l t fseq : Nat) (s : State) : State :=
  if linkFibre l then s.updLink (l - 8) fun x => { x with ackDue := 2 }
  else s.updLink t fun x => { x with nak := Tab.put l fseq x.nak }

/-- A frame that a receive link has NAKed has not been sent again: the sender still holds the NAK, or on a fibre has not begun its replay
(R414). -/
def nakStands (l t : Nat) (again : Bool) (s : State) : Bool :=
  Tab.has (seqKey l t) (s.link l).nak && (if linkFibre l then !again else Tab.has l (s.link t).nak)

/-- An uncorrectable frame: a NAK of the FSEQ due, and at the fourth transmission of that frame it is unrecovered (R414, R416). One that
comes before the frame last NAKed is sent again is discarded. -/
def badFrame (l t : Nat) (again : Bool) (s : State) : State :=
  if nakStands l t again s then s.updLink l fun x => { x with suspectRun := [] }
  else
    let k := seqKey l t
    let due := Tab.getD 0 k (s.link l).rxSeq
    let run := Tab.getD 0 k (s.link l).badRun + 1
    let s := askAgain l t due (s.updLink l fun x =>
      { x with uncorrectable := satInc x.uncorrectable, nak := Tab.put k due x.nak, badRun := Tab.put k run x.badRun, suspectRun := [] })
    if run = 4 then unrecovered l due s else s

/-- A frame's bits reach a receive link's decoder: an uncorrectable one is NAKed, one of another epoch, a TRAIN frame and one that is not
the next in FSEQ order are discarded (R403, R407, R414, R415, R445). -/
def takeFrame (l t bits : Nat) (again : Bool) (s : State) : State :=
  match decodeFrame (linkFibre l) bits with
  | none => badFrame l t again s
  | some (content, syms) =>
    let s := countDecoded l t syms s
    let c := controlOf content
    if c.type = 2 || 4 ≤ c.type || c.epoch != s.base.epoch || c.fseq != Tab.getD 0 (seqKey l t) (s.link l).rxSeq then s
    else acceptFrame l t c content (if linkFibre l then fibreControl l c s else s)

/-! ### Frames onto a fibre (R408, R543, R544) -/

/-- A fibre transmit link is UP, and its far link's weir does not hold a packet's channel back (R435, R543). -/
def fibreOpen (s : State) (p : TorusPacket) (t : Nat) : Bool :=
  linkUp s t && pairOpen s t t && !(s.link t).farHigh.contains (p.base.vc % 4)

/-- It holds the credits of the packet's channel and class too (R543). -/
def fibreHas (s : State) (p : TorusPacket) (t : Nat) : Bool :=
  fibreOpen s p t && decide (packetUnits (torusBase p) ≤ creditsLeft (s.link t) (4 * (p.cls % 2) + p.base.vc % 4))

/-- The fibre transmit link of a direction that a packet takes: its passage's, else the lowest-numbered good one (R554;
notes/assumptions/152.md). -/
def fibrePick (s : State) (dir : Nat) (p : TorusPacket) (good : Nat → Bool) : Option Nat :=
  let l := (List.range 8).map (fibreTx dir)
  (l.find? fun t => linkUp s t && (s.link t).circuits.any fun c => c.passage == passageOf (torusBase p)).or (l.find? good) |>.filter good

/-- The fibre transmit link that takes a packet now (R435, R543, R554). -/
def fibreFor (s : State) (dir : Nat) (p : TorusPacket) : Option Nat := fibrePick s dir p (fibreHas s p)

/-- A packet waits at a torus port for credits alone (R543, R576). -/
def fibreStalls (s : State) (dir : Nat) (p : TorusPacket) : Bool :=
  (fibreFor s dir p).isNone && (fibrePick s dir p (fibreOpen s p)).isSome

/-- Sends what a fibre transmit link has to send: frames while packets, acknowledgements or credits remain (R408, R544). -/
def fibreSend (t : Nat) : Nat → State → State
  | 0, s => s
  | fuel + 1, s =>
    let x := s.link t
    if !linkUp s t || !pairOpen s t t || (x.queue = [] && x.txPart = [] && x.ackDue = 0 && x.creditsDue = [] && x.resend = []) then s
    else
      let (content, s) := nextFrame t t (laneStep t t s)
      let (wr, st) := prbsBits 170 (s.link t).prbs
      let busy := wrBusy s t t
      let lanes := laneSends true (encodeFrame true content) (laneUse s t t) (s.link t).dealt
      let s := countFrame t t (s.updLink t fun x => { x with prbs := if busy then x.prbs else st })
      fibreSend t fuel (torusSend (.frame t lanes (if busy then 0 else wr) (s.link (t + 8)).weirHigh) s)

/-- A packet of a torus berth goes onto a fibre of its direction, counted by R576; none while it must wait for credits (R543). -/
def fibreAdmit (dir : Nat) (p : BasePacket) (s : State) : Option State :=
  let q := torusOf p
  (fibreFor s dir q).map fun t =>
    let s := countPort dir q.base.vc 2 1 (countPort dir q.base.vc 0 (fibreFlits q) s)
    fibreSend t 16 (s.updLink t fun x =>
      { takeCredits (4 * (q.cls % 2) + q.base.vc % 4) (packetUnits p) x with
        queue := x.queue ++ [{ owner := .none, pkt := p }]
        sentUnits := Tab.put (q.base.vc % 4)
          (Tab.getD [] (q.base.vc % 4) x.sentUnits ++ [(q.cls % 2, packetUnits p)]) x.sentUnits })

/-- The packets that wait in a torus berth for fibre credits go, in order, as far as they can; one that waits holds back those behind it on
its channel (R415, R543). -/
def fibreList (dir : Nat) : List BerthWait → List Nat → State → List BerthWait × State
  | [], _, s => ([], s)
  | w :: l, held, s =>
    let vc := w.tx.pkt.vc % 4
    match (if held.contains vc then none else fibreAdmit dir w.tx.pkt s) with
    | some s => fibreList dir l held s
    | none =>
      let (left, s) := fibreList dir l (vc :: held) s
      (w :: left, s)

/-- The fibre side of a torus berth: its waiting packets are kept under key 32 + direction. -/
def fibreEnter (dir : Nat) (l : List BasePacket) (s : State) : State :=
  let w := Tab.getD [] (32 + dir) s.base.waiting ++ l.map fun p => ({ port := none, tx := { owner := .none, pkt := p } } : BerthWait)
  let (left, s) := fibreList dir w [] s
  markDepth dir { s with base.waiting := Tab.putD [] (32 + dir) left s.base.waiting }

/-- A transmit link can use the frame that comes next in its cycle: its circuit's, or one of a grant it holds (R429). -/
def usesFrame (s : State) (t : Nat) : Bool :=
  match circuitNow (s.link t) with
  | some c => linkUp s c.peer && sendsNow s t c.peer
  | none => (targetsOf (linkBerth t) (s.link t).ports).any fun r => (s.link r).granted == some t && sendsNow s t r

/-- The cycle of a transmit link that a receive link's circuits or grant name, and that has no use for its next frame, goes on by a frame
(R429). -/
def passCycle (l : Nat) (sender : Option Nat) (s : State) : State :=
  let x := s.link l
  (((x.circuits.map Circuit.peer ++ x.granted.toList).eraseDups).filter fun t => some t != sender && (s.link t).circuits != [] &&
    !usesFrame s t).foldl (fun s t => s.updLink t fun x => { x with frames := (x.frames + 1) % 256 }) s

/-- A frame that comes from another module over a fibre: what it calls for goes out on the paired link (R408, R543). -/
def fibreFrame (l : Nat) (f : LinkFrame) (s : State) : State :=
  let (errs, st) := prbsErrors 170 (s.link l).prbs f.wr
  let off := f.mirror.isSome || wrMasked s (l - 8)
  let s := (s.updLink l fun x =>
    { x with
      prbs := st, wrErrs := if off then x.wrErrs else satAdd x.wrErrs errs
      lanes := Tab.put l { mirror := f.mirror, missing := f.missing } x.lanes
      dealt := if f.missing != (laneUse s l l).missing then 0 else x.dealt }).updLink (l - 8) fun x => { x with farHigh := f.weir }
  let s := takeFrame l 0 f.bits f.again s
  let s := s.updLink l fun x => { x with dealt := if f.missing.isSome then (x.dealt + 16) % 15 else 0 }
  let s := if (s.link l).nak = [] ∧ linkUp s l then s.updLink (l - 8) fun x => { x with ackDue := max x.ackDue 1 } else s
  fibreEnter ((l - 512) / 16) [] (fibreSend (l - 8) 16 s)

/-- LINK_FRAME_RECEIVE: on the base the sender of the moment forms its next frame, whose light the way changes; on a fibre the frame comes
from another module (R402 to R416, R419, R420, R423, R429, R445). -/
def frameReceive (l : Nat) (f : LinkFrame) (s : State) : State :=
  if !linkRx l || !linkUp s l || s.base.reset.isSome then s
  else if linkFibre l then fibreFrame l f s
  else
    let sender := (frameSender s l).filter fun t => sendsNow s t l
    passCycle l sender (match sender with
      | none => s
      | some t =>
        let (content, s) := nextFrame t l (laneStep t l s)
        countFrame t l (takeFrame l t (encodeFrame false content ^^^ f.bits % 2 ^ 1360) false (idleWave t l 85 f.wr s)))

def execLinkFrameReceive (link : Nat) (f : LinkFrame) (s : State) : Host.Outcome State Fault Refusal :=
  .next (frameReceive link f s)

/-- NAK_RESEND: the sender resends from each NAKed frame onward, from its replay buffer (R414). -/
def nakStep (l : Nat) (s : State) : State :=
  let q := (s.link l).nak
  if linkRx l || q == [] then s
  else
    let s := s.updLink l fun x =>
      { x with nak := [], resend := q.foldl (fun t r => Tab.put r.1 r.2 t) x.resend, replays := satAdd x.replays q.length }
    if linkFibre l then fibreSend l 512 s else s

def execNakResend (link : Nat) (s : State) : Host.Outcome State Fault Refusal := .next (nakStep link s)

/-- BASE_PARITY_ERROR (R417). -/
def baseParity (berth struct link : Nat) (s : State) : State :=
  raiseFault Ev.baseParity (leBytes 1 berth ++ leBytes 1 struct)
    (s.updLink link fun x => { x with parityErrs := satInc x.parityErrs })

def execBaseParityError (berth struct : Nat) (link : Nat) (s : State) : Host.Outcome State Fault Refusal :=
  .next (baseParity berth struct link s)

/-! ### Grants, retargets, credits (R411, R419, R420, R423, R433, R435) -/

/-- A transmit link has something to send a receive link under a grant. -/
def hasFrames (s : State) (t l : Nat) : Bool :=
  let x := s.link t
  Tab.has l x.resend || Tab.has l x.txPart ||
    x.queue.any fun p => rxLink p.pkt.destBerth (linkBerth t % 8) == l && !x.circuits.any fun c => c.passage == passageOf p.pkt

/-- A request for a receive link's grant that stands: the link is a source of it, no window holds it, and it has a packet of the channel
for it (R419, R423). -/
def requestStands (s : State) (l : Nat) (r : Nat × Nat) : Bool :=
  (sourcesOf s l).contains r.1 && txFree s r.1 && hasFrames s r.1 l &&
    (Tab.has l (s.link r.1).txPart || Tab.has l (s.link r.1).resend || (s.link r.1).queue.any fun p => p.pkt.vc % 4 == r.2)

/-- The request of the lowest-numbered transmit link. -/
def lowestRequest (requests : List (Nat × Nat)) : Option (Nat × Nat) :=
  requests.foldl (fun (a : Option (Nat × Nat)) q => match a with
    | none => some q
    | some p => if q.1 < p.1 then some q else some p) none

/-- The requester served next: one with VC0 packets, else the one after the last in round robin; of the requests for a channel above the
upper weir the oldest (R419, R435). Requests are (transmit link, channel), oldest first. -/
def nextGrant (x : Link) (requests : List (Nat × Nat)) : Option (Nat × Nat) :=
  (requests.find? fun r => r.2 == 0).or
    (((lowestRequest (requests.filter fun q => x.granted.getD 4096 < q.1)).or (lowestRequest requests)).bind fun r =>
      if x.weirHigh.contains r.2 then requests.find? fun q => q.2 == r.2 else some r)

/-- The frames a grant lasts: 16 from the lower weir up, else 64 (R419, R435). -/
def grantFor (s : State) (l vc : Nat) : Nat :=
  if basinPart l vc ≤ 2 * Tab.getD 0 vc (s.link l).occupancy then 16 else 64

/-- The grant of a receive link is over: nobody holds it, its frames are used, or its holder has no more packets for the link
(R419). -/
def grantOver (s : State) (l : Nat) : Bool :=
  let x := s.link l
  match x.granted with
  | none => true
  | some t => decide (x.grantCap ≤ x.grantFrames) || !hasFrames s t l || !txFree s t

/-- GRANT_PASS: a receive link that no window holds, and whose grant is over, passes it to the next requester (R419, R423, R435);
`waited` is how many base cycles requests have waited since the last of these commands, whether or not it passes now (R448). -/
def grantStep (l : Nat) (requests : List (Nat × Nat)) (waited : Nat) (s : State) : State :=
  if linkRx l && !linkFibre l && linkUp s l then
    let stand := requests.filter (requestStands s l)
    let s := s.updLink l fun x => { x with grantWaits := if stand = [] then x.grantWaits else satAdd x.grantWaits waited }
    if (s.link l).paused || !grantOver s l then s
    else match nextGrant (s.link l) stand with
      | none => s.updLink l fun x => { x with granted := none, grantFrames := 0 }
      | some (t, vc) => s.updLink l fun x => { x with granted := some t, grantFrames := 0, grantCap := grantFor s l vc }
  else s

def execGrantPass (link : Nat) (requests : List (Nat × Nat)) (waited : Nat) (s : State) : Host.Outcome State Fault Refusal :=
  .next (grantStep link requests waited s)

/-- A transmit link has a packet under way, or a frame to send again, on its port in use. -/
def busyPort (x : Link) (l : Nat) : Bool :=
  (Tab.find? x.active x.ports).any fun d =>
    let r := rxLink d (linkBerth l % 8)
    Tab.has r x.txPart || Tab.has r x.nak || Tab.has r x.resend

/-- FAST_PORT_RETARGET: a working transmit link takes another of its set ports at a packet boundary, when no frame is to be sent again on the
old one and the frame is no circuit's, and sends three TRAIN frames first; a port of a link held by a window waits (R414, R420, R424,
R429). -/
def retargetStep (l port : Nat) (s : State) : State :=
  let x := s.link l
  match Tab.find? port x.ports with
  | none => s
  | some d =>
    if linkRx l || !linkUp s l || x.paused || (s.link (rxLink d (linkBerth l % 8))).paused || x.active = port || busyPort x l ||
        (circuitNow x).isSome then s
    else s.updLink l fun x =>
      { x with active := port, retargetAt := some s.ft, trainLeft := 3, retargets := satInc x.retargets }

def execFastPortRetarget (link port : Nat) (s : State) : Host.Outcome State Fault Refusal := .next (retargetStep link port s)

/-! ### A berth drains its basins (R354, R399, R433, R435) -/

/-- A packet of a lighter enters the mesh at the base port of its core's reach (R85, R94, R399). -/
def portPacket (s : State) (k : Nat) (o : Owner) (p : BasePacket) : Nat × NetPacket :=
  let r := baseRouter k (servingPort s k (reachOf p.destUnit))
  (r, meshPacket s r (128 * k + p.destUnit) false { owner := o, pkt := p })

/-- That base port carries traffic, and its router's input buffer has room for the packet (R118, R399, R724). -/
def portFree (s : State) (k : Nat) (p : BasePacket) : Bool :=
  let (r, q) := portPacket s k .none p
  routerLive s r && ((portHere r).any fun p => portLive s k p) &&
    decide ((Tab.getD [] (queueKey 5 false q.vc) (s.router r).queues).length + (flitsOf q).length ≤ 8)

/-- A packet that a stack berth sends to a core of its stack enters the mesh at the base port of the core's reach. -/
def portEnter (k : Nat) (o : Owner) (p : BasePacket) (s : State) : State :=
  let (r, q) := portPacket s k o p
  ({ s with stk.packetNo := s.stk.packetNo + 1 } : State).updRouter r fun x =>
    let k := queueKey 5 false q.vc
    { x with queues := Tab.put k (Tab.getD [] k x.queues ++ flitsOf q) x.queues }

/-- The berth may take a packet out of a basin now: in a stack berth the base port's router has room for it; in a memory berth its write has
left for its line and its read has been served, so that a write that waits on the pool holds its units (R354, R399, R433). A REDUCE packet
leaves by BASIN_REDUCE alone, but in a torus berth, which forwards it (R436). -/
def drains (s : State) (l : Nat) (p : BasePacket) : Bool :=
  let b := linkBerth l
  if p.kind = 4 ∧ (b < 24 ∨ 30 ≤ b) then false
  else if b < 16 then portFree s b p
  else if b < 24 then
    if p.kind = 0 then s.mem.writes.all fun x => x.2.stamp != some p.stamp || (x.2.stage != .flight && x.2.stage != .pool)
    else if p.kind = 1 then
      match Tab.find? p.tag s.mem.reads with
      | some r => r.data.isSome || r.tries != 0
      | none => true
    else true
  else true

/-- A memory berth takes an acknowledgement of its torus writes (R551). -/
def ackReceive (dest n count : Nat) (s : State) : State :=
  { s with torus.sent := s.torus.sent.map fun x =>
      if x.dest = dest ∧ x.n = n then { x with acked := max x.acked count } else x }

/-- A wharf's acknowledgement settles the notice of its number to its module (R565). -/
def noticeAcked (no coord : Nat) (s : State) : State :=
  match Tab.find? no s.torus.notices with
  | some x =>
    if (noticeDest s x.what).any fun d => coordOf d == coordOf coord then
      { s with torus.notices := Tab.del no s.torus.notices }
    else s
  | none => s

/-- The wharf takes a packet of the torus: a CONTROL packet, or an acknowledgement (R564, R565). -/
def wharfTakes (p : BasePacket) (s : State) : State :=
  let q := torusOf p
  let no := leField q.base.payload 0 8
  if p.kind = 5 then
    let c : ControlIn := { port := p.srcBerth - 24, src := q.src, no := no }
    { s with torus.control := s.torus.control ++ [c] }
  else if p.kind = 6 then noticeAcked no q.src s
  else s

/-- A memory berth takes a packet that is no write and no read: an acknowledgement from the torus (R551). -/
def berthTakes (p : BasePacket) (s : State) : State :=
  let q := torusOf p
  if p.kind = 6 then ackReceive q.src q.pound (leField q.base.payload 0 8) s else s

/-- A packet comes from the torus. -/
def ofTorus (p : BasePacket) : Bool := decide (24 ≤ p.srcBerth ∧ p.srcBerth < 30)

/-- Where a drained packet goes: in a stack berth to the base port of its core's reach, in a torus berth to the fibres (R399, R540), at a
memory berth and the wharf to what takes the acknowledgements and notices of the torus (R551, R564, R565). -/
def deliverBase (l : Nat) (p : BasePacket) (s : State) : State :=
  let b := linkBerth l
  if b < 16 then portEnter b .none p s
  else if b < 24 then (if ofTorus p then berthTakes p s else s)
  else if b < 30 then fibreEnter (b - 24) [p] s
  else if b = 30 ∧ ofTorus p then wharfTakes p s
  else s

/-- Takes the packets at the front of a channel's queue that fit in a number of units and may leave; each leaves its units with the transmit
link it came from (R433). -/
def drainQueue (l vc : Nat) : Nat → Nat → State → State
  | 0, _, s => s
  | fuel + 1, units, s =>
    match Tab.getD [] (4 * l + vc) s.base.queues with
    | [] => s
    | (p, t) :: rest =>
      if packetUnits p ≤ units && drains s l p then
        let s := basinGive l vc (packetUnits p) { s with base.queues := Tab.put (4 * l + vc) rest s.base.queues }
        drainQueue l vc fuel (units - packetUnits p)
          (deliverBase l p (backTo t (4 * l + vc) (packetUnits p) s))
      else s

/-- CREDIT_RETURN: a berth drains packets of a channel from a receive link, and their credits go back to their senders, whose berths look
again at what waits (R433, R435). -/
def creditStep (l vc units : Nat) (s : State) : State :=
  if !linkRx l || linkFibre l then s
  else admitAll (drainQueue l (vc % 4) units units s)

def execCreditReturn (link vc units : Nat) (s : State) : Host.Outcome State Fault Refusal := .next (creditStep link vc units s)

/-! ### Lock windows (R422 to R431) -/

/-- A fast port of a berth may lead to another berth, and to its own only as the service berth's loopback (R418). -/
def portAllowed (l dest : Nat) : Bool := dest != linkBerth l || linkBerth l == 31

/-- What an act does at its window's start. A port change leaves a link the ports that a circuit pins; the new ones wait for their
rings, and the old ones are gone (R422, R423, R429). -/
def startAct (a : WindowAct) (s : State) : State :=
  match a with
  | .ports l dests =>
    let x := s.link l
    let keep := x.ports.filter fun p => pinned x p.1
    s.updLink l fun x => { x with ports := keep, unset := dests.filter fun p => !Tab.has p.1 keep && portAllowed l p.2 }
  | .retry l port dest =>
    if pinned (s.link l) port || !portAllowed l dest then s
    else s.updLink l fun x => { x with ports := Tab.del port x.ports, unset := Tab.put port dest x.unset }
  | .setCircuit l port share passage => setCircuit l port share passage s
  | .releaseCircuit l _ passage => dropCircuit l passage s
  | .relock r => { s with light.swept := if s.light.swept.contains r then s.light.swept else s.light.swept ++ [r] }
  | .retrain _ | .laneSpare _ _ | .groupSpare _ _ | .calib _ => s

/-- A link is named by a window at W: a sender's burst ends there, and so does a burst to a receive link whose rings are retuned
(R423, R424). -/
def holdLink (l : Nat) (s : State) : State :=
  let free := fun (x : Link) => if x.granted = some l then { x with granted := none, grantFrames := 0 } else x
  let s : State := { s with base.links := s.base.links.mapVals fun _ x => free x }
  s.updLink l fun x => { x with paused := true, granted := none, grantFrames := 0 }

/-- No packet is under way on a working link, and none of its frames is to be sent again: the frame in transmission has completed (R424). -/
def linkQuiet (s : State) (l : Nat) : Bool :=
  let x := s.link l
  linkFibre l || !linkUp s l ||
    (if linkRx l then (sourcesOf s l).all fun t => !linkUp s t || (!Tab.has l (s.link t).txPart && !Tab.has l (s.link t).nak && !Tab.has l (s.link t).resend)
     else x.txPart == [] && x.nak == [] && x.resend == [])

/-- A window's instant has come and its links are ready for it. -/
def windowDue (s : State) (w : Window) : Bool := !w.started && decide (w.start ≤ s.ft) && w.links.all (linkQuiet s)

/-- A packet of a transmit link is held by a window that names the link or the receive link it is for. -/
def heldBack (links : List Nat) (t : Nat) (p : TxPacket) : Bool :=
  links.contains t || links.contains (rxLink p.pkt.destBerth (linkBerth t % 8))

/-- Packets that hold credit and have not been sent when a window holds their links wait in their berths (R424; notes/assumptions/177.md). -/
def takeBackAll (links : List Nat) (s : State) : State :=
  (s.base.links.filter fun x => !linkRx x.1 && !linkFibre x.1 && x.2.queue != []).foldl
    (fun s x => takeBack (heldBack links) x.1 s) s

/-- The receive links whose sources may differ between two states: those that a changed link's ports or circuits lead to. -/
def sourcesMoved (links : List Nat) (was s : State) : List Nat :=
  ((links.filter fun l => !linkRx l && !linkFibre l).flatMap fun l =>
    targetsOf (linkBerth l) (was.link l).ports ++ targetsOf (linkBerth l) (s.link l).ports ++
      (was.link l).circuits.map Circuit.peer ++ (s.link l).circuits.map Circuit.peer).eraseDups

/-- Firmware allots the credits of the receive links whose sources a window changes (R434). -/
def reallot (links : List Nat) (was s : State) : State := (sourcesMoved links was s).foldl (fun s l => allot l s) s

/-- LOCK_WINDOW_START: every window whose instant has come holds its links and makes its changes (R422 to R424, R428). -/
def windowStart (s : State) : State :=
  let due := s.base.windows.filter (windowDue s)
  let s' : State := { s with base.windows := s.base.windows.map fun w => if windowDue s w then { w with started := true } else w }
  let s' := due.foldl (fun s w => w.acts.foldl (fun s a => startAct a s)
    (w.links.foldl (fun s l => holdLink l s) (takeBackAll w.links s))) s'
  reallot (due.flatMap Window.links) s s'

def execLockWindowStart (s : State) : Host.Outcome State Fault Refusal := .next (windowStart s)

/-- A started window that names a link and stands before its deadline W + 625. -/
def inWindow (s : State) (l : Nat) : Bool :=
  s.base.windows.any fun w => w.started && !w.late && w.links.contains l && decide (s.ft ≤ w.start + 625)

/-- A link resumes with those of its new ports whose rings have locked (R423, R425). -/
def resume (l : Nat) (locked : Tab Nat) (s : State) : State :=
  let s' := s.updLink l fun x =>
    { x with ports := locked.foldl (fun t p => Tab.put p.1 p.2 t) x.ports, unset := [], paused := false }
  admitAll (reallot [l] s s')

/-- A link's new ports whose rings have locked stand among its ports, and it stays held for the others (R423). -/
def lockPorts (l : Nat) (locked rest : Tab Nat) (s : State) : State :=
  reallot [l] s (s.updLink l fun x => { x with ports := locked.foldl (fun t p => Tab.put p.1 p.2 t) x.ports, unset := rest })

/-- RETUNED_RINGS_LOCKED: the rings of a named link's new fast ports `rings.2` have locked; the link resumes when none of its new ports
    is left, and till then sends nothing (R423). -/
def ringsLocked (rings : Nat × List Nat) (s : State) : State :=
  let new := (s.link rings.1).unset
  let rest := new.filter fun p => !rings.2.contains p.1
  if !inWindow s rings.1 then s
  else if rest.isEmpty then resume rings.1 new s
  else lockPorts rings.1 (new.filter fun p => rings.2.contains p.1) rest s

def execRetunedRingsLocked (rings : Nat × List Nat) (s : State) : Host.Outcome State Fault Refusal := .next (ringsLocked rings s)

/-- A port whose ring has not locked by W + 625 ticks is left unset, and retried in the next free slot (R425). -/
def portUnset (l : Nat) (s : State) (p : Nat × Nat) : State :=
  nextWindow [l] [.retry l p.1 p.2]
    (logEvent Ev.portUnset (leBytes 1 (linkBerth l) ++ leBytes 1 (linkIdx l) ++ leBytes 1 p.1 ++ leBytes 1 p.2) s)

/-- A link still held at W + 625 ticks: the new ports whose rings have not locked stay unset, and the link resumes with its others (R423,
R425). -/
def linkDeadline (l : Nat) (s : State) : State :=
  if (s.link l).paused then (s.link l).unset.foldl (portUnset l) (resume l [] s) else s

/-- LOCK_WINDOW_RING_DEADLINE: every link still held by a window whose W + 625 ticks have passed resumes without the ports whose rings
    have not locked (R423, R425). -/
def windowDeadline (s : State) : State :=
  let past := fun (w : Window) => w.started && !w.late && decide (w.start + 625 ≤ s.ft)
  let due := s.base.windows.filter past
  let s : State := { s with base.windows := s.base.windows.map fun w => if past w then { w with late := true } else w }
  due.foldl (fun s w => w.links.foldl (fun s l => linkDeadline l s) s) s

def execLockWindowRingDeadline (s : State) : Host.Outcome State Fault Refusal := .next (windowDeadline s)

/-- Units of a receive link's channel that a transmit link's packets hold: in the basin, in its own queue, and in open entries. -/
def unitsHeld (s : State) (t l vc : Nat) : Nat :=
  ((Tab.getD [] (4 * l + vc) s.base.queues).filter fun q => q.2 = t).foldl (fun a q => a + packetUnits q.1) 0 +
  ((s.link t).queue.filter fun p => creditKey (linkBerth t) p.pkt = 4 * l + vc).foldl (fun a p => a + packetUnits p.pkt) 0 +
  (s.base.basins.filter fun e => vc = 3 ∧ e.2.sender = some (l, t)).foldl (fun a e => a + e.2.units) 0

/-- A receive link and a transmit link that sends to it begin anew: FSEQ at 0, nothing to send again, no packet half received, and credits
for what is still held (notes/assumptions/147.md). -/
def resync (t l : Nat) (s : State) : State :=
  let held := (List.range 4).map (unitsHeld s t l)
  (s.updLink t fun x =>
    { x with
      txSeq := Tab.del l x.txSeq, replay := x.replay.filter fun y => y.1 ≠ l, resend := Tab.del l x.resend, nak := Tab.del l x.nak
      txPart := Tab.del l x.txPart
      used := held.zipIdx.foldl (fun u h => Tab.putD 0 (4 * l + h.2) h.1 u) x.used }).updLink l fun x =>
    { x with rxSeq := Tab.del t x.rxSeq, rxPart := Tab.del t x.rxPart, nak := Tab.del t x.nak, badRun := Tab.del t x.badRun }

/-- A retrained link is UP, its sequences begin anew; a fibre link only where its far end is the one its port must see (R416, R532). -/
def retrained (l : Nat) (s : State) : State :=
  if linkFibre l && !trainedRight s ((l - 512) / 16) l then s
  else
  let s := setLinks [l] 2 s
  if linkFibre l then
    s.updLink l fun x => { x with txSeq := [], rxSeq := [], replay := [], resend := [], nak := [], badRun := [], txPart := [], rxPart := [] }
  else if linkRx l then (sourcesOf s l).foldl (fun s t => resync t l s) s
  else ((targetsOf (linkBerth l) (s.link l).ports)).foldl (fun s r => resync l r s) s

/-- What an act leaves when its window ends: a retrained link is UP (R416). -/
def endAct (a : WindowAct) (s : State) : State :=
  match a with
  | .retrain l => if (darkLinks s).contains l then s else retrained l s
  | _ => s

/-- A spare of a stack's joints is still to be put in (R723, R724). -/
def spareLeft (w : Window) : Bool := w.acts.any fun a => match a with
  | .laneSpare _ _ | .groupSpare _ _ => true
  | .ports _ _ | .retry _ _ _ | .setCircuit _ _ _ _ | .releaseCircuit _ _ _ | .relock _ | .retrain _ | .calib _ => false

/-- LOCK_WINDOW_END: at W + 640 ticks the window is over and its links run on (R422, R424), and a flight all of whose windows have ended is
over (R427). A window whose spare is still to be put in does not end before it. -/
def windowEnd (s : State) : State :=
  let past := fun (w : Window) => w.started && decide (w.start + 640 ≤ s.ft) && !spareLeft w
  let due := s.base.windows.filter past
  let s : State := { s with base.windows := s.base.windows.filter fun w => !past w }
  let s := due.foldl (fun s w => w.acts.foldl (fun s a => endAct a s)
    (w.links.foldl (fun s l => linkDeadline l s) s)) s
  let live := fun (f : Nat × List FlightWindow) =>
    f.2.any (fun w => decide (s.ft < w.start + 640)) || s.base.windows.any fun w => w.flight == some f.1
  admitAll { s with torus.flights := s.torus.flights.filter live }

def execLockWindowEnd (s : State) : Host.Outcome State Fault Refusal := .next (windowEnd s)

/-! ### Reduction basins (R436 to R440) -/

def basinFind (s : State) (k : Nat × Nat × Nat) : Option BasinEntry := (s.base.basins.find? fun e => e.1 == k).map Prod.snd

def basinPut (k : Nat × Nat × Nat) (e : BasinEntry) (s : State) : State :=
  if s.base.basins.any fun x => x.1 == k then
    { s with base.basins := s.base.basins.map fun x => if x.1 = k then (k, e) else x }
  else { s with base.basins := s.base.basins ++ [(k, e)] }

/-- The receive link whose basin a packet stands in at a berth, and the transmit link it came from: a REDUCE packet that arrives on
another receive link is carried to its home link, and one from the stack's own base ports has crossed no link (R437). -/
def whereQueued (s : State) (b : Nat) (p : BasePacket) : Option (Nat × Nat) :=
  (List.range 8).findSome? fun r =>
    ((Tab.getD [] (4 * rxLink b r + p.vc % 4) s.base.queues).find? fun q => q.1 == p).map fun q => (rxLink b r, q.2)

/-- Takes a packet out of the basin it stands in; its space there is free (R433). -/
def unqueueKept (p : BasePacket) (at' : Option (Nat × Nat)) (s : State) : State :=
  match at' with
  | none => s
  | some (l, _) =>
    basinGive l (p.vc % 4) (packetUnits p)
      { s with base.queues := Tab.modify (4 * l + p.vc % 4) (fun q => q.eraseP fun x => x.1 == p) s.base.queues }

/-- Takes it out and gives its units back to its sender (R433, R438). -/
def unqueue (p : BasePacket) (at' : Option (Nat × Nat)) (s : State) : State :=
  let s := unqueueKept p at' s
  match at' with
  | none => s
  | some (l, t) => backTo t (4 * l + p.vc % 4) (packetUnits p) s

/-- Entries that a receive link has in use (R438). -/
def entriesAt (s : State) (b addr : Nat) : Nat :=
  (s.base.basins.filter fun e => e.1.1 = b ∧ homeLink b e.1.2.2 = homeLink b addr).length

/-- BASIN_REDUCE (R436 to R440). The tag gives type, flush flag, group, contributions carried and expected (R409). A packet that opens an
entry is carried to the home link's part, takes its space there, and keeps the units that it holds of the link it came by (R437,
R438). -/
def basinStep (l : Nat) (p : BasePacket) (s : State) : State :=
  let b := linkBerth l
  let at' := whereQueued s b p
  let group := tagGroup p.tag
  let carried := tagCarried p.tag
  let expects := tagExpects p.tag
  let back := fun (status : Nat) (s : State) =>
    endCollective p.srcBerth group status
      { unqueue p at' s with base.returned := s.base.returned ++ [(b, group, p.addr)] }
  if p.kind != 4 || linkFibre l || (24 ≤ b ∧ b < 30) then s
  else if 30 ≤ b then back St.reductionTarget s
  else
    let k := (b, group, p.addr)
    let vals := bytesElems (tagType p.tag) (fromTorus p).payload
    if s.base.finished.contains (b, group, p.addr, p.srcBerth) then back St.reductionOverrun s
    else match basinFind s k with
    | some e =>
      if e.done || e.expects < e.carried + carried then back St.reductionOverrun s
      else
        let (sum, fl) := reduceElems e.rtype e.flush e.sum vals
        let e : BasinEntry := { e with sum := sum, carried := e.carried + carried, done := decide (e.expects ≤ e.carried + carried) }
        groupFlags p.srcBerth group fl (basinPut k e (unqueue p at' s))
    | none =>
      if expects < carried then back St.reductionOverrun s
      else if 96 ≤ entriesAt s b p.addr then s
      else
        let e : BasinEntry :=
          { link := homeLink b p.addr, sender := at', units := packetUnits p, unit := p.destUnit, srcBerth := p.srcBerth, sum := vals
            rtype := tagType p.tag, flush := tagFlush p.tag, carried := carried, expects := expects, done := decide (expects ≤ carried) }
        occupy (homeLink b p.addr) 3 (packetUnits p) (basinPut k e (unqueueKept p at' s))

def execBasinReduce (link : Nat) (p : BasePacket) (s : State) : Host.Outcome State Fault Refusal := .next (basinStep link p s)

/-- An entry's sum has gone out: the entry leaves its basin, and its group and address stay marked as completed (R440; DESIGN CHOICE,
notes/assumptions/151.md). -/
def finishEntry (k : Nat × Nat × Nat) (e : BasinEntry) (s : State) : State :=
  closeEntry k e { s with base.finished := s.base.finished ++ [(k.1, k.2.1, k.2.2, e.srcBerth)] }

/-- The COLL whose round an entry's sum is, where one of the scheduler's stands: its task, place and the member that takes it. -/
def entryColl (s : State) (group addr : Nat) (e : BasinEntry) : Option (Nat × Nat × Nat × Part × Task) :=
  match collOfGroup s e.srcBerth group with
  | none => none
  | some (slot, task, place) => (s.task? slot task).bind fun t =>
      let l := collParts t place
      match currentRound l with
      | some r => if r.addr = addr then (l.find? fun p => p.1 == r.rank).map fun p => (slot, task, place, p, t) else none
      | none => none

/-- A complete entry's sum goes out (R366, R439). A memory berth makes it one write stamped by its issuer. A stack berth sends it through
the base port of the destination core's reach, as soon as that has room, to the lighter side of the core's scratch; a sum for a view in
device memory the core's lighter writes on. -/
def basinDone (b group addr : Nat) (s : State) : State :=
  let k := (b, group, addr)
  match basinFind s k with
  | none => s
  | some e =>
    if e.done then
      let d := (elemBytes e.rtype e.sum).take 256
      let coll := entryColl s group addr e
      if 16 ≤ b then
        let orig := match coll with
          | some (slot, task, _, p, _) => .xfer { slot := slot, task := task, rank := p.1 } p.2.2.token
          | none => .basin b
        let s := berthWrite { addr := addr, data := d, berth := b, stamp := none, orig := orig } (finishEntry k e s)
        match coll with
        | some (slot, task, place, _, _) => roundDone slot task place s
        | none => s
      else
        let p : BasePacket :=
          { stamp := 0, addr := addr, kind := 0, vc := 1, destBerth := b, destUnit := e.unit, srcBerth := b, srcUnit := 0
            len := d.length, tag := 0, payload := d }
        match coll with
        | some (slot, task, place, q, t) =>
          if ((collDest q).map View.space).any (2 ≤ ·) then roundDone slot task place (landRound slot task place e.sum (finishEntry k e s))
          else if portFree s b p then
            let m := (partAccess slot task t q).ref
            portEnter b (.part m q.2.1.gen q.2.2.order) p
              ((finishEntry k e s).updMember m (outUpd q.2.2.order fun o => { o with left := o.left + 1 }))
          else s
        | none => if portFree s b p then portEnter b .none p (finishEntry k e s) else s
    else s

/-- COLL_DONE (R123, R213, R439). -/
def collDone (c : CollRef) (s : State) : State :=
  match c with
  | .gang slot task place => collDoneGang slot task place s
  | .table core group => tableDone core group s
  | .basin berth group addr => basinDone berth group addr s

def execCollDone (c : CollRef) (s : State) : Host.Outcome State Fault Refusal := .next (collDone c s)

/-! ### The base logic reset (R442 to R446, R466, R574) -/

/-- A write that has not yet reached its line is lost with the base logic. -/
def inBase (w : WriteReq) : Bool := w.stage != .copying

/-- An issuer of B16 to B31 through a base logic reset: its TIME, SEQ and the requests of base logic that it holds are lost, and it starts
again at a later TIME (R442, R445). What the wharf's firmware has asked for it asks for again (notes/assumptions/179.md). -/
def dropIssuer (s : State) (i : Issuer) : Issuer :=
  { i with
    time := timeField s.ft, nextSeq := 128
    held := i.held.filter fun h => match h with
      | .write _ | .relay _ => false
      | _ => true }

/-- The circuits that stand on base and fibre links, which firmware sets again after the reset (R444, R555). -/
def circuitsKept (s : State) : List KeptCircuit :=
  s.base.links.flatMap fun x => x.2.circuits.filterMap fun c =>
    if linkFibre x.1 then some { link := x.1, port := 0, dest := 0, circ := c }
    else if linkRx x.1 then none
    else
      let d := linkBerth c.peer
      some { link := x.1, port := (portTo x.2 d).getD 3, dest := d, circ := c }

/-- What a base logic reset drops: packets in links, switches, basins and reorder stages, port plans and circuits; links go
to TRAIN with their counters kept, and handovers stand still (R442, R444, R466, R837). -/
def dropBase (s : State) : State :=
  let lost := s.mem.writes.filter fun x => inBase x.2
  let kept := circuitsKept s
  let s : State := { s with
    net.barges := s.net.barges.mapVals fun n b =>
      { b with rewinding := b.rewinding || lost.any fun x => x.2.orig == .barge n }
    mem.writes := s.mem.writes.filter fun x => !inBase x.2
    mem.reads := s.mem.reads.filter fun x => x.2.data.isSome
    time.issuers := (List.range 16).foldl (fun t k => Tab.put (16 + k) (dropIssuer s (Tab.getD {} (16 + k) t)) t) s.time.issuers
    base.queues := [], base.basins := [], base.finished := [], base.waiting := [], torus.relays := []
    stk.cores := s.stk.cores.mapVals fun _ c => { c with outbox := c.outbox.filter fun p => !p.toBase }
    base.links := s.base.links.mapVals fun _ x =>
      { x with
        state := min x.state 1, ports := [], unset := [], active := 0, retargetAt := none, trainLeft := 0, circuits := []
        paused := false, txSeq := [], rxSeq := [], queue := [], txPart := [], rxPart := [], frames := 0, vcTurn := 3, vcGap := 0
        dealt := 0, lanes := [], replay := [], resend := [], ackDue := 0, creditsDue := [], nak := [], badRun := [], suspectRun := []
        sentUnits := [], farHigh := []
        granted := none, grantFrames := 0, occupancy := [], credits := [], used := [], weirHigh := [] } }
  { s with
    base.kept := if s.base.kept = [] then kept else s.base.kept
    light.groups := s.light.groups.mapVals fun _ g =>
      { g with handover := g.handover.map fun h => { h with phase := .waiting, since := s.ft } } }

/-- A close stands between its verdict instant and its commit (R443). -/
def betweenVerdict (s : State) : Bool :=
  match s.pound.closing with
  | some _ => pastVerdict s
  | none => false

/-- The helm resets base logic: a berth's logic is the cause (R444). The torus ports that were UP go DOWN with it (R572). -/
def resetBase (cause : Nat) (s : State) : State :=
  let s := reselect (portsDown ((List.range 6).filter (portUp s)) (dropBase s))
  raiseFault Ev.baseEpochLost (leBytes 1 cause ++ leBytes 1 ((s.base.epoch + 1) % 256))
    { s with base.resetWanted := none, base.silent := [], base.reset := some { start := s.ft } }

/-- BASE_LOGIC_RESET: a berth has not answered two consecutive housekeeping rounds. Between a verdict and its commit the cause is kept, to
be acted on at K + 1 tick (R443, R444). -/
def baseReset (b : Nat) (s : State) : State :=
  if stranded s || s.sec.halted.isSome || s.base.reset.isSome || Tab.getD 0 b s.base.silent < 2 then s
  else if betweenVerdict s then { s with base.resetWanted := s.base.resetWanted.or (some b) }
  else resetBase b s

/-- A cause that arose between a verdict and its commit is acted on at K + 1 tick (R443). -/
def resetWaiting (s : State) : State :=
  match s.base.resetWanted with
  | some b =>
    if stranded s || s.sec.halted.isSome || s.base.reset.isSome || betweenVerdict s || s.ft < s.pound.lastK + 1 then s
    else resetBase b s
  | none => s

def execBaseLogicReset (berth : Nat) (s : State) : Host.Outcome State Fault Refusal := .next (baseReset berth s)

/-- After a base logic reset each berth compares its copies. Where they differ, the reset has interrupted the update of one of them, which
one is a free value: the second is completed from the first, or the first restored from the second and the update made again (R512). -/
def mendTables (s : State) : State :=
  (List.range 8).foldl (fun s k =>
    let (x, s) := drawBelow 3 s
    let b := s.memBerth k
    if b.tableA = b.tableB then s
    else
      let s := if x = 1 then s.updMemBerth k fun b => { tablesAlike { b with tableA := b.tableB } with repairs := satInc b.repairs }
        else if x = 2 then s.updMemBerth k fun b => { tablesAlike b with repairs := satInc b.repairs }
        else s
      (tableUpdate k s).updMemBerth k tablesAlike) s

/-- BASE_RESET_RELEASE: at X + 125 ticks the base epoch advances, and the page tables are compared (R444, R512). -/
def baseRelease (s : State) : State :=
  match s.base.reset with
  | some r =>
    if !r.released && decide (r.start + 125 ≤ s.ft) then
      mendTables { s with base.reset := some { r with released := true }, base.epoch := (s.base.epoch + 1) % 256 }
    else s
  | none => s

def execBaseResetRelease (s : State) : Host.Outcome State Fault Refusal := .next (baseRelease s)

/-- Installs the default port plan on every berth (R421). -/
def installPlan (s : State) : State :=
  (List.range 32).foldl (fun s b => (List.range 8).foldl (fun s r =>
    s.updLink (txLink b r) fun x => { x with ports := planPorts b r, unset := [], active := 0 }) s) s

/-- Allots the credits of every base receive link (R434). -/
def allotAll (s : State) : State :=
  (List.range 32).foldl (fun s b => (List.range 8).foldl (fun s r => allot (rxLink b r) s) s) s

/-- A fibre link's credits: half of each channel's part of the far link for each class (R542, R543). -/
def fibreCredits (s : State) : State :=
  (List.range 6).foldl (fun s d => (List.range 8).foldl (fun s r => s.updLink (fibreTx d r) fun x =>
    { x with credits := (List.range 8).foldl (fun t k => Tab.put k (basinPart 384 (k % 4) / 2) t) [] }) s) s

/-- The base links and, of the ports that carry traffic, the fibre links (R533). -/
def trainable (s : State) : List Nat :=
  (List.range 512) ++ ((List.range 6).filter fun d => dimOf s (d / 2) ≠ 1).flatMap fun d =>
    (List.range 16).map fun i => 512 + 16 * d + i

/-- Sets a circuit again, on the port that it pinned (R444). -/
def restoreCircuit (k : KeptCircuit) (s : State) : State :=
  if linkFibre k.link then s.updLink k.link fun x => { x with circuits := x.circuits ++ [k.circ] }
  else setCircuit k.link k.port k.circ.share k.circ.passage
    (s.updLink k.link fun x => { x with ports := Tab.put k.port k.dest x.ports })

/-- BASE_PLAN_RELOADED: the port plan, the reserved passages' circuits and the allotments stand again, and every link is UP but those
listed and the fibre links that R532 holds, which stay in TRAIN (R421, R444, R459, R532, R555). -/
def planReloaded (down : List Nat) (s : State) : State :=
  match s.base.reset with
  | some r =>
    if r.released then
      let kept := s.base.kept
      let s := installPlan { s with base.reset := none, base.kept := [] }
      let s := fibreCredits (allotAll (kept.foldl (fun s k => restoreCircuit k s) s))
      let dark := darkLinks s
      let s := setLinks ((trainable s).filter fun l => !down.contains l && !dark.contains l &&
        (!linkFibre l || ((s.link l).state == 1 && trainedRight s ((l - 512) / 16) l))) 2 s
      ((down.map fun l => (linkPair l).getD 1 l).eraseDups).foldl (fun s l =>
        logEvent Ev.linkUnrecovered (leBytes 1 (linkBerth l) ++ leBytes 1 (linkIdx l) ++ leBytes 2 0) s) s
    else s
  | none => s

def execBasePlanReloaded (down : List Nat) (s : State) : Host.Outcome State Fault Refusal := .next (planReloaded down s)

end Sys2Proof.Machine
end

