-- ==== Sys2Proof/Machine/DebugOps.lean ====
section
/-!
DEFINITION. What ends or lowers an open debug level, and the lockkeeper pair running again (R673, R787, R788).
-/

namespace Sys2Proof.Machine

/-- Some channel holds level D2 or D3 (R784). -/
def debugHeld (s : State) : Bool := decide (2 ≤ s.sec.jtag.level) || s.net.sessions.any fun p => decide (2 ≤ p.2.level)

/-- The trigger held while the pair was halted acts (R673). -/
def releaseTrigger (s : State) : State :=
  match s.sec.heldTrigger with
  | none => s
  | some .deadline => nameCut s.ft .deadline { s with sec.heldTrigger := none }
  | some t => askClose s.ft t { s with sec.heldTrigger := none }

/-- A halted pair runs again in the roles it had, with fresh watchdogs (R673, R738). -/
def runAgain (s : State) : State :=
  match s.sec.halted with
  | none => s
  | some (a, b) =>
    releaseTrigger
      { s with sec.halted := none, lk.a.role := a, lk.b.role := b, lk.a.watchdogAt := s.ft, lk.b.watchdogAt := s.ft }

/-- A HALT that still waits for its commit goes with the level that asked for it. -/
def dropHalts (s : State) : State :=
  (s.work.jobs.filter fun j => j.2.kind = .halt).foldl (fun s j => endJob j.1 St.debugLevel [] s) s

/-- The debug level of a channel. -/
def setLevel (chan : MailSrc) (level : Nat) (s : State) : State :=
  match chan with
  | .session i => s.updSession i fun ss => { ss with level := level }
  | .jtag => { s with sec.jtag.level := level }

/-- Lowers the level of a channel to `level`, for a cause of R887, and lets a halted pair run where no level of D2 is left
(R787). -/
def lowerDebug (chan : MailSrc) (level cause : Nat) (s : State) : State :=
  let old := senderLevel s chan
  if old ≤ level then s
  else
    let s := logEvent Ev.debugEnd (leBytes 2 (srcHandle s chan) ++ leBytes 1 old ++ leBytes 1 cause) (setLevel chan level s)
    if debugHeld s then s else runAgain (dropHalts s)

/-- Lowers every open level (R787). -/
def lowerAllDebug (level cause : Nat) (s : State) : State :=
  lowerDebug .jtag level cause (s.net.sessions.keys.foldl (fun s i => lowerDebug (.session i) level cause s) s)

end Sys2Proof.Machine
end

