-- ==== Sys2Proof/Machine/Ethernet.lean ====
section
/-!
DEFINITION. The Ethernet ports below Ecden: which frames a port supports, its receive buffer, priority flow control, address
resolution and link state (R579 to R582, R624, R625). An address as a number is the little-endian number of its bytes in
the order they are sent.
-/

namespace Sys2Proof.Machine

/-- The port takes frames: configuration is loaded (R815), and port B is up (R684, R767). -/
def portServes (s : State) (p : PortId) : Bool :=
  decide (4 ≤ s.boot.phase) && !s.boot.romHalt && (p == .a || (s.power.pstate != 4 && lifeCycle s != 4))

/-- A configuration item of a port (R821). -/
def portItem (s : State) (p : PortId) (f : Nat) : Bytes := itemBoot s (0x0100 + 0x10 * portNum p + f)

/-- Priority flow control is enabled on a port, and its priority (R821). -/
def pfcOn (s : State) (p : PortId) : Bool := (leNat (portItem s p 3)).testBit 7
def pfcPriority (s : State) (p : PortId) : Nat := leNat (portItem s p 3) % 8

/-! ### The frames a port supports (R579, R580) -/

/-- One bit, and one byte, of the frame check sequence of IEEE 802.3. -/
def crcBit (c : Nat) : Nat := if c % 2 = 1 then (c >>> 1) ^^^ 0xEDB88320 else c >>> 1
def crcByte (c : Nat) (b : Byte) : Nat := (List.range 8).foldl (fun c _ => crcBit c) (c ^^^ b.toNat)

/-- The frame check sequence. -/
def crc32 (l : Bytes) : Nat := l.foldl crcByte 0xFFFFFFFF ^^^ 0xFFFFFFFF

/-- The value of bytes in network order (R578). -/
def beNat (l : Bytes) : Nat := l.foldl (fun a b => 256 * a + b.toNat) 0
def beField (l : Bytes) (o n : Nat) : Nat := beNat ((l.drop o).take n)

/-- The sum of 16-bit words in network order, an odd last byte padded with 0. -/
def wordSum : Nat → Bytes → Nat
  | 0, _ => 0
  | _, [] => 0
  | _, [a] => 256 * a.toNat
  | n + 1, a :: b :: t => 256 * a.toNat + b.toNat + wordSum n t

/-- The one's-complement sum of words checks. -/
def sumGood (v : Nat) : Bool := v != 0 && v % 65535 == 0

/-- A UDP datagram at offset `u`, of `len` bytes, whose pseudo-header sums to `pseudo`: a supported port, a length that
agrees, and a checksum that is 0 or checks. -/
def udpGood (s : State) (fr : Bytes) (u len pseudo : Nat) : Bool :=
  let port := beField fr (u + 2) 2
  (port == leNat (itemBoot s 0x0200) || port == 319 || port == 320) && beField fr (u + 4) 2 == len && decide (8 ≤ len) &&
    (beField fr (u + 6) 2 == 0 || sumGood (pseudo + 17 + len + wordSum len ((fr.drop u).take len)))

/-- An IPv4 packet at offset `o` with `room` bytes: no options, no fragment, this port's address, UDP. -/
def ipv4Good (s : State) (p : PortId) (fr : Bytes) (o room : Nat) : Bool :=
  let len := beField fr (o + 2) 2
  beField fr o 1 == 0x45 && decide (28 ≤ len ∧ len ≤ room) && beField fr (o + 6) 2 % 16384 == 0 &&
    beField fr (o + 9) 1 == 17 && sumGood (wordSum 10 ((fr.drop o).take 20)) &&
    (fr.drop (o + 16)).take 4 == portItem s p 4 &&
    udpGood s fr (o + 20) (len - 20) (wordSum 4 ((fr.drop (o + 12)).take 8))

/-- An IPv6 packet: no extension header, this port's address, UDP or neighbor discovery. -/
def ipv6Good (s : State) (p : PortId) (fr : Bytes) (o room : Nat) : Bool :=
  let len := beField fr (o + 4) 2
  let next := beField fr (o + 6) 1
  beField fr o 1 / 16 == 6 && decide (len + 40 ≤ room) && (fr.drop (o + 24)).take 16 == portItem s p 5 &&
    ((next == 58 && (beField fr (o + 40) 1 == 135 || beField fr (o + 40) 1 == 136)) ||
      (next == 17 && udpGood s fr (o + 40) len (wordSum 16 ((fr.drop (o + 8)).take 32))))

/-- A frame meets the table of R579 and its checksums hold. -/
def frameGood (s : State) (p : PortId) (fr : Bytes) : Bool :=
  let n := fr.length
  let tagged := beField fr 12 2 == 0x8100
  let o := if tagged then 18 else 14
  let type := beField fr (o - 2) 2
  let vid := leNat (portItem s p 2) % 4096
  let dest := fr.take 6
  let mine := dest == portItem s p 1
  decide (64 ≤ n ∧ n ≤ 9216) && crc32 (fr.take (n - 4)) == leField fr (n - 4) 4 &&
    (if type = 0x8808 then
      beField fr o 2 == 0x0101 && pfcOn s p && beField fr (o + 2) 2 == 2 ^ pfcPriority s p
    else if !(if vid = 0 then !tagged else tagged && beField fr 14 2 % 4096 == vid) then false
    else if type = 0x0806 then (mine || dest == List.replicate 6 0xFF#8) && beField fr (o + 6) 2 == 1
    else if type = 0x0800 then mine && ipv4Good s p fr o (n - 4 - o)
    else if type = 0x86DD then mine && ipv6Good s p fr o (n - 4 - o)
    else false)

/-- Discards and counts a frame that the port does not support. -/
def invalidStep (p : PortId) (fr : Bytes) (s : State) : State :=
  if portServes s p && !frameGood s p fr then s.updEth (portNum p) fun x => { x with discards := satInc x.discards } else s

/-- ETH_FRAME_INVALID (R580). -/
def execEthFrameInvalid (port : PortId) (frame : Bytes) (s : State) : Host.Outcome State Fault Refusal :=
  .next (invalidStep port frame s)

/-! ### The receive buffer and priority flow control (R579, R582) -/

/-- A frame of `n` bytes finds the buffer full. -/
def bufferFull (s : State) (p : PortId) (n : Nat) : Bool := decide (16 * 2 ^ 20 < (s.ethPort (portNum p)).fill + n)

/-- Sends PAUSE at 12 MiB and releases it below 8 MiB, where flow control is enabled (R582). -/
def pauseCheck (p : PortId) (s : State) : State :=
  let x := s.ethPort (portNum p)
  if pfcOn s p && !x.pausing && decide (12 * 2 ^ 20 ≤ x.fill) then
    { s.updEth (portNum p) (fun x => { x with pausing := true, pauseSent := satInc x.pauseSent }) with
      net.portOut := s.net.portOut ++ [.pause p true] }
  else if x.pausing && decide (x.fill < 8 * 2 ^ 20) then
    { s.updEth (portNum p) (fun x => { x with pausing := false, pauseSent := satInc x.pauseSent }) with
      net.portOut := s.net.portOut ++ [.pause p false] }
  else s

/-- Bytes enter, or leave, a port's receive buffer. -/
def bufferTake (p : PortId) (n : Nat) (s : State) : State :=
  pauseCheck p (s.updEth (portNum p) fun x => { x with fill := x.fill + n })
def bufferGive (p : PortId) (n : Nat) (s : State) : State :=
  pauseCheck p (s.updEth (portNum p) fun x => { x with fill := x.fill - n })

def bufferFullStep (p : PortId) (len : Nat) (s : State) : State :=
  if portServes s p && bufferFull s p len then
    pauseCheck p (s.updEth (portNum p) fun x => { x with fullDrops := satInc x.fullDrops })
  else s

/-- ETH_RX_BUFFER_FULL (R582). -/
def execEthRxBufferFull (port : PortId) (len : Nat) (s : State) : Host.Outcome State Fault Refusal :=
  .next (bufferFullStep port len s)

/-- How long a pause of `quanta` lasts, in ticks: 512 bit times a quantum at the port's rate. -/
def pauseTicks (s : State) (p : PortId) (quanta : Nat) : Nat :=
  ceilDiv (512 * quanta) (if leNat (portItem s p 0) = 1 then 3200 else 6400)

/-- A PFC frame for the configured priority pauses that priority, or with 0 quanta ends the pause; any other is
unsupported (R579, R580). -/
def pfcStep (p : PortId) (priority quanta : Nat) (s : State) : State :=
  if !portServes s p then s
  else if pfcOn s p && priority == pfcPriority s p then
    let s := s.updEth (portNum p) fun x => { x with pauseRecv := satInc x.pauseRecv }
    if quanta = 0 then unpause (portNum p) s
    else s.updEth (portNum p) fun x =>
      { x with pausedPrio := some priority, pauseUntil := s.ft + pauseTicks s p quanta }
  else s.updEth (portNum p) fun x => { x with discards := satInc x.discards }

/-- PFC_PAUSE_RECEIVED (R579). -/
def execPfcPauseReceived (port : PortId) (priority quanta : Nat) (s : State) : Host.Outcome State Fault Refusal :=
  .next (pfcStep port priority quanta s)

/-! ### Address resolution and link state (R579, R625) -/

def arpStep (p : PortId) (mac ip target : Nat) (s : State) : State :=
  if portServes s p && target != 0 && target == leNat (portItem s p 4) then
    { s with net.portOut := s.net.portOut ++ [.arpReply p mac ip target] }
  else s

/-- ARP_REQUEST (R579). -/
def execArpRequest (port : PortId) (senderMac senderIp targetIp : Nat) (s : State) : Host.Outcome State Fault Refusal :=
  .next (arpStep port senderMac senderIp targetIp s)

def neighborStep (p : PortId) (mac ip target : Nat) (s : State) : State :=
  if portServes s p && target != 0 && target == leNat (portItem s p 5) then
    { s with net.portOut := s.net.portOut ++ [.neighborAdvert p mac ip target] }
  else s

/-- NEIGHBOR_SOLICITATION (R579). -/
def execNeighborSolicitation (port : PortId) (senderMac senderIp targetIp : Nat) (s : State) :
    Host.Outcome State Fault Refusal :=
  .next (neighborStep port senderMac senderIp targetIp s)

def portLinkStep (p : PortId) (up : Bool) (s : State) : State :=
  if (s.ethPort (portNum p)).up = up then s
  else logEvent Ev.portLink (leBytes 1 (portNum p) ++ leBytes 1 (bit up)) (s.updEth (portNum p) fun x => { x with up := up })

/-- PORT_LINK_CHANGE (R625). -/
def execPortLinkChange (port : PortId) (up : Bool) (s : State) : Host.Outcome State Fault Refusal :=
  .next (portLinkStep port up s)

end Sys2Proof.Machine
end

