-- ==== Sys2Proof/Machine/EcdenOps.lean ====
section
/-!
DEFINITION. What the Ecden commands share: a frame's fields and checks, acknowledgements, delivery in order, the frames
of outbound barges, and the ends of a session (R583 to R622).
-/

namespace Sys2Proof.Machine

/-! ### A frame's fields (R583, R584) -/

def fType (f : RxFrame) : Nat := leField f.payload 1 1
def fFlags (f : RxFrame) : Nat := leField f.payload 2 2
def fHandle (f : RxFrame) : Nat := leField f.payload 4 2
def fLength (f : RxFrame) : Nat := leField f.payload 6 2
def fSeq (f : RxFrame) : Nat := leField f.payload 8 4
def fAck (f : RxFrame) : Nat := leField f.payload 0x0C 4
def fSack (f : RxFrame) : Nat := leField f.payload 0x10 8
def fCredit (f : RxFrame) : Nat := leField f.payload 0x18 2
def fBody (f : RxFrame) : Bytes := (f.payload.drop 32).take (fLength f)
def fTag (f : RxFrame) : Bytes := f.payload.drop (32 + fLength f)

/-- The bytes the tag covers. -/
def fCovered (f : RxFrame) : Bytes := f.payload.take (32 + fLength f)

/-- The index of the open session a handle names (R587). -/
def openNamed (s : State) (h : Nat) : Option Nat :=
  let i := h % 4096
  if ((s.session i).st = .opened ∨ (s.session i).st = .closing) ∧ sessionHandle s i = h then some i else none

/-- The body length a type admits (R585, R609, R611). -/
def lengthGood (type len : Nat) : Bool :=
  if type = 0 then len == 16 else if type = 2 then decide (len ≤ 1024) else if type = 3 then decide (16 ≤ len)
  else if type = 4 then len == 0 else len == 4

/-- The sequenced types a partner sends (R585). -/
def sequencedType (type : Nat) : Bool := type == 2 || type == 3 || type == 5

/-- A frame that R586 discards. A field whose value the layout gives as 0 in the case at hand counts as reserved there. -/
def frameMalformed (s : State) (f : RxFrame) : Bool :=
  let type := fType f
  decide (f.payload.length < 32) || leField f.payload 0 1 != 1 || !([0, 2, 3, 4, 5].contains type) ||
    fFlags f / 8 != 0 || ((fFlags f).testBit 1 && type != 3) || leField f.payload 0x1A 6 != 0 || decide (64 < fCredit f) ||
    (!sequencedType type && fSeq f != 0) || (type == 0 && fHandle f != 0xFFFF) || !lengthGood type (fLength f) ||
    32 + fLength f + 32 * bit ((fFlags f).testBit 0) != f.payload.length ||
    (type != 0 && (fFlags f).testBit 0 && (openNamed s (fHandle f)).any fun i => (s.session i).key.isNone)

/-- The tag of R588 over a frame. -/
def frameTag (key : Bytes) (pnonce mnonce : Nat) (covered : Bytes) : Bytes :=
  kmac256 key (leBytes 8 pnonce ++ leBytes 8 mnonce ++ covered) [0x45#8, 0x43#8, 0x44#8, 0x45#8, 0x4E#8, 0x31#8]

/-- The frame carries the tag that its session asks for, where it asks for one (R589). -/
def authGood (ss : Session) (f : RxFrame) : Bool :=
  match ss.key with
  | none => true
  | some _ =>
    (fFlags f).testBit 0 && fTag f == frameTag ss.secret ss.pnonce ss.mnonce (fCovered f)

/-- A session with a key accepts a frame from any address; one without only from the address it is bound to (R594). -/
def addressGood (ss : Session) (f : RxFrame) : Bool := ss.key.isSome || (ss.ip == f.ip && ss.udp == f.udp)

/-! ### The stranded module (R621, R749, R836) -/

/-- The EV_STRANDED entry that the engine forms. -/
def strandedEntry (s : State) : LogEntry :=
  { lseq := 0xFFFFFFFF, code := Ev.stranded, rollback := false, heldBoot := false, unlocked := false
    args := leBytes 1 (s.lk.stranded.getD 0), stamp := some s.lk.strandedStamp
    ft := stampInstant s.ft s.lk.strandedStamp, source := nativeAddr s, serial := s.pound.committed }

/-- Sends a session's partner the NOTICE of the stranding. -/
def strandedNotice (i : Nat) (s : State) : State :=
  (sendFrame i 6 0 0 (entryBytes (strandedEntry s)) s).updSession i fun ss => { ss with noticeAt := some s.ft }

/-- A stranded module answers a frame of an open session with that NOTICE, at most once in 2^17 ticks (R621). -/
def strandedAnswer (f : RxFrame) (s : State) : State :=
  match openNamed s (fHandle f) with
  | none => s
  | some i =>
    if (s.session i).noticeAt.all fun t => decide (t + 2 ^ 17 ≤ s.ft) then strandedNotice i s else s

/-- What the engine does with a frame that arrives: nothing before the port serves; one that finds the buffer full is discarded and counted
(R582); the NOTICE where the module is stranded, else what the command does. -/
def onFrame (f : RxFrame) (k : State → State) (s : State) : State :=
  if !portServes s f.port then s
  else if bufferFull s f.port f.payload.length then bufferFullStep f.port f.payload.length s
  else if stranded s then strandedAnswer f s
  else k s

/-! ### The ends of a session (R595, R596, R606, R632, R787) -/

/-- A session index with nothing left but its generation and counters. -/
def blankSession (ss : Session) (st : SessState) : Session :=
  { st := st, gen := ss.gen, malformed := ss.malformed, authFails := ss.authFails, dups := ss.dups
    overCredit := ss.overCredit, retrans := ss.retrans, overruns := ss.overruns, staleBarge := ss.staleBarge
    pushGaps := ss.pushGaps }

/-- The session goes: its barges end with `status` and no BARGE_DONE, its mail and messages are discarded, its buffered
frames leave, its debug level ends. -/
def dropSession (i : Nat) (st : SessState) (status : Nat) (s : State) : State :=
  let h := sessionHandle s i
  let s := lowerDebug (.session i) 0 1 s
  let held := (s.session i).rxHeld
  let s := s.updSession i fun ss => blankSession ss st
  endBarges (fun b => b.session == h) status (held.foldl (fun s x => bufferGive x.port x.size s) s)

/-- A closed session frees its index (R595). -/
def freeSession (i : Nat) (s : State) : State := dropSession i .free St.sessionClosed s

/-- The session strands (R606). -/
def strandSession (i : Nat) (s : State) : State :=
  let ss := s.session i
  let h := sessionHandle s i
  logEvent Ev.sessionStranded (leBytes 2 h ++ leBytes 16 ss.ip ++ leBytes 2 ss.udp)
    ((dropSession i .stranded St.sessionStranded s).updSession i fun ss => { ss with strandedAt := s.ft })

/-! ### Acknowledgements from the partner (R604, R609, R619) -/

/-- `a` lies at or after `b` in the sequence space (R597). -/
def seqAtOrAfter (a b : Nat) : Bool := decide ((a + 2 ^ 32 - b) % 2 ^ 32 < 2 ^ 31)

/-- The partner has acknowledged frames of an outbound barge; its last frame completes it (R619). -/
def bargeAcked (x : Nat × Nat) (s : State) : State :=
  match List.find? (fun b => b.2.outbound && b.2.openedNo == x.1) s.net.barges with
  | none => s
  | some (n, b) =>
    let s := s.updBarge n fun b => { b with acked := max b.acked x.2 }
    if b.length ≤ x.2 then endBarge n St.ok s else s

/-- Takes ACK, SACK and CREDIT of a frame: acknowledged frames are released, and an acknowledged CLOSE ends the session
(R595, R604). -/
def takeAck (i ack sack credit : Nat) (s : State) : State :=
  let ss := s.session i
  if !seqAtOrAfter ack ss.partnerAck then s
  else
    let gone := ss.unacked.filter fun t => !seqAtOrAfter t.seq ack
    let kept := (ss.unacked.filter fun t => seqAtOrAfter t.seq ack).map fun t =>
      let d := (t.seq + 2 ^ 32 - ack) % 2 ^ 32
      { t with sacked := t.sacked || (decide (1 ≤ d ∧ d ≤ 64) && sack.testBit (d - 1)) }
    let s := s.updSession i fun ss => { ss with partnerAck := ack, partnerCredit := credit, unacked := kept }
    let s := (gone.filterMap TxFrame.barge).foldl (fun s x => bargeAcked x s) s
    if gone.any fun t => t.type == 5 then freeSession i s else s

/-- Notes where a session's last accepted frame came from (R581, R594). -/
def rebind (i : Nat) (f : RxFrame) (s : State) : State :=
  s.updSession i fun ss =>
    { ss with port := f.port, mac := f.mac, vlan := f.vlan, pcp := f.pcp, ip := f.ip, udp := f.udp }

/-! ### Acceptance (R598, R601) -/

/-- The next SEQ expected, once `q` frames from `n` on have been looked for. -/
def runFrom : Nat → List RxHeld → Nat → Nat
  | 0, _, n => n
  | q + 1, l, n => if l.any fun h => h.seq == n then runFrom q l ((n + 1) % 2 ^ 32) else n

/-- An acknowledgement is due within 250 ticks (R601). -/
def ackSoon (i : Nat) (s : State) : State :=
  s.updSession i fun ss => { ss with ackDue := some (ss.ackDue.getD (s.ft + 250)) }

/-- Tests a sequenced frame's SEQ, and holds it where it is accepted; an ACK goes at once when SACK changes. -/
def acceptSeq (i : Nat) (f : RxFrame) (s : State) : State :=
  let ss := s.session i
  let q := fSeq f
  if !seqAtOrAfter q ss.rxNext then ackSoon i (s.updSession i fun ss => { ss with dups := satInc ss.dups })
  else if ss.credit ≤ (q + 2 ^ 32 - ss.advAck) % 2 ^ 32 then
    ackSoon i (s.updSession i fun ss => { ss with overCredit := satInc ss.overCredit })
  else if ss.rxHeld.any fun h => h.seq == q then s.updSession i fun ss => { ss with dups := satInc ss.dups }
  else
    let x : RxHeld :=
      { seq := q, type := fType f, final := (fFlags f).testBit 1, body := fBody f, port := f.port
        size := f.payload.length }
    let before := sackBits ss
    let s := bufferTake f.port f.payload.length (s.updSession i fun ss =>
      { ss with rxHeld := ss.rxHeld ++ [x], rxNext := runFrom (ss.rxHeld.length + 1) (ss.rxHeld ++ [x]) ss.rxNext })
    if sackBits (s.session i) ≠ before then sendAck i s else ackSoon i s

/-! ### Delivery in order (R600, R608, R609, R614 to R616) -/

/-- The held frame at the front of the delivery order leaves the buffer. -/
def releaseHeldFrame (i : Nat) (x : RxHeld) (s : State) : State :=
  bufferGive x.port x.size (s.updSession i fun ss =>
    { ss with rxHeld := ss.rxHeld.filter fun h => h.seq != x.seq, dlvNext := (x.seq + 1) % 2 ^ 32 })

/-- An inbound payload cannot be written now: a weir of the way from B30 to one of its memory berths is closed, a write
there waits on the pool, or it needs a shadow page that the pool does not grant (R354, R435, R602, R608). -/
def writeBlocked (s : State) (a n : Nat) : Bool :=
  (linesOf a n).any fun l =>
    let k := memBerthOf (l * 64)
    (s.link (16 * (16 + k) + 8 + k)).weirHigh.contains 1 ||
      (s.mem.writes.any fun w => w.2.stage == .pool && memBerthOf w.2.addr == k) ||
      ((shadowOf s (l / 1024) (openSerial s)).isNone && !poolAdmits s (openSerial s))

/-- A payload obeys R614 and stays within its barge (R615). -/
def payloadGood (ss : Session) (b : Barge) (off len : Nat) (final : Bool) : Bool :=
  off % 64 == 0 && decide (1 ≤ len ∧ len ≤ ss.maxPay ∧ off + len ≤ b.length) &&
    (if final then off + len == b.length else len % 64 == 0)

/-- Delivers a DATA frame: none where it must wait. -/
def deliverData (i : Nat) (x : RxHeld) (s : State) : Option State :=
  let n := leField x.body 0 2
  let off := leField x.body 8 8
  let d := x.body.drop 16
  match (Tab.find? n s.net.barges).filter fun b => b.session == sessionHandle s i && !b.outbound with
  | none => some (releaseHeldFrame i x (s.updSession i fun ss => { ss with staleBarge := satInc ss.staleBarge }))
  | some b =>
    if !payloadGood (s.session i) b off d.length x.final then some (endBarge n St.bargeRange (releaseHeldFrame i x s))
    else match bufOf s b.handle with
      | none => some (releaseHeldFrame i x s)
      | some bf =>
        let a := bufBase bf + b.start + off
        if writeBlocked s a d.length then none
        else
          let s := if s.pound.recovery.isSome then s.updBarge n fun b => { b with rewinding := true } else s
          some (lineWrites a d (.barge n) (releaseHeldFrame i x s))

/-- CREDIT rises from 0 once the DATA frame that waited can be written: an ACK goes at once where 0 was advertised
(R602). -/
def unblock (i : Nat) (s : State) : State :=
  let ss := s.session i
  if !ss.blocked then s
  else
    let s := s.updSession i fun ss => { ss with blocked := false }
    if ss.credit = 0 then sendAck i s else s

/-- The front of the delivery order. -/
def frontHeld (s : State) (i : Nat) : Option RxHeld := (s.session i).rxHeld.find? fun h => h.seq == (s.session i).dlvNext

/-- Delivers the next frame in order; false where there is none or it must stay held. A delivered CLOSE is acknowledged and
ends the session (R595). -/
def deliverOne (i : Nat) (s : State) : Bool × State :=
  match frontHeld s i with
  | none => (false, s)
  | some x =>
    if x.type = 2 then
      if (s.session i).inbox.length < 4 then
        (true, releaseHeldFrame i x (s.updSession i fun ss => { ss with inbox := ss.inbox ++ [x.body] }))
      else (false, s.updSession i fun ss => { ss with overruns := satInc ss.overruns })
    else if x.type = 3 then
      match deliverData i x s with
      | some t => (true, unblock i t)
      | none => (false, s.updSession i fun ss => { ss with blocked := true })
    else (false, freeSession i (sendAck i (releaseHeldFrame i x s)))

/-! ### Frames the module sends in a visit (R604, R605, R609, R619, R632) -/

/-- The end of the timer slot in which a frame's timeout falls (R604, R605). -/
def resendAt (t : TxFrame) : Nat := ((t.sentAt + 2500 * 2 ^ t.tries) / 256 + 1) * 256

/-- A frame whose timeout has passed and that the partner has not marked received. -/
def resendDue (s : State) (t : TxFrame) : Bool := !t.sacked && decide (resendAt t ≤ s.ft)

/-- Sends a frame again with RETX set (R604). -/
def resend (i : Nat) (t : TxFrame) (s : State) : State :=
  sendFrame i t.type (4 + 2 * bit t.final) t.seq t.body
    (s.updSession i fun ss =>
      { ss with
        retrans := satInc ss.retrans
        unacked := ss.unacked.map fun x => if x.seq = t.seq then { x with tries := x.tries + 1, sentAt := s.ft } else x })

/-- The partner's CREDIT admits another sequenced frame. -/
def roomToSend (ss : Session) : Bool := decide ((ss.txNext + 2 ^ 32 - ss.partnerAck) % 2 ^ 32 < ss.partnerCredit)

/-- Outbound slots in use, and those of them that hold pushed messages (R609). -/
def slotsUsed (ss : Session) : Nat := (ss.unacked.filter fun t => t.slot.isSome).length
def pushesUsed (ss : Session) : Nat := (ss.unacked.filter fun t => t.slot == some .push || t.slot == some .event).length

/-- A message may take an outbound slot. -/
def slotFree (ss : Session) (k : OutKind) : Bool :=
  decide (slotsUsed ss < 4) && (k == .reply || decide (pushesUsed ss < 2))

/-- The next entry to push to a session: the first stamped one from its cursor on that it is to receive, with no unstamped
one before it (R816, R832, R833). -/
def nextPush (s : State) (i : Nat) : Option LogEntry :=
  ((s.log.entries.filter fun e => decide ((s.session i).cursor ≤ e.lseq)).takeWhile fun e => e.stamp.isSome).find?
    fun e => wantsEntry s i e

/-- What the module sends next from its outbound side, where something may go: a waiting message, the CLOSE it has been told
to send, or an event (R595, R609, R632). -/
def sendMailOne (i : Nat) (s : State) : Option State :=
  let ss := s.session i
  if !roomToSend ss || ss.st != .opened then none
  else
    match ss.outbox.find? fun m => slotFree ss m.kind with
    | some m =>
      some (sendSequenced i 2 0 m.body (some m.kind) none (s.updSession i fun ss => { ss with outbox := ss.outbox.erase m }))
    | none =>
      match ss.closeStatus with
      | some st =>
        if (ss.outbox.any fun m => m.kind == .reply) then none
        else some (sendSequenced i 5 0 (leBytes 2 st ++ leBytes 2 0) none none
          (s.updSession i fun ss => { ss with st := .closing }))
      | none =>
        if !slotFree ss .event then none
        else match nextPush s i with
          | none => none
          | some e =>
            some (sendSequenced i 2 0 (leBytes 2 0x7F01 ++ leBytes 6 0 ++ entryBytes e) (some .event) none
              (s.updSession i fun ss => { ss with cursor := e.lseq + 1 }))

/-- A line of the version an outbound barge reads is poisoned (R523, R620). -/
def bargePoison (s : State) (b : Barge) (a n : Nat) : Bool :=
  (linesOf a n).any fun l =>
    match (pinFor s b.serial (l / 1024)).filter fun _ => !b.current with
    | some x => pinPoison s x (l % 1024)
    | none => committedPoison s l

/-- The outbound barge of a session that sends next: the one opened first (notes/assumptions/52.md). -/
def bargeToSend (s : State) (i : Nat) : Option (Nat × Barge) :=
  ((s.net.barges.filter fun x => x.2.session == sessionHandle s i && x.2.outbound && decide (x.2.sent < x.2.length)).foldl
    (fun a x => match a with
      | none => some x
      | some y => if x.2.openedNo < y.2.openedNo then some x else some y) none)

/-- Sends the next frame of an outbound barge (R384, R611, R619, R620): its bytes come from the memory berths over the wharf's links, each
checked (R27, R492). -/
def sendDataOne (i : Nat) (s : State) : Option State :=
  let ss := s.session i
  if !roomToSend ss || ss.st != .opened then none
  else match bargeToSend s i with
    | none => none
    | some (n, b) =>
      match bufOf s b.handle with
      | none => none
      | some bf =>
        let len := min ss.maxPay (b.length - b.sent)
        let a := bufBase bf + b.start + b.sent
        if !rangeReached s a len then none
        else
        let s := readErrors (if b.current then seesCommitted else seesPinned s b.serial) a len s
        if bargePoison s b a len then some (endBarge n St.memPoison s)
        else
          let d := if b.current then committedRead s a len else pinnedRead s b.serial a len
          let serial := if b.current then s.pound.committed else 0
          some (sendSequenced i 3 (2 * bit (b.sent + len == b.length))
            (leBytes 2 n ++ leBytes 6 serial ++ leBytes 8 b.sent ++ d) none (some (b.openedNo, b.sent + len))
            (s.updBarge n fun b => { b with sent := b.sent + len, lastSerial := if b.current then serial else b.lastSerial }))

/-! ### A visit (R607, R608) -/

/-- Runs a step at most `n` times while it does something: how many times are left, and the state. -/
def upTo (f : State → Option State) : Nat → State → Nat × State
  | 0, s => (0, s)
  | n + 1, s =>
    match f s with
    | none => (n + 1, s)
    | some t => upTo f n t

/-- The frame to resend next. -/
def firstDue (s : State) (i : Nat) : Option TxFrame := (s.session i).unacked.find? fun t => resendDue s t && decide (t.tries < 8)

/-- Retry 8 of some frame has gone unacknowledged (R606). -/
def giveUp (s : State) (i : Nat) : Bool := (s.session i).unacked.any fun t => resendDue s t && decide (8 ≤ t.tries)

/-- The session has frames to deliver, frames to send or an expired timer (R607). -/
def hasWork (s : State) (i : Nat) : Bool :=
  ((s.session i).st == .opened || (s.session i).st == .closing) &&
    ((frontHeld s i).isSome || (s.session i).unacked.any (resendDue s) || (sendMailOne i s).isSome ||
      (sendDataOne i s).isSome)

/-- The session the engine visits next: in ascending order of index, round robin. -/
def visitTurn (s : State) : Option Nat := nextAfter ((s.net.sessions.keys).filter (hasWork s)) s.net.lastVisit

/-- Delivers in order while it can, at most `n` frames: how many are left, whether a DATA frame stopped it, the state. -/
def deliverUpTo (i : Nat) : Nat → State → Nat × State
  | 0, s => (0, s)
  | n + 1, s =>
    match deliverOne i s with
    | (true, t) => deliverUpTo i n t
    | (false, t) => (n + 1, t)

/-- One visit: at most 4 frames, retransmissions first, then replies and events, then DATA; it ends early where a DATA frame
cannot be written. -/
def visit (i : Nat) (s : State) : State :=
  if giveUp s i then strandSession i s
  else
    let (n, s) := upTo (fun s => (firstDue s i).map fun t => resend i t s) 4 s
    let (n, s) := upTo (sendMailOne i) n s
    let (n, s) := deliverUpTo i n s
    if (s.session i).blocked then s else (upTo (sendDataOne i) n s).2

end Sys2Proof.Machine
end

