-- ==== Sys2Proof/Machine/Ecden.lean ====
section
/-!
DEFINITION. The Ecden commands: frames as they arrive, the opening of sessions, the engine's visits, timers, stranding
(R586 to R622). A frame that is not of a command's row does nothing in it.
-/

namespace Sys2Proof.Machine

/-! ### Frames that are discarded (R586, R589, R599) -/

def malformedStep (f : RxFrame) (s : State) : State :=
  if !frameMalformed s f then s
  else if f.payload.length < 8 then s
  else match openNamed s (fHandle f) with
    | none => s
    | some i => s.updSession i fun ss => { ss with malformed := satInc ss.malformed }

/-- ECDEN_MALFORMED_FRAME (R586). -/
def execEcdenMalformedFrame (f : RxFrame) (s : State) : Host.Outcome State Fault Refusal :=
  .next (onFrame f (malformedStep f) s)

/-- A frame of a keyed session whose tag fails is counted, with EV_AUTH_FAIL at most once in each housekeeping round. -/
def authFailStep (f : RxFrame) (s : State) : State :=
  if frameMalformed s f || fType f == 0 then s
  else match openNamed s (fHandle f) with
    | none => s
    | some i =>
      if authGood (s.session i) f then s
      else
        let logged := (s.session i).authLogged = some s.power.round
        let s := s.updSession i fun ss => { ss with authFails := satInc ss.authFails, authLogged := some s.power.round }
        if logged then s
        else logEvent Ev.authFail (leBytes 2 (fHandle f) ++ leBytes 16 f.ip ++ leBytes 2 f.udp) s

/-- ECDEN_AUTH_FAIL (R589). -/
def execEcdenAuthFail (f : RxFrame) (s : State) : Host.Outcome State Fault Refusal := .next (onFrame f (authFailStep f) s)

/-- The answer to a frame whose handle names no open session: an unsequenced CLOSE, at most one to a source address in 2^12
ticks. -/
def unknownStep (f : RxFrame) (s : State) : State :=
  if frameMalformed s f || fType f == 0 || (openNamed s (fHandle f)).isSome then s
  else if !(Tab.find? f.ip s.net.closeSent).all fun t => decide (t + 2 ^ 12 ≤ s.ft) then s
  else
    let i := fHandle f % 4096
    let st := if (s.session i).st = .stranded ∧ sessionHandle s i = fHandle f then St.sessionStranded else St.sessionUnknown
    putWire
      { port := f.port, mac := f.mac, vlan := f.vlan, pcp := f.pcp, ip := f.ip, udp := f.udp
        payload := ecdenHeader 5 0 (fHandle f) 4 0 0 0 0 ++ leBytes 2 st ++ leBytes 2 0 }
      { s with net.closeSent := Tab.put f.ip s.ft s.net.closeSent }

/-- UNKNOWN_SESSION_FRAME (R599). -/
def execUnknownSessionFrame (f : RxFrame) (s : State) : Host.Outcome State Fault Refusal :=
  .next (onFrame f (unknownStep f) s)

/-! ### OPEN (R590 to R593) -/

def openPnonce (f : RxFrame) : Nat := leField (fBody f) 0 8
def openKey (f : RxFrame) : Nat := leField (fBody f) 8 2
def openPay (f : RxFrame) : Nat := leField (fBody f) 0x0A 2
def openCredit (f : RxFrame) : Nat := leField (fBody f) 0x0C 2

/-- Puts an OPEN_REPLY payload on the wire to where the OPEN came from. -/
def sendOpenReply (f : RxFrame) (payload : Bytes) (s : State) : State :=
  putWire
    { port := f.port, mac := f.mac, vlan := f.vlan, pcp := f.pcp, ip := f.ip, udp := f.udp, payload := payload } s

/-- The OPEN_REPLY payload, tagged where a key is given (R588, R591). -/
def openReplyBytes (key : Option Bytes) (pnonce mnonce status handle pay : Nat) : Bytes :=
  let ok := decide (status = St.ok)
  let hb := ecdenHeader 1 (bit key.isSome) handle 16 0 (bit ok) 0 (64 * bit ok) ++
    leBytes 2 status ++ leBytes 2 handle ++ leBytes 2 pay ++ leBytes 2 0 ++ leBytes 8 mnonce
  match key with
  | none => hb
  | some k => hb ++ frameTag k pnonce mnonce hb

/-- Answers an OPEN and remembers the answer for its repeats (R593). -/
def answerOpen (f : RxFrame) (payload : Bytes) (s : State) : State :=
  sendOpenReply f payload
    { s with net.openSeen := (s.net.openSeen.filter fun x => decide (s.ft < x.2.2.2.1 + 2 ^ 20)) ++
        [(f.ip, f.udp, openPnonce f, s.ft, payload)] }

/-- The outcome of an OPEN by the first row of R592 that applies: none for a discard. -/
def openOutcome (s : State) (f : RxFrame) : Option Nat :=
  let keyed := openKey f ≠ 0xFFFF
  let key := if keyed then slotKey s (openKey f) else none
  if keyed ∧ key.isNone then some St.keySlot
  else if keyed ∧ !((fFlags f).testBit 0 && fTag f == frameTag (key.getD []) (openPnonce f) 0 (fCovered f)) then none
  else if !keyed ∧ leNat (itemStored s 0x0201) = 1 then some St.authRequired
  else if openPay f % 64 ≠ 0 ∨ openPay f < 1024 ∨ 8192 < openPay f ∨ openCredit f = 0 ∨ 64 < openCredit f ∨
      leField (fBody f) 0x0E 2 ≠ 0 then some St.openForm
  else if (s.net.sessions.filter fun x => x.2.st ≠ .free).length = 4096 then some St.sessionLimit
  else some St.ok

/-- Opens a session for an OPEN that ST_OK answers, at the lowest free index with a nonce of the module's choice. -/
def openSession (f : RxFrame) (i : Nat) (s : State) : State :=
  let (v, s) := drawBelow (2 ^ 64) s
  let gen := ((s.session i).gen + 1) % 15
  let keyed := openKey f ≠ 0xFFFF
  let key := if keyed then slotKey s (openKey f) else none
  let pay := min (openPay f) ((9216 - (18 + 40 + 8 + 32 + 16 + 32 + 4)) / 64 * 64)
  let s := s.updSession i fun ss =>
    { blankSession ss .opened with
      gen := gen, key := if keyed then some (openKey f) else none, secret := key.getD []
      port := f.port, mac := f.mac, vlan := f.vlan, pcp := f.pcp, ip := f.ip, udp := f.udp
      pnonce := openPnonce f, mnonce := v, maxPay := pay
      credit := 64, partnerCredit := openCredit f, cursor := s.log.nextLseq }
  answerOpen f (openReplyBytes key (openPnonce f) v St.ok (i + 4096 * gen) pay)
    { s with net.opens := s.net.opens + 1 }

/-- An earlier OPEN that this one repeats (R593). -/
def openRepeat (s : State) (f : RxFrame) : Option Bytes :=
  (s.net.openSeen.find? fun x =>
    x.1 == f.ip && x.2.1 == f.udp && x.2.2.1 == openPnonce f && decide (s.ft < x.2.2.2.1 + 2 ^ 20)).map
    fun x => x.2.2.2.2

def openStep (f : RxFrame) (s : State) : State :=
  if frameMalformed s f || fType f != 0 then s
  else match openRepeat s f with
    | some payload =>
      let s := match openNamed s (leField payload 4 2) with
        | some i => s.updSession i fun ss => { ss with dups := satInc ss.dups }
        | none => s
      answerOpen f payload s
    | none =>
      match openOutcome s f with
      | none => s
      | some st =>
        if st = St.ok then
          match (List.range 4096).find? fun i => (s.session i).st == .free with
          | some i => openSession f i s
          | none => s
        else
          let key := if st = St.keySlot ∨ openKey f = 0xFFFF then none else slotKey s (openKey f)
          answerOpen f (openReplyBytes key (openPnonce f) 0 st 0xFFFF 0) s

/-- ECDEN_OPEN (R590 to R593). -/
def execEcdenOpen (f : RxFrame) (s : State) : Host.Outcome State Fault Refusal := .next (onFrame f (openStep f) s)

/-! ### Frames of open sessions (R594 to R616) -/

/-- The session a frame of a type is accepted for (R586, R587, R589, R594). -/
def acceptedFor (type : Nat) (f : RxFrame) (s : State) : Option Nat :=
  if frameMalformed s f || fType f != type then none
  else (openNamed s (fHandle f)).filter fun i => authGood (s.session i) f && addressGood (s.session i) f

/-- Delivers the frame just accepted, where it is the next in order and, of a mail frame, a slot is free; the rest waits for visits (R600,
R609). -/
def deliverNew (i q : Nat) (s : State) : State :=
  if (frontHeld s i).any fun x => x.seq == q && (x.type != 2 || decide ((s.session i).inbox.length < 4)) then (deliverOne i s).2 else s

/-- A sequenced frame of a session: its acknowledgement is taken, its SEQ tested, and it is delivered where it is next. -/
def sequencedStep (type : Nat) (f : RxFrame) (s : State) : State :=
  match acceptedFor type f s with
  | none => s
  | some i =>
    let s := takeAck i (fAck f) (fSack f) (fCredit f) (rebind i f s)
    if openNamed s (fHandle f) = some i then deliverNew i (fSeq f) (acceptSeq i f s) else s

/-- ECDEN_MAIL_FRAME (R598, R600, R609). -/
def execEcdenMailFrame (f : RxFrame) (s : State) : Host.Outcome State Fault Refusal :=
  .next (onFrame f (sequencedStep 2 f) s)

/-- ECDEN_DATA_FRAME (R598, R600, R614 to R616). -/
def execEcdenDataFrame (f : RxFrame) (s : State) : Host.Outcome State Fault Refusal :=
  .next (onFrame f (sequencedStep 3 f) s)

/-- ECDEN_CLOSE_FRAME (R595). -/
def execEcdenCloseFrame (f : RxFrame) (s : State) : Host.Outcome State Fault Refusal :=
  .next (onFrame f (sequencedStep 5 f) s)

def ackFrameStep (f : RxFrame) (s : State) : State :=
  match acceptedFor 4 f s with
  | none => s
  | some i => takeAck i (fAck f) (fSack f) (fCredit f) (rebind i f s)

/-- ECDEN_ACK_FRAME (R604, R619). -/
def execEcdenAckFrame (f : RxFrame) (s : State) : Host.Outcome State Fault Refusal := .next (onFrame f (ackFrameStep f) s)

/-! ### Timers and visits (R601 to R607) -/

/-- The engine runs: configuration is loaded, and the module is not stranded. -/
def engineRuns (s : State) : Bool := decide (4 ≤ s.boot.phase) && !s.boot.romHalt && !stranded s

def ackTimerStep (i : Nat) (s : State) : State :=
  if engineRuns s && (s.session i).ackDue.isSome then sendAck i s else s

/-- ACK_TIMER (R601). -/
def execAckTimer (idx : Nat) (s : State) : Host.Outcome State Fault Refusal := .next (ackTimerStep idx s)

/-- The DATA frame that a session's delivery waits on can now be written. -/
def waitCleared (s : State) (i : Nat) : Bool :=
  match frontHeld s i with
  | some x => x.type != 3 || (deliverData i x s).isSome
  | none => true

def creditRiseStep (i : Nat) (s : State) : State :=
  if engineRuns s && (s.session i).blocked && waitCleared s i then unblock i s else s

/-- CREDIT_RISE_ACK (R602). -/
def execCreditRiseAck (idx : Nat) (s : State) : Host.Outcome State Fault Refusal := .next (creditRiseStep idx s)

def visitStep (i : Nat) (s : State) : State :=
  if engineRuns s && visitTurn s == some i then visit i { s with net.lastVisit := i } else s

/-- ENGINE_VISIT (R607). -/
def execEngineVisit (idx : Nat) (s : State) : Host.Outcome State Fault Refusal := .next (visitStep idx s)

def retransmitStep (i seq : Nat) (s : State) : State :=
  if !engineRuns s then s
  else match (s.session i).unacked.find? fun t => t.seq == seq && resendDue s t && decide (t.tries < 8) with
    | some t => resend i t s
    | none => s

/-- RETRANSMIT_TIMEOUT (R604, R605). -/
def execRetransmitTimeout (idx seq : Nat) (s : State) : Host.Outcome State Fault Refusal :=
  .next (retransmitStep idx seq s)

def strandStep (i : Nat) (s : State) : State := if engineRuns s && giveUp s i then strandSession i s else s

/-- SESSION_STRAND (R606). -/
def execSessionStrand (idx : Nat) (s : State) : Host.Outcome State Fault Refusal := .next (strandStep idx s)

def indexFreeStep (i : Nat) (s : State) : State :=
  if (s.session i).st = .stranded ∧ (s.session i).strandedAt + 2 ^ 24 ≤ s.ft then
    s.updSession i fun ss => blankSession ss .free
  else s

/-- STRANDED_INDEX_FREE (R606). -/
def execStrandedIndexFree (idx : Nat) (s : State) : Host.Outcome State Fault Refusal := .next (indexFreeStep idx s)

end Sys2Proof.Machine
end

