-- ==== Sys2Proof/Machine/Time.lean ====
section
/-!
DEFINITION. Fabric time, its sources and discipline, the release of held stamps, and the clocks, margins and step changes
of the compute dies (chapter 6, R567 to R569, R676 to R683, R865).
-/

namespace Sys2Proof.Machine

/-! ### The counter (R301 to R304, R311 to R313) -/

/-- Reaches LOCKED once the offset is within one tick (R311). -/
def lockIfClose (s : State) : State :=
  if s.time.mode = 3 ∧ -16 ≤ s.time.offset16 ∧ s.time.offset16 ≤ 16 then setTimeMode 2 s else s

/-- This tick may skip or hold: none of the 1,023 ticks before it did (R303). -/
def mayCorrect (s : State) : Bool :=
  match s.time.lastCorrAt with
  | some t => decide (1023 ≤ (s.ft + 2 ^ 64 - t) % 2 ^ 64)
  | none => true

/-- One tick of the 64-bit counter: it advances by one, skips one value, or holds one (R301 to R303). -/
def countTick (s : State) : State :=
  if 0 < s.time.correction && mayCorrect s then
    lockIfClose
      { s with time.ft := (s.ft + 2) % 2 ^ 64, time.lastCorrAt := some ((s.ft + 2) % 2 ^ 64), time.correction := s.time.correction - 1
               time.offset16 := s.time.offset16 - 16, time.repeated := false }
  else if s.time.correction < 0 && mayCorrect s && !s.time.repeated then
    lockIfClose
      { s with time.lastCorrAt := some s.ft, time.correction := s.time.correction + 1
               time.offset16 := s.time.offset16 + 16, time.repeated := true }
  else { s with time.ft := (s.ft + 1) % 2 ^ 64, time.repeated := false }

/-- The timers that count ticks rather than fabric time: the trial timer (R808), the delay of a reset that has been asked for
(R664, R765), and the time since a tamper source was last seen asserted (R775, R777). -/
def timersTick (s : State) : State :=
  { s with boot.trialAt := s.boot.trialAt.map (· + 1), boot.resetAt := s.boot.resetAt.map (· - 1), sec.clearFor := s.sec.clearFor + 1 }

/-- The copies of fabric time on the clocked dies count a tick as the base's counter does: by `d`, which is 5/8 of a stack-reference
period but where a tick skips or holds (R301, R305; notes/assumptions/181.md). -/
def copiesTick (d : Nat) (s : State) : State :=
  { s with stk.dies := s.stk.dies.mapVals fun _ x =>
      if x.powered && x.clocked then { x with ftCopy := (x.ftCopy + d) % 2 ^ 64 } else x }

/-- One tick of fabric time, at the counter and at the copies of it. -/
def fabricTick (s : State) : State :=
  let s' := countTick s
  copiesTick ((s'.ft + 2 ^ 64 - s.ft) % 2 ^ 64) s'

/-- One tick. While RESET_N holds the module no fabric time passes, and the standby controller's timer goes on (R774); else a
port's pause ends with its time (R579). -/
def tickStep (s : State) : State :=
  if !s.pins.resetN then { s with sec.clearFor := s.sec.clearFor + 1 } else pausesEnd (fabricTick (timersTick s))

/-! ### Held stamps (R317) -/

/-- The serials that a check pause reports: those of the verdicts within it; free values where none fell within it. -/
def pauseSerials (first last : Option Nat) (s : State) : Bytes × State :=
  match first, last with
  | some f, some l => (leBytes 8 f ++ leBytes 8 l, s)
  | _, _ => let (v, s) := draw s; (leBytes 16 v, s)

/-- EV_CHECK_PAUSE: the pause's stamps and serials (R741). -/
def pauseEvent (start stop : Nat) (first last : Option Nat) (s : State) : State :=
  let (ser, s) := pauseSerials first last s
  logEvent Ev.checkPause (leBytes 8 start ++ leBytes 8 stop ++ ser) s

/-- What follows once a held request has its stamp. -/
def giveStamp (h : HeldStamp) (st : Nat) (s : State) : State :=
  match h with
  | .write id =>
    match Tab.find? id s.mem.writes with
    | some w =>
      let s : State := { s with mem.writes := Tab.put id { w with stamp := some st } s.mem.writes }
      if torusWrite w then s else countIssued (memBerthOf w.addr) (openSerial s) s
    | none => s
  | .message n => { s with work.msgs := Tab.modify n (fun g => { g with stamp := some st }) s.work.msgs }
  | .event lseq =>
    let s : State := { s with log.entries := s.log.entries.map fun e =>
      if e.lseq = lseq then { e with stamp := some st, ft := s.ft } else e }
    match s.log.entries.find? fun e => e.lseq == lseq with
    | some e => if isNotice e.code then noticeToAddress (entryBytes e) s else s
    | none => s
  | .taskStart slot task =>
    s.updTask slot task fun t =>
      if t.phase = .running ∧ t.startAt.isNone then
        { t with startAt := some s.ft
                 members := t.members.mapVals fun _ x => if x.waiting = some .stamp then { x with waiting := none } else x }
      else t
  | .taskEnd slot task =>
    match s.task? slot task with
    | some t => if t.phase = .ended ∧ !t.recorded then killedReport slot (settle (recordEnd slot task st s)) else s
    | none => s
  | .stampRead m dst =>
    s.updMember m fun x =>
      if x.waiting = some .stamp then setIx dst (signedOf 64 st) { x with waiting := none, pc := x.pc + 1 } else x
  | .reply job =>
    match Tab.find? job s.work.jobs with
    | some { kind := .stamped pre post, .. } => endJob job St.ok (pre ++ leBytes 8 st ++ post) s
    | _ => s
  | .commit m => commitReport m st { s with pound.kstamp := st }
  | .strand => { s with lk.strandedStamp := st, lk.strandedDue := true }
  | .pauseStart =>
    match s.lk.pause with
    | some p => { s with lk.pause := some (p.1, p.2.1.or (some st), p.2.2) }
    | none => s.updIssuer 30 fun i => { i with held := i.held.map fun h => match h with
        | .pauseStop none f l => .pauseStop (some st) f l
        | h => h }
  | .pauseStop start first last => pauseEvent (start.getD 0) st first last s
  | .relay no => sendRelay no st s
  | .calib cls =>
    { s with light.calib := Tab.put cls { Tab.getD {} cls s.light.calib with last := st } s.light.calib }

/-- Stamps the requests an issuer holds, in request order, while the TIME value has a SEQ left (R317). -/
def releaseHeld (b : Nat) : Nat → State → State
  | 0, s => s
  | fuel + 1, s =>
    let i := s.issuer b
    let t := timeField s.ft
    let q := nextSeq b t i
    match i.held with
    | [] => s
    | h :: rest =>
      if q < 128 && !issuerDown s b then
        let s : State := { s.updIssuer b (fun i => { i with time := t, nextSeq := q + 1, held := rest }) with
          time.firstStamp := true }
        releaseHeld b fuel (giveStamp h (mkStamp t b q) s)
      else s

/-- STAMP_STALL_RELEASE (R317). -/
def execStampStallRelease (berth : Nat) (s : State) : Host.Outcome State Fault Refusal := .next (releaseHeld berth 128 s)

/-- A die's copy of fabric time, by `slip` ticks wrong since its last check. -/
def copyNow (s : State) (k : Nat) (slip : Int) : Nat := ((((s.stack k).ftCopy : Int) + slip) % 2 ^ 64).toNat

/-- FT_REPLICA_CHECK: every 2^12 ticks the base sends a compute die the full count, and the die checks its copy against it; one that
differs is reloaded, and the pound rolls back (R305, R324). -/
def replicaStep (k : Nat) (slip : Int) (s : State) : State :=
  if (s.stack k).powered && (s.stack k).clocked && (s.stack k).ftChecked / 4096 != s.ft / 4096 then
    let s' := s.updStack k fun x => { x with ftCopy := s.ft, ftChecked := s.ft }
    if copyNow s k slip = s.ft then s' else raiseFault Ev.ftReplica (leBytes 1 k) s'
  else s

def execFtReplicaCheck (stack : Nat) (slip : Int) (s : State) : Host.Outcome State Fault Refusal :=
  .next (replicaStep stack slip s)

/-! ### Sources (R306 to R312) -/

/-- The dies' copies are loaded with the counter. -/
def loadCopies (s : State) : State := { s with stk.dies := s.stk.dies.mapVals fun _ x => { x with ftCopy := s.ft } }

/-- A source shows its offset in 1/16 tick: before the first stamp the counter is loaded with it, afterwards it is corrected
by R302 (R304, R311, R312). -/
def applyOffset (off16 : Int) (s : State) : State :=
  if !s.time.firstStamp then
    let ft := (s.ft : Int) + Int.fdiv (off16 + 8) 16
    setTimeMode 2 (loadCopies
      { s with time.ft := ft.toNat % 2 ^ 64, time.offset16 := off16 - 16 * Int.fdiv (off16 + 8) 16, time.correction := 0
               time.everSourced := true })
  else
    let close := -16 ≤ off16 ∧ off16 ≤ 16
    let s : State := { s with time.offset16 := off16, time.everSourced := true
                              time.correction := if close then 0 else Int.tdiv off16 16 }
    let s := setTimeMode (if close then 2 else 3) s
    if (2 ^ 24 : Int) < off16.natAbs ∧ !s.time.offsetLogged then
      logEvent Ev.ftOffset (leBytes 8 (intBits 64 (Int.tdiv off16 16))) { s with time.offsetLogged := true }
    else s

/-- The next TIMING frame of a link is due: 2^12 ticks have passed since its last (R308). -/
def timingDue (s : State) (port link : Nat) : Bool :=
  match Tab.find? (8 * port + link % 8) s.torus.timingAt with
  | some t => decide (t + 4096 ≤ s.ft)
  | none => true

/-- TIMING_FRAME_SEND (R308, R568). -/
def timingSend (port link : Nat) (s : State) : State :=
  if linkUp s (512 + 16 * port + link % 8) && timingDue s port link then
    torusSend (.timing port link (if s.time.master then some s.torus.coord else s.time.masterCoord) s.ft s.time.hops)
      { s with torus.timingAt := Tab.put (8 * port + link % 8) s.ft s.torus.timingAt }
  else s

def execTimingFrameSend (port link : Nat) (s : State) : Host.Outcome State Fault Refusal := .next (timingSend port link s)

/-- The coordinate index x + 16 y + 256 z of a native address (R567). -/
def coordIndex (a : Nat) : Nat := a / 4096 % 4096

/-- The port whose neighbour has the lowest hop count, the lowest direction code winning ties (R568). -/
def nearestPort (s : State) : Option Nat :=
  (s.torus.nearest.filter fun x => portUp s x.1).foldl (fun (a : Option (Nat × Nat)) x => match a with
    | none => some (x.1, x.2.1)
    | some y => if x.2.1 < y.2 then some (x.1, x.2.1) else some y) none |>.map Prod.fst

/-- Takes an announcement: the lowest master index counts; a module that was master takes its time from the torus again (R306, R567). -/
def takeMaster (coord : Nat) (s : State) : State :=
  let lower := match masterAddr s with
    | some m => decide (coordIndex coord < coordIndex m)
    | none => true
  if lower then
    reselect (logEvent Ev.ftMaster (leBytes 3 (coordOf coord))
      { s with time.master := false, time.masterCoord := some (coordOf coord), time.lastTiming := some s.ft })
  else s

/-- An eligible module announces itself time-master, and takes its time no more from the torus; its count does not step (R306, R567, R569). -/
def becomeMaster (s : State) : State :=
  announce (.master s.torus.coord)
    (reselect (logEvent Ev.ftMaster (leBytes 3 s.torus.coord)
      { s with time.master := true, time.masterCoord := some s.torus.coord, time.hops := 0 }))

/-- A TIMING frame names a master of a higher index than that of this module, which is eligible and so the time-master (R567). -/
def outranks (s : State) (c : Nat) : Bool :=
  s.torus.partition != 0 && s.torus.eligible && !s.time.master &&
    ([c] ++ s.time.masterCoord.toList).all fun m => decide (coordIndex s.torus.coord < coordIndex m)

/-- The master that a TIMING frame names is taken where none is known or its index is lower; a time-master gives way to it (R567). -/
def learnMaster (c : Nat) (s : State) : State :=
  if s.time.master then takeMaster c s
  else if s.time.masterCoord.all fun m => decide (coordIndex c < coordIndex m) then { s with time.masterCoord := some c }
  else s

/-- TIMING_FRAME_RECEIVE: half of the round trip (in 1/16 tick) is the link's delay (R308); the frame may name the master
(R567), and the nearest neighbour disciplines the counter (R568). -/
def timingReceive (port link : Nat) (master : Option Nat) (senderFt hops roundTrip : Nat) (s : State) : State :=
  if linkUp s (512 + 16 * port + 8 + link % 8) then
    let s : State := { s with torus.delays := Tab.put (8 * port + link % 8) (roundTrip / 2) s.torus.delays }
    match master with
    | none => s
    | some c =>
      let s := if outranks s c then becomeMaster s else learnMaster c s
      if s.time.masterCoord = some c ∧ !s.time.master then
        let s : State := { s with time.lastTiming := some s.ft, torus.nearest := Tab.put port (hops, link) s.torus.nearest }
        let s := reselect s
        if (s.time.source == 1 || s.time.source == 2) && nearestPort s == some port then
          applyOffset ((senderFt : Int) * 16 + ((roundTrip / 2 : Nat) : Int) - (s.ft : Int) * 16)
            { s with time.hops := hops + 1 }
        else s
      else s
  else s

def execTimingFrameReceive (port link : Nat) (master : Option Nat) (senderFt hops roundTrip : Nat) (s : State) :
    Host.Outcome State Fault Refusal := .next (timingReceive port link master senderFt hops roundTrip s)

/-- PTP_MESSAGE: the module is a slave-only ordinary clock; two-step Sync and the end-to-end delay mechanism give the offset
((t1 − t2) + (t4 − t3)) / 2 (R309, R310). A nanosecond is 2/16 of a tick. -/
def ptpStep (port : PortId) (domain : Nat) (kind : PtpKind) (s : State) : State :=
  if !((ptpItem s).testBit 0 && ptpPort s == portNum port && bitsOf (ptpItem s) 15 8 == domain && (s.ethPort (portNum port)).up)
  then s
  else match kind with
    | .sync twoStep =>
      if twoStep then { s with time.ptp := { s.time.ptp with syncAt := some s.ft, master := none, reqAt := none } } else s
    | .followUp ns =>
      if s.time.ptp.syncAt.isSome then { s with time.ptp := { s.time.ptp with master := some ns } } else s
    | .delayReqSent =>
      if s.time.ptp.master.isSome then
        { s with time.ptp := { s.time.ptp with reqAt := some s.ft }, net.portOut := s.net.portOut ++ [.delayReq port] }
      else s
    | .delayResp ns =>
      match s.time.ptp.syncAt, s.time.ptp.master, s.time.ptp.reqAt with
      | some t2, some t1, some t3 =>
        let s := reselect { s with time.ptp := { s.time.ptp with inSync := true, reqAt := none } }
        if s.time.source = 3 + portNum port then
          applyOffset (Int.tdiv (2 * (t1 : Int) - 16 * (t2 : Int) + (2 * (ns : Int) - 16 * (t3 : Int))) 2) s
        else s
      | _, _, _ => s
    | .silent => reselect { s with time.ptp := {} }

def execPtpMessage (port : PortId) (domain : Nat) (kind : PtpKind) (s : State) : Host.Outcome State Fault Refusal :=
  .next (ptpStep port domain kind s)

/-- FT_REF_CHANGE (R306, R865). -/
def execFtRefChange (ok : Bool) (s : State) : Host.Outcome State Fault Refusal :=
  .next (reselect { s with time.ftrefOk := ok })

/-! ### Step changes (R329 to R333, R676, R677, R683) -/

/-- The core frequency of a step in MHz, and its voltage in mV (R329). -/
def stepMHz (k : Nat) : Nat := [400, 550, 700, 850, 1000, 1100, 1200, 1350, 1500, 1650, 1800, 1900].getD k 1900
def stepMv (k : Nat) : Nat := [550, 570, 590, 610, 630, 650, 670, 700, 730, 760, 790, 820].getD k 820

/-- The power-state cap in force: PS1's stands until PS1 is left (R330, R684, R685). -/
def capLimit (s : State) : Nat :=
  match s.power.transition with
  | some t => if t.target = 1 then t.cap else if t.target ≠ 0 ∧ s.power.pstate = 1 then s.power.cap else 11
  | none => if s.power.pstate = 1 then s.power.cap else 11

/-- The step R330 gives a stack. -/
def stepLimit (s : State) (k : Nat) : Nat := min (capLimit s) (min (s.stack k).thermLimit (s.stack k).marginLimit)

/-- The core output of a stack's pair, and the pair's other stack (R676). -/
def pairOf (k : Nat) : Nat := k / 2
def partner (k : Nat) : Nat := if k % 2 = 0 then k + 1 else k - 1

/-- Schedules the next single step toward the limit, where none is under way (R330, R333). A raise is refused while the
pair's bus has failed (R683). -/
def scheduleStep (k : Nat) (s : State) : State :=
  let x := s.stack k
  let lim := stepLimit s k
  if x.change.isSome || !x.powered || !x.pllOk || x.step == lim then s
  else if x.step < lim && s.power.avsFault.contains (pairOf k) then s
  else
    let c : StepChange := { target := if x.step < lim then x.step + 1 else x.step - 1, start := s.ft }
    s.updStack k fun x => { x with change := some c }

/-- The voltage an output must stand at for a step of a stack and the step of its partner, with its correction (R676,
R682). -/
def pairMv (s : State) (k step : Nat) : Nat :=
  let other := if (s.stack (partner k)).powered then stepMv (s.stack (partner k)).step else 0
  max (stepMv step) other + Tab.getD 0 (pairOf k) s.power.correction

/-- The set voltage of an output. -/
def railMv (s : State) (rail : Nat) : Nat := Tab.getD 550 rail s.power.volts

/-- Queues an AVSBus frame: 0 voltage write, 1 voltage read, 2 status read, 3 current read, 4 temperature read (R680). -/
def sendAvs (rail cmd value : Nat) (s : State) : State := { s with power.avs := s.power.avs ++ [{ rail, cmd, value }] }

/-- A change of the pair's other stack goes first: it is under way, is due earlier, or is due at the same instant and is a
lower or of the lower number (R677). -/
def partnerFirst (s : State) (k : Nat) (c : StepChange) : Bool :=
  match (s.stack (partner k)).change with
  | none => false
  | some d =>
    if d.phase ≠ .scheduled then true
    else if d.start ≠ c.start then d.start < c.start
    else
      let lower := c.target < (s.stack k).step
      let lower' := d.target < (s.stack (partner k)).step
      if lower ≠ lower' then lower' else partner k < k

def setChange (k : Nat) (phase : ChangePhase) (s : State) : State :=
  s.updStack k fun x => { x with change := x.change.map fun c => { c with phase := phase, since := s.ft } }

/-- STEP_CHANGE_START: a raise writes the voltage unless the output already stands there, a lower glides (R332, R333,
R677). -/
def stepStart (k : Nat) (s : State) : State :=
  match (s.stack k).change with
  | none => s
  | some c =>
    if c.phase = .scheduled ∧ c.start ≤ s.ft ∧ !partnerFirst s k c then
      if c.target < (s.stack k).step then setChange k .glide s
      else if s.power.avsFault.contains (pairOf k) then s.updStack k fun x => { x with change := none }
      else if pairMv s k c.target ≤ railMv s (pairOf k) then setChange k .glide s
      else setChange k .volts (sendAvs (pairOf k) 0 (pairMv s k c.target) s)
    else s

def execStepChangeStart (stack : Nat) (s : State) : Host.Outcome State Fault Refusal := .next (stepStart stack s)

/-- A step change ends with its target in force, and the next one toward the limit is scheduled (R333). -/
def changeDone (k : Nat) (s : State) : State :=
  match (s.stack k).change with
  | none => s
  | some c => scheduleStep k (s.updStack k fun x => { x with step := c.target, change := none })

/-- Ticks a glide takes at no more than 20 MHz per µs (R331). -/
def glideTicks (a b : Nat) : Nat := ceilDiv ((max (stepMHz a) (stepMHz b) - min (stepMHz a) (stepMHz b)) * 25) 4

/-- GLIDE_END, once the glide has run at no more than its rate, or slower where the governor has slowed it: a raise is then in force; a lower next sets the output to what the pair still needs (R331 to R333, R677). -/
def glideStep (k : Nat) (s : State) : State :=
  match (s.stack k).change with
  | none => s
  | some c =>
    let n := glideTicks (s.stack k).step c.target + c.slow
    let past := (c.phase == .glide && decide (c.since + n ≤ s.ft)) || (c.phase == .wait && decide (c.since + 125 + n ≤ s.ft))
    if !past then s
    else if (s.stack k).step < c.target then changeDone k s
    else
      let v := pairMv s k c.target
      if railMv s (pairOf k) ≤ v || s.power.avsFault.contains (pairOf k) then changeDone k s
      else setChange k .lowerVolts (sendAvs (pairOf k) 0 v s)

def execGlideEnd (stack : Nat) (s : State) : Host.Outcome State Fault Refusal := .next (glideStep stack s)

/-- The stack of a pair whose change stands in a phase. -/
def changing (s : State) (rail : Nat) (p : ChangePhase) : Option Nat :=
  [2 * rail, 2 * rail + 1].find? fun k => (s.stack k).change.any fun c => c.phase == p

/-- A write that has gone through: the regulator is asked whether it has settled (R332, R681). -/
def wroteVolts (rail v : Nat) (s : State) : State :=
  let s : State := { s with power.volts := Tab.put rail v s.power.volts }
  match changing s rail .volts with
  | some k => setChange k .settling (sendAvs rail 2 0 s)
  | none => if (changing s rail .lowerVolts).isSome then sendAvs rail 2 0 s else s

/-- A status read: it clears the bus fault; VDone ends the settling (R332, R333, R683). -/
def statusRead (rail v : Nat) (s : State) : State :=
  let s : State := alertPin { s with power.avsFault := s.power.avsFault.filter (· ≠ rail) }
  let waits := (changing s rail .settling).isSome || (changing s rail .lowerVolts).isSome
  if v % 2 = 0 then (if waits then sendAvs rail 2 0 s else s)
  else match changing s rail .settling with
    | some k => setChange k .wait s
    | none => match changing s rail .lowerVolts with
      | some k => changeDone k s
      | none => s

/-- A frame that failed four times (R683): raises of the pair are refused, lowers end with the glide alone. -/
def avsFailed (f : AvsFrame) (s : State) : State :=
  let s := logEvent Ev.avsFault (leBytes 1 f.rail ++ leBytes 1 f.cmd)
    (alertPin { s with power.avsFault := (s.power.avsFault ++ [f.rail]).eraseDups })
  let s := match (changing s f.rail .volts).or (changing s f.rail .settling) with
    | some k => s.updStack k fun x => { x with change := none }
    | none => s
  match changing s f.rail .lowerVolts with
  | some k => changeDone k s
  | none => s

/-- AVS_FRAME_DONE: the frame at the front of the queue ends (R678 to R683). A current is read in units of 10 mA and a
temperature in units of 0.1 °C. -/
def avsDone (r : AvsResult) (s : State) : State :=
  match s.power.avs with
  | [] => s
  | f :: rest =>
    match r with
    | .failed =>
      if f.tries < 3 then { s with power.avs := { f with tries := f.tries + 1 } :: rest }
      else avsFailed f { s with power.avs := rest }
    | .ok v =>
      let s : State := { s with power.avs := rest }
      if f.cmd = 0 then wroteVolts f.rail f.value s
      else if f.cmd = 2 then statusRead f.rail v s
      else if f.cmd = 3 then
        if 29000 < v then { s with power.overCurrent := (s.power.overCurrent ++ [f.rail]).eraseDups } else s
      else if f.cmd = 4 then { s with power.regTemp := some (max v (s.power.regTemp.getD 0)) }
      else s

def execAvsFrameDone (r : AvsResult) (s : State) : Host.Outcome State Fault Refusal := .next (avsDone r s)

/-- STACK_PLL_LOSS: the die's clocks stop and the pound rolls back (R334). -/
def pllLoss (k : Nat) (s : State) : State :=
  if (s.stack k).powered && (s.stack k).pllOk then
    raiseFault Ev.stackClock (leBytes 1 k)
      (s.updStack k fun x =>
        { x with pllOk := false, clocked := false, change := none, estimate := 0
                 reaches := x.reaches.mapVals fun _ r => { r with enable := 0 } })
  else s

def execStackPllLoss (stack : Nat) (s : State) : Host.Outcome State Fault Refusal := .next (pllLoss stack s)

/-- STACK_PLL_RELOCK: the PLL is locked again at step 0, and the stack takes releases again (R334). -/
def pllRelock (k : Nat) (s : State) : State :=
  if (s.stack k).powered && !(s.stack k).pllOk then
    scheduleStep k (s.updStack k fun x => { x with pllOk := true, clocked := true, step := 0, ftCopy := s.ft })
  else s

def execStackPllRelock (stack : Nat) (s : State) : Host.Outcome State Fault Refusal := .next (pllRelock stack s)

/-! ### Margin monitors (R335 to R337) -/

/-- A reach's monitors report their levels for a core cycle: its level is the lowest, and its drivers stretch by it (R335,
R336). -/
def marginReach (level : Nat) (x : Reach) : Reach :=
  let first := level ≤ 1 ∧ !x.below
  let stretch := level = 0 ∨ first ∨ (level = 1 ∧ 4 ≤ x.sinceStretch)
  { x with
    level := level, below := decide (level ≤ 1)
    sinceStretch := if stretch then 1 else x.sinceStretch + 1
    stretches := if stretch then satInc x.stretches else x.stretches }

/-- MARGIN_MONITOR (R335 to R337). -/
def marginStep (k reach : Nat) (levels : List Nat) (s : State) : State :=
  if (s.stack k).powered && (s.stack k).clocked then
    s.updStack k fun x =>
      { x with reaches := Tab.put (reach % 8) (marginReach (levels.foldl min 7) (Tab.getD {} (reach % 8) x.reaches)) x.reaches }
  else s

def execMarginMonitor (stack reach : Nat) (levels : List Nat) (s : State) : Host.Outcome State Fault Refusal :=
  .next (marginStep stack reach levels s)

end Sys2Proof.Machine
end

