-- ==== Sys2Proof/Machine/FlashOps.lean ====
section
/-!
DEFINITION. The configuration flash: which copy of a record stands, the queue of operations, what follows each of them,
and the attestation report (R667, R761, R779, R780, R791 to R809). The first operation of the queue is the one in progress.
-/

namespace Sys2Proof.Machine

/-! ### Copies of a record (R793 to R797) -/

def copySeq : CopyState → Option Nat
  | .valid q => some q
  | _ => none

/-- SEQ `a` is later than `b`, modulo 2^32. -/
def seqLater (a b : Nat) : Bool := decide (0 < (a + 2 ^ 32 - b) % 2 ^ 32 ∧ (a + 2 ^ 32 - b) % 2 ^ 32 < 2 ^ 31)

/-- The copy that stands (R796). -/
def winner (r : Record) : Option Nat :=
  match copySeq r.copy0, copySeq r.copy1 with
  | some a, some b => some (bit (seqLater b a))
  | some _, none => some 0
  | none, some _ => some 1
  | none, none => none

def copyState (r : Record) (i : Nat) : CopyState := if i = 0 then r.copy0 else r.copy1
def setCopy (r : Record) (i : Nat) (c : CopyState) : Record := if i = 0 then { r with copy0 := c } else { r with copy1 := c }

/-- The copy a write programs, and its SEQ (R797). -/
def writeCopy (r : Record) : Nat := if winner r = some 0 then 1 else 0
def writeSeq (r : Record) : Nat :=
  match winner r with
  | some w => ((copySeq (copyState r w)).getD 0 + 1) % 2 ^ 32
  | none => 1

def updRecord (kind : Nat) (f : Record → Record) (s : State) : State :=
  { s with flash.records := Tab.put kind (f (s.record kind)) s.flash.records }

/-- A record without a valid copy has no content. -/
def dropLost (r : Record) : Record := if (winner r).isNone then { r with data := none } else r

/-- What a stored record changes at once. -/
def recordForce (d : RecordData) (s : State) : State :=
  match d with
  | .boot b => { s with boot.bootRec := b }
  | .config c => { s with boot.config := c }
  | .attest n => { s with sec.leafBound := some n }
  | .wipe => { s with sec.wipeMarker := true }
  | .trips l n => { s with power.tripLog := l, power.trips := n }
  | .keys _ _ | .repairs _ _ _ _ | .calib _ => s

/-- A record write has completed: the new copy stands; the former winner, where there is one, is to be erased. -/
def storeRecord (kind : Nat) (d : RecordData) (s : State) : Option Nat × State :=
  let w := winner (s.record kind)
  (w, recordForce d (updRecord kind (fun r => { setCopy r (writeCopy r) (.valid (writeSeq r)) with data := some d }) s))

/-- Erases a copy. -/
def eraseCopy (kind copy : Nat) (s : State) : State := updRecord kind (fun r => dropLost (setCopy r copy .blank)) s

/-- A write whose end nothing needs to wait for, as the boot ROM makes it (R807). -/
def storeNow (kind : Nat) (d : RecordData) (s : State) : State :=
  match storeRecord kind d s with
  | (some w, s) => eraseCopy kind w s
  | (none, s) => s

/-! ### The queue (R798) -/

def flashAdd (o : FlashOp) (s : State) : State := { s with flash.queue := s.flash.queue ++ [o] }

/-- A write of the attestation reservation. -/
def isReserve : FlashOp → Bool
  | .write 2 _ _ => true
  | _ => false

/-- An attestation-reservation write runs next after the operation in progress, and after those asked for before it. -/
def flashNext (o : FlashOp) (s : State) : State :=
  match s.flash.queue with
  | [] => { s with flash.queue := [o] }
  | h :: t => { s with flash.queue := h :: (t.takeWhile isReserve ++ o :: t.dropWhile isReserve) }

/-- The trip-log write suspends the operation in progress. -/
def flashSuspend (o : FlashOp) (s : State) : State :=
  match s.flash.queue with
  | [] => { s with flash.queue := [o] }
  | h :: t => { s with flash.queue := o :: t, flash.suspended := some h }

/-- The boot state as the last write queued leaves it. -/
def latestBoot (s : State) : BootRec :=
  s.flash.queue.foldl (fun b o => match o with
    | .write _ (.boot c) _ => c
    | _ => b) s.boot.bootRec

/-- The configuration as the last write queued leaves it. -/
def latestConfig (s : State) : ConfigRec :=
  s.flash.queue.foldl (fun b o => match o with
    | .write _ (.config c) _ => c
    | _ => b) s.boot.config

/-! ### Keys and wipes (R761, R765, R771, R773) -/

/-- What the wrap key of the key record depends on beyond the device secret: the TAMPER count and LC bits [3:2]. -/
def wrapEpoch (s : State) : Nat := 4 * s.sec.fuses.tamper + bitsOf s.sec.fuses.lc 3 2

/-- Queues a write of the key record: slots 1 to 255 of the vault. -/
def writeKeys (s : State) : State :=
  flashAdd (.write 4 (.keys (s.sec.vault.filter fun k => k.1 ≠ 0) (wrapEpoch s)) .nothing) s

/-- A cell of a secure part (R95). -/
def secureCell (c : Nat) : Bool := decide (0x160000 ≤ c % 2 ^ 21)

/-- Wipes every secure part (R101). -/
def wipeSecure (s : State) : State :=
  { s with
    stk.scratch := s.stk.scratch.filter fun c => !secureCell c.1
    stk.badBytes := s.stk.badBytes.filter fun c => !secureCell c
    stk.cores := s.stk.cores.mapVals fun _ x => { x with deferred := x.deferred.filter fun d => d.1 < 5632 } }

/-- Forgets the scratch content of the cores a test selects (R102, R727). -/
def forgetScratch (p : Nat → Bool) (s : State) : State :=
  { s with
    stk.scratch := s.stk.scratch.filter fun c => !p (c.1 / 2 ^ 21)
    stk.badBytes := s.stk.badBytes.filter fun c => !p (c / 2 ^ 21) }

/-- A full wipe, but for what only the flash keeps: the vault, and device memory, all zeros. -/
def wipeNow (s : State) : State :=
  { s with
    sec.vault := [], sec.seeds := false, sec.keyLoaded := false, mem.base := [], mem.poison := [], mem.wrong := []
    mem.pins := s.mem.pins.map fun p => { p with cells := [], poison := [] }
    mem.preImages := s.mem.preImages.map fun p => { p with cells := [], poison := [] }
    mem.shadows := s.mem.shadows.map fun h => { h with cells := [], poison := [] } }

/-- A full wipe (R765): the records go or return to factory values, and the wipe marker is written last. -/
def fullWipe (next : FlashThen) (s : State) : State :=
  flashAdd (.write 3 .wipe next) (flashAdd (.eraseRecord 8 .nothing)
    (flashAdd (.write 7 (.config {}) .nothing) (flashAdd (.eraseRecord 4 .nothing) (wipeNow s))))

/-! ### The attestation report (R667, R780) -/

/-- The security version of a firmware image (R802). -/
def imageSvn (img : Bytes) : Nat := leField img 0x0A 1

/-- The SLOTS field: bit i set where slot i is installed. -/
def slotMask (s : State) : Nat := (List.range 256).foldl (fun a i => if (slotKey s i).isSome then a + 2 ^ i else a) 0

/-- The signed report of a leaf. The digest of the configuration record is a free value: its payload is no interface
(R801). -/
def attestReport (leaf : Nat) (nonce : Bytes) (s : State) : Bytes × State :=
  let (dig, s) := drawBelow (2 ^ 256) s
  let img := runningImage s
  let head := leBytes 4 0x5441464C ++ leBytes 2 1 ++ leBytes 2 0x4C96 ++ leBytes 1 0xA1 ++ leBytes 1 (lifeCycle s) ++
    leBytes 1 s.sec.fuses.tamper ++ leBytes 1 (slotByte s) ++ leBytes 4 (leField img 0x0C 4) ++ leBytes 4 s.sec.fuses.svn ++
    leBytes 4 0 ++ leBytes 16 s.sec.fuses.unitId ++ shake256 img ++ leBytes 32 dig ++ leBytes 32 (slotMask s) ++
    (nonce ++ List.replicate 32 0).take 32 ++ leBytes 8 s.ft ++ leBytes 8 s.pound.committed ++ leBytes 8 leaf ++
    (List.range 68).map (fun i => BitVec.ofNat 8 (Config.attestPub i)) ++
    (List.range 2820).map (fun i => BitVec.ofNat 8 (Config.endorsement i))
  (head ++ (List.range 5605).map (fun i => BitVec.ofNat 8 (Config.xmssmtSign leaf head i)), s)

/-- Sets what a job waits for. -/
def setJob (n : Nat) (kind : JobKind) (s : State) : State :=
  { s with work.jobs := Tab.modify n (fun j => { j with kind := kind }) s.work.jobs }

/-- The bound that the reservation writes already asked for will have stored. -/
def askedBound (s : State) : Option Nat :=
  s.flash.queue.foldl (fun b o => match o with
    | .write _ (.attest n) _ => some n
    | _ => b) none

/-- Asks for a reservation of 1,024 more leaves before signing, or refuses where none is left (R667, R779, R780). -/
def attestReserve (n : Nat) (s : State) : State :=
  match askedBound s, s.sec.leafBound with
  | some b, _ => flashNext (.write 2 (.attest b) (.attest n)) s
  | none, some b =>
    if 2 ^ 40 < b + 1024 then endJob n St.attestExhausted [] s
    else flashNext (.write 2 (.attest (b + 1024)) (.attest n)) s
  | none, none => endJob n St.attestExhausted [] s

/-- Signs with the next leaf and writes the report into the buffer (R636, R667). -/
def attestSign (n : Nat) (s : State) : State :=
  match (Tab.find? n s.work.jobs).map Job.kind with
  | some (.attestWrite nonce handle off) =>
    match mailBuffer s handle off 8685 false with
    | .inl st => endJob n st [] s
    | .inr b =>
      let leaf := s.sec.leaf
      if s.sec.leafBound.getD 0 ≤ leaf then attestReserve n s
      else
        let (rep, s) := attestReport leaf nonce s
        let a := bufBase b + off
        sendWrites 30 a rep (.mail n)
          (setJob n (.atCommit (openSerial s) (leBytes 8 leaf ++ leBytes 4 8685 ++ leBytes 4 0) a rep)
            { s with sec.leaf := leaf + 1 })
  | _ => s

/-! ### What follows an operation (R633, R764, R806, R808, R809) -/

/-- A confirmation counts: the trial timer stops, and SVN bits are blown up to the image's SVN. -/
def confirmed (s : State) : State :=
  { s with boot.trialAt := none, sec.fuses.svn := max s.sec.fuses.svn (min 64 (imageSvn (runningImage s))) }

/-- Sets the state of a firmware slot. -/
def setSlot (b : BootRec) (slotB : Bool) (x : SlotState) : BootRec :=
  if slotB then { b with slotB := x } else { b with slotA := x }

def afterFlash (n : FlashThen) (s : State) : State :=
  match n with
  | .nothing => s
  | .reply j => endJob j St.ok [] s
  | .stage slotB img j => flashAdd (.program slotB img (.reply j)) s
  | .confirm j =>
    let s := confirmed s
    match j with
    | some n => endJob n St.ok [] s
    | none => s
  | .attest j => attestSign j s
  | .lifecycle j resets =>
    let s := endJob j St.ok [] s
    if resets then { s with boot.resetAt := some (2 ^ 17), boot.resetCause := 3 } else s

/-- RECORD_WRITE_DONE: the write at the front of the queue has completed, and its former winner is erased next (R797). Items
that take effect at once do so, the time sources among them (R821). -/
def writeDone (s : State) : State :=
  match s.flash.queue with
  | .write kind d next :: rest =>
    if kind = 5 then s
    else
      let old := ptpItem s
      let (w, s) := storeRecord kind d s
      let s := if kind = 7 then reselect (if ptpItem s = old then s else { s with time.ptp := {} }) else s
      let er := match w with
        | some c => [FlashOp.erase kind c]
        | none => []
      afterFlash next { s with flash.queue := er ++ rest }
  | _ => s

def execRecordWriteDone (s : State) : Host.Outcome State Fault Refusal := .next (writeDone s)

/-- RECORD_ERASE_DONE: the erase at the front of the queue has completed. -/
def eraseDone (s : State) : State :=
  match s.flash.queue with
  | .erase kind copy :: rest => { eraseCopy kind copy s with flash.queue := rest }
  | .eraseRecord kind next :: rest => afterFlash next { eraseCopy kind 0 (eraseCopy kind 1 s) with flash.queue := rest }
  | _ => s

def execRecordEraseDone (s : State) : Host.Outcome State Fault Refusal := .next (eraseDone s)

/-- SLOT_PROGRAM_DONE: the staged image stands in its slot, which becomes PENDING by a second boot-state write (R806). -/
def programDone (s : State) : State :=
  match s.flash.queue with
  | .program slotB img next :: rest =>
    let s : State := if slotB then { s with flash.imageB := img } else { s with flash.imageA := img }
    let s : State := { s with flash.queue := rest }
    flashAdd (.write 1 (.boot (setSlot (latestBoot s) slotB .pending)) next) s
  | _ => s

def execSlotProgramDone (s : State) : Host.Outcome State Fault Refusal := .next (programDone s)

/-- TRIP_LOG_WRITTEN: the trip-log write has completed, and the operation it suspended resumes (R798). -/
def tripStored (s : State) : State :=
  match s.flash.queue with
  | .write 5 d _ :: rest =>
    let (w, s) := storeRecord 5 d s
    let er := match w with
      | some c => [FlashOp.erase 5 c]
      | none => []
    let back := match s.flash.suspended with
      | some o => [o]
      | none => []
    { s with flash.queue := back ++ er ++ rest, flash.suspended := none }
  | _ => s

/-- What an interruption leaves of the operation in progress: the copy it was on is torn (R797, R870, R873). -/
def tear (o : FlashOp) (s : State) : State :=
  match o with
  | .write kind _ _ => updRecord kind (fun r => setCopy r (writeCopy r) .torn) s
  | .erase kind copy => updRecord kind (fun r => dropLost (setCopy r copy .torn)) s
  | .eraseRecord kind _ => updRecord kind (fun r => dropLost (setCopy r ((winner r).getD 0) .torn)) s
  | .program _ _ _ => s

/-- The flash after an interruption: what was in progress is torn, and the queue is lost. -/
def flashCut (s : State) : State :=
  let s := match s.flash.queue with
    | o :: _ => tear o s
    | [] => s
  let s := match s.flash.suspended with
    | some o => tear o s
    | none => s
  { s with flash.queue := [], flash.suspended := none }

end Sys2Proof.Machine
end

