-- ==== Sys2Proof/Machine/Light.lean ====
section
/-!
DEFINITION. Lasers, relief, handovers, rings, calibration and the slew governor (chapter 9, R571). A light group is a bank
(0 to 3) or a torus berth's fibre sources (4 to 9); a lane is 0 to 15, or 16 for WR.
-/

namespace Sys2Proof.Machine

/-! ### Lasers and groups (R450 to R452, R570) -/

def laserKey : LaserRef → Nat
  | .bank q j => 21 * q + j
  | .fibre b c j => 84 + 34 * (b - 24) + 17 * c + j

/-- The group of a laser's key. -/
def groupOfKey (k : Nat) : Nat := if k < 84 then k / 21 else 4 + (k - 84) / 34

def unitGroup : LightUnit → Nat
  | .bank q => q
  | .fibre b => 4 + (b - 24)

/-- The spare a handover of a lane takes next: the lowest-numbered one out of service, or the lane's line of the other fibre source, where
that is dark and has neither failed nor been rejected (R460, R463, R571). -/
def freeSpare (s : State) (g lane : Nat) : Option Nat :=
  if g < 4 then ((List.range 4).map (· + (21 * g + 17))).find? fun k => (s.laser k).state == 5
  else ([84 + 34 * (g - 4) + lane, 84 + 34 * (g - 4) + 17 + lane] : List Nat).find? fun k =>
    !(s.laser k).lit && ((s.laser k).state == 4 || (s.laser k).state == 5)

/-- The bank in an event's arguments; a torus berth stands as its own number (R829). -/
def groupCode (g : Nat) : Nat := if g < 4 then g else g + 20

/-- The laser in an event's arguments: 0 to 20, or 17 × source + lane. -/
def laserCode (k : Nat) : Nat := if k < 84 then k % 21 else (k - 84) % 34

/-- The spare in an event's arguments. -/
def spareCode (k : Nat) : Nat := if k < 84 then k % 21 - 17 else (k - 84) % 34 / 17

/-! ### Relief (R457, R458, R467, R469, R471) -/

/-- A bank is down: its transmit links are DOWN, the pound rolls back, every resident graph and open barge ends with
ST_LIGHT_LOST (R469, R621). A torus berth's port goes DOWN instead (R571). -/
def groupDown (g : Nat) (s : State) : State :=
  if (s.group g).down then s
  else
    let s := setLinks (groupLinks g) 0 (s.updGroup g fun x => { x with down := true })
    if g < 4 then
      endBarges (fun _ => true) St.lightLost (killGraphs St.lightLost (raiseFault Ev.bankDown (leBytes 1 g) s))
    else s

/-- Adds a lane to the handovers due. -/
def enqueue (g lane : Nat) (s : State) : State :=
  s.updGroup g fun x => if x.queue.contains lane then x else { x with queue := x.queue ++ [lane] }

/-- The relief map names a lane on WR, or one that the links run without (R457, R487). -/
def relieve (g lane : Nat) (s : State) : State := s.updGroup g fun x => { x with relieved := some lane, relievedAt := s.ft }
def dropLane (g lane : Nat) (s : State) : State := s.updGroup g fun x => { x with dropped := some lane, droppedAt := s.ft }

/-- Gives a lane that has lost its light the relief that is left: WR, else 15-lane operation; with neither the group is down
(R467, R470). -/
def relieveFail (g lane : Nat) (s : State) : State :=
  let x := s.group g
  if x.relieved = some lane ∨ x.dropped = some lane then s
  else if x.relieved.isNone && laneLit s g 16 then enqueue g lane (relieve g lane s)
  else if x.dropped.isNone then enqueue g lane (dropLane g lane s)
  else groupDown g s

/-- The WR laser has failed: a lane it carried is read from the lane at once where that is lit, else the links run without it (R467). -/
def wrFail (g : Nat) (s : State) : State :=
  let x := s.group g
  let done := fun (i : Nat) => (servingLaser s g i).any fun k => (s.laser k).state == 6
  let s := match x.relieved with
    | none => s
    | some i =>
      let s := s.updGroup g fun x =>
        { x with relieved := none, permanent := false, handover := none, queue := if done i then x.queue.erase i else x.queue }
      if laneLit s g i then s
      else if x.dropped.isSome then groupDown g s
      else dropLane g i s
  enqueue g 16 s

/-- A laser that lights a lane fails: the Fail level or a sudden fail. A lane that a spare served gets no relief at once but a handover
(R455, R467, R470; notes/assumptions/156.md). -/
def laserFail (k : Nat) (s : State) : State :=
  let x := s.laser k
  let g := groupOfKey k
  let s := logEvent Ev.laserFail (leBytes 1 (groupCode g) ++ leBytes 1 (laserCode k))
    (s.updLaser k fun x => { x with state := 3, lit := false })
  if x.serves = 16 then wrFail g s else if x.state = 6 then enqueue g x.serves s else relieveFail g x.serves s

/-- A laser that lights a lane reaches Migrate, or is treated so (R455, R465, R467, R478). -/
def laserMigrate (k : Nat) (s : State) : State :=
  let x := s.laser k
  let g := groupOfKey k
  let lane := x.serves
  let s := logEvent Ev.laserMigrate (leBytes 1 (groupCode g) ++ leBytes 1 (laserCode k) ++ leBytes 1 (intBits 8 x.fade))
    (s.updLaser k fun x => { x with state := if x.state = 6 then 6 else 2 })
  let busy := (s.group g).relieved.any (· != lane)
  let s := if lane != 16 && busy && (s.group g).dropped.isNone then
      logEvent Ev.reliefBusy (leBytes 1 (groupCode g) ++ leBytes 1 lane)
        (dropLane g lane s)
    else s
  enqueue g lane s

/-- FAIL_COMPARATOR_TRIP: a trip for a data lane on neither WR nor a spare is counted as sudden (R456, R470, R488). -/
def failTrip (r : LaserRef) (s : State) : State :=
  let k := laserKey r
  if (s.laser k).lit && (s.laser k).serves ≤ 16 then
    let sudden := (s.laser k).serves != 16 && (s.group (groupOfKey k)).relieved != some (s.laser k).serves && (s.laser k).state != 6
    laserFail k (if sudden then s.updGroup (groupOfKey k) fun x => { x with fails := satInc x.fails } else s)
  else s

def execFailComparatorTrip (laser : LaserRef) (s : State) : Host.Outcome State Fault Refusal := .next (failTrip laser s)

/-! ### Handover (R460 to R466) -/

/-- The lane whose handover is next: the lane on WR, else WR itself if it is dark, without which no lane can be mirrored, else the first
that reached Migrate (R460, R467). -/
def nextLane (s : State) (g : Nat) : Option Nat :=
  let x := s.group g
  match x.relieved with
  | some r => if x.queue.contains r then some r else none
  | none => if laneLit s g 16 then x.queue.head? else if x.queue.contains 16 then some 16 else none

/-- No spare remains: the lane stays on WR, its relief marked permanent (R464). -/
def noSpare (g lane : Nat) (s : State) : State :=
  let x := s.group g
  if lane = 16 then
    logEvent Ev.laserNoSpare (leBytes 1 (groupCode g) ++ leBytes 1 lane)
      (s.updGroup g fun x => { x with queue := x.queue.erase 16, handover := none })
  else if x.permanent then s.updGroup g fun x => { x with handover := none }
  else
    logEvent Ev.laserNoSpare (leBytes 1 (groupCode g) ++ leBytes 1 lane)
      (s.updGroup g fun x =>
        { x with relieved := some lane, relievedAt := if x.relieved = some lane then x.relievedAt else s.ft, permanent := true
                 handover := none })

def setPhase (g : Nat) (p : HandPhase) (s : State) : State :=
  s.updGroup g fun x => { x with handover := x.handover.map fun h => { h with phase := p, since := s.ft } }

/-- HANDOVER_START at H0: the lane is mirrored on WR and a spare begins tuning; a lane already on WR starts past the drain; a
handover that a base reset held starts again once every link of the group is UP (R460, R465, R466, R470). -/
def handStart (g : Nat) (s : State) : State :=
  let x := s.group g
  let onWr := fun (lane : Nat) (s : State) => if lane = 16 ∨ x.relieved = some lane then s else relieve g lane s
  if s.base.reset.isSome then s
  else match x.handover with
  | some h =>
    if h.phase = .waiting ∧ (groupLinks g).all (linkUp s) then setPhase g .mirrored (onWr h.lane s)
    else s
  | none =>
    match nextLane s g with
    | none => s
    | some lane =>
      match freeSpare s g lane with
      | none => noSpare g lane s
      | some k =>
        let h : Handover := { lane := lane, spare := k, phase := if x.relieved = some lane then .drained else .mirrored, since := s.ft }
        onWr lane (s.updGroup g fun x => { x with handover := some h })

def execHandoverStart (u : LightUnit) (s : State) : Host.Outcome State Fault Refusal := .next (handStart (unitGroup u) s)

/-- A handover of a group stands in a phase for a number of ticks. -/
def inPhase (s : State) (g : Nat) (p : HandPhase) (n : Nat) : Bool :=
  (s.group g).handover.any fun h => h.phase == p && decide (h.since + n ≤ s.ft)

/-- HANDOVER_DRAIN_END: receivers read the lane from WR; a spare that is tuned by then is in verification since (R460). -/
def handDrain (g : Nat) (s : State) : State :=
  if inPhase s g .mirrored 128 then
    s.updGroup g fun x => { x with handover := x.handover.map fun h => match h.tunedAt with
      | some t => { h with phase := .tuned, since := max t h.since }
      | none => { h with phase := .drained, since := s.ft } }
  else s

def execHandoverDrainEnd (u : LightUnit) (s : State) : Host.Outcome State Fault Refusal := .next (handDrain (unitGroup u) s)

/-- A spare fails a step (0 tuning, 1 verification, 2 lane check) and the next one is tried (R463). -/
def spareReject (g : Nat) (s : State) : State :=
  match (s.group g).handover with
  | none => s
  | some h =>
    let (step, s) := draw s
    let s := logEvent Ev.spareReject (leBytes 1 (groupCode g) ++ leBytes 1 (spareCode h.spare) ++ leBytes 1 step)
      ((s.updLaser h.spare fun x => { x with state := 7, lit := false, serves := 31, drive := 0 }).updGroup g fun x =>
        { x with rejects := satInc x.rejects })
    match freeSpare s g h.lane with
    | none => noSpare g h.lane s
    | some k =>
      let early := h.phase == .mirrored
      let next : Handover :=
        { h with spare := k, phase := if early then .mirrored else .drained, since := if early then h.since else s.ft, tunedAt := none }
      s.updGroup g fun x => { x with handover := some next }

/-- The spare of a handover is tuned: its light, on the verification tap, carries the lane's pilot tone (R460). -/
def spareTuned (g : Nat) (s : State) : State :=
  match (s.group g).handover with
  | none => s
  | some h =>
    let early := h.phase == .mirrored
    let next : Handover :=
      { h with phase := if early then .mirrored else .tuned, since := if early then h.since else s.ft, tunedAt := some s.ft }
    (s.updLaser h.spare fun x => { x with drive := 196 }).updGroup g fun x => { x with handover := some next }

/-- SPARE_TUNED: a spare begins tuning at H0, beside the drain, and must be tuned within 2^16 ticks of H0, 128 of which are the drain (R460,
R463). -/
def spareTunedStep (g : Nat) (ok : Bool) (s : State) : State :=
  let tunes := (inPhase s g .mirrored 0 || inPhase s g .drained 0) && (s.group g).handover.any fun h => h.tunedAt.isNone
  if !tunes then s
  else if ok && !inPhase s g .drained 65409 && !inPhase s g .mirrored 65537 then spareTuned g s
  else spareReject g s

def execSpareTuned (u : LightUnit) (ok : Bool) (s : State) : Host.Outcome State Fault Refusal :=
  .next (spareTunedStep (unitGroup u) ok s)

/-- SPARE_VERIFIED (R460, R463). -/
def spareVerifiedStep (g : Nat) (ok : Bool) (s : State) : State :=
  if ok then (if inPhase s g .tuned 16384 then setPhase g .verified s else s)
  else if inPhase s g .tuned 0 then spareReject g s else s

def execSpareVerified (u : LightUnit) (ok : Bool) (s : State) : Host.Outcome State Fault Refusal :=
  .next (spareVerifiedStep (unitGroup u) ok s)

/-- HANDOVER_SWITCH: the bank input switch moves to the spare and the old laser goes dark (R460, R465). -/
def handSwitch (g : Nat) (s : State) : State :=
  match (s.group g).handover with
  | none => s
  | some h =>
    if h.phase = .verified then
      let old := servingLaser s g h.lane
      let s := match old with
        | some k =>
          if k = h.spare then s
          else s.updLaser k fun x => { x with lit := false, drive := 0, state := if x.state = 6 then 7 else 4
                                              serves := if x.state = 6 then 31 else x.serves }
        | none => s
      setPhase g .switched (s.updLaser h.spare fun x =>
        { x with lit := true, state := 6, serves := h.lane, fade := 0, level := 0, quiet := 0, drive := 196 })
    else s

def execHandoverSwitch (u : LightUnit) (s : State) : Host.Outcome State Fault Refusal := .next (handSwitch (unitGroup u) s)

/-- HANDOVER_LANE_CHECK_END (R460, R463). -/
def handCheck (g : Nat) (ok : Bool) (s : State) : State :=
  if ok then
    if inPhase s g .switched (1250 + 131072) then setPhase g .checked s else s
  else if inPhase s g .switched 1250 then spareReject g s else s

def execHandoverLaneCheckEnd (u : LightUnit) (ok : Bool) (s : State) : Host.Outcome State Fault Refusal :=
  .next (handCheck (unitGroup u) ok s)

/-- HANDOVER_MIRROR_STOP: the relief map is cleared, or takes the dropped lane (R460, R467). -/
def handStop (g : Nat) (s : State) : State :=
  match (s.group g).handover with
  | none => s
  | some h =>
    if inPhase s g .checked 128 then
      logEvent Ev.laserSpared (leBytes 1 (groupCode g) ++ leBytes 1 h.lane ++ leBytes 1 (spareCode h.spare))
        (s.updGroup g fun x =>
          let kept := if x.relieved = some h.lane then none else x.relieved
          { x with
            handover := none, queue := x.queue.erase h.lane, handovers := satInc x.handovers, permanent := false
            relieved := kept.or x.dropped
            relievedAt := if kept.isNone then x.droppedAt else x.relievedAt
            dropped := if kept.isNone then none else x.dropped })
    else s

def execHandoverMirrorStop (u : LightUnit) (s : State) : Host.Outcome State Fault Refusal := .next (handStop (unitGroup u) s)

/-! ### Rings (R472 to R476) -/

/-- The base link of a ring. -/
def ringLink (r : RingRef) : Nat := 16 * r.berth + 8 * bit r.receive + r.link

/-- The ring in an event's arguments (R829). -/
def ringCode (r : RingRef) : Nat := bit r.receive * 1024 + r.link * 128 + r.role * 32 + r.lane

/-- Moves a lane to WR on one link (R457, R475). -/
def relieveLink (l lane : Nat) (s : State) : State :=
  s.updLink l fun x =>
    { x with relief := if Tab.has lane x.relief then x.relief else Tab.put lane s.ft x.relief, leaving := Tab.del lane x.leaving }

/-- A relieved lane of a link returns to use: it is read again at once, and its mirror stops 128 ticks later (R460, R474). -/
def returnLane (l lane : Nat) (s : State) : State :=
  s.updLink l fun x =>
    if Tab.has lane x.relief then { x with relief := Tab.del lane x.relief, leaving := Tab.put lane (s.ft + 128) x.leaving } else x

/-- A ring that shows another lane's tone (R475): its lane moves to WR, and it is relocked in a maintenance window (R476). -/
def wrongLock (r : RingRef) (s : State) : State :=
  if s.light.wrong.contains r then s
  else
    let l := ringLink r
    maintenance [l] [.relock r]
      (logEvent Ev.wrongLock (leBytes 1 r.berth ++ leBytes 1 r.link ++ leBytes 2 (ringCode r))
        (relieveLink l r.lane
          { s with light.wrong := s.light.wrong ++ [r]
                   light.wrongLocks := Tab.put r.berth (satInc (Tab.getD 0 r.berth s.light.wrongLocks)) s.light.wrongLocks }))

/-- A window that relocks a ring still waits for its instant. -/
def relockWaits (s : State) (r : RingRef) : Bool :=
  s.base.windows.any fun w => !w.started && w.acts.contains (.relock r)

/-- RING_RELOCK: after the window that swept it, a ring that has shown its own tone for a full round gives its lane back; one that has not
is swept again (R476). -/
def relockStep (r : RingRef) (ownTone : Bool) (s : State) : State :=
  let l := ringLink r
  if !s.light.swept.contains r then s
  else if ownTone then
    { returnLane l r.lane s with
      light.wrong := s.light.wrong.erase r, light.suspects := s.light.suspects.erase (l, r.lane), light.swept := s.light.swept.erase r }
  else maintenance [l] [.relock r] { s with light.swept := s.light.swept.erase r }

/-- The ring of a suspect lane: a receive link's filter, a transmit link's modulator. -/
def suspectRing (x : Nat × Nat) : RingRef :=
  { berth := linkBerth x.1, receive := linkRx x.1, link := linkIdx x.1, role := if linkRx x.1 then 1 else 0, lane := x.2 }

/-- A bank has a laser of a lane at Migrate or worse, its handover still to end. -/
def laneFading (s : State) (lane : Nat) : Bool :=
  (List.range 4).any fun g => let x := s.group g; x.queue.contains lane || x.relieved == some lane || x.dropped == some lane

/-- A round finds the cause of a suspect lane: a laser fade, after which the lane returns; a wrong lock; else its ring is out of range and is
relocked (R474). -/
def suspectCause (x : Nat × Nat) (s : State) : State :=
  let r := suspectRing x
  if !linkFibre x.1 && laneFading s x.2 then { s with light.faded := (s.light.faded ++ [x]).eraseDups }
  else if s.light.faded.contains x then
    { returnLane x.1 x.2 s with light.faded := s.light.faded.erase x, light.suspects := s.light.suspects.erase x }
  else if (s.light.wrong.any fun w => ringLink w == x.1 && w.lane == x.2) || relockWaits s r || s.light.swept.contains r then s
  else maintenance [x.1] [.relock r] s

def execRingRelock (ring : RingRef) (ownTone : Bool) (s : State) : Host.Outcome State Fault Refusal :=
  .next (relockStep ring ownTone s)

/-! ### Calibration (R477, R478) -/

/-- A calibration result lies within its limits (R477): power in 0.01 dBm with its current in 0.1 % of the factory maximum,
heater power in 0.01 mW with its coefficient in 0.1 GHz/K, offset in 0.01 mV. -/
def calibOk (s : State) (cls item : Nat) (value aux : Int) : Bool :=
  let near := fun (old : Option Int) (v lim : Int) => old.all fun o => decide ((v - o).natAbs ≤ lim.natAbs)
  if cls = 0 then
    decide (1800 ≤ value ∧ value ≤ 2100 ∧ 600 ≤ aux ∧ aux ≤ 1000) &&
    near (s.laser item).calCurrent aux (((s.laser item).calCurrent.getD 0) / 10)
  else if cls = 1 then
    decide (0 ≤ value ∧ value ≤ 2400 ∧ 100 ≤ aux ∧ aux ≤ 140) && near (Tab.find? item s.light.ringValue) value 300
  else if cls = 2 then decide (-4000 ≤ value ∧ value ≤ 4000) && near (Tab.find? item s.light.rxOffset) value 1000
  else true

/-- A laser that has passed its calibration: a rejected spare may be tried again (R463, R464). -/
def laserCalibrated (k : Nat) (value aux : Int) (s : State) : State :=
  s.updLaser k fun x =>
    { x with calPower := value, calCurrent := some aux, drive := if x.lit then 196 else x.drive, rejects := 0, state := if x.state = 7 then 5 else x.state }

/-- A ring's heater bias is calibrated in a lock window: in one begun whose act it is the act is taken; else one is placed, unless one
waits (R426, R477). -/
def ringGap (item : Nat) (s : State) : State × Bool :=
  let mine := fun (w : Window) => w.acts.contains (.calib item)
  if s.base.windows.any fun w => mine w && w.started then
    ({ s with base.windows := s.base.windows.map fun w => if w.started then { w with acts := w.acts.erase (.calib item) } else w }, true)
  else if s.base.windows.any mine then (s, false)
  else (maintenance [item / 32] [.calib item] s, false)

/-- Lasers whose drive calibration has moved to the next slack, and is still due there (R455). -/
def calibDue (s : State) : List Nat := s.light.calDue.filter fun k => (s.laser k).lit

/-- The gap that a class runs in (R477, R696): housekeeping slack for lasers, those at Advisory first, a lock window for rings, the time with
no grant held for a receiver, housekeeping slack for the classes that the manual names no other gap for. -/
def calibGap (cls item : Nat) (s : State) : State × Bool :=
  if cls = 0 then (s, inSlack s && (calibDue s == [] || (calibDue s).contains item))
  else if cls = 1 then ringGap item s
  else if cls = 2 then (s, (s.link (item / 32)).granted.isNone)
  else (s, inSlack s)

/-- What a calibration step that has run does (R477, R478). -/
def calibRun (cls item : Nat) (value aux : Int) (s : State) : State :=
  let ok := calibOk s cls item value aux
  let s := calibCount cls item ok s
  if cls = 0 then
    let s : State := { s with light.calDue := s.light.calDue.filter (· ≠ item) }
    if ok then laserCalibrated item value aux s
    else
      let s := s.updLaser item fun x => { x with rejects := x.rejects + 1 }
      if (s.laser item).rejects = 3 && (s.laser item).lit then laserMigrate item s else s
  else if cls = 1 then
    if ok then
      { s with light.ringValue := Tab.put item value s.light.ringValue, light.ringCoef := Tab.put item aux s.light.ringCoef, light.ringRejects := Tab.put item 0 s.light.ringRejects }
    else
      let n := Tab.getD 0 item s.light.ringRejects + 1
      let s : State := { s with light.ringRejects := Tab.put item n s.light.ringRejects }
      if n = 3 then suspectLane (item / 32) (item % 32) s else s
  else if cls = 2 then
    if ok then { s with light.rxOffset := Tab.put item value s.light.rxOffset } else s
  else s

/-- CALIBRATION_STEP, in its class's gap (R477, R478). Items are laser keys, or 32 × link + lane for rings and receivers. -/
def calibStep (cls item : Nat) (value aux : Int) (s : State) : State :=
  if 5 ≤ cls then s
  else
    let (s, runs) := calibGap cls item s
    if runs then calibRun cls item value aux s else s

def execCalibrationStep (cls item : Nat) (value aux : Int) (s : State) : Host.Outcome State Fault Refusal :=
  .next (calibStep cls item value aux s)

/-! ### The slew governor (R479 to R485) -/

/-- A stack has work for its meshes: a task runs on it or is ready for it, or packets stand in its mesh or before it. -/
def stackWork (s : State) (k : Nat) : Bool :=
  (busyCores s).any (fun c => c / 128 == k) || readyOrder s k != [] || !meshDrained s k ||
    ((stackCores k).any fun c => (s.core c).outbox != []) ||
    (List.range 32).any fun i => Tab.getD [] (4 * rxLink k (i / 4) + i % 4) s.base.queues != []

/-- A reach in one slot: with work on its stack it ungates by one step of eight, else it is gated (R481; notes/assumptions/180.md). -/
def reachSlot (work : Bool) (left : Option Nat) (x : Reach) : Reach :=
  { x with enable := if work then min 8 (x.enable + 1) else 0, left := left }

/-- The stack's power in a slot, in mW, as its activity counts and energy coefficients give it (R479). -/
def slotPower (k periods : Nat) (acts : Tab Nat) : Nat :=
  acts.foldl (fun a x => a + x.2 * Config.energy k x.1) (periods * Config.energy k 10)

/-- The meshes are to stop under R480: in PS2 and on its entry once the module is quiet, and on a stranded module (R485, R684, R749). -/
def meshesStop (s : State) : Bool :=
  decide (2 ≤ s.power.pstate) || stranded s || s.power.transition.any fun t => t.target == 2 && t.quiesced.isSome

/-- The estimate that the governor holds in a slot: within 384 mW of the last one (R480). A rise that it limits caps the reaches' issue and
slows a glide; a fall beyond the limit is filled with ballast, whose energy is kept in units of 1 mW × 16 ticks (R481, R482, R485); once
there is none left to burn, meshes that are to stop do. -/
def slotEstimate (demand : Nat) (stop : Bool) (x : Stack) : Stack :=
  if x.estimate + 384 < demand then
    { x with estimate := x.estimate + 384, riseSlots := x.riseSlots + 1
             change := x.change.map fun c => { c with slow := if c.phase = .glide ∨ c.phase = .wait then c.slow + 16 else c.slow } }
  else if demand + 384 < x.estimate then
    { x with estimate := x.estimate - 384, ballastSlots := x.ballastSlots + 1
             ballastEnergy := x.ballastEnergy + (x.estimate - 384 - demand) }
  else { x with estimate := demand, clocked := !stop }

/-- GOVERNOR_SLOT, once in each slot of 16 ticks (R479 to R482): `periods` are the slot's clocked core periods. The issues left to a reach
whose stack's rise is limited are a free value. -/
def governStep (k periods : Nat) (s : State) : State :=
  let x := s.stack k
  if x.powered && x.clocked && x.slotAt != some (s.ft / 16) then
    let demand := slotPower k periods x.acts
    let limited := decide (x.estimate + 384 < demand)
    let stop := meshesStop s
    let work := !stop && stackWork s k
    let n := s.freeCtr
    let reaches := (List.range 8).foldl (fun t r =>
      Tab.put r (reachSlot work (if limited then some (Config.free (n + r)) else none) (Tab.getD {} r t)) t) x.reaches
    ({ s with freeCtr := if limited then n + 8 else n } : State).updStack k fun x =>
      slotEstimate demand stop { x with reaches := reaches, slotAt := some (s.ft / 16), acts := [] }
  else s

def execGovernorSlot (stack : Nat) (periods : Nat) (s : State) : Host.Outcome State Fault Refusal :=
  .next (governStep stack periods s)

end Sys2Proof.Machine
end

