-- ==== Sys2Proof/Machine/Torus.lean ====
section
/-!
DEFINITION. The torus at work: packets from the fibres, remote writes and reads, the notices of a partition, joining and
leaving it, flights, and the time-master (chapter 11, R387 to R394).
-/

namespace Sys2Proof.Machine

/-! ### Notices and their acknowledgement (R564, R565) -/

/-- The wharf takes a CONTROL packet that it has received. -/
def takeControl (f : ControlIn → Bool) (s : State) : Option (ControlIn × State) :=
  (s.torus.control.find? f).map fun c => (c, { s with torus.control := s.torus.control.erase c })

/-- The wharf takes a routed notice of a module, and acknowledges it (R565). -/
def takeNotice (coord : Nat) (s : State) : Option State :=
  (takeControl (fun c => coordOf c.src == coordOf coord) s).map fun x => sendControl 6 x.1.no coord x.2

/-- NOTICE_RESEND: a notice not acknowledged for 2^12 ticks goes again, up to 8 times (R565). -/
def noticeStep (id : Nat) (s : State) : State :=
  match Tab.find? id s.torus.notices with
  | none => s
  | some x =>
    if s.ft < x.sentAt + 4096 then s
    else if 9 ≤ x.tries then { s with torus.notices := Tab.del id s.torus.notices }
    else
      routeNotice id x.what
        { s with torus.notices := Tab.put id { x with sentAt := s.ft, tries := x.tries + 1 } s.torus.notices }

def execNoticeResend (id : Nat) (s : State) : Host.Outcome State Fault Refusal := .next (noticeStep id s)

/-! ### Close requests, named cuts, joins (R388, R559 to R562) -/

/-- CLOSE_REQUEST_RECEIVE: the time-master takes a module's close request, acknowledges it, and names a cut (R388, R565). -/
def closeRequest (coord issued : Nat) (s : State) : State :=
  match takeNotice coord s with
  | none => s
  | some s => if s.time.master && s.torus.partition != 0 then nameMasterCut issued .named s else s

def execCloseRequestReceive (coord : Nat) (issued : Nat) (s : State) : Host.Outcome State Fault Refusal :=
  .next (closeRequest coord issued s)

/-- Takes a named cut: it applies to a member in step, and to one that joins by it; one that has passed cuts at its receipt
(R388, R560, R561). -/
def namedCut (c : Nat) (serial : Option Nat) (s : State) : State :=
  if s.torus.partition = 0 ∨ !(inStepNow s || (s.torus.joining && serial.isSome)) then s
  else
    takeCut (max c s.ft) serial .named
      (if c < s.ft then logEvent Ev.closeLate (leBytes 8 c ++ leBytes 8 s.ft) s else s)

def execNamedCutReceive (c : Nat) (serial : Option Nat) (s : State) : Host.Outcome State Fault Refusal :=
  .next (namedCut c serial s)

/-- JOIN_SEND: a module whose fabric time is LOCKED, and whose replay has committed, asks to join (R561). -/
def joinStep (s : State) : State :=
  if s.torus.partition = 0 || inStepNow s || s.torus.joining || s.time.mode != 2 || decide (3 ≤ s.power.pstate) || s.pound.replay ||
      s.pound.recovery.isSome || !s.pound.opened || stranded s then s
  else
    let s : State := { s with torus.joining := true, torus.left := false }
    if s.time.master then
      nameMasterCut s.ft .named { s with torus.joiners := s.torus.joiners ++ [(s.torus.coord, s.pound.committed)] }
    else if s.time.masterCoord.isSome then sendNotice (.join s.pound.committed) s
    else { s with torus.joining := false }

def execJoinSend (s : State) : Host.Outcome State Fault Refusal := .next (joinStep s)

/-- JOIN_RECEIVE: the time-master takes a module's JOIN, acknowledges it, and names the next cut and the serial it commits (R561, R565). -/
def joinReceive (coord serial : Nat) (s : State) : State :=
  match takeNotice coord s with
  | none => s
  | some s =>
    if s.time.master && s.torus.partition != 0 then
      nameMasterCut s.ft .named { s with torus.joiners := s.torus.joiners ++ [(coordOf coord, serial)] }
    else s

def execJoinReceive (coord serial : Nat) (s : State) : Host.Outcome State Fault Refusal := .next (joinReceive coord serial s)

/-- PARTITION_LEAVE: no path to the time-master for 2^20 ticks; a member is a module that has had one, in step or not (R562). -/
def leaveStep (s : State) : State :=
  if s.torus.partition != 0 && !s.torus.left && !s.time.master && s.time.lastTiming.any (fun t => decide (t + 1048576 ≤ s.ft)) then
    logEvent Ev.partitionLeave []
      { s with torus.left := true, torus.inStep := false, torus.behindAt := none, torus.joining := false }
  else s

def execPartitionLeave (s : State) : Host.Outcome State Fault Refusal := .next (leaveStep s)

/-! ### Flights (R427, R428, R566) -/

/-- The module an act of a flight is for. -/
def actCoord : FlightAct → Nat
  | .ports c _ _ | .setCircuit c _ _ _ _ | .releaseCircuit c _ _ _ => c

def actLink : FlightAct → Nat
  | .ports _ l _ | .setCircuit _ l _ _ _ | .releaseCircuit _ l _ _ => l

def actHere : FlightAct → WindowAct
  | .ports _ l d => .ports l d
  | .setCircuit _ l port sh p => .setCircuit l port sh p
  | .releaseCircuit _ l sh p => .releaseCircuit l sh p

/-- A maintenance window, not begun, that stands in a slot that a flight's window takes for one of its links. -/
def displaced (start : Nat) (links : List Nat) (w : Window) : Bool :=
  w.start == start && !w.started && w.flight.isNone && w.links.any links.contains

/-- Adds a flight's window; the maintenance that stood in its slot for one of its links goes to the first slot at least two ahead that
is clear (R422, R426, R427). -/
def addFlightWindow (start : Nat) (links : List Nat) (acts : List WindowAct) (id : Nat) (s : State) : State :=
  let moved := s.base.windows.filter (displaced start links)
  let s := addWindow start links acts (some id)
    { s with base.windows := s.base.windows.filter fun w => !displaced start links w }
  moved.foldl (fun s w => maintenance w.links w.acts s) s

/-- The module confirms to the sources of other modules' passages the window that sets their circuits here (R556). -/
def confirmPassages (acts : List FlightAct) (s : State) : State :=
  let l := (acts.filterMap fun a => match a with
    | .setCircuit _ _ _ _ p => if p / 65536 = s.torus.coord / 4096 then none else some p
    | .ports _ _ _ | .releaseCircuit _ _ _ _ => none).eraseDups
  l.foldl (fun s p => torusSend (.passageConfirm p) s) s

/-- Takes one window of a flight: this module's links change at its instant, or where it has passed in their next free slot
(R428, R566). EV_FLIGHT_LATE names the flight by its place among those held (notes/assumptions/185.md). -/
def takeWindow (id : Nat) (w : FlightWindow × Nat) (s : State) : State :=
  let mine := w.1.acts.filter fun a => coordOf (actCoord a) == coordOf s.torus.coord
  let links := (mine.map actLink).eraseDups
  let index := s.torus.flights.keys.findIdx (· == id)
  if mine = [] then s
  else
    let s := confirmPassages mine s
    if w.1.start < s.ft then
      addWindow (freeSlot s links 1) links (mine.map actHere) (some id)
        (logEvent Ev.flightLate (leBytes 1 index ++ leBytes 1 w.2) s)
    else addFlightWindow w.1.start links (mine.map actHere) id s

/-- Takes a flight, one of at most 64 (R427). -/
def takeFlight (id : Nat) (ws : List FlightWindow) (s : State) : State :=
  if Tab.has id s.torus.flights || 64 ≤ s.torus.flights.length then s
  else ws.zipIdx.foldl (fun s w => takeWindow id w s) { s with torus.flights := Tab.put id ws s.torus.flights }

/-- No held flight, and no window of this module, has claimed one of the acts' links in a slot (R427). -/
def flightClear (s : State) (acts : List FlightAct) (w : Nat) : Bool :=
  let mine := (acts.filter fun a => coordOf (actCoord a) == coordOf s.torus.coord).map actLink
  (s.torus.flights.all fun f => f.2.all fun x => x.start != w ||
    acts.all fun a => !x.acts.any fun b => coordOf (actCoord a) == coordOf (actCoord b) && actLink a == actLink b) &&
  slotClear s mine w

/-- Names the windows' slots: each the first after the last named, at least 2^13 ticks on, that no earlier flight has claimed
(R427, R566). -/
def nameSlots (s : State) : Nat → List (List FlightAct) → List FlightWindow
  | _, [] => []
  | k, acts :: t =>
    let n := (s.torus.flights.foldl (fun a f => a + f.2.length) 0) + s.base.windows.length + 1
    let slot := (((List.range n).map (· + k)).find? fun i => flightClear s acts (i * 1024)).getD (k + n)
    { start := slot * 1024, acts := acts } :: nameSlots s (slot + 1) t

/-- The time-master places a flight and floods it (R566). -/
def placeFlight (id : Nat) (windows : List (List FlightAct)) (s : State) : State :=
  let ws := nameSlots s (ceilDiv (s.ft + 8192) 1024) windows
  announce (.flight id ws) (takeFlight id ws s)

/-- FLIGHT_REQUEST at the time-master: 1 to 16 windows (R427, R566). -/
def flightStep (id : Nat) (windows : List (List FlightAct)) (s : State) : State :=
  if s.time.master && !Tab.has id s.torus.flights && s.torus.flights.length < 64 && windows != [] && windows.length ≤ 16 then
    placeFlight id windows s
  else s

def execFlightRequest (_coord id : Nat) (windows : List (List FlightAct)) (s : State) : Host.Outcome State Fault Refusal :=
  .next (flightStep id windows s)

/-! ### Partition notices and the time-master (R564, R567, R569) -/

/-- A link state learnt from a notice; passages over a port that is DOWN end (R539, R558, R564). -/
def takeLinkState (coord dir : Nat) (up : Bool) (s : State) : State :=
  let key := (coordOf coord, dir)
  let s : State := { s with torus.linkDown :=
      if up then s.torus.linkDown.erase key else (s.torus.linkDown ++ [key]).eraseDups }
  let past := fun (p : Passage) => ((routeCodes p.route).foldl (fun (a : Nat × Bool) d =>
      (stepCoord s a.1 d, a.2 || (a.1 == coordOf coord && d == dir))) (coordOf s.torus.coord, false)).2
  if up then s else losePassages past s

/-- PARTITION_NOTICE_RECEIVE: the wharf takes a neighbour's CONTROL packet; the notice it carries is taken once, passed on, and acted upon
(R564). -/
def noticeReceive (port id : Nat) (n : Notice) (s : State) : State :=
  match takeControl (fun c => c.port == port) s with
  | none => s
  | some (_, s) =>
    if s.torus.partition = 0 || s.torus.seen.contains id then s
    else
      let s := floodNotice (some port) id n s
      match n with
      | .cut c serial => namedCut c serial s
      | .flight f ws => takeFlight f ws s
      | .linkState c d up => takeLinkState c d up s
      | .master c => takeMaster c s

def execPartitionNoticeReceive (port : Nat) (id : Nat) (n : Notice) (s : State) : Host.Outcome State Fault Refusal :=
  .next (noticeReceive port id n s)

/-- MASTER_LOSS: no TIMING frame has named the current master for 2^17 ticks; the module enters HOLDOVER, and the eligible one of the
lowest index among those still connected announces itself. Whether an eligible module with an UP port is that one is a free value: it does not
know which others are eligible (R569; notes/assumptions/186.md). A module that no source has ever fed stays FREE (R311). -/
def masterLost (s : State) : State :=
  if s.torus.partition = 0 || s.time.master || s.ft < s.time.lastTiming.getD 0 + 131072 then s
  else
    let lost := s.time.masterCoord.isSome && s.time.mode != 0
    let s := if lost then setTimeMode 4 { s with time.correction := 0 } else s
    let (x, s) := drawBelow 2 { s with time.masterCoord := none, torus.nearest := [] }
    if s.torus.eligible && (x == 1 || !(List.range 6).any (portUp s)) then becomeMaster s else s

def execMasterLoss (s : State) : Host.Outcome State Fault Refusal := .next (masterLost s)

/-! ### Held writes (R389 to R393, R550, R551, R563) -/

/-- Held writes in the order of their senders' stamps. -/
def insertHeld (w : HeldWrite) : List HeldWrite → List HeldWrite
  | [] => [w]
  | x :: t => if earlier w.stamp x.stamp then w :: x :: t else x :: insertHeld w t

/-- Releases a held write into the open pound under a new stamp of its torus berth, and keeps it until that pound commits
(R391, R392). -/
def releaseHeldWrite (w : HeldWrite) (s : State) : State :=
  let k := s.torus.releaseNo
  sendWrites w.berth w.addr w.data (.released k)
    { s with torus.released := Tab.put k (w, openSerial s) s.torus.released, torus.releaseNo := k + 1 }

/-- A held write of a sender's pound. -/
def heldOf (sender n : Nat) (w : HeldWrite) : Bool := coordOf w.sender == coordOf sender && w.n == n

/-- TORUS_COMMIT_NOTICE: a sender's COMMIT(n, a) is taken, acknowledged, and acted upon (R391, R563, R565). -/
def commitNotice (sender n attempt : Nat) (s : State) : State :=
  match takeNotice sender s with
  | none => s
  | some s =>
    let mine := (s.torus.held.filter fun w => heldOf sender n w && w.attempt == attempt % 256).foldl (fun l w => insertHeld w l) []
    mine.foldl (fun s w => releaseHeldWrite w s)
      { s with torus.held := s.torus.held.filter fun w => !heldOf sender n w }

def execTorusCommitNotice (sender n attempt : Nat) (s : State) : Host.Outcome State Fault Refusal :=
  .next (commitNotice sender n attempt s)

/-- TORUS_ROLLBACK_NOTICE: a sender's ROLLBACK(n, a) is taken, acknowledged, and acted upon (R391, R563, R565). -/
def rollbackNotice (sender n attempt : Nat) (s : State) : State :=
  match takeNotice sender s with
  | none => s
  | some s => { s with torus.held := s.torus.held.filter fun w => !(heldOf sender n w && decide (w.attempt ≤ attempt % 256)) }

def execTorusRollbackNotice (sender n attempt : Nat) (s : State) : Host.Outcome State Fault Refusal :=
  .next (rollbackNotice sender n attempt s)

/-- The cut of a sender's pound, which a member in step cut with the partition (R388): that of the close in progress, or of a commit;
one of more than 2^20 ticks ago no longer counts. A pound that this module has not cut has no cut yet. -/
def senderCut (s : State) (n : Nat) : Option Nat :=
  match s.pound.closing with
  | some c => if n = c.serial then some c.cut else if n ≤ s.pound.committed then some (Tab.getD 0 n s.pound.cuts) else none
  | none => if n ≤ s.pound.committed then some (Tab.getD 0 n s.pound.cuts) else none

/-- HOLD_EXPIRY: writes held for 2^20 ticks after their arrival and their sender's cut are discarded (R393). Whether the
sender is in step with the partition, as this module then must be too, is a free value; a cut that is not the partition's is not known,
and whether it has been long enough ago is a free value (notes/assumptions/153.md). -/
def holdStep (sender n : Nat) (s : State) : State :=
  let (alike, s) := drawBelow 2 s
  let (x, s) := drawBelow 2 s
  let cut := if inPartition s && alike == 1 then senderCut s n else if x = 0 then some 0 else none
  let mine := s.torus.held.filter (heldOf sender n)
  match cut with
  | none => s
  | some c =>
    let last := mine.foldl (fun a w => max a w.since) c
    if mine = [] ∨ s.ft < last + 1048576 then s
    else
      logEvent Ev.holdExpired (leBytes 3 (coordOf sender) ++ leBytes 8 n)
        { s with torus.held := s.torus.held.filter fun w => !heldOf sender n w }

def execHoldExpiry (sender n : Nat) (s : State) : Host.Outcome State Fault Refusal := .next (holdStep sender n s)

/-- TORUS_WRITE_ACK: a memory berth acknowledges the writes it holds from a sender and serial (R550). -/
def writeAck (k sender n : Nat) (s : State) : State :=
  let count := (s.torus.held.filter fun w => heldOf sender n w && memBerthOf w.addr == k).length
  if count = 0 then s
  else
    let p : BasePacket :=
      { stamp := 0, addr := 0, kind := 6, vc := 2, destBerth := 16 + k, destUnit := 0, srcBerth := 16 + k, srcUnit := 0, len := 8
        tag := 0, payload := leBytes 8 count }
    sendTorusPacket (nativeOf s.torus.coord (16 + k) 0) (nativeOf sender (16 + k) 0) n 0 (attemptOf s n) p s

def execTorusWriteAck (berth sender n : Nat) (s : State) : Host.Outcome State Fault Refusal := .next (writeAck berth sender n s)

/-- TORUS_ACK_RECEIVE (R551). -/
def execTorusAckReceive (dest n count : Nat) (s : State) : Host.Outcome State Fault Refusal := .next (ackReceive dest n count s)

/-- TORUS_UNACKED_CHECK at C + 2,240 ticks (R551). -/
def unackedStep (s : State) : State :=
  match s.pound.closing with
  | none => s
  | some c =>
    if s.ft < c.cut + 2240 || c.verdict || rollsBack s c.serial then s
    else match s.torus.sent.find? fun x => x.n == c.serial && decide (x.acked < x.count) with
      | some x => raiseFault Ev.torusUnacked (leBytes 3 x.dest ++ leBytes 8 c.serial) s
      | none => s

def execTorusUnackedCheck (s : State) : Host.Outcome State Fault Refusal := .next (unackedStep s)

/-- REMOTE_READ_RESEND: an unanswered forwarded read goes again up to 3 times; then its task ends with
ST_TORUS_UNREACHABLE (R553). -/
def readResend (req : Nat) (s : State) : State :=
  match Tab.find? req s.mem.reads with
  | none => s
  | some r =>
    if r.tries = 0 || r.data.isSome || s.ft < r.sentAt + 4096 then s
    else if r.tries < 4 then
      match (bufAtPage s (pageOf r.addr)).bind fun b => b.remote.map fun f => (b, f) with
      | some (b, f) =>
        sendRead req r b f { s with mem.reads := Tab.put req { r with sentAt := s.ft, tries := r.tries + 1 } s.mem.reads }
      | none => { s with mem.reads := Tab.del req s.mem.reads }
    else
      let s : State := { s with mem.reads := Tab.del req s.mem.reads }
      match r.dest with
      | .xfer m _ | .op m _ => endGang m.slot m.task St.torusUnreachable s
      | .torus _ _ | .other => s

def execRemoteReadResend (req : Nat) (s : State) : Host.Outcome State Fault Refusal := .next (readResend req s)

/-! ### Packets from a fibre (R319, R540 to R542, R576) -/

/-- The class a transit packet takes for its next hop (R542). -/
def classFor (s : State) (port h cls : Nat) : Nat :=
  let x := axis s.torus.coord (h / 2)
  let wraps := if h % 2 = 0 then x + 1 == dimOf s (h / 2) else x == 0
  if wraps then 1 else if h / 2 ≠ port / 2 then 0 else cls

def routeError (port : Nat) (p : TorusPacket) (s : State) : State :=
  logEvent Ev.routeError (leBytes 1 port ++ leBytes 3 p.src ++ leBytes 3 p.dest) (countPort port p.base.vc 9 1 s)

/-- Delivers a packet at this module, across the base to its DEST's berth and core: a device write is restamped by the torus berth at its credit
grant, a read of device memory gets a number of this module, read data completes its request, which data of no bytes refuses, a message and a write to another berth take their
new stamp before they leave, and the others go on as they are (R319, R361, R389, R523, R540, R549, R552; notes/assumptions/182.md). -/
def deliverPacket (port : Nat) (p : TorusPacket) (s : State) : State :=
  let b := p.dest / 128 % 32
  let t := 24 + port
  if p.base.kind = 0 ∧ 16 ≤ b ∧ b < 24 then
    let w : WriteReq :=
      { addr := p.base.addr, data := p.base.payload, berth := t, stamp := none, parts := 1
        orig := .torus (coordOf p.src) p.pound p.attempt p.base.stamp }
    let (id, s) := newWrite w s
    torusHop (.write id) t b 0 { p with base := { p.base with stamp := 0 } } s
  else if p.base.kind = 1 ∧ 16 ≤ b ∧ b < 24 then
    let r : ReadReq := { addr := p.base.addr, len := leField p.base.payload 0 2, berth := t, dest := .torus p.src p.base.tag, sentAt := s.ft }
    let id := s.mem.readNo
    torusHop .none t b 0 { p with base := { p.base with tag := id } }
      { s with mem.reads := Tab.put id r s.mem.reads, mem.readNo := id + 1 }
  else if p.base.kind = 2 then
    match Tab.find? p.base.tag s.mem.reads with
    | some r =>
      if r.tries ≠ 0 ∧ r.data.isNone then
        torusHop .none t (r.core / 128) (r.core % 128) p
          { s with mem.reads := Tab.put p.base.tag { r with data := some p.base.payload, poisoned := p.base.payload == [] } s.mem.reads }
      else s
    | none => torusHop .none t b (p.dest % 128) p s
  else if b = t then s
  else if p.base.kind = 0 ∨ p.base.kind = 3 then relay t p s
  else torusHop .none t b (p.dest % 128) p s

/-- A packet stands at the front of its channel's and class's half of a fibre receive link's basin (R415, R432, R542, R543). -/
def fibreHolds (s : State) (l : Nat) (p : TorusPacket) : Bool :=
  ((Tab.getD [] (4 * l + p.base.vc % 4) s.base.queues).find? fun q => (torusOf q.1).cls == p.cls % 2).any fun q => q.1 == torusBase p

/-- The torus berth takes a packet out of a fibre receive link's basin: its units return to the far sender (R408, R433, R543). -/
def fibreTake (l : Nat) (p : TorusPacket) (s : State) : State :=
  let vc := p.base.vc % 4
  let n := packetUnits (torusBase p)
  let s := basinGive l vc n
    { s with base.queues := Tab.modify (4 * l + vc) (fun q => q.eraseP fun x => x.1 == torusBase p) s.base.queues }
  s.updLink (l - 8) fun x => { x with creditsDue := Tab.put vc (Tab.getD 0 vc x.creditsDue + n) x.creditsDue }

/-- FIBRE_PACKET_RECEIVE: the torus berth takes a packet that a fibre link has received (R540). -/
def fibreStep (port link : Nat) (p : TorusPacket) (s : State) : State :=
  let l := fibreRx port (link % 8)
  if !linkUp s l || !fibreHolds s l p then s
  else
    let s := fibreTake l p (countPort port p.base.vc 3 1 (countPort port p.base.vc 1 (fibreFlits p) s))
    let h := hopCode p.route p.hop
    if h < 6 ∧ h ≠ port then
      if portUp s h then
        torusHop .none (24 + port) (24 + h) 0 { p with hop := p.hop + 1, cls := classFor s port h p.cls }
          (countPort port p.base.vc 4 1 s)
      else countPort h p.base.vc 8 1 s
    else if h = 6 ∧ coordOf p.dest = coordOf s.torus.coord then deliverPacket port p s
    else routeError port p s

def execFibrePacketReceive (port link : Nat) (p : TorusPacket) (s : State) : Host.Outcome State Fault Refusal :=
  .next (fibreStep port link p s)

/-! ### Training of fibre links (R532, R533) -/

/-- TORUS_LINK_TRAIN: this module's TRAIN frames go out, and the far end's say whether the link comes UP (R532, R533); a port whose fibre
sources are dark trains nothing (R570). -/
def trainStep (port link partition coord dir : Nat) (s : State) : State :=
  let pair := [fibreTx port (link % 8), fibreRx port (link % 8)]
  if dimOf s (port / 2) = 1 || !((List.range 17).any fun j => laneLit s (4 + port) j) || (s.group (4 + port)).down || linkUp s (fibreRx port (link % 8)) || s.base.reset.isSome then s
  else
    let ok := farOk s port partition coord dir
    let s := torusSend (.train (fibreTx port (link % 8)) s.torus.partition s.torus.coord port)
      (s.updTport port fun t =>
        { t with far := Tab.put (link % 8) (partition, coord, dir) t.far, farPort := dir, farCoord := coordOf coord })
    if ok then setLinks pair 2 s
    else
      logEvent Ev.torusMiscable (leBytes 1 port ++ leBytes 2 partition ++ leBytes 3 coord ++ leBytes 1 dir) (setLinks pair 1 s)

def execTorusLinkTrain (port link : Nat) (partition coord dir : Nat) (s : State) : Host.Outcome State Fault Refusal :=
  .next (trainStep port link partition coord dir s)

/-! ### Buffers that other modules name (R547, R644) -/

/-- REMOTE_BUFFER_REQUEST: another module's firmware asks for a buffer to be marked busy, or releases its mark. -/
def remoteRequest (coord : Nat) (req : RemoteReq) (s : State) : State :=
  match req with
  | .confirm h size =>
    match bufOf s h with
    | some b =>
      if b.remote.isNone && decide (size ≤ b.size) then
        torusSend (.answer coord true (bufBase b))
          { s with mem.buffers := Tab.put (h % 2 ^ 18) { b with marks := b.marks + 1 } s.mem.buffers }
      else torusSend (.answer coord false 0) s
    | none => torusSend (.answer coord false 0) s
  | .release h =>
    match bufOf s h with
    | some b => { s with mem.buffers := Tab.put (h % 2 ^ 18) { b with marks := b.marks - 1 } s.mem.buffers }
    | none => s

def execRemoteBufferRequest (coord : Nat) (req : RemoteReq) (s : State) : Host.Outcome State Fault Refusal :=
  .next (remoteRequest coord req s)

end Sys2Proof.Machine
end

