-- ==== Sys2Proof/Machine/PowerOps.lean ====
section
/-!
DEFINITION. Power states and their transitions (R395, R515, R621, R684 to R691, R787): what stops and starts, the state a
transition leaves, and the thermal regions that RESUME and a trip look at (R697, R699).
-/

namespace Sys2Proof.Machine

/-! ### What stops and starts (R102, R484, R684, R687) -/

/-- A core without power: its scratch port, its lighter and its matrix engine hold nothing; its counters stay (R102, R837). -/
def coreOff (x : Core) : Core :=
  { x with deferred := none, run := 0, lastRead := [], lighterRead := [], operandA := [], operandB := [], outbox := [] }

/-- A router without power holds no flit; its counters stay (R837, R841). -/
def routerOff (q : Router) : Router :=
  { forwarded := q.forwarded, packets := q.packets, stalls := q.stalls, highWater := q.highWater }

/-- Stack power switches open: no stack runs, and no scratch holds data (R102). -/
def stacksOff (s : State) : State :=
  { s with
    stk.dies := s.stk.dies.mapVals fun _ x =>
      { x with powered := false, clocked := false, change := none, step := 0, busyGroups := [], estimate := 0, quiet := 0
               reaches := x.reaches.mapVals fun _ r => { r with enable := 0 } }
    stk.cores := s.stk.cores.mapVals fun _ x => coreOff x
    stk.scratch := [], stk.badBytes := [], stk.routers := s.stk.routers.mapVals fun _ q => routerOff q, stk.chambers := [] }

/-- A stack whose power switches may close: its PLL has not failed for good at boot and it is powered off. -/
def stackOn (k : Nat) (s : State) : State :=
  s.updStack k fun x => { x with powered := true, clocked := true, pllOk := true, step := 0, ps3Off := false, ftCopy := s.ft }

/-- The stacks that PS3 unpowers still count for the binding of tasks (R888). -/
def markDark (dark : Bool) (s : State) : State :=
  { s with stk.dies := s.stk.dies.mapVals fun _ x => { x with ps3Off := dark && x.powered } }

/-- The stacks that come up: those that have a core left (R728, R818). -/
def usableStacks (s : State) : List Nat := (List.range 16).filter fun k => unfenced s k ≠ []

/-- Lasers and fibre sources go dark, and every link with them (R684, R687). -/
def lightOff (s : State) : State :=
  setLinks ((List.range 512) ++ (List.range 96).map (· + 512)) 0
    { s with light.lasers := s.light.lasers.mapVals fun _ x => { x with lit := false } }

/-- A laser that lights a lane when its supply is on (R486). -/
def servesLane (x : Laser) : Bool := x.serves != 31 && (x.state == 0 || x.state == 1 || x.state == 2 || x.state == 6)

/-- Lights the lasers of the groups a test selects. -/
def lightOn (p : Nat → Bool) (s : State) : State :=
  { s with light.lasers := s.light.lasers.mapVals fun k x => if p (groupOfKey k) && servesLane x then { x with lit := true } else x }

/-- The base links of the banks that are not down come UP (R447). -/
def baseLinksUp (s : State) : State :=
  let dark := darkLinks s
  setLinks ((List.range 512).filter fun l => !dark.contains l) 2 s

/-- A member of a partition leaves it, in step or not (R687). -/
def leavePartition (s : State) : State :=
  if s.torus.partition != 0 && !s.torus.left && (s.time.master || s.torus.inStep || s.torus.joining || s.time.lastTiming.isSome) then
    logEvent Ev.partitionLeave []
      { s with torus.inStep := false, torus.behindAt := none, torus.joining := false, torus.left := true, time.master := false }
  else s

/-- The open pound is discarded, with every version that is not committed (R395, R688). -/
def discardPound (s : State) : State :=
  let drop := fun (x : Shadow) => decide (s.pound.committed < x.tag) || x.discarded
  let gone := (s.mem.shadows.filter drop).map Shadow.frame ++ s.mem.preImages.map PreImage.frame
  let s := tablesUpdate (releaseFrames gone
    { s with mem.shadows := s.mem.shadows.filter fun x => !drop x, mem.preImages := [] })
  { s with
    mem.writes := []
    mem.berths := s.mem.berths.mapVals fun _ b => { b with issued := [], done := [] }
    time.issuers := s.time.issuers.mapVals fun _ i =>
      { i with held := i.held.filter fun h => match h with
          | .event _ | .reply _ | .strand | .pauseStart | .pauseStop _ _ _ => true
          | _ => false }
    pound.opened := false, pound.cutAt := none, pound.cutCause := none, pound.cutSerial := none, pound.nextCut := none
    pound.nextJoin := none, pound.closing := none, pound.recovery := none, pound.fails := 0, pound.replay := false
    pound.taskSet := [], pound.closingSet := [], pound.poolHigh := false, pound.poolLatch := false, pound.attempts := []
    torus.held := [], torus.released := [], torus.sent := [], lk.named := none }

/-- The pound after the last commit opens (R346, R347). -/
def openPound (s : State) : State :=
  let len := leNat (itemStored s 0x0002) * 4096
  { s with pound.opened := true, pound.length := len, pound.deadline := s.ft + len }

/-- Whether a job's reply can no longer come once device memory, buffers and kernels are gone. -/
def lostJob (k : JobKind) : Bool :=
  match k with
  | .lowering _ _ | .graphCheck _ _ _ | .rbuf _ _ _ _ _ | .passage _ | .atCommit _ _ _ _ | .attestWrite _ _ _ => true
  | _ => false

/-- Ends the jobs a test selects with a status. -/
def endJobs (p : JobKind → Bool) (status : Nat) (s : State) : State :=
  (s.work.jobs.filter fun j => p j.2.kind).foldl (fun s j => endJob j.1 status [] s) s

/-- Sessions of a test are told to close with a status, by a sequenced CLOSE (R595, R621, R669). -/
def closeSessions (p : Nat → Session → Bool) (status : Nat) (s : State) : State :=
  { s with net.sessions := s.net.sessions.mapVals fun i ss =>
      if ss.st == .opened && p i ss then { ss with closeStatus := some (ss.closeStatus.getD status) } else ss }

/-- Device memory, buffers, kernels and graphs go, with the barges (R621, R688). Handle generations stay. -/
def enterStandby (s : State) : State :=
  let s := killGraphs St.powerState s
  let s := endBarges (fun _ => true) St.powerState s
  let s := endJobs lostJob St.powerState (discardPound s)
  let s : State :=
    { s with
      mem.buffers := [], mem.freeing := [], mem.base := [], mem.shadows := [], mem.pins := [], mem.preImages := []
      mem.poison := [], mem.wrong := [], mem.frames := [], mem.retiring := [], mem.reads := []
      mem.berths := s.mem.berths.mapVals fun _ b => { b with selfRefresh := false, tableA := [], tableB := [] }, work.relower := []
      work.kernels := [], work.msgs := [], torus.passages := [] }
  leavePartition (lightOff (stacksOff (markDark false s)))

/-- Sessions of port B close once PS4 is reached, after the reply that goes out on one of them (R621, R662). -/
def closePortB (s : State) : State := closeSessions (fun _ ss => ss.port == .b) St.powerState s

/-! ### Transitions (R684 to R691, R787) -/

/-- The transitions of R690. -/
def permitted (a b : Nat) : Bool := decide (b ≤ 4 ∧ a ≤ 4 ∧ a ≠ b) && !(a == 4 && b == 3)

/-- Schedules steps on every stack (R330). -/
def scheduleAll (s : State) : State := (List.range 16).foldl (fun s k => scheduleStep k s) s

/-- A transition begins: the levels its target refuses are lowered (R787), and what R690 puts first begins. -/
def startTransition (target cap : Nat) (job : Option Nat) (cause : PowerCause) (s : State) : State :=
  let from' := s.power.pstate
  let t : Transition :=
    { source := from', target := target, cap := cap, job := job, since := s.ft, cause := cause
      commitNeeded := decide (target = 3) && s.pound.opened }
  let s : State := { s with power.transition := some t }
  let s := if 3 ≤ target then lowerAllDebug 1 6 s else s
  if target = 4 then enterStandby s
  else if from' = 4 then
    reselect
      { s with boot.phase := 4, boot.fromPs4 := true, boot.elapsedMs := 0, boot.phase5 := false, boot.phase6 := false
               pound.committed := 0, pound.kstamp := 0, pound.lastCut := 0, pound.lastK := 0, pound.cuts := [] }
  else if from' ≤ 1 ∧ target ≤ 1 then scheduleAll s
  else quiesceCheck s

/-- Every powered stack stands at the step that R330 gives, as far as its bus lets it (R683, R690). -/
def stepsSettled (s : State) : Bool :=
  (List.range 16).all fun k =>
    let x := s.stack k
    !x.powered || !x.pllOk || (x.change.isNone && (x.step == stepLimit s k ||
      (decide (x.step < stepLimit s k) && s.power.avsFault.contains (pairOf k))))

/-- What a transition waits for has come about. -/
def transitionOver (s : State) (t : Transition) : Bool :=
  if t.source = 4 then ready s
  else if t.target = 4 then true
  else if t.target = 3 then t.quiesced.isSome && !t.commitNeeded && s.pound.closing.isNone && s.pound.recovery.isNone
  else if t.target = 2 ∧ t.source ≤ 1 then t.quiesced.isSome && (List.range 16).all fun k => !(s.stack k).powered || !(s.stack k).clocked
  else if t.source ≤ 1 then stepsSettled s
  else true

/-- PS3 is left: the packages leave self-refresh and run a tracking step, lasers and stacks come up at step 0, and the open pound's deadline counts anew (R515,
R690; notes/assumptions/94.md). -/
def leaveDark (s : State) : State :=
  let s := trackAll (baseLinksUp (lightOn (fun _ => true) s))
  (usableStacks s).foldl (fun s k => stackOn k s)
    { s with mem.berths := s.mem.berths.mapVals fun _ b => { b with selfRefresh := false }
             pound.deadline := s.ft + s.pound.length }

/-- PS3 is entered: barges end, every committed version is folded, both page-table copies are written, the packages take all-bank refresh and go into self-refresh, lasers and stacks stop; the pound
that opened at the commit stays open (R395, R515, R621, R687, R889). -/
def enterDark (s : State) : State :=
  let s := endBarges (fun _ => true) St.powerState s
  let s := (List.range 8).foldl (fun s k =>
    (tableUpdate k ((List.range s.mem.shadows.length).foldl (fun s _ => foldStep k s) s)).updMemBerth k fun b =>
      { tablesAlike b with allBank := some s.ft, selfRefresh := true }) s
  leavePartition (lightOff (stacksOff (markDark true s)))

/-- The clock meshes of the powered stacks run, or stand (R684). -/
def meshes (run : Bool) (s : State) : State :=
  { s with stk.dies := s.stk.dies.mapVals fun _ x => if x.powered && x.pllOk then { x with clocked := run } else x }

/-- The target state is in force: EV_POWER_STATE is logged and the request answered (R690, R691). -/
def finishTransition (t : Transition) (s : State) : State :=
  let s := if t.source = 3 ∧ t.target < 3 then leaveDark s else s
  let s := if t.target = 3 then enterDark s else s
  let s := if t.target < 3 then meshes (decide (t.target < 2)) s else s
  let code := match t.cause with
    | .host => 0
    | .trip => 1
    | .boot => 2
  let s : State :=
    { s with power.pstate := t.target, power.cap := if t.target = 1 then t.cap else s.power.cap
             power.idleBias := decide (t.target = 2), power.transition := none, boot.fromPs4 := false }
  let s := logEvent Ev.powerState (leBytes 1 t.source ++ leBytes 1 t.target ++ leBytes 1 code) s
  let s := if t.target ≤ 1 then scheduleAll s else s
  let s := match t.job with
    | some j => endJob j St.ok [] s
    | none => s
  if t.target = 4 then reselect (closePortB s) else s

/-- POWER_TRANSITION_DONE. -/
def transitionStep (s : State) : State :=
  let s := quiesceCheck s
  match s.power.transition with
  | none => s
  | some t => if transitionOver s t && s.power.tripAt.isNone then finishTransition t s else s

def execPowerTransitionDone (s : State) : Host.Outcome State Fault Refusal := .next (transitionStep s)

/-! ### Thermal regions (R697, R699, R702, R704, R709): readings in 1/8 °C -/

/-- The 29 regions: 0 to 15 compute dies, 16 to 19 base quadrants, 20 wharf, 21 to 28 memory berths. Their sensors. -/
def regionSensors (r : Nat) : List Nat :=
  if r < 16 then (List.range 8).map (· + 8 * r)
  else if r < 20 then (List.range 16).map (· + (256 + 16 * (r - 16)))
  else if r = 20 then (List.range 4).map (· + 320)
  else (List.range 6).map (· + (324 + 6 * (r - 21)))

/-- The class of a region (R708), and its index. -/
def regionClass (r : Nat) : Nat := if r < 16 then 0 else if r < 20 then 1 else if r = 20 then 2 else 3
def regionIndex (r : Nat) : Nat := if r < 16 then r else if r < 20 then r - 16 else if r = 20 then 0 else r - 21

/-- The thresholds of R699. -/
def throttleAt (r : Nat) : Int := 8 * [97, 80, 95, 95].getD (regionClass r) 0
def tripLimit (r : Nat) : Int := 8 * [108, 90, 105, 105].getD (regionClass r) 0
def resumeBelow (r : Nat) : Int := 8 * [85, 70, 85, 85].getD (regionClass r) 0
def treatedAs (r : Nat) : Int := 8 * [102, 85, 100, 100].getD (regionClass r) 0

/-- A sensor found broken. -/
def isBroken (s : State) (c : Nat) : Bool := Tab.has c s.power.broken

/-- Broken sensors of a region. -/
def brokenIn (s : State) (r : Nat) : List Nat := (regionSensors r).filter (isBroken s)

/-- A sensor's treated reading (R703). -/
def treated (s : State) (r c : Nat) : Int := if isBroken s c then treatedAs r else Tab.getD 0 c s.power.samples

/-- The channel of a region's highest treated reading, the lowest where several agree, and that reading. -/
def hottest (s : State) (r : Nat) : Nat × Int :=
  (regionSensors r).foldl (fun a c => if a.2 < treated s r c then (c, treated s r c) else a)
    ((regionSensors r).headD 0, treated s r ((regionSensors r).headD 0))

/-- A region stops RESUME: two broken sensors, or a sensor that is not broken at or above the resume limit (R709). -/
def resumeBlocked (s : State) (r : Nat) : Bool :=
  decide (2 ≤ (brokenIn s r).length) ||
    ((regionSensors r).filter fun c => !isBroken s c).any fun c => decide (resumeBelow r ≤ Tab.getD 0 c s.power.samples)

end Sys2Proof.Machine
end

