-- ==== Sys2Proof/Machine/MailConfig.lean ====
section
/-!
DEFINITION. Mail of the torus, configuration, calibration, power, reset, update, security and debug (R535, R554 to R557,
R643, R644, R656 to R673, R763 to R769, R784 to R787).
-/

namespace Sys2Proof.Machine

/-! ### Endpoints and remote buffers (R535, R546, R547, R643, R644) -/

/-- The native address an ENDPOINT names, or the refusal (R531, R535, R643). -/
def endpointAddr (s : State) (e : Nat) : Nat ⊕ Nat :=
  let flat := Tab.getD 0 (e % 65536) s.boot.config.flat
  if e.testBit 31 ∧ !flat.testBit 31 then .inl St.endpoint
  else
    let a := (if e.testBit 31 then flat else e) % 2 ^ 24
    if addrOk s a then .inr a else .inl St.route

/-- A route that leaves this module (R539). -/
def routeAway (s : State) (a : Nat) : Option (List Nat) := (routeTo s a).filter fun r => r ≠ []

/-- The refusal of a command whose module no route leads to: its path is no valid route, or it has none (R538, R539). -/
def routeRefusal (s : State) (a : Nat) : Nat := if (torusPath s a).any fun r => 24 < r.length then St.route else St.torusUnreachable

/-- The refusal of RBUF_CREATE before it asks, or the remote module's coordinate. -/
def rbufCheck (s : State) (m : Bytes) : Nat ⊕ Nat :=
  let p := leField m 0x18 2
  match endpointAddr s (leField m 8 4) with
  | .inl st => .inl st
  | .inr a =>
    if p ≠ 0 ∧ !((Tab.find? p s.torus.passages).any fun x => x.opened && !x.closing && coordOf x.dest == coordOf a) then
      .inl St.passage
    else if (routeAway s a).isNone then .inl (routeRefusal s a)
    else .inr (coordOf a)

def mailRbufCreate (src : MailSrc) (corr : Nat) (m : Bytes) (s : State) : State :=
  orRefuse src 0x12 corr (rbufCheck s m) (fun c s =>
    torusSend (.ask c (leField m 0x0C 4) (leField m 0x10 8))
      (addJob (.rbuf c (leField m 0x0C 4) (leField m 0x10 8) (leField m 0x18 2) 0) src 0x12 corr s)) s

/-- RBUF_CREATE: the remote module's firmware is asked (R644). -/
def execRbufCreate (src : MailSrc) (s : State) : Host.Outcome State Fault Refusal :=
  .next (mailStep src 0x12 (mailRbufCreate src) s)

/-- RBUF_REMOTE_ANSWER: the remote module has confirmed and marked its buffer, or has not; where the pages do not fit here the
mark is released (R644). -/
def rbufAnswer (job : Nat) (confirmed : Bool) (base : Nat) (s : State) : State :=
  match (Tab.find? job s.work.jobs).map Job.kind with
  | some (.rbuf c h size p _) =>
    if !confirmed then endJob job St.bufferHandle [] s
    else match createBuffer size (some (c, h, base, p)) s with
      | .inl st => endJob job st [] (torusSend (.release c h) s)
      | .inr (hd, b, s) => endJob job St.ok (leBytes 4 hd ++ leBytes 4 0 ++ leBytes 8 b) s
  | _ => s

def execRbufRemoteAnswer (job : Nat) (confirmed : Bool) (base : Nat) (s : State) : Host.Outcome State Fault Refusal :=
  .next (rbufAnswer job confirmed base s)

/-- RBUF_CREATE_TIMEOUT: no answer within 2^15 ticks (R644). -/
def rbufTimeout (job : Nat) (s : State) : State :=
  match Tab.find? job s.work.jobs with
  | some { kind := .rbuf _ _ _ _ _, since := t, .. } =>
    if t + 32768 ≤ s.ft then endJob job St.torusUnreachable [] s else s
  | _ => s

def execRbufCreateTimeout (job : Nat) (s : State) : Host.Outcome State Fault Refusal := .next (rbufTimeout job s)

/-! ### Flat identifiers and configuration (R534, R656, R659, R821, R822) -/

/-- Work whose reply waits for the flash queue: the write of a record that ends with it. -/
def flashWrite (src : MailSrc) (code corr kind : Nat) (d : RecordData) (s : State) : State :=
  let n := s.work.jobNo
  flashAdd (.write kind d (.reply n)) (addJob .flash src code corr s)

/-- The entries of FLAT_SET. -/
def flatEntries (m : Bytes) : List Nat := (List.range (leField m 0x0A 2)).map fun i => leField m (0x10 + 4 * i) 4

def mailFlatSet (src : MailSrc) (corr : Nat) (m : Bytes) (s : State) : State :=
  let first := leField m 8 2
  let l := flatEntries m
  if 65536 < first + l.length then answer src 0x38 corr St.indexRange [] s
  else if l.any fun e => e.testBit 31 && !addrOk s (e % 2 ^ 24) then answer src 0x38 corr St.route [] s
  else
    let c := latestConfig s
    let flat := l.zipIdx.foldl (fun t e => Tab.putD 0 (first + e.2) e.1 t) c.flat
    flashWrite src 0x38 corr 7 (.config { c with flat := flat }) s

/-- FLAT_SET (R534, R656, R822). -/
def execFlatSet (src : MailSrc) (s : State) : Host.Outcome State Fault Refusal :=
  .next (mailStep src 0x38 (mailFlatSet src) s)

/-- The items of R821. -/
def configItems : List Nat :=
  [0x0001, 0x0002, 0x0003, 0x0004, 0x0010, 0x0011, 0x0100, 0x0101, 0x0102, 0x0103, 0x0104, 0x0105] ++
  [0x0110, 0x0111, 0x0112, 0x0113, 0x0114, 0x0115, 0x0200, 0x0201, 0x0202, 0x0300]

/-- The native address of PARTITION lies inside its dimensions, with berth and core 0 (R529 to R531). -/
def partitionOk (v : Bytes) : Bool :=
  leNat v == 0 ||
    (List.range 3).all fun d =>
      let n := leField v (2 + d) 1
      decide (1 ≤ n ∧ n ≤ 16 ∧ axis (leField v 5 3) d < n ∧ leField v 5 3 % 4096 = 0)

/-- A length and value that an item permits (R821). -/
def valueOk (item : Nat) (v : Bytes) : Bool :=
  let n := v.length
  let x := leNat v
  let f := item % 16
  if item = 0x0001 then n == 1 && decide (1 ≤ x ∧ x ≤ 4)
  else if item = 0x0002 then n == 4 && decide (2 ≤ x ∧ x ≤ 4096)
  else if item = 0x0003 then n == 1 && decide (x % 2 = 1 ∧ x < 64)
  else if item = 0x0004 then n == 4 && decide (bitsOf x 7 2 = 0 ∧ bitsOf x 31 15 = 0)
  else if item = 0x0010 then n == 8 && partitionOk v
  else if item = 0x0011 ∨ item = 0x0201 ∨ item = 0x0300 then n == 1 && decide (x ≤ 1)
  else if item = 0x0200 then n == 2 && x != 0
  else if item = 0x0202 then n == 20 && decide (leField v 18 1 ≤ 1 ∧ leField v 19 1 = 0)
  else if f = 0 then n == 1 && decide (x ≤ 1)
  else if f = 1 then n == 6
  else if f = 2 then n == 2 && decide (x < 0x8000)
  else if f = 3 then n == 1 && decide (bitsOf x 6 3 = 0)
  else if f = 4 then n == 4
  else n == 16

def mailConfigRead (src : MailSrc) (corr : Nat) (m : Bytes) (s : State) : State :=
  let item := leField m 8 2
  if configItems.contains item then
    let v := itemStored s item
    answer src 0x40 corr St.ok (leBytes 2 item ++ leBytes 2 v.length ++ leBytes 4 0 ++ v) s
  else answer src 0x40 corr St.configItem [] s

/-- CONFIG_READ: the stored value (R659, R822). -/
def execConfigRead (src : MailSrc) (s : State) : Host.Outcome State Fault Refusal :=
  .next (mailStep src 0x40 (mailConfigRead src) s)

def mailConfigWrite (src : MailSrc) (corr : Nat) (m : Bytes) (s : State) : State :=
  let item := leField m 8 2
  let v := (m.drop 0x10).take (leField m 0x0A 2)
  if !configItems.contains item then answer src 0x41 corr St.configItem [] s
  else if !valueOk item v then answer src 0x41 corr St.configValue [] s
  else if (item = 0x0201 ∨ item = 0x0300) ∧ lifeCycle s = 2 then answer src 0x41 corr St.lifecycle [] s
  else
    let c := latestConfig s
    flashWrite src 0x41 corr 7 (.config { c with items := Tab.putD (configDefault item) item v c.items }) s

/-- CONFIG_WRITE (R659, R821, R822). -/
def execConfigWrite (src : MailSrc) (s : State) : Host.Outcome State Fault Refusal :=
  .next (mailStep src 0x41 (mailConfigWrite src) s)

/-! ### Passages (R554 to R557, R657, R658) -/

/-- The shares on a transmit link: circuits set, and those of windows and of this module's passages still to come (R430). -/
def linkShare (s : State) (l : Nat) : Nat :=
  let inWindow := fun (w : Window) => (w.acts.map fun a => match a with
    | .setCircuit k _ sh _ => if k = l ∧ !w.started then sh else 0
    | _ => 0).sum
  let asked := fun (x : Nat × Passage) =>
    if Tab.has (flightId s x.1 false) s.torus.flights || x.2.opened || !(passageLinks x.2).contains l then 0 else x.2.share
  (s.link l).share + (s.base.windows.map inWindow).sum + (s.torus.passages.map asked).sum

/-- The shares on a receive link of a torus berth: its memory berth's and its neighbour torus berth's (R398, R555). -/
def recvShare (s : State) (dir k : Nat) : Nat :=
  let b := 24 + dir
  linkShare s (txLink (16 + k) dir) +
    (if k ≤ 5 ∧ k ≠ dir then linkShare s (txLink (24 + k) ((otherTorus (24 + k)).findIdx (· == b))) else 0)

/-- A passage would break R430 on a link of this module. -/
def circuitFull (s : State) (dir link share : Nat) : Bool :=
  decide (12 < linkShare s (fibreTx dir link) + share) ||
    (List.range 8).any fun k => decide (12 < recvShare s dir k + share)

/-- The passages that this module holds, as circuits name them: its own, and those of which a circuit stands here or is to come (R557). -/
def heldPassages (s : State) : List Nat :=
  (s.torus.passages.keys.map (passageKey s) ++ s.base.links.flatMap (fun x => x.2.circuits.map Circuit.passage) ++
    s.base.windows.flatMap (fun w => w.acts.filterMap fun a => match a with
      | .setCircuit _ _ _ p => some p
      | _ => none)).eraseDups

/-- The refusal of PASSAGE_OPEN, or the destination and its route (R557, R657). What the other modules of the route say is a free value: 1 that a
link has no share left, 2 that a module holds 256 passages. -/
def passageCheck (s : State) (far : Nat) (m : Bytes) : Nat ⊕ (Nat × List Nat) :=
  match endpointAddr s (leField m 8 4) with
  | .inl st => .inl st
  | .inr a =>
    let r := (routeAway s a).getD []
    if !inPartition s then .inl St.partition
    else if r ≠ [] ∧ (far = 1 ∨ circuitFull s (r.headD 0) (leField m 0x0C 1) (leField m 0x0D 1)) then .inl St.circuitLimit
    else if 256 ≤ (heldPassages s).length ∨ (r ≠ [] ∧ far = 2) then .inl St.passageLimit
    else if r = [] then .inl (routeRefusal s a)
    else .inr (a, r)

def mailPassageOpen (src : MailSrc) (corr : Nat) (m : Bytes) (s : State) : State :=
  let (far, s) := drawBelow 3 s
  orRefuse src 0x39 corr (passageCheck s far m) (fun x s =>
    match Tab.freeKey 1 65535 s.torus.passages with
    | none => answer src 0x39 corr St.passageLimit [] s
    | some id =>
      let p : Passage :=
        { dest := x.1, link := leField m 0x0C 1, share := leField m 0x0D 1, pounds := leField m 0x0E 2, route := routeField x.2 }
      torusSend (.flightAsk (flightId s id false) [passageActs s p fun c l port => .setCircuit c l port p.share (passageKey s id)])
        (addJob (.passage id) src 0x39 corr { s with torus.passages := Tab.put id p s.torus.passages })) s

/-- PASSAGE_OPEN: the time-master is asked for a flight that sets the passage's circuits (R556, R657). -/
def execPassageOpen (src : MailSrc) (s : State) : Host.Outcome State Fault Refusal :=
  .next (mailStep src 0x39 (mailPassageOpen src) s)

/-- PASSAGE_CONFIRMED: every module on the route has confirmed its window (R556). -/
def passageConfirmed (job : Nat) (s : State) : State :=
  match (Tab.find? job s.work.jobs).map Job.kind with
  | some (.passage id) =>
    endJob job St.ok (leBytes 2 id ++ leBytes 6 0)
      { s with torus.passages := Tab.modify id (fun p => { p with opened := true }) s.torus.passages }
  | _ => s

def execPassageConfirmed (job : Nat) (s : State) : Host.Outcome State Fault Refusal := .next (passageConfirmed job s)

def mailPassageClose (src : MailSrc) (corr : Nat) (m : Bytes) (s : State) : State :=
  let id := leField m 8 2
  if (Tab.find? id s.torus.passages).any fun p => p.opened then
    answer src 0x3A corr St.ok []
      { s with torus.passages := Tab.modify id (fun p => { p with closing := true }) s.torus.passages }
  else answer src 0x3A corr St.passage [] s

/-- PASSAGE_CLOSE: released in the first window after the next cut (R658). -/
def execPassageClose (src : MailSrc) (s : State) : Host.Outcome State Fault Refusal :=
  .next (mailStep src 0x3A (mailPassageClose src) s)

/-! ### Calibration sets (R660, R661) -/

/-- The bytes of the current calibration set: at most 4,194,240 of them, free values. -/
def calibBytes (s : State) : Bytes × State :=
  let (v, s) := draw s
  ((List.range (Config.calibSetLength % 4194241)).map fun i => BitVec.ofNat 8 (Config.calibSet (v * 2 ^ 23 + i)), s)

def mailCalibRead (src : MailSrc) (corr : Nat) (m : Bytes) (s : State) : State :=
  let off := leField m 0x10 8
  orRefuse src 0x42 corr (mailBuffer s (leField m 8 4) off (Config.calibSetLength % 4194241) false) (fun b s =>
    let (d, s) := calibBytes s
    let n := s.work.jobNo
    let a := bufBase b + off
    sendWrites 30 a d (.mail n) (addJob (.atCommit (openSerial s) (leBytes 8 d.length) a d) src 0x42 corr s)) s

/-- CALIB_READ (R636, R660). -/
def execCalibRead (src : MailSrc) (s : State) : Host.Outcome State Fault Refusal :=
  .next (mailStep src 0x42 (mailCalibRead src) s)

def mailCalibWrite (src : MailSrc) (corr : Nat) (m : Bytes) (s : State) : State :=
  let off := leField m 0x10 8
  let len := leField m 0x18 8
  let s := sourceErrors (leField m 8 4) off len s
  orRefuse src 0x43 corr (mailBuffer s (leField m 8 4) off len true) (fun b s =>
    let d := committedRead s (bufBase b + off) len
    if len = 0 then
      let n := s.work.jobNo
      flashAdd (.eraseRecord 8 (.reply n)) (addJob .flash src 0x43 corr s)
    else if 4194240 < len then answer src 0x43 corr St.calibForm [] s
    else if !Config.calibUnitOk d then answer src 0x43 corr St.calibUnit [] s
    else if !Config.calibFormOk d then answer src 0x43 corr St.calibForm [] s
    else flashWrite src 0x43 corr 8 (.calib d) s) s

/-- CALIB_WRITE (R661). -/
def execCalibWrite (src : MailSrc) (s : State) : Host.Outcome State Fault Refusal :=
  .next (mailStep src 0x43 (mailCalibWrite src) s)

/-! ### Power and reset (R662 to R664, R690, R709) -/

/-- The refusal of a POWER_SET, or 0. -/
def powerRefusal (s : State) (st : Nat) : Nat :=
  if s.power.shutdown || s.power.tripAt.isSome then St.powerState
  else if !permitted s.power.pstate st && s.power.pstate != st then St.powerState
  else if s.power.transition.isSome || s.power.heldReq.isSome then St.busy
  else if !ready s && s.power.pstate != 4 && s.boot.halted && decide (1 ≤ st ∧ st ≤ 3) then St.notReady
  else 0

def mailPowerSet (src : MailSrc) (corr : Nat) (m : Bytes) (s : State) : State :=
  let st := leField m 8 1
  let cap := leField m 9 1
  let n := s.work.jobNo
  let r := powerRefusal s st
  if r ≠ 0 then answer src 0x48 corr r [] s
  else if s.power.pstate = st ∧ !(st = 1 ∧ cap ≠ s.power.cap) then answer src 0x48 corr St.ok [] s
  else
    let s := addJob .power src 0x48 corr s
    let held : PowerHeld := { target := st, cap := cap, job := n }
    if !ready s && s.power.pstate != 4 && st != 4 then { s with power.heldReq := some held }
    else startTransition st cap (some n) .host s

/-- POWER_SET (R662, R690). -/
def execPowerSet (src : MailSrc) (s : State) : Host.Outcome State Fault Refusal :=
  .next (mailStep src 0x48 (mailPowerSet src) s)

def mailResume (src : MailSrc) (corr : Nat) (_m : Bytes) (s : State) : State :=
  if !s.power.shutdown then answer src 0x49 corr St.powerState [] s
  else if (List.range 29).any (resumeBlocked s) then answer src 0x49 corr St.thermal [] s
  else
    let n := s.work.jobNo
    startTransition 0 11 (some n) .host
      { addJob .power src 0x49 corr s with power.shutdown := false, pins.thermtripN := true }

/-- RESUME (R663, R709, R710). -/
def execResume (src : MailSrc) (s : State) : Host.Outcome State Fault Refusal :=
  .next (mailStep src 0x49 (mailResume src) s)

def mailModuleReset (src : MailSrc) (corr : Nat) (_m : Bytes) (s : State) : State :=
  answer src 0x4A corr St.ok [] { s with boot.resetAt := some 131072, boot.resetCause := 2 }

/-- MODULE_RESET: the reset comes 2^17 ticks after the reply (R664). -/
def execModuleReset (src : MailSrc) (s : State) : Host.Outcome State Fault Refusal :=
  .next (mailStep src 0x4A (mailModuleReset src) s)

/-! ### Firmware update (R665, R666, R805, R806, R809) -/

/-- A stage is under way. -/
def staging (s : State) : Bool := s.work.jobs.any fun j => j.2.code == 0x50

def mailUpdateStage (src : MailSrc) (corr : Nat) (m : Bytes) (s : State) : State :=
  let off := leField m 0x10 8
  let len := leField m 0x18 8
  let s := sourceErrors (leField m 8 4) off len s
  orRefuse src 0x50 corr (mailBuffer s (leField m 8 4) off len true) (fun b s =>
    if 2 ^ 25 < len then answer src 0x50 corr St.updateSize [] s
    else if onTrial s then answer src 0x50 corr St.updateTrial [] s
    else if staging s then answer src 0x50 corr St.busy [] s
    else
      let n := s.work.jobNo
      let slotB := !s.boot.bootRec.running
      flashAdd
        (.write 1 (.boot (setSlot (latestBoot s) slotB .empty)) (.stage slotB (committedRead s (bufBase b + off) len) n))
        (addJob .flash src 0x50 corr s)) s

/-- UPDATE_STAGE (R665, R806). -/
def execUpdateStage (src : MailSrc) (s : State) : Host.Outcome State Fault Refusal :=
  .next (mailStep src 0x50 (mailUpdateStage src) s)

/-- The boot-state write that confirms the running image, and what follows it (R809). -/
def confirmImage (job : Option Nat) (s : State) : State :=
  flashAdd (.write 1 (.boot (setSlot { latestBoot s with count := 0 } s.boot.bootRec.running .confirmed)) (.confirm job)) s

def mailHealthConfirm (src : MailSrc) (corr : Nat) (_m : Bytes) (s : State) : State :=
  if !onTrial s || leNat (itemBoot s 0x0300) == 0 then answer src 0x51 corr St.trialState [] s
  else
    let n := s.work.jobNo
    confirmImage (some n) (addJob .flash src 0x51 corr s)

/-- HEALTH_CONFIRM (R666, R809). -/
def execHealthConfirm (src : MailSrc) (s : State) : Host.Outcome State Fault Refusal :=
  .next (mailStep src 0x51 (mailHealthConfirm src) s)

/-! ### Attestation and keys (R667 to R669, R759, R762, R776, R777) -/

def mailAttest (src : MailSrc) (corr : Nat) (m : Bytes) (s : State) : State :=
  let h := leField m 0x28 4
  let off := leField m 0x30 8
  if !s.sec.seeds then answer src 0x58 corr St.denied [] s
  else
    orRefuse src 0x58 corr (mailBuffer s h off 8685 false) (fun _ s =>
      let n := s.work.jobNo
      attestSign n (addJob (.attestWrite ((m.drop 8).take 32) h off) src 0x58 corr s)) s

/-- ATTEST (R667, R776, R779, R780). -/
def execAttest (src : MailSrc) (s : State) : Host.Outcome State Fault Refusal :=
  .next (mailStep src 0x58 (mailAttest src) s)

def mailKeyInstall (src : MailSrc) (corr : Nat) (m : Bytes) (s : State) : State :=
  let slot := leField m 8 2
  let op := leField m 0x0A 1
  if s.sec.awaitSlot0 then answer src 0x59 corr St.denied [] s
  else
    let s : State :=
      { s with sec.vault := if op = 0 then Tab.put slot ((m.drop 0x10).take 32) s.sec.vault else Tab.del slot s.sec.vault }
    let s := if slot = 0 then s else writeKeys s
    let s := answer src 0x59 corr St.ok [] (logEvent Ev.key (leBytes 1 slot ++ leBytes 1 op) s)
    closeSessions (fun _ ss => ss.key == some slot) St.sessionClosed s

/-- KEY_INSTALL (R668, R669, R762). -/
def execKeyInstall (src : MailSrc) (s : State) : Host.Outcome State Fault Refusal :=
  .next (mailStep src 0x59 (mailKeyInstall src) s)

/-! ### Life cycle (R670, R763 to R765) -/

/-- The transitions of R763. -/
def lcPermitted (s : State) (a b : Nat) : Bool :=
  (a == 0 && b == 1 && Tab.has 0 s.sec.vault) || (a == 1 && b == 2) || ((a == 1 || a == 2) && b == 3) ||
    (decide (a ≤ 3) && b == 4)

/-- A life-cycle transition in the order of R764; `n` is the job its reply answers. -/
def lcMove (target n : Nat) (s : State) : State :=
  let old := lifeCycle s
  let s := wipeSecure (lowerAllDebug 0 4 s)
  let s : State := { s with sec.fuses.lc := s.sec.fuses.lc ||| (1 <<< (target - 1)) }
  let s := logEvent Ev.lifecycle (leBytes 1 old ++ leBytes 1 target) s
  if target = 1 then
    endJob n St.ok []
      { s with sec.fuses.ownerRoot := (Tab.find? 0 s.sec.vault).getD [], sec.vault := Tab.del 0 s.sec.vault }
  else if target = 2 then endJob n St.ok [] s
  else fullWipe (.lifecycle n true) s

def mailLifecycleSet (src : MailSrc) (corr : Nat) (m : Bytes) (s : State) : State :=
  let t := leField m 8 1
  if leField m 0x10 8 ≠ s.sec.fuses.unitId % 2 ^ 64 then answer src 0x5A corr St.denied [] s
  else if !lcPermitted s (lifeCycle s) t then answer src 0x5A corr St.lifecycle [] s
  else
    let n := s.work.jobNo
    lcMove t n (addJob .lifecycle src 0x5A corr s)

/-- LIFECYCLE_SET (R670, R763 to R765). -/
def execLifecycleSet (src : MailSrc) (s : State) : Host.Outcome State Fault Refusal :=
  .next (mailStep src 0x5A (mailLifecycleSet src) s)

/-! ### Debug (R671 to R673, R784 to R787) -/

/-- The power state that counts for a debug level: the target of a transition under way (R787). -/
def debugPower (s : State) : Nat := (s.power.transition.map Transition.target).getD s.power.pstate

/-- The matrix of R785. -/
def levelAllowed (s : State) (level : Nat) : Bool :=
  let lc := lifeCycle s
  let deep := decide (debugPower s ≤ 2)
  lc != 4 && (lc != 3 || s.sec.wipeMarker) &&
    (level == 1 || (level == 2 && deep && lc != 2) || (level == 3 && deep && (lc == 0 || lc == 3)))

/-- Another channel holds D2 or D3 (R784). -/
def otherHolds (s : State) (src : MailSrc) : Bool := decide (senderLevel s src < 2) && debugHeld s

/-- Opens a level on a channel (R671, R782, R790). A level lowered this way frees a halted pair as R787 says. -/
def openLevel (src : MailSrc) (level : Nat) (s : State) : State :=
  let s := logEvent Ev.debugOpen (leBytes 2 (srcHandle s src) ++ leBytes 1 level) (setLevel src level s)
  if debugHeld s then s else runAgain (dropHalts s)

def mailDebugOpen (src : MailSrc) (corr : Nat) (m : Bytes) (s : State) : State :=
  let level := leField m 8 1
  if !levelAllowed s level then answer src 0x60 corr St.debugLevel [] s
  else if 2 ≤ level ∧ otherHolds s src then answer src 0x60 corr St.busy [] s
  else answer src 0x60 corr St.ok (leBytes 1 level ++ leBytes 7 0) (openLevel src level s)

/-- DEBUG_OPEN (R671, R784, R785). -/
def execDebugOpen (src : MailSrc) (s : State) : Host.Outcome State Fault Refusal :=
  .next (mailStep src 0x60 (mailDebugOpen src) s)

/-- A DEBUG_OP body, refused to a sender below D2 (R672). -/
def debugOp (src : MailSrc) (corr : Nat) (k : State → State) (s : State) : State :=
  if senderLevel s src < 2 then answer src 0x61 corr St.debugLevel [] s else k s

/-- Which DEBUG_OP a message is. -/
def debugOpIs (op : Nat) (m : Bytes) : Bool := min (leField m 8 1) 3 == op

def mailDebugHalt (src : MailSrc) (corr : Nat) (_m : Bytes) (s : State) : State :=
  debugOp src corr (fun s =>
    if s.sec.halted.isSome then answer src 0x61 corr St.ok [] s
    else if !poundActive s then answer src 0x61 corr St.ok [] (haltPair s)
    else askClose (s.ft + 1) .debug (addJob .halt src 0x61 corr s)) s

/-- DEBUG_OP HALT: the open pound closes and commits, then both lockkeepers halt (R673). -/
def execDebugHalt (src : MailSrc) (s : State) : Host.Outcome State Fault Refusal :=
  .next (mailStepSel src 0x61 (debugOpIs 0) (mailDebugHalt src) s)

def mailDebugStep (src : MailSrc) (corr : Nat) (_m : Bytes) (s : State) : State :=
  debugOp src corr (answer src 0x61 corr St.ok []) s

/-- DEBUG_OP STEP: one lockkeeper instruction, which no rule lets show (R672). -/
def execDebugStep (src : MailSrc) (s : State) : Host.Outcome State Fault Refusal :=
  .next (mailStepSel src 0x61 (debugOpIs 1) (mailDebugStep src) s)

def mailDebugRun (src : MailSrc) (corr : Nat) (_m : Bytes) (s : State) : State :=
  debugOp src corr (fun s => answer src 0x61 corr St.ok [] (runAgain s)) s

/-- DEBUG_OP RUN (R672, R673). -/
def execDebugRun (src : MailSrc) (s : State) : Host.Outcome State Fault Refusal :=
  .next (mailStepSel src 0x61 (debugOpIs 2) (mailDebugRun src) s)

/-- The refusal of a read of one byte at a level, or 0 (R786). -/
def readRefusal (s : State) (level a : Nat) : Nat :=
  if a < bufferCapacity s then 0
  else if stampBase s ≤ a ∧ a < 0x017F00000000 then 0
  else if 0x017F00000000 ≤ a ∧ a < 0x018000000000 then (if level = 3 then 0 else St.debugLevel)
  else if 0x040000000000 ≤ a ∧ a < 0x040000000000 + 2 ^ 32 then
    let c := (a - 0x040000000000) / 2 ^ 21
    if (s.core c).fence ≠ 0 then St.memRange
    else if !(s.stack (c / 128)).powered then St.powerState
    else if secureCell a && level != 3 then St.debugLevel else 0
  else St.memRange

/-- One byte of a debug read: a live byte of a page that a buffer holds, 0 of one that none holds, a scratch byte, a byte
of a stamp slot in use, or a free value where the content of the region is no interface (R386, R786). -/
def debugByte (s : State) (v a : Nat) (i : Nat) : Byte :=
  let free := BitVec.ofNat 8 (Config.free v >>> (8 * i))
  if a < bufferCapacity s then
    match bufAtPage s (pageOf a) with
    | none => 0
    | some b =>
      if b.remote.isSome then free
      else if (Config.free v).testBit (a / 64) then newestByte s a else committedByte s a
  else if 0x040000000000 ≤ a then Tab.getD 0 (a - 0x040000000000) s.stk.scratch
  else if (holderOf s a).isSome then storedByte s a
  else free

def mailDebugRead (src : MailSrc) (corr : Nat) (m : Bytes) (s : State) : State :=
  let len := leField m 0x0C 4
  let a := leField m 0x10 8
  debugOp src corr (fun s =>
    match ((List.range len).map fun i => readRefusal s (senderLevel s src) (a + i)).find? (· ≠ 0) with
    | some st => answer src 0x61 corr st [] s
    | none =>
      let v := s.freeCtr
      let d := (List.range len).map fun i => debugByte s v (a + i) i
      answer src 0x61 corr St.ok (leBytes 4 len ++ leBytes 4 0 ++ d) { s with freeCtr := v + 1 }) s

/-- DEBUG_OP READ (R672, R786). -/
def execDebugRead (src : MailSrc) (s : State) : Host.Outcome State Fault Refusal :=
  .next (mailStepSel src 0x61 (debugOpIs 3) (mailDebugRead src) s)

def mailDebugClose (src : MailSrc) (corr : Nat) (_m : Bytes) (s : State) : State :=
  answer src 0x62 corr St.ok [] (lowerDebug src 0 0 s)

/-- DEBUG_CLOSE (R671, R787). -/
def execDebugClose (src : MailSrc) (s : State) : Host.Outcome State Fault Refusal :=
  .next (mailStep src 0x62 (mailDebugClose src) s)

end Sys2Proof.Machine
end

