-- ==== Sys2Proof/Machine/Power.lean ====
section
/-!
DEFINITION. The housekeeping round and what it decides: fade levels, broken sensors, thermal and margin limits, rails, and the
thermal trip (R337 to R339, R454, R455, R475, R675 to R713, R749). Samples are coded as R840: temperatures in 1/8 °C,
photodiodes in 0.01 dBm, voltage taps in 0.1 mV.
-/

namespace Sys2Proof.Machine

/-! ### The round (R337, R696, R697) -/

/-- The lockkeepers run firmware: past configuration load, neither halted nor stranded. -/
def firmwareRuns (s : State) : Bool :=
  s.pins.resetN && decide (3 ≤ s.boot.phase) && !s.boot.romHalt && s.sec.halted.isNone && !stranded s

/-- The temperature channels (R697). -/
def tempChannels : List Nat := (List.range 128) ++ (List.range 116).map (· + 256)

/-- Reads and clears a stack's stretch counters (R337). -/
def readStretches (x : Stack) : Stack :=
  { x with reaches := x.reaches.mapVals fun _ r => { r with lastRound := r.stretches, stretches := 0 } }

/-- The AVSBus reads of a round that the queue does not hold already: voltage, status, current and temperature of each output
(R680). -/
def roundReads (s : State) : State :=
  ((List.range 8).flatMap fun r => ([1, 2, 3, 4] : List Nat).map fun c => (r, c)).foldl (fun s x =>
    if s.power.avs.any fun f => f.rail == x.1 && f.cmd == x.2 then s else sendAvs x.1 x.2 0 s) s

/-- The channels sampled: in PS4 the temperatures and the taps of VAUX and VSTBY alone (R698). -/
def sampled (s : State) (c : Nat) : Bool :=
  s.power.pstate != 4 || tempChannels.contains c || c == 752 || c == 753 || c == 766 || c == 767

/-- HOUSEKEEPING_ROUND: round k begins at k × 2^17 ticks; what its channels show is taken, and the rounds in which a berth's
logic has not answered are counted (R443, R696). -/
def roundStep (round : HouseRound) (s : State) : State :=
  let k := s.ft / 131072
  if s.pins.resetN && (s.power.phase == 0 || k != s.power.round) then
    let new := round.samples.filter fun c => sampled s c.1
    let put := fun (t : Tab Int) (c : Nat × Int) => Tab.put c.1 c.2 t
    let keep := fun (t : Tab (List Int)) (c : Nat × Int) =>
      if tempChannels.contains c.1 then Tab.put c.1 ((c.2 :: Tab.getD [] c.1 t).take 256) t else t
    let s : State :=
      { s with
        power.round := k, power.phase := 1, power.roundAt := k * 131072
        power.samples := new.foldl put s.power.samples, power.hist := new.foldl keep s.power.hist
        power.overCurrent := [], power.regTemp := none
        base.silent := round.silent.foldl (fun t b => Tab.put b (Tab.getD 0 b s.base.silent + 1) t) []
        stk.dies := s.stk.dies.mapVals fun _ x => readStretches x }
    if s.power.pstate = 4 then s else roundReads s
  else s

def execHousekeepingRound (round : HouseRound) (s : State) : Host.Outcome State Fault Refusal := .next (roundStep round s)

/-! ### Fade levels (R454, R455, R686) -/

/-- The monitor channel of a laser (R697). -/
def laserChannel (k : Nat) : Nat := k + 372

/-- The fade of a lit laser in 0.01 dB: its monitor reading against its calibrated power, lowered by the idle-bias steps taken
(R454, R686). -/
def fadeOf (s : State) (k : Nat) : Option Int :=
  (Tab.find? (laserChannel k) s.power.samples).map fun v =>
    v - ((s.laser k).calPower - (if k < 84 then Int.ofNat (10 * s.power.biasStep) else 0))

/-- The level a laser stands at. -/
def laserLevel (x : Laser) : Nat := if x.state = 6 then x.level else x.state

def setLaserLevel (n : Nat) (x : Laser) : Laser := if x.state = 6 then { x with level := n } else { x with state := n }

/-- Measures one lit laser: its drive loop sets its current anywhere up to the ceiling, a free value, and its level follows its fade (R453,
R455). -/
def fadeStep (k : Nat) (s : State) : State :=
  match fadeOf s k with
  | none => s
  | some f =>
    if !(s.laser k).lit || 16 < (s.laser k).serves then s
    else
      let code := max (-128) (min 127 (Int.tdiv f 5))
      let (drive, s) := draw s
      let s := s.updLaser k fun x =>
        { x with fade := code, quiet := if -50 ≤ f then x.quiet + 1 else 0, drive := drive % 256 }
      let lvl := laserLevel (s.laser k)
      if f < -400 ∧ lvl < 3 then laserFail k s
      else if f < -200 ∧ lvl < 2 then
        laserMigrate k (s.updLaser k fun x => if x.state = 6 then { x with level := 2 } else x)
      else if f < -100 ∧ lvl < 1 then
        logEvent Ev.laserAdvisory (leBytes 1 (groupCode (groupOfKey k)) ++ leBytes 1 (laserCode k) ++ leBytes 1 (intBits 8 code))
          ({ s with light.calDue := s.light.calDue.filter (· ≠ k) ++ [k] }.updLaser k fun x =>
            { setLaserLevel 1 x with advisories := satInc x.advisories })
      else if lvl = 1 ∧ 16 ≤ (s.laser k).quiet then s.updLaser k fun x => setLaserLevel 0 x
      else s

/-- The drive loop's step between calibrated power and idle bias, one per round (R686). -/
def biasStep (s : State) : State :=
  { s with power.biasStep := if s.power.idleBias then min 10 (s.power.biasStep + 1) else s.power.biasStep - 1 }

/-! ### Broken sensors (R702, R703) -/

/-- The neighbours of a sensor (R699). -/
def neighbours (c : Nat) : List Nat :=
  let grid := fun (base cols rows i : Nat) =>
    (if i % cols = 0 then [] else [base + i - 1]) ++ (if i % cols + 1 = cols then [] else [base + i + 1]) ++
    (if i / cols = 0 then [] else [base + i - cols]) ++ (if i / cols + 1 = rows then [] else [base + i + cols])
  if c < 128 then grid (c / 8 * 8) 4 2 (c % 8)
  else if c < 320 then grid (256 + (c - 256) / 16 * 16) 4 4 ((c - 256) % 16)
  else if c < 324 then ([320, 321, 322, 323] : List Nat).filter (· ≠ c)
  else ((List.range 6).map (· + (324 + (c - 324) / 6 * 6))).filter (· ≠ c)

/-- The region of a temperature channel. -/
def regionOf (c : Nat) : Nat :=
  if c < 128 then c / 8 else if c < 320 then 16 + (c - 256) / 16 else if c < 324 then 20 else 21 + (c - 324) / 6

def sampleOf (s : State) (c : Nat) : Int := Tab.getD 0 c s.power.samples

/-- How far a sensor's last 256 readings span, once it has so many. -/
def spanOf (s : State) (c : Nat) : Option Nat :=
  match Tab.getD [] c s.power.hist with
  | [] => none
  | h :: t => if t.length = 255 then some ((t.foldl max h) - (t.foldl min h)).toNat else none

/-- Outside −40 °C to 150 °C (R698). -/
def rangeFails (s : State) (c : Nat) : Bool := decide (sampleOf s c < -320 ∨ 1200 < sampleOf s c)

/-- Less than 0.25 °C of change in 256 rounds while another sensor of the region changed by more than 2 °C. -/
def stuckFails (s : State) (c : Nat) : Bool :=
  (spanOf s c).any fun d => decide (d < 2) &&
    ((regionSensors (regionOf c)).filter (· ≠ c)).any fun o => (spanOf s o).any fun e => decide (16 < e)

/-- Values in rising order. -/
def insertInt (x : Int) : List Int → List Int
  | [] => [x]
  | h :: t => if x ≤ h then x :: h :: t else h :: insertInt x t

/-- Twice the median of a list that is not empty. -/
def median2 (l : List Int) : Int :=
  let t := l.foldr insertInt []
  let n := t.length
  t.getD ((n - 1) / 2) 0 + t.getD (n / 2) 0

/-- More than 15 °C from the median of its neighbours that are not broken. -/
def medianFails (s : State) (broken : List Nat) (c : Nat) : Bool :=
  let l := (neighbours c).filter fun n => !broken.contains n
  l != [] && decide (240 < (2 * sampleOf s c - median2 (l.map (sampleOf s))).natAbs)

/-- The sensors a round finds broken, with the test each fails: 0 range, 1 stuck, 2 median (R702). -/
def newBroken (s : State) : List (Nat × Nat) :=
  let live := tempChannels.filter fun c => !isBroken s c
  let first := (live.filter fun c => rangeFails s c || stuckFails s c).map fun c => (c, if rangeFails s c then 0 else 1)
  let out := s.power.broken.keys ++ first.map Prod.fst
  let second := (live.filter fun c => !out.contains c && medianFails s out c).map fun c => (c, 2)
  first ++ second

/-- Marks them: they stay broken until the next reset (R703). -/
def markBroken (s : State) : State :=
  let l := newBroken s
  { s with power.broken := l.foldl (fun t x => Tab.put x.1 x.2 t) s.power.broken, power.found := s.power.found ++ l }

/-! ### Rails (R682, R695) -/

/-- The rail of a voltage tap: 0 to 7 the core outputs, then VBASE, VAUX, VLAS, VIO, VMEM1, VMEM2, VMEMQ, VSTBY (R697). -/
def tapRail (i : Nat) : Nat :=
  if i < 16 then i / 2 else if i < 24 then i - 16 else if i < 28 then 8 else if i < 30 then 9 else if i < 34 then 10
  else if i < 36 then 11 else 12 + (i - 36) / 2

/-- The nominal voltage of a tap that is no die tap: a core output's written value, the fixed rails of R675, or for the VMEM
rails what JESD209-6 sets, which is a free value. -/
def tapNominal (s : State) (i : Nat) : Nat :=
  let r := tapRail i
  if r < 8 then railMv s r else if r = 8 ∨ r = 9 then 800 else if r = 10 then 2500 else if r = 11 then 1200
  else if r < 15 then Config.vmemNominal (r - 12) else 1800

/-- A tap stands outside its window (R695): a die tap of a powered stack, any other tap that is sampled and whose output is on. -/
def tapBad (s : State) (i : Nat) : Bool :=
  match Tab.find? (724 + i) s.power.samples with
  | none => false
  | some v =>
    if i < 16 then
      (s.stack i).powered &&
        decide (v < 10 * (Int.ofNat (stepMv (s.stack i).step) - 50) ∨ 10 * (Int.ofNat (stepMv (s.stack i).step) + 40) < v)
    else if i < 24 ∧ !((s.stack (2 * (i - 16))).powered || (s.stack (2 * (i - 16) + 1)).powered) then false
    else sampled s (724 + i) && decide (10 * v < 95 * Int.ofNat (tapNominal s i) ∨ 105 * Int.ofNat (tapNominal s i) < 10 * v)

/-- Logs a tap. -/
def logRail (i : Nat) (s : State) : State :=
  logEvent Ev.railRange (leBytes 2 (724 + i) ++ leBytes 2 (intBits 16 (Tab.getD 0 (724 + i) s.power.samples))) s

/-- The check of every tap, at most one event per rail in 16 rounds (R695). -/
def railCheck (s : State) : State :=
  (List.range 44).foldl (fun s i =>
    let due := match Tab.find? (tapRail i) s.power.railAt with
      | none => true
      | some k => decide (k + 16 ≤ s.power.round)
    if tapBad s i && due then
      logRail i { s with power.railAt := Tab.put (tapRail i) s.power.round s.power.railAt }
    else s) s

/-- The powered stack of a pair whose die tap reads lower. -/
def lowTap (s : State) (p : Nat) : Option Nat :=
  (([2 * p, 2 * p + 1] : List Nat).filter fun k => (s.stack k).powered && Tab.has (724 + k) s.power.samples).foldl
    (fun (a : Option Nat) k => match a with
      | none => some k
      | some j => if sampleOf s (724 + k) < sampleOf s (724 + j) then some k else some j) none

/-- A step change of the pair has begun. -/
def pairChanging (s : State) (p : Nat) : Bool :=
  ([2 * p, 2 * p + 1] : List Nat).any fun k => (s.stack k).change.any fun c => c.phase != .scheduled

/-- The die-tap correction of a pair: 0 to +30 mV, so that the lower tap stands within 5 mV of the R329 voltage (R682). -/
def correctPair (p : Nat) (s : State) : State :=
  match lowTap s p with
  | none => s
  | some k =>
    let mv := fun (j : Nat) => if (s.stack j).powered then stepMv (s.stack j).step else 0
    let v : Int := Int.ofNat (max (mv (2 * p)) (mv (2 * p + 1)))
    let old := Tab.getD 0 p s.power.correction
    let err := 10 * v - sampleOf s (724 + k)
    if pairChanging s p || err.natAbs ≤ 50 then s
    else
      let want := Int.ofNat old + Int.fdiv (err + 5) 10
      let new := (max 0 (min 30 want)).toNat
      let s := if 30 < want then logRail k s else s
      if new = old then s
      else sendAvs p 0 (v.toNat + new) { s with power.correction := Tab.put p new s.power.correction }

/-! ### Regions and the evaluation (R475, R699, R704, R705, R707) -/

/-- A region trips: its reading has reached the threshold (0), or two of its sensors are broken (1). -/
def regionTrips (s : State) (r : Nat) : Option Nat :=
  if tripLimit r ≤ (hottest s r).2 then some 0 else if 2 ≤ (brokenIn s r).length then some 1 else none

/-- The first region that trips, with its cause. -/
def tripFound (s : State) : Option (Nat × Nat) :=
  (List.range 29).findSome? fun r => (regionTrips s r).map fun c => (r, c)

/-- No trip is under way, and the module is not in thermal shutdown. -/
def mayTrip (s : State) : Bool := !s.power.shutdown && s.power.tripAt.isNone

/-- HK_EVALUATION, once the channels of the round are sampled (R696). `tones` names rings with the lane of their strongest
tone. -/
def evaluate (tones : List (RingRef × Nat)) (s : State) : State :=
  if firmwareRuns s && s.power.phase == 1 && decide (s.power.roundAt + 49152 ≤ s.ft) then
    let s := biasStep ((List.range 288).foldl (fun s k => fadeStep k s) s)
    let s := railCheck (markBroken s)
    let s : State := { s with power.phase := 2, power.readings := (List.range 29).map fun r => (r, (hottest s r).2) }
    let s := (tones.filter fun x => x.1.lane != x.2).foldl (fun s x => wrongLock x.1 s) s
    let s := s.light.suspects.foldl (fun s x => suspectCause x s) s
    if mayTrip s then { s with power.tripWanted := tripFound s } else s
  else s

def execHkEvaluation (tones : List (RingRef × Nat)) (s : State) : Host.Outcome State Fault Refusal :=
  .next (evaluate tones s)

/-! ### The action instant (R338, R339, R678, R700, R701, R705) -/

def regionReading (s : State) (r : Nat) : Int := Tab.getD 0 r s.power.readings

/-- The regions that can lower a stack: its die, its base quadrant, and the memory berths of its quadrant (R18, R700). -/
def regionsOver (k : Nat) : List Nat := [k, 16 + k / 4, 21 + 2 * (k / 4), 22 + 2 * (k / 4)]

/-- Sets a stack's thermal limit; a change is logged (R701). -/
def setThermal (k n : Nat) (s : State) : State :=
  if (s.stack k).thermLimit = n then s
  else
    logEvent Ev.stepThermal (leBytes 1 k ++ leBytes 1 n) (s.updStack k fun x => { x with thermLimit := n, coolRounds := 0 })

/-- A stack's thermal limit after a round (R700, R701). -/
def thermalAct (k : Nat) (s : State) : State :=
  let x := s.stack k
  if (regionsOver k).any fun r => decide (throttleAt r ≤ regionReading s r) then
    setThermal k (min x.thermLimit (x.step - 1)) (s.updStack k fun x => { x with coolRounds := 0 })
  else if (regionsOver k).all fun r => decide (regionReading s r ≤ throttleAt r - 40) then
    if 7 ≤ x.coolRounds ∧ x.thermLimit < 11 then setThermal k (x.thermLimit + 1) s
    else s.updStack k fun x => { x with coolRounds := x.coolRounds + 1 }
  else s.updStack k fun x => { x with coolRounds := 0 }

/-- An output over 290 A lowers the limit of its pair's higher-stepped stack (R678). -/
def currentAct (p : Nat) (s : State) : State :=
  let k := if (s.stack (2 * p)).step < (s.stack (2 * p + 1)).step then 2 * p + 1 else 2 * p
  setThermal k ((s.stack k).thermLimit - 1) s

/-- A stack's margin limit after a round: one step lower for the first reach with more than 64 stretches, one higher after 16
rounds without any (R338, R339). -/
def marginAct (k : Nat) (s : State) : State :=
  let x := s.stack k
  match (List.range 8).find? fun r => decide (64 < (Tab.getD {} r x.reaches).lastRound) with
  | some r =>
    if x.step = 0 then s.updStack k fun x => { x with quiet := 0 }
    else
      logEvent Ev.stepMargin (leBytes 1 k ++ leBytes 1 r ++ leBytes 1 (min x.marginLimit (x.step - 1)))
        (s.updStack k fun x => { x with marginLimit := min x.marginLimit (x.step - 1), quiet := 0 })
  | none =>
    if x.reaches.any fun r => r.2.lastRound != 0 then s.updStack k fun x => { x with quiet := 0 }
    else if 15 ≤ x.quiet ∧ x.marginLimit < 11 then
      s.updStack k fun x => { x with quiet := 0, marginLimit := x.marginLimit + 1 }
    else s.updStack k fun x => { x with quiet := x.quiet + 1 }

/-- A region enters throttle, or leaves it (R700). -/
def throttleAct (r : Nat) (s : State) : State :=
  if throttleAt r ≤ regionReading s r then
    if s.power.throttled.contains r then s
    else
      logEvent Ev.thermalThrottle (leBytes 1 (regionClass r) ++ leBytes 1 (regionIndex r) ++ leBytes 2 (hottest s r).1 ++
        leBytes 2 (intBits 16 (regionReading s r))) { s with power.throttled := s.power.throttled ++ [r] }
  else { s with power.throttled := s.power.throttled.erase r }

/-- What the stacks' limits, the margins of those that run and their outputs do at the action instant, in every power state (R698, R700, R701). -/
def stackActs (s : State) : State :=
  let s := (List.range 16).foldl (fun s k => thermalAct k s) s
  let s := s.power.overCurrent.foldl (fun s p => currentAct p s) s
  let s := (List.range 16).foldl (fun s k =>
    if (s.stack k).powered && (s.stack k).clocked then marginAct k s else s.updStack k fun x => { x with quiet := 0 }) s
  scheduleAll ((List.range 8).foldl (fun s p => correctPair p s) s)

/-! ### Compensation (R706) -/

/-- Twice the temperature that compensation takes for a sensor, in 1/8 °C: its reading, or in a broken one's place the median of its
neighbours that are not broken; with none left the value in force stays (notes/assumptions/158.md). -/
def compReading (s : State) (c : Nat) : Int :=
  if isBroken s c then
    match (neighbours c).filter fun n => !isBroken s n with
    | [] => Tab.getD 0 c s.power.comp
    | l => median2 (l.map (sampleOf s))
  else 2 * sampleOf s c

/-- The sensors that compensation looks at: those of the base and of the wharf die. -/
def compChannels : List Nat := (List.range 68).map (· + 256)

/-- The compensation values take effect (R696, R706). -/
def compensate (s : State) : State :=
  { s with power.comp := compChannels.foldl (fun t c => Tab.put c (compReading s c) t) s.power.comp }

/-- Eight times the mean of the wharf die sensors, in 1/8 °C: what the reference oscillator and the housekeeping ADCs are compensated
from. -/
def wharfMean (s : State) : Int := ((List.range 4).map fun i => Tab.getD 0 (320 + i) s.power.comp).foldl (· + ·) 0

/-- Twice the reading of the base sensor nearest a ring of a link, from which its heater bias is compensated; which it is stands in no rule
(R477). -/
def ringTemp (s : State) (link lane : Nat) : Int :=
  Tab.getD 0 (256 + 16 * linkGroup (link / 16 * 16) + Config.nearSensor link lane % 16) s.power.comp

/-- Twice the readings of a bank's quadrant edge, positions 0 to 3, from which its lasers' drive is compensated (R453). -/
def laserTemps (s : State) (q : Nat) : List Int := (List.range 4).map fun i => Tab.getD 0 (256 + 16 * q + i) s.power.comp

/-- HK_ACTION_INSTANT at H + 65,536 ticks (R696). -/
def actStep (s : State) : State :=
  if firmwareRuns s && s.power.phase == 2 && decide (s.power.roundAt + 65536 ≤ s.ft) then
    let s := s.power.found.foldl (fun s x => logEvent Ev.sensorBroken (leBytes 2 x.1 ++ leBytes 1 x.2) s) s
    let s := (List.range 29).foldl (fun s r => throttleAct r s) (compensate { s with power.found := [], power.phase := 3 })
    alertPin (stackActs s)
  else s

def execHkActionInstant (s : State) : Host.Outcome State Fault Refusal := .next (actStep s)

/-! ### The thermal trip (R707 to R710, R749, R788) -/

/-- While the pair is halted or the module stranded, the hardware compares every channel with its region's threshold. -/
def hardwareTrip (s : State) : Option (Nat × Nat) :=
  if s.sec.halted.isSome || stranded s then
    ((List.range 29).find? fun r => (regionSensors r).any fun c => decide (tripLimit r ≤ sampleOf s c)).map fun r => (r, 0)
  else none

/-- The highest step on the module, or that of the region's stack (R708). -/
def tripStepOf (s : State) (r : Nat) : Nat :=
  if r < 16 then (s.stack r).step else (List.range 16).foldl (fun a k => max a (s.stack k).step) 0

/-- The channel and reading that a trip names: the region's highest treated reading, or in hardware its highest reading. -/
def tripReading (s : State) (r : Nat) (hw : Bool) : Nat × Int :=
  if hw then
    (regionSensors r).foldl (fun a c => if a.2 < sampleOf s c then (c, sampleOf s c) else a)
      ((regionSensors r).headD 0, sampleOf s ((regionSensors r).headD 0))
  else hottest s r

/-- The trip log with one entry more, the oldest of 64 going (R708). -/
def addTrip (e : TripEntry) (s : State) : List TripEntry := let l := s.power.tripLog ++ [e]; l.drop (l.length - 64)

/-- A trip begins at T (R707): what it interrupts is answered once PS4 is reached. -/
def tripStep (r cause : Nat) (hw : Bool) (s : State) : State :=
  let (c, v) := tripReading s r hw
  let step := tripStepOf s r
  let n := s.power.trips + 1
  let job := (s.power.transition.bind Transition.job).or (s.power.heldReq.map PowerHeld.job)
  let t : Transition := { source := s.power.pstate, target := 4, cap := 0, job := job, since := s.ft, cause := .trip }
  let s := discardPound (lightOff (stacksOff { s with pins.thermtripN := false }))
  let lseq := s.log.nextLseq
  let s := logEvent Ev.thermalTrip (leBytes 2 c ++ leBytes 2 (intBits 16 v) ++ leBytes 1 cause) s
  let stamp := ((s.log.entries.find? fun e => e.lseq == lseq).bind LogEntry.stamp).getD 0
  let e : TripEntry :=
    { stamp := stamp, channel := c, reading := v, region := regionClass r, index := regionIndex r, step := step, cause := cause
      trips := n, regTemp := s.power.regTemp.getD 0xFFFFFFFF }
  let s := enterStandby (lowerAllDebug 1 6 s)
  let s : State :=
    { s with power.transition := some t, power.heldReq := none, power.tripAt := some s.ft, power.tripWanted := none
             boot.fromPs4 := false }
  flashSuspend (.write 5 (.trips (addTrip e s) n) .nothing) s

/-- THERMAL_TRIP. A stranded module asserts THERMTRIP_N and opens the stack power switches, and no more (R749). -/
def tripCommand (s : State) : State :=
  if !mayTrip s || !s.pins.resetN then s
  else match s.power.tripWanted, hardwareTrip s with
    | some x, _ => if stranded s then stacksOff { s with pins.thermtripN := false } else tripStep x.1 x.2 false s
    | none, some x => if stranded s then stacksOff { s with pins.thermtripN := false } else tripStep x.1 x.2 true s
    | none, none => s

def execThermalTrip (s : State) : Host.Outcome State Fault Refusal := .next (tripCommand s)

/-- TRIP_LOG_WRITTEN: the entry stands, and PS4 is reached with thermal shutdown set (R707). -/
def tripWritten (s : State) : State :=
  match s.power.tripAt, s.power.transition with
  | some _, some t =>
    let s := tripStored s
    let s : State :=
      { s with power.tripAt := none, power.transition := none, power.pstate := 4, power.shutdown := true, power.idleBias := false }
    let s := if t.source = 4 then s else logEvent Ev.powerState (leBytes 1 t.source ++ leBytes 1 4 ++ leBytes 1 1) s
    let s := match t.job with
      | some j => endJob j St.powerState [] s
      | none => s
    reselect (closePortB s)
  | _, _ => s

def execTripLogWritten (s : State) : Host.Outcome State Fault Refusal := .next (tripWritten s)

end Sys2Proof.Machine
end

