-- ==== Sys2Proof/Machine/ResetOps.lean ====
section
/-!
DEFINITION. Resets and what they keep (R664, R750, R787, R808, R827, R870, R873): everything is lost but the fuses, the flash,
the standby controller's watch on tamper, and the waiting commands.
-/

namespace Sys2Proof.Machine

/-- The channels that hold a debug level, each with it. -/
def openLevels (s : State) : List (Nat × Nat) :=
  ((s.net.sessions.filter fun x => x.2.level ≠ 0).map fun x => (sessionHandle s x.1, x.2.level)) ++
    (if s.sec.jtag.level = 0 then [] else [(0xFFFF, s.sec.jtag.level)])

/-- What a reset keeps of the security block: fuses, the tamper watch, the JTAG registers, and slot 0 of the vault while no fuse
holds it. JTAG acts as no one's sender any more. -/
def keptSec (s : State) : SecState :=
  { fuses := s.sec.fuses
    vault := if lifeCycle s = 0 then s.sec.vault.filter fun k => k.1 = 0 else []
    asserted := s.sec.asserted, counted := s.sec.counted, clearFor := s.sec.clearFor, owed := s.sec.owed
    awaitSlot0 := s.sec.awaitSlot0
    jtag := { s.sec.jtag with auth := none, level := 0, mail := none, reply := [] } }

/-- The module after a reset with a cause of R823: outputs released, every register at its reset value. -/
def clearedState (cause : Nat) (resetN : Bool) (s : State) : State :=
  { pending := s.pending, freeCtr := s.freeCtr, flash := (flashCut s).flash, sec := keptSec s
    boot := { poweredOnce := s.boot.poweredOnce, resetCause := cause }
    pins := { resetN := resetN, vrReady := s.pins.vrReady, tamperN := s.pins.tamperN } }

/-- A reset: the levels it ends are the new log's first entries (R787, R827). -/
def resetModule (cause : Nat) (resetN : Bool) (s : State) : State :=
  (openLevels s).foldl (fun s x => logEvent Ev.debugEnd (leBytes 2 x.1 ++ leBytes 1 x.2 ++ leBytes 1 3) s)
    (clearedState cause resetN s)

/-- RESET_N_ASSERT: low for 1 µs takes effect, below 100 ns does not, and between them either may happen (R870). -/
def resetNStep (ns : Nat) (s : State) : State :=
  if !s.pins.resetN || ns < 100 then s
  else if 1000 ≤ ns then resetModule 1 false s
  else if (drawBelow 2 s).1 = 0 then (drawBelow 2 s).2
  else resetModule 1 false (drawBelow 2 s).2

def execResetNAssert (nanoseconds : Nat) (s : State) : Host.Outcome State Fault Refusal := .next (resetNStep nanoseconds s)

/-- A reset that the module itself makes: not while it is stranded, nor while RESET_N holds it (R750). -/
def selfReset (cause : Nat) (s : State) : State := if stranded s || !s.pins.resetN then s else resetModule cause true s

/-- MODULE_RESET_TIMER: 2^17 ticks after the reply (R664, R765). -/
def timerReset (s : State) : State := if s.boot.resetAt = some 0 then selfReset s.boot.resetCause s else s

def execModuleResetTimer (s : State) : Host.Outcome State Fault Refusal := .next (timerReset s)

/-- The state of a slot. -/
def slotState (b : BootRec) (slotB : Bool) : SlotState := if slotB then b.slotB else b.slotA

/-- TRIAL_EXPIRY: 600 s after RESET_N's release into a trial image not confirmed (R808). -/
def trialStep (s : State) : State :=
  if (s.boot.trialAt.any fun t => decide (75000000000 ≤ t)) && slotState s.boot.bootRec s.boot.bootRec.running == .trial then
    selfReset 4 s
  else s

def execTrialExpiry (s : State) : Host.Outcome State Fault Refusal := .next (trialStep s)

/-- POWER_LOSS: every rail goes, VSTBY among them; only fuses and flash remain (R873). -/
def powerLost (s : State) : State :=
  { pending := s.pending, freeCtr := s.freeCtr, flash := (flashCut s).flash, sec := { fuses := s.sec.fuses } }

def execPowerLoss (s : State) : Host.Outcome State Fault Refusal := .next (powerLost s)

end Sys2Proof.Machine
end

