-- ==== Sys2Proof/Machine/Redundancy.lean ====
section
/-!
DEFINITION. The lockkeeper pair: miscompares and faults, the decision at D, the proofs of the checker, the watchdogs, the return
to the pair, and the stranded module (R734 to R751, R809, R814, R836). The spares of the stacks stand in Spares.lean.
-/

namespace Sys2Proof.Machine

/-! ### The pair (R734, R736, R744) -/

/-- The lockkeepers run: out of reset, not halted in the boot ROM or for debug, not stranded. -/
def pairRuns (s : State) : Bool :=
  s.pins.resetN && decide (1 ≤ s.boot.phase) && !s.boot.romHalt && s.sec.halted.isNone && !stranded s

/-- The helm holder. -/
def helmOf (s : State) : Option LkId :=
  if s.lk.a.role = .helm then some .a else if s.lk.b.role = .helm then some .b else none

/-- The retired lockkeeper. -/
def retiredOf (s : State) : Option LkId :=
  if s.lk.a.role = .retired then some .a else if s.lk.b.role = .retired then some .b else none

/-- One lockkeeper is retired (R744). -/
def solo (s : State) : Bool := (retiredOf s).isSome

/-- The checker follows the helm holder: neither retired nor away for its self-test. -/
def lockstep (s : State) : Bool :=
  (s.lk.a.role == .helm && s.lk.b.role == .checker) || (s.lk.a.role == .checker && s.lk.b.role == .helm)

/-! ### Stranding (R382, R744, R749) -/

/-- Every member stops at its next op boundary. -/
def stopMembers (s : State) : State :=
  { s with work.graphs := s.work.graphs.mapVals fun _ g =>
      { g with tasks := g.tasks.mapVals fun _ t =>
          if t.phase = .running then { t with members := t.members.mapVals fun _ x => abandonMember x } else t } }

/-- Neither lockkeeper drives the helm any more. -/
def offHelm (x : Lockkeeper) : Lockkeeper := if x.role = .retired then x else { x with role := .stranded }

/-- The module strands, for a cause of R836. What the pair had not released is discarded; the notices are MODULE_STRAND's. -/
def strandNow (cause : Nat) (s : State) : State :=
  let (st, s) := issueStamp 30 .strand s
  stopMembers
    { s with lk.stranded := some cause, lk.strandedStamp := st.getD 0, lk.strandedDue := st.isSome, lk.test := none, lk.pause := none
             lk.a := offHelm s.lk.a, lk.b := offHelm s.lk.b }

/-- MODULE_STRAND: within 256 ticks the engine sends the NOTICE to every open session's partner and to the configured address,
and FAULT_N is asserted (R621, R749). -/
def strandStepModule (s : State) : State :=
  if s.lk.strandedDue then
    let s : State := { s with lk.strandedDue := false, pins.faultN := false }
    let s := ((s.net.sessions.filter fun x => x.2.st == .opened).map Prod.fst).foldl (fun s i => strandedNotice i s) s
    noticeToAddress (entryBytes (strandedEntry s)) s
  else s

def execModuleStrand (s : State) : Host.Outcome State Fault Refusal := .next (strandStepModule s)

/-! ### Miscompares and faults (R738, R742, R743, R746) -/

/-- The code of a lockkeeper in EV_MISCOMPARE (R887). -/
def lkCode : Option LkId → Nat
  | some w => lkNum w
  | none => 2

/-- A check pause ends: EV_CHECK_PAUSE, once it has its stamp (R317, R741). -/
def endPause (s : State) : State :=
  match s.lk.pause with
  | none => s
  | some (_, start, first, last) =>
    let s : State :=
      { s with lk.pause := none, lk.pauses := satInc s.lk.pauses
               lk.a.role := if s.lk.a.role = .selfTest then .checker else s.lk.a.role
               lk.b.role := if s.lk.b.role = .selfTest then .checker else s.lk.b.role }
    let (stop, s) := issueStamp 30 (.pauseStop start first last) s
    match stop with
    | some st => pauseEvent (start.getD 0) st first last s
    | none => s

/-- A detected fault of the pair: both pause for the self-test that ends at D (R742, R743). -/
def beginTest (who : Option LkId) (mech out : Nat) (s : State) : State :=
  let s := endPause s
  let s := raiseFault Ev.miscompare (leBytes 1 (lkCode who) ++ leBytes 1 mech ++ leBytes 8 out) s
  { s with lk.test := some { start := s.ft }, lk.miscompares := satInc s.lk.miscompares, lk.named := none }

def lkFaulty (w : LkId) (s : State) : State := s.updLk w fun x => { x with faulty := true }

/-- A lockkeeper's own fault. One retired changes nothing; between X and D it goes into the decision; of the one that D named for
the helm, before the replay opens, it strands the module, as of one that runs alone; of a checker away for its self-test it counts
in that test (R742, R744, R746). -/
def ownFault (w : LkId) (mech : Nat) (s : State) : State :=
  if (s.lkOf w).role = .retired then s
  else if s.lk.test.isSome then lkFaulty w s
  else if s.lk.named = some w ∧ s.pound.recovery.isSome then strandNow 0 s
  else if solo s then strandNow 1 s
  else if (s.lkOf w).role = .selfTest then lkFaulty w s
  else beginTest (some w) mech 0 s

/-- A mechanism of R887 finds something. One that names no lockkeeper compares the two, so it works in lockstep alone. -/
def lkFault (who : Option LkId) (mech out : Nat) (s : State) : State :=
  if !pairRuns s then s
  else match who with
    | some w => ownFault w mech s
    | none => if lockstep s && s.lk.test.isNone then beginTest none mech out s else s

/-- MISCOMPARE (R742): mechanisms 0 to 2 name no lockkeeper, 3 and 4 name one; only an output mismatch carries an output (R887). -/
def miscompareStep (mech : Nat) (lk : Option LkId) (out : Nat) (s : State) : State :=
  if mech = 0 then lkFault none 0 out s
  else if mech ≤ 2 then lkFault none mech 0 s
  else if mech ≤ 4 then
    match lk with
    | some w => lkFault (some w) mech 0 s
    | none => s
  else s

def execMiscompare (mechanism : Nat) (lk : Option LkId) (output : Nat) (s : State) : Host.Outcome State Fault Refusal :=
  .next (miscompareStep mechanism lk output s)

/-! ### The decision at D (R743) -/

/-- Retires a lockkeeper: FAULT_N says that the module runs solo (R744). The code of the failed test is a free value. -/
def retireLk (w : LkId) (s : State) : State :=
  let (t, s) := draw s
  let s := s.updLk w fun x => { x with role := .retired, passRun := 0, faulty := false }
  logEvent Ev.lockkeeperRetired (leBytes 1 (lkNum w) ++ leBytes 1 t)
    { s with lk.retiredAt := s.ft, lk.cmpRun := 0, pins.faultN := false, lk.rejoinedA := none }

/-- Gives the helm to a lockkeeper; a change of holder is logged, with a free cause code. -/
def takeHelm (w : LkId) (s : State) : State :=
  if (s.lkOf w).role = .helm then s
  else
    let (c, s) := draw s
    let s := s.updLk w fun x => { x with role := .helm }
    let s := s.updLk (otherLk w) fun x => if x.role = .helm then { x with role := .checker } else x
    logEvent Ev.helmChange (leBytes 1 (lkNum w) ++ leBytes 1 c)
      { s with lk.helmChanges := satInc s.lk.helmChanges, lk.rejoinedA := none }

/-- A self-test of a lockkeeper has ended. -/
def tested (w : LkId) (pass : Bool) (s : State) : State :=
  s.updLk w fun x => { x with tests := satInc x.tests, lastPass := pass, faulty := false, watchdogAt := s.ft }

/-- One takes the helm, the other is retired. -/
def failOver (w : LkId) (s : State) : State := takeHelm w (retireLk (otherLk w) s)

/-- Both lockkeepers and the comparator pass: the second time within 2^24 ticks retires the checker. -/
def bothPassed (s : State) : State :=
  let again := s.lk.bothPassAt.any fun t => decide (s.ft ≤ t + 2 ^ 24)
  let s : State := { s with lk.bothPass := satInc s.lk.bothPass, lk.bothPassAt := some s.ft }
  match again, helmOf s with
  | true, some w => retireLk (otherLk w) s
  | _, _ => s

/-- LK_DECISION: at D = X + 25,000 ticks the first row that applies decides (R743). -/
def decisionStep (aPass bPass cmpPass : Bool) (s : State) : State :=
  match s.lk.test with
  | none => s
  | some t =>
    if pairRuns s && decide (t.start + 25000 ≤ s.ft) then
      let pa := aPass && !s.lk.a.faulty
      let pb := bPass && !s.lk.b.faulty
      let s := tested .b pb (tested .a pa { s with lk.test := none, lk.cmpOk := cmpPass })
      if !pa && !pb then strandNow 2 s
      else
        let s := if !cmpPass then failOver (if pa then .a else .b) s
          else if !pa then failOver .b s
          else if !pb then failOver .a s
          else bothPassed s
        { s with lk.named := if s.pound.recovery.isSome then helmOf s else none }
    else s

def execLkDecision (aPass bPass cmpPass : Bool) (s : State) : Host.Outcome State Fault Refusal :=
  .next (decisionStep aPass bPass cmpPass s)

/-! ### Proving the checker (R739 to R741) -/

/-- The comparator is at work. -/
def comparing (s : State) : Bool := pairRuns s && lockstep s && s.lk.test.isNone

/-- CHECKER_INJECTION: every 12,500,000 ticks a forced mismatch must trip; two misses in a row count as a miscompare (R739). -/
def injectStep (tripped : Bool) (s : State) : State :=
  if comparing s && decide (s.lk.injectAt + 12500000 ≤ s.ft) then
    let s : State := { s with lk.injectAt := s.ft, lk.injectOk := tripped }
    if tripped then { s with lk.missRun := 0 }
    else
      let s : State := { s with lk.missed := satInc s.lk.missed, lk.missRun := s.lk.missRun + 1 }
      if 2 ≤ s.lk.missRun then lkFault none 2 0 { s with lk.missRun := 0 } else s
  else s

def execCheckerInjection (tripped : Bool) (s : State) : Host.Outcome State Fault Refusal := .next (injectStep tripped s)

/-- SCRUB_PASS: a pass of 2^24 ticks ends (R740). -/
def scrubStep (r : ScrubResult) (s : State) : State :=
  if comparing s && decide (s.lk.scrubAt + 16777216 ≤ s.ft) then
    let s : State := { s with lk.scrubAt := s.ft }
    match r with
    | .same => s
    | .differs => lkFault none 1 0 s
    | .parity w => lkFault (some w) 4 0 s
  else s

def execScrubPass (r : ScrubResult) (s : State) : Host.Outcome State Fault Refusal := .next (scrubStep r s)

/-- Fabric time stands at K + 1 of the last commit, or one on where the counter skipped that value (R302, R741). -/
def afterCommit (s : State) : Bool := decide (s.pound.lastK + 1 ≤ s.ft ∧ s.ft ≤ s.pound.lastK + 2)

/-- CHECKER_SELF_TEST: every 1,250,000,000 ticks the checker leaves lockstep at a K + 1 (R741). -/
def leaveStepChecker (s : State) : State :=
  if comparing s && afterCommit s && decide (s.lk.testAt + 1250000000 ≤ s.ft) then
    let (st, s) := issueStamp 30 .pauseStart s
    let w : LkId := if s.lk.a.role = .checker then .a else .b
    { s.updLk w (fun x => { x with role := .selfTest, faulty := false }) with
      lk.testAt := s.ft, lk.pause := some (s.ft, st, none, none) }
  else s

def execCheckerSelfTest (s : State) : Host.Outcome State Fault Refusal := .next (leaveStepChecker s)

/-- A trial image in mode self confirms itself at the first pass of a self-test after EV_READY, where no fault has been detected
since (R809). -/
def selfConfirm (s : State) : State :=
  if ready s && onTrial s && slotState (latestBoot s) s.boot.bootRec.running == .trial && leNat (itemBoot s 0x0300) == 0 &&
      !s.boot.faultSeen then
    confirmImage none s
  else s

/-- CHECKER_SELF_TEST_DONE: the checker rejoins, or is retired with no rollback (R741). -/
def checkerDone (pass : Bool) (s : State) : State :=
  if pairRuns s && s.lk.pause.isSome then
    let w : LkId := if s.lk.a.role = .selfTest then .a else .b
    let ok := pass && !(s.lkOf w).faulty
    let s := endPause (tested w ok s)
    if ok then selfConfirm s else retireLk w s
  else s

def execCheckerSelfTestDone (pass : Bool) (s : State) : Host.Outcome State Fault Refusal := .next (checkerDone pass s)

/-! ### Watchdogs (R738, R814) -/

/-- WATCHDOG_EXPIRY: before EV_READY the module resets; else it is a fault of the lockkeeper. A return from PS4 comes after
EV_READY. -/
def watchdogStep (w : LkId) (s : State) : State :=
  if pairRuns s && decide ((s.lkOf w).watchdogAt + 16384 ≤ s.ft) && (s.lkOf w).role != .retired then
    let s := s.updLk w fun x => { x with watchdogs := satInc x.watchdogs, watchdogAt := s.ft }
    if ready s || s.boot.fromPs4 || s.boot.halted then lkFault (some w) 3 0 s else selfReset 5 s
  else s

def execWatchdogExpiry (lk : LkId) (s : State) : Host.Outcome State Fault Refusal := .next (watchdogStep lk s)

/-! ### Return to the pair (R747, R748) -/

/-- RETIRED_SELF_TEST: every 1,250,000,000 ticks; at 16 passes, with the comparator's, the lockkeeper rejoins as checker. -/
def retiredStep (pass cmpPass : Bool) (s : State) : State :=
  match retiredOf s with
  | none => s
  | some w =>
    if pairRuns s && decide (s.lk.retiredAt + 1250000000 ≤ s.ft) then
      let s := tested w pass { s with lk.retiredAt := s.ft, lk.cmpOk := cmpPass
                                      lk.cmpRun := if pass && cmpPass then s.lk.cmpRun + 1 else 0 }
      let s := s.updLk w fun x => { x with passRun := if pass then min 16 (x.passRun + 1) else 0 }
      let s := if 16 ≤ (s.lkOf w).passRun ∧ 16 ≤ s.lk.cmpRun then
          logEvent Ev.lockkeeperRejoin (leBytes 1 (lkNum w))
            { s.updLk w (fun x => { x with role := .checker }) with
              pins.faultN := !s.boot.halted, lk.rejoinedA := if w = .a then some s.ft else none }
        else s
      if pass then selfConfirm s else s
    else s

def execRetiredSelfTest (pass cmpPass : Bool) (s : State) : Host.Outcome State Fault Refusal :=
  .next (retiredStep pass cmpPass s)

/-- REJOIN_HELM: A takes the helm at K + 1 of the first commit after its rejoin, and B becomes checker (R748). -/
def rejoinStep (s : State) : State :=
  match s.lk.rejoinedA with
  | none => s
  | some t =>
    if comparing s && decide (t < s.pound.lastK ∧ s.pound.lastK + 1 ≤ s.ft) && !betweenVerdict s then
      takeHelm .a { s with lk.rejoinedA := none }
    else s

def execRejoinHelm (s : State) : Host.Outcome State Fault Refusal := .next (rejoinStep s)

end Sys2Proof.Machine
end

