-- ==== Sys2Proof/Machine/Spares.lean ====
section
/-!
DEFINITION. The joints of the stacks: control triples, vertical lanes, base-joint groups, fences, faulty routers and their route
tables (R94, R714 to R733).
-/

namespace Sys2Proof.Machine

/-! ### Repair records and fences (R723, R726 to R728) -/

/-- The repair records as the module now stands: failed bumps, fences, replaced groups, lost ports. -/
def repairData (s : State) : RecordData :=
  .repairs ((s.stk.cores.filter fun c => c.2.repairs ≠ []).map fun c => (c.1, c.2.repairs))
    ((s.stk.cores.filter fun c => c.2.fence ≠ 0).map fun c => (c.1, c.2.fence))
    (s.stk.dies.flatMap fun x => x.2.failedGroups.map fun g => (x.1, g))
    (s.stk.dies.flatMap fun x => x.2.lostPorts.map fun p => (x.1, p))

def writeRepairs (s : State) : State := flashAdd (.write 6 (repairData s) .nothing) s

/-- A core with its engines stopped. -/
def fencedCore (cause : Nat) (x : Core) : Core :=
  { coreOff x with fence := cause, heldLane := false, toSpare := [], testWords := [] }

/-- Fences a core for a cause of R726: its scratch counts as wiped, and the fence is recorded. It is a detected fault. -/
def fenceCore (c cause : Nat) (s : State) : State :=
  if (s.core c).fence ≠ 0 then s
  else
    let s := forgetScratch (· == c) (s.updCore c (fencedCore cause))
    let s := s.updStack (c / 128) fun x => { x with fences := satInc x.fences }
    writeRepairs (raiseFault Ev.coreFenced (leBytes 1 (c / 128) ++ leBytes 1 (c % 128) ++ leBytes 1 cause) s)

/-! ### Control triples (R716, R720) -/

/-- EV_CONTROL_VOTE. -/
def voteEvent (k core triple : Nat) (s : State) : State :=
  logEvent Ev.controlVote (leBytes 1 k ++ leBytes 1 core ++ leBytes 2 triple) s

/-- A core's control field has 272 triples: 13 address bits, 2 command bits, 256 byte enables and a parity bit. -/
def coreVote (c triple bump : Nat) (s : State) : State :=
  let x := s.core c
  if !scratchLive s c || 272 ≤ triple || 3 ≤ bump then s
  else if x.voted.contains triple then fenceCore c 2 s
  else
    voteEvent (c / 128) (c % 128) triple
      (s.updCore c fun x => { x with voted := x.voted ++ [triple], votedBump := Tab.put triple bump x.votedBump })

/-- A base joint's control field: the joint's code in the event is a free value. -/
def baseVote (k triple : Nat) (s : State) : State :=
  if !(s.stack k).powered || 16 ≤ k then s
  else if (s.stack k).voted.contains triple then (stackCores k).foldl (fun s c => fenceCore c 2 s) s
  else
    let (code, s) := draw s
    voteEvent k code triple (s.updStack k fun x => { x with voted := x.voted ++ [triple] })

/-- CONTROL_VOTE_FAIL: the first bump of a triple is marked; a disagreement of the two that remain is a fault (R720). -/
def voteStep (j : JointRef) (triple bump : Nat) (s : State) : State :=
  match j with
  | .core c => coreVote c triple bump s
  | .base k => baseVote k triple s

def execControlVoteFail (joint : JointRef) (triple bump : Nat) (s : State) : Host.Outcome State Fault Refusal :=
  .next (voteStep joint triple bump s)

/-! ### Vertical lanes (R717 to R723) -/

/-- The failed bumps a group's repair register names, in order of failure. -/
def repairRegister (s : State) (c g : Nat) : List Nat := Tab.getD [] g (s.core c).repairs

/-- The bump that carries a logical lane (R718). -/
def bumpOf (reg : List Nat) (lane : Nat) : Nat := ((List.range 132).filter fun b => !reg.contains b).getD lane 0

/-- How many bumps a group names, or is about to. -/
def namedBumps (s : State) (c g : Nat) : Nat :=
  (repairRegister s c g).length + ((s.core c).toSpare.filter fun x => x.1 = g).length

/-- A lane fails: it is spared in a lock window while its group names fewer than four bumps, else the core is fenced (R721). -/
def laneFails (c g lane : Nat) (s : State) : State :=
  if (s.core c).fence ≠ 0 || 36 ≤ g || 128 ≤ lane then s
  else if 4 ≤ namedBumps s c g then fenceCore c 1 s
  else
    let b := bumpOf (repairRegister s c g) lane
    let s := s.updCore c fun x => { x with heldLane := true, toSpare := x.toSpare ++ [(g, b)] }
    maintenance [] [.laneSpare c g]
      (logEvent Ev.laneFailed (leBytes 1 (c / 128) ++ leBytes 1 (c % 128) ++ leBytes 1 g ++ leBytes 1 b) s)

/-- No lane fails: the third error of a word fences the core (R721). -/
def wordFails (c w : Nat) (s : State) : State :=
  let n := Tab.getD 0 w (s.core c).wordErrs + 1
  let s := s.updCore c fun x => { x with wordErrs := Tab.put w n x.wordErrs }
  if 3 ≤ n then fenceCore c 3 s else s

/-- Bit j of byte b of a word, its parity bit being j = 8, on the write bus: its group, and lane in the group (R717). The read bus has the
same lane 18 groups on. -/
def bitLane (b j : Nat) : Nat × Nat := ((9 * b + j) / 128, (9 * b + j) % 128)

/-- The lanes that the monitor tests for a byte that erred: nine of the write bus and nine of the read bus (R717, R721). -/
def byteLanes (b : Nat) : List (Nat × Nat) :=
  (List.range 9).flatMap fun j => let x := bitLane b j; [x, (x.1 + 18, x.2)]

/-- LANE_TEST_DONE: the test that a parity error of a word began, of the lanes of each byte that erred (R721). `failed` names the group and
lane of those that fail. -/
def laneTest (c w : Nat) (failed : List (Nat × Nat)) (s : State) : State :=
  match Tab.find? w (s.core c).testWords with
  | none => s
  | some bytes =>
    if scratchLive s c then
      let bad := (bytes.flatMap byteLanes).filter fun x => failed.contains x
      let s := s.updCore c fun x => { x with testWords := Tab.del w x.testWords }
      let s := s.updStack (c / 128) fun x => { x with laneTests := satInc x.laneTests }
      if bad = [] then wordFails c w s else bad.foldl (fun s x => laneFails c x.1 x.2 s) s
    else s

def execLaneTestDone (core word : Nat) (failed : List (Nat × Nat)) (s : State) : Host.Outcome State Fault Refusal :=
  .next (laneTest core word failed s)

/-- Takes an act out of the started window that holds it, where one does. -/
def takeAct (a : WindowAct) (s : State) : Option State :=
  if s.base.windows.any fun w => w.started && w.acts.contains a then
    some { s with base.windows := s.base.windows.map fun w => if w.started then { w with acts := w.acts.erase a } else w }
  else none

/-- EV_LANE_SPARED, and the repair records (R723). -/
def spared (k unit group bump : Nat) (s : State) : State :=
  let s := s.updStack k fun x => { x with laneSpares := satInc x.laneSpares }
  logEvent Ev.laneSpared (leBytes 1 k ++ leBytes 1 unit ++ leBytes 1 group ++ leBytes 1 bump) (writeRepairs s)

/-- LANE_SPARE_WINDOW: at W the failed bump is named, the group retrains, and its 128 lanes are tested (R723). -/
def laneWindow (c g : Nat) (failedLane : Option Nat) (s : State) : State :=
  match takeAct (.laneSpare c g) s, (s.core c).toSpare.find? fun x => x.1 == g with
  | some s, some (_, b) =>
    let s := s.updCore c fun x =>
      { x with repairs := Tab.put g (Tab.getD [] g x.repairs ++ [b]) x.repairs, toSpare := x.toSpare.erase (g, b) }
    match failedLane with
    | some l => laneFails c g l s
    | none => spared (c / 128) (c % 128) g b (s.updCore c fun x => { x with heldLane := x.toSpare != [] })
  | _, _ => s

def execLaneSpareWindow (core group : Nat) (failedLane : Option Nat) (s : State) : Host.Outcome State Fault Refusal :=
  .next (laneWindow core group failedLane s)

/-! ### Base-joint groups (R714, R724, R725) -/

/-- The base port that a data group serves: groups 2p and 2p + 1 are the two directions of port p. -/
def portOfGroup (g : Nat) : Nat := g / 2

/-- The reaches next to one: in x, then in y (R94). -/
def nextReaches (r : Nat) : List Nat :=
  (if r % 4 = 0 then [] else [r - 1]) ++ (if r % 4 = 3 then [] else [r + 1]) ++ [(r + 4) % 8]

/-- A reach's off-die traffic goes to an adjacent reach's base port until the next boot (R94, R725). -/
def rerouteReach (k r : Nat) (s : State) : State :=
  match (nextReaches r).find? fun q => !(s.stack k).lostPorts.contains q with
  | some q => s.updStack k fun x => { x with portOf := Tab.put r q x.portOf }
  | none => s

/-- How many groups of a stack wait for the window that replaces them. -/
def groupsWaiting (s : State) (k : Nat) : Nat :=
  (s.base.windows.flatMap fun w => w.acts.filter fun a => match a with
    | .groupSpare j _ => j == k
    | _ => false).length

/-- A group fails: one of four spares that no other waits for replaces it in a lock window; a fifth failed group loses its base port. Which bump failed is a
free value: the group is replaced whole. -/
def groupFails (k g : Nat) (s : State) : State :=
  let p := portOfGroup g
  if (s.stack k).spareGroups ≤ groupsWaiting s k then
    let s := s.updStack k fun x => { x with lostPorts := if x.lostPorts.contains p then x.lostPorts else x.lostPorts ++ [p] }
    writeRepairs (raiseFault Ev.crossingLost (leBytes 1 k ++ leBytes 1 p) (rerouteReach k p s))
  else
    let (b, s) := draw s
    maintenance [] [.groupSpare k g] (logEvent Ev.laneFailed (leBytes 1 k ++ leBytes 1 p ++ leBytes 1 g ++ leBytes 1 b) s)

/-- A window that is to replace a group waits. -/
def groupWaits (k g : Nat) (s : State) : Bool := s.base.windows.any fun w => w.acts.contains (.groupSpare k g)

/-- BASE_GROUP_SPARE: a group is found failed, or in its window is replaced; `failedAgain` says that the spare fails too (R724,
R725). -/
def groupStep (k g : Nat) (failedAgain : Bool) (s : State) : State :=
  if 16 ≤ k || 16 ≤ g || !(s.stack k).powered || (s.stack k).lostPorts.contains (portOfGroup g) then s
  else match takeAct (.groupSpare k g) s with
    | some s =>
      let s := s.updStack k fun x => { x with spareGroups := x.spareGroups - 1, failedGroups := x.failedGroups ++ [g] }
      if failedAgain then groupFails k g s
      else let (b, s) := draw s; spared k (portOfGroup g) g b s
    | none => if groupWaits k g s then s else groupFails k g s

def execBaseGroupSpare (stack group : Nat) (failedAgain : Bool) (s : State) : Host.Outcome State Fault Refusal :=
  .next (groupStep stack group failedAgain s)

/-! ### Routers (R729 to R733) -/

/-- A router is faulty: its core is fenced, and EV_ROUTER_FAULT goes with the fence. -/
def routerFaulty (c : Nat) (s : State) : State :=
  let was := (s.core c).fence
  let args := leBytes 1 (c / 128) ++ leBytes 1 (c % 128)
  let s := s.updCore c fun x => { x with routerBad := true }
  let s := if baseRouter (c / 128) (reachOf (c % 128)) = c then rerouteReach (c / 128) (reachOf (c % 128)) s else s
  if was = 0 then fenceCore c 4 (logEventR (poundActive s) Ev.routerFault args s) else raiseFault Ev.routerFault args s

/-- A parity error in a core's engine or sequencer state: the second within 2^24 ticks fences the core (R726). -/
def logicFault (c : Nat) (s : State) : State :=
  if !scratchLive s c then s
  else if (s.core c).logicAt.any fun t => decide (s.ft ≤ t + 16777216) then fenceCore c 6 s
  else s.updCore c fun x => { x with logicAt := some s.ft }

/-- ROUTER_FAULT: a second flit-buffer parity error within one housekeeping round, or an output without credit for 2^12 ticks
(R729). -/
def routerFaultStep (c : Nat) (sym : RouterSymptom) (s : State) : State :=
  match sym with
  | .logicParity => logicFault c s
  | .creditStall => if !routerLive s c || (s.core c).routerBad then s else routerFaulty c s
  | .parity =>
    let k := s.ft / 131072
    if !routerLive s c || (s.core c).routerBad then s
    else if (s.router c).parityAt = some k then routerFaulty c s else s.updRouter c fun q => { q with parityAt := some k }

def execRouterFault (core : Nat) (symptom : RouterSymptom) (s : State) : Host.Outcome State Fault Refusal :=
  .next (routerFaultStep core symptom s)

/-- The routers a packet enters on its way from `a` to `b` in dimension order. -/
def pathTo (b : Nat) : Nat → Nat → List Nat
  | 0, _ => []
  | fuel + 1, a => if dimOut a b = 4 then [] else neighbour a (dimOut a b) :: pathTo b fuel (neighbour a (dimOut a b))

/-- A path from `a` to `b` enters no faulty router. -/
def pathClear (bad : List Nat) (a b : Nat) : Bool := (pathTo b 22 a).all fun r => !bad.contains r

/-- Hops of a dimension-order path. -/
def hops (a b : Nat) : Nat := (pathTo b 22 a).length

/-- The waypoint of a pair: both legs clear, the fewest hops, then the lowest core (R731). -/
def chooseWaypoint (bad cores : List Nat) (a b : Nat) : Option Nat :=
  ((cores.filter fun w => pathClear bad a w && pathClear bad w b).foldl (fun (best : Option (Nat × Nat)) w =>
    let n := hops a w + hops w b
    match best with
    | none => some (w, n)
    | some x => if n < x.2 then some (w, n) else some x) none).map Prod.fst

/-- A pair has a route. -/
def routable (bad cores : List Nat) (a b : Nat) : Bool := pathClear bad a b || (chooseWaypoint bad cores a b).isSome

/-- The faulty routers of a stack. -/
def badRouters (s : State) (k : Nat) : List Nat := (stackCores k).filter fun c => (s.core c).routerBad

/-- The waypoints of a stack: every pair whose dimension-order path enters a faulty router (R731). -/
def routeTable (bad cores : List Nat) : Tab Nat :=
  cores.flatMap fun a => (cores.filter fun b => b ≠ a && !pathClear bad a b).filterMap fun b =>
    (chooseWaypoint bad cores a b).map fun w => (a % 128 * 128 + b % 128, w)

/-- How many other cores of a list one has no route to or from. -/
def lacks (bad all live : List Nat) (c : Nat) : Nat :=
  (live.filter fun d => d ≠ c && !(routable bad all c d && routable bad all d c)).length

/-- The core that lacks the most routes, the lowest-numbered one where several do. -/
def mostIsolated (bad all live : List Nat) : Option Nat :=
  ((live.map fun c => (c, lacks bad all live c)).foldl (fun (best : Option (Nat × Nat)) x =>
    if x.2 = 0 then best
    else match best with
      | none => some x
      | some y => if y.2 < x.2 then some x else some y) none).map Prod.fst

/-- The cores to fence as isolated, worst first, until every pair left has its routes (R733). -/
def isolatedCores (bad all : List Nat) : Nat → List Nat → List Nat
  | 0, _ => []
  | fuel + 1, live =>
    match mostIsolated bad all live with
    | none => []
    | some c => c :: isolatedCores bad all fuel (live.erase c)

/-- Between the stop of releases by a rollback and the opening of its replay. -/
def stoppedForReplay (s : State) : Bool := s.pound.recovery.any fun r => r.stopped

/-- ROUTE_TABLE_WRITE: once releases have stopped and the mesh has drained, before the replay opens (R730). -/
def routeStep (k : Nat) (s : State) : State :=
  if stoppedForReplay s && meshDrained s k && (s.stack k).powered && decide (k < 16) then
    let bad := badRouters s k
    let s := s.updStack k fun x => { x with routes := routeTable bad (stackCores k) }
    (isolatedCores bad (stackCores k) 128 (unfenced s k)).foldl (fun s c => fenceCore c 5 s) s
  else s

def execRouteTableWrite (stack : Nat) (s : State) : Host.Outcome State Fault Refusal := .next (routeStep stack s)

end Sys2Proof.Machine
end

