-- ==== Sys2Proof/Machine/Security.lean ====
section
/-!
DEFINITION. Tamper, and the JTAG port (R774 to R777, R781 to R783, R787, R874 to R876).
-/

namespace Sys2Proof.Machine

/-! ### Tamper (R774 to R777) -/

/-- One TAMPER bit is blown, unless all 32 are (R774). -/
def blowTamper (s : State) : State := { s with sec.fuses.tamper := min 32 (s.sec.fuses.tamper + 1) }

/-- What the vault held is gone: keys, seeds, and slot 0 until it is reloaded (R774, R776, R777). -/
def zeroVault (s : State) : State :=
  { s with sec.vault := [], sec.seeds := false, sec.keyLoaded := false, sec.awaitSlot0 := true, sec.jtag.auth := none }

/-- Every session opened with a key is freed without a frame (R774). -/
def freeKeyed (s : State) : State :=
  ((s.net.sessions.filter fun x => (x.2.st == .opened || x.2.st == .closing) && x.2.key.isSome).map Prod.fst).foldl
    (fun s i => freeSession i s) s

/-- EV_TAMPER (R790). -/
def tamperEvent (source : Nat) (s : State) : State :=
  raiseFault Ev.tamper (leBytes 1 source ++ leBytes 1 s.sec.fuses.tamper) s

/-- A counted tamper event at T, with the module running: the secure parts and the vault go, every debug level ends, keyed
sessions are freed, a TAMPER bit is blown, the pound rolls back, and firmware erases the key record. -/
def tamperNow (source : Nat) (s : State) : State :=
  let s := freeKeyed (lowerAllDebug 0 5 (zeroVault (wipeSecure s)))
  let s := tamperEvent source (blowTamper s)
  if firmwareRuns s then flashAdd (.eraseRecord 4 .nothing) s else s

/-- The standby controller sees a source: 0 TAMPER_N, 1 the lid mesh (R774). It counts once until both have been clear for 2^27
ticks (R775), and not in VOID. Held in reset, or before boot, the event itself is left for the boot. -/
def tamperStep (source : Nat) (s : State) : State :=
  if lifeCycle s = 4 || 2 ≤ source then s
  else
    let was := s.sec.counted
    let s : State :=
      { s with sec.asserted := if s.sec.asserted.contains source then s.sec.asserted else s.sec.asserted ++ [source]
               sec.clearFor := 0, sec.counted := true, pins.tamperN := s.pins.tamperN && source != 0 }
    if was then s
    else if s.pins.resetN && decide (1 ≤ s.boot.phase) then tamperNow source s
    else { blowTamper (zeroVault s) with sec.owed := some source }

def execTamperDetect (source : Nat) (s : State) : Host.Outcome State Fault Refusal := .next (tamperStep source s)

/-- TAMPER_CLEAR: both sources have been clear for 2^27 ticks; slot 0 is reloaded from OWNER_ROOT (R775, R777). -/
def tamperClearStep (s : State) : State :=
  if s.sec.counted && decide (134217728 ≤ s.sec.clearFor) then
    { s with sec.asserted := [], sec.counted := false, sec.awaitSlot0 := false, pins.tamperN := true }
  else s

def execTamperClear (s : State) : Host.Outcome State Fault Refusal := .next (tamperClearStep s)

/-! ### Boundary scan (R781, R875) -/

/-- What the 25 cells capture: the lands whose level the state holds, and free values elsewhere. -/
def captureCells (s : State) : Nat × State :=
  let (x, s) := drawBelow 65536 s
  (bit s.pins.resetN + 2 * bit s.pins.vrReady + 4 * bit s.pins.tamperN + 24 * bit s.pins.thermtripN +
    96 * bit s.pins.alertN + 384 * bit s.pins.faultN + 512 * x, s)

/-- The outputs are the module's own again: released, as in reset. -/
def releaseCells (s : State) : State :=
  if s.pins.driven then { s with pins := { s.pins with driven := false, thermtripN := true, alertN := true, faultN := true } } else s

/-- The cells drive the open-drain outputs: a 0 pulls low. -/
def driveCells (cells : Nat) (s : State) : State :=
  { s with pins := { s.pins with driven := true, thermtripN := bitOf cells 3, alertN := bitOf cells 5, faultN := bitOf cells 7 } }

/-- Selects an instruction: what the one before did to the outputs ends, and its data register holds `dr`. -/
def selectIr (ir dr : Nat) (s : State) : State :=
  { releaseCells s with sec.jtag.ir := ir, sec.jtag.dr := dr, sec.jtag.clamp := false, sec.jtag.highz := false }

/-- BYPASS: the one-bit register captures 0. -/
def bypass (s : State) : State := selectIr 0xFF 0 s

/-- JTAG_EXTEST: while RESET_N is asserted the cells shifted in drive the lands; at other times it selects BYPASS. -/
def extestStep (cells : Nat) (s : State) : State :=
  if s.pins.resetN then bypass s
  else
    let (v, s) := captureCells s
    driveCells cells { selectIr 0x00 v s with sec.jtag.cells := cells % 2 ^ 25 }

def execJtagExtest (cells : Nat) (s : State) : Host.Outcome State Fault Refusal := .next (extestStep cells s)

/-- JTAG_IDCODE. -/
def execJtagIdcode (s : State) : Host.Outcome State Fault Refusal := .next (selectIr 0x01 0x14C9656B s)

/-- JTAG_SAMPLE_PRELOAD: the cells capture the lands and take what is shifted in. -/
def sampleStep (cells : Nat) (s : State) : State :=
  let (v, s) := captureCells s
  { selectIr 0x02 v s with sec.jtag.cells := cells % 2 ^ 25 }

def execJtagSamplePreload (cells : Nat) (s : State) : Host.Outcome State Fault Refusal := .next (sampleStep cells s)

/-- JTAG_CLAMP: the cells hold the outputs while RESET_N is asserted. -/
def clampStep (s : State) : State :=
  if s.pins.resetN then bypass s else { driveCells s.sec.jtag.cells (selectIr 0x03 0 s) with sec.jtag.clamp := true }

def execJtagClamp (s : State) : Host.Outcome State Fault Refusal := .next (clampStep s)

/-- JTAG_HIGHZ: every output floats while RESET_N is asserted. -/
def highzStep (s : State) : State :=
  if s.pins.resetN then bypass s else { selectIr 0x04 0 s with sec.jtag.highz := true }

def execJtagHighz (s : State) : Host.Outcome State Fault Refusal := .next (highzStep s)

/-- JTAG_BYPASS. -/
def execJtagBypass (s : State) : Host.Outcome State Fault Refusal := .next (bypass s)

/-- TAP_RESET: the level of JTAG ends, its authentication with it, and IDCODE is selected as IEEE 1149.1 has it (R787, R874). -/
def tapStep (s : State) : State :=
  let s := lowerDebug .jtag 0 2 s
  { selectIr 0x01 0x14C9656B s with sec.jtag.auth := none, sec.jtag.cells := 0 }

def execTapReset (s : State) : Host.Outcome State Fault Refusal := .next (tapStep s)

/-! ### Debug by JTAG (R782, R783) -/

/-- "LF96DBG". -/
def dbgCustom : Bytes := [0x4C#8, 0x46#8, 0x39#8, 0x36#8, 0x44#8, 0x42#8, 0x47#8]

/-- The tag that DBG_AUTH must carry: KMAC256 under the slot's key of the nonce, UNIT_ID and LEVEL. -/
def dbgTag (key : Bytes) (nonce unitId level : Nat) : Nat :=
  leNat (kmac256 key (leBytes 32 nonce ++ leBytes 16 unitId ++ leBytes 1 level) dbgCustom)

/-- The tag matches the slot's key. -/
def dbgMatch (s : State) (slot level reserved tag nonce : Nat) : Bool :=
  match slotKey s slot with
  | some key => reserved == 0 && dbgTag key nonce s.sec.fuses.unitId level == tag
  | none => false

/-- Opens the level that DBG_AUTH asks for, where the matrix and R784 allow it. -/
def authLevel (level : Nat) (s : State) : State :=
  if levelAllowed s level && !(decide (2 ≤ level) && otherHolds s .jtag) then openLevel .jtag level s else s

/-- DBG_AUTH: a fresh nonce is captured, and the update loads the fields (R782). Before boot no key stands to match. -/
def authStep (slot level reserved tag : Nat) (s : State) : State :=
  if lifeCycle s = 4 then bypass s
  else
    let (n, s) := drawBelow (2 ^ 256) s
    let s : State := { selectIr 0x10 n s with sec.jtag.nonce := n }
    if !s.pins.resetN || s.boot.phase = 0 then s
    else if dbgMatch s (slot % 256) (level % 256) (reserved % 65536) tag n then
      authLevel (level % 256) { s with sec.jtag.auth := some (slotClass (slot % 256)) }
    else logEvent Ev.debugDenied (leBytes 1 slot ++ leBytes 1 level) s

def execDbgAuth (slot level reserved tag : Nat) (s : State) : Host.Outcome State Fault Refusal :=
  .next (authStep slot level reserved tag s)

/-- DBG_MAIL: the register captures the reply, its length before it, and takes a message of at most 1,024 bytes while none waits
(R29, R783). -/
def mailRegister (message : Bytes) (s : State) : State :=
  if lifeCycle s = 4 then bypass s
  else
    let r := s.sec.jtag.reply
    let s := selectIr 0x11 (leNat (leBytes 4 r.length ++ r)) s
    if 1024 < message.length || s.sec.jtag.mail.isSome || !s.pins.resetN then s
    else { s with sec.jtag.mail := some message, sec.jtag.reply := [] }

def execDbgMail (message : Bytes) (s : State) : Host.Outcome State Fault Refusal := .next (mailRegister message s)

end Sys2Proof.Machine
end

