-- ==== Sys2Proof/Machine/Signature.lean ====
section
/-!
DEFINITION. Verification of an XMSS-SHAKE256_20_256 signature (R17, R778; NIST SP 800-208, RFC 8391): 32-byte nodes, Winternitz
parameter 16 with 67 chains, and a tree of height 20. An address is its eight 32-bit words, most significant byte first.
-/

namespace Sys2Proof.Machine

/-- The `n` bytes of `v`, most significant first. -/
def bigBytes (n v : Nat) : Bytes := (leBytes n v).reverse

/-- The number whose bytes, most significant first, are `m`. -/
def bigNat (m : Bytes) : Nat := leNat m.reverse

/-- The eight words of a hash address: layer, tree (two words), type, three words of that type's own, and which of a key and its masks
is wanted. -/
def xmssAdrs (type a b c mask : Nat) : Bytes := [0, 0, 0, type, a, b, c, mask].flatMap (bigBytes 4)

/-- A keyed hash of the scheme: its number, its key, its message. -/
def xmssHash (kind : Nat) (key m : Bytes) : Bytes := shake256 (bigBytes 32 kind ++ key ++ m)

/-- A key or mask of the public seed at an address. -/
def xmssPrf (seed adrs : Bytes) : Bytes := xmssHash 3 seed adrs

/-- Two byte strings added without carry. -/
def xorBytes (a b : Bytes) : Bytes := (a.zip b).map fun p => p.1 ^^^ p.2

/-- Steps `i` to `i + n - 1` of chain `c` of one-time key `k`. -/
def xmssChain (seed : Bytes) (k c : Nat) : Nat → Nat → Bytes → Bytes
  | 0, _, x => x
  | n + 1, i, x =>
    let key := xmssPrf seed (xmssAdrs 0 k c i 0)
    let mask := xmssPrf seed (xmssAdrs 0 k c i 1)
    xmssChain seed k c n (i + 1) (xmssHash 0 key (xorBytes x mask))

/-- The parent of two nodes, at an address of the given type, first word, height and index. -/
def xmssParent (seed : Bytes) (type a height index : Nat) (l r : Bytes) : Bytes :=
  let at' := fun (mask : Nat) => xmssPrf seed (xmssAdrs type a height index mask)
  xmssHash 1 (at' 0) (xorBytes l (at' 1) ++ xorBytes r (at' 2))

/-- The four-bit digits of a byte string, the high one of each byte first. -/
def xmssDigits (m : Bytes) : List Nat := m.flatMap fun b => [b.toNat / 16, b.toNat % 16]

/-- The 67 digits that a message digest is signed by: its own 64, and those of their checksum. -/
def xmssBase (d : Bytes) : List Nat :=
  let l := xmssDigits d
  l ++ (xmssDigits (bigBytes 2 (16 * l.foldl (fun a x => a + (15 - x)) 0))).take 3

/-- One level of the tree over a one-time key's chain ends: pairs are joined, an odd last one rises. -/
def xmssLevel (seed : Bytes) (k height : Nat) : Nat → List Bytes → List Bytes
  | i, a :: b :: t => xmssParent seed 1 k height i a b :: xmssLevel seed k height (i + 1) t
  | _, t => t

/-- The root over a one-time key's chain ends; 67 of them take seven levels. -/
def xmssLeaf (seed : Bytes) (k : Nat) (ends : List Bytes) : Bytes :=
  ((List.range 7).foldl (fun l h => xmssLevel seed k h 0 l) ends).headD []

/-- A byte string in pieces of 32. -/
def pieces32 (n : Nat) (m : Bytes) : List Bytes := (List.range n).map fun i => (m.drop (32 * i)).take 32

/-- The root that a leaf and its authentication path lead to. -/
def xmssRoot (seed : Bytes) (k : Nat) (leaf : Bytes) (path : List Bytes) : Bytes :=
  path.zipIdx.foldl (fun node p =>
    let index := k / 2 ^ (p.2 + 1)
    if k / 2 ^ p.2 % 2 = 0 then xmssParent seed 2 0 p.2 index node p.1 else xmssParent seed 2 0 p.2 index p.1 node) leaf

/-- Whether a signature of 2,820 bytes over a message verifies under a public key of 68 bytes: its algorithm's number, the root and the
public seed (R778). -/
@[irreducible] def xmssVerify (pub msg sig : Bytes) : Bool :=
  let root := (pub.drop 4).take 32
  let seed := (pub.drop 36).take 32
  let k := bigNat (sig.take 4)
  let digest := xmssHash 2 ((sig.drop 4).take 32 ++ root ++ bigBytes 32 k) msg
  let ends := ((pieces32 67 (sig.drop 36)).zip (xmssBase digest)).zipIdx.map fun p =>
    xmssChain seed k p.2 (15 - p.1.2) p.1.2 p.1.1
  sig.length == 2820 && xmssRoot seed k (xmssLeaf seed k ends) (pieces32 20 (sig.drop 2180)) == root

end Sys2Proof.Machine
end

