-- ==== Sys2Proof/Machine/Boot.lean ====
section
/-!
DEFINITION. Boot: the start, image choice and verification, the phases and their failures, and EV_READY (R766, R767, R800, R802 to
R820, R867, R869).
-/

namespace Sys2Proof.Machine

/-! ### The start (R774, R776, R867, R869) -/

/-- A region stands at or above its trip threshold. -/
def hotAtBoot (s : State) : Bool := (List.range 29).any fun r => (regionSensors r).any fun c => decide (tripLimit r ≤ sampleOf s c)

/-- The event of a tamper found before the lockkeepers ran. -/
def owedTamper (s : State) : State :=
  match s.sec.owed with
  | some src => tamperEvent src { s with sec.owed := none }
  | none => s

/-- BOOT_START: at the later of RESET_N's release and VR_READY. A region at its trip threshold halts the module in the boot ROM. -/
def bootStep (samples : Tab Int) (s : State) : State :=
  if s.boot.phase ≠ 0 then s
  else
    let s := releaseCells s
    let s : State :=
      { s with
        pins.resetN := true, pins.vrReady := true, sec.jtag.clamp := false, sec.jtag.highz := false, sec.seeds := true
        boot.phase := 1, boot.cause := if s.boot.poweredOnce then s.boot.resetCause else 0, boot.poweredOnce := true
        boot.trialAt := some 0, power.samples := samples, lk.a.watchdogAt := s.ft, lk.b.watchdogAt := s.ft }
    let s := owedTamper s
    if hotAtBoot s then { s with pins.thermtripN := false, pins.faultN := false, boot.romHalt := true } else s

def execBootStart (samples : Tab Int) (s : State) : Host.Outcome State Fault Refusal := .next (bootStep samples s)

/-! ### Records at boot (R793, R800) -/

/-- Erases a copy that is neither valid nor blank; where the other copy is valid this is logged. -/
def eraseTorn (kind copy : Nat) (s : State) : State :=
  let r := s.record kind
  if copyState r copy = .torn then
    let s := eraseCopy kind copy s
    if (copySeq (copyState r (1 - copy))).isSome then logEvent Ev.recordTorn (leBytes 1 kind ++ leBytes 1 copy) s else s
  else s

def eraseTorns (kind : Nat) (s : State) : State := eraseTorn kind 1 (eraseTorn kind 0 s)

/-! ### Image verification (R802 to R804) -/

/-- The first check of R804 that an image fails; 0 where it passes. -/
def imageCheck (s : State) (img : Bytes) : Nat :=
  let key := leField img 0x0B 1
  let keys := (img.drop 0x50).take 272
  let pub := (keys.drop (68 * key)).take 68
  let len := leField img 0x20 8
  let body := (img.drop 0x1000 ++ List.replicate len 0xFF#8).take len
  if leField img 0 4 ≠ 0x4657464C ∨ leField img 4 2 ≠ 1 then 1
  else if leField img 6 2 ≠ 0x4C96 ∨ leField img 8 1 ≠ 0xA1 then 2
  else if !(leField img 9 1 = 0 ∨ (leField img 9 1 = 1 ∧ leField img 0x10 16 = s.sec.fuses.unitId)) then 3
  else if shake256 keys ≠ s.sec.fuses.fwRoot ∨ 3 < key ∨ leNat pub = 0 then 4
  else if !xmssVerify pub (img.take 0x160) ((img.drop 0x160).take 2820) then 5
  else if len = 0 ∨ 32 * 2 ^ 20 - 4096 < len ∨ shake256 body ≠ (img.drop 0x30).take 32 then 6
  else if 64 < imageSvn img ∨ imageSvn img < s.sec.fuses.svn then 7
  else 0

/-- The image in a slot. -/
def slotImage (s : State) (slotB : Bool) : Bytes := if slotB then s.flash.imageB else s.flash.imageA

/-! ### The boot ROM's choice (R807) -/

/-- Stores the boot state before the chosen image starts. -/
def storeBoot (b : BootRec) (s : State) : State := storeNow 1 (.boot b) s

/-- A trial that falls back. The code of its cause, expiry or boots, is a free value. -/
def fallBack (b : BootRec) (s : State) : State :=
  let (c, s) := draw s
  storeBoot { setSlot b b.running .rejected with running := !b.running, count := 0 }
    (logEvent Ev.updateReverted (leBytes 1 (bit b.running) ++ leBytes 1 c) s)

/-- The first row of R807 that applies. -/
def chooseImage (s : State) : State :=
  let b := s.boot.bootRec
  if slotState b b.running = .trial then
    if s.boot.cause = 4 ∨ b.count = 3 then fallBack b s else storeBoot { b with count := b.count + 1 } s
  else if slotState b (!b.running) = .pending then
    let n := imageCheck s (slotImage s (!b.running))
    if n = 0 then storeBoot { setSlot b (!b.running) .trial with running := !b.running, count := 1 } s
    else
      storeBoot (setSlot b (!b.running) .rejected)
        (logEvent Ev.updateReject (leBytes 1 (bit !b.running) ++ leBytes 1 n) s)
  else s

/-- Phase 1: the boot state is loaded, a torn copy of it erased, and the image chosen. -/
def romPhase (s : State) : State :=
  let s := eraseTorns 1 s
  let s : State := { s with boot.bootRec := match (s.record 1).data with
    | some (.boot b) => b
    | _ => {} }
  chooseImage s

/-! ### Phase 2 (R804, R810) -/

/-- No slot boots: the module halts in the boot ROM. -/
def noImage (s : State) : State := { s with boot.romHalt := true, pins.faultN := false }

/-- The chosen slot is verified; where it fails, the other is tried if it is CONFIRMED. -/
def imagePhase (s : State) : State :=
  let b := s.boot.bootRec
  let n := imageCheck s (slotImage s b.running)
  if n = 0 then s
  else
    let s := logEvent Ev.imageInvalid (leBytes 1 (bit b.running) ++ leBytes 1 n) s
    if slotState b (!b.running) = .confirmed ∧ imageCheck s (slotImage s (!b.running)) = 0 then
      storeBoot { b with running := !b.running } s
    else noImage s

/-- Whether the running image is on trial decides whether its timer runs on (R808). -/
def trialTimer (s : State) : State := if onTrial s then s else { s with boot.trialAt := none }

/-! ### Phase 3 (R761, R765, R766, R779, R793, R800, R809, R821) -/

/-- The key record: loaded into the vault, or erased where it does not unwrap. -/
def loadKeys (s : State) : State :=
  match (s.record 4).data with
  | some (.keys slots epoch) =>
    if epoch = wrapEpoch s then
      { s with sec.vault := slots.foldl (fun t k => Tab.put k.1 k.2 t) s.sec.vault, sec.keyLoaded := true }
    else eraseCopy 4 0 (eraseCopy 4 1 s)
  | _ => s

/-- The full wipe of a boot in RETURNED or VOID that finds no wipe marker. -/
def bootWipe (s : State) : State :=
  if (lifeCycle s = 3 ∨ lifeCycle s = 4) ∧ !s.sec.wipeMarker then
    storeNow 3 .wipe (eraseCopy 8 0 (eraseCopy 8 1 (storeNow 7 (.config {}) (eraseCopy 4 0 (eraseCopy 4 1 (wipeNow s))))))
  else s

/-- The records that are no keys, as R793 loads them. -/
def loadRecords (s : State) : State :=
  let cfg : ConfigRec := match (s.record 7).data with
    | some (.config c) => c
    | _ => {}
  let bound := match (s.record 2).data with
    | some (.attest n) => some n
    | _ => none
  let trips := match (s.record 5).data with
    | some (.trips l n) => (l, n)
    | _ => ([], 0)
  { s with
    boot.config := cfg, sec.leafBound := bound, sec.leaf := bound.getD 0, sec.wipeMarker := (s.record 3).data.isSome
    power.tripLog := trips.1, power.trips := trips.2 }

/-- The items that take effect at boot (R351, R529, R821). -/
def latchConfig (s : State) : State :=
  let s : State := { s with boot.force := s.boot.config }
  let p := itemBoot s 0x0010
  let on := leField p 0 2 != 0
  { s with
    mem.fraction := leNat (itemBoot s 0x0001), torus.eligible := leNat (itemBoot s 0x0011) == 1
    torus.partition := leField p 0 2
    torus.dims := if on then [leField p 2 1, leField p 3 1, leField p 4 1] else [1, 1, 1]
    torus.coord := if on then leField p 5 3 else 0 }

/-- SVN bits that a CONFIRMED running image still requires are blown (R809). -/
def blowSvn (s : State) : State :=
  if slotState s.boot.bootRec s.boot.bootRec.running = .confirmed then
    { s with sec.fuses.svn := max s.sec.fuses.svn (min 64 (imageSvn (runningImage s))) }
  else s

/-- Phase 3. -/
def configPhase (s : State) : State :=
  let s := ([2, 3, 4, 5, 6, 7, 8] : List Nat).foldl (fun s k => eraseTorns k s) s
  blowSvn (latchConfig (bootWipe (loadKeys (loadRecords s))))

/-! ### Phase 4 (R304, R306, R816 to R818) -/

/-- Lights the lasers of the groups a test selects. After a reset every primary serves its lane, and spares are idle. -/
def firstLight (p : Nat → Bool) (s : State) : State :=
  if s.boot.fromPs4 then lightOn p s
  else ((List.range 10).filter p).foldl (fun s g => (groupLasers g).zipIdx.foldl (fun s x =>
    s.updLaser x.1 fun l =>
      if x.2 < 17 then { l with state := 0, serves := x.2, lit := true, drive := 196 } else { l with state := 5, serves := 31 }) s) s

/-- Stamps the entries held until now, in order (R816). -/
def stampHeld (s : State) : State :=
  (s.log.entries.filter fun e => e.stamp.isNone).foldl (fun s e =>
    match issueStamp 30 (.event e.lseq) s with
    | (some st, s) => giveStamp (.event e.lseq) st s
    | (none, s) => s) s

/-- A module left with the oscillator alone, or without a master in its partition, says so. -/
def sourceReport (s : State) : State :=
  if s.time.source = 0 ∨ (s.torus.partition ≠ 0 ∧ s.time.masterCoord.isNone) then
    logEvent Ev.ftState (leBytes 1 s.time.mode ++ leBytes 1 s.time.mode ++ leBytes 1 s.time.source) s
  else s

/-- A calibration set stands ready: kept through PS4, or in its record (R819). -/
def restorable (s : State) : Bool := s.boot.fromPs4 || (s.record 8).data.isSome

/-- Phase 4. -/
def timePhase (s : State) : State :=
  let s := reselect (firstLight (fun g => 4 ≤ g) s)
  let s := stampHeld { s with time.loaded := true, boot.restored := restorable s }
  sourceReport s

/-! ### Phases 5 and 6 (R477, R517, R818, R819) -/

/-- Restored values that fail their acceptance. -/
def rejectRestored (l : List (Nat × Nat)) (s : State) : State :=
  l.foldl (fun s x => calibCount x.1 x.2 false { s with boot.restored := false }) s

/-- Phase 5: banks lit, rings locked, port plan installed. -/
def laserPhase (down : List Nat) (rings : List RingRef) (rejected : List (Nat × Nat)) (s : State) : State :=
  let s := baseLinksUp (fibreCredits (allotAll (installPlan (firstLight (fun g => g < 4) s))))
  let s := (down.filter (· < 4)).foldl (fun s g => groupDown g s) s
  let s := rings.foldl (fun s r => maintenance [ringLink r] [.relock r] (suspectLane (ringLink r) r.lane s)) s
  rejectRestored (rejected.filter fun x => x.1 < 5) s

/-- Boot halts: a sub-channel has failed its training. -/
def haltBoot (s : State) : State :=
  logEvent Ev.bootHalt (leBytes 1 6) { s with boot.halted := true, boot.phase := 6, pins.faultN := false }

/-- The restored training values of a sub-channel: those kept through PS4, or those of the calibration record (R518, R819). -/
def restoredValue (s : State) (i : Nat) : Option Nat :=
  if s.boot.fromPs4 then Tab.find? (i % 48) (s.memBerth (i / 48)).values
  else match (s.record 8).data with
    | some (.calib d) => some (Config.trainingOf d i)
    | _ => none

/-- A sub-channel is trained in full: nothing is restored for it, or its restored values have failed verification (R516, R518). -/
def trainsFull (s : State) (rejected : List Nat) (i : Nat) : Bool := (restoredValue s i).isNone || rejected.contains i

/-- The values that a berth's sub-channels begin with. -/
def trainedValues (s : State) (rejected : List Nat) (k : Nat) : Tab Nat :=
  (List.range 48).map fun j =>
    let i := 48 * k + j
    (j, if trainsFull s rejected i then Config.trained s.freeCtr i else (restoredValue s i).getD 0)

/-- Phase 6: every sub-channel is verified with its restored values, or trained, and then takes all-bank refresh. One whose training fails
is retrained up to three times; where the fourth attempt fails, boot stops (R494, R516 to R518). -/
def memPhase (failed : List (Nat × Nat)) (rejected : List Nat) (s : State) : State :=
  let bad := (rejected.filter fun i => decide (i < 384) && (restoredValue s i).isSome).eraseDups
  let tries := failed.filter fun x => decide (x.1 < 384) && trainsFull s rejected x.1
  let dead := tries.filter fun x => decide (4 ≤ x.2)
  let u : State :=
    { s with freeCtr := s.freeCtr + 1
             mem.berths := (List.range 8).map fun k =>
               (k, { s.memBerth k with values := trainedValues s rejected k, allBank := some s.ft }) }
  let u := tries.foldl (fun s x => s.updMemBerth (x.1 / 48) fun b => { b with retrains := satAdd b.retrains (min x.2 3) }) u
  let u := rejectRestored (bad.map fun i => (5, i)) u
  let u := dead.foldl (fun s x => logEvent Ev.memTrainFail (leBytes 1 (x.1 / 8) ++ leBytes 1 (x.1 % 8)) s) u
  if dead = [] then u else haltBoot u

/-! ### Phase 7 and EV_READY (R346, R690, R691, R719, R728, R818) -/

/-- A boot ends the assignments of R94, and makes anew those that lost ports and faulty base-port routers call for (R94, R725). -/
def assignPorts (s : State) : State :=
  (List.range 16).foldl (fun s k =>
    let bad := (List.range 8).filter fun r => (s.stack k).lostPorts.contains r || (s.core (baseRouter k r)).routerBad
    bad.foldl (fun s r => rerouteReach k r s) (if (s.stack k).portOf = [] then s else s.updStack k fun x => { x with portOf := [] })) s

/-- The repair records: registers, fences, replaced groups and lost ports. A return from PS4 finds them in place. -/
def loadRepairs (s : State) : State :=
  assignPorts (match s.boot.fromPs4, (s.record 6).data with
  | false, some (.repairs r fences groups ports) =>
    let s := r.foldl (fun s x => s.updCore x.1 fun c => { c with repairs := x.2 }) s
    let s := fences.foldl (fun s x => s.updCore x.1 fun c => { c with fence := x.2, routerBad := x.2 == 4 }) s
    let s := groups.foldl (fun s x => s.updStack x.1 fun k =>
      { k with failedGroups := k.failedGroups ++ [x.2], spareGroups := k.spareGroups - 1 }) s
    ports.foldl (fun s x => s.updStack x.1 fun k => { k with lostPorts := k.lostPorts ++ [x.2] }) s
  | _, _ => s)

/-- A stack whose PLL does not lock stays unpowered. -/
def pllFails (k : Nat) (s : State) : State :=
  logEvent Ev.stackClock (leBytes 1 k) (s.updStack k fun x => { x with pllOk := false, powered := false, clocked := false })

/-- A stack that has lost its last core goes off again. -/
def emptyOff (s : State) : State :=
  { s with stk.dies := s.stk.dies.mapVals fun k x => if unfenced s k = [] then { x with powered := false, clocked := false } else x }

/-- Phase 7: repairs and fences, PLLs at step 0, every lane tested. -/
def stackPhase (pll : List Nat) (lanes : List (Nat × Nat × Nat)) (s : State) : State :=
  let s := loadRepairs s
  let s := ((usableStacks s).filter fun k => !pll.contains k).foldl (fun s k => stackOn k s) s
  let s := (pll.filter (· < 16)).foldl (fun s k => pllFails k s) s
  emptyOff ((lanes.filter fun x => scratchLive s x.1).foldl (fun s x => laneFails x.1 x.2.1 x.2.2 s) s)

/-- A POWER_SET held until now starts (R690). -/
def startHeld (s : State) : State :=
  match s.power.heldReq with
  | some h => startTransition h.target h.cap (some h.job) .host { s with power.heldReq := none }
  | none => s

/-- EV_READY, and pound 1 opens. -/
def announceReady (s : State) : State :=
  let ms := min 65535 s.boot.elapsedMs
  let s : State := { s with boot.phase := 8, boot.readyMs := ms, boot.faultSeen := false }
  let s := logEvent Ev.ready (leBytes 1 (bit s.boot.bootRec.running) ++ leBytes 2 ms ++ leBytes 1 (bit s.boot.restored)) s
  let s := openPound s
  let s := if s.boot.fromPs4 then s else logEvent Ev.powerState (leBytes 1 4 ++ leBytes 1 0 ++ leBytes 1 2) s
  startHeld (scheduleAll s)

/-! ### BOOT_PHASE_END (R812, R818) -/

/-- The budget of a phase in milliseconds. -/
def phaseBudget (s : State) (phase : Nat) : Nat :=
  if phase = 1 then 20 else if phase = 2 then 200 else if phase = 3 then 60
  else if phase = 4 then (if s.torus.partition = 0 then 100 else 300)
  else if phase = 5 then (if s.boot.restored then 100 else 600)
  else if phase = 6 then (if s.boot.restored then 150 else 900)
  else 300

/-- A phase longer than its budget is reported, and boot goes on. -/
def slowReport (phase ms : Nat) (s : State) : State :=
  if phaseBudget s phase < ms then logEvent Ev.bootSlow (leBytes 1 phase ++ leBytes 2 ms) s else s

/-- A phase can end now: it is in progress, and nothing holds boot. -/
def phaseRuns (s : State) (phase : Nat) : Bool :=
  s.pins.resetN && !s.boot.romHalt && !s.boot.halted && !stranded s && s.power.tripAt.isNone && s.power.transition.all (·.target != 4) &&
  (s.power.pstate != 4 || s.boot.fromPs4) && !(lifeCycle s == 4 && decide (4 ≤ phase)) &&
  (if phase = 5 then s.boot.phase == 5 && !s.boot.phase5 else if phase = 6 then s.boot.phase == 5 && !s.boot.phase6
   else s.boot.phase == phase && decide (1 ≤ phase ∧ phase ≤ 7) && (phase != 7 || s.lk.test.isNone))

/-- Firmware begins with no thermal and no margin limit on any stack: until then the words of R711 read 0 (R330). -/
def takeLimits (s : State) : State :=
  (List.range 16).foldl (fun s k => s.updStack k fun x => { x with thermLimit := 11, marginLimit := 11 }) s

/-- What a phase does. -/
def phaseWork (phase : Nat) (r : PhaseReport) (s : State) : State :=
  if phase = 1 then romPhase s
  else if phase = 2 then takeLimits (trialTimer (imagePhase s))
  else if phase = 3 then configPhase s
  else if phase = 4 then timePhase s
  else match phase, r with
    | 5, .laserPhase down rings rejected => laserPhase down rings rejected s
    | 5, _ => laserPhase [] [] [] s
    | 6, .memPhase failed rejected => memPhase failed rejected s
    | 6, _ => memPhase [] [] s
    | _, .stackPhase pll lanes => stackPhase pll lanes s
    | _, _ => stackPhase [] [] s

/-- Counts a phase's time; phases 5 and 6 run together, so the longer one counts. -/
def phaseTime (phase ms : Nat) (s : State) : State :=
  if phase = 5 ∨ phase = 6 then { s with boot.parMs := max s.boot.parMs ms }
  else { s with boot.elapsedMs := s.boot.elapsedMs + ms }

/-- What comes after a phase. -/
def nextPhase (phase : Nat) (s : State) : State :=
  if s.boot.romHalt || s.boot.halted then s
  else if phase ≤ 4 then { s with boot.phase := phase + 1, boot.parMs := 0, boot.phase5 := false, boot.phase6 := false }
  else if phase = 7 then announceReady s
  else
    let s : State := if phase = 5 then { s with boot.phase5 := true } else { s with boot.phase6 := true }
    if s.boot.phase5 && s.boot.phase6 then { s with boot.phase := 7, boot.elapsedMs := s.boot.elapsedMs + s.boot.parMs } else s

/-- BOOT_PHASE_END. In VOID boot stops after configuration load (R767). -/
def phaseStep (phase ms : Nat) (r : PhaseReport) (s : State) : State :=
  if phaseRuns s phase then nextPhase phase (slowReport phase ms (phaseTime phase ms (phaseWork phase r s))) else s

def execBootPhaseEnd (phase elapsedMs : Nat) (report : PhaseReport) (s : State) : Host.Outcome State Fault Refusal :=
  .next (phaseStep phase elapsedMs report s)

end Sys2Proof.Machine
end

