-- ==== Sys2Proof/Machine/Telemetry.lean ====
section
/-!
DEFINITION. Telemetry: the status words, the counters, and TELEMETRY_READ (R313, R396, R447, R448, R486 to R488, R575, R576, R623,
R624, R639, R711, R712, R751 to R753, R789, R823, R837 to R841).
-/

namespace Sys2Proof.Machine

/-! ### Module words (R712, R789, R823) -/

/-- The value of the j-th free draw of a read. -/
def freeAt (s : State) (j : Nat) : Nat := Config.free (s.freeCtr + j)

/-- HK_STATUS. -/
def hkStatus (s : State) : Nat :=
  s.power.pstate * 2 ^ 29 + bit s.power.transition.isSome * 2 ^ 28 + bit s.power.shutdown * 2 ^ 27 + bit (!s.pins.alertN) * 2 ^ 26 +
  s.power.broken.length % 1024 * 2 ^ 16 + s.power.round % 65536

/-- The highest open debug level. -/
def topLevel (s : State) : Nat := s.net.sessions.foldl (fun a x => max a x.2.level) s.sec.jtag.level

/-- SEC_STATUS. Whether a source that has been met is still asserted is a free bit. -/
def secStatus (s : State) (j : Nat) : Nat :=
  let now := if s.sec.asserted = [] then 0 else freeAt s j % 2
  lifeCycle s * 2 ^ 29 + topLevel s * 2 ^ 27 + bit (s.sec.jtag.level != 0 && s.sec.jtag.level == topLevel s) * 2 ^ 26 +
  bit s.sec.halted.isSome * 2 ^ 25 + now * 2 ^ 24 + s.sec.fuses.tamper * 2 ^ 18 + bit s.sec.wipeMarker * 2 ^ 17 +
  bit s.sec.keyLoaded * 2 ^ 16 + ((List.range 256).filter fun i => (slotKey s i).isSome).length * 2 ^ 7

/-- BOOT_STATUS. -/
def bootStatus (s : State) : Nat :=
  s.boot.phase * 2 ^ 28 + s.boot.cause * 2 ^ 25 + bit s.boot.halted * 2 ^ 24 + bit (onTrial s) * 2 ^ 23 +
  s.boot.bootRec.count % 4 * 2 ^ 21 + bit s.boot.bootRec.running * 2 ^ 20 + bit s.boot.restored * 2 ^ 19 + s.boot.readyMs

/-! ### Links and light (R447, R486, R487) -/

/-- The receive link that a transmit link's lanes reach by grant. -/
def grantedRx (s : State) (l : Nat) : Option Nat :=
  (targetsOf (linkBerth l) (s.link l).ports).find? fun r => (s.link r).granted == some l

/-- The lanes of a link's frames: a transmit link's to the receive link it holds the grant of, or to the last it sent to; a receive link's
from the sender it has granted, on a fibre as the far module has made known. -/
def lanesOf (s : State) (l : Nat) : LaneUse :=
  if linkFibre l then laneUse s l l
  else if linkRx l then ((s.link l).granted.map fun t => laneUse s t l).getD {}
  else laneUse s l ((grantedRx s l).getD (rxLink (Tab.getD 0 (s.link l).active (s.link l).ports) (linkBerth l % 8)))

/-- STATE and LANE: a link that is UP shows the lane that its frames run without, or the lane that they carry on WR (R457). -/
def linkLane (s : State) (l : Nat) : Nat × Nat :=
  let st := (s.link l).state
  if st ≠ 2 then (st, 0)
  else
    match (lanesOf s l).missing, (lanesOf s l).mirror with
    | some lane, _ => (3, lane)
    | none, some lane => (4, lane)
    | none, none => (2, 0)

/-- The weir level of a receive link (R435). -/
def weirLevel (s : State) (l : Nat) : Nat :=
  (List.range 4).foldl (fun a vc =>
    let occ := Tab.getD 0 vc (s.link l).occupancy
    let part := basinPart l vc
    max a (if 3 * part ≤ 4 * occ then 2 else if part ≤ 2 * occ then 1 else 0)) 0

/-- LINK_STATUS. -/
def linkStatus (s : State) (l : Nat) : Nat :=
  let x := s.link l
  (linkLane s l).1 * 2 ^ 29 + (linkLane s l).2 % 16 * 2 ^ 25 + bit (x.circuits != []) * 2 ^ 24 + x.share % 16 * 2 ^ 20 +
  (if linkRx l then weirLevel s l * 2 ^ 12
   else (x.ports.foldl (fun a p => a ||| 2 ^ (p.1 % 4)) 0) * 2 ^ 16 + x.active % 4 * 2 ^ 14) + s.base.epoch % 256

/-- The lane whose pilot tone a laser carries: that it serves while lit, or as a tuned spare that of its handover (R451, R452, R460). -/
def toneLane (s : State) (k : Nat) : Option Nat :=
  let x := s.laser k
  if x.lit && x.serves < 17 then some x.serves
  else ((s.group (groupOfKey k)).handover.filter fun h => h.spare == k && h.tunedAt.isSome).map Handover.lane

/-- LASER_STATUS of a bank laser. -/
def laserStatus (s : State) (k : Nat) : Nat :=
  let x := s.laser k
  x.state * 2 ^ 29 + x.serves * 2 ^ 24 + intBits 8 x.fade * 2 ^ 16 +
  ((toneLane s k).map fun i => 1 + 8 * i + k / 21).getD 0 * 2 ^ 8 + x.drive % 256

/-- BANK_RELIEF. -/
def bankRelief (s : State) (q : Nat) : Nat :=
  let g := s.group q
  let spares := ((List.range 4).filter fun i => !([3, 6, 7] : List Nat).contains (s.laser (21 * q + 17 + i)).state).length
  g.dropped.getD 31 * 2 ^ 21 + g.relieved.getD 31 * 2 ^ 16 + bit g.permanent * 2 ^ 15 + spares * 2 ^ 12

/-! ### Torus, sessions, stacks, lockkeepers, cores (R575, R623, R711, R718, R751, R752) -/

/-- TORUS_PORT. -/
def torusPortStatus (s : State) (d : Nat) : Nat :=
  let t := s.tport d
  upLinks s d * 2 ^ 28 + bit (miscabled s d) * 2 ^ 27 + t.farPort * 2 ^ 24 + coordOf t.farCoord

/-- SESSION_STATUS. -/
def sessionStatus (s : State) (i : Nat) : Nat :=
  let x := s.session i
  let st := match x.st with
    | .free => 0
    | .opened | .closing => 1
    | .stranded => 2
  let used := min 4 (x.outbox.length + (x.unacked.filter fun f => f.slot.isSome).length)
  let barges := (s.net.barges.filter fun b => b.2.session = sessionHandle s i).length
  st * 2 ^ 30 + bit x.key.isSome * 2 ^ 29 + portNum x.port * 2 ^ 28 + x.gen % 16 * 2 ^ 24 + x.inbox.length % 8 * 2 ^ 21 +
  used * 2 ^ 18 + barges % 32 * 2 ^ 13 + x.credit % 128 * 2 ^ 6

/-- STACK_POWER. -/
def stackPower (s : State) (k : Nat) : Nat :=
  let x := s.stack k
  let on := (List.range 8).foldl (fun a r => a + if (Tab.getD {} r x.reaches).enable = 0 then 0 else 2 ^ r) 0
  x.step * 2 ^ 28 + (if s.boot.phase < 3 then 0 else capLimit s) * 2 ^ 24 + x.thermLimit * 2 ^ 20 + x.marginLimit * 2 ^ 16 + bit x.powered * 2 ^ 15 +
  bit x.clocked * 2 ^ 14 + on * 2 ^ 6

/-- ROLE of LK_HEALTH. -/
def roleCode (s : State) (x : Lockkeeper) : Nat :=
  if s.boot.phase = 0 then 0
  else match x.role with
  | .retired => 3
  | .helm => if s.lk.test.isSome then 2 else 0
  | .checker => if s.lk.test.isSome then 2 else 1
  | .selfTest => 2
  | .rejoining => 4
  | .halted => 5
  | .stranded => 6

/-- LK_HEALTH. -/
def lkHealth (s : State) (w : LkId) : Nat :=
  let x := s.lkOf w
  roleCode s x * 2 ^ 29 + x.passRun * 2 ^ 24 + bit x.lastPass * 2 ^ 23 + bit ((s.lkOf (otherLk w)).role == .retired) * 2 ^ 22 +
  bit s.lk.injectOk * 2 ^ 21 + bit s.lk.cmpOk * 2 ^ 20 + x.tests % 256

/-- CORE_REPAIR. -/
def coreRepair (s : State) (c : Nat) : Nat :=
  let x := s.core c
  let used := x.repairs.foldl (fun a g => a + g.2.length) 0
  let worst := x.repairs.foldl (fun a g => max a g.2.length) 0
  bit (x.fence != 0) * 2 ^ 31 + x.fence * 2 ^ 28 + bit x.routerBad * 2 ^ 27 + bit x.heldLane * 2 ^ 26 + used % 256 * 2 ^ 18 +
  (4 - worst) * 2 ^ 15 + min 7 x.voted.length * 2 ^ 12

/-- A repair register. -/
def repairWord (s : State) (c g : Nat) : Nat :=
  let l := repairRegister s c g
  l.getD 0 255 + l.getD 1 255 * 2 ^ 8 + l.getD 2 255 * 2 ^ 16 + l.getD 3 255 * 2 ^ 24

/-- A housekeeping channel's last sample (R840); a replica channel shows its reach's level and stretches. -/
def channelWord (s : State) (c : Nat) : Nat :=
  if 128 ≤ c ∧ c < 256 then
    let r : Reach := Tab.getD {} (c % 8) (s.stack ((c - 128) / 8)).reaches
    r.level * 2 ^ 24 + r.lastRound % 2 ^ 24
  else intBits 32 (sampleOf s c)

/-! ### Counters (R837, R839) -/

def pick (l : List Nat) (i : Nat) : Nat := l.getD i 0

/-- The counters of a link (R448). -/
def linkCounter (x : Link) (p : Nat) : Nat :=
  pick [x.corrected, x.symbols, x.uncorrectable, x.replays, x.unrecovered, x.retargets, x.grantWaits, x.crossings, x.parityErrs] p

/-- The counters of a torus port's channel, and its queue's depth (R576). -/
def torusCounter (s : State) (i : Nat) : Nat :=
  let p := i % 10
  if p = 6 then portDepth s (i / 40) (i % 40 / 10)
  else Tab.getD 0 (i % 40) (s.tport (i / 40)).counters

def sessionCounter (x : Session) (p : Nat) : Nat :=
  pick [x.malformed, x.authFails, x.dups, x.overCredit, x.retrans, x.overruns, x.staleBarge, x.pushGaps] p

def memCounter (b : MemBerth) (p : Nat) : Nat :=
  pick [b.retries, b.errors, b.poisoned, b.retired, b.repairs, b.retrains, b.rfm] p

/-- The values of an on-die router's channel (R841). -/
def routerValue (q : Router) (vc p : Nat) : Nat :=
  pick [Tab.getD 0 vc q.forwarded, Tab.getD 0 vc q.packets, Tab.getD 0 vc q.stalls, depthOf q vc, Tab.getD 0 vc q.highWater] p

/-- A calibration class: count, rejects, stamp of the last. -/
def calibValue (c : CalibClass) (p : Nat) : Nat := pick [c.count, c.rejects, c.last] p

/-- Ballast energy in µJ, from units of 1 mW for 16 ticks of 8 ns. -/
def microJoules (n : Nat) : Nat := n * 128 / 1000000

/-- How many values an item has, and their width; none for an unknown item (R839). -/
def itemShape (item : Nat) : Option (Nat × Nat) :=
  (Tab.find? item
    (([(0x0001, (1, 4)), (0x0002, (1, 4)), (0x0003, (1, 8)), (0x0004, (1, 4)), (0x0005, (1, 4)), (0x0006, (1, 4)),
       (0x0010, (608, 4)), (0x0011, (84, 4)), (0x0012, (4, 4)), (0x0013, (6, 4)), (0x0014, (4096, 4)), (0x0015, (16, 4)),
       (0x0016, (2, 4)), (0x0017, (2048, 4)), (0x0018, (73728, 4)), (0x0020, (768, 4))] : Tab (Nat × Nat)) ++
     [(0x0100, (5472, 4)), (0x0101, (2048, 4)), (0x0102, (2048, 4)), (0x0103, (1, 4)), (0x0104, (32, 4)), (0x0105, (128, 4)),
      (0x0106, (24, 4)), (0x0107, (48, 8)), (0x0108, (84, 4)), (0x0109, (12, 4)), (0x010A, (608, 4)), (0x010B, (64, 4)),
      (0x010C, (18, 8)), (0x010D, (56, 4)), (0x010E, (240, 4)), (0x010F, (8, 4)), (0x0110, (14, 8)), (0x0111, (32768, 4)),
      (0x0112, (48, 4)), (0x0113, (5, 4)), (0x0114, (2, 4)), (0x0115, (40960, 4)), (0x0116, (256, 4)), (0x0117, (2, 4))]))

/-- The status words: items 0x0001 to 0x0020. -/
def statusValue (s : State) (item i j : Nat) : Nat :=
  if item = 0x0001 then ftStatus s
  else if item = 0x0002 then poundStatus s
  else if item = 0x0003 then s.pound.committed
  else if item = 0x0004 then hkStatus s
  else if item = 0x0005 then secStatus s j
  else if item = 0x0006 then bootStatus s
  else if item = 0x0010 then linkStatus s i
  else if item = 0x0011 then laserStatus s i
  else if item = 0x0012 then bankRelief s i
  else if item = 0x0013 then torusPortStatus s i
  else if item = 0x0014 then sessionStatus s i
  else if item = 0x0015 then stackPower s i
  else if item = 0x0016 then lkHealth s (if i = 0 then .a else .b)
  else if item = 0x0017 then coreRepair s i
  else if item = 0x0018 then repairWord s (i / 36) (i % 36)
  else channelWord s i

/-- The counters: items 0x0100 to 0x010B. -/
def counterLow (s : State) (item i : Nat) : Nat :=
  if item = 0x0100 then linkCounter (s.link (i / 9)) (i % 9)
  else if item = 0x0101 then (s.core i).starve
  else if item = 0x0102 then (s.core i).staleRole
  else if item = 0x0103 then s.work.discarded
  else if item = 0x0104 then (s.issuer i).stalls
  else if item = 0x0105 then (Tab.getD {} (i % 8) (s.stack (i / 8)).reaches : Reach).lastRound
  else if item = 0x0106 then
    pick [(s.memBerth (i / 3)).stale, (s.memBerth (i / 3)).late, (s.memBerth (i / 3)).poolWait] (i % 3)
  else if item = 0x0107 then
    pick [(s.stack (i / 3)).riseSlots, (s.stack (i / 3)).ballastSlots, microJoules (s.stack (i / 3)).ballastEnergy] (i % 3)
  else if item = 0x0108 then (s.laser i).advisories
  else if item = 0x0109 then pick [(s.group (i / 3)).handovers, (s.group (i / 3)).fails, (s.group (i / 3)).rejects] (i % 3)
  else if item = 0x010A then (if linkRx i then 0 else (s.link i).fifteen)
  else pick [Tab.getD 0 (i / 2) s.light.wrongLocks, Tab.getD 0 (i / 2) s.light.suspectCount] (i % 2)

/-- The counters: items 0x010C to 0x0117. The IEEE 802.3 attributes are free values: the commands carry no frame of the MAC below
Ecden. -/
def counterHigh (s : State) (item i j : Nat) : Nat :=
  if item = 0x010C then calibValue (Tab.getD {} (i / 3) s.light.calib) (i % 3)
  else if item = 0x010D then memCounter (s.memBerth (i / 7)) (i % 7)
  else if item = 0x010E then torusCounter s i
  else if item = 0x010F then
    let p := s.ethPort (i / 4)
    pick [p.discards, p.fullDrops, p.pauseSent, p.pauseRecv] (i % 4)
  else if item = 0x0110 then freeAt s j % 2 ^ 64
  else if item = 0x0111 then sessionCounter (s.session (i / 8)) (i % 8)
  else if item = 0x0112 then pick [(s.stack (i / 3)).laneSpares, (s.stack (i / 3)).laneTests, (s.stack (i / 3)).fences] (i % 3)
  else if item = 0x0113 then pick [s.lk.miscompares, s.lk.bothPass, s.lk.missed, s.lk.pauses, s.lk.helmChanges] i
  else if item = 0x0114 then (s.lkOf (if i = 0 then .a else .b)).watchdogs
  else if item = 0x0115 then routerValue (s.router (i / 20)) (i / 5 % 4) (i % 5)
  else if item = 0x0116 then
    if i % 2 = 0 then berthDepth s (i / 8) (i / 2 % 4) else Tab.getD 0 (i / 2) s.base.queueHigh
  else pick [s.log.written, s.log.lost] i

/-- The value at an index of an item; `j` is its place in the reply. -/
def itemValue (s : State) (item i j : Nat) : Nat :=
  if item ≤ 0x0020 then statusValue s item i j else if item ≤ 0x010B then counterLow s item i else counterHigh s item i j

/-- A queue high-water value clears when it is read (R837). -/
def clearRead (item i : Nat) (s : State) : State :=
  if item = 0x0115 ∧ i % 5 = 4 then s.updRouter (i / 20) fun q => { q with highWater := Tab.put (i / 5 % 4) 0 q.highWater }
  else if item = 0x0116 ∧ i % 2 = 1 then { s with base.queueHigh := Tab.put (i / 2) 0 s.base.queueHigh }
  else if item = 0x010E ∧ i % 10 = 7 then s.updTport (i / 40) fun t => { t with counters := Tab.del (i % 40) t.counters }
  else s

/-! ### The order of entries of several logs (R842, R843) -/

/-- What R842 answers of two entries. -/
inductive EntryOrder where
  | eFirst | fFirst | concurrent | unordered
  deriving DecidableEq, Repr

/-- An entry's full fabric time: FT_HIGH before the stamp's TIME. -/
def entryTime (e : LogEntry) : Nat := bitsOf e.ft 63 52 * 2 ^ 52 + stampTime (e.stamp.getD 0)

/-- The order of two entries: by their stamps within a module, and across modules only where more than 4 ticks lie between. -/
def entryOrder (e f : LogEntry) : EntryOrder :=
  if e.source = f.source then
    if entryTime e * 4096 + e.stamp.getD 0 % 4096 < entryTime f * 4096 + f.stamp.getD 0 % 4096 then .eFirst
    else if e.stamp = f.stamp ∧ entryTime e = entryTime f then .concurrent else .fFirst
  else if e.unlocked || f.unlocked then .unordered
  else if entryTime e + 4 < entryTime f then .eFirst
  else if entryTime f + 4 < entryTime e then .fFirst
  else .concurrent

/-! ### TELEMETRY_READ (R639, R838) -/

/-- The values a request that passes returns: to the end of the item's range, as many as fit in 1,000 bytes. -/
def readCount (shape : Nat × Nat) (index count : Nat) : Nat := min count (min (1000 / shape.2) (shape.1 - index))

def mailTelemetryRead (src : MailSrc) (corr : Nat) (m : Bytes) (s : State) : State :=
  let item := leField m 8 4
  let index := leField m 0x0C 4
  match itemShape item with
  | none => answer src 0x03 corr St.telemetryItem [] s
  | some sh =>
    if sh.1 ≤ index then answer src 0x03 corr St.telemetryItem [] s
    else
      let n := readCount sh index (leField m 0x10 2)
      let values := (List.range n).flatMap fun j => leBytes sh.2 (itemValue s item (index + j) j)
      let s := (List.range n).foldl (fun s j => clearRead item (index + j) s) { s with freeCtr := s.freeCtr + n }
      answerStamped src 0x03 corr (leBytes 4 item ++ leBytes 2 n ++ leBytes 2 sh.2) values s

/-- TELEMETRY_READ. -/
def execTelemetryRead (src : MailSrc) (s : State) : Host.Outcome State Fault Refusal :=
  .next (mailStep src 0x03 (mailTelemetryRead src) s)

end Sys2Proof.Machine
end

