-- ==== Sys2Proof/Machine/Ticks.lean ====
section
/-!
DEFINITION. FABRIC_TICK: the counter advances, and what is due at the instant it has reached takes effect (R15, R301, R323, R324). Events whose
command carries an outcome from outside (a reading, a free choice) stay with that command.
-/

namespace Sys2Proof.Machine

/-- Runs events one after another. -/
def runAll (l : List (State → State)) (s : State) : State := l.foldl (fun s f => f s) s

/-- The instants of the pounds: deadline, cut, drain, unacknowledged torus writes, verdict, commit (R355, R357, R551). -/
def poundsDue : List (State → State) := [deadlineStep, cutStep, drainStep, drainLateStep, unackedStep, verdictStep, commitStep]

/-- The instants of lock windows and of a base logic reset (R422, R423, R425, R443, R444). -/
def baseDue : List (State → State) := [windowStart, windowDeadline, windowEnd, resetWaiting, baseRelease]

/-- The instants of frequency step changes, and the action instant of housekeeping (R332, R333, R696). -/
def stacksDue : List (State → State) := ((List.range 16).flatMap fun k => [stepStart k, glideStep k]) ++ [actStep]

/-- The instants of the handovers (R460). -/
def lightDue : List (State → State) := (List.range 10).flatMap fun g => [handDrain g, handSwitch g, handStop g]

/-- A session whose last retransmit timer has expired is stranded, and a stranded one's index comes free (R604, R606). A frame is sent again at the
engine's visit, not at the tick (R605). An acknowledgement that no other frame has carried goes 250 ticks after the acceptance (R601). -/
def sessionsDue (s : State) : List (State → State) :=
  s.net.sessions.flatMap fun x =>
    (if x.2.ackDue.any (· ≤ s.ft) then [ackTimerStep x.1] else []) ++ [strandStep x.1, indexFreeStep x.1]

/-- The limits of tasks, and the head task's wait (R216, R269, R274, R283). -/
def tasksDue (s : State) : List (State → State) :=
  (s.work.graphs.flatMap fun g =>
    (g.2.tasks.flatMap fun t => [kernelHangStep g.1 t.1, taskTimeoutStep g.1 t.1]) ++
      ((g.2.tasks.map fun t => t.2.info.cogroup).eraseDups.filter (· ≠ 0)).map (cogroupHangStep g.1)) ++
    (List.range 16).map headStarveStep

/-- The held writes of a sender and pound have all stood for 2^20 ticks (R393). -/
def heldLong (s : State) (x : Nat × Nat) : Bool :=
  (s.torus.held.filter (heldOf x.1 x.2)).all fun w => decide (w.since + 1048576 ≤ s.ft)

/-- TIMING frames, notices, reads and held writes of the torus, and the time-master's silence (R308, R393, R553, R562, R565, R569, R644). -/
def torusDue (s : State) : List (State → State) :=
  ((List.range 48).map fun i => timingSend (i / 8) (i % 8)) ++ s.torus.notices.keys.map noticeStep ++
    s.mem.reads.keys.map readResend ++ s.work.jobs.keys.map rbufTimeout ++
    (((s.torus.held.map fun w => (coordOf w.sender, w.n)).eraseDups.filter (heldLong s)).map fun x => holdStep x.1 x.2) ++
    [masterLost, leaveStep]

/-- A tick is eight base cycles, in each of which the first packet of a channel that waits for credits at a port stalls it (R300, R576). -/
def stallPorts (s : State) : State :=
  (List.range 24).foldl (fun s i =>
    let waits := (Tab.getD [] (32 + i / 4) s.base.waiting).find? fun w => w.tx.pkt.vc % 4 == i % 4
    if waits.any fun w => fibreStalls s (i / 4) (torusOf w.tx.pkt) then countPort (i / 4) (i % 4) 5 8 s else s) s

/-- What is due takes effect: that of the hardware, and that of the firmware where it runs. -/
def dueStep (s : State) : State :=
  let s := runAll (poundsDue ++ baseDue ++ stacksDue) (stallPorts s)
  let s := runAll (sessionsDue s) s
  if firmwareRuns s then
    let s := runAll (lightDue ++ tasksDue s) s
    runAll (torusDue s) s
  else s

/-- The timers of the standby controller: the delay of a reset that has been asked for, and the trial of an image (R664, R765, R808). -/
def timersDue (s : State) : State := trialStep (timerReset s)

/-- FABRIC_TICK: the counter advances, and what is due takes effect; while RESET_N is low nothing is (R301, R324). -/
def execFabricTick (s : State) : Host.Outcome State Fault Refusal :=
  let t := tickStep s
  .next (if s.pins.resetN then timersDue (dueStep t) else t)

end Sys2Proof.Machine
end

