-- ==== Sys2Proof/Machine/Dispatch.lean ====
section
/-!
DEFINITION. The one dispatch: an arm for each command, one direct call of its meaning.
-/

namespace Sys2Proof.Machine

/-- The effect of a command on everything but the queue. -/
def exec (i : Instr) (s : State) : Host.Outcome State Fault Refusal :=
  match i with
  | .mailRefusedUnparsed src => Sys2Proof.Machine.execMailRefusedUnparsed src s
  | .identify src => Sys2Proof.Machine.execIdentify src s
  | .ftRead src => Sys2Proof.Machine.execFtRead src s
  | .telemetryRead src => Sys2Proof.Machine.execTelemetryRead src s
  | .eventSubscribe src => Sys2Proof.Machine.execEventSubscribe src s
  | .eventRead src => Sys2Proof.Machine.execEventRead src s
  | .bufCreate src => Sys2Proof.Machine.execBufCreate src s
  | .bufFree src => Sys2Proof.Machine.execBufFree src s
  | .rbufCreate src => Sys2Proof.Machine.execRbufCreate src s
  | .rbufRemoteAnswer job confirmed base => Sys2Proof.Machine.execRbufRemoteAnswer job confirmed base s
  | .rbufCreateTimeout job => Sys2Proof.Machine.execRbufCreateTimeout job s
  | .memRead src => Sys2Proof.Machine.execMemRead src s
  | .bargeOpen src => Sys2Proof.Machine.execBargeOpen src s
  | .bargeCancel src => Sys2Proof.Machine.execBargeCancel src s
  | .kernelLoad src => Sys2Proof.Machine.execKernelLoad src s
  | .kernelLoweringDone job => Sys2Proof.Machine.execKernelLoweringDone job s
  | .kernelUnload src => Sys2Proof.Machine.execKernelUnload src s
  | .graphSubmit src => Sys2Proof.Machine.execGraphSubmit src s
  | .graphCheckDone job => Sys2Proof.Machine.execGraphCheckDone job s
  | .graphCancel src => Sys2Proof.Machine.execGraphCancel src s
  | .poundClose src => Sys2Proof.Machine.execPoundClose src s
  | .poundStatus src => Sys2Proof.Machine.execPoundStatus src s
  | .flatSet src => Sys2Proof.Machine.execFlatSet src s
  | .passageOpen src => Sys2Proof.Machine.execPassageOpen src s
  | .passageConfirmed job => Sys2Proof.Machine.execPassageConfirmed job s
  | .passageClose src => Sys2Proof.Machine.execPassageClose src s
  | .configRead src => Sys2Proof.Machine.execConfigRead src s
  | .configWrite src => Sys2Proof.Machine.execConfigWrite src s
  | .calibRead src => Sys2Proof.Machine.execCalibRead src s
  | .calibWrite src => Sys2Proof.Machine.execCalibWrite src s
  | .powerSet src => Sys2Proof.Machine.execPowerSet src s
  | .powerTransitionDone => Sys2Proof.Machine.execPowerTransitionDone s
  | .resume src => Sys2Proof.Machine.execResume src s
  | .moduleReset src => Sys2Proof.Machine.execModuleReset src s
  | .moduleResetTimer => Sys2Proof.Machine.execModuleResetTimer s
  | .updateStage src => Sys2Proof.Machine.execUpdateStage src s
  | .slotProgramDone => Sys2Proof.Machine.execSlotProgramDone s
  | .healthConfirm src => Sys2Proof.Machine.execHealthConfirm src s
  | .attest src => Sys2Proof.Machine.execAttest src s
  | .keyInstall src => Sys2Proof.Machine.execKeyInstall src s
  | .lifecycleSet src => Sys2Proof.Machine.execLifecycleSet src s
  | .debugOpen src => Sys2Proof.Machine.execDebugOpen src s
  | .debugHalt src => Sys2Proof.Machine.execDebugHalt src s
  | .debugStep src => Sys2Proof.Machine.execDebugStep src s
  | .debugRun src => Sys2Proof.Machine.execDebugRun src s
  | .debugRead src => Sys2Proof.Machine.execDebugRead src s
  | .debugClose src => Sys2Proof.Machine.execDebugClose src s
  | .ethFrameInvalid port frame => Sys2Proof.Machine.execEthFrameInvalid port frame s
  | .ethRxBufferFull port len => Sys2Proof.Machine.execEthRxBufferFull port len s
  | .pfcPauseReceived port priority quanta => Sys2Proof.Machine.execPfcPauseReceived port priority quanta s
  | .arpRequest port senderMac senderIp targetIp => Sys2Proof.Machine.execArpRequest port senderMac senderIp targetIp s
  | .neighborSolicitation port senderMac senderIp targetIp => Sys2Proof.Machine.execNeighborSolicitation port senderMac senderIp targetIp s
  | .ptpMessage port domain kind => Sys2Proof.Machine.execPtpMessage port domain kind s
  | .portLinkChange port up => Sys2Proof.Machine.execPortLinkChange port up s
  | .ecdenMalformedFrame f => Sys2Proof.Machine.execEcdenMalformedFrame f s
  | .ecdenAuthFail f => Sys2Proof.Machine.execEcdenAuthFail f s
  | .ecdenOpen f => Sys2Proof.Machine.execEcdenOpen f s
  | .ecdenMailFrame f => Sys2Proof.Machine.execEcdenMailFrame f s
  | .ecdenDataFrame f => Sys2Proof.Machine.execEcdenDataFrame f s
  | .ecdenAckFrame f => Sys2Proof.Machine.execEcdenAckFrame f s
  | .ecdenCloseFrame f => Sys2Proof.Machine.execEcdenCloseFrame f s
  | .unknownSessionFrame f => Sys2Proof.Machine.execUnknownSessionFrame f s
  | .ackTimer idx => Sys2Proof.Machine.execAckTimer idx s
  | .creditRiseAck idx => Sys2Proof.Machine.execCreditRiseAck idx s
  | .engineVisit idx => Sys2Proof.Machine.execEngineVisit idx s
  | .retransmitTimeout idx seq => Sys2Proof.Machine.execRetransmitTimeout idx seq s
  | .sessionStrand idx => Sys2Proof.Machine.execSessionStrand idx s
  | .strandedIndexFree idx => Sys2Proof.Machine.execStrandedIndexFree idx s
  | .kNop m => Sys2Proof.Machine.execKNop m s
  | .kEnd m => Sys2Proof.Machine.execKEnd m s
  | .kLoop m => Sys2Proof.Machine.execKLoop m s
  | .kEndloop m => Sys2Proof.Machine.execKEndloop m s
  | .kTilefor m => Sys2Proof.Machine.execKTilefor m s
  | .kIf m => Sys2Proof.Machine.execKIf m s
  | .kElse m => Sys2Proof.Machine.execKElse m s
  | .kEndif m => Sys2Proof.Machine.execKEndif m s
  | .kImov m => Sys2Proof.Machine.execKImov m s
  | .kIalu m => Sys2Proof.Machine.execKIalu m s
  | .kQuery m => Sys2Proof.Machine.execKQuery m s
  | .kParam m => Sys2Proof.Machine.execKParam m s
  | .kVdim m => Sys2Proof.Machine.execKVdim m s
  | .kVsub m => Sys2Proof.Machine.execKVsub m s
  | .kTload m => Sys2Proof.Machine.execKTload m s
  | .kTstore m => Sys2Proof.Machine.execKTstore m s
  | .kTfill m => Sys2Proof.Machine.execKTfill m s
  | .kXfer m => Sys2Proof.Machine.execKXfer m s
  | .xferDone m token => Sys2Proof.Machine.execXferDone m token s
  | .kWait m => Sys2Proof.Machine.execKWait m s
  | .kMma m => Sys2Proof.Machine.execKMma m s
  | .kAccmov m => Sys2Proof.Machine.execKAccmov m s
  | .kEbin m => Sys2Proof.Machine.execKEbin m s
  | .kEfma m => Sys2Proof.Machine.execKEfma m s
  | .kEun m => Sys2Proof.Machine.execKEun m s
  | .kCmp m => Sys2Proof.Machine.execKCmp m s
  | .kSel m => Sys2Proof.Machine.execKSel m s
  | .kRed m => Sys2Proof.Machine.execKRed m s
  | .kTrans m => Sys2Proof.Machine.execKTrans m s
  | .kGather m => Sys2Proof.Machine.execKGather m s
  | .kScatter m => Sys2Proof.Machine.execKScatter m s
  | .kSort m => Sys2Proof.Machine.execKSort m s
  | .kCvt m => Sys2Proof.Machine.execKCvt m s
  | .kSend m => Sys2Proof.Machine.execKSend m s
  | .kRecv m => Sys2Proof.Machine.execKRecv m s
  | .msgArrival msg => Sys2Proof.Machine.execMsgArrival msg s
  | .staleMessageHandle msg => Sys2Proof.Machine.execStaleMessageHandle msg s
  | .kColl m => Sys2Proof.Machine.execKColl m s
  | .collDone c => Sys2Proof.Machine.execCollDone c s
  | .kStamp m => Sys2Proof.Machine.execKStamp m s
  | .kBarrier m => Sys2Proof.Machine.execKBarrier m s
  | .barrierRelease slot task => Sys2Proof.Machine.execBarrierRelease slot task s
  | .kernelHang slot task => Sys2Proof.Machine.execKernelHang slot task s
  | .taskTimeout slot task => Sys2Proof.Machine.execTaskTimeout slot task s
  | .admission slot => Sys2Proof.Machine.execAdmission slot s
  | .taskRebind slot task => Sys2Proof.Machine.execTaskRebind slot task s
  | .cogroupRebind slot group => Sys2Proof.Machine.execCogroupRebind slot group s
  | .taskRelease stack => Sys2Proof.Machine.execTaskRelease stack s
  | .cogroupRelease slot group => Sys2Proof.Machine.execCogroupRelease slot group s
  | .headTaskStarve stack => Sys2Proof.Machine.execHeadTaskStarve stack s
  | .cogroupHang slot group => Sys2Proof.Machine.execCogroupHang slot group s
  | .taskEnd slot task => Sys2Proof.Machine.execTaskEnd slot task s
  | .scratchCycle core coreSide lighter erring => Sys2Proof.Machine.execScratchCycle core coreSide lighter erring s
  | .routerCycle router inject => Sys2Proof.Machine.execRouterCycle router inject s
  | .reductionTableAdd router => Sys2Proof.Machine.execReductionTableAdd router s
  | .lockChamberRead chamber seqRead stampRead => Sys2Proof.Machine.execLockChamberRead chamber seqRead stampRead s
  | .fabricTick => Sys2Proof.Machine.execFabricTick s
  | .stampStallRelease berth => Sys2Proof.Machine.execStampStallRelease berth s
  | .ftReplicaCheck stack slip => Sys2Proof.Machine.execFtReplicaCheck stack slip s
  | .timingFrameSend port link => Sys2Proof.Machine.execTimingFrameSend port link s
  | .timingFrameReceive port link master senderFt hops roundTrip => Sys2Proof.Machine.execTimingFrameReceive port link master senderFt hops roundTrip s
  | .ftRefChange ok => Sys2Proof.Machine.execFtRefChange ok s
  | .stepChangeStart stack => Sys2Proof.Machine.execStepChangeStart stack s
  | .avsFrameDone r => Sys2Proof.Machine.execAvsFrameDone r s
  | .glideEnd stack => Sys2Proof.Machine.execGlideEnd stack s
  | .stackPllLoss stack => Sys2Proof.Machine.execStackPllLoss stack s
  | .marginMonitor stack reach levels => Sys2Proof.Machine.execMarginMonitor stack reach levels s
  | .poundDeadline => Sys2Proof.Machine.execPoundDeadline s
  | .poolThresholdClose => Sys2Proof.Machine.execPoolThresholdClose s
  | .poundCut => Sys2Proof.Machine.execPoundCut s
  | .drainEnd => Sys2Proof.Machine.execDrainEnd s
  | .drainTimeout => Sys2Proof.Machine.execDrainTimeout s
  | .verdict => Sys2Proof.Machine.execVerdict s
  | .poundCommit => Sys2Proof.Machine.execPoundCommit s
  | .versionFold berth => Sys2Proof.Machine.execVersionFold berth s
  | .reorderRelease berth => Sys2Proof.Machine.execReorderRelease berth s
  | .memWriteArrival w => Sys2Proof.Machine.execMemWriteArrival w s
  | .shadowCopyDone page => Sys2Proof.Machine.execShadowCopyDone page s
  | .poolWaitResume berth => Sys2Proof.Machine.execPoolWaitResume berth s
  | .detectedFault => Sys2Proof.Machine.execDetectedFault s
  | .rollbackShadowsReturned => Sys2Proof.Machine.execRollbackShadowsReturned s
  | .replayOpen => Sys2Proof.Machine.execReplayOpen s
  | .closeRequestReceive coord issued => Sys2Proof.Machine.execCloseRequestReceive coord issued s
  | .namedCutReceive c serial => Sys2Proof.Machine.execNamedCutReceive c serial s
  | .torusCommitNotice sender n attempt => Sys2Proof.Machine.execTorusCommitNotice sender n attempt s
  | .torusRollbackNotice sender n attempt => Sys2Proof.Machine.execTorusRollbackNotice sender n attempt s
  | .holdExpiry sender n => Sys2Proof.Machine.execHoldExpiry sender n s
  | .linkFrameReceive link f => Sys2Proof.Machine.execLinkFrameReceive link f s
  | .nakResend link => Sys2Proof.Machine.execNakResend link s
  | .baseParityError berth struct link => Sys2Proof.Machine.execBaseParityError berth struct link s
  | .grantPass link requests waited => Sys2Proof.Machine.execGrantPass link requests waited s
  | .fastPortRetarget link port => Sys2Proof.Machine.execFastPortRetarget link port s
  | .creditReturn link vc units => Sys2Proof.Machine.execCreditReturn link vc units s
  | .lockWindowStart => Sys2Proof.Machine.execLockWindowStart s
  | .lockWindowRingDeadline => Sys2Proof.Machine.execLockWindowRingDeadline s
  | .basinReduce link p => Sys2Proof.Machine.execBasinReduce link p s
  | .baseLogicReset berth => Sys2Proof.Machine.execBaseLogicReset berth s
  | .baseResetRelease => Sys2Proof.Machine.execBaseResetRelease s
  | .basePlanReloaded down => Sys2Proof.Machine.execBasePlanReloaded down s
  | .failComparatorTrip laser => Sys2Proof.Machine.execFailComparatorTrip laser s
  | .handoverStart u => Sys2Proof.Machine.execHandoverStart u s
  | .handoverDrainEnd u => Sys2Proof.Machine.execHandoverDrainEnd u s
  | .spareTuned u ok => Sys2Proof.Machine.execSpareTuned u ok s
  | .spareVerified u ok => Sys2Proof.Machine.execSpareVerified u ok s
  | .handoverSwitch u => Sys2Proof.Machine.execHandoverSwitch u s
  | .handoverLaneCheckEnd u ok => Sys2Proof.Machine.execHandoverLaneCheckEnd u ok s
  | .handoverMirrorStop u => Sys2Proof.Machine.execHandoverMirrorStop u s
  | .ringRelock ring ownTone => Sys2Proof.Machine.execRingRelock ring ownTone s
  | .calibrationStep cls item value aux => Sys2Proof.Machine.execCalibrationStep cls item value aux s
  | .governorSlot stack periods => Sys2Proof.Machine.execGovernorSlot stack periods s
  | .memReadReq req parity => Sys2Proof.Machine.execMemReadReq req parity s
  | .dramRefresh berth subchannel bank => Sys2Proof.Machine.execDramRefresh berth subchannel bank s
  | .trackingStep berth subchannel ok => Sys2Proof.Machine.execTrackingStep berth subchannel ok s
  | .patrolRead berth addr parity => Sys2Proof.Machine.execPatrolRead berth addr parity s
  | .fibrePacketReceive port link p => Sys2Proof.Machine.execFibrePacketReceive port link p s
  | .torusLinkTrain port link partition coord dir => Sys2Proof.Machine.execTorusLinkTrain port link partition coord dir s
  | .torusWriteAck berth sender n => Sys2Proof.Machine.execTorusWriteAck berth sender n s
  | .torusAckReceive dest n count => Sys2Proof.Machine.execTorusAckReceive dest n count s
  | .torusUnackedCheck => Sys2Proof.Machine.execTorusUnackedCheck s
  | .remoteReadResend req => Sys2Proof.Machine.execRemoteReadResend req s
  | .joinSend => Sys2Proof.Machine.execJoinSend s
  | .joinReceive coord serial => Sys2Proof.Machine.execJoinReceive coord serial s
  | .partitionLeave => Sys2Proof.Machine.execPartitionLeave s
  | .partitionNoticeReceive port id n => Sys2Proof.Machine.execPartitionNoticeReceive port id n s
  | .noticeResend id => Sys2Proof.Machine.execNoticeResend id s
  | .flightRequest coord id windows => Sys2Proof.Machine.execFlightRequest coord id windows s
  | .masterLoss => Sys2Proof.Machine.execMasterLoss s
  | .housekeepingRound round => Sys2Proof.Machine.execHousekeepingRound round s
  | .hkEvaluation tones => Sys2Proof.Machine.execHkEvaluation tones s
  | .hkActionInstant => Sys2Proof.Machine.execHkActionInstant s
  | .thermalTrip => Sys2Proof.Machine.execThermalTrip s
  | .tripLogWritten => Sys2Proof.Machine.execTripLogWritten s
  | .miscompare mechanism lk output => Sys2Proof.Machine.execMiscompare mechanism lk output s
  | .lkDecision aPass bPass cmpPass => Sys2Proof.Machine.execLkDecision aPass bPass cmpPass s
  | .checkerInjection tripped => Sys2Proof.Machine.execCheckerInjection tripped s
  | .scrubPass r => Sys2Proof.Machine.execScrubPass r s
  | .checkerSelfTest => Sys2Proof.Machine.execCheckerSelfTest s
  | .checkerSelfTestDone pass => Sys2Proof.Machine.execCheckerSelfTestDone pass s
  | .watchdogExpiry lk => Sys2Proof.Machine.execWatchdogExpiry lk s
  | .retiredSelfTest pass cmpPass => Sys2Proof.Machine.execRetiredSelfTest pass cmpPass s
  | .rejoinHelm => Sys2Proof.Machine.execRejoinHelm s
  | .moduleStrand => Sys2Proof.Machine.execModuleStrand s
  | .controlVoteFail joint triple bump => Sys2Proof.Machine.execControlVoteFail joint triple bump s
  | .laneTestDone core word failed => Sys2Proof.Machine.execLaneTestDone core word failed s
  | .laneSpareWindow core group failedLane => Sys2Proof.Machine.execLaneSpareWindow core group failedLane s
  | .baseGroupSpare stack group failedAgain => Sys2Proof.Machine.execBaseGroupSpare stack group failedAgain s
  | .routerFault core symptom => Sys2Proof.Machine.execRouterFault core symptom s
  | .routeTableWrite stack => Sys2Proof.Machine.execRouteTableWrite stack s
  | .tamperDetect source => Sys2Proof.Machine.execTamperDetect source s
  | .tamperClear => Sys2Proof.Machine.execTamperClear s
  | .jtagExtest cells => Sys2Proof.Machine.execJtagExtest cells s
  | .jtagIdcode => Sys2Proof.Machine.execJtagIdcode s
  | .jtagSamplePreload cells => Sys2Proof.Machine.execJtagSamplePreload cells s
  | .jtagClamp => Sys2Proof.Machine.execJtagClamp s
  | .jtagHighz => Sys2Proof.Machine.execJtagHighz s
  | .dbgAuth slot level reserved tag => Sys2Proof.Machine.execDbgAuth slot level reserved tag s
  | .dbgMail message => Sys2Proof.Machine.execDbgMail message s
  | .jtagBypass => Sys2Proof.Machine.execJtagBypass s
  | .tapReset => Sys2Proof.Machine.execTapReset s
  | .resetNAssert nanoseconds => Sys2Proof.Machine.execResetNAssert nanoseconds s
  | .bootStart samples => Sys2Proof.Machine.execBootStart samples s
  | .bootPhaseEnd phase elapsedMs report => Sys2Proof.Machine.execBootPhaseEnd phase elapsedMs report s
  | .trialExpiry => Sys2Proof.Machine.execTrialExpiry s
  | .recordWriteDone => Sys2Proof.Machine.execRecordWriteDone s
  | .powerLoss => Sys2Proof.Machine.execPowerLoss s
  | .stackPllRelock stack => Sys2Proof.Machine.execStackPllRelock stack s
  | .retunedRingsLocked rings => Sys2Proof.Machine.execRetunedRingsLocked rings s
  | .lockWindowEnd => Sys2Proof.Machine.execLockWindowEnd s
  | .recordEraseDone => Sys2Proof.Machine.execRecordEraseDone s
  | .remoteBufferRequest coord req => Sys2Proof.Machine.execRemoteBufferRequest coord req s

end Sys2Proof.Machine
end

