-- ==== Sys2Proof/WellFormed.lean ====
section
/-!
DEFINITION. When a command is well formed: every number that names a unit names one the module has (R18, R83, R84, R285, R587,
R633, R839). A command that is not well formed still has an effect in the model; nothing on the module sends one.
-/

namespace Sys2Proof

/-- The sender of a mail message: a session index (R587), or JTAG. -/
def srcOk : MailSrc → Bool
  | .session i => decide (i < 4096)
  | .jtag => true

/-- A member: graph slots 0 to 63, ranks 0 to 127 (R231, R240). -/
def memberOk (m : MRef) : Bool := decide (m.slot < 64 ∧ m.rank < 128)

/-- A received frame: a MAC address, a VLAN, a priority, an IPv6 address and a UDP port have their widths. -/
def frameOk (f : RxFrame) : Bool :=
  decide (f.mac < 2 ^ 48 ∧ f.vlan < 4096 ∧ f.pcp < 8 ∧ f.ip < 2 ^ 128 ∧ f.udp < 65536)

/-- A laser (R697). -/
def laserOk : LaserRef → Bool
  | .bank q j => decide (q < 4 ∧ j < 21)
  | .fibre b c j => decide (24 ≤ b ∧ b < 30 ∧ c < 2 ∧ j < 17)

/-- A group of links (R457, R571). -/
def unitOk : LightUnit → Bool
  | .bank q => decide (q < 4)
  | .fibre b => decide (24 ≤ b ∧ b < 30)

/-- A collective that completes. -/
def collOk : CollRef → Bool
  | .gang slot _ _ => decide (slot < 64)
  | .table core group => decide (core < 2048 ∧ group < 64)
  | .basin berth group _ => decide (berth < 32 ∧ group < 256)

/-- A ring (R829). -/
def ringOk (r : RingRef) : Bool := decide (r.berth < 32 ∧ r.link < 8 ∧ r.role < 3 ∧ r.lane < 17)

/-- A transmit link and its fast ports P0 to P3 (R418). -/
def ringsOk (r : Nat × List Nat) : Bool := decide (r.1 < 608) && r.2.all fun p => decide (p < 4)

/-- A joint (R714). -/
def jointOk : JointRef → Bool
  | .core c => decide (c < 2048)
  | .base k => decide (k < 16)

/-- The well-formed commands. -/
def Instr.wf : Instr → Bool
  | .mailRefusedUnparsed src => srcOk src
  | .identify src => srcOk src
  | .ftRead src => srcOk src
  | .telemetryRead src => srcOk src
  | .eventSubscribe src => srcOk src
  | .eventRead src => srcOk src
  | .bufCreate src => srcOk src
  | .bufFree src => srcOk src
  | .rbufCreate src => srcOk src
  | .rbufRemoteAnswer _ _ _ => true
  | .rbufCreateTimeout _ => true
  | .memRead src => srcOk src
  | .bargeOpen src => srcOk src
  | .bargeCancel src => srcOk src
  | .kernelLoad src => srcOk src
  | .kernelLoweringDone _ => true
  | .kernelUnload src => srcOk src
  | .graphSubmit src => srcOk src
  | .graphCheckDone _ => true
  | .graphCancel src => srcOk src
  | .poundClose src => srcOk src
  | .poundStatus src => srcOk src
  | .flatSet src => srcOk src
  | .passageOpen src => srcOk src
  | .passageConfirmed _ => true
  | .passageClose src => srcOk src
  | .configRead src => srcOk src
  | .configWrite src => srcOk src
  | .calibRead src => srcOk src
  | .calibWrite src => srcOk src
  | .powerSet src => srcOk src
  | .powerTransitionDone => true
  | .resume src => srcOk src
  | .moduleReset src => srcOk src
  | .moduleResetTimer => true
  | .updateStage src => srcOk src
  | .slotProgramDone => true
  | .healthConfirm src => srcOk src
  | .attest src => srcOk src
  | .keyInstall src => srcOk src
  | .lifecycleSet src => srcOk src
  | .debugOpen src => srcOk src
  | .debugHalt src => srcOk src
  | .debugStep src => srcOk src
  | .debugRun src => srcOk src
  | .debugRead src => srcOk src
  | .debugClose src => srcOk src
  | .ethFrameInvalid _ _ => true
  | .ethRxBufferFull _ _ => true
  | .pfcPauseReceived _ priority _ => decide (priority < 8)
  | .arpRequest _ _ _ _ => true
  | .neighborSolicitation _ _ _ _ => true
  | .ptpMessage _ domain _ => decide (domain < 128)
  | .portLinkChange _ _ => true
  | .ecdenMalformedFrame f => frameOk f
  | .ecdenAuthFail f => frameOk f
  | .ecdenOpen f => frameOk f
  | .ecdenMailFrame f => frameOk f
  | .ecdenDataFrame f => frameOk f
  | .ecdenAckFrame f => frameOk f
  | .ecdenCloseFrame f => frameOk f
  | .unknownSessionFrame f => frameOk f
  | .ackTimer idx => decide (idx < 4096)
  | .creditRiseAck idx => decide (idx < 4096)
  | .engineVisit idx => decide (idx < 4096)
  | .retransmitTimeout idx _ => decide (idx < 4096)
  | .sessionStrand idx => decide (idx < 4096)
  | .strandedIndexFree idx => decide (idx < 4096)
  | .kNop m => memberOk m
  | .kEnd m => memberOk m
  | .kLoop m => memberOk m
  | .kEndloop m => memberOk m
  | .kTilefor m => memberOk m
  | .kIf m => memberOk m
  | .kElse m => memberOk m
  | .kEndif m => memberOk m
  | .kImov m => memberOk m
  | .kIalu m => memberOk m
  | .kQuery m => memberOk m
  | .kParam m => memberOk m
  | .kVdim m => memberOk m
  | .kVsub m => memberOk m
  | .kTload m => memberOk m
  | .kTstore m => memberOk m
  | .kTfill m => memberOk m
  | .kXfer m => memberOk m
  | .xferDone m token => memberOk m && decide (token < 16)
  | .kWait m => memberOk m
  | .kMma m => memberOk m
  | .kAccmov m => memberOk m
  | .kEbin m => memberOk m
  | .kEfma m => memberOk m
  | .kEun m => memberOk m
  | .kCmp m => memberOk m
  | .kSel m => memberOk m
  | .kRed m => memberOk m
  | .kTrans m => memberOk m
  | .kGather m => memberOk m
  | .kScatter m => memberOk m
  | .kSort m => memberOk m
  | .kCvt m => memberOk m
  | .kSend m => memberOk m
  | .kRecv m => memberOk m
  | .msgArrival _ => true
  | .staleMessageHandle _ => true
  | .kColl m => memberOk m
  | .collDone c => collOk c
  | .kStamp m => memberOk m
  | .kBarrier m => memberOk m
  | .barrierRelease slot _ => decide (slot < 64)
  | .kernelHang slot _ => decide (slot < 64)
  | .taskTimeout slot _ => decide (slot < 64)
  | .admission slot => decide (slot < 64)
  | .taskRebind slot _ => decide (slot < 64)
  | .cogroupRebind slot _ => decide (slot < 64)
  | .taskRelease stack => decide (stack < 16)
  | .cogroupRelease slot _ => decide (slot < 64)
  | .headTaskStarve stack => decide (stack < 16)
  | .cogroupHang slot _ => decide (slot < 64)
  | .taskEnd slot _ => decide (slot < 64)
  | .scratchCycle core _ _ _ => decide (core < 2048)
  | .routerCycle router _ => decide (router < 2048)
  | .reductionTableAdd router => decide (router < 2048)
  | .lockChamberRead chamber _ _ => decide (chamber < 8192)
  | .fabricTick => true
  | .stampStallRelease berth => decide (berth < 32)
  | .ftReplicaCheck stack _ => decide (stack < 16)
  | .timingFrameSend port link => decide (port < 6) && decide (link < 8)
  | .timingFrameReceive port link _ _ _ _ => decide (port < 6) && decide (link < 8)
  | .ftRefChange _ => true
  | .stepChangeStart stack => decide (stack < 16)
  | .avsFrameDone _ => true
  | .glideEnd stack => decide (stack < 16)
  | .stackPllLoss stack => decide (stack < 16)
  | .marginMonitor stack reach _ => decide (stack < 16) && decide (reach < 8)
  | .poundDeadline => true
  | .poolThresholdClose => true
  | .poundCut => true
  | .drainEnd => true
  | .drainTimeout => true
  | .verdict => true
  | .poundCommit => true
  | .versionFold berth => decide (berth < 8)
  | .reorderRelease berth => decide (berth < 8)
  | .memWriteArrival _ => true
  | .shadowCopyDone _ => true
  | .poolWaitResume berth => decide (berth < 8)
  | .detectedFault => true
  | .rollbackShadowsReturned => true
  | .replayOpen => true
  | .closeRequestReceive _ _ => true
  | .namedCutReceive _ _ => true
  | .torusCommitNotice _ _ _ => true
  | .torusRollbackNotice _ _ _ => true
  | .holdExpiry _ _ => true
  | .linkFrameReceive link _ => decide (link < 608)
  | .nakResend link => decide (link < 608)
  | .baseParityError berth _ link => decide (berth < 32) && decide (link < 608)
  | .grantPass link _ _ => decide (link < 608)
  | .fastPortRetarget link port => decide (link < 608) && decide (port < 4)
  | .creditReturn link vc _ => decide (link < 608) && decide (vc < 4)
  | .lockWindowStart => true
  | .lockWindowRingDeadline => true
  | .basinReduce link _ => decide (link < 608)
  | .baseLogicReset berth => decide (berth < 32)
  | .baseResetRelease => true
  | .basePlanReloaded _ => true
  | .failComparatorTrip laser => laserOk laser
  | .handoverStart u => unitOk u
  | .handoverDrainEnd u => unitOk u
  | .spareTuned u _ => unitOk u
  | .spareVerified u _ => unitOk u
  | .handoverSwitch u => unitOk u
  | .handoverLaneCheckEnd u _ => unitOk u
  | .handoverMirrorStop u => unitOk u
  | .ringRelock ring _ => ringOk ring
  | .calibrationStep cls _ _ _ => decide (cls < 6)
  | .governorSlot stack _ => decide (stack < 16)
  | .memReadReq _ _ => true
  | .dramRefresh berth subchannel _ => decide (berth < 8) && decide (subchannel < 48)
  | .trackingStep berth subchannel _ => decide (berth < 8) && decide (subchannel < 48)
  | .patrolRead berth _ _ => decide (berth < 8)
  | .fibrePacketReceive port link _ => decide (port < 6) && decide (link < 8)
  | .torusLinkTrain port link _ _ _ => decide (port < 6) && decide (link < 8)
  | .torusWriteAck berth _ _ => decide (berth < 8)
  | .torusAckReceive _ _ _ => true
  | .torusUnackedCheck => true
  | .remoteReadResend _ => true
  | .joinSend => true
  | .joinReceive _ _ => true
  | .partitionLeave => true
  | .partitionNoticeReceive port _ _ => decide (port < 6)
  | .noticeResend _ => true
  | .flightRequest _ _ _ => true
  | .masterLoss => true
  | .housekeepingRound _ => true
  | .hkEvaluation _ => true
  | .hkActionInstant => true
  | .thermalTrip => true
  | .tripLogWritten => true
  | .miscompare mechanism _ _ => decide (mechanism < 5)
  | .lkDecision _ _ _ => true
  | .checkerInjection _ => true
  | .scrubPass _ => true
  | .checkerSelfTest => true
  | .checkerSelfTestDone _ => true
  | .watchdogExpiry _ => true
  | .retiredSelfTest _ _ => true
  | .rejoinHelm => true
  | .moduleStrand => true
  | .controlVoteFail joint _ _ => jointOk joint
  | .laneTestDone core word _ => decide (core < 2048) && decide (word < 6144)
  | .laneSpareWindow core group _ => decide (core < 2048) && decide (group < 36)
  | .baseGroupSpare stack group _ => decide (stack < 16) && decide (group < 16)
  | .routerFault core _ => decide (core < 2048)
  | .routeTableWrite stack => decide (stack < 16)
  | .tamperDetect source => decide (source < 2)
  | .tamperClear => true
  | .jtagExtest cells => decide (cells < 2 ^ 25)
  | .jtagIdcode => true
  | .jtagSamplePreload cells => decide (cells < 2 ^ 25)
  | .jtagClamp => true
  | .jtagHighz => true
  | .dbgAuth slot level reserved tag => decide (slot < 256) && decide (level < 256) && decide (reserved < 65536) && decide (tag < 2 ^ 256)
  | .dbgMail _ => true
  | .jtagBypass => true
  | .tapReset => true
  | .resetNAssert _ => true
  | .bootStart _ => true
  | .bootPhaseEnd phase _ _ => decide (1 ≤ phase ∧ phase ≤ 7)
  | .trialExpiry => true
  | .recordWriteDone => true
  | .powerLoss => true
  | .stackPllRelock stack => decide (stack < 16)
  | .retunedRingsLocked rings => ringsOk rings
  | .lockWindowEnd => true
  | .recordEraseDone => true
  | .remoteBufferRequest _ _ => true

/-- The sender of a mail command. -/
def Instr.sender : Instr → Option MailSrc
  | .mailRefusedUnparsed src => some src
  | .identify src => some src
  | .ftRead src => some src
  | .telemetryRead src => some src
  | .eventSubscribe src => some src
  | .eventRead src => some src
  | .bufCreate src => some src
  | .bufFree src => some src
  | .rbufCreate src => some src
  | .rbufRemoteAnswer _ _ _ => none
  | .rbufCreateTimeout _ => none
  | .memRead src => some src
  | .bargeOpen src => some src
  | .bargeCancel src => some src
  | .kernelLoad src => some src
  | .kernelLoweringDone _ => none
  | .kernelUnload src => some src
  | .graphSubmit src => some src
  | .graphCheckDone _ => none
  | .graphCancel src => some src
  | .poundClose src => some src
  | .poundStatus src => some src
  | .flatSet src => some src
  | .passageOpen src => some src
  | .passageConfirmed _ => none
  | .passageClose src => some src
  | .configRead src => some src
  | .configWrite src => some src
  | .calibRead src => some src
  | .calibWrite src => some src
  | .powerSet src => some src
  | .powerTransitionDone => none
  | .resume src => some src
  | .moduleReset src => some src
  | .moduleResetTimer => none
  | .updateStage src => some src
  | .slotProgramDone => none
  | .healthConfirm src => some src
  | .attest src => some src
  | .keyInstall src => some src
  | .lifecycleSet src => some src
  | .debugOpen src => some src
  | .debugHalt src => some src
  | .debugStep src => some src
  | .debugRun src => some src
  | .debugRead src => some src
  | .debugClose src => some src
  | .ethFrameInvalid _ _ => none
  | .ethRxBufferFull _ _ => none
  | .pfcPauseReceived _ _ _ => none
  | .arpRequest _ _ _ _ => none
  | .neighborSolicitation _ _ _ _ => none
  | .ptpMessage _ _ _ => none
  | .portLinkChange _ _ => none
  | .ecdenMalformedFrame _ => none
  | .ecdenAuthFail _ => none
  | .ecdenOpen _ => none
  | .ecdenMailFrame _ => none
  | .ecdenDataFrame _ => none
  | .ecdenAckFrame _ => none
  | .ecdenCloseFrame _ => none
  | .unknownSessionFrame _ => none
  | .ackTimer _ => none
  | .creditRiseAck _ => none
  | .engineVisit _ => none
  | .retransmitTimeout _ _ => none
  | .sessionStrand _ => none
  | .strandedIndexFree _ => none
  | .kNop _ => none
  | .kEnd _ => none
  | .kLoop _ => none
  | .kEndloop _ => none
  | .kTilefor _ => none
  | .kIf _ => none
  | .kElse _ => none
  | .kEndif _ => none
  | .kImov _ => none
  | .kIalu _ => none
  | .kQuery _ => none
  | .kParam _ => none
  | .kVdim _ => none
  | .kVsub _ => none
  | .kTload _ => none
  | .kTstore _ => none
  | .kTfill _ => none
  | .kXfer _ => none
  | .xferDone _ _ => none
  | .kWait _ => none
  | .kMma _ => none
  | .kAccmov _ => none
  | .kEbin _ => none
  | .kEfma _ => none
  | .kEun _ => none
  | .kCmp _ => none
  | .kSel _ => none
  | .kRed _ => none
  | .kTrans _ => none
  | .kGather _ => none
  | .kScatter _ => none
  | .kSort _ => none
  | .kCvt _ => none
  | .kSend _ => none
  | .kRecv _ => none
  | .msgArrival _ => none
  | .staleMessageHandle _ => none
  | .kColl _ => none
  | .collDone _ => none
  | .kStamp _ => none
  | .kBarrier _ => none
  | .barrierRelease _ _ => none
  | .kernelHang _ _ => none
  | .taskTimeout _ _ => none
  | .admission _ => none
  | .taskRebind _ _ => none
  | .cogroupRebind _ _ => none
  | .taskRelease _ => none
  | .cogroupRelease _ _ => none
  | .headTaskStarve _ => none
  | .cogroupHang _ _ => none
  | .taskEnd _ _ => none
  | .scratchCycle _ _ _ _ => none
  | .routerCycle _ _ => none
  | .reductionTableAdd _ => none
  | .lockChamberRead _ _ _ => none
  | .fabricTick => none
  | .stampStallRelease _ => none
  | .ftReplicaCheck _ _ => none
  | .timingFrameSend _ _ => none
  | .timingFrameReceive _ _ _ _ _ _ => none
  | .ftRefChange _ => none
  | .stepChangeStart _ => none
  | .avsFrameDone _ => none
  | .glideEnd _ => none
  | .stackPllLoss _ => none
  | .marginMonitor _ _ _ => none
  | .poundDeadline => none
  | .poolThresholdClose => none
  | .poundCut => none
  | .drainEnd => none
  | .drainTimeout => none
  | .verdict => none
  | .poundCommit => none
  | .versionFold _ => none
  | .reorderRelease _ => none
  | .memWriteArrival _ => none
  | .shadowCopyDone _ => none
  | .poolWaitResume _ => none
  | .detectedFault => none
  | .rollbackShadowsReturned => none
  | .replayOpen => none
  | .closeRequestReceive _ _ => none
  | .namedCutReceive _ _ => none
  | .torusCommitNotice _ _ _ => none
  | .torusRollbackNotice _ _ _ => none
  | .holdExpiry _ _ => none
  | .linkFrameReceive _ _ => none
  | .nakResend _ => none
  | .baseParityError _ _ _ => none
  | .grantPass _ _ _ => none
  | .fastPortRetarget _ _ => none
  | .creditReturn _ _ _ => none
  | .lockWindowStart => none
  | .lockWindowRingDeadline => none
  | .basinReduce _ _ => none
  | .baseLogicReset _ => none
  | .baseResetRelease => none
  | .basePlanReloaded _ => none
  | .failComparatorTrip _ => none
  | .handoverStart _ => none
  | .handoverDrainEnd _ => none
  | .spareTuned _ _ => none
  | .spareVerified _ _ => none
  | .handoverSwitch _ => none
  | .handoverLaneCheckEnd _ _ => none
  | .handoverMirrorStop _ => none
  | .ringRelock _ _ => none
  | .calibrationStep _ _ _ _ => none
  | .governorSlot _ _ => none
  | .memReadReq _ _ => none
  | .dramRefresh _ _ _ => none
  | .trackingStep _ _ _ => none
  | .patrolRead _ _ _ => none
  | .fibrePacketReceive _ _ _ => none
  | .torusLinkTrain _ _ _ _ _ => none
  | .torusWriteAck _ _ _ => none
  | .torusAckReceive _ _ _ => none
  | .torusUnackedCheck => none
  | .remoteReadResend _ => none
  | .joinSend => none
  | .joinReceive _ _ => none
  | .partitionLeave => none
  | .partitionNoticeReceive _ _ _ => none
  | .noticeResend _ => none
  | .flightRequest _ _ _ => none
  | .masterLoss => none
  | .housekeepingRound _ => none
  | .hkEvaluation _ => none
  | .hkActionInstant => none
  | .thermalTrip => none
  | .tripLogWritten => none
  | .miscompare _ _ _ => none
  | .lkDecision _ _ _ => none
  | .checkerInjection _ => none
  | .scrubPass _ => none
  | .checkerSelfTest => none
  | .checkerSelfTestDone _ => none
  | .watchdogExpiry _ => none
  | .retiredSelfTest _ _ => none
  | .rejoinHelm => none
  | .moduleStrand => none
  | .controlVoteFail _ _ _ => none
  | .laneTestDone _ _ _ => none
  | .laneSpareWindow _ _ _ => none
  | .baseGroupSpare _ _ _ => none
  | .routerFault _ _ => none
  | .routeTableWrite _ => none
  | .tamperDetect _ => none
  | .tamperClear => none
  | .jtagExtest _ => none
  | .jtagIdcode => none
  | .jtagSamplePreload _ => none
  | .jtagClamp => none
  | .jtagHighz => none
  | .dbgAuth _ _ _ _ => none
  | .dbgMail _ => none
  | .jtagBypass => none
  | .tapReset => none
  | .resetNAssert _ => none
  | .bootStart _ => none
  | .bootPhaseEnd _ _ _ => none
  | .trialExpiry => none
  | .recordWriteDone => none
  | .powerLoss => none
  | .stackPllRelock _ => none
  | .retunedRingsLocked _ => none
  | .lockWindowEnd => none
  | .recordEraseDone => none
  | .remoteBufferRequest _ _ => none

end Sys2Proof
end

