-- ==== Sys2Proof/Safety.lean ====
section
/-!
DEFINITION. The terms the claims are made in: when firmware accepts a mail message, when a member of a gang stands at an op,
what a frame leaves alone, and the invariants of a run. A run of the module is safe when it never stops: no command faults or
is refused, whatever the state (notes/assumptions/3.md).
-/

namespace Sys2Proof.Safety

open Sys2Proof.Machine

/-! ### Outcomes -/

/-- A step does not stop the machine. -/
def Continues (o : Host.Outcome State Fault Refusal) : Prop := ∃ t, o = .next t

/-! ### Mail (R609, R628 to R631) -/

/-- CORR of a message (R626). -/
def corrOf (m : Bytes) : Nat := leField m 2 2

/-- The message that the sender's next mail step takes is `m`, of code `code`. -/
def Offered (s : State) (src : MailSrc) (code : Nat) (m : Bytes) : Prop :=
  frontMail s src = some m ∧ mailCode m = some code

/-- The message is taken and no row of R628 and R890, no authority of R631 and no class of R630 refuses it. -/
def Accepted (s : State) (src : MailSrc) (code : Nat) (m : Bytes) : Prop :=
  Offered s src code m ∧ mailRefusal (dropMail src m s) src code m = 0

/-- A mail command's sender, its code, and which messages of that code it takes: DEBUG_OP has one command for each OP. -/
def mailOf : Instr → Option (MailSrc × Nat × Option Nat)
  | .identify src => some (src, 0x01, none)
  | .ftRead src => some (src, 0x02, none)
  | .telemetryRead src => some (src, 0x03, none)
  | .eventSubscribe src => some (src, 0x04, none)
  | .eventRead src => some (src, 0x05, none)
  | .bufCreate src => some (src, 0x10, none)
  | .bufFree src => some (src, 0x11, none)
  | .rbufCreate src => some (src, 0x12, none)
  | .memRead src => some (src, 0x13, none)
  | .bargeOpen src => some (src, 0x18, none)
  | .bargeCancel src => some (src, 0x19, none)
  | .kernelLoad src => some (src, 0x20, none)
  | .kernelUnload src => some (src, 0x21, none)
  | .graphSubmit src => some (src, 0x28, none)
  | .graphCancel src => some (src, 0x29, none)
  | .poundClose src => some (src, 0x30, none)
  | .poundStatus src => some (src, 0x31, none)
  | .flatSet src => some (src, 0x38, none)
  | .passageOpen src => some (src, 0x39, none)
  | .passageClose src => some (src, 0x3A, none)
  | .configRead src => some (src, 0x40, none)
  | .configWrite src => some (src, 0x41, none)
  | .calibRead src => some (src, 0x42, none)
  | .calibWrite src => some (src, 0x43, none)
  | .powerSet src => some (src, 0x48, none)
  | .resume src => some (src, 0x49, none)
  | .moduleReset src => some (src, 0x4A, none)
  | .updateStage src => some (src, 0x50, none)
  | .healthConfirm src => some (src, 0x51, none)
  | .attest src => some (src, 0x58, none)
  | .keyInstall src => some (src, 0x59, none)
  | .lifecycleSet src => some (src, 0x5A, none)
  | .debugOpen src => some (src, 0x60, none)
  | .debugHalt src => some (src, 0x61, some 0)
  | .debugStep src => some (src, 0x61, some 1)
  | .debugRun src => some (src, 0x61, some 2)
  | .debugRead src => some (src, 0x61, some 3)
  | .debugClose src => some (src, 0x62, none)
  | _ => none

/-- The message is one that a command with this OP takes. -/
def takesOp (op : Option Nat) (m : Bytes) : Bool :=
  match op with
  | none => true
  | some n => debugOpIs n m

/-- The last message that stands in a sender's outbound slots, or the reply register of JTAG. -/
def lastReply (s : State) : MailSrc → Option Bytes
  | .session i => ((s.session i).outbox.getLast?).map OutMsg.body
  | .jtag => some s.sec.jtag.reply

/-! ### Kernel ops (R131, R144) -/

/-- The member may run its next op now, stands at one of opcode `opc`, and its reach has issues left where they are capped (R144, R481). -/
def StandsAt (s : State) (m : MRef) (opc : Nat) (k : KOp) : Prop :=
  currentOp s m = some k ∧ opcOf k.word = opc ∧ issueCapped s k = false

/-- A member after an op that goes on to the next one. -/
def advanced (k : KOp) (f : Member → Member) (x : Member) : Member :=
  { f x with pc := k.mem.pc + 1 + nextOf k.word, waiting := none }

/-- A member after an op that jumps. -/
def jumped (pc : Nat) (f : Member → Member) (x : Member) : Member := { f x with pc := pc, waiting := none }

/-- A member that waits from `now` on, or from when its wait began. -/
def waits (w : Waiting) (now : Nat) (x : Member) : Member :=
  { x with waiting := some w, waitFrom := if x.waiting.isSome then x.waitFrom else now }

/-- The op's accesses are allowed once the parity of the device memory they read has been looked at, and no outstanding op stands
in their way (R97, R98, R173, R521, R523). -/
def Allowed (s : State) (k : KOp) (l : List Touch) : Prop :=
  touchStop (deviceErrors k l s) k l = none ∧ hazardToken k.ref.rank k.mem (touched false l) (touched true l) = none

/-- Read `n` of the op needs no block of a remote buffer, or all it asked for have come back whole (R548). -/
def Fetched (s : State) (k : KOp) (n : Nat) (l : List Touch) : Prop :=
  remoteBlocks (deviceErrors k l s) l = [] ∨
    (opReads (deviceErrors k l s) k.ref n ≠ [] ∧
      ∀ r ∈ opReads (deviceErrors k l s) k.ref n, r.poisoned = false ∧ r.landed = true)

/-- The op's accesses are allowed, and what they read is at hand. -/
def Clear (s : State) (k : KOp) (l : List Touch) : Prop := Allowed s k l ∧ Fetched s k 0 l

/-- The state in which such an op works: the parity of the device memory and the scratch words it reads has been looked at (R99, R521). -/
def looked (s : State) (k : KOp) (l : List Touch) : State := checkRuns k.mem.core (touched false l) (deviceErrors k l s)

/-- The access of an op that stores the rows and columns named of a view. -/
def storeTouch (v : View) (rows cols : List (Nat × Nat)) : List Touch := [{ view := v, runs := v.windowRuns rows cols, write := true }]

/-- The access of an op that loads them. -/
def loadTouch (v : View) (rows cols : List (Nat × Nat)) : List Touch := [{ view := v, runs := v.windowRuns rows cols, write := false }]

/-- The module after an op that stores rows of a tile into a view: the bytes are written under the member's access, the op is counted,
and the member goes on with the flags of the conversion (R167, R168, R479). -/
def stored (s : State) (k : KOp) (v : View) (t : Tile) (rule : StoreRule) (rows cols : List (Nat × Nat)) : State :=
  let u := viewReader k v (looked s k (storeTouch v rows cols))
  let acc := rows.foldl (fun acc r => storeRow u.1 v t rule r.1 r.2 cols acc) {}
  (noteIssue k (writeSpace k.access v.space (.task k.ref.slot k.ref.task) acc.cells u.2)).updMember k.ref
    (advanced k fun x => countStoch v.fmt (addFlags acc.flags x))

/-- The module after an op that loads them into a tile (R165, R166, R190, R479). -/
def loaded (s : State) (k : KOp) (v : View) (rows cols : List (Nat × Nat)) : State :=
  let w := looked s k (loadTouch v rows cols)
  let r := loadTile (loadReader k v w) v k.flush rows cols
  (noteIssue k (dropOpReads k.ref 0 w)).updMember k.ref (advanced k fun x => addFlags r.2 (setTile k.opa r.1 x))

/-- The rows a GATHER or SCATTER names: (tile row, view row), a negative index naming none (R190). -/
def namedRows (k : KOp) (v : View) : List (Nat × Nat) :=
  if v.empty then [] else
    (gatherRows (k.tile (k.e1 % 256)) (k.index (k.e1 / 256 % 256)).toNat).filterMap fun p =>
      if 0 ≤ p.2 then some (p.1, p.2.toNat) else none

/-! ### Invariants of a run -/

/-- The one canonical form of a table of bytes: addresses strictly rise, and no entry is what an unlisted address reads as. -/
def canonicalBytes (t : Tab Byte) : Bool := Tab.sorted t && t.all fun c => c.2 != 0

/-- Device memory is in its canonical form: the folded versions, every shadow, every pin and every pre-image. -/
def Memory.wf (m : MemState) : Bool :=
  canonicalBytes m.base && m.shadows.all (fun h => canonicalBytes h.cells) && m.pins.all (fun p => canonicalBytes p.cells) &&
  m.preImages.all fun p => canonicalBytes p.cells

/-- What a graph's tasks keep of the pages they began with (R373) is in canonical form. -/
def Graph.canonical (g : Graph) : Bool := g.tasks.all fun t => t.2.before.all fun b => canonicalBytes b.2.cells

/-- Device memory, scratch, and what the tasks of every graph keep, one still checked among them, are in canonical form. -/
def Canonical (s : State) : Bool :=
  Memory.wf s.mem && canonicalBytes s.stk.scratch && (s.work.graphs.all fun g => Graph.canonical g.2) &&
  s.work.jobs.all fun j => match j.2.kind with
    | .graphCheck g _ _ => Graph.canonical g
    | _ => true

/-- Fuses `b` are fuses `a` with at most more bits blown and OWNER_ROOT written (R755 to R758): no life-cycle bit is cleared,
the security version does not fall, and what the factory wrote stands. -/
def FusesOnlyBlown (a b : Fuses) : Prop :=
  (∀ i, a.lc.testBit i = true → b.lc.testBit i = true) ∧ a.tamper ≤ b.tamper ∧ a.svn ≤ b.svn ∧
  b.fwRoot = a.fwRoot ∧ b.secret = a.secret ∧ b.unitId = a.unitId

end Sys2Proof.Safety
end

