-- ==== Sys2Proof/Certificates/Slice0/Obligations.lean ====
section
/-!
DEFINITION. The statements for the provers. Each says which rules of spec/ it rests on; a choice of the model that a statement
meets is named by its log entry.
-/

open Sys2Proof Sys2Proof.Machine Sys2Proof.Safety

/-- For every state s, command c and queue rest: with c at the front of the queue, step answers what exec answers for c on
s with the queue rest; with an empty queue the step answers s itself (the idle step is the model's choice, log entry
1). (01_module.md, 95_what_each_step_holds.md.) -/
def Obligations.StepRunsTheFrontCommand : Prop :=
  (∀ (c : Instr) (rest : List Instr) (s : State),
    step { s with pending := c :: rest } = exec c { s with pending := rest }) ∧
  ∀ s : State, s.pending = [] → step s = .next s

/-- For every command and every state, exec answers a next state whose queue is that of the state it began in. The manual
gives no command that stops the module: a fault of the module is an event, a status or a rollback (log entry 3).
(18_errors_and_telemetry.md, 95_what_each_step_holds.md.) -/
def Obligations.EveryCommandGoesOn : Prop :=
  ∀ (c : Instr) (s : State), ∃ t, exec c s = .next t ∧ t.pending = s.pending

/-- For every fuse array f and every state whose fuses are f with at most more bits blown and a tamper count of at most
32, a step answers a next state of which the same holds: each life-cycle bit of f is still blown, the TAMPER and SVN
counts are not lower, FW_ROOT, UNIT_ID and DEVICE_SECRET are those of f, and the life-cycle code is not lower than
that of f. (R755, R756, R757, R758.) -/
def Obligations.FusesAreNeverCleared : Prop :=
  ∀ (f : Fuses) (s t : State),
    FusesOnlyBlown f s.sec.fuses → s.sec.fuses.tamper ≤ 32 → step s = .next t →
      FusesOnlyBlown f t.sec.fuses ∧ t.sec.fuses.tamper ≤ 32 ∧ lifeCycle s ≤ lifeCycle t

/-- Whatever command a step runs, every wipe, tamper and life-cycle change among them, the next state holds the UNIT_ID
and the DEVICE_SECRET of the state before. (R758.) -/
def Obligations.IdentitySurvivesEveryStep : Prop :=
  ∀ s t : State, step s = .next t →
    t.sec.fuses.unitId = s.sec.fuses.unitId ∧ t.sec.fuses.secret = s.sec.fuses.secret

/-- State.reset has an empty queue, committed serial 0 with no pound open, an empty event log whose next LSEQ is 1, no
buffers, kernels, graphs, sessions or barges, device memory without a listed byte, every mode at its start (boot phase
0, power state 0), no stamp issued, and meets the fuse bounds of the invariant. Every default not stated by the manual
is the model's (log entry 60). (R346, R827, R870, R507, 17_boot_update_config.md.) -/
def Obligations.ResetLeavesAnEmptyModule : Prop :=
  State.reset.pending = [] ∧ State.reset.pound.committed = 0 ∧ State.reset.pound.opened = false ∧
  State.reset.log.entries = [] ∧ State.reset.log.nextLseq = 1 ∧
  State.reset.mem.buffers = [] ∧ State.reset.mem.base = [] ∧ State.reset.mem.shadows = [] ∧
  State.reset.work.kernels = [] ∧ State.reset.work.graphs = [] ∧ State.reset.net.sessions = [] ∧ State.reset.net.barges = [] ∧
  (∀ a, committedByte State.reset a = 0) ∧ (∀ i, State.reset.session i = {}) ∧
  State.reset.boot.phase = 0 ∧ State.reset.time.ft = 0 ∧ State.reset.time.firstStamp = false ∧
  State.reset.sec.fuses.tamper ≤ 32 ∧ FusesOnlyBlown State.reset.sec.fuses State.reset.sec.fuses

/-- For every mail command that takes messages of a code, from every sender: when the next message is one of that code
(and of that OP), and the first refusal that applies gives a status other than ST_OK, exec answers the state in which
the message has left its slot, the reply of the 8-byte header alone with that status stands at the sender, and the
message step has moved the checkpoint. Where the sender has no such message exec answers the state unchanged. (R628,
R629, R630, R631, R890.) -/
def Obligations.RefusedMailAnswersAndChangesNothing : Prop :=
  ∀ (c : Instr) (src : MailSrc) (code : Nat) (op : Option Nat) (s : State), mailOf c = some (src, code, op) →
    (∀ m, Offered s src code m → takesOp op m = true → mailRefusal (dropMail src m s) src code m ≠ 0 →
      exec c s = .next (checkpointStep
        (answer src code (corrOf m) (mailRefusal (dropMail src m s) src code m) [] (dropMail src m s)))) ∧
    ((∀ m, Offered s src code m → takesOp op m = false) → exec c s = .next s)

/-- For an open session of index i: answering it adds one outbound message, the 8-byte header with bit 15 of CODE set,
CORR and STATUS, followed by the reply's fields; every other session, and every other part of the module, is
unchanged. For JTAG the reply register takes it. Where the session is not open the reply is discarded. (R606, R609,
R626, R627.) -/
def Obligations.MailReplyReachesItsSender : Prop :=
  (∀ (i code corr st : Nat) (extra : Bytes) (s : State), (s.session i).st = .opened →
    let t := answer (.session i) code corr st extra s
    lastReply t (.session i) = some (leBytes 2 (code ||| 0x8000) ++ leBytes 2 corr ++ leBytes 2 st ++ leBytes 2 0 ++ extra) ∧
    (t.session i).outbox.length = (s.session i).outbox.length + 1 ∧
    (∀ j, j ≠ i → t.session j = s.session j) ∧
    { t with net.sessions := s.net.sessions } = s) ∧
  (∀ (i code corr st : Nat) (extra : Bytes) (s : State), (s.session i).st ≠ .opened →
    answer (.session i) code corr st extra s = s) ∧
  ∀ (code corr st : Nat) (extra : Bytes) (s : State),
    answer .jtag code corr st extra s =
      { s with sec.jtag.reply := leBytes 2 (code ||| 0x8000) ++ leBytes 2 corr ++ leBytes 2 st ++ leBytes 2 0 ++ extra }

/-- Each message, once accepted, is answered ST_OK with the fields of its layout: IDENTIFY the identity of R637; FT_READ
the fabric time, a stamp of the read and FT_STATUS; POUND_STATUS the committed serial, the stamp of its commit and the
status word; EVENT_SUBSCRIBE sets the mask and the cursor; EVENT_READ the entries from FIRST on; TELEMETRY_READ the
values of the item from INDEX on, with a stamp. The unparsed message of R628 is answered ST_LENGTH below 8 bytes and
ST_COMMAND otherwise. Everything but the message's slot, the reply, the checkpoint, and the stamp issuer where a stamp
is taken, stands. (R628, R637, R638, R639, R640, R641, R396, R832, R313, R838.) -/
def Obligations.IdentityTimeAndEventMail : Prop :=
  ∀ (src : MailSrc) (m : Bytes) (s : State),
    (frontMail s src = some m → mailCode m = none → m.length < 8 →
      exec (.mailRefusedUnparsed src) s = .next (checkpointStep (answer src 0 0 St.length [] (dropMail src m s)))) ∧
    (frontMail s src = some m → mailCode m = none → 8 ≤ m.length →
      exec (.mailRefusedUnparsed src) s = .next (checkpointStep
        (answer src (leField m 0 2) (corrOf m) St.command [] (dropMail src m s)))) ∧
    (Accepted s src 0x01 m → exec (.identify src) s = .next (checkpointStep
      (answer src 0x01 (corrOf m) St.ok (identifyReply (dropMail src m s)) (dropMail src m s)))) ∧
    (Accepted s src 0x31 m → exec (.poundStatus src) s = .next (checkpointStep
      (answer src 0x31 (corrOf m) St.ok
        (leBytes 8 s.pound.committed ++ leBytes 8 s.pound.kstamp ++ leBytes 4 (poundStatus (dropMail src m s)) ++ leBytes 4 0)
        (dropMail src m s)))) ∧
    (∀ st t, Accepted s src 0x02 m → issueStamp 30 (.reply s.work.jobNo) (dropMail src m s) = (some st, t) →
      exec (.ftRead src) s = .next (checkpointStep (answer src 0x02 (corrOf m) St.ok
        (leBytes 8 s.ft ++ leBytes 8 st ++ (leBytes 4 (ftStatus s) ++ leBytes 4 0)) t))) ∧
    (∀ i, src = .session i → Accepted s src 0x04 m →
      exec (.eventSubscribe src) s = .next (checkpointStep (answer src 0x04 (corrOf m) St.ok (leBytes 8 (leField m 8 8))
        ((dropMail src m s).updSession i fun x => { x with mask := leField m 8 8, cursor := s.log.nextLseq })))) ∧
    (∀ e l, s.log.entries = e :: l → e.lseq ≤ fullLseq s (leField m 8 4) → Accepted s src 0x05 m →
      exec (.eventRead src) s = .next (checkpointStep (answer src 0x05 (corrOf m) St.ok
        (leBytes 4 (leField m 8 4) ++ leBytes 2 (eventsFrom s (leField m 8 4) (leField m 0x0C 2)).length ++ leBytes 2 0 ++
          (eventsFrom s (leField m 8 4) (leField m 0x0C 2)).flatMap entryBytes) (dropMail src m s)))) ∧
    (∀ sh st t, Accepted s src 0x03 m → itemShape (leField m 8 4) = some sh → leField m 0x0C 4 < sh.1 →
      let n := readCount sh (leField m 0x0C 4) (leField m 0x10 2)
      let u := (List.range n).foldl (fun s j => clearRead (leField m 8 4) (leField m 0x0C 4 + j) s)
        { dropMail src m s with freeCtr := s.freeCtr + n }
      issueStamp 30 (.reply u.work.jobNo) u = (some st, t) →
      exec (.telemetryRead src) s = .next (checkpointStep (answer src 0x03 (corrOf m) St.ok
        (leBytes 4 (leField m 8 4) ++ leBytes 2 n ++ leBytes 2 sh.2 ++ leBytes 8 st ++
          (List.range n).flatMap fun j =>
            leBytes sh.2 (itemValue (dropMail src m s) (leField m 8 4) (leField m 0x0C 4 + j) j)) t)))

/-- Accepted BUF_CREATE of a size that fits answers the handle and base of the new buffer. Accepted BUF_FREE of a buffer
nothing names frees it: the handle is gone, its pages wait for the next commit, its shadows in the open pound go.
Accepted MEM_READ waits while a memory berth of its range and the wharf reach each other over no working link; else
with MODE 0 it reads the range from its storage frames, which notes any odd parity, and answers the committed serial
and the committed bytes; with MODE 1 it answers the newest bytes and 0. Accepted RBUF_CREATE of a reachable endpoint
asks that module and keeps a job that waits. The answer of the remote module or its absence for 2^15 ticks ends that
job; nothing else of the module changes but what createBuffer, freeBuffer, answer and endJob write. (R383, R506, R507,
R508, R546, R642, R644, R645.) -/
def Obligations.BufferAndReadMail : Prop :=
  (∀ (src : MailSrc) (m : Bytes) (s : State) (h base : Nat) (t : State), Accepted s src 0x10 m →
    createBuffer (leField m 8 8) none (dropMail src m s) = .inr (h, base, t) →
    exec (.bufCreate src) s = .next (checkpointStep (answer src 0x10 (corrOf m) St.ok
      (leBytes 4 h ++ leBytes 4 0 ++ leBytes 8 base) t))) ∧
  (∀ (src : MailSrc) (m : Bytes) (s : State) (b : Buffer), Accepted s src 0x11 m → bufOf s (leField m 8 4) = some b →
    bufferBusy s (leField m 8 4) b = false →
    exec (.bufFree src) s = .next (checkpointStep (answer src 0x11 (corrOf m) St.ok []
      (freeBuffer (leField m 8 4) b (dropMail src m s))))) ∧
  (∀ (src : MailSrc) (m : Bytes) (s : State), Accepted s src 0x13 m → memReadReady src s m = false → exec (.memRead src) s = .next s) ∧
  (∀ (src : MailSrc) (m : Bytes) (s : State) (b : Buffer), Accepted s src 0x13 m → memReadReady src s m = true →
    let u := sourceErrors (leField m 8 4) (leField m 0x10 8) (leField m 0x18 4) (dropMail src m s)
    mailBuffer u (leField m 8 4) (leField m 0x10 8) (leField m 0x18 4) true = .inr b →
    (leField m 0x0C 4 = 0 → exec (.memRead src) s = .next (checkpointStep (answer src 0x13 (corrOf m) St.ok
      (leBytes 8 u.pound.committed ++ leBytes 4 (leField m 0x18 4) ++ leBytes 4 0 ++
        committedRead u (bufBase b + leField m 0x10 8) (leField m 0x18 4)) u))) ∧
    (leField m 0x0C 4 = 1 → exec (.memRead src) s = .next (checkpointStep (answer src 0x13 (corrOf m) St.ok
      (leBytes 8 0 ++ leBytes 4 (leField m 0x18 4) ++ leBytes 4 0 ++
        (liveRead (bufBase b + leField m 0x10 8) (leField m 0x18 4) u).1)
      (liveRead (bufBase b + leField m 0x10 8) (leField m 0x18 4) u).2)))) ∧
  (∀ (src : MailSrc) (m : Bytes) (s : State) (c : Nat), Accepted s src 0x12 m → rbufCheck (dropMail src m s) m = .inr c →
    exec (.rbufCreate src) s = .next (checkpointStep (torusSend (.ask c (leField m 0x0C 4) (leField m 0x10 8))
      (addJob (.rbuf c (leField m 0x0C 4) (leField m 0x10 8) (leField m 0x18 2) 0) src 0x12 (corrOf m) (dropMail src m s))))) ∧
  (∀ (s : State) (job : Nat) (j : Job) (c h size p b base hd bs : Nat) (t : State), Tab.find? job s.work.jobs = some j →
    j.kind = .rbuf c h size p b → createBuffer size (some (c, h, base, p)) s = .inr (hd, bs, t) →
    exec (.rbufRemoteAnswer job true base) s = .next (endJob job St.ok (leBytes 4 hd ++ leBytes 4 0 ++ leBytes 8 bs) t)) ∧
  (∀ (s : State) (job base : Nat) (j : Job) (c h size p b : Nat), Tab.find? job s.work.jobs = some j →
    j.kind = .rbuf c h size p b →
    exec (.rbufRemoteAnswer job false base) s = .next (endJob job St.bufferHandle [] s)) ∧
  ∀ (s : State) (job : Nat) (j : Job) (c h size p b : Nat), Tab.find? job s.work.jobs = some j →
    j.kind = .rbuf c h size p b → j.since + 2 ^ 15 ≤ s.ft →
    exec (.rbufCreateTimeout job) s = .next (endJob job St.torusUnreachable [] s)

/-- When createBuffer answers a handle and a base, the handle names a buffer of the size asked for whose pages begin at
the base, cover the size, end within the buffer window, and meet no run of pages in use; no byte, shadow or register
besides the buffer table and the generation of the index changes. (R505, R506, R507.) -/
def Obligations.NewBufferTakesFreePages : Prop :=
  ∀ (size : Nat) (r : Option (Nat × Nat × Nat × Nat)) (s t : State) (h base : Nat), createBuffer size r s = .inr (h, base, t) →
    ∃ b : Buffer, bufOf t h = some b ∧ b.size = size ∧ b.remote = r ∧ base = bufBase b ∧ size ≤ b.pages * 65536 ∧
      (b.page + b.pages) * 65536 ≤ bufferCapacity s ∧
      (∀ u ∈ usedRuns s, b.page + b.pages ≤ u.1 ∨ u.1 + u.2 ≤ b.page) ∧
      { t with mem.buffers := s.mem.buffers, mem.gens := s.mem.gens } = s

/-- An accepted BARGE_OPEN of a length other than 0 that R612 does not refuse answers the lowest free number n and the
serial it reads (the committed one for a pinned outbound barge, else 0), and barge n stands open with nothing written.
An accepted BARGE_CANCEL of a barge of the same session is answered ST_OK and the barge ends with ST_CANCELLED. Which
number is given is the model's choice (log entry 13). (R612, R613, R646, R647.) -/
def Obligations.BargeMail : Prop :=
  (∀ (src : MailSrc) (m : Bytes) (s : State) (b : Buffer) (n : Nat), Accepted s src 0x18 m → leField m 0x18 8 ≠ 0 →
    let u := if leField m 0x0C 1 = 1 then sourceErrors (leField m 8 4) (leField m 0x10 8) (leField m 0x18 8) (dropMail src m s)
      else dropMail src m s
    bargeRefusal u (leField m 8 4) (srcHandle s src) (leField m 0x10 8) (leField m 0x18 8)
      (leField m 0x0C 1 == 1) = .inr b →
    Tab.freeKey 0 4096 u.net.barges = some n →
    let serial := if leField m 0x0C 1 = 1 ∧ leField m 0x0D 1 ≠ 1 then s.pound.committed else 0
    let g : Barge :=
      { session := srcHandle s src, handle := leField m 8 4, outbound := leField m 0x0C 1 == 1
        current := leField m 0x0D 1 == 1, start := leField m 0x10 8, length := leField m 0x18 8, serial := serial
        openedNo := u.net.bargeNo, lastSerial := serial }
    exec (.bargeOpen src) s = .next (checkpointStep (answer src 0x18 (corrOf m) St.ok
      (leBytes 2 n ++ leBytes 6 0 ++ leBytes 8 serial)
      { u with net.barges := Tab.put n g u.net.barges, net.bargeNo := u.net.bargeNo + 1 }))) ∧
  ∀ (src : MailSrc) (m : Bytes) (s : State) (b : Barge), Accepted s src 0x19 m →
    Tab.find? (leField m 8 2) s.net.barges = some b → b.session = srcHandle s src →
    exec (.bargeCancel src) s = .next (checkpointStep (endBarge (leField m 8 2) St.cancelled
      (answer src 0x19 (corrOf m) St.ok [] (dropMail src m s))))

/-- An accepted KERNEL_LOAD of a readable range whose image passes R224 begins a job that lowers it. When the lowering is
done and the lockkeepers serve mail, the kernel stands at the lowest free index with a new generation that is never 0,
and the reply carries its handle and identity. An accepted KERNEL_UNLOAD of a kernel that no resident graph names
removes it. (R224, R225, R254, R649, R650.) -/
def Obligations.KernelMail : Prop :=
  (∀ (src : MailSrc) (m : Bytes) (s : State) (b : Buffer) (k : Kernel), Accepted s src 0x20 m →
    let u := sourceErrors (leField m 8 4) (leField m 0x10 8) (leField m 0x0C 4) (dropMail src m s)
    mailBuffer u (leField m 8 4) (leField m 0x10 8) (leField m 0x0C 4) true = .inr b →
    kernelCheck u (committedRead u (bufBase b + leField m 0x10 8) (leField m 0x0C 4)) = .inr k →
    exec (.kernelLoad src) s = .next (checkpointStep
      (addJob (.lowering k (loweredUnits k.opWords.length)) src 0x20 (corrOf m) u))) ∧
  (∀ (s : State) (job idx units : Nat) (j : Job) (k : Kernel), lkServing s = true → Tab.find? job s.work.jobs = some j →
    j.kind = .lowering k units → Tab.freeKey 0 4096 s.work.kernels = some idx →
    ∃ gen t, gen ≠ 0 ∧ gen < 2 ^ 20 ∧
      exec (.kernelLoweringDone job) s = .next t ∧
      t = endJob job St.ok (leBytes 4 (kernelHandle idx gen) ++ leBytes 4 0 ++ leBytes 8 k.id)
        { s with work.kernels := Tab.put idx { k with gen := gen } s.work.kernels
                 work.kgens := Tab.put idx gen s.work.kgens } ∧
      kernelAt t (kernelHandle idx gen) = some { k with gen := gen }) ∧
  ∀ (src : MailSrc) (m : Bytes) (s : State) (k : Kernel), Accepted s src 0x21 m →
    kernelAt s (leField m 8 4) = some k →
    (∀ g ∈ s.work.graphs, g.2.kernels.contains (leField m 8 4 % 4096) = false) →
    exec (.kernelUnload src) s = .next (checkpointStep (answer src 0x21 (corrOf m) St.ok []
      { dropMail src m s with work.kernels := Tab.del (leField m 8 4 % 4096) s.work.kernels }))

/-- An accepted GRAPH_SUBMIT of a readable range whose image passes R251 keeps a job with the graph. When the check is
done, no laser group is lost and what the graph names still stands, the graph takes the lowest free slot with the next
order number, the reply carries the slot, and what follows from it (skipped tasks, an empty graph's end, readiness) is
settled. An accepted GRAPH_CANCEL with the graph's tag cancels it. An accepted POUND_CLOSE keeps a job that waits for
the commit and asks for a cut at the next tick. (R251, R252, R253, R294, R296, R355, R651, R653, R655.) -/
def Obligations.GraphAndPoundMail : Prop :=
  (∀ (src : MailSrc) (m : Bytes) (s : State) (b : Buffer) (g : Graph), Accepted s src 0x28 m →
    let u := sourceErrors (leField m 8 4) (leField m 0x10 8) (leField m 0x18 8) (dropMail src m s)
    mailBuffer u (leField m 8 4) (leField m 0x10 8) (leField m 0x18 8) true = .inr b →
    graphCheck u src (leField m 8 4) (committedRead u (bufBase b + leField m 0x10 8) (leField m 0x18 8)) = .inr g →
    exec (.graphSubmit src) s = .next (checkpointStep (addJob (.graphCheck
      { g with imageAt := bufBase b + leField m 0x10 8, imageLen := leField m 0x18 8 } St.ok (leField m 8 4)) src 0x28
      (corrOf m) u))) ∧
  (∀ (s : State) (job slot st image : Nat) (j : Job) (g : Graph), lkServing s = true → Tab.find? job s.work.jobs = some j →
    j.kind = .graphCheck g st image → lightLost s = false → graphStillGood s g image = 0 → Tab.freeKey 0 64 s.work.graphs = some slot →
    exec (.graphCheckDone job) s = .next (settle (endJob job St.ok (leBytes 1 slot ++ leBytes 7 0)
      { s with work.graphs := Tab.put slot { g with order := s.work.graphNo, ended := g.tasks = [] } s.work.graphs
               work.graphNo := s.work.graphNo + 1 }))) ∧
  (∀ (src : MailSrc) (m : Bytes) (s : State) (g : Graph), Accepted s src 0x29 m →
    s.graph? (leField m 8 1) = some g → g.tag = leField m 0x10 8 →
    exec (.graphCancel src) s = .next (checkpointStep (answer src 0x29 (corrOf m) St.ok []
      (cancelGraph (leField m 8 1) (dropMail src m s))))) ∧
  ∀ (src : MailSrc) (m : Bytes) (s : State), Accepted s src 0x30 m →
    exec (.poundClose src) s = .next (checkpointStep (askClose (s.ft + 1) .host
      (addJob .poundClose src 0x30 (corrOf m) (dropMail src m s))))

/-- An accepted FLAT_SET whose entries lie in the table and in the partition queues the configuration record with the
entries written, and keeps a job until that write completes. An accepted PASSAGE_OPEN that R657 does not refuse on
this module takes the lowest free number, asks the time-master for the flight, and keeps a job, unless another module
on the route has no share or no passage left, which is a free value (log entry 186) and is answered with the status
for it; when every module has confirmed, the passage is open and the reply carries its number. An accepted
PASSAGE_CLOSE of an open passage marks it to close after the next cut. (R534, R554, R556, R656, R657, R658.) -/
def Obligations.TorusMail : Prop :=
  (∀ (src : MailSrc) (m : Bytes) (s : State), Accepted s src 0x38 m → leField m 8 2 + leField m 0x0A 2 ≤ 65536 →
    (∀ e ∈ flatEntries m, e.testBit 31 = true → addrOk (dropMail src m s) (e % 2 ^ 24) = true) →
    let c := latestConfig s
    exec (.flatSet src) s = .next (checkpointStep (flashWrite src 0x38 (corrOf m) 7
      (.config { c with flat := (flatEntries m).zipIdx.foldl (fun t e => Tab.putD 0 (leField m 8 2 + e.2) e.1 t) c.flat })
      (dropMail src m s)))) ∧
  (∀ (src : MailSrc) (m : Bytes) (s : State) (a id : Nat) (r : List Nat), Accepted s src 0x39 m →
    let far := (drawBelow 3 (dropMail src m s)).1
    let u := (drawBelow 3 (dropMail src m s)).2
    passageCheck u 0 m = .inr (a, r) → Tab.freeKey 1 65535 s.torus.passages = some id →
    let p : Passage :=
      { dest := a, link := leField m 0x0C 1, share := leField m 0x0D 1, pounds := leField m 0x0E 2, route := routeField r }
    exec (.passageOpen src) s = .next (checkpointStep (
      if far = 0 then
        torusSend (.flightAsk (flightId u id false) [passageActs u p fun c l port => .setCircuit c l port p.share (passageKey u id)])
          (addJob (.passage id) src 0x39 (corrOf m) { u with torus.passages := Tab.put id p s.torus.passages })
      else answer src 0x39 (corrOf m) (if far = 1 then St.circuitLimit else St.passageLimit) [] u))) ∧
  (∀ (s : State) (job id : Nat) (j : Job), Tab.find? job s.work.jobs = some j → j.kind = .passage id →
    exec (.passageConfirmed job) s = .next (endJob job St.ok (leBytes 2 id ++ leBytes 6 0)
      { s with torus.passages := Tab.modify id (fun p => { p with opened := true }) s.torus.passages })) ∧
  ∀ (src : MailSrc) (m : Bytes) (s : State) (p : Passage), Accepted s src 0x3A m →
    Tab.find? (leField m 8 2) s.torus.passages = some p → p.opened = true →
    exec (.passageClose src) s = .next (checkpointStep (answer src 0x3A (corrOf m) St.ok []
      { dropMail src m s with
        torus.passages := Tab.modify (leField m 8 2) (fun p => { p with closing := true }) s.torus.passages }))

/-- An accepted CONFIG_READ of an item of R821 answers its stored bytes. An accepted CONFIG_WRITE of an item with a
permitted value, in a life-cycle state that permits it, queues a configuration record with the item so set and keeps a
job until the write completes. An accepted CALIB_READ into a local buffer sends the bytes of the current set as
stamped writes and keeps a job until their commit. An accepted CALIB_WRITE of length 0 erases the set; one of a set of
at most 4,194,240 bytes is refused with ST_CALIB_UNIT where it is bound to another unit, with ST_CALIB_FORM where its
form is not one the firmware reads, and else queued as record 8. The bytes of the set are a free value (log entry 2).
(R659, R660, R661, R821, R822.) -/
def Obligations.ConfigurationAndCalibrationMail : Prop :=
  (∀ (src : MailSrc) (m : Bytes) (s : State), Accepted s src 0x40 m → configItems.contains (leField m 8 2) = true →
    exec (.configRead src) s = .next (checkpointStep (answer src 0x40 (corrOf m) St.ok
      (leBytes 2 (leField m 8 2) ++ leBytes 2 (itemStored s (leField m 8 2)).length ++ leBytes 4 0 ++ itemStored s (leField m 8 2))
      (dropMail src m s)))) ∧
  (∀ (src : MailSrc) (m : Bytes) (s : State), Accepted s src 0x41 m → configItems.contains (leField m 8 2) = true →
    valueOk (leField m 8 2) ((m.drop 0x10).take (leField m 0x0A 2)) = true →
    ¬ ((leField m 8 2 = 0x0201 ∨ leField m 8 2 = 0x0300) ∧ lifeCycle s = 2) →
    exec (.configWrite src) s = .next (checkpointStep (flashWrite src 0x41 (corrOf m) 7
      (.config { latestConfig s with
        items := Tab.putD (configDefault (leField m 8 2)) (leField m 8 2) ((m.drop 0x10).take (leField m 0x0A 2))
          (latestConfig s).items }) (dropMail src m s)))) ∧
  (∀ (src : MailSrc) (m : Bytes) (s : State) (b : Buffer), Accepted s src 0x42 m →
    mailBuffer (dropMail src m s) (leField m 8 4) (leField m 0x10 8) (Config.calibSetLength % 4194241) false = .inr b →
    let u := (calibBytes (dropMail src m s)).2
    let d := (calibBytes (dropMail src m s)).1
    exec (.calibRead src) s = .next (checkpointStep (sendWrites 30 (bufBase b + leField m 0x10 8) d (.mail u.work.jobNo)
      (addJob (.atCommit (openSerial u) (leBytes 8 d.length) (bufBase b + leField m 0x10 8) d) src 0x42 (corrOf m) u)))) ∧
  (∀ (src : MailSrc) (m : Bytes) (s : State) (b : Buffer), Accepted s src 0x43 m → leField m 0x18 8 = 0 →
    let u := sourceErrors (leField m 8 4) (leField m 0x10 8) 0 (dropMail src m s)
    mailBuffer u (leField m 8 4) (leField m 0x10 8) 0 true = .inr b →
    exec (.calibWrite src) s = .next (checkpointStep (flashAdd (.eraseRecord 8 (.reply u.work.jobNo))
      (addJob .flash src 0x43 (corrOf m) u)))) ∧
  ∀ (src : MailSrc) (m : Bytes) (s : State) (b : Buffer), Accepted s src 0x43 m →
    0 < leField m 0x18 8 → leField m 0x18 8 ≤ 4194240 →
    let u := sourceErrors (leField m 8 4) (leField m 0x10 8) (leField m 0x18 8) (dropMail src m s)
    mailBuffer u (leField m 8 4) (leField m 0x10 8) (leField m 0x18 8) true = .inr b →
    let d := committedRead u (bufBase b + leField m 0x10 8) (leField m 0x18 8)
    exec (.calibWrite src) s = .next (checkpointStep (
      if Config.calibUnitOk d = false then answer src 0x43 (corrOf m) St.calibUnit [] u
      else if Config.calibFormOk d = false then answer src 0x43 (corrOf m) St.calibForm [] u
      else flashWrite src 0x43 (corrOf m) 8 (.calib d) u))

/-- An accepted POWER_SET that R690 permits keeps a job and starts the transition, or holds it before EV_READY.
POWER_TRANSITION_DONE puts the target in force once what R690 waits for has come. An accepted RESUME in shutdown with
every region cool starts a transition to PS0 with THERMTRIP_N released. An accepted MODULE_RESET is answered ST_OK and
sets the timer to 2^17 ticks; when the timer has run out MODULE_RESET_TIMER resets the module with the cause kept.
(R662, R663, R664, R690, R691, R709, R710.) -/
def Obligations.PowerAndResetMail : Prop :=
  (∀ (src : MailSrc) (m : Bytes) (s : State), Accepted s src 0x48 m → powerRefusal (dropMail src m s) (leField m 8 1) = 0 →
    s.power.pstate ≠ leField m 8 1 →
    let u := addJob .power src 0x48 (corrOf m) (dropMail src m s)
    exec (.powerSet src) s = .next (checkpointStep
      (if ready s = false ∧ s.power.pstate ≠ 4 ∧ leField m 8 1 ≠ 4 then
         { u with power.heldReq := some { target := leField m 8 1, cap := leField m 9 1, job := s.work.jobNo } }
       else startTransition (leField m 8 1) (leField m 9 1) (some s.work.jobNo) .host u))) ∧
  (∀ (s : State) (tr : Transition), (quiesceCheck s).power.transition = some tr → transitionOver (quiesceCheck s) tr = true →
    (quiesceCheck s).power.tripAt = none →
    exec .powerTransitionDone s = .next (finishTransition tr (quiesceCheck s))) ∧
  (∀ (src : MailSrc) (m : Bytes) (s : State), Accepted s src 0x49 m → s.power.shutdown = true →
    (∀ r, r < 29 → resumeBlocked s r = false) →
    exec (.resume src) s = .next (checkpointStep (startTransition 0 11 (some s.work.jobNo) .host
      { addJob .power src 0x49 (corrOf m) (dropMail src m s) with power.shutdown := false, pins.thermtripN := true }))) ∧
  (∀ (src : MailSrc) (m : Bytes) (s : State), Accepted s src 0x4A m →
    exec (.moduleReset src) s = .next (checkpointStep (answer src 0x4A (corrOf m) St.ok []
      { dropMail src m s with boot.resetAt := some (2 ^ 17), boot.resetCause := 2 }))) ∧
  ∀ s : State, s.boot.resetAt = some 0 → s.lk.stranded = none → s.pins.resetN = true →
    exec .moduleResetTimer s = .next (resetModule s.boot.resetCause true s)

/-- An accepted UPDATE_STAGE of at most 32 MiB with no trial and no other stage queues the boot-state write that empties
the other slot, then the image. When the programming at the front of the flash queue ends, the image stands in the
slot and a second boot-state write makes it PENDING. An accepted HEALTH_CONFIRM of a trial image in host-confirm mode
queues the confirming write. An accepted ATTEST with seeds and a fitting range begins the signature. An accepted
KEY_INSTALL writes or erases the slot, queues the key record for slots 1 to 255, logs EV_KEY and closes the sessions
of that slot. An accepted LIFECYCLE_SET naming this unit and a permitted transition performs it. (R665, R666, R667,
R668, R669, R670, R763, R764, R776, R806, R809.) -/
def Obligations.UpdateAndKeyMail : Prop :=
  (∀ (src : MailSrc) (m : Bytes) (s : State) (b : Buffer), Accepted s src 0x50 m → leField m 0x18 8 ≤ 2 ^ 25 →
    let u := sourceErrors (leField m 8 4) (leField m 0x10 8) (leField m 0x18 8) (dropMail src m s)
    mailBuffer u (leField m 8 4) (leField m 0x10 8) (leField m 0x18 8) true = .inr b →
    onTrial u = false → staging u = false →
    exec (.updateStage src) s = .next (checkpointStep (flashAdd
      (.write 1 (.boot (setSlot (latestBoot u) (!u.boot.bootRec.running) .empty))
        (.stage (!u.boot.bootRec.running) (committedRead u (bufBase b + leField m 0x10 8) (leField m 0x18 8)) u.work.jobNo))
      (addJob .flash src 0x50 (corrOf m) u)))) ∧
  (∀ (s : State) (img : Bytes) (next : FlashThen) (rest : List FlashOp), s.flash.queue = .program true img next :: rest →
    exec .slotProgramDone s = .next (flashAdd
      (.write 1 (.boot (setSlot (latestBoot { s with flash.queue := rest }) true .pending)) next)
      { s with flash.imageB := img, flash.queue := rest })) ∧
  (∀ (s : State) (img : Bytes) (next : FlashThen) (rest : List FlashOp), s.flash.queue = .program false img next :: rest →
    exec .slotProgramDone s = .next (flashAdd
      (.write 1 (.boot (setSlot (latestBoot { s with flash.queue := rest }) false .pending)) next)
      { s with flash.imageA := img, flash.queue := rest })) ∧
  (∀ (src : MailSrc) (m : Bytes) (s : State), Accepted s src 0x51 m → onTrial s = true → leNat (itemBoot s 0x0300) ≠ 0 →
    exec (.healthConfirm src) s = .next (checkpointStep (confirmImage (some s.work.jobNo)
      (addJob .flash src 0x51 (corrOf m) (dropMail src m s))))) ∧
  (∀ (src : MailSrc) (m : Bytes) (s : State) (b : Buffer), Accepted s src 0x58 m → s.sec.seeds = true →
    mailBuffer (dropMail src m s) (leField m 0x28 4) (leField m 0x30 8) 8685 false = .inr b →
    exec (.attest src) s = .next (checkpointStep (attestSign s.work.jobNo
      (addJob (.attestWrite ((m.drop 8).take 32) (leField m 0x28 4) (leField m 0x30 8)) src 0x58 (corrOf m) (dropMail src m s))))) ∧
  (∀ (src : MailSrc) (m : Bytes) (s : State), Accepted s src 0x59 m → s.sec.awaitSlot0 = false →
    let u := dropMail src m s
    let vault := if leField m 0x0A 1 = 0 then Tab.put (leField m 8 2) ((m.drop 0x10).take 32) s.sec.vault
      else Tab.del (leField m 8 2) s.sec.vault
    let v : State := { u with sec.vault := vault }
    exec (.keyInstall src) s = .next (checkpointStep (closeSessions (fun _ ss => ss.key == some (leField m 8 2)) St.sessionClosed
      (answer src 0x59 (corrOf m) St.ok []
        (logEvent Ev.key (leBytes 1 (leField m 8 2) ++ leBytes 1 (leField m 0x0A 1)) (if leField m 8 2 = 0 then v else writeKeys v)))))) ∧
  ∀ (src : MailSrc) (m : Bytes) (s : State), Accepted s src 0x5A m → leField m 0x10 8 = s.sec.fuses.unitId % 2 ^ 64 →
    lcPermitted s (lifeCycle s) (leField m 8 1) = true →
    exec (.lifecycleSet src) s = .next (checkpointStep (lcMove (leField m 8 1) s.work.jobNo
      (addJob .lifecycle src 0x5A (corrOf m) (dropMail src m s))))

/-- An accepted DEBUG_OPEN of a level R785 permits, with no other channel at D2 or above where the level is D2 or D3, is
answered ST_OK with the level and opens it. From a sender at D2 or above: HALT with no pound open halts the pair at
once, and with a pound open keeps a job and asks for a close; STEP is answered ST_OK; RUN lets the pair run; READ of a
range no byte of which R786 refuses is answered with the bytes. DEBUG_CLOSE ends the sender's level. That STEP leaves
no other effect is the model's reading (log entry 14). (R671, R672, R673, R784, R785, R786, R787.) -/
def Obligations.DebugMail : Prop :=
  (∀ (src : MailSrc) (m : Bytes) (s : State), Accepted s src 0x60 m → levelAllowed (dropMail src m s) (leField m 8 1) = true →
    (leField m 8 1 < 2 ∨ otherHolds (dropMail src m s) src = false) →
    exec (.debugOpen src) s = .next (checkpointStep (answer src 0x60 (corrOf m) St.ok (leBytes 1 (leField m 8 1) ++ leBytes 7 0)
      (openLevel src (leField m 8 1) (dropMail src m s))))) ∧
  (∀ (src : MailSrc) (m : Bytes) (s : State), Accepted s src 0x61 m → leField m 8 1 = 0 → 2 ≤ senderLevel s src →
    s.sec.halted = none →
    (poundActive s = false → exec (.debugHalt src) s = .next (checkpointStep (answer src 0x61 (corrOf m) St.ok []
      (haltPair (dropMail src m s))))) ∧
    (poundActive s = true → exec (.debugHalt src) s = .next (checkpointStep (askClose (s.ft + 1) .debug
      (addJob .halt src 0x61 (corrOf m) (dropMail src m s)))))) ∧
  (∀ (src : MailSrc) (m : Bytes) (s : State), Accepted s src 0x61 m → leField m 8 1 = 1 → 2 ≤ senderLevel s src →
    exec (.debugStep src) s = .next (checkpointStep (answer src 0x61 (corrOf m) St.ok [] (dropMail src m s)))) ∧
  (∀ (src : MailSrc) (m : Bytes) (s : State), Accepted s src 0x61 m → leField m 8 1 = 2 → 2 ≤ senderLevel s src →
    exec (.debugRun src) s = .next (checkpointStep (answer src 0x61 (corrOf m) St.ok [] (runAgain (dropMail src m s))))) ∧
  (∀ (src : MailSrc) (m : Bytes) (s : State), Accepted s src 0x61 m → leField m 8 1 = 3 → 2 ≤ senderLevel s src →
    (∀ i, i < leField m 0x0C 4 → readRefusal (dropMail src m s) (senderLevel s src) (leField m 0x10 8 + i) = 0) →
    exec (.debugRead src) s = .next (checkpointStep (answer src 0x61 (corrOf m) St.ok
      (leBytes 4 (leField m 0x0C 4) ++ leBytes 4 0 ++
        (List.range (leField m 0x0C 4)).map fun i => debugByte (dropMail src m s) s.freeCtr (leField m 0x10 8 + i) i)
      { dropMail src m s with freeCtr := s.freeCtr + 1 }))) ∧
  ∀ (src : MailSrc) (m : Bytes) (s : State), Accepted s src 0x62 m →
    exec (.debugClose src) s = .next (checkpointStep (answer src 0x62 (corrOf m) St.ok [] (lowerDebug src 0 0 (dropMail src m s))))

/-- For a member that may run and stands at the op: NOP goes to the next op. END with no token out ends the member; with
one out it waits. LOOP with a positive count enters its body with the index at 0, with count 0 it goes past its
ENDLOOP. ENDLOOP repeats the body with the index one up while passes are left, else goes on. TILEFOR over a view that
is not empty enters its body with the first origin. IF enters its true branch, or goes past ELSE or ENDIF. ELSE and
ENDIF leave the conditional. Only the member changes. (R131, R150, R151, R152, R153, R154, R157.) -/
def Obligations.KernelControlOps : Prop :=
  ∀ (s : State) (m : MRef) (k : KOp),
    (StandsAt s m 0x00 k → exec (.kNop m) s = .next (s.updMember m (advanced k id))) ∧
    (StandsAt s m 0x01 k → othersInColl k = false → k.mem.out = [] →
      exec (.kEnd m) s = .next (s.updMember m (jumped k.mem.pc fun x => { x with ended := true, waitFrom := s.ft }))) ∧
    (StandsAt s m 0x01 k → othersInColl k = false → k.mem.out ≠ [] →
      exec (.kEnd m) s = .next (s.updMember m (waits .ending s.ft))) ∧
    (StandsAt s m 0x02 k → 0 < k.index k.opb →
      exec (.kLoop m) s = .next (s.updMember m (advanced k fun x => setIx k.opa 0
        { x with ctl := .loop (k.mem.pc + 1 + nextOf k.word) (closerOf k false) k.opa 0 (k.index k.opb).toNat :: x.ctl }))) ∧
    (StandsAt s m 0x02 k → k.index k.opb = 0 →
      exec (.kLoop m) s = .next (s.updMember m (jumped (closerOf k false + 1) id))) ∧
    (∀ body close slot i n rest, StandsAt s m 0x03 k → k.mem.ctl = .loop body close slot i n :: rest →
      (i + 1 < n → exec (.kEndloop m) s = .next (s.updMember m (jumped body fun x =>
        setIx slot ((i + 1 : Nat) : Int) { x with ctl := .loop body close slot (i + 1) n :: rest }))) ∧
      (n ≤ i + 1 → exec (.kEndloop m) s = .next (s.updMember m (advanced k fun x => { x with ctl := rest })))) ∧
    (∀ body close slot i rows cols cm rest, StandsAt s m 0x03 k → k.mem.ctl = .tile body close slot i rows cols cm :: rest →
      (i + 1 < ceilDiv rows 32 * ceilDiv cols 32 → exec (.kEndloop m) s = .next (s.updMember m (jumped body fun x =>
        setOrigin slot rows cols cm (i + 1) { x with ctl := .tile body close slot (i + 1) rows cols cm :: rest }))) ∧
      (ceilDiv rows 32 * ceilDiv cols 32 ≤ i + 1 →
        exec (.kEndloop m) s = .next (s.updMember m (advanced k fun x => { x with ctl := rest })))) ∧
    (StandsAt s m 0x04 k → (k.view k.opb).empty = true →
      exec (.kTilefor m) s = .next (s.updMember m (jumped (closerOf k false + 1) id))) ∧
    (StandsAt s m 0x04 k → (k.view k.opb).empty = false →
      let rows := (k.view k.opb).extAt 1
      let cols := (k.view k.opb).extAt 0
      let c := Ctl.tile (k.mem.pc + 1 + nextOf k.word) (closerOf k false) k.opa 0 rows cols (decide (k.mod % 2 = 1))
      exec (.kTilefor m) s = .next (s.updMember m (advanced k fun x =>
        setOrigin k.opa rows cols (decide (k.mod % 2 = 1)) 0 { x with ctl := c :: x.ctl }))) ∧
    (StandsAt s m 0x05 k → ifHolds k = true →
      exec (.kIf m) s = .next (s.updMember m (advanced k fun x => { x with ctl := .cond (closerOf k false) :: x.ctl }))) ∧
    (StandsAt s m 0x05 k → ifHolds k = false → closerOf k true = closerOf k false →
      exec (.kIf m) s = .next (s.updMember m (jumped (closerOf k false + 1) id))) ∧
    (StandsAt s m 0x05 k → ifHolds k = false → closerOf k true ≠ closerOf k false →
      exec (.kIf m) s = .next (s.updMember m (jumped (closerOf k true + 1) fun x =>
        { x with ctl := .cond (closerOf k false) :: x.ctl }))) ∧
    (∀ fin rest, StandsAt s m 0x06 k → k.mem.ctl = .cond fin :: rest →
      exec (.kElse m) s = .next (s.updMember m (jumped (fin + 1) fun x => { x with ctl := rest }))) ∧
    (∀ fin rest, StandsAt s m 0x07 k → k.mem.ctl = .cond fin :: rest →
      exec (.kEndif m) s = .next (s.updMember m (advanced k fun x => { x with ctl := rest })))

/-- For a member that may run and stands at the op: IMOV writes the signed 32-bit or 64-bit immediate; IALU the 64-bit
result of R158; QUERY the value of R159; PARAM the sign-extended parameter value at an aligned offset inside the
block; VDIM the extent; VSUB with no negative origin or extent, a block origin in whole blocks and a byte-aligned
base, the derived view, and from an empty slot an empty slot; STAMP a stamp of the stack's issuer. The member goes on
to the next op; nothing else changes but, for STAMP, the issuer. (R132, R145, R158, R159, R160, R161, R162, R163,
R217.) -/
def Obligations.KernelIndexAndViewOps : Prop :=
  ∀ (s : State) (m : MRef) (k : KOp),
    (StandsAt s m 0x10 k → nextOf k.word = 1 →
      exec (.kImov m) s = .next (s.updMember m (advanced k (setIx k.opa (signedOf 32 k.e1))))) ∧
    (StandsAt s m 0x10 k → nextOf k.word = 2 →
      exec (.kImov m) s = .next (s.updMember m (advanced k (setIx k.opa
        (signedOf 64 (k.e2 % 2 ^ 32 * 2 ^ 32 + k.e1 % 2 ^ 32)))))) ∧
    (StandsAt s m 0x11 k →
      exec (.kIalu m) s = .next (s.updMember m (advanced k (setIx k.opa
        (ialu k.mod (BitVec.ofInt 64 (k.index k.opb)) (BitVec.ofInt 64 (k.index (k.e1 % 256)))).toInt)))) ∧
    (StandsAt s m 0x12 k →
      exec (.kQuery m) s = .next (s.updMember m (advanced k (setIx k.opa (queryValue k k.mod : Int))))) ∧
    (∀ n, StandsAt s m 0x13 k → n = (if k.mod % 2 = 1 then 8 else 4) → k.e1 % 65536 % n = 0 →
      k.e1 % 65536 + n ≤ k.t.param.length →
      exec (.kParam m) s = .next (s.updMember m (advanced k (setIx k.opa
        (signedOf (8 * n) (leField k.t.param (k.e1 % 65536) n)))))) ∧
    (StandsAt s m 0x14 k →
      exec (.kVdim m) s = .next (s.updMember m (advanced k (setIx k.opa ((k.view k.opb).extAt (k.mod % 4) : Int))))) ∧
    (StandsAt s m 0x18 k → k.declared k.opb = false →
      (∀ d, d < 4 → 0 ≤ (k.ix (k.e1 % 256 % 64 + d)).toInt ∧ 0 ≤ (k.ix (k.e1 / 256 % 64 + d)).toInt) →
      exec (.kVsub m) s = .next (s.updMember m (advanced k fun x => { x with views := Tab.del (k.opa % 64) x.views }))) ∧
    (∀ o x : Nat → Int, StandsAt s m 0x18 k → k.declared k.opb = true → (∀ d, o d = (k.ix (k.e1 % 256 % 64 + d)).toInt) →
      (∀ d, x d = (k.ix (k.e1 / 256 % 64 + d)).toInt) → (∀ d, d < 4 → 0 ≤ o d ∧ 0 ≤ x d) →
      (isBlock (k.view k.opb).fmt = true → o 0 % 32 = 0) →
      (isBlock (k.view k.opb).fmt = false → fmtBits (k.view k.opb).fmt < 8 →
        (k.view k.opb).offset ((List.range 4).map fun d => (o d).toNat) * fmtBits (k.view k.opb).fmt % 8 = 0) →
      ∃ v, exec (.kVsub m) s = .next (s.updMember m (advanced k (setView k.opa v))) ∧
        v.rank = (k.view k.opb).rank ∧ v.fmt = (k.view k.opb).fmt ∧ v.space = (k.view k.opb).space ∧
        v.strides = (k.view k.opb).strides ∧ v.readOnly = k.viewReadOnly k.opb ∧
        (∀ d, d < v.rank → d < 4 → v.extAt d = (max 0 (min (x d) ((k.view k.opb).extAt d - o d))).toNat) ∧
        (v.empty = false → v.base = ((k.view k.opb).base + (k.view k.opb).offset ((List.range 4).map fun d => (o d).toNat) *
          fmtBits (k.view k.opb).fmt / 8).toNat)) ∧
    (∀ st t, StandsAt s m 0x7E k → issueStamp k.t.stack (.stampRead m k.opa) s = (some st, t) →
      exec (.kStamp m) s = .next (t.updMember m (advanced k (setIx k.opa (signedOf 64 st)))))

/-- For every op and member, index slot 0 reads as 0; writing it leaves the member as it is; and IMOV to IX0 from a member
that may run only moves the member to the next op. (R133.) -/
def Obligations.IndexSlotZeroReadsZero : Prop :=
  (∀ k : KOp, k.ix 0 = 0) ∧ (∀ (v : Int) (x : Member), setIx 0 v x = x) ∧
  ∀ (s : State) (m : MRef) (k : KOp), StandsAt s m 0x10 k → k.opa = 0 →
    exec (.kImov m) s = .next (s.updMember m (advanced k id))

/-- For a member that may run, stands at the op, and whose accesses are allowed with no outstanding op in their way: TLOAD
and GATHER write the tile with the elements of the window or of the named rows, with their flags; TSTORE, SCATTER and
CVT write the elements in the view's format, the bytes through writeSpace under the member's access; TFILL writes its
value to every element. A TLOAD of a remote buffer first asks for its blocks and waits; it works once all have come
back. The member goes on to the next op; nothing else of the module changes but the bytes written, what the parity
looked at shows, and the counts of ops issued. (R143, R165, R166, R167, R173, R190, R191, R192, R197, R198.) -/
def Obligations.KernelLoadsAndStores : Prop :=
  ∀ (s : State) (m : MRef) (k : KOp),
    (∀ rows cols, StandsAt s m 0x20 k → windowOf k (k.view k.opb) k.e1 = (rows, cols) →
      (Clear s k (loadTouch (k.view k.opb) rows cols) → exec (.kTload m) s = .next (loaded s k (k.view k.opb) rows cols)) ∧
      (let u := deviceErrors k (loadTouch (k.view k.opb) rows cols) s
       let blocks := remoteBlocks u (loadTouch (k.view k.opb) rows cols)
       Allowed s k (loadTouch (k.view k.opb) rows cols) → blocks ≠ [] → opReads u m 0 = [] →
       exec (.kTload m) s = .next ((coreReads k.mem.core (.op m 0) blocks u).updMember m (waits .read s.ft)))) ∧
    (∀ rows cols, StandsAt s m 0x21 k → k.viewReadOnly k.opb = false → windowOf k (k.view k.opb) k.e1 = (rows, cols) →
      Clear s k (storeTouch (k.view k.opb) rows cols) →
      exec (.kTstore m) s = .next (stored s k (k.view k.opb) (k.tile k.opa) (storeRule k false 0x3F800000) rows cols)) ∧
    (StandsAt s m 0x22 k →
      exec (.kTfill m) s = .next ((noteIssue k s).updMember m (advanced k (setTile k.opa
        (tileOf (decide (k.mod % 2 = 1)) fun _ _ => BitVec.ofInt 32 (k.index k.opb)))))) ∧
    (StandsAt s m 0x59 k →
      gatherStop (k.tile (k.e1 % 256)) (k.index (k.e1 / 256 % 256)) (k.view k.opb) = none →
      let rows := namedRows k (k.view k.opb)
      let cols := windowAxis 0 ((k.view k.opb).extAt 0)
      Clear s k (loadTouch (k.view k.opb) rows cols) → exec (.kGather m) s = .next (loaded s k (k.view k.opb) rows cols)) ∧
    (StandsAt s m 0x5A k → k.viewReadOnly k.opa = false →
      gatherStop (k.tile (k.e1 % 256)) (k.index (k.e1 / 256 % 256)) (k.view k.opa) = none →
      let rows := namedRows k (k.view k.opa)
      let cols := windowAxis 0 ((k.view k.opa).extAt 0)
      Clear s k (storeTouch (k.view k.opa) rows cols) →
      exec (.kScatter m) s = .next (stored s k (k.view k.opa) (k.tile k.opb) (storeRule k false 0x3F800000) rows cols)) ∧
    (∀ rows cols, StandsAt s m 0x60 k → k.viewReadOnly k.opb = false → ruleOk (k.view k.opb).fmt (k.e2 % 4) = true →
      windowOf k (k.view k.opb) k.e1 = (rows, cols) →
      Clear s k (storeTouch (k.view k.opb) rows cols) →
      exec (.kCvt m) s = .next (stored s k (k.view k.opb) (k.tile k.opa)
        (storeRule k (k.e2 % 4 == 2) (cvtMult k (k.e2 / 256 % 256))) rows cols))

/-- For a member that may run and stands at the op, with operands of the types R134 and R178 ask for: each op writes the
tile the manual gives, element by element, and the flags raised on the way, and the member goes on to the next op. MMA
reads its two views through the core's operand buffers, adds to the accumulator or overwrites it, and draws 1,024 free
choices of order; RED, along rows or columns, draws 32. SORT permutes each row by the order of its first n elements.
The float sums are taken in a free order (log entry 2). (R134, R149, R175, R176, R179, R180, R182, R183, R184, R188,
R194, R195.) -/
def Obligations.KernelTileOps : Prop :=
  ∀ (s : State) (m : MRef) (k : KOp),
    (∀ acc : Tile, StandsAt s m 0x30 k → mmaStop (k.view k.opb) (k.view (k.e1 % 256)) = none →
      acc = (if k.mod % 2 = 1 then { isInt := pairInt (k.view k.opb).fmt (k.view (k.e1 % 256)).fmt } else k.tile k.opa) →
      (k.mod % 2 = 1 ∨ (k.tile k.opa).isInt = pairInt (k.view k.opb).fmt (k.view (k.e1 % 256)).fmt) →
      let l : List Touch := [{ view := k.view k.opb, runs := (k.view k.opb).runs, write := false },
        { view := k.view (k.e1 % 256), runs := (k.view (k.e1 % 256)).runs, write := false }]
      Clear s k l →
      let w := looked s k l
      let u := w.updCore k.mem.core fun c =>
        { c with operandA := fillBuffers (spaceByte w k.access (k.view k.opb) 0) (k.view k.opb) c.operandA
                 operandB := fillBuffers (spaceByte w k.access (k.view k.opb) 0) (k.view (k.e1 % 256)) c.operandB }
      ∃ t fl, exec (.kMma m) s = .next ((noteIssue k { u with freeCtr := w.freeCtr + 1024 }).updMember m
          (advanced k fun x => addFlags fl (setTile k.opa t x))) ∧
        t.isInt = pairInt (k.view k.opb).fmt (k.view (k.e1 % 256)).fmt ∧
        ∀ i j, i < (k.view k.opb).extAt 1 → j < (k.view (k.e1 % 256)).extAt 1 →
          t.at i j = (mmaElem k (k.view k.opb).fmt (k.view (k.e1 % 256)).fmt (acc.at i j)
            (mmaRow (spaceByte w k.access (k.view k.opb) 0) (k.view k.opb) k.flush i)
            (mmaRow (spaceByte w k.access (k.view k.opb) 0) (k.view (k.e1 % 256)) k.flush j)
            (w.freeCtr + (i * 32 + j))).1) ∧
    (StandsAt s m 0x31 k → exec (.kAccmov m) s = .next ((noteIssue k s).updMember m (advanced k (setTile k.opa (k.tile k.opb))))) ∧
    (StandsAt s m 0x40 k → (elemOperand k (k.e1 % 256) (k.tile k.opb).isInt).isInt = (k.tile k.opb).isInt →
      let r := mapTile (k.tile k.opb).isInt fun i j =>
        if (k.tile k.opb).isInt then
          (ebinI32 (k.mod % 8) ((k.tile k.opb).at i j).toNat
            ((elemOperand k (k.e1 % 256) (k.tile k.opb).isInt).at i j).toNat, 0)
        else ebinF32 (k.mod % 8) k.flush ((k.tile k.opb).at i j).toNat
          ((elemOperand k (k.e1 % 256) (k.tile k.opb).isInt).at i j).toNat
      exec (.kEbin m) s = .next ((noteIssue k s).updMember m (advanced k fun x => addFlags r.2 (setTile k.opa r.1 x)))) ∧
    (StandsAt s m 0x41 k → (k.tile k.opb).isInt = false → (elemOperand k (k.e1 % 256) false).isInt = false →
      (elemOperand k (k.e1 / 256 % 256) false).isInt = false →
      let r := mapTile false fun i j => efmaF32 k.flush ((k.tile k.opb).at i j).toNat
        ((elemOperand k (k.e1 % 256) false).at i j).toNat ((elemOperand k (k.e1 / 256 % 256) false).at i j).toNat
      exec (.kEfma m) s = .next ((noteIssue k s).updMember m (advanced k fun x => addFlags r.2 (setTile k.opa r.1 x)))) ∧
    (StandsAt s m 0x42 k → (k.mod % 16 < 2 ∨ (k.mod % 16 ≠ 9 ∧ (k.tile k.opb).isInt = false ∧ k.mod % 16 ≠ 10) ∨
        (k.mod % 16 = 9 ∧ (k.tile k.opb).isInt = true) ∨ (k.mod % 16 = 10 ∧ (k.tile k.opb).isInt = false)) →
      let r := mapTile (if k.mod % 16 < 2 then (k.tile k.opb).isInt else k.mod % 16 == 10) fun i j =>
        eunElem (k.mod % 16) k.flush (k.tile k.opb).isInt ((k.tile k.opb).at i j)
      exec (.kEun m) s = .next ((noteIssue k s).updMember m (advanced k fun x => addFlags r.2 (setTile k.opa r.1 x)))) ∧
    (StandsAt s m 0x48 k → (elemOperand k (k.e1 % 256) (k.tile k.opb).isInt).isInt = (k.tile k.opb).isInt →
      let b := elemOperand k (k.e1 % 256) (k.tile k.opb).isInt
      let r := mapTile (k.tile k.opb).isInt fun i j =>
        (if (cmpElem (k.mod % 8) k.flush (k.tile k.opb).isInt ((k.tile k.opb).at i j) (b.at i j)).1 then
           (if (k.tile k.opb).isInt then 1 else 0x3F800000) else 0,
         (cmpElem (k.mod % 8) k.flush (k.tile k.opb).isInt ((k.tile k.opb).at i j) (b.at i j)).2)
      exec (.kCmp m) s = .next ((noteIssue k s).updMember m (advanced k fun x => addFlags r.2 (setTile k.opa r.1 x)))) ∧
    (StandsAt s m 0x49 k → (k.tile (k.e1 % 256)).isInt = (k.tile (k.e1 / 256 % 256)).isInt →
      ∃ r : Tile × Nat, exec (.kSel m) s = .next ((noteIssue k s).updMember m (advanced k fun x => addFlags r.2 (setTile k.opa r.1 x))) ∧
        r.1.isInt = (k.tile (k.e1 % 256)).isInt ∧
        ∀ i j, i < 32 → j < 32 → r.1.at i j = BitVec.ofNat 32
          (if (maskHolds (k.tile k.opb) k.flush i j).1 then (selInput (k.tile (k.e1 % 256)) k.flush i j).1
           else (selInput (k.tile (k.e1 / 256 % 256)) k.flush i j).1)) ∧
    (∀ n : Nat, StandsAt s m 0x50 k → k.index (k.e1 % 256) = n → n ≤ 32 →
      ∃ t fl, exec (.kRed m) s = .next ((noteIssue k { s with freeCtr := s.freeCtr + 32 }).updMember m
          (advanced k fun x => addFlags fl (setTile k.opa t x))) ∧
        t.isInt = ((k.tile k.opb).isInt || k.mod % 4 == 3) ∧
        ∀ i j, i < 32 → j < 32 →
          (k.mod / 4 % 2 = 0 → t.at i j = if j = 0 then BitVec.ofNat 32 (redElem (k.mod % 4) k.flush (k.tile k.opb).isInt
            ((List.range n).map fun c => (k.tile k.opb).at i c) (Config.free (s.freeCtr + i))).1 else 0) ∧
          (k.mod / 4 % 2 = 1 → t.at i j = if i = 0 then BitVec.ofNat 32 (redElem (k.mod % 4) k.flush (k.tile k.opb).isInt
            ((List.range n).map fun r => (k.tile k.opb).at r j) (Config.free (s.freeCtr + j))).1 else 0)) ∧
    (StandsAt s m 0x58 k → ∃ t, exec (.kTrans m) s = .next ((noteIssue k s).updMember m (advanced k (setTile k.opa t))) ∧
      t.isInt = (k.tile k.opb).isInt ∧ ∀ i j, i < 32 → j < 32 → t.at i j = (k.tile k.opb).at j i) ∧
    (∀ n : Nat, StandsAt s m 0x5B k → k.index (k.e1 / 256 % 256) = n → n ≤ 32 →
      ∃ t idx fl, exec (.kSort m) s = .next ((noteIssue k s).updMember m (advanced k fun x =>
          if isTileArg (k.e1 % 256) then setTile (k.e1 % 256) idx (addFlags fl (setTile k.opa t x))
          else addFlags fl (setTile k.opa t x))) ∧
        t.isInt = (k.tile k.opb).isInt ∧ idx.isInt = true ∧
        ∀ i j, i < 32 → j < 32 →
          (n ≤ j → t.at i j = (k.tile k.opb).at i j ∧ idx.at i j = BitVec.ofNat 32 j) ∧
          (j < n → idx.at i j = BitVec.ofNat 32 ((sortOrder (decide (k.mod % 2 = 1))
              ((List.range n).map fun c => (tileValue (k.tile k.opb) k.flush i c).1)).getD j j) ∧
            ((k.tile k.opb).isInt = true → t.at i j = (k.tile k.opb).at i (idx.at i j).toNat) ∧
            ((k.tile k.opb).isInt = false → t.at i j =
              BitVec.ofNat 32 (flushIn k.flush fmtF32 ((k.tile k.opb).at i (idx.at i j).toNat).toNat).1)))

/-- For a member that may run and stands at TRANS, and every i and j below 32: in the next state the destination tile of
the member holds at (i, j) what the source held at (j, i), has the source's type, and the member stands at the next
op; every other tile of the member, and its index and view slots, are as before. (R188, R134.) -/
def Obligations.TransposeExchangesRowsAndColumns : Prop :=
  ∀ (s : State) (m : MRef) (k : KOp), StandsAt s m 0x58 k →
    ∃ t x, exec (.kTrans m) s = .next t ∧ t.member? m = some x ∧ x.pc = k.mem.pc + 1 + nextOf k.word ∧
      x.ix = k.mem.ix ∧ x.views = k.mem.views ∧
      (∀ i j, i < 32 → j < 32 → (Tab.getD ({} : Tile) (k.opa - 0x80) x.tiles).at i j = (k.tile k.opb).at j i) ∧
      (∀ b, b ≠ k.opa - 0x80 → Tab.find? b x.tiles = Tab.find? b k.mem.tiles) ∧
      t.stk.scratch = s.stk.scratch ∧ t.stk.cores = s.stk.cores ∧ t.mem = s.mem ∧ t.net = s.net ∧ t.log = s.log

/-- For a member that may run, stands at the op, with its token idle and its accesses allowed: XFER, SEND and RECV become
outstanding on their token, XFER out of device memory after asking for its blocks and XFER into it after sending its
writes; WAIT on an idle token goes on and on a busy one waits. A transfer that has landed writes its bytes in scratch
by the lighter side and signals the token of the member's earliest transfer; data of another op in device memory
signals once applied. A message that has reached a core holding its role, later than its stamp, is delivered, and one
whose task is gone is returned and counted. A returned message of a current sender is sent again to the core that now
holds the role of a running task, and is discarded and counted, its token signalled, where that task has ended; one
whose sender's attempt was abandoned is dropped. What waited behind a message dropped is delivered. (R91, R92, R169,
R172, R173, R174, R200, R202, R285, R286, R287, R288.) -/
def Obligations.KernelAsyncOps : Prop :=
  (∀ (s : State) (m : MRef) (k : KOp) (dst src : View), StandsAt s m 0x23 k →
    dst = alignEmpty (k.declared k.opa) (k.view k.opa) (k.view k.opb) →
    src = alignEmpty (k.declared k.opb) (k.view k.opb) (k.view k.opa) →
    xferStop k dst src = none → withToken (k.e1 % 16) k.mem = false →
    let l : List Touch := [{ view := src, runs := src.runs, write := false }, { view := dst, runs := dst.runs, write := true }]
    Allowed s k l →
    let w := deviceErrors k l s
    let issued := fun (u : State) => (noteIssue k u).updMember m (advanced k (outAdd (k.e1 % 16) (.xfer dst src)))
    (dst.space < 2 → src.space < 2 → exec (.kXfer m) s = .next (issued w)) ∧
    (2 ≤ src.space → exec (.kXfer m) s =
      .next (issued (coreReads k.mem.core (.xfer m (k.e1 % 16)) (blocksOf src.runs) w))) ∧
    (2 ≤ dst.space → src.space < 2 →
      let rd := viewReader k dst w
      let r := lighterFetch k.mem.core src.runs rd.2
      exec (.kXfer m) s = .next (issued (writeSpace k.access 2 (.xfer m (k.e1 % 16))
        (copyCells (fetched r.1) rd.1 src dst) r.2)))) ∧
  (∀ (s : State) (m : MRef) (x : Member) (a : Access) (o : Outstanding) (dst src : View),
    s.member? m = some x → accessOf s m = some a → firstXfer x = some o → o.op = .xfer dst src →
    xferLanded s m o.token = true → (∀ r ∈ xferReads s m o.token, r.poisoned = false) →
    let done := fun (t : State) =>
      { t with mem.reads := t.mem.reads.filter fun r => r.2.dest != ReadFor.xfer m o.token }.updMember m (outDone o.order)
    let r := lighterFetch a.core src.runs s
    (dst.space < 2 → src.space < 2 → exec (.xferDone m o.token) s = .next (done (lighterWrite a.core
      (copyCells (fetched r.1) (spaceByte r.2 a dst 0) src dst) r.2))) ∧
    (dst.space < 2 → 2 ≤ src.space → (∀ p, preImageOf s a src p = none) → exec (.xferDone m o.token) s =
      .next (done (lighterWrite a.core (copyCells (readByte (xferReads s m o.token)) (spaceByte s a dst 0) src dst) s))) ∧
    (2 ≤ dst.space → 2 ≤ src.space → exec (.xferDone m o.token) s = .next (done s)) ∧
    (2 ≤ dst.space → src.space < 2 → exec (.xferDone m o.token) s = .next (done r.2))) ∧
  (∀ (s : State) (m : MRef) (x : Member) (a : Access) (o : Outstanding) (token : Nat), s.member? m = some x →
    accessOf s m = some a → firstXfer x = none → (x.out.find? fun o => o.token == token && o.landed) = some o →
    writesPending s (.xfer m token) = false → exec (.xferDone m token) s = .next (s.updMember m (outDone o.order))) ∧
  (∀ (s : State) (m : MRef) (k : KOp), StandsAt s m 0x24 k →
    (withToken (k.opa % 16) k.mem = false → exec (.kWait m) s = .next (s.updMember m (advanced k id))) ∧
    (withToken (k.opa % 16) k.mem = true →
      exec (.kWait m) s = .next (s.updMember m (waits (.token (k.opa % 16)) s.ft)))) ∧
  (∀ (s : State) (m : MRef) (k : KOp) (task : Nat) (t : Task), StandsAt s m 0x70 k →
    peerOf s k (k.index k.opb) = .inr (task, t) → withToken (k.e1 % 16) k.mem = false →
    let l : List Touch := [{ view := k.view k.opa, runs := (k.view k.opa).runs, write := false }]
    Clear s k l →
    let rd := lighterReader k.access 0 (k.view k.opa) (deviceErrors k l s)
    let u := dropOpReads m 0 rd.2
    let st := issueStamp k.t.stack (.message u.work.msgNo) u
    let dst : MRef := { slot := m.slot, task := task, rank := (k.index k.opb).toNat }
    let g : Msg :=
      { src := m, dst := dst, gen := roleGen u dst, serial := k.t.attempt, fails := k.t.replays, graph := k.g.order
        tag := tagOf k, token := k.e1 % 16, order := k.mem.order, stamp := st.1
        core := ((Tab.find? dst.rank t.members).map Member.core).getD (128 * t.stack)
        body := packCodes (fmtBits (k.view k.opa).fmt) (viewBits rd.1 (k.view k.opa)) }
    exec (.kSend m) s = .next ((launchMsg k.mem.core u.work.msgNo g { st.2 with work.msgNo := u.work.msgNo + 1 }).updMember m
      (advanced k (outAdd (k.e1 % 16) (.send (k.view k.opa) u.work.msgNo))))) ∧
  (∀ (s : State) (m : MRef) (k : KOp) (task : Nat) (t : Task), StandsAt s m 0x71 k → k.viewReadOnly k.opa = false →
    peerOf s k (k.index k.opb) = .inr (task, t) → withToken (k.e1 % 16) k.mem = false →
    let l : List Touch := [{ view := k.view k.opa, runs := (k.view k.opa).runs, write := true }]
    Allowed s k l →
    let u := (deviceErrors k l s).updMember m (advanced k (outAdd (k.e1 % 16)
      (.recv (k.view k.opa) m.slot task (k.index k.opb).toNat (tagOf k) k.mem.order)))
    exec (.kRecv m) s = .next (matchWaiting m u.work.msgs.length u)) ∧
  (∀ (s : State) (n st : Nat) (g : Msg), Tab.find? n s.work.msgs = some g → g.stage = .here → g.stamp = some st →
    stampInstant s.ft st < s.ft →
    (roleHeld s g = true → exec (.msgArrival n) s = .next (deliver n g s)) ∧
    (roleHeld s g = false → s.task? g.dst.slot g.dst.task = none →
      let t := s.updCore g.core fun y => { y with staleRole := satInc y.staleRole }
      exec (.msgArrival n) s = .next { t with work.msgs := Tab.put n { g with stage := .returned } s.work.msgs })) ∧
  ∀ (s : State) (n : Nat) (g : Msg), Tab.find? n s.work.msgs = some g → g.stage = .returned →
    (attemptAbandoned s g = true → exec (.staleMessageHandle n) s = .next (afterDrop g (dropMsg n s))) ∧
    (∀ t, attemptAbandoned s g = false → (senderTask s g).isSome = true → s.task? g.dst.slot g.dst.task = some t →
      (t.phase = .ended → exec (.staleMessageHandle n) s =
        .next (afterDrop g (dropMsg n (signalSend { s with work.discarded := satInc s.work.discarded } n g)))) ∧
      ∀ x y, t.phase = .running → s.member? g.dst = some x → s.member? g.src = some y →
        exec (.staleMessageHandle n) s =
          .next (launchMsg y.core n { g with stage := .flight, gen := roleGen s g.dst, core := x.core } s))

/-- For a member of a collective gang, standing at COLL with operands R208 and R209 accept, fewer than four COLLs
outstanding, its token idle and its accesses allowed: the op becomes outstanding on its token and is noted in the
member's sequence; in a gang of one it completes at once, copying the first view to the second of an ALLGATHER or
REDUCESCATTER. Once every member of a running gang has issued the COLL of a place it begins: a BROADCAST or ALLGATHER
sends each share to the members that take it, and a sum sends every member's contribution to its first piece.
COLL_DONE of a gang whose shares have all landed, or whose views are empty, signals every member's token, in device
memory once the writes are applied. A member at BARRIER waits, and once every member of the gang waits at the same one
they all go on. (R207, R208, R209, R210, R212, R213, R215.) -/
def Obligations.KernelCollectives : Prop :=
  (∀ (s : State) (m : MRef) (k : KOp) (p q : View), StandsAt s m 0x78 k → p = k.view k.opa →
    q = (if 3 ≤ k.mod % 8 then k.view (k.e2 % 256) else emptyView) →
    collStop k (k.mod % 8) p q (k.e1 / 16 % 4) (k.index k.opb) = none →
    seqBreaks k (collSig (k.mod % 8) (k.e1 / 16 % 4) (k.index k.opb) p q) = false →
    withToken (k.e1 % 16) k.mem = false → (collOut k.mem).length < 4 →
    let l := collTouches k.ref.rank (k.mod % 8) (k.index k.opb) p q
    Allowed s k l → Fetched s k (k.mem.order + 1) l →
    let w := deviceErrors k l s
    (k.t.info.gang ≠ 1 → exec (.kColl m) s = .next (beginColls m (w.updMember m (advanced k fun x =>
      seqAdd (collSig (k.mod % 8) (k.e1 / 16 % 4) (k.index k.opb) p q)
        (outAdd (k.e1 % 16) (.coll (k.mod % 8) p q (k.e1 / 16 % 4) (k.index k.opb).toNat x.place) x))))) ∧
    (k.t.info.gang = 1 → exec (.kColl m) s = .next (beginColls m ((collSingle k (k.e1 % 16) (k.mod % 8) p q w).updMember m
      (advanced k fun x => seqAdd (collSig (k.mod % 8) (k.e1 / 16 % 4) (k.index k.opb) p q)
        (singleOut k (k.e1 % 16) (k.mod % 8) p q (k.e1 / 16 % 4) (k.index k.opb).toNat x)))))) ∧
  (∀ (s : State) (slot task place : Nat) (t : Task), s.task? slot task = some t → t.phase = .running → 2 ≤ t.info.gang →
    collParts t place ≠ [] → (∀ p ∈ collParts t place, p.2.2.begun = false) →
    let u := (collParts t place).foldl (fun s p =>
      s.updMember (partAccess slot task t p).ref (outUpd p.2.2.order fun o => { o with begun := true })) s
    ((∃ p ∈ collParts t place, (collArgs p.2.2).1 = 2 ∨ (collArgs p.2.2).1 = 3) →
      beginColl slot task place s = sendShares slot task place u) ∧
    ((∀ p ∈ collParts t place, (collArgs p.2.2).1 ≠ 2 ∧ (collArgs p.2.2).1 ≠ 3) →
      beginColl slot task place s = sendRound slot task place u)) ∧
  (∀ (s : State) (slot task place : Nat) (t : Task), s.task? slot task = some t → t.phase = .running →
    (∀ p ∈ collParts t place, p.2.2.begun = true ∧ p.2.2.left = 0) → collRounds (collParts t place) = [] →
    exec (.collDone (.gang slot task place)) s = .next ((collParts t place).foldl (fun s p =>
      (dropOpReads (partAccess slot task t p).ref (p.2.2.order + 1) s).updMember (partAccess slot task t p).ref
        (outLanded (((collDest p).map View.space).getD 0) p.2.2.order)) s)) ∧
  (∀ (s : State) (m : MRef) (k : KOp), StandsAt s m 0x7F k → k.collective = true →
    seqBreaks k (1, k.opa % 16, 0, 0, []) = false →
    exec (.kBarrier m) s = .next ((s.updMember m (seqAdd (1, k.opa % 16, 0, 0, []))).updMember m
      (waits (.barrier (k.opa % 16) k.mem.place) s.ft))) ∧
  ∀ (s : State) (slot task id place : Nat) (t : Task), s.task? slot task = some t → t.phase = .running →
    t.members ≠ [] → t.members.length = t.info.gang → (∀ p ∈ t.members, p.2.waiting = some (.barrier id place)) →
    exec (.barrierRelease slot task) s = .next (s.updTask slot task fun t =>
      { t with members := t.members.mapVals fun _ x => { x with waiting := none, pc := x.pc + 1 } })

/-- For a member that may run and stands at the op: COLL or BARRIER of a task that is not collective ends it with
ST_NOT_COLLECTIVE; a SEND or RECV with MOD[0] set of a task with FLAGS[2] clear ends with ST_EXTERNAL; TSTORE through
a read-only view with ST_VIEW_ACCESS; RED and SORT with n outside 0 to 32 with ST_INDEX_RANGE; LOOP with a negative
count with ST_LOOP_COUNT; PARAM beyond the block with ST_PARAM_RANGE. Every member of the gang stops with its tokens
abandoned, and no memory, scratch, session or event changes. (R143, R150, R160, R185, R196, R219, R275, R282.) -/
def Obligations.KernelStopsByStatus : Prop :=
  ∀ (s : State) (m : MRef) (k : KOp),
    let stops := fun (c : Instr) (st : Nat) => exec c s = .next (stopMember m st s) ∧
      ∃ t, (stopMember m st s).task? m.slot m.task = some t ∧ t.phase = .stopping ∧ t.status = st ∧
        (∀ p ∈ t.members, p.2.stopped = true ∧ p.2.out = []) ∧
        (stopMember m st s).stk = s.stk ∧ (stopMember m st s).net = s.net ∧
        (stopMember m st s).log = s.log ∧ (stopMember m st s).mem.shadows = s.mem.shadows ∧
        (stopMember m st s).mem.writes = s.mem.writes
    (StandsAt s m 0x78 k → k.collective = false → stops (.kColl m) St.notCollective) ∧
    (StandsAt s m 0x7F k → k.collective = false → stops (.kBarrier m) St.notCollective) ∧
    (StandsAt s m 0x70 k → k.mod % 2 = 1 → k.external = false → stops (.kSend m) St.external) ∧
    (StandsAt s m 0x21 k → k.viewReadOnly k.opb = true → stops (.kTstore m) St.viewAccess) ∧
    (StandsAt s m 0x50 k → (k.index (k.e1 % 256) < 0 ∨ 32 < k.index (k.e1 % 256)) → stops (.kRed m) St.indexRange) ∧
    (StandsAt s m 0x5B k → (k.index (k.e1 / 256 % 256) < 0 ∨ 32 < k.index (k.e1 / 256 % 256)) →
      stops (.kSort m) St.indexRange) ∧
    (StandsAt s m 0x02 k → k.index k.opb < 0 → stops (.kLoop m) St.loopCount) ∧
    (StandsAt s m 0x13 k → k.t.param.length < k.e1 % 65536 + (if k.mod % 2 = 1 then 8 else 4) → stops (.kParam m) St.paramRange)

/-- When a running task has a member that has not ended, and every member has ended, or waits in a collective op, SEND,
RECV or WAIT for what has not come, since at least 2^20 ticks ago, and none waits on a message to or from another
task, KERNEL_HANG ends the gang with ST_KERNEL_HANG: the task stops with that status, and every member is stopped with
nothing outstanding. When a running task with a RUN_LIMIT other than 0 and a member that has not ended started at
least RUN_LIMIT times 2^12 ticks ago, TASK_TIMEOUT ends it so with ST_TASK_TIMEOUT. Before either limit, and where a
member waits on another task (KERNEL_HANG) or all have ended (TASK_TIMEOUT), the command changes nothing. That a
member that has ended counts as waiting from its end on is the model's reading (log entry 43). (R216, R219, R274.) -/
def Obligations.KernelLimitsEndTheGang : Prop :=
  let ends := fun (c : Instr) (slot task st : Nat) (s : State) =>
    exec c s = .next (endGang slot task st s) ∧
      ∃ u, (endGang slot task st s).task? slot task = some u ∧ u.phase = .stopping ∧ u.status = st ∧
        ∀ p ∈ u.members, p.2.stopped = true ∧ p.2.out = []
  (∀ (s : State) (slot task : Nat) (g : Graph) (t : Task), s.graph? slot = some g → s.task? slot task = some t →
    t.phase = .running → (∃ p ∈ t.members, p.2.ended = false) → 2 ^ 20 ≤ s.ft →
    (∀ p ∈ t.members, p.2.waitFrom + 2 ^ 20 ≤ s.ft ∧
      (p.2.ended = true ∨
        (stillWaits p.2 = true ∧ (opcodeAt s g t p.2 = some 0x7F ∨ opcodeAt s g t p.2 = some 0x78 ∨ opcodeAt s g t p.2 = some 0x70 ∨
          opcodeAt s g t p.2 = some 0x71 ∨ opcodeAt s g t p.2 = some 0x24))) ∧ waitsOutside task s p.2 = false) →
    ends (.kernelHang slot task) slot task St.kernelHang s) ∧
  (∀ (s : State) (slot task : Nat), s.ft < 2 ^ 20 → exec (.kernelHang slot task) s = .next s) ∧
  (∀ (s : State) (slot task : Nat) (t : Task) (p : Nat × Member), s.task? slot task = some t → p ∈ t.members →
    (waitsOutside task s p.2 = true ∨ s.ft < p.2.waitFrom + 2 ^ 20) → exec (.kernelHang slot task) s = .next s) ∧
  (∀ (s : State) (slot task x : Nat) (t : Task), s.task? slot task = some t → t.phase = .running → t.startAt = some x →
    (∃ p ∈ t.members, p.2.ended = false) → t.info.runLimit ≠ 0 → x + t.info.runLimit * 2 ^ 12 ≤ s.ft →
    ends (.taskTimeout slot task) slot task St.taskTimeout s) ∧
  ∀ (s : State) (slot task x : Nat) (t : Task), s.task? slot task = some t → t.startAt = some x →
    (s.ft < x + t.info.runLimit * 2 ^ 12 ∨ (∀ p ∈ t.members, p.2.ended = true)) →
    exec (.taskTimeout slot task) s = .next s

/-- When it is the graph's turn and its next unit can be bound, ADMISSION takes the turn, moves past the unit, gives each
of its tasks the stack chosen, and marks what is ready; a unit that fits no stack ends with ST_GANG_FIT. An admitted
task outside a co-start group whose stack no longer has its cores takes the stack R262 gives, and ends with
ST_GANG_FIT where none does. The same holds of a co-start group by R279 and R280. (R261, R262, R264, R266, R279, R280,
R888.) -/
def Obligations.AdmissionAndRebinding : Prop :=
  (∀ (s : State) (slot : Nat) (g : Graph) (l : List (Nat × Nat)), nextAfter (admittable s) s.work.admitTurn = some slot →
    s.graph? slot = some g →
    let last := ((admissionUnit g).getLast?.map Prod.fst).getD g.admitNext
    let u := ({ s with work.admitTurn := slot } : State).updGraph slot fun g => { g with admitNext := last + 1 }
    (admitDecide u slot g = .bind l →
      exec (.admission slot) s = .next (markReady (l.foldl (fun s x => admitTask slot x s) u))) ∧
    (admitDecide u slot g = .unfit →
      exec (.admission slot) s = .next (settle (((admissionUnit g).filter fun t => t.2.phase = .image).foldl
        (fun s t => endTask slot t.1 St.gangFit s) u)))) ∧
  (∀ (s : State) (slot task : Nat) (t : Task), s.task? slot task = some t → t.phase = .admitted → t.info.cogroup = 0 →
    stackUnfit s t.stack t.info.gang = true →
    (∀ k, t.info.affinity = none → bindTask s t = some k →
      exec (.taskRebind slot task) s = .next (s.updTask slot task fun t => { t with stack := k, starving := false })) ∧
    ((t.info.affinity ≠ none ∨ bindTask s t = none) →
      exec (.taskRebind slot task) s = .next (settle (endTask slot task St.gangFit s)))) ∧
  ∀ (s : State) (slot n : Nat) (g : Graph), s.graph? slot = some g → n ≠ 0 → groupWaiting g n ≠ [] →
    groupUnfit s (groupWaiting g n) = true →
    (∀ b, bindGroup s (groupWaiting g n) = some b →
      exec (.cogroupRebind slot n) s = .next (b.foldl (fun s x => s.updTask slot x.1 fun t => { t with stack := x.2, starving := false }) s)) ∧
    (bindGroup s (groupWaiting g n) = none →
      exec (.cogroupRebind slot n) s = .next (settle ((groupWaiting g n).foldl (fun s t => endTask slot t.1 St.gangFit s) s)))

/-- While releases are on, the stack's clock runs, its last release lies 125 ticks back and the reaches it would use are
ungated, TASK_RELEASE starts the task that is the stack's next release; COGROUP_RELEASE starts every task of a ready
group that fits at once and is the next release on each of its stacks; HEAD_TASK_STARVE marks a head that has waited
2^15 ticks without fitting, where none is marked; COGROUP_HANG ends every task that still runs of a group whose every
member has waited, or has ended, for 2^20 ticks; TASK_END ends a task whose members have ended and whose writes are
applied, with ST_OK. (R157, R259, R268, R269, R270, R273, R278, R283.) -/
def Obligations.ReleaseAndEndOfTasks : Prop :=
  (∀ (s : State) (k slot task : Nat) (g : Graph) (t : Task) (cores : List Nat), releasesOn s = true → (s.stack k).clocked = true →
    (∀ x, (s.stack k).lastRelease = some x → x + 125 ≤ s.ft) →
    nextRelease s k = some (slot, task, g, t) → t.info.cogroup = 0 → fitTask s t = some cores → reachesReady s cores = true →
    exec (.taskRelease k) s = .next (poolTrigger (startTask slot task cores s))) ∧
  (∀ (s : State) (slot n : Nat) (g : Graph) (p : List (Nat × List Nat)), s.graph? slot = some g → releasesOn s = true → n ≠ 0 →
    groupLeft g n ≠ [] → groupUnfit s (groupLeft g n) = false →
    (∀ t ∈ groupLeft g n, isReady t.2 = true ∧ (s.stack t.2.stack).clocked = true ∧
      ∃ x, nextRelease s t.2.stack = some x ∧ x.1 = slot ∧ x.2.2.2.info.cogroup = n) →
    placeAll s (groupLeft g n) [] [] = some p → (∀ x ∈ p, reachesReady s x.2 = true) →
    exec (.cogroupRelease slot n) s = .next (poolTrigger (p.foldl (fun s x => startTask slot x.1 x.2 s) s))) ∧
  (∀ (s : State) (k slot task r : Nat) (g : Graph) (t : Task), (readyOrder s k).head? = some (slot, task, g, t) →
    t.readyAt = some r → r + 2 ^ 15 ≤ s.ft → fitsNow s (slot, task, g, t) = false →
    (∀ y ∈ readyOrder s k, y.2.2.2.starving = false) →
    exec (.headTaskStarve k) s = .next (s.updTask slot task fun t => { t with starving := true })) ∧
  (∀ (s : State) (slot n : Nat) (g : Graph), s.graph? slot = some g → n ≠ 0 → 2 ^ 20 ≤ s.ft →
    (∃ t ∈ groupLeft g n, runsOn t = true) → (∀ t ∈ groupLeft g n, t.2.phase = .running) →
    (∀ t ∈ groupTasks g n, ∀ p ∈ t.2.members, waitedSince s g t.2 (s.ft - 2 ^ 20) p.2 = true) →
    exec (.cogroupHang slot n) s =
      .next (((groupLeft g n).filter runsOn).foldl (fun s t => endGang slot t.1 St.kernelHang s) s)) ∧
  ∀ (s : State) (slot task : Nat) (t : Task), s.task? slot task = some t → t.phase = .running →
    (∀ p ∈ t.members, p.2.ended = true) → taskWritesDone s slot task = true →
    exec (.taskEnd slot task) s = .next (quiesceCheck (settle (endTask slot task St.ok s)))

/-- In a scratch cycle with nothing deferred a core read of a word below 6,144 gets its enabled bytes; a core write and a
lighter write of one word land and defer; a lighter access of another word is refused and counted, and the core side
is served. While a write is deferred, a core read gets its bytes merged, a core write takes its own bytes from it, and
it lands in a cycle that the core side leaves idle. A byte that goes wrong (a free choice, log entry 168) stays so
until it is written, and read it is a detected fault. A packet of one flit of the core that enters an empty running
router leaves for the core where it is addressed to it, and eastward, where its core lies east on the die, into the
next router's buffer or its lock chamber where a credit is held. A VC3 packet that alone has left the router starts an
entry of the reduction table, is added to its entry, or overruns and ends its collective with ST_REDUCTION_OVERRUN;
COLL_DONE writes a complete entry's sum to its place in the collective that has the group, whose next piece then
begins or whose tokens signal, and without one to the entry's word. A chamber read hands its oldest flit to the next
router, and a side band that differs is a detected fault. (R96, R103, R104, R105, R107, R109, R113, R114, R121, R123,
R124, R342.) -/
def Obligations.ScratchPortRoutersAndReduction : Prop :=
  (∀ (s : State) (c w : Nat) (e er : List Nat), scratchLive s c = true → w < 6144 → (s.core c).deferred = none →
    let hit := fun l : List Nat => l.filter fun b => decide (b < 256) && er.contains b
    let u := spoilWord c w (hit e) s
    let got := u.updCore c fun x => { x with lastRead := wordBytes u c w e, run := 0 }
    (badIn u c w e = [] → exec (.scratchCycle c (.read w e) .idle er) s = .next got) ∧
    (badIn u c w e ≠ [] → exec (.scratchCycle c (.read w e) .idle er) s =
      .next (raiseFault Ev.scratchParity (leBytes 1 (c / 128) ++ leBytes 1 (c % 128) ++ leBytes 2 w)
        (got.updCore c fun x => { x with testWords := Tab.put w (badIn u c w e) x.testWords }))) ∧
    (∀ b d : Tab Byte, exec (.scratchCycle c (.write w b) (.write w d) er) s =
      .next (spoilWord c w (hit b.keys) ((landBytes c w b s).updCore c fun x => { x with deferred := some (w, d), run := 0 }))) ∧
    (∀ (v : Nat) (f : List Nat) (d : Tab Byte), v < 6144 → v ≠ w → badIn u c w e = [] →
      exec (.scratchCycle c (.read w e) (.read v f) er) s =
        .next (u.updCore c fun x => countRefusal { x with lastRead := wordBytes u c w e }) ∧
      exec (.scratchCycle c (.read w e) (.write v d) er) s =
        .next (u.updCore c fun x => countRefusal { x with lastRead := wordBytes u c w e }) ∧
      exec (.scratchCycle c (.write w d) (.read v f) er) s =
        .next (spoilWord c w (hit d.keys) ((landBytes c w d s).updCore c countRefusal)))) ∧
  (∀ (s : State) (c dw : Nat) (d : Tab Byte) (lighter : ScratchReq) (er : List Nat), scratchLive s c = true →
    (s.core c).deferred = some (dw, d) →
    let hit := fun l : List Nat => l.filter fun b => decide (b < 256) && er.contains b
    exec (.scratchCycle c .idle lighter er) s =
      .next (spoilWord c dw (hit d.keys) ((landBytes c dw d s).updCore c fun x => { x with deferred := none, run := 0 })) ∧
    (∀ e : List Nat, dw < 6144 →
      let u := spoilWord c dw (hit e) s
      badIn u c dw e = [] → exec (.scratchCycle c (.read dw e) lighter er) s =
      .next (u.updCore c fun x => countRefusal
        { x with lastRead := overBytes (d.filter fun b => e.contains b.1) (wordBytes u c dw e) })) ∧
    ∀ b : Tab Byte, dw < 6144 → (d.filter fun y => !Tab.has y.1 b) ≠ [] → exec (.scratchCycle c (.write dw b) lighter er) s =
      .next (spoilWord c dw (hit b.keys) ((landBytes c dw b s).updCore c fun x =>
        { countRefusal x with deferred := some (dw, d.filter fun y => !Tab.has y.1 b) }))) ∧
  (∀ (s : State) (r : Nat) (p : NetPacket), routerLive s r = true → (s.router r).queues = [] → (s.router r).worm = [] →
    (s.core r).outbox = [] → p.load = none → p.toBase = false →
    p.vc < 4 → p.flits = 1 → p.src = r → waypoint s r p.dst = none → towpathFree (s.router r) = true →
    p.dst / 128 = r / 128 →
    let f : Flit := { pkt := p, idx := 0 }
    ∃ t, exec (.routerCycle r [p]) s = .next t ∧ t.router r =
        { s.router r with
          queues := t.router r |>.queues, rr := t.router r |>.rr, towpathAt := t.router r |>.towpathAt
          forwarded := t.router r |>.forwarded, packets := t.router r |>.packets, stalls := t.router r |>.stalls
          highWater := t.router r |>.highWater, cycle := (s.router r).cycle + 1, ejected := t.router r |>.ejected } ∧
      t = { s with stk.routers := t.stk.routers, stk.chambers := t.stk.chambers, stk.cores := t.stk.cores } ∧
      (∀ c, t.core c = s.core c) ∧
      (p.dst = r → (t.router r).ejected = (s.router r).ejected ++ [f]) ∧
      (r % 16 < p.dst % 16 → hasCredit s r 1 false p.vc = true →
        (crosses r 1 = false → (t.router (r + 1)).queues =
          Tab.put (queueKey 0 false p.vc) (Tab.getD [] (queueKey 0 false p.vc) (s.router (r + 1)).queues ++ [f])
            (s.router (r + 1)).queues) ∧
        (crosses r 1 = true → (t.chamber (chamberOf r 1)).entries =
          (s.chamber (chamberOf r 1)).entries ++ [((s.chamber (chamberOf r 1)).wseq, f)]))) ∧
  (∀ (s : State) (r : Nat) (p : NetPacket), ejectedPackets (s.router r) = [p] → (s.router r).complete.contains p.group = false →
    let u := s.updRouter r fun q => { q with ejected := q.ejected.filter fun f => f.pkt.id != p.id }
    (∀ x, p.load = some x → ownerStands u x.owner = true) →
    let past := endCollective (r / 128) p.group St.reductionOverrun (u.updRouter r fun q => { q with overrun := q.overrun ++ [p] })
    let keep := fun e : NetPacket => u.updRouter r fun q =>
      { q with table := Tab.put p.group e q.table
               complete := if e.expects ≤ e.carried then q.complete ++ [p.group] else q.complete }
    (Tab.find? p.group (s.router r).table = none →
      exec (.reductionTableAdd r) s = .next (if 64 ≤ (s.router r).table.length then past else keep p)) ∧
    ∀ e, Tab.find? p.group (s.router r).table = some e →
      let sum := sumPacket e p
      sum.1.elems = (reduceElems e.rtype e.flush e.elems p.elems).1 ∧ sum.1.carried = e.carried + p.carried ∧
      exec (.reductionTableAdd r) s = .next (if e.expects < e.carried + p.carried then past
        else groupFlags (r / 128) p.group (reduceElems e.rtype e.flush e.elems p.elems).2 (keep sum.1))) ∧
  (∀ (s : State) (r group : Nat) (e : NetPacket), Tab.find? group (s.router r).table = some e →
    (s.router r).complete.contains group = true →
    let u := s.updRouter r fun q => { q with table := Tab.del group q.table }
    (∀ slot task place, collOfGroup u (r / 128) group = some (slot, task, place) →
      exec (.collDone (.table r group)) s = .next (roundDone slot task place (landRound slot task place e.elems u))) ∧
    (collOfGroup u (r / 128) group = none → exec (.collDone (.table r group)) s =
      .next (lighterWrite r (sumCells (e.word * 256) ((elemBytes e.rtype e.elems).take 256)) u))) ∧
  ∀ (s : State) (r out i seqRead stampRead : Nat) (f : Flit) (rest : List (Nat × Flit)), out < 4 → routerLive s (neighbour r out) = true →
    (s.chamber (chamberOf r out)).entries = (i, f) :: rest → f.pkt.flits = 1 →
    Tab.find? f.pkt.id (s.chamber (chamberOf r out)).stamps = none →
    let k := queueKey (inputOf out) f.leg2 f.pkt.vc
    let u := (s.updChamber (chamberOf r out) fun c =>
      { c with entries := rest, rseq := (c.rseq + 1) % 8, stamps := Tab.del f.pkt.id c.stamps }).updRouter
        (neighbour r out) fun q => { q with queues := Tab.put k (Tab.getD [] k q.queues ++ [f]) q.queues }
    (seqRead = (s.chamber (chamberOf r out)).rseq → exec (.lockChamberRead (chamberOf r out) seqRead stampRead) s = .next u) ∧
    (seqRead ≠ (s.chamber (chamberOf r out)).rseq →
      let reach := fun c : Nat => c % 128 / 16 / 4 * 4 + c % 16 / 4
      exec (.lockChamberRead (chamberOf r out) seqRead stampRead) s = .next (raiseFault Ev.chamberError
        (leBytes 1 (r / 128) ++ leBytes 1 (reach r) ++ leBytes 1 (reach (neighbour r out))) u))

/-- While RESET_N is high and no port is paused, FABRIC_TICK adds one to fabric time where nothing is to be corrected, two
where the counter is to gain and none where it is to lose, if the 1,023 ticks before corrected nothing (else it adds
one); the counter wraps at 64 bits; the trial, reset and tamper timers count, each running die's copy follows, and
what is due at the new instant takes effect (log entry 1). While RESET_N is low only the standby tamper timer counts
(model's choice, log entry 1). A message that an issuer holds takes the next SEQ of the TIME value, and none while SEQ
is exhausted. Once in every 2^12 ticks a running die's copy of fabric time is set to it, and a copy that differs is a
detected fault; until then the check changes nothing. (R302, R303, R305, R315, R317.) -/
def Obligations.TicksStampsAndReplicas : Prop :=
  (∀ s : State, s.pins.resetN = true → (∀ p, (s.ethPort p).pausedPrio = none) →
    let u : State :=
      { s with boot.trialAt := s.boot.trialAt.map (· + 1), boot.resetAt := s.boot.resetAt.map (· - 1), sec.clearFor := s.sec.clearFor + 1 }
    let after := fun (d : Nat) (x : State) => timersDue (dueStep (copiesTick d x))
    (s.time.correction = 0 ∨ mayCorrect s = false → s.ft + 1 < 2 ^ 64 →
      exec .fabricTick s = .next (after 1 { u with time.ft := s.ft + 1, time.repeated := false })) ∧
    (s.time.correction = 0 ∨ mayCorrect s = false → s.ft + 1 = 2 ^ 64 →
      exec .fabricTick s = .next (after 1 { u with time.ft := 0, time.repeated := false })) ∧
    (0 < s.time.correction → mayCorrect s = true → s.time.mode ≠ 3 → s.ft + 2 < 2 ^ 64 → exec .fabricTick s =
      .next (after 2 { u with time.ft := s.ft + 2, time.lastCorrAt := some (s.ft + 2)
                              time.correction := s.time.correction - 1, time.offset16 := s.time.offset16 - 16, time.repeated := false })) ∧
    (s.time.correction < 0 → mayCorrect s = true → s.time.repeated = false → s.time.mode ≠ 3 → s.ft < 2 ^ 64 →
      exec .fabricTick s = .next (after 0
        { u with time.lastCorrAt := some s.ft, time.correction := s.time.correction + 1
                 time.offset16 := s.time.offset16 + 16, time.repeated := true }))) ∧
  (∀ s : State, s.pins.resetN = false → exec .fabricTick s = .next { s with sec.clearFor := s.sec.clearFor + 1 }) ∧
  (∀ (s : State) (b n : Nat), (s.issuer b).held = [.message n] → issuerDown s b = false →
    let q := nextSeq b (timeField s.ft) (s.issuer b)
    let u := s.updIssuer b fun i => { i with time := timeField s.ft, nextSeq := q + 1, held := [] }
    (q < 128 → exec (.stampStallRelease b) s = .next
      { u with time.firstStamp := true
               work.msgs := Tab.modify n (fun g => { g with stamp := some (mkStamp (timeField s.ft) b q) }) s.work.msgs }) ∧
    (128 ≤ q → exec (.stampStallRelease b) s = .next s)) ∧
  ∀ (s : State) (k : Nat) (slip : Int), (s.stack k).powered = true → (s.stack k).clocked = true →
    let u := s.updStack k fun x => { x with ftCopy := s.ft, ftChecked := s.ft }
    ((s.stack k).ftChecked / 4096 ≠ s.ft / 4096 → exec (.ftReplicaCheck k slip) s =
      .next (if copyNow s k slip = s.ft then u else raiseFault Ev.ftReplica (leBytes 1 k) u)) ∧
    ((s.stack k).ftChecked / 4096 = s.ft / 4096 → exec (.ftReplicaCheck k slip) s = .next s)

/-- A module whose transmit link is up, and whose last TIMING frame on it lies 2^12 ticks back, sends its fabric time,
hops and the master's coordinates; on a link that is down, or sooner, it sends nothing. A timing frame on a link that
is up sets that link's delay to half the round trip; where an eligible module's index lies below the master's that the
frame names and the one it knows, it becomes master; one from the nearest neighbour that names the known master
corrects the counter by the offset the frame shows and takes its hops plus one. FT_REF_CHANGE stores the pin and takes
the best source: a new one that gives a value starts in ACQUIRING; where none is left the timekeeper enters HOLDOVER,
or FREE where no source ever gave a value (log entry 159: the pin's change selects at once). (R306, R308, R311, R567,
R568.) -/
def Obligations.TimeSources : Prop :=
  (∀ (s : State) (port link : Nat), linkUp s (512 + 16 * port + link % 8) = true → timingDue s port link = true →
    exec (.timingFrameSend port link) s = .next { s with torus.timingAt := Tab.put (8 * port + link % 8) s.ft s.torus.timingAt, torus.out := s.torus.out ++
        [.timing port link (if s.time.master then some s.torus.coord else s.time.masterCoord) s.ft s.time.hops] }) ∧
  (∀ (s : State) (port link : Nat), linkUp s (512 + 16 * port + link % 8) = false ∨ timingDue s port link = false →
    exec (.timingFrameSend port link) s = .next s) ∧
  (∀ (s : State) (port link senderFt hops roundTrip : Nat), linkUp s (512 + 16 * port + 8 + link % 8) = true →
    exec (.timingFrameReceive port link none senderFt hops roundTrip) s =
      .next { s with torus.delays := Tab.put (8 * port + link % 8) (roundTrip / 2) s.torus.delays } ∧
    (∀ c, outranks s c = true → exec (.timingFrameReceive port link (some c) senderFt hops roundTrip) s =
      .next (becomeMaster { s with torus.delays := Tab.put (8 * port + link % 8) (roundTrip / 2) s.torus.delays })) ∧
    ∀ c, s.time.masterCoord = some c → s.time.master = false → outranks s c = false →
      let u := reselect { s with torus.delays := Tab.put (8 * port + link % 8) (roundTrip / 2) s.torus.delays
                                 time.lastTiming := some s.ft, torus.nearest := Tab.put port (hops, link) s.torus.nearest }
      u.time.source = 1 ∨ u.time.source = 2 → nearestPort u = some port →
      exec (.timingFrameReceive port link (some c) senderFt hops roundTrip) s =
        .next (applyOffset ((senderFt : Int) * 16 + ((roundTrip / 2 : Nat) : Int) - (u.time.ft : Int) * 16)
          { u with time.hops := hops + 1 })) ∧
  ∀ (s : State) (ok : Bool),
    let u : State := { s with time.ftrefOk := ok }
    (bestSource u = s.time.source → exec (.ftRefChange ok) s = .next u) ∧
    (∀ c, bestSource u = c → c ≠ s.time.source →
      let v : State := { u with time.source := c, time.correction := 0 }
      (givesValue c = true → exec (.ftRefChange ok) s = .next (setTimeMode 1 v)) ∧
      (givesValue c = false → s.time.everSourced = true → exec (.ftRefChange ok) s = .next (setTimeMode 4 v)) ∧
      (givesValue c = false → s.time.everSourced = false → exec (.ftRefChange ok) s = .next (setTimeMode 0 v)))

/-- A step change that is due and does not wait for the pair's other stack starts by gliding where it lowers or the output
already stands high enough, and else by writing the voltage. A failed AVSBus frame is tried again up to three times
and then is a bus fault; a current read above 290 A notes over-current, one of no more changes nothing; a temperature
read keeps the highest; a status read with nothing waiting clears the bus fault and sets the alert pin anew; a voltage
write with nothing waiting sets the output. A raise whose glide has run is in force; a lower whose glide has run then
writes the lower voltage, where the pair needs less, and else is in force; before that GLIDE_END does nothing. A PLL
that is lost stops the die's clocks, its cores' and reaches' enables and any step change, and is a detected fault;
relocked, the stack runs at step 0 and steps toward its limit. The lowest of a reach's monitors is its level. (R332,
R333, R334, R335, R676, R677, R679, R683, R331.) -/
def Obligations.StackClocksAndMargins : Prop :=
  (∀ (s : State) (k : Nat) (c : StepChange), (s.stack k).change = some c → c.phase = .scheduled → c.start ≤ s.ft →
    partnerFirst s k c = false →
    (c.target < (s.stack k).step → exec (.stepChangeStart k) s = .next (setChange k .glide s)) ∧
    ((s.stack k).step ≤ c.target → s.power.avsFault.contains (pairOf k) = false →
      (pairMv s k c.target ≤ railMv s (pairOf k) → exec (.stepChangeStart k) s = .next (setChange k .glide s)) ∧
      (railMv s (pairOf k) < pairMv s k c.target → exec (.stepChangeStart k) s = .next
        (setChange k .volts { s with power.avs := s.power.avs ++ [{ rail := pairOf k, cmd := 0, value := pairMv s k c.target }] })))) ∧
  (∀ (s : State) (f : AvsFrame) (rest : List AvsFrame), s.power.avs = f :: rest →
    (f.tries < 3 → exec (.avsFrameDone .failed) s = .next { s with power.avs := { f with tries := f.tries + 1 } :: rest }) ∧
    (3 ≤ f.tries → exec (.avsFrameDone .failed) s = .next (avsFailed f { s with power.avs := rest })) ∧
    ∀ v, (f.cmd = 3 → exec (.avsFrameDone (.ok v)) s = .next
        (if 29000 < v then { s with power.avs := rest, power.overCurrent := (s.power.overCurrent ++ [f.rail]).eraseDups }
         else { s with power.avs := rest })) ∧
      (f.cmd = 4 → exec (.avsFrameDone (.ok v)) s = .next
        { s with power.avs := rest, power.regTemp := some (max v (s.power.regTemp.getD 0)) }) ∧
      (f.cmd = 2 → changing s f.rail .settling = none → changing s f.rail .lowerVolts = none →
        exec (.avsFrameDone (.ok v)) s = .next
          (alertPin { s with power.avs := rest, power.avsFault := s.power.avsFault.filter (· ≠ f.rail) })) ∧
      (f.cmd = 0 → changing s f.rail .volts = none → changing s f.rail .lowerVolts = none →
        exec (.avsFrameDone (.ok v)) s =
          .next { s with power.avs := rest, power.volts := Tab.put f.rail f.value s.power.volts })) ∧
  (∀ (s : State) (k : Nat) (c : StepChange), (s.stack k).change = some c → c.phase = .glide → (s.stack k).step < c.target →
    exec (.glideEnd k) s = .next (if c.since + (glideTicks (s.stack k).step c.target + c.slow) ≤ s.ft
      then scheduleStep k (s.updStack k fun x => { x with step := c.target, change := none }) else s)) ∧
  (∀ (s : State) (k : Nat) (c : StepChange), (s.stack k).change = some c → c.phase = .glide → c.target < (s.stack k).step →
    let past := c.since + (glideTicks (s.stack k).step c.target + c.slow) ≤ s.ft
    let v := pairMv s k c.target
    (¬ past → exec (.glideEnd k) s = .next s) ∧
    (past → (railMv s (pairOf k) ≤ v ∨ s.power.avsFault.contains (pairOf k) = true) → exec (.glideEnd k) s = .next
      (scheduleStep k (s.updStack k fun x => { x with step := c.target, change := none }))) ∧
    (past → v < railMv s (pairOf k) → s.power.avsFault.contains (pairOf k) = false → exec (.glideEnd k) s = .next
      (setChange k .lowerVolts { s with power.avs := s.power.avs ++ [{ rail := pairOf k, cmd := 0, value := v }] }))) ∧
  (∀ (s : State) (k : Nat), (s.stack k).powered = true →
    ((s.stack k).pllOk = true → exec (.stackPllLoss k) s = .next (raiseFault Ev.stackClock (leBytes 1 k)
      (s.updStack k fun x => { x with
        pllOk := false, clocked := false, change := none, estimate := 0
        reaches := x.reaches.mapVals fun _ r => { r with enable := 0 } }))) ∧
    ((s.stack k).pllOk = false → exec (.stackPllRelock k) s = .next
      (scheduleStep k (s.updStack k fun x => { x with pllOk := true, clocked := true, step := 0, ftCopy := s.ft })))) ∧
  ∀ (s : State) (k reach : Nat) (levels : List Nat), (s.stack k).powered = true → (s.stack k).clocked = true → reach < 8 →
    (∃ l ∈ levels, l ≤ 7) →
    ∃ t, exec (.marginMonitor k reach levels) s = .next t ∧
      t = (s.updStack k fun x => { x with reaches := (t.stack k).reaches }) ∧
      (∀ l ∈ levels, (Tab.getD {} reach (t.stack k).reaches).level ≤ l) ∧
      (Tab.getD {} reach (t.stack k).reaches).level ∈ levels ∧
      ∀ j, j ≠ reach → Tab.getD {} j (t.stack k).reaches = Tab.getD {} j (s.stack k).reaches

/-- With a pound open and no cut named, no close and no recovery, POUND_DEADLINE at or after the deadline names the cut at
the deadline's own instant, except in PS3; while the pair is halted for debug it is held. A pool that reaches 7/8
waits for a task's start or end while one runs. At the cut the closing pound gets the serial after the last committed
one, and the next begins with the tasks that run and those whose recorded end falls after the cut. The drain ends from
C + 32 to C + 1,024 ticks once every berth has met its count, later it is a detected fault; the verdict comes at C +
2,300 ticks without a fault, and the commit, at C + 2,500, makes the closing pound the committed one. (R355, R356,
R357, R358, R359, R373, R673.) -/
def Obligations.PoundCloses : Prop :=
  (∀ s : State, s.pound.opened = true → s.pound.cutAt = none → s.pound.closing = none → s.pound.recovery = none →
    s.power.pstate ≠ 3 → s.pound.deadline ≤ s.ft →
    (s.sec.halted = none → exec .poundDeadline s =
      .next { s with pound.cutAt := some s.pound.deadline, pound.cutCause := some .deadline }) ∧
    (s.sec.halted.isSome = true → exec .poundDeadline s =
      .next { s with sec.heldTrigger := s.sec.heldTrigger.or (some .deadline) })) ∧
  (∀ s : State, s.pound.opened = true → poolHighNow s = true → s.pound.poolLatch = false →
    let u : State := { s with pound.poolLatch := true }
    (tasksRun s = true → exec .poolThresholdClose s = .next { u with pound.poolHigh := true }) ∧
    (tasksRun s = false → exec .poolThresholdClose s = .next (askClose s.ft .pool u))) ∧
  (∀ (s : State) (c : Nat), s.pound.cutAt = some c → c ≤ s.ft → s.pound.recovery = none → s.pound.closing = none →
    ∃ t, exec .poundCut s = .next t ∧
      t.pound = { s.pound with
        closing := some { serial := s.pound.committed + 1, cut := c, commitAs := s.pound.cutSerial }, cutAt := none
        cutSerial := none, closingSet := s.pound.taskSet, taskSet := runningSet s ++ endedAfterCut s, poolHigh := false
        poolLatch := poolHighNow s }) ∧
  (∀ (s : State) (c : Closing), s.pound.closing = some c → c.drained = false →
    (c.cut + 32 ≤ s.ft → s.ft ≤ c.cut + 1024 → countsMatch s c.serial = true →
      exec .drainEnd s = .next { s with pound.closing := some { c with drained := true } }) ∧
    ((c.cut + 1024 < s.ft ∨ (c.cut + 1024 = s.ft ∧ countsMatch s c.serial = false)) → s.pound.recovery = none →
      exec .drainTimeout s =
      .next (raiseFault Ev.drainTimeout (leBytes 8 c.serial ++
        leBytes 1 (((List.range 8).find? fun k => unmatched s c.serial k).getD 0)) s))) ∧
  (∀ (s : State) (c : Closing), s.pound.closing = some c → c.drained = true → c.verdict = false → c.cut + 2300 ≤ s.ft →
    rollsBack s c.serial = false → s.lk.test = none → s.sec.halted = none → stranded s = false →
    let m := c.commitAs.getD c.serial
    exec .verdict s = .next { s with pound.closing := some { c with verdict := true }
                                     lk.pause := s.lk.pause.map fun p => (p.1, p.2.1, p.2.2.1.or (some m), some m) }) ∧
  ∀ (s : State) (c : Closing), s.pound.closing = some c → mayCommit s c = true →
    ∃ t, exec .poundCommit s = .next t ∧ t.pound.committed = c.commitAs.getD c.serial ∧ t.pound.closing = none ∧
      t.pound.closingSet = [] ∧ t.pound.lastCut = c.cut ∧ t.pound.lastK = c.cut + 2500 ∧ t.pound.replay = false

/-- A stamped write of this module that has arrived whole, later than its stamp, and whose TIME lies before the last cut
or the rollback instant is dropped and counted as stale; at or after TIME + 32 ticks it counts as late. One to an
address no buffer holds is a detected fault; one to a remote buffer goes to its module; one to a local page is held
until 32 ticks after its TIME, or is applied at once where it is late. One from another module waits for its COMMIT
notice. REORDER_RELEASE applies the earliest write held once its 32 ticks are over, SHADOW_COPY_DONE makes the page's
oldest copy ready and applies the writes that wait for it, in stamp order, and POOL_WAIT_RESUME applies the earliest
write the pool now admits. Applied, a write whose pound has no shadow of the page takes one where the pool admits it,
folding a full entry first, and waits for the copy; else it waits for the pool and counts once. A write of one line is
laid over the shadow and becomes the line's entry; one earlier than the entry is dropped and counted as stale, and
where the entry was not of all 64 bytes it is a detected fault. (R347, R349, R354, R362, R364, R371, R396, R498,
R511.) -/
def Obligations.WritesReachTheirLines : Prop :=
  (∀ (s : State) (id : Nat) (w : WriteReq) (st : Nat), Tab.find? id s.mem.writes = some w → w.stamp = some st →
    w.stage = .flight → w.parts = 0 → torusWrite w = false → stampInstant s.ft st < s.ft →
    let t := stampInstant s.ft st
    let k := memBerthOf w.addr
    let v := if t + 32 ≤ s.ft then s.updMemBerth k fun b => { b with late := satInc b.late } else s
    let u : State := { v with mem.writes := Tab.del id v.mem.writes }
    ((t < s.pound.lastCut ∨ t < s.pound.discardBefore) →
      exec (.memWriteArrival id) s = .next (u.updMemBerth k fun b => { b with stale := satInc b.stale })) ∧
    (s.pound.lastCut ≤ t → s.pound.discardBefore ≤ t → lostInRecovery s (serialOfTime s t) = true → (∀ n, w.orig ≠ .barge n) →
      exec (.memWriteArrival id) s = .next u) ∧
    (s.pound.lastCut ≤ t → s.pound.discardBefore ≤ t → lostInRecovery s (serialOfTime s t) = false →
      (addressBad s w.addr = true → exec (.memWriteArrival id) s =
        .next (raiseFault Ev.memAddress (leBytes 1 w.berth ++ leBytes 8 w.addr) (countDone k (serialOfTime s t) u))) ∧
      (∀ b r, addressBad s w.addr = false → bufAtPage s (pageOf w.addr) = some b → b.remote = some r →
        exec (.memWriteArrival id) s = .next (forwardWrite w st (serialOfTime s t) b r (countDone k (serialOfTime s t) u))) ∧
      (∀ b, addressBad s w.addr = false → bufAtPage s (pageOf w.addr) = some b → b.remote = none →
        (t + 32 ≤ s.ft → exec (.memWriteArrival id) s = .next (applyWrite id v)) ∧
        (s.ft < t + 32 → exec (.memWriteArrival id) s =
          .next { s with mem.writes := Tab.put id { w with stage := .held } s.mem.writes })))) ∧
  (∀ (s : State) (id : Nat) (w : WriteReq) (st sender n attempt first : Nat), Tab.find? id s.mem.writes = some w →
    w.stamp = some st → w.stage = .flight → w.parts = 0 → w.orig = .torus sender n attempt first →
    stampInstant s.ft st < s.ft → addressBad s w.addr = false →
    exec (.memWriteArrival id) s = .next { s with
      mem.writes := Tab.del id s.mem.writes
      torus.held := s.torus.held ++
        [{ berth := w.berth, sender := sender, n := n, attempt := attempt, stamp := first, addr := w.addr, data := w.data,
           since := s.ft }] }) ∧
  (∀ (s : State) (k id : Nat) (w : WriteReq) (st : Nat),
    (stagedAt s k fun w => w.stage == .held).head? = some (id, w) → w.stamp = some st →
    (stampInstant s.ft st + 32 ≤ s.ft → exec (.reorderRelease k) s = .next (applyWrite id s)) ∧
    (s.ft < stampInstant s.ft st + 32 → exec (.reorderRelease k) s = .next s)) ∧
  (∀ (s : State) (page : Nat) (h : Shadow),
    (byTag (s.mem.shadows.filter fun h => h.page = page ∧ !h.ready ∧ !h.discarded)).head? = some h →
    let u : State := { s with mem.shadows := setShadow { h with ready := true } s.mem.shadows }
    exec (.shadowCopyDone page) s = .next ((stampOrder (s.mem.writes.filter fun x => pageOf x.2.addr == page && x.2.stage == .copying &&
        serialOfTime s (stampInstant s.ft (x.2.stamp.getD 0)) == h.tag)).foldl (fun s x => applyWrite x.1 s) u)) ∧
  (∀ (s : State) (k id : Nat) (w : WriteReq), (stagedAt s k fun w => w.stage == .pool && poolFits s w).head? = some (id, w) →
    exec (.poolWaitResume k) s = .next (applyWrite id s)) ∧
  ∀ (s : State) (id : Nat) (w : WriteReq) (st : Nat), Tab.find? id s.mem.writes = some w → w.stamp = some st →
    let serial := serialOfTime s (stampInstant s.ft st)
    let k := memBerthOf w.addr
    let waits := fun (g : WriteStage) (u : State) => ({ u with mem.writes := Tab.put id { w with stage := g } u.mem.writes } : State)
    (shadowOf s (pageOf w.addr) serial = none → poolAdmits s serial = true →
      applyWrite id s = waits .copying (addShadow (pageOf w.addr) serial (foldFull (pageOf w.addr) s))) ∧
    (shadowOf s (pageOf w.addr) serial = none → poolAdmits s serial = false →
      (w.stage ≠ .pool → applyWrite id s = waits .pool (s.updMemBerth k fun b => { b with poolWait := satInc b.poolWait }))) ∧
    ∀ (h : Shadow) (l : Nat), shadowOf s (pageOf w.addr) serial = some h →
      (h.ready = false → applyWrite id s = waits .copying s) ∧
      (h.ready = true → w.orig = .other → s.pound.closing = none → cellLines w.cells = [l] →
        let cells := w.cells.filter fun p => p.1 / 64 = l
        let u : State := { s with mem.writes := Tab.del id s.mem.writes }
        testErrors u h l cells = [] →
        let e := entryOf h l
        ((e.valid = false ∨ entryEarlier st e.stamp = false) → applyWrite id s = countDone k serial
          (storeParity h.frame cells (w.bad.map (w.addr % 65536 + ·))
            { u with mem.shadows := setShadow (applyToShadow h l cells st) s.mem.shadows })) ∧
        (e.valid = true → entryEarlier st e.stamp = true → e.full = true → applyWrite id s =
          countDone k serial (u.updMemBerth k fun b => { b with stale := satInc b.stale })) ∧
        (e.valid = true → entryEarlier st e.stamp = true → e.full = false → applyWrite id s =
          countDone k serial (raiseFault Ev.lateWrite
            (leBytes 1 k ++ leBytes 8 ((pageOf w.addr * 1024 + l) * 64) ++ leBytes 8 st ++ leBytes 8 e.stamp)
            (u.updMemBerth k fun b => { b with stale := satInc b.stale }))))

/-- Where the cells of the table and of every shadow are canonical, no two shadows that stand have one page and pound, and
shadows list offsets within their page, VERSION_FOLD answers a next state in which every byte of the window reads as
committed exactly as before, and only the table of pages, the shadows, the storage frames and the berth's page-table
copies have changed. The premises are the invariant MemoryStaysCanonical states, and two more that hold of every
shadow a write makes. (R510, R511.) -/
def Obligations.FoldsChangeNoCommittedByte : Prop :=
  ∀ (s : State) (k : Nat), Memory.wf s.mem = true →
    (s.mem.shadows.filter fun h => !h.discarded).Pairwise (fun a b => a.page ≠ b.page ∨ a.tag ≠ b.tag) →
    (∀ h ∈ s.mem.shadows, ∀ c ∈ h.cells, c.1 < 65536) →
    ∃ t, exec (.versionFold k) s = .next t ∧ (∀ a, committedByte t a = committedByte s a) ∧
      t = { s with mem.base := t.mem.base, mem.shadows := t.mem.shadows, mem.berths := t.mem.berths, mem.frames := t.mem.frames
                   mem.wrong := t.mem.wrong, mem.retired := t.mem.retired, mem.retiring := t.mem.retiring }

/-- Where the bytes of the folded versions, of every shadow, pin and pre-image, of what each task keeps of the pages it
began with, and of scratch stand at strictly rising addresses with no entry equal to what an unlisted address reads
as, a step answers a next state of which the same holds; so equal memories are equal data in every run. (07_pounds.md,
10_memory.md.) -/
def Obligations.MemoryStaysCanonical : Prop :=
  ∀ s t : State, Canonical s = true → step s = .next t → Canonical t = true

/-- After reset no byte of device memory or scratch is listed, no shadow, pin or pre-image stands, and the canonical form
holds (that unwritten memory reads as zero where the manual gives it no content is the model's choice, log entry 60).
(10_memory.md, R507.) -/
def Obligations.ResetIsCanonical : Prop :=
  Canonical State.reset = true ∧ State.reset.mem.base = [] ∧ State.reset.mem.shadows = [] ∧ State.reset.stk.scratch = []

/-- With a recovery begun and not yet stopped, of a pound that is not committed, DETECTED_FAULT answers a next state in
which every shadow of that pound or a later one is discarded, no cut stands, the recovery is stopped, and every
committed byte reads as before. Once stopped, ROLLBACK_SHADOWS_RETURNED removes the discarded shadows and marks every
fault as sent. Once that is done, no earlier than the recovery allows, with no self-test of the lockkeepers and no
base logic reset, REPLAY_OPEN ends the recovery, with the deadline one pound length from now. (R359, R370, R371, R376,
R381.) -/
def Obligations.RollbackKeepsCommittedMemory : Prop :=
  (∀ (s : State) (r : Recovery), s.pound.recovery = some r → r.stopped = false → s.pound.committed < r.serial →
    ∃ (t : State) (q : Recovery), exec .detectedFault s = .next t ∧ t.pound.recovery = some q ∧ q.stopped = true ∧
      q.serial = r.serial ∧
      t.mem.shadows = s.mem.shadows.map (fun h => if r.serial ≤ h.tag then { h with discarded := true } else h) ∧
      t.pound.cutAt = none ∧ ∀ a, committedByte t a = committedByte s a) ∧
  (∀ (s : State) (r : Recovery), s.pound.recovery = some r → r.stopped = true → r.returned = false →
    ∃ t, exec .rollbackShadowsReturned s = .next t ∧ t.mem.shadows = s.mem.shadows.filter (fun h => !h.discarded) ∧
      t.pound.recovery = some { r with returned := true, faults := r.faults.map fun f => { f with sent := true } }) ∧
  ∀ (s : State) (r : Recovery), s.pound.recovery = some r → r.returned = true → r.notBefore ≤ s.ft →
    s.lk.test = none → stranded s = false → s.pound.closing = none → s.base.reset = none →
    ∃ t, exec .replayOpen s = .next t ∧ t.pound.recovery = none ∧ t.pound.deadline = s.ft + s.pound.length ∧
      t.pound.replay = decide (r.count < 4) ∧ t.pound.discardBefore = s.ft

/-- A notice stands where its CONTROL packet has reached the wharf: it is taken and acknowledged there. A close request
makes the time-master of a partition name a cut. A named cut that lies ahead is taken by a member in step whose pound
is open and has no cut, and one that lies past the deadline is kept for the next pound; a module out of step and not
joining ignores it. A COMMIT notice releases the held writes of that sender, pound and attempt, discarding those of
other attempts; a ROLLBACK notice discards those of its attempt and before; writes whose sender's cut and arrival lie
2^20 ticks back are discarded with an event; until then they stay. A module out of step, or that the sender is not in
step with, does not know the cut: whether it lies that far back is then a free value (log entry 153). (R388, R390,
R391, R393, R560, R563, R565.) -/
def Obligations.PartitionPounds : Prop :=
  (∀ (s : State) (coord issued : Nat),
    (s.torus.control.find? (fun c => coordOf c.src == coordOf coord) = none → exec (.closeRequestReceive coord issued) s = .next s) ∧
    (∀ c, s.torus.control.find? (fun c => coordOf c.src == coordOf coord) = some c →
      takeNotice coord s = some (sendControl 6 c.no coord { s with torus.control := s.torus.control.erase c })) ∧
    ∀ u, takeNotice coord s = some u →
      ((u.time.master = false ∨ u.torus.partition = 0) → exec (.closeRequestReceive coord issued) s = .next u) ∧
      (u.time.master = true → u.torus.partition ≠ 0 →
        exec (.closeRequestReceive coord issued) s = .next (nameMasterCut issued .named u))) ∧
  (∀ (s : State) (c : Nat) (serial : Option Nat),
    (s.torus.partition ≠ 0 → inStepNow s = true → s.ft ≤ c → s.pound.opened = true → s.pound.closing = none →
      s.pound.recovery = none → s.pound.cutAt = none → cutInForce s = none → serial = none →
      let u : State := { s with torus.behindAt := s.torus.behindAt.map (min (c + 2500)) }
      (c ≤ s.pound.deadline → exec (.namedCutReceive c serial) s =
        .next (recount u { u with pound.cutAt := some c, pound.cutCause := some .named })) ∧
      (s.pound.deadline < c → deadlineCounts u = true → exec (.namedCutReceive c serial) s = .next (deferCut c .named u))) ∧
    ((s.torus.partition = 0 ∨ (inStepNow s = false ∧ s.torus.joining = false)) → exec (.namedCutReceive c serial) s = .next s)) ∧
  (∀ (s : State) (sender n attempt : Nat) (u : State), takeNotice sender s = some u →
    (exec (.torusCommitNotice sender n attempt) s = .next
      (((u.torus.held.filter fun w => heldOf sender n w && w.attempt == attempt % 256).foldl (fun l w => insertHeld w l) []).foldl
        (fun s w => releaseHeldWrite w s) { u with torus.held := u.torus.held.filter fun w => !heldOf sender n w })) ∧
    exec (.torusRollbackNotice sender n attempt) s =
      .next { u with torus.held := u.torus.held.filter fun w => !(heldOf sender n w && decide (w.attempt ≤ attempt % 256)) }) ∧
  ∀ (s : State) (sender n : Nat),
    let alike := (drawBelow 2 s).1
    let x := (drawBelow 2 (drawBelow 2 s).2).1
    let u := (drawBelow 2 (drawBelow 2 s).2).2
    let drop := logEvent Ev.holdExpired (leBytes 3 (coordOf sender) ++ leBytes 8 n)
      { u with torus.held := u.torus.held.filter fun w => !heldOf sender n w }
    ((∃ w ∈ s.torus.held, heldOf sender n w = true ∧ s.ft < w.since + 1048576) → exec (.holdExpiry sender n) s = .next u) ∧
    (s.torus.held.filter (heldOf sender n) ≠ [] →
      (∀ w ∈ s.torus.held, heldOf sender n w = true → w.since + 1048576 ≤ s.ft) → 1048576 ≤ s.ft →
      (∀ c, inPartition s = true → senderCut s n = some c →
        (c + 1048576 ≤ s.ft → exec (.holdExpiry sender n) s = .next (if alike = 1 ∨ x = 0 then drop else u)) ∧
        (s.ft < c + 1048576 → exec (.holdExpiry sender n) s = .next (if alike ≠ 1 ∧ x = 0 then drop else u))) ∧
      (inPartition s = true → senderCut s n = none →
        exec (.holdExpiry sender n) s = .next (if alike ≠ 1 ∧ x = 0 then drop else u)) ∧
      (inPartition s = false → exec (.holdExpiry sender n) s = .next (if x = 0 then drop else u)))

/-- On a base receive link that is up, outside a base reset, whose sender of the moment may send, that sender forms its
next frame and the way changes it by the command's bits. A frame that its code cannot correct asks for its repetition,
once while that repetition stands, and the fourth in a row takes the link to TRAIN with a detected fault; an error-
free one with the sequence number due and the base epoch moves the expected number on, and a DATA frame's packets
enter the basin; a TRAIN frame or one of another number or epoch is not taken. Every frame sent counts in its cycle
and grant. With no sender that may send no frame passes, and on a link that is down or a transmit link nothing
changes. A fibre receive link takes another module's frame and acknowledges it on its pair. A NAK makes the sender
resend from the frame named. A grant that is over passes to the requester chosen and starts its count, or to none; one
that is not stays; waiting requests are counted. A set port of a working transmit link with no packet under way or
NAKed becomes the active one, with three TRAIN frames first. A base parity error is counted and is a detected fault. A
packet that leaves a basin gives its units back to its sender and moves on; one that cannot leave keeps them. (R403,
R404, R414, R415, R416, R417, R419, R420, R433, R435, R445.) -/
def Obligations.LinkFramesGrantsAndCredits : Prop :=
  (∀ (s : State) (l t : Nat) (f : LinkFrame) (content : Bytes) (u : State), linkRx l = true → linkFibre l = false →
    linkUp s l = true → s.base.reset = none → frameSender s l = some t → sendsNow s t l = true →
    nextFrame t l (laneStep t l s) = (content, u) →
    let v := idleWave t l 85 f.wr u
    let wire := encodeFrame false content ^^^ f.bits % 2 ^ 1360
    let due := Tab.getD 0 t (v.link l).rxSeq
    let run := Tab.getD 0 t (v.link l).badRun + 1
    let ends := fun w : State => exec (.linkFrameReceive l f) s = .next (passCycle l (some t) (countFrame t l w))
    (decodeFrame false wire = none →
      (Tab.has t (v.link l).nak = true → Tab.has l (v.link t).nak = true → ends (v.updLink l fun x => { x with suspectRun := [] })) ∧
      ((Tab.has t (v.link l).nak = false ∨ Tab.has l (v.link t).nak = false) →
        let w := (v.updLink l fun x =>
          { x with uncorrectable := satInc x.uncorrectable, nak := Tab.put t due x.nak, badRun := Tab.put t run x.badRun
                   suspectRun := [] }).updLink t fun x => { x with nak := Tab.put l due x.nak }
        ends (if run = 4 then
          toTrain l (raiseFault Ev.linkUnrecovered (leBytes 1 (linkBerth l) ++ leBytes 1 (linkIdx l) ++ leBytes 2 due)
            (w.updLink l fun x => { x with unrecovered := satInc x.unrecovered }))
          else w))) ∧
    ∀ (got : Bytes) (syms : List Nat), decodeFrame false wire = some (got, syms) →
      let c := controlOf got
      let w := countDecoded l t syms v
      let at' := Tab.getD 0 t (w.link l).rxSeq
      let r := readStream false (Tab.getD [] t (w.link l).rxPart) c got
      ((c.type = 2 ∨ 4 ≤ c.type ∨ c.epoch ≠ w.base.epoch ∨ c.fseq ≠ at') → ends w) ∧
      (c.epoch = w.base.epoch → c.fseq = at' →
        (c.type = 1 → ends (w.updLink l fun x =>
          { x with rxSeq := Tab.put t ((c.fseq + 1) % 4096) x.rxSeq, nak := Tab.del t x.nak, badRun := Tab.del t x.badRun })) ∧
        (c.type = 0 → ends (r.1.foldl (fun s p => arrivePacket l t p s) (w.updLink l fun x =>
          { x with rxSeq := Tab.put t ((c.fseq + 1) % 4096) x.rxSeq, nak := Tab.del t x.nak, badRun := Tab.del t x.badRun
                   rxPart := Tab.putD [] t r.2 x.rxPart }))))) ∧
  (∀ (s : State) (l : Nat) (f : LinkFrame), (linkRx l = false ∨ linkUp s l = false ∨ s.base.reset.isSome = true) →
    exec (.linkFrameReceive l f) s = .next s) ∧
  (∀ (s : State) (l : Nat) (f : LinkFrame), linkRx l = true → linkFibre l = false → linkUp s l = true → s.base.reset = none →
    (∀ t, frameSender s l = some t → sendsNow s t l = false) →
    exec (.linkFrameReceive l f) s = .next (passCycle l none s)) ∧
  (∀ (s : State) (l : Nat) (f : LinkFrame), linkRx l = true → linkFibre l = true → linkUp s l = true → s.base.reset = none →
    let got := prbsErrors 170 (s.link l).prbs f.wr
    let u := (s.updLink l fun x =>
      { x with prbs := got.2
               wrErrs := if f.mirror.isSome || wrMasked s (l - 8) then x.wrErrs else satAdd x.wrErrs got.1
               lanes := Tab.put l { mirror := f.mirror, missing := f.missing } x.lanes
               dealt := if f.missing = (laneUse s l l).missing then x.dealt else 0 }).updLink (l - 8) fun x => { x with farHigh := f.weir }
    let v := (takeFrame l 0 f.bits f.again u).updLink l fun x => { x with dealt := if f.missing.isSome then (x.dealt + 16) % 15 else 0 }
    let w := if (v.link l).nak = [] ∧ linkUp v l = true then v.updLink (l - 8) fun x => { x with ackDue := max x.ackDue 1 } else v
    exec (.linkFrameReceive l f) s = .next (fibreEnter ((l - 512) / 16) [] (fibreSend (l - 8) 16 w))) ∧
  (∀ (s : State) (l : Nat), linkRx l = false →
    ((s.link l).nak ≠ [] →
      let u := s.updLink l fun x =>
        { x with nak := [], resend := (s.link l).nak.foldl (fun t r => Tab.put r.1 r.2 t) x.resend
                 replays := satAdd x.replays (s.link l).nak.length }
      exec (.nakResend l) s = .next (if linkFibre l then fibreSend l 512 u else u)) ∧
    ((s.link l).nak = [] → exec (.nakResend l) s = .next s)) ∧
  (∀ (s : State) (b n l : Nat), exec (.baseParityError b n l) s =
    .next (raiseFault Ev.baseParity (leBytes 1 b ++ leBytes 1 n) (s.updLink l fun x => { x with parityErrs := satInc x.parityErrs }))) ∧
  (∀ (s : State) (l waited : Nat) (requests : List (Nat × Nat)), linkRx l = true → linkFibre l = false → linkUp s l = true →
    let stand := requests.filter (requestStands s l)
    let u := s.updLink l fun x => { x with grantWaits := if stand = [] then x.grantWaits else satAdd x.grantWaits waited }
    (((u.link l).paused = true ∨ grantOver u l = false) → exec (.grantPass l requests waited) s = .next u) ∧
    ((u.link l).paused = false → grantOver u l = true → nextGrant (u.link l) stand = none →
      exec (.grantPass l requests waited) s = .next (u.updLink l fun x => { x with granted := none, grantFrames := 0 })) ∧
    ∀ t vc, (u.link l).paused = false → grantOver u l = true → nextGrant (u.link l) stand = some (t, vc) →
      exec (.grantPass l requests waited) s = .next (u.updLink l fun x =>
        { x with granted := some t, grantFrames := 0
                 grantCap := if basinPart l vc ≤ 2 * Tab.getD 0 vc (u.link l).occupancy then 16 else 64 })) ∧
  (∀ (s : State) (l port d : Nat), linkRx l = false → linkUp s l = true → (s.link l).paused = false →
    Tab.find? port (s.link l).ports = some d → (s.link (rxLink d (linkBerth l % 8))).paused = false → (s.link l).active ≠ port →
    busyPort (s.link l) l = false → circuitNow (s.link l) = none →
    exec (.fastPortRetarget l port) s = .next (s.updLink l fun x =>
      { x with active := port, retargetAt := some s.ft, trainLeft := 3, retargets := satInc x.retargets })) ∧
  ∀ (s : State) (l vc t : Nat) (p : BasePacket) (rest : List (BasePacket × Nat)), linkRx l = true → linkFibre l = false → vc < 4 →
    Tab.getD [] (4 * l + vc) s.base.queues = (p, t) :: rest →
    (drains s l p = true → exec (.creditReturn l vc (packetUnits p)) s = .next (admitAll (deliverBase l p
      (backTo t (4 * l + vc) (packetUnits p)
        (basinGive l vc (packetUnits p) { s with base.queues := Tab.put (4 * l + vc) rest s.base.queues }))))) ∧
    (drains s l p = false → exec (.creditReturn l vc (packetUnits p)) s = .next (admitAll s))

/-- LOCK_WINDOW_START holds the links of a window that is due once no packet of theirs is half sent or to be sent again,
takes back the packets that wait on them, ends the bursts to and from them, makes its changes, and allots the credits
of the receive links whose sources change; a window that is not due is left. A named link whose rings lock within 625
ticks resumes with its new ports once none of them is left, and stays held while one is; at W + 625 a link that is
still held resumes with those ports whose rings have locked, and each of the others is left unset, logged and tried
again in the next free slot; at W + 640 ticks the window ends, its links run on, and a flight with no window left is
over. (R400, R422, R423, R424, R425, R427, R434.) -/
def Obligations.LockWindows : Prop :=
  (∀ (s : State) (w : Window), s.base.windows = [w] →
    (w.started = false → w.start ≤ s.ft → (∀ l ∈ w.links, linkQuiet s l = true) →
      exec .lockWindowStart s = .next (reallot w.links s (w.acts.foldl (fun s a => startAct a s)
        (w.links.foldl (fun s l => holdLink l s) (takeBackAll w.links { s with base.windows := [{ w with started := true }] }))))) ∧
    ((w.started = true ∨ s.ft < w.start ∨ ∃ l ∈ w.links, linkQuiet s l = false) → exec .lockWindowStart s = .next s)) ∧
  (∀ (s : State) (w : Window), s.base.windows = [w] → w.started = true →
    (w.late = false → w.start + 625 ≤ s.ft → exec .lockWindowRingDeadline s = .next
      (w.links.foldl (fun s l => linkDeadline l s) { s with base.windows := [{ w with late := true }] })) ∧
    ((w.late = true ∨ s.ft < w.start + 625) → exec .lockWindowRingDeadline s = .next s) ∧
    (w.start + 640 ≤ s.ft → spareLeft w = false →
      let t := w.acts.foldl (fun s a => endAct a s) (w.links.foldl
        (fun s l => linkDeadline l s) { s with base.windows := [] })
      let flies := fun f : Nat × List FlightWindow =>
        f.2.any (fun w => decide (t.ft < w.start + 640)) || t.base.windows.any fun w => w.flight == some f.1
      exec .lockWindowEnd s = .next (admitAll { t with torus.flights := t.torus.flights.filter flies }))) ∧
  (∀ (s : State) (l : Nat) (ports : List Nat),
    (inWindow s l = true → (∀ p ∈ (s.link l).unset, p.1 ∈ ports) →
      exec (.retunedRingsLocked (l, ports)) s = .next (admitAll (reallot [l] s (s.updLink l fun x =>
        { x with ports := x.unset.foldl (fun t p => Tab.put p.1 p.2 t) x.ports, unset := [], paused := false })))) ∧
    (inWindow s l = true → (∃ p ∈ (s.link l).unset, p.1 ∉ ports) →
      exec (.retunedRingsLocked (l, ports)) s = .next (reallot [l] s (s.updLink l fun x =>
        { x with ports := (x.unset.filter fun p => ports.contains p.1).foldl (fun t p => Tab.put p.1 p.2 t) x.ports
                 unset := x.unset.filter fun p => !ports.contains p.1 }))) ∧
    (inWindow s l = false → exec (.retunedRingsLocked (l, ports)) s = .next s)) ∧
  ∀ (s : State) (l : Nat),
    ((s.link l).paused = false → linkDeadline l s = s) ∧
    ((s.link l).paused = true → (s.link l).unset = [] → linkDeadline l s = resume l [] s) ∧
    ∀ port dest, (s.link l).paused = true → (s.link l).unset = [(port, dest)] →
      linkDeadline l s = nextWindow [l] [.retry l port dest]
        (logEvent Ev.portUnset (leBytes 1 (linkBerth l) ++ leBytes 1 (linkIdx l) ++ leBytes 1 port ++ leBytes 1 dest) (resume l [] s))

/-- A REDUCE packet on a base link of a compute or memory berth starts an entry, while its home link has one of 96 free,
is added to one that has room for it, and is returned with ST_REDUCTION_OVERRUN where the entry is done, has
completed, or the count would pass what is expected; one to the wharf or service berth is returned with
ST_REDUCTION_TARGET; on a torus berth, or of another kind, it does nothing. COLL_DONE sends a complete entry's sum, as
one write of a memory berth's issuer or through the base port of the destination's reach once that has room, and
closes the entry. When a berth has missed two rounds, a base logic reset of a module that runs is a detected fault
that empties the base's queues, basins and waiting packets and unsets every port; between a verdict and its commit it
is kept for after, and with fewer rounds missed nothing happens. The release at X + 125 ticks advances the epoch and
leaves the two page-table copies of each memory berth alike (which of two that differ was complete is a free value,
log entry 72). BASE_PLAN_RELOADED installs the default plan, sets the kept circuits again, allots the credits, and
takes every link but those listed, dark, or held in TRAIN to UP, each listed one logged as unrecovered. (R421, R436,
R437, R438, R439, R440, R442, R443, R444, R512.) -/
def Obligations.BasinsAndBaseLogicReset : Prop :=
  (∀ (s : State) (l : Nat) (p : BasePacket),
    let b := linkBerth l
    let k := (b, tagGroup p.tag, p.addr)
    let carried := tagCarried p.tag
    let vals := bytesElems (tagType p.tag) (fromTorus p).payload
    let place := whereQueued s b p
    let back := fun status : Nat => endCollective p.srcBerth (tagGroup p.tag) status
      { unqueue p place s with base.returned := s.base.returned ++ [k] }
    ((p.kind ≠ 4 ∨ linkFibre l = true ∨ (24 ≤ b ∧ b < 30)) → exec (.basinReduce l p) s = .next s) ∧
    (p.kind = 4 → linkFibre l = false → 30 ≤ b → exec (.basinReduce l p) s = .next (back St.reductionTarget)) ∧
    (p.kind = 4 → linkFibre l = false → b < 24 → (b, tagGroup p.tag, p.addr, p.srcBerth) ∈ s.base.finished →
      exec (.basinReduce l p) s = .next (back St.reductionOverrun)) ∧
    (p.kind = 4 → linkFibre l = false → b < 24 → (b, tagGroup p.tag, p.addr, p.srcBerth) ∉ s.base.finished → basinFind s k = none →
      (tagExpects p.tag < carried → exec (.basinReduce l p) s = .next (back St.reductionOverrun)) ∧
      (carried ≤ tagExpects p.tag → 96 ≤ entriesAt s b p.addr → exec (.basinReduce l p) s = .next s) ∧
      (carried ≤ tagExpects p.tag → entriesAt s b p.addr < 96 → exec (.basinReduce l p) s =
        .next (occupy (homeLink b p.addr) 3 (packetUnits p) (basinPut k
          { link := homeLink b p.addr, sender := place, units := packetUnits p, unit := p.destUnit, srcBerth := p.srcBerth, sum := vals
            rtype := tagType p.tag, flush := tagFlush p.tag, carried := carried, expects := tagExpects p.tag
            done := decide (tagExpects p.tag ≤ carried) }
          (unqueueKept p place s))))) ∧
    ∀ e, p.kind = 4 → linkFibre l = false → b < 24 → (b, tagGroup p.tag, p.addr, p.srcBerth) ∉ s.base.finished → basinFind s k = some e →
      (e.done = false → e.carried + carried ≤ e.expects →
        let sum := reduceElems e.rtype e.flush e.sum vals
        exec (.basinReduce l p) s = .next (groupFlags p.srcBerth (tagGroup p.tag) sum.2 (basinPut k
          { e with sum := sum.1, carried := e.carried + carried, done := decide (e.expects ≤ e.carried + carried) }
          (unqueue p place s)))) ∧
      ((e.done = true ∨ e.expects < e.carried + carried) →
        exec (.basinReduce l p) s = .next (back St.reductionOverrun))) ∧
  (∀ (s : State) (b group addr : Nat) (e : BasinEntry), basinFind s (b, group, addr) = some e →
    entryColl s group addr e = none →
    let d := (elemBytes e.rtype e.sum).take 256
    let u := closeEntry (b, group, addr) e { s with base.finished := s.base.finished ++ [(b, group, addr, e.srcBerth)] }
    let p : BasePacket :=
      { stamp := 0, addr := addr, kind := 0, vc := 1, destBerth := b, destUnit := e.unit, srcBerth := b, srcUnit := 0
        len := d.length, tag := 0, payload := d }
    (e.done = false → exec (.collDone (.basin b group addr)) s = .next s) ∧
    (e.done = true → 16 ≤ b → exec (.collDone (.basin b group addr)) s =
      .next (berthWrite { addr := addr, data := d, berth := b, stamp := none, orig := .basin b } u)) ∧
    (e.done = true → b < 16 → portFree s b p = true → exec (.collDone (.basin b group addr)) s = .next (portEnter b .none p u)) ∧
    (e.done = true → b < 16 → portFree s b p = false → exec (.collDone (.basin b group addr)) s = .next s)) ∧
  (∀ (s : State) (b : Nat), stranded s = false → s.sec.halted = none → s.base.reset = none →
    (Tab.getD 0 b s.base.silent < 2 → exec (.baseLogicReset b) s = .next s) ∧
    (2 ≤ Tab.getD 0 b s.base.silent → betweenVerdict s = true →
      exec (.baseLogicReset b) s = .next { s with base.resetWanted := s.base.resetWanted.or (some b) }) ∧
    (2 ≤ Tab.getD 0 b s.base.silent → betweenVerdict s = false →
      let u := reselect (portsDown ((List.range 6).filter (portUp s)) (dropBase s))
      exec (.baseLogicReset b) s = .next (raiseFault Ev.baseEpochLost (leBytes 1 b ++ leBytes 1 ((u.base.epoch + 1) % 256))
        { u with base.resetWanted := none, base.silent := [], base.reset := some { start := u.ft } }))) ∧
  (∀ (s : State), (dropBase s).base.queues = [] ∧ (dropBase s).base.basins = [] ∧ (dropBase s).base.waiting = [] ∧
    ∀ l, ((dropBase s).link l).ports = [] ∧ ((dropBase s).link l).queue = [] ∧ ((dropBase s).link l).state < 2) ∧
  (∀ (s : State) (r : BaseReset), s.base.reset = some r → r.released = false →
    (s.ft < r.start + 125 → exec .baseResetRelease s = .next s) ∧
    (r.start + 125 ≤ s.ft → ∃ t, exec .baseResetRelease s = .next t ∧ t.base.reset = some { r with released := true } ∧
      t.base.epoch = (s.base.epoch + 1) % 256 ∧ ∀ k, k < 8 → (t.memBerth k).tableB = (t.memBerth k).tableA)) ∧
  ∀ (s : State) (r : BaseReset) (down : List Nat), s.base.reset = some r →
    (r.released = false → exec (.basePlanReloaded down) s = .next s) ∧
    (r.released = true →
      let u := fibreCredits (allotAll (s.base.kept.foldl (fun s k => restoreCircuit k s)
        (installPlan { s with base.reset := none, base.kept := [] })))
      let works := fun l : Nat => !down.contains l && !(darkLinks u).contains l &&
        (!linkFibre l || ((u.link l).state == 1 && trainedRight u ((l - 512) / 16) l))
      exec (.basePlanReloaded down) s = .next (((down.map fun l => (linkPair l).getD 1 l).eraseDups).foldl (fun s l =>
        logEvent Ev.linkUnrecovered (leBytes 1 (linkBerth l) ++ leBytes 1 (linkIdx l) ++ leBytes 2 0) s)
          (setLinks ((trainable u).filter works) 2 u))) ∧
    ∀ b k, b < 32 → k < 8 → ((installPlan s).link (txLink b k)).ports = planPorts b k

/-- Outside a base logic reset, in which nothing starts, a group with no handover takes the lane due and a free spare:
from the mirror, or past the drain where WR carries the lane already; with no free spare the lane stays on WR; with no
lane due nothing changes; one that a base reset held starts again once every link of the group is UP. The drain ends
after 128 ticks, with the spare tuned at the later of that and its own instant; a spare tuned within 2^16 ticks of the
start takes its drive and is verified after 16,384, a verified one is switched in while the old laser goes dark,
checked after 1,250 + 131,072 ticks, and the mirror stops 128 later; before their times these change nothing; a step
that fails rejects the spare. The fail comparator of a lit laser takes it out at once, and counts as sudden on a lane
on neither WR nor a spare. (R456, R460, R463, R464, R465, R466, R470.) -/
def Obligations.HandoverOfALane : Prop :=
  (∀ (s : State) (u : LightUnit), (s.group (unitGroup u)).handover = none → s.base.reset = none →
    let g := unitGroup u
    (nextLane s g = none → exec (.handoverStart u) s = .next s) ∧
    ∀ lane, nextLane s g = some lane →
      (∀ k, freeSpare s g lane = some k →
        ((s.group g).relieved = some lane → exec (.handoverStart u) s = .next (s.updGroup g fun x =>
          { x with handover := some { lane := lane, spare := k, phase := .drained, since := s.ft } })) ∧
        ((s.group g).relieved ≠ some lane →
          (lane = 16 → exec (.handoverStart u) s = .next (s.updGroup g fun x =>
            { x with handover := some { lane := lane, spare := k, phase := .mirrored, since := s.ft } })) ∧
          (lane ≠ 16 → exec (.handoverStart u) s = .next ((s.updGroup g fun x =>
            { x with handover := some { lane := lane, spare := k, phase := .mirrored, since := s.ft } }).updGroup g fun x =>
              { x with relieved := some lane, relievedAt := s.ft })))) ∧
      (freeSpare s g lane = none → exec (.handoverStart u) s = .next (noSpare g lane s))) ∧
  (∀ (s : State) (u : LightUnit) (h : Handover), (s.group (unitGroup u)).handover = some h → h.phase = .waiting →
    (s.base.reset = none → (groupLinks (unitGroup u)).all (linkUp s) = true →
      ((h.lane = 16 ∨ (s.group (unitGroup u)).relieved = some h.lane) →
        exec (.handoverStart u) s = .next (setPhase (unitGroup u) .mirrored s)) ∧
      (h.lane ≠ 16 → (s.group (unitGroup u)).relieved ≠ some h.lane →
        exec (.handoverStart u) s = .next (setPhase (unitGroup u) .mirrored
          (s.updGroup (unitGroup u) fun x => { x with relieved := some h.lane, relievedAt := s.ft })))) ∧
    ((groupLinks (unitGroup u)).all (linkUp s) = false → exec (.handoverStart u) s = .next s)) ∧
  (∀ (s : State) (u : LightUnit), s.base.reset.isSome = true → exec (.handoverStart u) s = .next s) ∧
  (∀ (s : State) (u : LightUnit), let g := unitGroup u
    (inPhase s g .mirrored 128 = false → exec (.handoverDrainEnd u) s = .next s) ∧
    (inPhase s g .mirrored 65537 = true → inPhase s g .drained 0 = false →
      ((s.group g).handover.any fun h => h.tunedAt.isNone) = true → exec (.spareTuned u true) s = .next (spareReject g s)) ∧
    (inPhase s g .drained 65409 = true → ((s.group g).handover.any fun h => h.tunedAt.isNone) = true →
      exec (.spareTuned u true) s = .next (spareReject g s)) ∧
    ((inPhase s g .mirrored 0 = true ∨ inPhase s g .drained 0 = true) →
      ((s.group g).handover.any fun h => h.tunedAt.isNone) = true → exec (.spareTuned u false) s = .next (spareReject g s)) ∧
    (∀ ok, (inPhase s g .mirrored 0 = false ∧ inPhase s g .drained 0 = false) ∨
      ((s.group g).handover.any fun h => h.tunedAt.isNone) = false → exec (.spareTuned u ok) s = .next s) ∧
    exec (.spareVerified u true) s = .next (if inPhase s g .tuned 16384 then setPhase g .verified s else s) ∧
    exec (.spareVerified u false) s = .next (if inPhase s g .tuned 0 then spareReject g s else s) ∧
    exec (.handoverLaneCheckEnd u true) s = .next (if inPhase s g .switched (1250 + 131072) then setPhase g .checked s else s) ∧
    exec (.handoverLaneCheckEnd u false) s = .next (if inPhase s g .switched 1250 then spareReject g s else s) ∧
    ∀ h, (s.group g).handover = some h →
      (inPhase s g .mirrored 128 = true → exec (.handoverDrainEnd u) s = .next (s.updGroup g fun x => { x with
        handover := some (match h.tunedAt with
          | some t => { h with phase := .tuned, since := max t h.since }
          | none => { h with phase := .drained, since := s.ft }) })) ∧
      (h.tunedAt = none → h.phase = .drained → h.since ≤ s.ft → s.ft < h.since + 65409 → exec (.spareTuned u true) s = .next
        ((s.updLaser h.spare fun x => { x with drive := 196 }).updGroup g fun x =>
          { x with handover := some { h with phase := .tuned, since := s.ft, tunedAt := some s.ft } })) ∧
      (h.tunedAt = none → h.phase = .mirrored → h.since ≤ s.ft → s.ft < h.since + 65537 → exec (.spareTuned u true) s = .next
        ((s.updLaser h.spare fun x => { x with drive := 196 }).updGroup g fun x =>
          { x with handover := some { h with tunedAt := some s.ft } })) ∧
      (h.phase = .verified →
        let lit := fun x : Laser => { x with lit := true, state := 6, serves := h.lane, fade := 0, level := 0, quiet := 0, drive := 196 }
        (servingLaser s g h.lane = none → exec (.handoverSwitch u) s = .next (setPhase g .switched (s.updLaser h.spare lit))) ∧
        (servingLaser s g h.lane = some h.spare → exec (.handoverSwitch u) s = .next (setPhase g .switched (s.updLaser h.spare lit))) ∧
        ∀ k, servingLaser s g h.lane = some k → k ≠ h.spare →
          ((s.laser k).state ≠ 6 → exec (.handoverSwitch u) s = .next (setPhase g .switched
            ((s.updLaser k fun x => { x with lit := false, drive := 0, state := 4 }).updLaser h.spare lit))) ∧
          ((s.laser k).state = 6 → exec (.handoverSwitch u) s = .next (setPhase g .switched
            ((s.updLaser k fun x => { x with lit := false, drive := 0, state := 7, serves := 31 }).updLaser h.spare lit)))) ∧
      (h.phase ≠ .verified → exec (.handoverSwitch u) s = .next s) ∧
      (inPhase s g .checked 128 = false → exec (.handoverMirrorStop u) s = .next s) ∧
      (inPhase s g .checked 128 = true → ∃ f, exec (.handoverMirrorStop u) s = .next
          (logEvent Ev.laserSpared (leBytes 1 (groupCode g) ++ leBytes 1 h.lane ++ leBytes 1 (spareCode h.spare)) (s.updGroup g f)) ∧
        (f (s.group g)).handover = none ∧ (f (s.group g)).queue = (s.group g).queue.erase h.lane ∧
        ((s.group g).relieved = some h.lane → (f (s.group g)).relieved = (s.group g).dropped ∧ (f (s.group g)).dropped = none))) ∧
  ∀ (s : State) (r : LaserRef), let k := laserKey r
    ((s.laser k).lit = false → exec (.failComparatorTrip r) s = .next s) ∧
    (16 < (s.laser k).serves → exec (.failComparatorTrip r) s = .next s) ∧
    ((s.laser k).lit = true → (s.laser k).serves ≤ 16 →
      ((s.laser k).serves ≠ 16 → (s.group (groupOfKey k)).relieved ≠ some (s.laser k).serves → (s.laser k).state ≠ 6 →
        exec (.failComparatorTrip r) s = .next (laserFail k (s.updGroup (groupOfKey k) fun x => { x with fails := satInc x.fails }))) ∧
      ((s.laser k).serves = 16 ∨ (s.group (groupOfKey k)).relieved = some (s.laser k).serves ∨ (s.laser k).state = 6 →
        exec (.failComparatorTrip r) s = .next (laserFail k s)))

/-- A ring that its window has swept and that shows its own tone gives its lane back, one that does not is swept again,
and one not swept stays. A laser's step runs in housekeeping slack, those whose drive a fade has moved there first, a
receiver's while its link holds no grant, a ring's in a lock window, which it is placed in if it waits for none, the
others in slack; out of its gap a step changes nothing. A step that runs is counted, one out of limits as rejected,
and a result within them is stored. Once in each slot of 16 ticks the estimate of a running stack, whose demand is its
activity counts and clocked periods times their energy coefficients, rises by at most 384 mW, falls by at most 384 mW
with ballast for the rest, and else meets the demand, and a reach with work ungates by one eighth; a second command of
a slot, or one for a stack that does not run, changes nothing. (R426, R475, R476, R477, R479, R480, R481, R482.) -/
def Obligations.RingsCalibrationAndGovernor : Prop :=
  (∀ (s : State) (r : RingRef), let l := ringLink r
    (s.light.swept.contains r = false → ∀ own, exec (.ringRelock r own) s = .next s) ∧
    (s.light.swept.contains r = true → Tab.has r.lane (s.link l).relief = true → exec (.ringRelock r true) s = .next
      { s.updLink l (fun x => { x with relief := Tab.del r.lane x.relief, leaving := Tab.put r.lane (s.ft + 128) x.leaving }) with
        light.wrong := s.light.wrong.erase r, light.suspects := s.light.suspects.erase (l, r.lane)
        light.swept := s.light.swept.erase r }) ∧
    (s.light.swept.contains r = true → exec (.ringRelock r false) s = .next
      (maintenance [l] [.relock r] { s with light.swept := s.light.swept.erase r }))) ∧
  (∀ (s : State) (item : Nat) (value aux : Int),
    (inSlack s = false → exec (.calibrationStep 0 item value aux) s = .next s) ∧
    (inSlack s = true → (calibDue s ≠ [] ∧ item ∉ calibDue s) → exec (.calibrationStep 0 item value aux) s = .next s) ∧
    (inSlack s = true → (calibDue s = [] ∨ item ∈ calibDue s) → calibOk s 0 item value aux = true →
      let u := calibCount 0 item true s
      exec (.calibrationStep 0 item value aux) s =
        .next (laserCalibrated item value aux { u with light.calDue := u.light.calDue.filter (· ≠ item) })) ∧
    ((s.base.windows.any fun w => w.acts.contains (.calib item)) = false →
      exec (.calibrationStep 1 item value aux) s = .next (maintenance [item / 32] [.calib item] s)) ∧
    (∀ w, s.base.windows = [w] → w.started = true → w.acts.contains (.calib item) = true →
      let u : State := { s with base.windows := [{ w with acts := w.acts.erase (.calib item) }] }
      calibOk s 1 item value aux = true → exec (.calibrationStep 1 item value aux) s = .next
        (let v := calibCount 1 item true u
         { v with light.ringValue := Tab.put item value v.light.ringValue
                  light.ringCoef := Tab.put item aux v.light.ringCoef
                  light.ringRejects := Tab.put item 0 v.light.ringRejects })) ∧
    ((s.link (item / 32)).granted.isSome = true → exec (.calibrationStep 2 item value aux) s = .next s) ∧
    ((s.link (item / 32)).granted = none →
      (calibOk s 2 item value aux = true → exec (.calibrationStep 2 item value aux) s =
        .next { calibCount 2 item true s with light.rxOffset := Tab.put item value (calibCount 2 item true s).light.rxOffset }) ∧
      (calibOk s 2 item value aux = false → exec (.calibrationStep 2 item value aux) s = .next (calibCount 2 item false s))) ∧
    ∀ cls, (cls = 3 ∨ cls = 4 → inSlack s = true → exec (.calibrationStep cls item value aux) s = .next (calibCount cls item true s)) ∧
      (cls = 3 ∨ cls = 4 → inSlack s = false → exec (.calibrationStep cls item value aux) s = .next s) ∧
      (5 ≤ cls → exec (.calibrationStep cls item value aux) s = .next s)) ∧
  (∀ (s : State) (value : Int), (value < -4000 ∨ 4000 < value) → ∀ item aux, calibOk s 2 item value aux = false) ∧
  (∀ (s : State) (k periods : Nat), ((s.stack k).powered = false ∨ (s.stack k).clocked = false ∨
    (s.stack k).slotAt = some (s.ft / 16)) → exec (.governorSlot k periods) s = .next s) ∧
  ∀ (s : State) (k periods : Nat), (s.stack k).powered = true → (s.stack k).clocked = true →
    (s.stack k).slotAt ≠ some (s.ft / 16) →
    let demand := (s.stack k).acts.foldl (fun a x => a + x.2 * Config.energy k x.1) (periods * Config.energy k 10)
    ∃ t, exec (.governorSlot k periods) s = .next t ∧
      t = ({ s with freeCtr := t.freeCtr } : State).updStack k (fun _ => t.stack k) ∧
      (t.stack k).slotAt = some (s.ft / 16) ∧ (t.stack k).acts = [] ∧
      (∀ r, r < 8 → (Tab.getD {} r (t.stack k).reaches).enable =
        if meshesStop s = false ∧ stackWork s k = true then min 8 ((Tab.getD {} r (s.stack k).reaches).enable + 1) else 0) ∧
      (t.stack k).estimate = (if (s.stack k).estimate + 384 < demand then (s.stack k).estimate + 384
        else if demand + 384 < (s.stack k).estimate then (s.stack k).estimate - 384 else demand) ∧
      (demand + 384 < (s.stack k).estimate →
        (t.stack k).ballastEnergy = (s.stack k).ballastEnergy + ((s.stack k).estimate - 384 - demand))

/-- A READ_REQ that stands at its memory berth, not yet answered, to an address that no buffer holds gets zeros and logs
EV_MEM_ADDRESS; one of this module to a local page gets the newest bytes, and its data enter the berth's links; one to
a page of a remote buffer goes to its module; one of another module gets the committed bytes, or, of a poisoned line,
none, over the torus. One that has not arrived, or is answered, is left. Before it is answered, an error that a second
read does not repeat is counted, one that repeats is handled for its place, and so is every wrong byte that it meets.
While the memory is awake, a bank's refresh notes its instant, and counts as one that the package asked for where a
free value says so (log entry 73); a tracking step in the refresh gaps of a round, one for each sub-channel, is
counted as a calibration step of class 5, and a good one's values are kept; a patrol read of an address of its own
berth is counted, and handles what it finds. In self-refresh or in standby these three change nothing. (R367, R383,
R498, R513, R519, R520, R521, R526, R552.) -/
def Obligations.MemoryReadsRefreshAndPatrol : Prop :=
  (∀ (s : State) (id : Nat) (p : ParitySeen), Tab.find? id s.mem.reads = none → exec (.memReadReq id p) s = .next s) ∧
  (∀ (s : State) (id : Nat) (r : ReadReq) (p : ParitySeen), Tab.find? id s.mem.reads = some r →
    let k := memBerthOf r.addr
    let reply := fun (d : Bytes) (bad : List Nat) (poisoned : Bool) (u : State) =>
      let t := readPacket id 2 (16 + k) (r.core / 128) (r.core % 128) r.addr d 0
      enterBerth (16 + k) none [{ t with pkt := { t.pkt with bad := bad } }]
        { u with mem.reads := Tab.put id { r with data := some d, poisoned := poisoned } u.mem.reads }
    let seen : State := match p with
      | .clean => s
      | .retried => s.updMemBerth k fun b => { b with retries := satInc b.retries }
      | .persistent loc => parityFault loc s
    let read := fun sees : Held → Option Nat => (wrongIn seen sees r.addr r.len).foldl (fun s st => byteError st s) seen
    ((r.data ≠ none ∨ r.tries ≠ 0 ∨ r.here = false) → exec (.memReadReq id p) s = .next s) ∧
    (r.data = none → r.tries = 0 → r.here = true →
      ((∀ src tag, r.dest ≠ .torus src tag) →
        (addressBad s r.addr = true → exec (.memReadReq id p) s = .next
          (logEvent Ev.memAddress (leBytes 1 r.berth ++ leBytes 8 r.addr) (reply (List.replicate r.len 0) [] false s))) ∧
        (addressBad s r.addr = false → (∀ b, bufAtPage s (pageOf r.addr) = some b → b.remote = none) →
          let u := read (seesNewest s)
          exec (.memReadReq id p) s = .next (reply (newestRead u r.addr r.len) (badOffsets u (seesNewest u) r.addr r.len)
            ((linesOf r.addr r.len).any (newestPoison u)) u))) ∧
      (∀ b f, addressBad s r.addr = false → bufAtPage s (pageOf r.addr) = some b → b.remote = some f → r.len ≤ 224 →
        let first : ReadReq := { r with sentAt := s.ft, tries := 1 }
        exec (.memReadReq id p) s = .next (sendRead id first b f { s with mem.reads := Tab.put id first s.mem.reads })) ∧
      ∀ src tag, r.dest = .torus src tag → addressBad s r.addr = false →
        (∀ b, bufAtPage s (pageOf r.addr) = some b → b.remote = none) →
        let u := read seesCommitted
        let v : State := { u with mem.reads := Tab.del id u.mem.reads }
        (rangePoisoned u r.addr r.len = false → exec (.memReadReq id p) s =
          .next (answerTorusRead r src tag (committedRead u r.addr r.len) (badOffsets u seesCommitted r.addr r.len) v)) ∧
        (rangePoisoned u r.addr r.len = true → exec (.memReadReq id p) s = .next (answerTorusRead r src tag [] [] v)))) ∧
  (∀ (s : State) (k sub bank : Nat), (s.memBerth k).selfRefresh = false → s.power.pstate ≠ 4 →
    exec (.dramRefresh k sub bank) s = .next ((drawBelow 2 s).2.updMemBerth k fun b =>
      { b with refreshed := Tab.put (sub * 16 + bank) s.ft b.refreshed
               rfm := if (drawBelow 2 s).1 = 1 then satInc b.rfm else b.rfm })) ∧
  (∀ (s : State) (k sub : Nat) (ok : Bool), (s.memBerth k).selfRefresh = false → s.power.pstate ≠ 4 →
    ((inSlack s = false ∨ Tab.find? sub (s.memBerth k).trackedIn = some (s.ft / 131072)) → exec (.trackingStep k sub ok) s = .next s) ∧
    (inSlack s = true → Tab.find? sub (s.memBerth k).trackedIn ≠ some (s.ft / 131072) →
      exec (.trackingStep k sub ok) s = .next (calibCount 5 (48 * k + sub) ok
        ({ s with freeCtr := s.freeCtr + 1 }.updMemBerth k fun b =>
          { b with tracked := b.tracked + 1, trackedIn := Tab.put sub (s.ft / 131072) b.trackedIn
                   values := if ok then Tab.put sub (Config.trained s.freeCtr (48 * k + sub)) b.values else b.values })))) ∧
  (∀ (s : State) (k addr : Nat) (p : ParitySeen), (s.memBerth k).selfRefresh = false → s.power.pstate ≠ 4 →
    (storeBerth addr ≠ k → exec (.patrolRead k addr p) s = .next s) ∧
    (storeBerth addr = k →
      let u := s.updMemBerth k fun b => { b with patrolled := b.patrolled + 1 }
      let v : State := match p with
        | .clean => u
        | .retried => u.updMemBerth k fun b => { b with retries := satInc b.retries }
        | .persistent loc => parityFault loc u
      ((∀ a ∈ v.mem.wrong, a / 32 ≠ addr / 32) → exec (.patrolRead k addr p) s = .next v) ∧
      exec (.patrolRead k addr p) s =
        .next ((lineHeads (v.mem.wrong.filter fun a => a / 32 == addr / 32)).foldl (fun s a => byteError a s) v))) ∧
  ∀ (s : State) (k sub bank addr : Nat) (ok : Bool) (p : ParitySeen), ((s.memBerth k).selfRefresh = true ∨ s.power.pstate = 4) →
    exec (.dramRefresh k sub bank) s = .next s ∧ exec (.trackingStep k sub ok) s = .next s ∧
    exec (.patrolRead k addr p) s = .next s

/-- A packet that stands in the basin of a fibre link that is up leaves it, its units going back to the far sender; with
another port that is up as its next hop code it goes there across the base with its hop counted, and where that port
is down it is dropped and counted; one at its destination whose code is Local is delivered; any other is a route
error. A packet that does not stand there changes nothing. A fibre link sends its own identity as it trains; one whose
far identity is right comes UP, and one whose is not stays in TRAIN with EV_TORUS_MISCABLE. A memory berth
acknowledges the writes it holds; an acknowledgement raises its count; at C + 2,240 ticks a write of the closing pound
not acknowledged is a detected fault; a read unanswered for 2^12 ticks goes again three times, and then its task ends
with ST_TORUS_UNREACHABLE. (R532, R533, R538, R540, R543, R541, R550, R551, R553, R572.) -/
def Obligations.TorusPacketsAndAcks : Prop :=
  (∀ (s : State) (port link : Nat) (p : TorusPacket),
    (linkUp s (fibreRx port (link % 8)) = false ∨ fibreHolds s (fibreRx port (link % 8)) p = false) →
      exec (.fibrePacketReceive port link p) s = .next s) ∧
  (∀ (s : State) (port link : Nat) (p : TorusPacket), linkUp s (fibreRx port (link % 8)) = true →
    fibreHolds s (fibreRx port (link % 8)) p = true →
    let u := fibreTake (fibreRx port (link % 8)) p (countPort port p.base.vc 3 1 (countPort port p.base.vc 1 (fibreFlits p) s))
    let h := hopCode p.route p.hop
    (h < 6 → h ≠ port → portUp u h = true → exec (.fibrePacketReceive port link p) s =
      .next (torusHop .none (24 + port) (24 + h) 0 { p with hop := p.hop + 1, cls := classFor u port h p.cls }
        (countPort port p.base.vc 4 1 u))) ∧
    (h < 6 → h ≠ port → portUp u h = false → exec (.fibrePacketReceive port link p) s = .next (countPort h p.base.vc 8 1 u)) ∧
    (h = 6 → coordOf p.dest = coordOf s.torus.coord → exec (.fibrePacketReceive port link p) s = .next (deliverPacket port p u)) ∧
    ((h = 7 ∨ h = port ∨ (h = 6 ∧ coordOf p.dest ≠ coordOf s.torus.coord)) → port < 6 →
      exec (.fibrePacketReceive port link p) s = .next (logEvent Ev.routeError (leBytes 1 port ++ leBytes 3 p.src ++ leBytes 3 p.dest)
        (countPort port p.base.vc 9 1 u)))) ∧
  (∀ (s : State) (port link partition coord dir : Nat), dimOf s (port / 2) ≠ 1 → (∃ j < 17, laneLit s (4 + port) j = true) →
    (s.group (4 + port)).down = false → linkUp s (fibreRx port (link % 8)) = false → s.base.reset = none →
    let pair := [fibreTx port (link % 8), fibreRx port (link % 8)]
    let far := torusSend (.train (fibreTx port (link % 8)) s.torus.partition s.torus.coord port) (s.updTport port fun t =>
      { t with far := Tab.put (link % 8) (partition, coord, dir) t.far, farPort := dir, farCoord := coordOf coord })
    (farOk s port partition coord dir = true →
      exec (.torusLinkTrain port link partition coord dir) s = .next (setLinks pair 2 far)) ∧
    (farOk s port partition coord dir = false → exec (.torusLinkTrain port link partition coord dir) s =
      .next (logEvent Ev.torusMiscable (leBytes 1 port ++ leBytes 2 partition ++ leBytes 3 coord ++ leBytes 1 dir)
        (setLinks pair 1 far)))) ∧
  (∀ (s : State) (k sender n : Nat),
    let count := (s.torus.held.filter fun w => heldOf sender n w && memBerthOf w.addr == k).length
    exec (.torusWriteAck k sender n) s = .next (if count = 0 then s else
      sendTorusPacket (nativeOf s.torus.coord (16 + k) 0) (nativeOf sender (16 + k) 0) n 0 (attemptOf s n)
        { stamp := 0, addr := 0, kind := 6, vc := 2, destBerth := 16 + k, destUnit := 0, srcBerth := 16 + k, srcUnit := 0
          len := 8, tag := 0, payload := leBytes 8 count } s)) ∧
  (∀ (s : State) (dest n count : Nat), 
    let up := fun x : SentWrites => if x.dest = dest ∧ x.n = n then { x with acked := max x.acked count } else x
    exec (.torusAckReceive dest n count) s = .next { s with torus.sent := s.torus.sent.map up }) ∧
  (∀ (s : State) (c : Closing), s.pound.closing = some c → c.cut + 2240 ≤ s.ft → c.verdict = false → rollsBack s c.serial = false →
    (∀ x, (s.torus.sent.find? fun x => x.n == c.serial && decide (x.acked < x.count)) = some x →
      exec .torusUnackedCheck s = .next (raiseFault Ev.torusUnacked (leBytes 3 x.dest ++ leBytes 8 c.serial) s)) ∧
    ((∀ x ∈ s.torus.sent, x.n = c.serial → x.count ≤ x.acked) → exec .torusUnackedCheck s = .next s)) ∧
  ∀ (s : State) (req : Nat) (r : ReadReq), Tab.find? req s.mem.reads = some r → r.data = none → r.sentAt + 4096 ≤ s.ft →
    (0 < r.tries → r.tries < 4 → ∀ b f, bufAtPage s (pageOf r.addr) = some b → b.remote = some f →
      exec (.remoteReadResend req) s = .next (sendRead req r b f
        { s with mem.reads := Tab.put req { r with sentAt := s.ft, tries := r.tries + 1 } s.mem.reads })) ∧
    (4 ≤ r.tries → ∀ m token, (r.dest = .xfer m token ∨ r.dest = .op m token) → exec (.remoteReadResend req) s =
      .next (endGang m.slot m.task St.torusUnreachable { s with mem.reads := Tab.del req s.mem.reads }))

/-- A locked module out of step that knows the master sends a JOIN notice; the master takes a joiner's notice,
acknowledges it and names a cut, unless one it has named is still to come; a notice that has not arrived is not taken.
A module that has had a TIMING frame, and none for 2^20 ticks, leaves once; after 2^17 it has lost its master, and an
eligible one with no UP port takes the role (with one, whether it is the lowest still connected is a free value, log
entry 186). A notice of identity unseen on a port that is up is passed on and acted upon by its kind, one seen is not.
A notice unacknowledged for 2^12 ticks goes again, up to 8 times, and then goes no more. The time-master places a
flight of 1 to 16 windows, while fewer than 64 are held; another module places none. A buffer that another module
names is marked busy where it exists, is local and large enough, and released on request. (R427, R547, R559, R561,
R562, R564, R565, R566, R569.) -/
def Obligations.JoiningLeavingAndNotices : Prop :=
  (∀ s : State, s.torus.partition ≠ 0 → inStepNow s = false → s.torus.joining = false → s.time.mode = 2 → s.power.pstate < 3 →
    s.pound.replay = false → s.pound.recovery = none → s.pound.opened = true → stranded s = false → s.time.master = false →
    (s.time.masterCoord.isSome = true →
      exec .joinSend s = .next (sendNotice (.join s.pound.committed) { s with torus.joining := true, torus.left := false })) ∧
    (s.time.masterCoord = none → exec .joinSend s = .next { s with torus.joining := false, torus.left := false })) ∧
  (∀ (s : State) (coord serial : Nat),
    ((∀ c ∈ s.torus.control, coordOf c.src ≠ coordOf coord) → exec (.joinReceive coord serial) s = .next s) ∧
    ∀ c, (s.torus.control.find? fun c => coordOf c.src == coordOf coord) = some c →
      let u := sendControl 6 c.no coord { s with torus.control := s.torus.control.erase c }
      (u.time.master = false → exec (.joinReceive coord serial) s = .next u) ∧
      (u.time.master = true → u.torus.partition ≠ 0 → exec (.joinReceive coord serial) s =
        .next (nameMasterCut u.ft .named { u with torus.joiners := u.torus.joiners ++ [(coordOf coord, serial)] }))) ∧
  (∀ (s : State) (at' : Nat), s.torus.partition ≠ 0 → s.torus.left = false → s.time.master = false → s.time.lastTiming = some at' →
    (at' + 1048576 ≤ s.ft → exec .partitionLeave s = .next (logEvent Ev.partitionLeave []
      { s with torus.left := true, torus.inStep := false, torus.behindAt := none, torus.joining := false })) ∧
    (s.ft < at' + 1048576 → exec .partitionLeave s = .next s)) ∧
  (∀ s : State, (s.torus.partition = 0 ∨ s.torus.left = true ∨ s.time.master = true ∨ s.time.lastTiming = none) →
    exec .partitionLeave s = .next s) ∧
  (∀ (s : State) (port id : Nat) (n : Notice) (c : ControlIn), (s.torus.control.find? fun c => c.port == port) = some c →
    let v : State := { s with torus.control := s.torus.control.erase c }
    ((s.torus.partition = 0 ∨ id ∈ s.torus.seen) → exec (.partitionNoticeReceive port id n) s = .next v) ∧
    (s.torus.partition ≠ 0 → id ∉ s.torus.seen →
      let u := floodNotice (some port) id n v
      (∀ c, n = .master c → exec (.partitionNoticeReceive port id n) s = .next (takeMaster c u)) ∧
      (∀ c sr, n = .cut c sr → exec (.partitionNoticeReceive port id n) s = .next (namedCut c sr u)) ∧
      (∀ f ws, n = .flight f ws → exec (.partitionNoticeReceive port id n) s = .next (takeFlight f ws u)) ∧
      ∀ c d up, n = .linkState c d up → exec (.partitionNoticeReceive port id n) s = .next (takeLinkState c d up u))) ∧
  (∀ (s : State) (port id : Nat) (n : Notice), (∀ c ∈ s.torus.control, c.port ≠ port) →
    exec (.partitionNoticeReceive port id n) s = .next s) ∧
  (∀ (s : State) (id : Nat) (x : NoticeOut), Tab.find? id s.torus.notices = some x →
    exec (.noticeResend id) s = .next (if s.ft < x.sentAt + 4096 then s
      else if 9 ≤ x.tries then { s with torus.notices := Tab.del id s.torus.notices }
      else routeNotice id x.what { s with torus.notices := Tab.put id { x with sentAt := s.ft, tries := x.tries + 1 } s.torus.notices })) ∧
  (∀ (s : State) (coord id : Nat) (ws : List (List FlightAct)), s.time.master = true → Tab.has id s.torus.flights = false →
    s.torus.flights.length < 64 → 1 ≤ ws.length → ws.length ≤ 16 →
    exec (.flightRequest coord id ws) s = .next (placeFlight id ws s)) ∧
  (∀ (s : State) (coord id : Nat) (ws : List (List FlightAct)), (s.time.master = false ∨ ws.length = 0 ∨ 16 < ws.length ∨
    64 ≤ s.torus.flights.length) → exec (.flightRequest coord id ws) s = .next s) ∧
  (∀ s : State, s.torus.partition ≠ 0 → s.time.master = false → s.time.lastTiming.getD 0 + 131072 ≤ s.ft →
    ∃ t, exec .masterLoss s = .next t ∧
      (s.torus.eligible = false → t.time.master = false ∧ t.time.masterCoord = none) ∧
      (s.torus.eligible = true → (∀ d, d < 6 → portUp s d = false) → t.time.master = true ∧ t.time.masterCoord = some s.torus.coord)) ∧
  (∀ s : State, (s.torus.partition = 0 ∨ s.time.master = true ∨ s.ft < s.time.lastTiming.getD 0 + 131072) →
    exec .masterLoss s = .next s) ∧
  ∀ (s : State) (coord h : Nat) (b : Buffer), bufOf s h = some b →
    (∀ size, b.remote = none → size ≤ b.size → exec (.remoteBufferRequest coord (.confirm h size)) s = .next
      (torusSend (.answer coord true (bufBase b))
        { s with mem.buffers := Tab.put (h % 2 ^ 18) { b with marks := b.marks + 1 } s.mem.buffers })) ∧
    (∀ size, b.size < size → exec (.remoteBufferRequest coord (.confirm h size)) s =
      .next (torusSend (.answer coord false 0) s)) ∧
    exec (.remoteBufferRequest coord (.release h)) s =
      .next { s with mem.buffers := Tab.put (h % 2 ^ 18) { b with marks := b.marks - 1 } s.mem.buffers }

/-- With RESET_N high a new round notes its number and start, takes the samples, and counts for each berth the rounds
running that it has not answered; once 49,152 ticks have passed it evaluates them, every sensor that was broken
staying so; at 65,536 it acts, and after that the throttled regions are exactly those whose reading stands at or above
the throttle threshold. A trip that is wanted asserts THERMTRIP_N, powers every stack off and closes the pound without
a commit; a stranded module only asserts the pin and opens the stack switches. Once the trip log is written PS4 is in
force with thermal shutdown set. Before their instants, twice in a round, or with no trip wanted, these change
nothing. (R443, R696, R700, R702, R703, R707, R749.) -/
def Obligations.HousekeepingAndTrips : Prop :=
  (∀ (s : State) (round : HouseRound), s.pins.resetN = true → (s.power.phase = 0 ∨ s.ft / 131072 ≠ s.power.round) →
    ∃ t, exec (.housekeepingRound round) s = .next t ∧ t.power.round = s.ft / 131072 ∧ t.power.phase = 1 ∧
      t.power.roundAt = s.ft / 131072 * 131072 ∧
      (∀ b, b ∈ round.silent → Tab.getD 0 b t.base.silent = Tab.getD 0 b s.base.silent + 1) ∧
      (∀ b, b ∉ round.silent → Tab.getD 0 b t.base.silent = 0) ∧ t.log = s.log ∧ t.pound = s.pound) ∧
  (∀ (s : State) (round : HouseRound), (s.pins.resetN = false ∨ (s.power.phase ≠ 0 ∧ s.ft / 131072 = s.power.round)) →
    exec (.housekeepingRound round) s = .next s) ∧
  (∀ (s : State) (tones : List (RingRef × Nat)),
    (firmwareRuns s = false ∨ s.power.phase ≠ 1 ∨ s.ft < s.power.roundAt + 49152 → exec (.hkEvaluation tones) s = .next s) ∧
    (firmwareRuns s = false ∨ s.power.phase ≠ 2 ∨ s.ft < s.power.roundAt + 65536 → exec .hkActionInstant s = .next s) ∧
    ((mayTrip s = false ∨ s.pins.resetN = false ∨ (s.power.tripWanted = none ∧ hardwareTrip s = none)) →
      exec .thermalTrip s = .next s) ∧
    (s.power.tripAt = none → exec .tripLogWritten s = .next s)) ∧
  (∀ (s : State) (tones : List (RingRef × Nat)), firmwareRuns s = true → s.power.phase = 1 → s.power.roundAt + 49152 ≤ s.ft →
    ∃ t, exec (.hkEvaluation tones) s = .next t ∧ t.power.phase = 2 ∧ ∀ c, isBroken s c = true → isBroken t c = true) ∧
  (∀ s : State, firmwareRuns s = true → s.power.phase = 2 → s.power.roundAt + 65536 ≤ s.ft → s.power.throttled.Nodup →
    ∃ t, exec .hkActionInstant s = .next t ∧ t.power.phase = 3 ∧ t.power.found = [] ∧
      (∀ r, r < 29 → (r ∈ t.power.throttled ↔ throttleAt r ≤ regionReading s r)) ∧
      (t.power.throttled ≠ [] → t.pins.alertN = false)) ∧
  (∀ (s : State) (r cause : Nat), mayTrip s = true → s.pins.resetN = true → s.power.tripWanted = some (r, cause) →
    (stranded s = false → ∃ t, exec .thermalTrip s = .next t ∧ t.pins.thermtripN = false ∧ t.pound.opened = false ∧
      t.power.tripAt = some s.ft ∧ ∀ k, (t.stack k).powered = false) ∧
    (stranded s = true → exec .thermalTrip s = .next (stacksOff { s with pins.thermtripN := false }))) ∧
  ∀ (s : State) (at' : Nat) (t : Transition), s.power.tripAt = some at' → s.power.transition = some t →
    ∃ u, exec .tripLogWritten s = .next u ∧ u.power.pstate = 4 ∧ u.power.shutdown = true ∧ u.power.tripAt = none ∧
      u.power.transition = none

/-- A miscompare of the pair in lockstep begins the self-test that ends at D, and so does a lockkeeper's own fault; a
mechanism of no such kind does nothing. At D both failing strands the module, one failing retires it and gives the
other the helm, and with both passing a failed comparator retires B; two passes too close together apart, else the
roles stay. A forced mismatch that trips clears the run of misses, a first miss is counted, a second in a row is a
miscompare; a clean scrub pass is noted, one that differs or finds bad parity is a fault. The checker leaves for its
self-test after a commit, and rejoins where it passes or is retired. A watchdog that expires is a fault after EV_READY
and a reset before. A retired lockkeeper that fails a test starts its passes anew. Lockkeeper A takes the helm at the
first commit after its rejoin. A stranding asserts FAULT_N. (R738, R739, R740, R741, R742, R743, R744, R747, R748,
R749.) -/
def Obligations.LockkeeperPair : Prop :=
  (∀ (s : State) (mech out : Nat) (lk : Option LkId), pairRuns s = true → lockstep s = true → s.lk.test = none → mech ≤ 2 →
    ∃ t, exec (.miscompare mech lk out) s = .next t ∧ t = beginTest none mech (if mech = 0 then out else 0) s ∧
      t.lk.test = some { start := s.ft } ∧ t.lk.miscompares = satInc s.lk.miscompares) ∧
  (∀ (s : State) (mech out : Nat) (w : LkId), pairRuns s = true → lockstep s = true → s.lk.test = none → s.pound.recovery = none →
    (mech = 3 ∨ mech = 4 → exec (.miscompare mech (some w) out) s = .next (beginTest (some w) mech 0 s) ∧
      exec (.miscompare mech none out) s = .next s) ∧
    (4 < mech → ∀ lk, exec (.miscompare mech lk out) s = .next s)) ∧
  (∀ (s : State) (d : LkTest) (a b c : Bool), s.lk.test = some d → s.ft < d.start + 25000 →
    exec (.lkDecision a b c) s = .next s) ∧
  (∀ (s : State) (d : LkTest) (a b c : Bool), s.lk.test = some d → pairRuns s = true → d.start + 25000 ≤ s.ft →
    let pa := a && !s.lk.a.faulty
    let pb := b && !s.lk.b.faulty
    ∃ t, exec (.lkDecision a b c) s = .next t ∧ t.lk.test = none ∧
      (pa = false → pb = false → t.lk.stranded = some 2) ∧
      (pa = true → pb = false → t.lk.a.role = .helm ∧ t.lk.b.role = .retired ∧ t.lk.stranded = none) ∧
      (pa = false → pb = true → t.lk.b.role = .helm ∧ t.lk.a.role = .retired ∧ t.lk.stranded = none) ∧
      (pa = true → pb = true → c = false → t.lk.a.role = .helm ∧ t.lk.b.role = .retired) ∧
      (pa = true → pb = true → c = true → (∀ x, s.lk.bothPassAt = some x → x + 2 ^ 24 < s.ft) →
        t.lk.a.role = s.lk.a.role ∧ t.lk.b.role = s.lk.b.role ∧ t.lk.stranded = none)) ∧
  (∀ s : State, comparing s = true →
    (s.lk.injectAt + 12500000 ≤ s.ft →
      exec (.checkerInjection true) s = .next { s with lk.injectAt := s.ft, lk.injectOk := true, lk.missRun := 0 } ∧
      (s.lk.missRun = 0 → exec (.checkerInjection false) s = .next { s with
        lk.injectAt := s.ft, lk.injectOk := false, lk.missed := satInc s.lk.missed, lk.missRun := 1 }) ∧
      (s.lk.missRun = 1 → exec (.checkerInjection false) s = .next (beginTest none 2 0 { s with
        lk.injectAt := s.ft, lk.injectOk := false, lk.missed := satInc s.lk.missed, lk.missRun := 0 }))) ∧
    (s.ft < s.lk.injectAt + 12500000 → ∀ x, exec (.checkerInjection x) s = .next s) ∧
    (s.ft < s.lk.scrubAt + 16777216 → ∀ x, exec (.scrubPass x) s = .next s) ∧
    ((afterCommit s = false ∨ s.ft < s.lk.testAt + 1250000000) → exec .checkerSelfTest s = .next s) ∧
    (s.lk.scrubAt + 16777216 ≤ s.ft →
      exec (.scrubPass .same) s = .next { s with lk.scrubAt := s.ft } ∧
      (∀ w, exec (.scrubPass (.parity w)) s = .next (lkFault (some w) 4 0 { s with lk.scrubAt := s.ft })) ∧
      exec (.scrubPass .differs) s = .next (beginTest none 1 0 { s with lk.scrubAt := s.ft })) ∧
    (afterCommit s = true → s.lk.testAt + 1250000000 ≤ s.ft → ∃ t, exec .checkerSelfTest s = .next t ∧
      t.lk.pause.isSome = true ∧ (s.lk.a.role = .checker → t.lk.a.role = .selfTest) ∧
      (s.lk.b.role = .checker → t.lk.b.role = .selfTest)) ∧
    ∀ r, s.lk.rejoinedA = some r → r < s.pound.lastK → s.pound.lastK + 1 ≤ s.ft → betweenVerdict s = false →
      exec .rejoinHelm s = .next (takeHelm .a { s with lk.rejoinedA := none })) ∧
  (∀ (s : State) (pass : Bool), pairRuns s = true → s.lk.pause.isSome = true → s.lk.a.role = .selfTest → s.lk.a.faulty = false →
    ∃ t, exec (.checkerSelfTestDone pass) s = .next t ∧ t.lk.pause = none ∧
      t.lk.a.role = if pass then .checker else .retired) ∧
  (∀ (s : State) (w : LkId), pairRuns s = true → (s.lkOf w).watchdogAt + 16384 ≤ s.ft → (s.lkOf w).role ≠ .retired →
    let u := s.updLk w fun x => { x with watchdogs := satInc x.watchdogs, watchdogAt := s.ft }
    (ready s = true ∨ s.boot.fromPs4 = true ∨ s.boot.halted = true → exec (.watchdogExpiry w) s = .next (lkFault (some w) 3 0 u)) ∧
    (ready s = false → s.boot.fromPs4 = false → s.boot.halted = false → exec (.watchdogExpiry w) s = .next (selfReset 5 u))) ∧
  (∀ (s : State) (w : LkId) (c : Bool), pairRuns s = true → retiredOf s = some w → s.lk.retiredAt + 1250000000 ≤ s.ft →
    (∃ t, exec (.retiredSelfTest false c) s = .next t ∧ (t.lkOf w).passRun = 0 ∧ (t.lkOf w).role = .retired) ∧
    ((s.lkOf w).passRun = 15 → s.lk.cmpRun = 15 → ∃ t, exec (.retiredSelfTest true true) s = .next t ∧ (t.lkOf w).role = .checker)) ∧
  (∀ s : State, s.lk.strandedDue = false → exec .moduleStrand s = .next s) ∧
  ∀ s : State, s.lk.strandedDue = true →
    ∃ t, exec .moduleStrand s = .next t ∧ t.pins.faultN = false ∧ t.lk.strandedDue = false

/-- A first disagreement of a control triple of a core is marked and logged, one of a triple already marked fences the
core; for its base joint all cores of a stack. A lane test, of the lanes of the bytes that erred, with no failing lane
counts against the word, and each lane that fails is spared or fences the core. In its window the spare is named and
the lane's group used again. A base group found failed takes a spare or loses its port; in its window the spare
replaces it, or fails too. A router whose output starves of credit, or with a second parity error in a round, is
faulty and its core fenced; a second parity error in a core's engine or sequencer state within 2^24 ticks fences the
core (that this row reports it is log entry 187). Once releases have stopped and the mesh has drained the stack gets
the waypoints of every pair, and cores without a route are fenced. (R717, R720, R721, R723, R724, R725, R726, R729,
R730, R731, R733.) -/
def Obligations.SparesFencesAndRouters : Prop :=
  (∀ (s : State) (c triple bump : Nat), scratchLive s c = true → triple < 272 → bump < 3 →
    ((s.core c).voted.contains triple = false → exec (.controlVoteFail (.core c) triple bump) s =
      .next (logEvent Ev.controlVote (leBytes 1 (c / 128) ++ leBytes 1 (c % 128) ++ leBytes 2 triple)
        (s.updCore c fun x => { x with voted := x.voted ++ [triple], votedBump := Tab.put triple bump x.votedBump }))) ∧
    ((s.core c).voted.contains triple = true → ∃ t, exec (.controlVoteFail (.core c) triple bump) s = .next t ∧
      t = fenceCore c 2 s ∧ (t.core c).fence = 2)) ∧
  (∀ (s : State) (k triple bump : Nat), (s.stack k).powered = true → k < 16 →
    ((s.stack k).voted.contains triple = true →
      exec (.controlVoteFail (.base k) triple bump) s = .next ((stackCores k).foldl (fun s c => fenceCore c 2 s) s)) ∧
    ((s.stack k).voted.contains triple = false → exec (.controlVoteFail (.base k) triple bump) s =
      .next (logEvent Ev.controlVote (leBytes 1 k ++ leBytes 1 (draw s).1 ++ leBytes 2 triple)
        ((draw s).2.updStack k fun x => { x with voted := x.voted ++ [triple] })))) ∧
  (∀ (s : State) (c w : Nat) (bytes : List Nat) (failed : List (Nat × Nat)), scratchLive s c = true →
    Tab.find? w (s.core c).testWords = some bytes →
    let u := (s.updCore c fun x => { x with testWords := Tab.del w x.testWords }).updStack (c / 128) fun x => { x with laneTests := satInc x.laneTests }
    let bad := (bytes.flatMap byteLanes).filter fun x => failed.contains x
    (bad = [] → exec (.laneTestDone c w failed) s = .next (wordFails c w u)) ∧
    (bad ≠ [] → exec (.laneTestDone c w failed) s = .next (bad.foldl (fun s x => laneFails c x.1 x.2 s) u)) ∧
    ∀ v, Tab.find? v (s.core c).testWords = none → exec (.laneTestDone c v failed) s = .next s) ∧
  (∀ (s u : State) (c g b : Nat), takeAct (.laneSpare c g) s = some u → (s.core c).toSpare.find? (fun x => x.1 == g) = some (g, b) →
    let v := u.updCore c fun x =>
      { x with repairs := Tab.put g (Tab.getD [] g x.repairs ++ [b]) x.repairs, toSpare := x.toSpare.erase (g, b) }
    (∀ l, exec (.laneSpareWindow c g (some l)) s = .next (laneFails c g l v)) ∧
    exec (.laneSpareWindow c g none) s =
      .next (spared (c / 128) (c % 128) g b (v.updCore c fun x => { x with heldLane := x.toSpare != [] }))) ∧
  (∀ (s : State) (k g : Nat), k < 16 → g < 16 → (s.stack k).powered = true → (s.stack k).lostPorts.contains (portOfGroup g) = false →
    takeAct (.groupSpare k g) s = none → groupWaits k g s = false → ∀ b, exec (.baseGroupSpare k g b) s = .next (groupFails k g s)) ∧
  (∀ (s u : State) (k g : Nat), k < 16 → g < 16 → (s.stack k).powered = true →
    (s.stack k).lostPorts.contains (portOfGroup g) = false → takeAct (.groupSpare k g) s = some u →
    let v := u.updStack k fun x => { x with spareGroups := x.spareGroups - 1, failedGroups := x.failedGroups ++ [g] }
    exec (.baseGroupSpare k g true) s = .next (groupFails k g v) ∧
    exec (.baseGroupSpare k g false) s = .next (spared k (portOfGroup g) g (draw v).1 (draw v).2)) ∧
  (∀ (s : State) (c : Nat), routerLive s c = true → (s.core c).routerBad = false →
    exec (.routerFault c .creditStall) s = .next (routerFaulty c s) ∧
    ((s.router c).parityAt = some (s.ft / 131072) → exec (.routerFault c .parity) s = .next (routerFaulty c s)) ∧
    ((s.router c).parityAt ≠ some (s.ft / 131072) → exec (.routerFault c .parity) s =
      .next (s.updRouter c fun q => { q with parityAt := some (s.ft / 131072) }))) ∧
  (∀ (s : State) (c : Nat), scratchLive s c = true →
    (∀ at', (s.core c).logicAt = some at' → s.ft ≤ at' + 16777216 → exec (.routerFault c .logicParity) s = .next (fenceCore c 6 s)) ∧
    ((∀ at', (s.core c).logicAt = some at' → at' + 16777216 < s.ft) → exec (.routerFault c .logicParity) s =
      .next (s.updCore c fun x => { x with logicAt := some s.ft }))) ∧
  ∀ (s : State) (k : Nat), stoppedForReplay s = true → meshDrained s k = true → (s.stack k).powered = true → k < 16 →
    let u := s.updStack k fun x => { x with routes := routeTable (badRouters s k) (stackCores k) }
    exec (.routeTableWrite k) s = .next
      ((isolatedCores (badRouters s k) (stackCores k) 128 (unfenced u k)).foldl (fun s c => fenceCore c 5 s) u)

/-- Outside VOID a source that is seen for the first time since the last clear answers a next state whose vault is empty,
with the key record forgotten, slot 0 awaiting its reload, JTAG without an authentication, and one more TAMPER bit
blown, up to 32; one seen again only restarts the clear count. In VOID, or for a source past the two, nothing happens.
After 2^27 clear ticks the event may count again and slot 0 is reloaded. (R774, R775, R776, R777.) -/
def Obligations.TamperZeroesTheVault : Prop :=
  (∀ (s : State) (source : Nat), lifeCycle s ≠ 4 → source < 2 →
    (s.sec.counted = false → ∃ t, exec (.tamperDetect source) s = .next t ∧ t.sec.vault = [] ∧ t.sec.keyLoaded = false ∧
      t.sec.seeds = false ∧ t.sec.awaitSlot0 = true ∧ t.sec.jtag.auth = none ∧ t.sec.counted = true ∧ t.sec.clearFor = 0 ∧
      t.sec.fuses = { s.sec.fuses with tamper := min 32 (s.sec.fuses.tamper + 1) }) ∧
    (s.sec.counted = true → exec (.tamperDetect source) s = .next { s with
      sec.asserted := if s.sec.asserted.contains source then s.sec.asserted else s.sec.asserted ++ [source]
      sec.clearFor := 0, pins.tamperN := s.pins.tamperN && source != 0 })) ∧
  (∀ (s : State) (source : Nat), lifeCycle s = 4 ∨ 2 ≤ source → exec (.tamperDetect source) s = .next s) ∧
  ∀ s : State, s.sec.counted = true →
    exec .tamperClear s = .next (if 134217728 ≤ s.sec.clearFor then { s with
      sec.asserted := [], sec.counted := false, sec.awaitSlot0 := false, pins.tamperN := true } else s)

/-- IDCODE selects 0x14C9656B; BYPASS, and EXTEST, CLAMP and HIGHZ while RESET_N is high, select the bypass register;
while it is low EXTEST and CLAMP drive the cells and HIGHZ floats the outputs; SAMPLE/PRELOAD captures and loads the
cells. In VOID the debug instructions select BYPASS. DBG_AUTH captures a nonce (a free value, log entry 2) and, with
the module running, opens the level where the tag matches and logs EV_DEBUG_DENIED where not. DBG_MAIL captures the
reply and takes a message of 0 to 1,024 bytes while none waits and RESET_N is high; otherwise it only captures. A TAP
reset ends JTAG's level and authentication (that it selects IDCODE is the model's, log entry 62). (R781, R782, R783,
R787, R874, R875.) -/
def Obligations.JtagPort : Prop :=
  (∀ s : State, exec .jtagIdcode s = .next (selectIr 0x01 0x14C9656B s) ∧ exec .jtagBypass s = .next (selectIr 0xFF 0 s)) ∧
  (∀ s : State, s.pins.resetN = true → (∀ cells, exec (.jtagExtest cells) s = .next (bypass s)) ∧
    exec .jtagClamp s = .next (bypass s) ∧ exec .jtagHighz s = .next (bypass s)) ∧
  (∀ (s : State) (cells : Nat), let cap := captureCells s
    exec (.jtagSamplePreload cells) s = .next { selectIr 0x02 cap.1 cap.2 with sec.jtag.cells := cells % 2 ^ 25 } ∧
    (s.pins.resetN = false → exec (.jtagExtest cells) s =
      .next (driveCells cells { selectIr 0x00 cap.1 cap.2 with sec.jtag.cells := cells % 2 ^ 25 }))) ∧
  (∀ s : State, s.pins.resetN = false →
    exec .jtagClamp s = .next { driveCells s.sec.jtag.cells (selectIr 0x03 0 s) with sec.jtag.clamp := true } ∧
    exec .jtagHighz s = .next { selectIr 0x04 0 s with sec.jtag.highz := true }) ∧
  (∀ (s : State) (cells : Nat), (driveCells cells s).pins = { s.pins with
    driven := true, thermtripN := cells.testBit 3, alertN := cells.testBit 5, faultN := cells.testBit 7 }) ∧
  (∀ (s : State) (slot level reserved tag : Nat) (m : Bytes), lifeCycle s = 4 →
    exec (.dbgAuth slot level reserved tag) s = .next (bypass s) ∧ exec (.dbgMail m) s = .next (bypass s)) ∧
  (∀ (s : State) (slot level reserved tag : Nat), lifeCycle s ≠ 4 →
    let n := Config.free s.freeCtr % 2 ^ 256
    let u : State := { selectIr 0x10 n { s with freeCtr := s.freeCtr + 1 } with sec.jtag.nonce := n }
    ((s.pins.resetN = false ∨ s.boot.phase = 0) → exec (.dbgAuth slot level reserved tag) s = .next u) ∧
    (s.pins.resetN = true → s.boot.phase ≠ 0 →
      (dbgMatch u (slot % 256) (level % 256) (reserved % 65536) tag n = true → exec (.dbgAuth slot level reserved tag) s =
        .next (authLevel (level % 256) { u with sec.jtag.auth := some (slotClass (slot % 256)) })) ∧
      (dbgMatch u (slot % 256) (level % 256) (reserved % 65536) tag n = false → exec (.dbgAuth slot level reserved tag) s =
        .next (logEvent Ev.debugDenied (leBytes 1 slot ++ leBytes 1 level) u)))) ∧
  (∀ (s : State) (m : Bytes), lifeCycle s ≠ 4 →
    let u := selectIr 0x11 (leNat (leBytes 4 s.sec.jtag.reply.length ++ s.sec.jtag.reply)) s
    (s.pins.resetN = true → m.length ≤ 1024 → s.sec.jtag.mail = none →
      exec (.dbgMail m) s = .next { u with sec.jtag.mail := some m, sec.jtag.reply := [] }) ∧
    (s.pins.resetN = false ∨ 1024 < m.length ∨ s.sec.jtag.mail ≠ none → exec (.dbgMail m) s = .next u)) ∧
  ∀ s : State, ∃ t, exec .tapReset s = .next t ∧ t.sec.jtag.auth = none ∧ t.sec.jtag.cells = 0 ∧ t.sec.jtag.ir = 0x01 ∧
    t.sec.jtag.clamp = false ∧ t.sec.jtag.highz = false

/-- RESET_N low for 1 us or more resets the module, below 100 ns it does not, and between them it either does or does not.
After a reset no session, task, stack, pound or memory byte stands, and the fuses are those of before. A trial not
confirmed by 600 s resets with cause 4, unless the module is stranded. Power loss leaves the fuses, the flash and the
waiting commands. BOOT_START from phase 0 enters phase 1 with RESET_N high; a region at its trip threshold halts it in
the boot ROM with THERMTRIP_N and FAULT_N low. (R808, R867, R869, R870, R873.) -/
def Obligations.ResetsAndPowerLoss : Prop :=
  (∀ (s : State) (ns : Nat), s.pins.resetN = true →
    (ns < 100 → exec (.resetNAssert ns) s = .next s) ∧
    (1000 ≤ ns → exec (.resetNAssert ns) s = .next (resetModule 1 false s)) ∧
    (100 ≤ ns → ns < 1000 → exec (.resetNAssert ns) s = .next { s with freeCtr := s.freeCtr + 1 } ∨
      exec (.resetNAssert ns) s = .next (resetModule 1 false { s with freeCtr := s.freeCtr + 1 }))) ∧
  (∀ (s : State) (cause : Nat) (low : Bool), let t := resetModule cause low s
    t.net.sessions = [] ∧ t.work = {} ∧ t.stk = {} ∧ t.mem = {} ∧ t.pound = {} ∧ t.boot.phase = 0 ∧ t.pins.resetN = low ∧
    t.boot.resetCause = cause ∧ t.sec.fuses = s.sec.fuses ∧ t.pending = s.pending ∧ t.flash.imageA = s.flash.imageA) ∧
  (∀ s : State, (∃ n, s.boot.trialAt = some n ∧ 75000000000 ≤ n) → slotState s.boot.bootRec s.boot.bootRec.running = .trial →
    exec .trialExpiry s = .next (if stranded s = true ∨ s.pins.resetN = false then s else resetModule 4 true s)) ∧
  (∀ s : State, exec .powerLoss s = .next
    { pending := s.pending, freeCtr := s.freeCtr, flash := (flashCut s).flash, sec := { fuses := s.sec.fuses } }) ∧
  ∀ (s : State) (samples : Tab Int), s.boot.phase = 0 → s.sec.owed = none →
    ∃ t, exec (.bootStart samples) s = .next t ∧ t.boot.phase = 1 ∧ t.pins.resetN = true ∧ t.boot.trialAt = some 0 ∧
      (hotAtBoot { s with power.samples := samples } = true →
        t.boot.romHalt = true ∧ t.pins.thermtripN = false ∧ t.pins.faultN = false) ∧
      (hotAtBoot { s with power.samples := samples } = false → t.boot.romHalt = s.boot.romHalt)

/-- A phase in progress that ends does its work, adds its time and reports a budget passed; a halt holds boot there, a
phase up to 4 gives way to the next, phases 5 and 6 lead to 7 once both have ended, and phase 7 announces EV_READY. A
verified image passes phase 2, and with no image that verifies and no confirmed other slot the module halts in the
boot ROM with FAULT_N low. A completed record write stands in the copy that was not the winner, with the former winner
to be erased next; an erase that completes blanks its copy. (R796, R797, R804, R810, R812, R818.) -/
def Obligations.BootPhasesAndRecords : Prop :=
  (∀ (s : State) (phase ms : Nat) (r : PhaseReport), phaseRuns s phase = true →
    let u := slowReport phase ms (phaseTime phase ms (phaseWork phase r s))
    ((u.boot.romHalt = true ∨ u.boot.halted = true) → exec (.bootPhaseEnd phase ms r) s = .next u) ∧
    (u.boot.romHalt = false → u.boot.halted = false →
      (phase ≤ 4 → exec (.bootPhaseEnd phase ms r) s = .next
        { u with boot.phase := phase + 1, boot.parMs := 0, boot.phase5 := false, boot.phase6 := false }) ∧
      (phase = 5 → u.boot.phase6 = true → exec (.bootPhaseEnd phase ms r) s = .next
        { u with boot.phase5 := true, boot.phase := 7, boot.elapsedMs := u.boot.elapsedMs + u.boot.parMs }) ∧
      (phase = 5 → u.boot.phase6 = false → exec (.bootPhaseEnd phase ms r) s = .next { u with boot.phase5 := true }) ∧
      (phase = 6 → u.boot.phase5 = true → exec (.bootPhaseEnd phase ms r) s = .next
        { u with boot.phase6 := true, boot.phase := 7, boot.elapsedMs := u.boot.elapsedMs + u.boot.parMs }) ∧
      (phase = 6 → u.boot.phase5 = false → exec (.bootPhaseEnd phase ms r) s = .next { u with boot.phase6 := true }) ∧
      (phase = 7 → exec (.bootPhaseEnd phase ms r) s = .next (announceReady u)))) ∧
  (∀ (s : State) (r : PhaseReport), if imageCheck s (slotImage s s.boot.bootRec.running) = 0 then phaseWork 2 r s = takeLimits (trialTimer s)
    else slotState s.boot.bootRec (!s.boot.bootRec.running) ≠ .confirmed →
      (phaseWork 2 r s).boot.romHalt = true ∧ (phaseWork 2 r s).pins.faultN = false) ∧
  (∀ (s : State) (kind : Nat) (d : RecordData) (rest : List FlashOp), s.flash.queue = .write kind d .nothing :: rest →
    kind ≠ 5 → kind ≠ 7 →
    exec .recordWriteDone s = .next { (storeRecord kind d s).2 with flash.queue :=
      (match (storeRecord kind d s).1 with
        | some c => [FlashOp.erase kind c]
        | none => []) ++ rest } ∧
    (storeRecord kind d s).1 = winner (s.record kind) ∧
    ((storeRecord kind d s).2.record kind).data = some d ∧
    copyState ((storeRecord kind d s).2.record kind) (writeCopy (s.record kind)) = .valid (writeSeq (s.record kind)) ∧
    winner (s.record kind) ≠ some (writeCopy (s.record kind))) ∧
  ∀ (s : State) (kind copy : Nat) (rest : List FlashOp), s.flash.queue = .erase kind copy :: rest →
    exec .recordEraseDone s = .next { eraseCopy kind copy s with flash.queue := rest } ∧
    copyState ((eraseCopy kind copy s).record kind) copy = .blank

/-- On a port that serves, and on no other, a frame outside the table of R579 or whose checksums fail is discarded and
counted; one that finds the buffer full is counted; a PFC frame of the configured priority holds that priority back
for its quanta, or releases it at 0, and one of another priority, or where flow control is off, is discarded and
counted; ARP and neighbor solicitations for the port's address are answered. A PTP message of the configured port and
domain, with the link up and IEEE 1588 enabled, and no other, moves the slave clock on: two-step Sync, Follow_Up,
Delay_Req and Delay_Resp, and silence forgets the master. A change of link state is logged. (R309, R579, R580, R582,
R625.) -/
def Obligations.EthernetPorts : Prop :=
  (∀ (s : State) (p : PortId), portServes s p = true →
    (∀ fr, exec (.ethFrameInvalid p fr) s = .next (if frameGood s p fr then s
      else s.updEth (portNum p) fun x => { x with discards := satInc x.discards })) ∧
    (∀ n, bufferFull s p n = true → exec (.ethRxBufferFull p n) s =
      .next (pauseCheck p (s.updEth (portNum p) fun x => { x with fullDrops := satInc x.fullDrops }))) ∧
    (∀ quanta, pfcOn s p = true →
      let u := s.updEth (portNum p) fun x => { x with pauseRecv := satInc x.pauseRecv }
      exec (.pfcPauseReceived p (pfcPriority s p) quanta) s = .next (if quanta = 0 then unpause (portNum p) u
        else u.updEth (portNum p) fun x =>
          { x with pausedPrio := some (pfcPriority s p), pauseUntil := s.ft + pauseTicks s p quanta })) ∧
    (∀ prio quanta, (pfcOn s p = false ∨ prio ≠ pfcPriority s p) → exec (.pfcPauseReceived p prio quanta) s =
      .next (s.updEth (portNum p) fun x => { x with discards := satInc x.discards })) ∧
    (∀ n, bufferFull s p n = false → exec (.ethRxBufferFull p n) s = .next s) ∧
    (∀ mac ip target, (target = 0 ∨ target ≠ leNat (portItem s p 4)) → exec (.arpRequest p mac ip target) s = .next s) ∧
    (∀ mac ip target, (target = 0 ∨ target ≠ leNat (portItem s p 5)) → exec (.neighborSolicitation p mac ip target) s = .next s) ∧
    (∀ mac ip target, target ≠ 0 →
      (target = leNat (portItem s p 4) → exec (.arpRequest p mac ip target) s =
        .next { s with net.portOut := s.net.portOut ++ [.arpReply p mac ip target] }) ∧
      (target = leNat (portItem s p 5) → exec (.neighborSolicitation p mac ip target) s =
        .next { s with net.portOut := s.net.portOut ++ [.neighborAdvert p mac ip target] }))) ∧
  (∀ (s : State) (p : PortId) (c : Instr) (fr : Bytes) (n prio quanta mac ip target : Nat), portServes s p = false →
    c ∈ [Instr.ethFrameInvalid p fr, .ethRxBufferFull p n, .pfcPauseReceived p prio quanta, .arpRequest p mac ip target,
      .neighborSolicitation p mac ip target] → exec c s = .next s) ∧
  (∀ (s : State) (p : PortId) (domain : Nat) (kind : PtpKind), ((ptpItem s).testBit 0 = false ∨ ptpPort s ≠ portNum p ∨
    bitsOf (ptpItem s) 15 8 ≠ domain ∨ (s.ethPort (portNum p)).up = false) → exec (.ptpMessage p domain kind) s = .next s) ∧
  (∀ (s : State) (p : PortId) (domain : Nat), (ptpItem s).testBit 0 = true → ptpPort s = portNum p →
    bitsOf (ptpItem s) 15 8 = domain → (s.ethPort (portNum p)).up = true →
    exec (.ptpMessage p domain (.sync true)) s =
      .next { s with time.ptp := { s.time.ptp with syncAt := some s.ft, master := none, reqAt := none } } ∧
    (∀ ns, s.time.ptp.syncAt.isSome = true → exec (.ptpMessage p domain (.followUp ns)) s =
      .next { s with time.ptp := { s.time.ptp with master := some ns } }) ∧
    (s.time.ptp.master.isSome = true → exec (.ptpMessage p domain .delayReqSent) s =
      .next { s with time.ptp := { s.time.ptp with reqAt := some s.ft }, net.portOut := s.net.portOut ++ [.delayReq p] }) ∧
    (∀ ns t1 t2 t3 : Nat, s.time.ptp.syncAt = some t2 → s.time.ptp.master = some t1 → s.time.ptp.reqAt = some t3 →
      let u := reselect { s with time.ptp := { s.time.ptp with inSync := true, reqAt := none } }
      exec (.ptpMessage p domain (.delayResp ns)) s = .next (if u.time.source = 3 + portNum p then
        applyOffset (Int.tdiv (2 * (t1 : Int) - 16 * (t2 : Int) + (2 * (ns : Int) - 16 * (t3 : Int))) 2) u else u)) ∧
    exec (.ptpMessage p domain .silent) s = .next (reselect { s with time.ptp := {} })) ∧
  ∀ (s : State) (p : PortId) (up : Bool), exec (.portLinkChange p up) s =
    .next (if (s.ethPort (portNum p)).up = up then s else
      logEvent Ev.portLink (leBytes 1 (portNum p) ++ leBytes 1 (bit up)) (s.updEth (portNum p) fun x => { x with up := up }))

/-- On a port that does not serve a frame does nothing; on one whose buffer is full it is counted; a stranded module
answers one of an open session with its NOTICE, at most once in 2^17 ticks. Else: a malformed frame of an open session
is counted; one whose tag fails is counted, and logged unless the session's last was logged in this housekeeping
round; an OPEN not repeated and not refused opens the lowest free index (the model's choice, log entry 13) at the
address it came from, one refused is answered with its status, one whose tag fails is dropped, and one repeated gets
its first answer; a MAIL, DATA or CLOSE frame accepted for its session takes its acknowledgement and is then tested
and delivered; an ACK frame takes the acknowledgement alone; a frame of no open session gets a CLOSE, but no second
one to its address within 2^12 ticks. A frame that is not of a command's row changes nothing in it. (R582, R586, R589,
R590, R592, R593, R594, R595, R598, R599, R604, R621.) -/
def Obligations.EcdenFrames : Prop :=
  (∀ (s : State) (f : RxFrame) (c : Instr), c ∈ [Instr.ecdenMalformedFrame f, .ecdenAuthFail f, .ecdenOpen f, .ecdenMailFrame f,
      .ecdenDataFrame f, .ecdenAckFrame f, .ecdenCloseFrame f, .unknownSessionFrame f] →
    (portServes s f.port = false → exec c s = .next s) ∧
    (portServes s f.port = true → bufferFull s f.port f.payload.length = true → exec c s = .next (pauseCheck f.port
      (s.updEth (portNum f.port) fun x => { x with fullDrops := satInc x.fullDrops }))) ∧
    (portServes s f.port = true → bufferFull s f.port f.payload.length = false → stranded s = true →
      (openNamed s (fHandle f) = none → exec c s = .next s) ∧
      ∀ i, openNamed s (fHandle f) = some i →
        ((∀ t, (s.session i).noticeAt = some t → t + 2 ^ 17 ≤ s.ft) → exec c s = .next (strandedNotice i s)) ∧
        (∀ t, (s.session i).noticeAt = some t → s.ft < t + 2 ^ 17 → exec c s = .next s))) ∧
  (∀ (s : State) (f : RxFrame), portServes s f.port = true → bufferFull s f.port f.payload.length = false → stranded s = false →
    ((frameMalformed s f = false ∨ f.payload.length < 8 ∨ openNamed s (fHandle f) = none) →
      exec (.ecdenMalformedFrame f) s = .next s) ∧
    (∀ i, frameMalformed s f = true → 8 ≤ f.payload.length → openNamed s (fHandle f) = some i →
      exec (.ecdenMalformedFrame f) s = .next (s.updSession i fun ss => { ss with malformed := satInc ss.malformed })) ∧
    ((frameMalformed s f = true ∨ fType f = 0 ∨ openNamed s (fHandle f) = none) → exec (.ecdenAuthFail f) s = .next s) ∧
    (∀ i, frameMalformed s f = false → fType f ≠ 0 → openNamed s (fHandle f) = some i →
      (authGood (s.session i) f = true → exec (.ecdenAuthFail f) s = .next s) ∧
      (authGood (s.session i) f = false →
        let u := s.updSession i fun ss => { ss with authFails := satInc ss.authFails, authLogged := some s.power.round }
        exec (.ecdenAuthFail f) s = .next (if (s.session i).authLogged = some s.power.round then u
          else logEvent Ev.authFail (leBytes 2 (fHandle f) ++ leBytes 16 f.ip ++ leBytes 2 f.udp) u))) ∧
    ((frameMalformed s f = true ∨ fType f ≠ 0) → exec (.ecdenOpen f) s = .next s) ∧
    (frameMalformed s f = false → fType f = 0 → openRepeat s f = none →
      (openOutcome s f = some St.ok → ∀ i, ((List.range 4096).find? fun i => (s.session i).st == .free) = some i →
        ∃ t, exec (.ecdenOpen f) s = .next t ∧ (t.session i).st = .opened ∧ (t.session i).ip = f.ip ∧ (t.session i).udp = f.udp ∧
          (t.session i).gen = ((s.session i).gen + 1) % 15 ∧ (t.session i).pnonce = openPnonce f ∧ t.net.opens = s.net.opens + 1 ∧
          ∀ j, j ≠ i → t.session j = s.session j) ∧
      (∀ st, openOutcome s f = some st → st ≠ St.ok →
        ∃ key, exec (.ecdenOpen f) s = .next (answerOpen f (openReplyBytes key (openPnonce f) 0 st 0xFFFF 0) s)) ∧
      (openOutcome s f = none → exec (.ecdenOpen f) s = .next s)) ∧
    (∀ payload, frameMalformed s f = false → fType f = 0 → openRepeat s f = some payload →
      let u := match openNamed s (leField payload 4 2) with
        | some i => s.updSession i fun ss => { ss with dups := satInc ss.dups }
        | none => s
      exec (.ecdenOpen f) s = .next (answerOpen f payload u)) ∧
    (acceptedFor 2 f s = none → exec (.ecdenMailFrame f) s = .next s) ∧
    (acceptedFor 3 f s = none → exec (.ecdenDataFrame f) s = .next s) ∧
    (acceptedFor 5 f s = none → exec (.ecdenCloseFrame f) s = .next s) ∧
    (acceptedFor 4 f s = none → exec (.ecdenAckFrame f) s = .next s) ∧
    (∀ i, let u := takeAck i (fAck f) (fSack f) (fCredit f) (rebind i f s)
      let v := if openNamed u (fHandle f) = some i then deliverNew i (fSeq f) (acceptSeq i f u) else u
      (acceptedFor 2 f s = some i → exec (.ecdenMailFrame f) s = .next v) ∧
      (acceptedFor 3 f s = some i → exec (.ecdenDataFrame f) s = .next v) ∧
      (acceptedFor 5 f s = some i → exec (.ecdenCloseFrame f) s = .next v) ∧
      (acceptedFor 4 f s = some i → exec (.ecdenAckFrame f) s = .next u)) ∧
    ((frameMalformed s f = true ∨ fType f = 0 ∨ (openNamed s (fHandle f)).isSome = true) →
      exec (.unknownSessionFrame f) s = .next s) ∧
    (∀ t, frameMalformed s f = false → fType f ≠ 0 → openNamed s (fHandle f) = none → Tab.find? f.ip s.net.closeSent = some t →
      s.ft < t + 2 ^ 12 → exec (.unknownSessionFrame f) s = .next s) ∧
    (frameMalformed s f = false → fType f ≠ 0 → openNamed s (fHandle f) = none →
      (∀ t, Tab.find? f.ip s.net.closeSent = some t → t + 2 ^ 12 ≤ s.ft) → exec (.unknownSessionFrame f) s = .next (putWire
        { port := f.port, mac := f.mac, vlan := f.vlan, pcp := f.pcp, ip := f.ip, udp := f.udp
          payload := ecdenHeader 5 0 (fHandle f) 4 0 0 0 0 ++ leBytes 2 (if (s.session (fHandle f % 4096)).st = .stranded ∧
            sessionHandle s (fHandle f % 4096) = fHandle f then St.sessionStranded else St.sessionUnknown) ++ leBytes 2 0 }
        { s with net.closeSent := Tab.put f.ip s.ft s.net.closeSent }))) ∧
  ∀ (s : State) (i : Nat) (f : RxFrame),
    (seqAtOrAfter (fSeq f) (s.session i).rxNext = false →
      acceptSeq i f s = ackSoon i (s.updSession i fun ss => { ss with dups := satInc ss.dups })) ∧
    (seqAtOrAfter (fSeq f) (s.session i).rxNext = true → (s.session i).credit ≤ (fSeq f + 2 ^ 32 - (s.session i).advAck) % 2 ^ 32 →
      acceptSeq i f s = ackSoon i (s.updSession i fun ss => { ss with overCredit := satInc ss.overCredit }))

/-- While the engine runs: an acknowledgement that is due goes out, a blocked session whose frame can be written is
unblocked, the session whose turn it is gets its visit, a frame whose timeout has passed and that was tried fewer than
8 times is sent again with RETX, and a session whose eighth retry has gone unacknowledged strands. None of them acts
where it is not due, nor while the engine does not run. An index stranded 2^24 ticks ago is free again, with its
generation and each of its counters kept; before that, or of another state, it stays. (R601, R602, R604, R605, R606,
R607.) -/
def Obligations.EcdenTimers : Prop :=
  (∀ (s : State) (i seq : Nat) (c : Instr),
    c ∈ [Instr.ackTimer i, .creditRiseAck i, .engineVisit i, .retransmitTimeout i seq, .sessionStrand i] →
    engineRuns s = false → exec c s = .next s) ∧
  (∀ (s : State) (i : Nat), engineRuns s = true →
    exec (.ackTimer i) s = .next (if (s.session i).ackDue.isSome then sendAck i s else s) ∧
    exec (.creditRiseAck i) s = .next (if (s.session i).blocked = true ∧ waitCleared s i = true then unblock i s else s) ∧
    exec (.engineVisit i) s = .next (if visitTurn s = some i then visit i { s with net.lastVisit := i } else s) ∧
    (∀ seq t, ((s.session i).unacked.find? fun t => t.seq == seq && resendDue s t && decide (t.tries < 8)) = some t →
      exec (.retransmitTimeout i seq) s = .next (sendFrame i t.type (4 + 2 * bit t.final) t.seq t.body
        (s.updSession i fun ss => { ss with
          retrans := satInc ss.retrans,
          unacked := ss.unacked.map fun x => if x.seq = t.seq then { x with tries := x.tries + 1, sentAt := s.ft } else x }))) ∧
    (∀ seq, (∀ t ∈ (s.session i).unacked, t.seq = seq → resendDue s t = true → 8 ≤ t.tries) →
      exec (.retransmitTimeout i seq) s = .next s) ∧
    exec (.sessionStrand i) s = .next (if giveUp s i = true then strandSession i s else s)) ∧
  ∀ (s : State) (i : Nat),
    ((s.session i).st = .stranded → (s.session i).strandedAt + 2 ^ 24 ≤ s.ft → ∃ t, exec (.strandedIndexFree i) s = .next t ∧
      t = s.updSession i (fun _ => t.session i) ∧
      t.session i = { gen := (s.session i).gen, malformed := (s.session i).malformed, authFails := (s.session i).authFails
                      dups := (s.session i).dups, overCredit := (s.session i).overCredit, retrans := (s.session i).retrans
                      overruns := (s.session i).overruns, staleBarge := (s.session i).staleBarge
                      pushGaps := (s.session i).pushGaps, st := .free }) ∧
    (((s.session i).st ≠ .stranded ∨ s.ft < (s.session i).strandedAt + 2 ^ 24) → exec (.strandedIndexFree i) s = .next s)

/-- Whatever command a step runs in a state in which the first stamp has been issued, the next state is one right after a
reset or a power loss, or the first stamp stands issued there and fabric time is what it was, unless the command is
FABRIC_TICK, which adds one, adds two only while the counter has still to gain (modulo 2^64, the width the count is
kept in), or holds the value only while it has still to lose or RESET_N is low. Where the 64-bit count does not
overflow, the next value is at least the present one. (R302.) -/
def Obligations.FabricTimeNeverDecreases : Prop :=
  ∀ s t : State, step s = .next t → s.time.firstStamp = true →
    t.time = {} ∨
    (t.time.firstStamp = true ∧
      ((∀ rest, s.pending ≠ .fabricTick :: rest) → t.time.ft = s.ft) ∧
      ∀ rest, s.pending = .fabricTick :: rest →
        (t.time.ft = (s.ft + 1) % 2 ^ 64 ∨ (t.time.ft = (s.ft + 2) % 2 ^ 64 ∧ 0 < s.time.correction) ∨
          (t.time.ft = s.ft ∧ (s.time.correction < 0 ∨ s.pins.resetN = false))) ∧
        (s.ft + 2 < 2 ^ 64 → s.ft ≤ t.time.ft))
end

