-- ==== Sys2Proof/Laws/Tab.lean ====
section
/-!
SUPPORT. Sparse tables: what `find?` reads after `put`, `del`, `putD` and `modify`, and that each operation keeps the
keys strictly rising and whatever holds of every entry.
-/

-- One proof after another: in parallel each asks for a thread and its stack.
set_option Elab.async false
set_option linter.all false

namespace Sys2Proof.Tab

variable {α β : Type}

@[simp] theorem find?_nil (k : Nat) : find? k ([] : Tab α) = none := rfl

@[simp] theorem find?_put (k : Nat) (v : α) (t : Tab α) : find? k (put k v t) = some v := by
  induction t with
  | nil => simp [put, find?]
  | cons p t ih =>
    unfold put
    split
    · simp [find?]
    · split
      · simp [find?]
      · rename_i h
        have : p.1 ≠ k := fun e => h (by simp [e])
        simp [find?, this, ih]

theorem find?_put_ne (k j : Nat) (v : α) (t : Tab α) (h : j ≠ k) : find? j (put k v t) = find? j t := by
  have h' : k ≠ j := fun e => h e.symm
  induction t with
  | nil => simp [put, find?, h']
  | cons p t ih =>
    unfold put
    split
    · simp [find?, h']
    · split
      · rename_i e
        have : p.1 = k := by simpa using (beq_iff_eq.mp e).symm
        simp [find?, h', this]
      · simp only [find?]
        split
        · rfl
        · exact ih

theorem find?_put_eq (k j : Nat) (v : α) (t : Tab α) : find? j (put k v t) = if j = k then some v else find? j t := by
  split
  · rename_i h; rw [h, find?_put]
  · rename_i h; exact find?_put_ne k j v t h

theorem find?_del_ne (k j : Nat) (t : Tab α) (h : j ≠ k) : find? j (del k t) = find? j t := by
  induction t with
  | nil => rfl
  | cons p t ih =>
    unfold del
    split
    · rename_i e
      have : p.1 ≠ j := fun e' => h (by rw [← e']; simpa using e)
      simp [find?, this]
    · simp only [find?]
      split
      · rfl
      · exact ih

@[simp] theorem getD_put (d : α) (k : Nat) (v : α) (t : Tab α) : getD d k (put k v t) = v := by simp [getD]

theorem getD_put_ne (d : α) (k j : Nat) (v : α) (t : Tab α) (h : j ≠ k) : getD d j (put k v t) = getD d j t := by
  simp [getD, find?_put_ne k j v t h]

theorem find?_modify (k : Nat) (f : α → α) (t : Tab α) : find? k (modify k f t) = (find? k t).map f := by
  unfold modify
  split
  · rename_i h; simp [h]
  · rename_i v h; simp [h]

theorem find?_modify_ne (k j : Nat) (f : α → α) (t : Tab α) (h : j ≠ k) : find? j (modify k f t) = find? j t := by
  unfold modify
  split
  · rfl
  · exact find?_put_ne _ _ _ _ h

theorem find?_mem {k : Nat} {v : α} {t : Tab α} (h : find? k t = some v) : (k, v) ∈ t := by
  induction t with
  | nil => cases h
  | cons p t ih =>
    simp only [find?] at h
    split at h
    · rename_i e
      cases h
      have : p.1 = k := by simpa using e
      subst this
      exact List.mem_cons_self
    · exact List.mem_cons_of_mem _ (ih h)

/-! ### What holds of every entry -/

theorem all_put {p : Nat × α → Prop} {k : Nat} {v : α} {t : Tab α} (h : ∀ x ∈ t, p x) (hv : p (k, v)) :
    ∀ x ∈ put k v t, p x := by
  induction t with
  | nil => intro x hx; simp [put] at hx; subst hx; exact hv
  | cons y t ih =>
    intro x hx
    unfold put at hx
    have hy := h y List.mem_cons_self
    have ht : ∀ x ∈ t, p x := fun x hx => h x (List.mem_cons_of_mem _ hx)
    split at hx
    · rcases List.mem_cons.mp hx with e | e
      · exact e ▸ hv
      · exact h x e
    · split at hx
      · rcases List.mem_cons.mp hx with e | e
        · exact e ▸ hv
        · exact ht x e
      · rcases List.mem_cons.mp hx with e | e
        · exact e ▸ hy
        · exact ih ht x e

theorem all_del {p : Nat × α → Prop} {k : Nat} {t : Tab α} (h : ∀ x ∈ t, p x) : ∀ x ∈ del k t, p x := by
  induction t with
  | nil => exact h
  | cons y t ih =>
    have hy := h y List.mem_cons_self
    have ht : ∀ x ∈ t, p x := fun x hx => h x (List.mem_cons_of_mem _ hx)
    unfold del
    split
    · exact ht
    · intro x hx
      rcases List.mem_cons.mp hx with e | e
      · exact e ▸ hy
      · exact ih ht x e

theorem all_modify {p : Nat × α → Prop} {k : Nat} {f : α → α} {t : Tab α} (h : ∀ x ∈ t, p x)
    (hf : ∀ v, p (k, v) → p (k, f v)) : ∀ x ∈ modify k f t, p x := by
  unfold modify
  split
  · exact h
  · rename_i v e
    exact all_put h (hf _ (h _ (find?_mem e)))

/-! ### Keys strictly rise -/

theorem sorted_cons (p : Nat × α) (t : Tab α) : sorted (p :: t) = true ↔ (∀ x ∈ t, p.1 < x.1) ∧ sorted t = true := by
  induction t generalizing p with
  | nil => simp [sorted]
  | cons q t ih =>
    constructor
    · intro h
      simp only [sorted, Bool.and_eq_true, decide_eq_true_eq] at h
      refine ⟨fun x hx => ?_, h.2⟩
      rcases List.mem_cons.mp hx with e | e
      · exact e ▸ h.1
      · exact Nat.lt_trans h.1 ((ih q).1 h.2 |>.1 x e)
    · intro h
      simp only [sorted, Bool.and_eq_true, decide_eq_true_eq]
      exact ⟨h.1 q List.mem_cons_self, h.2⟩

theorem sorted_put (k : Nat) (v : α) (t : Tab α) (h : sorted t = true) : sorted (put k v t) = true := by
  induction t with
  | nil => rfl
  | cons p t ih =>
    obtain ⟨h1, h2⟩ := (sorted_cons p t).1 h
    unfold put
    split
    · rename_i hk
      refine (sorted_cons _ _).2 ⟨fun x hx => ?_, h⟩
      rcases List.mem_cons.mp hx with e | e
      · exact e ▸ hk
      · exact Nat.lt_trans hk (h1 x e)
    · split
      · rename_i e
        have e : k = p.1 := by simpa using e
        exact (sorted_cons _ _).2 ⟨fun x hx => e ▸ h1 x hx, h2⟩
      · rename_i a b
        have b : k ≠ p.1 := by simpa using b
        exact (sorted_cons _ _).2 ⟨all_put (p := fun x => p.1 < x.1) h1 (by show p.1 < k; omega), ih h2⟩

theorem sorted_del (k : Nat) (t : Tab α) (h : sorted t = true) : sorted (del k t) = true := by
  induction t with
  | nil => rfl
  | cons p t ih =>
    obtain ⟨h1, h2⟩ := (sorted_cons p t).1 h
    unfold del
    split
    · exact h2
    · exact (sorted_cons _ _).2 ⟨all_del (p := fun x => p.1 < x.1) h1, ih h2⟩

theorem sorted_filter (q : Nat × α → Bool) (t : Tab α) (h : sorted t = true) : sorted (List.filter q t) = true := by
  induction t with
  | nil => rfl
  | cons p t ih =>
    obtain ⟨h1, h2⟩ := (sorted_cons p t).1 h
    rw [List.filter_cons]
    split
    · exact (sorted_cons _ _).2 ⟨fun x hx => h1 x (List.mem_filter.mp hx).1, ih h2⟩
    · exact ih h2

theorem find?_none_of_lt {k : Nat} {t : Tab α} (h : ∀ x ∈ t, k < x.1) : find? k t = none := by
  induction t with
  | nil => rfl
  | cons p t ih =>
    have h1 := h p List.mem_cons_self
    have : p.1 ≠ k := by omega
    simp [find?, this, ih fun x hx => h x (List.mem_cons_of_mem _ hx)]

/-- Where keys strictly rise, an unlisted key is not found. -/
theorem find?_del (k : Nat) (t : Tab α) (h : sorted t = true) : find? k (del k t) = none := by
  induction t with
  | nil => rfl
  | cons p t ih =>
    obtain ⟨h1, h2⟩ := (sorted_cons p t).1 h
    unfold del
    split
    · rename_i e
      have e : p.1 = k := by simpa using e
      exact find?_none_of_lt fun x hx => e ▸ h1 x hx
    · rename_i e
      have e : p.1 ≠ k := by simpa using e
      simp [find?, e, ih h2]

theorem getD_putD [DecidableEq α] (d : α) (k : Nat) (v : α) (t : Tab α) (h : sorted t = true) :
    getD d k (putD d k v t) = v := by
  unfold putD
  split
  · rename_i e; rw [getD, find?_del k t h, e]; rfl
  · rw [getD_put]

theorem getD_putD_ne [DecidableEq α] (d : α) (k j : Nat) (v : α) (t : Tab α) (h : j ≠ k) :
    getD d j (putD d k v t) = getD d j t := by
  unfold putD getD
  split
  · rw [find?_del_ne k j t h]
  · rw [find?_put_ne k j v t h]

/-- A free key is not listed, lies in the range, and every lower one of the range is listed. -/
theorem freeKey_some {start fuel k : Nat} {t : Tab α} (h : freeKey start fuel t = some k) :
    has k t = false ∧ start ≤ k ∧ k < start + fuel ∧ ∀ j, start ≤ j → j < k → has j t = true := by
  induction fuel generalizing start with
  | zero => simp [freeKey] at h
  | succ n ih =>
    unfold freeKey at h
    split at h
    · rename_i hs
      obtain ⟨h1, h2, h3, h4⟩ := ih h
      refine ⟨h1, by omega, by omega, fun j hj hk => ?_⟩
      by_cases he : j = start
      · exact he ▸ hs
      · exact h4 j (by omega) hk
    · rename_i hs
      cases h
      exact ⟨by simpa using hs, Nat.le_refl _, by omega, fun j hj hk => by omega⟩

end Sys2Proof.Tab
end

