-- ==== Sys2Proof/Laws/Memory.lean ====
section
/-!
SUPPORT. The canonical form of device memory: what reads as zero is not listed. Each function that builds cells gives cells
in that form, and each list of versions keeps it.
-/

-- One proof after another: in parallel each asks for a thread and its stack.
set_option Elab.async false
set_option linter.all false

namespace Sys2Proof.Safety

open Sys2Proof.Machine

/-! ### Cells -/

theorem canonicalBytes_iff (t : Tab Byte) : canonicalBytes t = true ↔ Tab.sorted t = true ∧ ∀ c ∈ t, c.2 ≠ 0 := by
  unfold canonicalBytes
  simp [List.all_eq_true]

theorem canonicalBytes_put (k : Nat) (v : Byte) (t : Tab Byte) (h : canonicalBytes t = true) (hv : v ≠ 0) :
    canonicalBytes (Tab.put k v t) = true := by
  rw [canonicalBytes_iff] at h ⊢
  exact ⟨Tab.sorted_put k v t h.1, Tab.all_put (p := fun c => c.2 ≠ 0) h.2 hv⟩

@[simp] theorem canonicalBytes_nil : canonicalBytes [] = true := rfl

@[simp] theorem canonicalBytes_putD (k : Nat) (v : Byte) (t : Tab Byte) (h : canonicalBytes t = true) :
    canonicalBytes (Tab.putD 0 k v t) = true := by
  unfold Tab.putD
  split
  · rw [canonicalBytes_iff] at h ⊢
    exact ⟨Tab.sorted_del k t h.1, Tab.all_del (p := fun c => c.2 ≠ 0) h.2⟩
  · rename_i hv
    exact canonicalBytes_put k v t h hv

@[simp] theorem canonicalBytes_filter (q : Nat × Byte → Bool) (t : Tab Byte) (h : canonicalBytes t = true) :
    canonicalBytes (List.filter q t) = true := by
  rw [canonicalBytes_iff] at h ⊢
  exact ⟨Tab.sorted_filter q t h.1, fun c hc => h.2 c (List.mem_filter.mp hc).1⟩

/-- Laying listed cells over a table, one by one. -/
theorem canonicalBytes_lay (f : Nat → Nat) (l : List (Nat × Byte)) (t : Tab Byte) (h : canonicalBytes t = true)
    (hl : ∀ c ∈ l, c.2 ≠ 0) : canonicalBytes (l.foldl (fun t c => Tab.put (f c.1) c.2 t) t) = true := by
  induction l generalizing t with
  | nil => exact h
  | cons c l ih =>
    rw [List.foldl_cons]
    exact ih _ (canonicalBytes_put _ _ _ h (hl c List.mem_cons_self)) fun x hx => hl x (List.mem_cons_of_mem _ hx)

@[simp] theorem canonicalBytes_overlay (shares : List Nat) (under upper : Tab Byte) (hu : canonicalBytes under = true)
    (ho : canonicalBytes upper = true) : canonicalBytes (overlayShares shares under upper) = true := by
  unfold overlayShares
  refine canonicalBytes_lay id _ _ (canonicalBytes_filter _ _ hu) fun c hc => ?_
  exact ((canonicalBytes_iff upper).1 ho).2 c (List.mem_filter.mp hc).1

@[simp] theorem canonicalBytes_putCells (t c : Tab Byte) (h : canonicalBytes t = true) : canonicalBytes (putCells t c) = true := by
  unfold putCells
  induction c generalizing t with
  | nil => exact h
  | cons c l ih => rw [List.foldl_cons]; exact ih _ (canonicalBytes_putD _ _ _ h)

/-- A page's cells by their offset in the page stay in order. -/
theorem sorted_page (p : Nat) (t : Tab Byte) (h : Tab.sorted t = true) (hp : ∀ c ∈ t, pageOf c.1 = p) :
    Tab.sorted (t.map fun c => (c.1 % 65536, c.2)) = true := by
  induction t with
  | nil => rfl
  | cons c t ih =>
    obtain ⟨h1, h2⟩ := (Tab.sorted_cons c t).1 h
    rw [List.map_cons]
    refine (Tab.sorted_cons _ _).2 ⟨fun x hx => ?_, ih h2 fun x hx => hp x (List.mem_cons_of_mem _ hx)⟩
    obtain ⟨y, hy, rfl⟩ := List.mem_map.mp hx
    have a := h1 y hy
    have b := hp c List.mem_cons_self
    have d := hp y (List.mem_cons_of_mem _ hy)
    unfold pageOf at b d
    show c.1 % 65536 < y.1 % 65536
    omega

/-! ### Versions, pins and pre-images -/

/-- Every shadow's cells are in canonical form. -/
def ShadowsOk (l : List Shadow) : Prop := ∀ h ∈ l, canonicalBytes h.cells = true

/-- Every pin's cells are. -/
def PinsOk (l : List Pin) : Prop := ∀ p ∈ l, canonicalBytes p.cells = true

/-- Every pre-image's cells are. -/
def PresOk (l : List PreImage) : Prop := ∀ p ∈ l, canonicalBytes p.cells = true

/-- The pages a task began with are. -/
def TaskOk (t : Task) : Prop := ∀ b ∈ t.before, canonicalBytes b.2.cells = true

/-- Those of every task of a graph are. -/
def GraphOk (g : Graph) : Prop := ∀ t ∈ g.tasks, TaskOk t.2

/-- Those of every resident graph are. -/
def GraphsOk (t : Tab Graph) : Prop := ∀ g ∈ t, GraphOk g.2

/-- Those of a graph that is still checked are. -/
def KindOk : JobKind → Prop
  | .graphCheck g _ _ => GraphOk g
  | _ => True

/-- Those of every graph still checked are. -/
def JobsOk (t : Tab Job) : Prop := ∀ j ∈ t, KindOk j.2.kind

theorem memory_wf_iff (m : MemState) :
    Memory.wf m = true ↔ canonicalBytes m.base = true ∧ ShadowsOk m.shadows ∧ PinsOk m.pins ∧ PresOk m.preImages := by
  unfold Memory.wf ShadowsOk PinsOk PresOk
  simp [List.all_eq_true, and_assoc]

theorem graph_canonical_iff (g : Graph) : Graph.canonical g = true ↔ GraphOk g := by
  unfold Graph.canonical GraphOk TaskOk
  simp [List.all_eq_true]

/-- The parts of a state that Canonical speaks of. -/
def Parts (base : Tab Byte) (sh : List Shadow) (pi : List Pin) (pre : List PreImage) (scratch : Tab Byte) (gs : Tab Graph)
    (js : Tab Job) : Prop :=
  (canonicalBytes base = true ∧ ShadowsOk sh ∧ PinsOk pi ∧ PresOk pre) ∧ canonicalBytes scratch = true ∧ GraphsOk gs ∧ JobsOk js

/-- Canonical, part by part. -/
theorem canonical_iff (s : State) : Canonical s = true ↔
    Parts s.mem.base s.mem.shadows s.mem.pins s.mem.preImages s.stk.scratch s.work.graphs s.work.jobs := by
  unfold Canonical Parts GraphsOk JobsOk
  rw [Bool.and_eq_true, Bool.and_eq_true, Bool.and_eq_true, memory_wf_iff, List.all_eq_true, List.all_eq_true, and_assoc, and_assoc]
  refine and_congr Iff.rfl (and_congr Iff.rfl (and_congr ?_ ?_))
  · exact forall_congr' fun g => imp_congr Iff.rfl (graph_canonical_iff g.2)
  · refine forall_congr' fun j => imp_congr Iff.rfl ?_
    cases j.2.kind <;> simp [KindOk, graph_canonical_iff]

/-! ### What a page reads as -/

theorem mem_insertShadow (x h : Shadow) (l : List Shadow) : x ∈ insertShadow h l ↔ x = h ∨ x ∈ l := by
  induction l with
  | nil => simp [insertShadow]
  | cons y l ih =>
    unfold insertShadow
    split
    · simp
    · rw [List.mem_cons, List.mem_cons, ih]
      constructor <;> (rintro (h | h | h) <;> simp [h])

@[simp] theorem mem_byTag (x : Shadow) (l : List Shadow) : x ∈ byTag l ↔ x ∈ l := by
  unfold byTag
  induction l with
  | nil => simp
  | cons y l ih => rw [List.foldr_cons, mem_insertShadow, ih, List.mem_cons]

theorem canonicalBytes_folded (s : State) (p : Nat) (h : canonicalBytes s.mem.base = true) :
    canonicalBytes (foldedCells s p) = true := by
  obtain ⟨h1, h2⟩ := (canonicalBytes_iff _).1 h
  unfold foldedCells
  refine (canonicalBytes_iff _).2 ⟨sorted_page p _ (Tab.sorted_filter _ _ h1) fun c hc => ?_, fun c hc => ?_⟩
  · simpa using (List.mem_filter.mp hc).2
  · obtain ⟨y, hy, rfl⟩ := List.mem_map.mp hc
    exact h2 y (List.mem_filter.mp hy).1

theorem canonicalBytes_overlays (l : List Shadow) (t : Tab Byte) (h : canonicalBytes t = true) (hl : ShadowsOk l) :
    canonicalBytes (l.foldl (fun t x => overlayShares x.unfolded t x.cells) t) = true := by
  induction l generalizing t with
  | nil => exact h
  | cons x l ih =>
    rw [List.foldl_cons]
    exact ih _ (canonicalBytes_overlay _ _ _ h (hl x List.mem_cons_self)) fun y hy => hl y (List.mem_cons_of_mem _ hy)

/-- The committed version of a page is in canonical form. -/
theorem canonicalBytes_committed (s : State) (p : Nat) (hb : canonicalBytes s.mem.base = true) (hs : ShadowsOk s.mem.shadows) :
    canonicalBytes (committedCells s p) = true := by
  unfold committedCells
  refine canonicalBytes_overlays _ _ (canonicalBytes_folded s p hb) fun x hx => ?_
  exact hs x (List.mem_filter.mp ((mem_byTag x _).1 hx)).1

theorem newestShadow_mem {s : State} {p : Nat} {x : Shadow} (h : newestShadow s p = some x) : x ∈ s.mem.shadows := by
  unfold newestShadow at h
  exact (List.mem_filter.mp ((mem_byTag x _).1 (List.mem_of_getLast? h))).1

/-- So is its newest version. -/
theorem canonicalBytes_newest (s : State) (p : Nat) (hb : canonicalBytes s.mem.base = true) (hs : ShadowsOk s.mem.shadows) :
    canonicalBytes (newestCells s p) = true := by
  unfold newestCells
  split
  · rename_i x h; exact hs x (newestShadow_mem h)
  · exact canonicalBytes_committed s p hb hs

theorem shadowOf_mem {s : State} {p tag : Nat} {x : Shadow} (h : shadowOf s p tag = some x) : x ∈ s.mem.shadows :=
  List.mem_of_find?_eq_some h

/-- So is a new shadow. -/
theorem canonicalBytes_newShadow (s : State) (p tag f q : Nat) (hb : canonicalBytes s.mem.base = true) (hs : ShadowsOk s.mem.shadows) :
    canonicalBytes (newShadow s p tag f q).cells = true := by
  unfold newShadow
  split
  · rename_i x h
    unfold shadowBelow at h
    exact hs x (List.mem_filter.mp ((mem_byTag x _).1 (List.mem_of_getLast? h))).1
  · exact canonicalBytes_committed s p hb hs

end Sys2Proof.Safety
end

