-- ==== Sys2Proof/Laws/State.lean ====
section
/-!
SUPPORT. What each update of State leaves alone, field by field, and what a read of the unit it changes gives after it.
-/

-- One proof after another: in parallel each asks for a thread and its stack.
set_option Elab.async false
set_option linter.all false

namespace Sys2Proof.Machine.State

/-! updIssuer -/

@[simp] theorem updIssuer_pending (s : State) (b f) : (s.updIssuer b f).pending = s.pending := rfl
@[simp] theorem updIssuer_freeCtr (s : State) (b f) : (s.updIssuer b f).freeCtr = s.freeCtr := rfl
@[simp] theorem updIssuer_log (s : State) (b f) : (s.updIssuer b f).log = s.log := rfl
@[simp] theorem updIssuer_net (s : State) (b f) : (s.updIssuer b f).net = s.net := rfl
@[simp] theorem updIssuer_mem (s : State) (b f) : (s.updIssuer b f).mem = s.mem := rfl
@[simp] theorem updIssuer_pound (s : State) (b f) : (s.updIssuer b f).pound = s.pound := rfl
@[simp] theorem updIssuer_work (s : State) (b f) : (s.updIssuer b f).work = s.work := rfl
@[simp] theorem updIssuer_stk (s : State) (b f) : (s.updIssuer b f).stk = s.stk := rfl
@[simp] theorem updIssuer_base (s : State) (b f) : (s.updIssuer b f).base = s.base := rfl
@[simp] theorem updIssuer_light (s : State) (b f) : (s.updIssuer b f).light = s.light := rfl
@[simp] theorem updIssuer_torus (s : State) (b f) : (s.updIssuer b f).torus = s.torus := rfl
@[simp] theorem updIssuer_power (s : State) (b f) : (s.updIssuer b f).power = s.power := rfl
@[simp] theorem updIssuer_lk (s : State) (b f) : (s.updIssuer b f).lk = s.lk := rfl
@[simp] theorem updIssuer_sec (s : State) (b f) : (s.updIssuer b f).sec = s.sec := rfl
@[simp] theorem updIssuer_flash (s : State) (b f) : (s.updIssuer b f).flash = s.flash := rfl
@[simp] theorem updIssuer_boot (s : State) (b f) : (s.updIssuer b f).boot = s.boot := rfl
@[simp] theorem updIssuer_pins (s : State) (b f) : (s.updIssuer b f).pins = s.pins := rfl
@[simp] theorem updIssuer_time_ft (s : State) (b f) : (s.updIssuer b f).time.ft = s.time.ft := rfl
@[simp] theorem updIssuer_time_loaded (s : State) (b f) : (s.updIssuer b f).time.loaded = s.time.loaded := rfl
@[simp] theorem updIssuer_time_firstStamp (s : State) (b f) : (s.updIssuer b f).time.firstStamp = s.time.firstStamp := rfl
@[simp] theorem updIssuer_time_source (s : State) (b f) : (s.updIssuer b f).time.source = s.time.source := rfl
@[simp] theorem updIssuer_time_mode (s : State) (b f) : (s.updIssuer b f).time.mode = s.time.mode := rfl
@[simp] theorem updIssuer_time_master (s : State) (b f) : (s.updIssuer b f).time.master = s.time.master := rfl
@[simp] theorem updIssuer_time_masterCoord (s : State) (b f) : (s.updIssuer b f).time.masterCoord = s.time.masterCoord := rfl
@[simp] theorem updIssuer_time_ftrefOk (s : State) (b f) : (s.updIssuer b f).time.ftrefOk = s.time.ftrefOk := rfl
@[simp] theorem updIssuer_time_offset16 (s : State) (b f) : (s.updIssuer b f).time.offset16 = s.time.offset16 := rfl
@[simp] theorem updIssuer_time_correction (s : State) (b f) : (s.updIssuer b f).time.correction = s.time.correction := rfl
@[simp] theorem updIssuer_time_lastCorrAt (s : State) (b f) : (s.updIssuer b f).time.lastCorrAt = s.time.lastCorrAt := rfl
@[simp] theorem updIssuer_time_repeated (s : State) (b f) : (s.updIssuer b f).time.repeated = s.time.repeated := rfl
@[simp] theorem updIssuer_time_offsetLogged (s : State) (b f) : (s.updIssuer b f).time.offsetLogged = s.time.offsetLogged := rfl
@[simp] theorem updIssuer_time_everSourced (s : State) (b f) : (s.updIssuer b f).time.everSourced = s.time.everSourced := rfl
@[simp] theorem updIssuer_time_hops (s : State) (b f) : (s.updIssuer b f).time.hops = s.time.hops := rfl
@[simp] theorem updIssuer_time_lastTiming (s : State) (b f) : (s.updIssuer b f).time.lastTiming = s.time.lastTiming := rfl
@[simp] theorem updIssuer_time_ptp (s : State) (b f) : (s.updIssuer b f).time.ptp = s.time.ptp := rfl
@[simp] theorem updIssuer_ft (s : State) (b f) : (s.updIssuer b f).ft = s.ft := rfl
@[simp] theorem updIssuer_issuer (s : State) (b f) : (s.updIssuer b f).issuer b = f (s.issuer b) := by
  unfold updIssuer issuer
  simp
theorem updIssuer_issuer_ne (s : State) (b j f) (h : j ≠ b) : (s.updIssuer b f).issuer j = s.issuer j := by
  unfold updIssuer issuer
  exact Tab.getD_put_ne _ _ _ _ _ h

/-! updEth -/

@[simp] theorem updEth_pending (s : State) (p f) : (s.updEth p f).pending = s.pending := rfl
@[simp] theorem updEth_freeCtr (s : State) (p f) : (s.updEth p f).freeCtr = s.freeCtr := rfl
@[simp] theorem updEth_time (s : State) (p f) : (s.updEth p f).time = s.time := rfl
@[simp] theorem updEth_log (s : State) (p f) : (s.updEth p f).log = s.log := rfl
@[simp] theorem updEth_mem (s : State) (p f) : (s.updEth p f).mem = s.mem := rfl
@[simp] theorem updEth_pound (s : State) (p f) : (s.updEth p f).pound = s.pound := rfl
@[simp] theorem updEth_work (s : State) (p f) : (s.updEth p f).work = s.work := rfl
@[simp] theorem updEth_stk (s : State) (p f) : (s.updEth p f).stk = s.stk := rfl
@[simp] theorem updEth_base (s : State) (p f) : (s.updEth p f).base = s.base := rfl
@[simp] theorem updEth_light (s : State) (p f) : (s.updEth p f).light = s.light := rfl
@[simp] theorem updEth_torus (s : State) (p f) : (s.updEth p f).torus = s.torus := rfl
@[simp] theorem updEth_power (s : State) (p f) : (s.updEth p f).power = s.power := rfl
@[simp] theorem updEth_lk (s : State) (p f) : (s.updEth p f).lk = s.lk := rfl
@[simp] theorem updEth_sec (s : State) (p f) : (s.updEth p f).sec = s.sec := rfl
@[simp] theorem updEth_flash (s : State) (p f) : (s.updEth p f).flash = s.flash := rfl
@[simp] theorem updEth_boot (s : State) (p f) : (s.updEth p f).boot = s.boot := rfl
@[simp] theorem updEth_pins (s : State) (p f) : (s.updEth p f).pins = s.pins := rfl
@[simp] theorem updEth_net_sessions (s : State) (p f) : (s.updEth p f).net.sessions = s.net.sessions := rfl
@[simp] theorem updEth_net_barges (s : State) (p f) : (s.updEth p f).net.barges = s.net.barges := rfl
@[simp] theorem updEth_net_bargeNo (s : State) (p f) : (s.updEth p f).net.bargeNo = s.net.bargeNo := rfl
@[simp] theorem updEth_net_opens (s : State) (p f) : (s.updEth p f).net.opens = s.net.opens := rfl
@[simp] theorem updEth_net_openSeen (s : State) (p f) : (s.updEth p f).net.openSeen = s.net.openSeen := rfl
@[simp] theorem updEth_net_closeSent (s : State) (p f) : (s.updEth p f).net.closeSent = s.net.closeSent := rfl
@[simp] theorem updEth_net_lastVisit (s : State) (p f) : (s.updEth p f).net.lastVisit = s.net.lastVisit := rfl
@[simp] theorem updEth_net_lastMail (s : State) (p f) : (s.updEth p f).net.lastMail = s.net.lastMail := rfl
@[simp] theorem updEth_net_wire (s : State) (p f) : (s.updEth p f).net.wire = s.net.wire := rfl
@[simp] theorem updEth_net_portOut (s : State) (p f) : (s.updEth p f).net.portOut = s.net.portOut := rfl
@[simp] theorem updEth_ft (s : State) (p f) : (s.updEth p f).ft = s.ft := rfl
@[simp] theorem updEth_ethPort (s : State) (p f) : (s.updEth p f).ethPort p = f (s.ethPort p) := by
  unfold updEth ethPort
  simp
theorem updEth_ethPort_ne (s : State) (p j f) (h : j ≠ p) : (s.updEth p f).ethPort j = s.ethPort j := by
  unfold updEth ethPort
  exact Tab.getD_put_ne _ _ _ _ _ h

/-! updSession -/

@[simp] theorem updSession_pending (s : State) (i f) : (s.updSession i f).pending = s.pending := rfl
@[simp] theorem updSession_freeCtr (s : State) (i f) : (s.updSession i f).freeCtr = s.freeCtr := rfl
@[simp] theorem updSession_time (s : State) (i f) : (s.updSession i f).time = s.time := rfl
@[simp] theorem updSession_log (s : State) (i f) : (s.updSession i f).log = s.log := rfl
@[simp] theorem updSession_mem (s : State) (i f) : (s.updSession i f).mem = s.mem := rfl
@[simp] theorem updSession_pound (s : State) (i f) : (s.updSession i f).pound = s.pound := rfl
@[simp] theorem updSession_work (s : State) (i f) : (s.updSession i f).work = s.work := rfl
@[simp] theorem updSession_stk (s : State) (i f) : (s.updSession i f).stk = s.stk := rfl
@[simp] theorem updSession_base (s : State) (i f) : (s.updSession i f).base = s.base := rfl
@[simp] theorem updSession_light (s : State) (i f) : (s.updSession i f).light = s.light := rfl
@[simp] theorem updSession_torus (s : State) (i f) : (s.updSession i f).torus = s.torus := rfl
@[simp] theorem updSession_power (s : State) (i f) : (s.updSession i f).power = s.power := rfl
@[simp] theorem updSession_lk (s : State) (i f) : (s.updSession i f).lk = s.lk := rfl
@[simp] theorem updSession_sec (s : State) (i f) : (s.updSession i f).sec = s.sec := rfl
@[simp] theorem updSession_flash (s : State) (i f) : (s.updSession i f).flash = s.flash := rfl
@[simp] theorem updSession_boot (s : State) (i f) : (s.updSession i f).boot = s.boot := rfl
@[simp] theorem updSession_pins (s : State) (i f) : (s.updSession i f).pins = s.pins := rfl
@[simp] theorem updSession_net_ports (s : State) (i f) : (s.updSession i f).net.ports = s.net.ports := rfl
@[simp] theorem updSession_net_barges (s : State) (i f) : (s.updSession i f).net.barges = s.net.barges := rfl
@[simp] theorem updSession_net_bargeNo (s : State) (i f) : (s.updSession i f).net.bargeNo = s.net.bargeNo := rfl
@[simp] theorem updSession_net_opens (s : State) (i f) : (s.updSession i f).net.opens = s.net.opens := rfl
@[simp] theorem updSession_net_openSeen (s : State) (i f) : (s.updSession i f).net.openSeen = s.net.openSeen := rfl
@[simp] theorem updSession_net_closeSent (s : State) (i f) : (s.updSession i f).net.closeSent = s.net.closeSent := rfl
@[simp] theorem updSession_net_lastVisit (s : State) (i f) : (s.updSession i f).net.lastVisit = s.net.lastVisit := rfl
@[simp] theorem updSession_net_lastMail (s : State) (i f) : (s.updSession i f).net.lastMail = s.net.lastMail := rfl
@[simp] theorem updSession_net_wire (s : State) (i f) : (s.updSession i f).net.wire = s.net.wire := rfl
@[simp] theorem updSession_net_portOut (s : State) (i f) : (s.updSession i f).net.portOut = s.net.portOut := rfl
@[simp] theorem updSession_ft (s : State) (i f) : (s.updSession i f).ft = s.ft := rfl
@[simp] theorem updSession_session (s : State) (i f) : (s.updSession i f).session i = f (s.session i) := by
  unfold updSession session
  simp
theorem updSession_session_ne (s : State) (i j f) (h : j ≠ i) : (s.updSession i f).session j = s.session j := by
  unfold updSession session
  exact Tab.getD_put_ne _ _ _ _ _ h

/-! updBarge -/

@[simp] theorem updBarge_pending (s : State) (n f) : (s.updBarge n f).pending = s.pending := rfl
@[simp] theorem updBarge_freeCtr (s : State) (n f) : (s.updBarge n f).freeCtr = s.freeCtr := rfl
@[simp] theorem updBarge_time (s : State) (n f) : (s.updBarge n f).time = s.time := rfl
@[simp] theorem updBarge_log (s : State) (n f) : (s.updBarge n f).log = s.log := rfl
@[simp] theorem updBarge_mem (s : State) (n f) : (s.updBarge n f).mem = s.mem := rfl
@[simp] theorem updBarge_pound (s : State) (n f) : (s.updBarge n f).pound = s.pound := rfl
@[simp] theorem updBarge_work (s : State) (n f) : (s.updBarge n f).work = s.work := rfl
@[simp] theorem updBarge_stk (s : State) (n f) : (s.updBarge n f).stk = s.stk := rfl
@[simp] theorem updBarge_base (s : State) (n f) : (s.updBarge n f).base = s.base := rfl
@[simp] theorem updBarge_light (s : State) (n f) : (s.updBarge n f).light = s.light := rfl
@[simp] theorem updBarge_torus (s : State) (n f) : (s.updBarge n f).torus = s.torus := rfl
@[simp] theorem updBarge_power (s : State) (n f) : (s.updBarge n f).power = s.power := rfl
@[simp] theorem updBarge_lk (s : State) (n f) : (s.updBarge n f).lk = s.lk := rfl
@[simp] theorem updBarge_sec (s : State) (n f) : (s.updBarge n f).sec = s.sec := rfl
@[simp] theorem updBarge_flash (s : State) (n f) : (s.updBarge n f).flash = s.flash := rfl
@[simp] theorem updBarge_boot (s : State) (n f) : (s.updBarge n f).boot = s.boot := rfl
@[simp] theorem updBarge_pins (s : State) (n f) : (s.updBarge n f).pins = s.pins := rfl
@[simp] theorem updBarge_net_ports (s : State) (n f) : (s.updBarge n f).net.ports = s.net.ports := rfl
@[simp] theorem updBarge_net_sessions (s : State) (n f) : (s.updBarge n f).net.sessions = s.net.sessions := rfl
@[simp] theorem updBarge_net_bargeNo (s : State) (n f) : (s.updBarge n f).net.bargeNo = s.net.bargeNo := rfl
@[simp] theorem updBarge_net_opens (s : State) (n f) : (s.updBarge n f).net.opens = s.net.opens := rfl
@[simp] theorem updBarge_net_openSeen (s : State) (n f) : (s.updBarge n f).net.openSeen = s.net.openSeen := rfl
@[simp] theorem updBarge_net_closeSent (s : State) (n f) : (s.updBarge n f).net.closeSent = s.net.closeSent := rfl
@[simp] theorem updBarge_net_lastVisit (s : State) (n f) : (s.updBarge n f).net.lastVisit = s.net.lastVisit := rfl
@[simp] theorem updBarge_net_lastMail (s : State) (n f) : (s.updBarge n f).net.lastMail = s.net.lastMail := rfl
@[simp] theorem updBarge_net_wire (s : State) (n f) : (s.updBarge n f).net.wire = s.net.wire := rfl
@[simp] theorem updBarge_net_portOut (s : State) (n f) : (s.updBarge n f).net.portOut = s.net.portOut := rfl
@[simp] theorem updBarge_ft (s : State) (n f) : (s.updBarge n f).ft = s.ft := rfl

/-! updMemBerth -/

@[simp] theorem updMemBerth_pending (s : State) (k f) : (s.updMemBerth k f).pending = s.pending := rfl
@[simp] theorem updMemBerth_freeCtr (s : State) (k f) : (s.updMemBerth k f).freeCtr = s.freeCtr := rfl
@[simp] theorem updMemBerth_time (s : State) (k f) : (s.updMemBerth k f).time = s.time := rfl
@[simp] theorem updMemBerth_log (s : State) (k f) : (s.updMemBerth k f).log = s.log := rfl
@[simp] theorem updMemBerth_net (s : State) (k f) : (s.updMemBerth k f).net = s.net := rfl
@[simp] theorem updMemBerth_pound (s : State) (k f) : (s.updMemBerth k f).pound = s.pound := rfl
@[simp] theorem updMemBerth_work (s : State) (k f) : (s.updMemBerth k f).work = s.work := rfl
@[simp] theorem updMemBerth_stk (s : State) (k f) : (s.updMemBerth k f).stk = s.stk := rfl
@[simp] theorem updMemBerth_base (s : State) (k f) : (s.updMemBerth k f).base = s.base := rfl
@[simp] theorem updMemBerth_light (s : State) (k f) : (s.updMemBerth k f).light = s.light := rfl
@[simp] theorem updMemBerth_torus (s : State) (k f) : (s.updMemBerth k f).torus = s.torus := rfl
@[simp] theorem updMemBerth_power (s : State) (k f) : (s.updMemBerth k f).power = s.power := rfl
@[simp] theorem updMemBerth_lk (s : State) (k f) : (s.updMemBerth k f).lk = s.lk := rfl
@[simp] theorem updMemBerth_sec (s : State) (k f) : (s.updMemBerth k f).sec = s.sec := rfl
@[simp] theorem updMemBerth_flash (s : State) (k f) : (s.updMemBerth k f).flash = s.flash := rfl
@[simp] theorem updMemBerth_boot (s : State) (k f) : (s.updMemBerth k f).boot = s.boot := rfl
@[simp] theorem updMemBerth_pins (s : State) (k f) : (s.updMemBerth k f).pins = s.pins := rfl
@[simp] theorem updMemBerth_mem_fraction (s : State) (k f) : (s.updMemBerth k f).mem.fraction = s.mem.fraction := rfl
@[simp] theorem updMemBerth_mem_buffers (s : State) (k f) : (s.updMemBerth k f).mem.buffers = s.mem.buffers := rfl
@[simp] theorem updMemBerth_mem_gens (s : State) (k f) : (s.updMemBerth k f).mem.gens = s.mem.gens := rfl
@[simp] theorem updMemBerth_mem_freeing (s : State) (k f) : (s.updMemBerth k f).mem.freeing = s.mem.freeing := rfl
@[simp] theorem updMemBerth_mem_base (s : State) (k f) : (s.updMemBerth k f).mem.base = s.mem.base := rfl
@[simp] theorem updMemBerth_mem_shadows (s : State) (k f) : (s.updMemBerth k f).mem.shadows = s.mem.shadows := rfl
@[simp] theorem updMemBerth_mem_pins (s : State) (k f) : (s.updMemBerth k f).mem.pins = s.mem.pins := rfl
@[simp] theorem updMemBerth_mem_preImages (s : State) (k f) : (s.updMemBerth k f).mem.preImages = s.mem.preImages := rfl
@[simp] theorem updMemBerth_mem_poison (s : State) (k f) : (s.updMemBerth k f).mem.poison = s.mem.poison := rfl
@[simp] theorem updMemBerth_mem_wrong (s : State) (k f) : (s.updMemBerth k f).mem.wrong = s.mem.wrong := rfl
@[simp] theorem updMemBerth_mem_frames (s : State) (k f) : (s.updMemBerth k f).mem.frames = s.mem.frames := rfl
@[simp] theorem updMemBerth_mem_retired (s : State) (k f) : (s.updMemBerth k f).mem.retired = s.mem.retired := rfl
@[simp] theorem updMemBerth_mem_retiring (s : State) (k f) : (s.updMemBerth k f).mem.retiring = s.mem.retiring := rfl
@[simp] theorem updMemBerth_mem_writes (s : State) (k f) : (s.updMemBerth k f).mem.writes = s.mem.writes := rfl
@[simp] theorem updMemBerth_mem_writeNo (s : State) (k f) : (s.updMemBerth k f).mem.writeNo = s.mem.writeNo := rfl
@[simp] theorem updMemBerth_mem_reads (s : State) (k f) : (s.updMemBerth k f).mem.reads = s.mem.reads := rfl
@[simp] theorem updMemBerth_mem_readNo (s : State) (k f) : (s.updMemBerth k f).mem.readNo = s.mem.readNo := rfl
@[simp] theorem updMemBerth_ft (s : State) (k f) : (s.updMemBerth k f).ft = s.ft := rfl
@[simp] theorem updMemBerth_memBerth (s : State) (k f) : (s.updMemBerth k f).memBerth k = f (s.memBerth k) := by
  unfold updMemBerth memBerth
  simp
theorem updMemBerth_memBerth_ne (s : State) (k j f) (h : j ≠ k) : (s.updMemBerth k f).memBerth j = s.memBerth j := by
  unfold updMemBerth memBerth
  exact Tab.getD_put_ne _ _ _ _ _ h

/-! updCore -/

@[simp] theorem updCore_pending (s : State) (c f) : (s.updCore c f).pending = s.pending := rfl
@[simp] theorem updCore_freeCtr (s : State) (c f) : (s.updCore c f).freeCtr = s.freeCtr := rfl
@[simp] theorem updCore_time (s : State) (c f) : (s.updCore c f).time = s.time := rfl
@[simp] theorem updCore_log (s : State) (c f) : (s.updCore c f).log = s.log := rfl
@[simp] theorem updCore_net (s : State) (c f) : (s.updCore c f).net = s.net := rfl
@[simp] theorem updCore_mem (s : State) (c f) : (s.updCore c f).mem = s.mem := rfl
@[simp] theorem updCore_pound (s : State) (c f) : (s.updCore c f).pound = s.pound := rfl
@[simp] theorem updCore_work (s : State) (c f) : (s.updCore c f).work = s.work := rfl
@[simp] theorem updCore_base (s : State) (c f) : (s.updCore c f).base = s.base := rfl
@[simp] theorem updCore_light (s : State) (c f) : (s.updCore c f).light = s.light := rfl
@[simp] theorem updCore_torus (s : State) (c f) : (s.updCore c f).torus = s.torus := rfl
@[simp] theorem updCore_power (s : State) (c f) : (s.updCore c f).power = s.power := rfl
@[simp] theorem updCore_lk (s : State) (c f) : (s.updCore c f).lk = s.lk := rfl
@[simp] theorem updCore_sec (s : State) (c f) : (s.updCore c f).sec = s.sec := rfl
@[simp] theorem updCore_flash (s : State) (c f) : (s.updCore c f).flash = s.flash := rfl
@[simp] theorem updCore_boot (s : State) (c f) : (s.updCore c f).boot = s.boot := rfl
@[simp] theorem updCore_pins (s : State) (c f) : (s.updCore c f).pins = s.pins := rfl
@[simp] theorem updCore_stk_dies (s : State) (c f) : (s.updCore c f).stk.dies = s.stk.dies := rfl
@[simp] theorem updCore_stk_scratch (s : State) (c f) : (s.updCore c f).stk.scratch = s.stk.scratch := rfl
@[simp] theorem updCore_stk_badBytes (s : State) (c f) : (s.updCore c f).stk.badBytes = s.stk.badBytes := rfl
@[simp] theorem updCore_stk_routers (s : State) (c f) : (s.updCore c f).stk.routers = s.stk.routers := rfl
@[simp] theorem updCore_stk_chambers (s : State) (c f) : (s.updCore c f).stk.chambers = s.stk.chambers := rfl
@[simp] theorem updCore_stk_packetNo (s : State) (c f) : (s.updCore c f).stk.packetNo = s.stk.packetNo := rfl
@[simp] theorem updCore_ft (s : State) (c f) : (s.updCore c f).ft = s.ft := rfl
@[simp] theorem updCore_core (s : State) (c f) : (s.updCore c f).core c = f (s.core c) := by
  unfold updCore core
  simp
theorem updCore_core_ne (s : State) (c j f) (h : j ≠ c) : (s.updCore c f).core j = s.core j := by
  unfold updCore core
  exact Tab.getD_put_ne _ _ _ _ _ h

/-! updStack -/

@[simp] theorem updStack_pending (s : State) (k f) : (s.updStack k f).pending = s.pending := rfl
@[simp] theorem updStack_freeCtr (s : State) (k f) : (s.updStack k f).freeCtr = s.freeCtr := rfl
@[simp] theorem updStack_time (s : State) (k f) : (s.updStack k f).time = s.time := rfl
@[simp] theorem updStack_log (s : State) (k f) : (s.updStack k f).log = s.log := rfl
@[simp] theorem updStack_net (s : State) (k f) : (s.updStack k f).net = s.net := rfl
@[simp] theorem updStack_mem (s : State) (k f) : (s.updStack k f).mem = s.mem := rfl
@[simp] theorem updStack_pound (s : State) (k f) : (s.updStack k f).pound = s.pound := rfl
@[simp] theorem updStack_work (s : State) (k f) : (s.updStack k f).work = s.work := rfl
@[simp] theorem updStack_base (s : State) (k f) : (s.updStack k f).base = s.base := rfl
@[simp] theorem updStack_light (s : State) (k f) : (s.updStack k f).light = s.light := rfl
@[simp] theorem updStack_torus (s : State) (k f) : (s.updStack k f).torus = s.torus := rfl
@[simp] theorem updStack_power (s : State) (k f) : (s.updStack k f).power = s.power := rfl
@[simp] theorem updStack_lk (s : State) (k f) : (s.updStack k f).lk = s.lk := rfl
@[simp] theorem updStack_sec (s : State) (k f) : (s.updStack k f).sec = s.sec := rfl
@[simp] theorem updStack_flash (s : State) (k f) : (s.updStack k f).flash = s.flash := rfl
@[simp] theorem updStack_boot (s : State) (k f) : (s.updStack k f).boot = s.boot := rfl
@[simp] theorem updStack_pins (s : State) (k f) : (s.updStack k f).pins = s.pins := rfl
@[simp] theorem updStack_stk_cores (s : State) (k f) : (s.updStack k f).stk.cores = s.stk.cores := rfl
@[simp] theorem updStack_stk_scratch (s : State) (k f) : (s.updStack k f).stk.scratch = s.stk.scratch := rfl
@[simp] theorem updStack_stk_badBytes (s : State) (k f) : (s.updStack k f).stk.badBytes = s.stk.badBytes := rfl
@[simp] theorem updStack_stk_routers (s : State) (k f) : (s.updStack k f).stk.routers = s.stk.routers := rfl
@[simp] theorem updStack_stk_chambers (s : State) (k f) : (s.updStack k f).stk.chambers = s.stk.chambers := rfl
@[simp] theorem updStack_stk_packetNo (s : State) (k f) : (s.updStack k f).stk.packetNo = s.stk.packetNo := rfl
@[simp] theorem updStack_ft (s : State) (k f) : (s.updStack k f).ft = s.ft := rfl
@[simp] theorem updStack_stack (s : State) (k f) : (s.updStack k f).stack k = f (s.stack k) := by
  unfold updStack stack
  simp
theorem updStack_stack_ne (s : State) (k j f) (h : j ≠ k) : (s.updStack k f).stack j = s.stack j := by
  unfold updStack stack
  exact Tab.getD_put_ne _ _ _ _ _ h

/-! updRouter -/

@[simp] theorem updRouter_pending (s : State) (r f) : (s.updRouter r f).pending = s.pending := rfl
@[simp] theorem updRouter_freeCtr (s : State) (r f) : (s.updRouter r f).freeCtr = s.freeCtr := rfl
@[simp] theorem updRouter_time (s : State) (r f) : (s.updRouter r f).time = s.time := rfl
@[simp] theorem updRouter_log (s : State) (r f) : (s.updRouter r f).log = s.log := rfl
@[simp] theorem updRouter_net (s : State) (r f) : (s.updRouter r f).net = s.net := rfl
@[simp] theorem updRouter_mem (s : State) (r f) : (s.updRouter r f).mem = s.mem := rfl
@[simp] theorem updRouter_pound (s : State) (r f) : (s.updRouter r f).pound = s.pound := rfl
@[simp] theorem updRouter_work (s : State) (r f) : (s.updRouter r f).work = s.work := rfl
@[simp] theorem updRouter_base (s : State) (r f) : (s.updRouter r f).base = s.base := rfl
@[simp] theorem updRouter_light (s : State) (r f) : (s.updRouter r f).light = s.light := rfl
@[simp] theorem updRouter_torus (s : State) (r f) : (s.updRouter r f).torus = s.torus := rfl
@[simp] theorem updRouter_power (s : State) (r f) : (s.updRouter r f).power = s.power := rfl
@[simp] theorem updRouter_lk (s : State) (r f) : (s.updRouter r f).lk = s.lk := rfl
@[simp] theorem updRouter_sec (s : State) (r f) : (s.updRouter r f).sec = s.sec := rfl
@[simp] theorem updRouter_flash (s : State) (r f) : (s.updRouter r f).flash = s.flash := rfl
@[simp] theorem updRouter_boot (s : State) (r f) : (s.updRouter r f).boot = s.boot := rfl
@[simp] theorem updRouter_pins (s : State) (r f) : (s.updRouter r f).pins = s.pins := rfl
@[simp] theorem updRouter_stk_dies (s : State) (r f) : (s.updRouter r f).stk.dies = s.stk.dies := rfl
@[simp] theorem updRouter_stk_cores (s : State) (r f) : (s.updRouter r f).stk.cores = s.stk.cores := rfl
@[simp] theorem updRouter_stk_scratch (s : State) (r f) : (s.updRouter r f).stk.scratch = s.stk.scratch := rfl
@[simp] theorem updRouter_stk_badBytes (s : State) (r f) : (s.updRouter r f).stk.badBytes = s.stk.badBytes := rfl
@[simp] theorem updRouter_stk_chambers (s : State) (r f) : (s.updRouter r f).stk.chambers = s.stk.chambers := rfl
@[simp] theorem updRouter_stk_packetNo (s : State) (r f) : (s.updRouter r f).stk.packetNo = s.stk.packetNo := rfl
@[simp] theorem updRouter_ft (s : State) (r f) : (s.updRouter r f).ft = s.ft := rfl
@[simp] theorem updRouter_router (s : State) (r f) : (s.updRouter r f).router r = f (s.router r) := by
  unfold updRouter router
  simp
theorem updRouter_router_ne (s : State) (r j f) (h : j ≠ r) : (s.updRouter r f).router j = s.router j := by
  unfold updRouter router
  exact Tab.getD_put_ne _ _ _ _ _ h

/-! updChamber -/

@[simp] theorem updChamber_pending (s : State) (r f) : (s.updChamber r f).pending = s.pending := rfl
@[simp] theorem updChamber_freeCtr (s : State) (r f) : (s.updChamber r f).freeCtr = s.freeCtr := rfl
@[simp] theorem updChamber_time (s : State) (r f) : (s.updChamber r f).time = s.time := rfl
@[simp] theorem updChamber_log (s : State) (r f) : (s.updChamber r f).log = s.log := rfl
@[simp] theorem updChamber_net (s : State) (r f) : (s.updChamber r f).net = s.net := rfl
@[simp] theorem updChamber_mem (s : State) (r f) : (s.updChamber r f).mem = s.mem := rfl
@[simp] theorem updChamber_pound (s : State) (r f) : (s.updChamber r f).pound = s.pound := rfl
@[simp] theorem updChamber_work (s : State) (r f) : (s.updChamber r f).work = s.work := rfl
@[simp] theorem updChamber_base (s : State) (r f) : (s.updChamber r f).base = s.base := rfl
@[simp] theorem updChamber_light (s : State) (r f) : (s.updChamber r f).light = s.light := rfl
@[simp] theorem updChamber_torus (s : State) (r f) : (s.updChamber r f).torus = s.torus := rfl
@[simp] theorem updChamber_power (s : State) (r f) : (s.updChamber r f).power = s.power := rfl
@[simp] theorem updChamber_lk (s : State) (r f) : (s.updChamber r f).lk = s.lk := rfl
@[simp] theorem updChamber_sec (s : State) (r f) : (s.updChamber r f).sec = s.sec := rfl
@[simp] theorem updChamber_flash (s : State) (r f) : (s.updChamber r f).flash = s.flash := rfl
@[simp] theorem updChamber_boot (s : State) (r f) : (s.updChamber r f).boot = s.boot := rfl
@[simp] theorem updChamber_pins (s : State) (r f) : (s.updChamber r f).pins = s.pins := rfl
@[simp] theorem updChamber_stk_dies (s : State) (r f) : (s.updChamber r f).stk.dies = s.stk.dies := rfl
@[simp] theorem updChamber_stk_cores (s : State) (r f) : (s.updChamber r f).stk.cores = s.stk.cores := rfl
@[simp] theorem updChamber_stk_scratch (s : State) (r f) : (s.updChamber r f).stk.scratch = s.stk.scratch := rfl
@[simp] theorem updChamber_stk_badBytes (s : State) (r f) : (s.updChamber r f).stk.badBytes = s.stk.badBytes := rfl
@[simp] theorem updChamber_stk_routers (s : State) (r f) : (s.updChamber r f).stk.routers = s.stk.routers := rfl
@[simp] theorem updChamber_stk_packetNo (s : State) (r f) : (s.updChamber r f).stk.packetNo = s.stk.packetNo := rfl
@[simp] theorem updChamber_ft (s : State) (r f) : (s.updChamber r f).ft = s.ft := rfl
@[simp] theorem updChamber_chamber (s : State) (r f) : (s.updChamber r f).chamber r = f (s.chamber r) := by
  unfold updChamber chamber
  simp
theorem updChamber_chamber_ne (s : State) (r j f) (h : j ≠ r) : (s.updChamber r f).chamber j = s.chamber j := by
  unfold updChamber chamber
  exact Tab.getD_put_ne _ _ _ _ _ h

/-! updLink -/

@[simp] theorem updLink_pending (s : State) (l f) : (s.updLink l f).pending = s.pending := rfl
@[simp] theorem updLink_freeCtr (s : State) (l f) : (s.updLink l f).freeCtr = s.freeCtr := rfl
@[simp] theorem updLink_time (s : State) (l f) : (s.updLink l f).time = s.time := rfl
@[simp] theorem updLink_log (s : State) (l f) : (s.updLink l f).log = s.log := rfl
@[simp] theorem updLink_net (s : State) (l f) : (s.updLink l f).net = s.net := rfl
@[simp] theorem updLink_mem (s : State) (l f) : (s.updLink l f).mem = s.mem := rfl
@[simp] theorem updLink_pound (s : State) (l f) : (s.updLink l f).pound = s.pound := rfl
@[simp] theorem updLink_work (s : State) (l f) : (s.updLink l f).work = s.work := rfl
@[simp] theorem updLink_stk (s : State) (l f) : (s.updLink l f).stk = s.stk := rfl
@[simp] theorem updLink_light (s : State) (l f) : (s.updLink l f).light = s.light := rfl
@[simp] theorem updLink_torus (s : State) (l f) : (s.updLink l f).torus = s.torus := rfl
@[simp] theorem updLink_power (s : State) (l f) : (s.updLink l f).power = s.power := rfl
@[simp] theorem updLink_lk (s : State) (l f) : (s.updLink l f).lk = s.lk := rfl
@[simp] theorem updLink_sec (s : State) (l f) : (s.updLink l f).sec = s.sec := rfl
@[simp] theorem updLink_flash (s : State) (l f) : (s.updLink l f).flash = s.flash := rfl
@[simp] theorem updLink_boot (s : State) (l f) : (s.updLink l f).boot = s.boot := rfl
@[simp] theorem updLink_pins (s : State) (l f) : (s.updLink l f).pins = s.pins := rfl
@[simp] theorem updLink_base_epoch (s : State) (l f) : (s.updLink l f).base.epoch = s.base.epoch := rfl
@[simp] theorem updLink_base_windows (s : State) (l f) : (s.updLink l f).base.windows = s.base.windows := rfl
@[simp] theorem updLink_base_basins (s : State) (l f) : (s.updLink l f).base.basins = s.base.basins := rfl
@[simp] theorem updLink_base_returned (s : State) (l f) : (s.updLink l f).base.returned = s.base.returned := rfl
@[simp] theorem updLink_base_finished (s : State) (l f) : (s.updLink l f).base.finished = s.base.finished := rfl
@[simp] theorem updLink_base_reset (s : State) (l f) : (s.updLink l f).base.reset = s.base.reset := rfl
@[simp] theorem updLink_base_resetWanted (s : State) (l f) : (s.updLink l f).base.resetWanted = s.base.resetWanted := rfl
@[simp] theorem updLink_base_silent (s : State) (l f) : (s.updLink l f).base.silent = s.base.silent := rfl
@[simp] theorem updLink_base_kept (s : State) (l f) : (s.updLink l f).base.kept = s.base.kept := rfl
@[simp] theorem updLink_base_waiting (s : State) (l f) : (s.updLink l f).base.waiting = s.base.waiting := rfl
@[simp] theorem updLink_base_queues (s : State) (l f) : (s.updLink l f).base.queues = s.base.queues := rfl
@[simp] theorem updLink_base_queueHigh (s : State) (l f) : (s.updLink l f).base.queueHigh = s.base.queueHigh := rfl
@[simp] theorem updLink_ft (s : State) (l f) : (s.updLink l f).ft = s.ft := rfl
@[simp] theorem updLink_link (s : State) (l f) : (s.updLink l f).link l = f (s.link l) := by
  unfold updLink link
  simp
theorem updLink_link_ne (s : State) (l j f) (h : j ≠ l) : (s.updLink l f).link j = s.link j := by
  unfold updLink link
  exact Tab.getD_put_ne _ _ _ _ _ h

/-! updLaser -/

@[simp] theorem updLaser_pending (s : State) (i f) : (s.updLaser i f).pending = s.pending := rfl
@[simp] theorem updLaser_freeCtr (s : State) (i f) : (s.updLaser i f).freeCtr = s.freeCtr := rfl
@[simp] theorem updLaser_time (s : State) (i f) : (s.updLaser i f).time = s.time := rfl
@[simp] theorem updLaser_log (s : State) (i f) : (s.updLaser i f).log = s.log := rfl
@[simp] theorem updLaser_net (s : State) (i f) : (s.updLaser i f).net = s.net := rfl
@[simp] theorem updLaser_mem (s : State) (i f) : (s.updLaser i f).mem = s.mem := rfl
@[simp] theorem updLaser_pound (s : State) (i f) : (s.updLaser i f).pound = s.pound := rfl
@[simp] theorem updLaser_work (s : State) (i f) : (s.updLaser i f).work = s.work := rfl
@[simp] theorem updLaser_stk (s : State) (i f) : (s.updLaser i f).stk = s.stk := rfl
@[simp] theorem updLaser_base (s : State) (i f) : (s.updLaser i f).base = s.base := rfl
@[simp] theorem updLaser_torus (s : State) (i f) : (s.updLaser i f).torus = s.torus := rfl
@[simp] theorem updLaser_power (s : State) (i f) : (s.updLaser i f).power = s.power := rfl
@[simp] theorem updLaser_lk (s : State) (i f) : (s.updLaser i f).lk = s.lk := rfl
@[simp] theorem updLaser_sec (s : State) (i f) : (s.updLaser i f).sec = s.sec := rfl
@[simp] theorem updLaser_flash (s : State) (i f) : (s.updLaser i f).flash = s.flash := rfl
@[simp] theorem updLaser_boot (s : State) (i f) : (s.updLaser i f).boot = s.boot := rfl
@[simp] theorem updLaser_pins (s : State) (i f) : (s.updLaser i f).pins = s.pins := rfl
@[simp] theorem updLaser_light_groups (s : State) (i f) : (s.updLaser i f).light.groups = s.light.groups := rfl
@[simp] theorem updLaser_light_wrong (s : State) (i f) : (s.updLaser i f).light.wrong = s.light.wrong := rfl
@[simp] theorem updLaser_light_suspects (s : State) (i f) : (s.updLaser i f).light.suspects = s.light.suspects := rfl
@[simp] theorem updLaser_light_faded (s : State) (i f) : (s.updLaser i f).light.faded = s.light.faded := rfl
@[simp] theorem updLaser_light_swept (s : State) (i f) : (s.updLaser i f).light.swept = s.light.swept := rfl
@[simp] theorem updLaser_light_wrongLocks (s : State) (i f) : (s.updLaser i f).light.wrongLocks = s.light.wrongLocks := rfl
@[simp] theorem updLaser_light_suspectCount (s : State) (i f) : (s.updLaser i f).light.suspectCount = s.light.suspectCount := rfl
@[simp] theorem updLaser_light_calib (s : State) (i f) : (s.updLaser i f).light.calib = s.light.calib := rfl
@[simp] theorem updLaser_light_ringRejects (s : State) (i f) : (s.updLaser i f).light.ringRejects = s.light.ringRejects := rfl
@[simp] theorem updLaser_light_ringValue (s : State) (i f) : (s.updLaser i f).light.ringValue = s.light.ringValue := rfl
@[simp] theorem updLaser_light_ringCoef (s : State) (i f) : (s.updLaser i f).light.ringCoef = s.light.ringCoef := rfl
@[simp] theorem updLaser_light_calDue (s : State) (i f) : (s.updLaser i f).light.calDue = s.light.calDue := rfl
@[simp] theorem updLaser_light_rxOffset (s : State) (i f) : (s.updLaser i f).light.rxOffset = s.light.rxOffset := rfl
@[simp] theorem updLaser_ft (s : State) (i f) : (s.updLaser i f).ft = s.ft := rfl
@[simp] theorem updLaser_laser (s : State) (i f) : (s.updLaser i f).laser i = f (s.laser i) := by
  unfold updLaser laser
  simp
theorem updLaser_laser_ne (s : State) (i j f) (h : j ≠ i) : (s.updLaser i f).laser j = s.laser j := by
  unfold updLaser laser
  exact Tab.getD_put_ne _ _ _ _ _ h

/-! updGroup -/

@[simp] theorem updGroup_pending (s : State) (g f) : (s.updGroup g f).pending = s.pending := rfl
@[simp] theorem updGroup_freeCtr (s : State) (g f) : (s.updGroup g f).freeCtr = s.freeCtr := rfl
@[simp] theorem updGroup_time (s : State) (g f) : (s.updGroup g f).time = s.time := rfl
@[simp] theorem updGroup_log (s : State) (g f) : (s.updGroup g f).log = s.log := rfl
@[simp] theorem updGroup_net (s : State) (g f) : (s.updGroup g f).net = s.net := rfl
@[simp] theorem updGroup_mem (s : State) (g f) : (s.updGroup g f).mem = s.mem := rfl
@[simp] theorem updGroup_pound (s : State) (g f) : (s.updGroup g f).pound = s.pound := rfl
@[simp] theorem updGroup_work (s : State) (g f) : (s.updGroup g f).work = s.work := rfl
@[simp] theorem updGroup_stk (s : State) (g f) : (s.updGroup g f).stk = s.stk := rfl
@[simp] theorem updGroup_base (s : State) (g f) : (s.updGroup g f).base = s.base := rfl
@[simp] theorem updGroup_torus (s : State) (g f) : (s.updGroup g f).torus = s.torus := rfl
@[simp] theorem updGroup_power (s : State) (g f) : (s.updGroup g f).power = s.power := rfl
@[simp] theorem updGroup_lk (s : State) (g f) : (s.updGroup g f).lk = s.lk := rfl
@[simp] theorem updGroup_sec (s : State) (g f) : (s.updGroup g f).sec = s.sec := rfl
@[simp] theorem updGroup_flash (s : State) (g f) : (s.updGroup g f).flash = s.flash := rfl
@[simp] theorem updGroup_boot (s : State) (g f) : (s.updGroup g f).boot = s.boot := rfl
@[simp] theorem updGroup_pins (s : State) (g f) : (s.updGroup g f).pins = s.pins := rfl
@[simp] theorem updGroup_light_lasers (s : State) (g f) : (s.updGroup g f).light.lasers = s.light.lasers := rfl
@[simp] theorem updGroup_light_wrong (s : State) (g f) : (s.updGroup g f).light.wrong = s.light.wrong := rfl
@[simp] theorem updGroup_light_suspects (s : State) (g f) : (s.updGroup g f).light.suspects = s.light.suspects := rfl
@[simp] theorem updGroup_light_faded (s : State) (g f) : (s.updGroup g f).light.faded = s.light.faded := rfl
@[simp] theorem updGroup_light_swept (s : State) (g f) : (s.updGroup g f).light.swept = s.light.swept := rfl
@[simp] theorem updGroup_light_wrongLocks (s : State) (g f) : (s.updGroup g f).light.wrongLocks = s.light.wrongLocks := rfl
@[simp] theorem updGroup_light_suspectCount (s : State) (g f) : (s.updGroup g f).light.suspectCount = s.light.suspectCount := rfl
@[simp] theorem updGroup_light_calib (s : State) (g f) : (s.updGroup g f).light.calib = s.light.calib := rfl
@[simp] theorem updGroup_light_ringRejects (s : State) (g f) : (s.updGroup g f).light.ringRejects = s.light.ringRejects := rfl
@[simp] theorem updGroup_light_ringValue (s : State) (g f) : (s.updGroup g f).light.ringValue = s.light.ringValue := rfl
@[simp] theorem updGroup_light_ringCoef (s : State) (g f) : (s.updGroup g f).light.ringCoef = s.light.ringCoef := rfl
@[simp] theorem updGroup_light_calDue (s : State) (g f) : (s.updGroup g f).light.calDue = s.light.calDue := rfl
@[simp] theorem updGroup_light_rxOffset (s : State) (g f) : (s.updGroup g f).light.rxOffset = s.light.rxOffset := rfl
@[simp] theorem updGroup_ft (s : State) (g f) : (s.updGroup g f).ft = s.ft := rfl
@[simp] theorem updGroup_group (s : State) (g f) : (s.updGroup g f).group g = f (s.group g) := by
  unfold updGroup group
  simp
theorem updGroup_group_ne (s : State) (g j f) (h : j ≠ g) : (s.updGroup g f).group j = s.group j := by
  unfold updGroup group
  exact Tab.getD_put_ne _ _ _ _ _ h

/-! updTport -/

@[simp] theorem updTport_pending (s : State) (p f) : (s.updTport p f).pending = s.pending := rfl
@[simp] theorem updTport_freeCtr (s : State) (p f) : (s.updTport p f).freeCtr = s.freeCtr := rfl
@[simp] theorem updTport_time (s : State) (p f) : (s.updTport p f).time = s.time := rfl
@[simp] theorem updTport_log (s : State) (p f) : (s.updTport p f).log = s.log := rfl
@[simp] theorem updTport_net (s : State) (p f) : (s.updTport p f).net = s.net := rfl
@[simp] theorem updTport_mem (s : State) (p f) : (s.updTport p f).mem = s.mem := rfl
@[simp] theorem updTport_pound (s : State) (p f) : (s.updTport p f).pound = s.pound := rfl
@[simp] theorem updTport_work (s : State) (p f) : (s.updTport p f).work = s.work := rfl
@[simp] theorem updTport_stk (s : State) (p f) : (s.updTport p f).stk = s.stk := rfl
@[simp] theorem updTport_base (s : State) (p f) : (s.updTport p f).base = s.base := rfl
@[simp] theorem updTport_light (s : State) (p f) : (s.updTport p f).light = s.light := rfl
@[simp] theorem updTport_power (s : State) (p f) : (s.updTport p f).power = s.power := rfl
@[simp] theorem updTport_lk (s : State) (p f) : (s.updTport p f).lk = s.lk := rfl
@[simp] theorem updTport_sec (s : State) (p f) : (s.updTport p f).sec = s.sec := rfl
@[simp] theorem updTport_flash (s : State) (p f) : (s.updTport p f).flash = s.flash := rfl
@[simp] theorem updTport_boot (s : State) (p f) : (s.updTport p f).boot = s.boot := rfl
@[simp] theorem updTport_pins (s : State) (p f) : (s.updTport p f).pins = s.pins := rfl
@[simp] theorem updTport_torus_partition (s : State) (p f) : (s.updTport p f).torus.partition = s.torus.partition := rfl
@[simp] theorem updTport_torus_dims (s : State) (p f) : (s.updTport p f).torus.dims = s.torus.dims := rfl
@[simp] theorem updTport_torus_coord (s : State) (p f) : (s.updTport p f).torus.coord = s.torus.coord := rfl
@[simp] theorem updTport_torus_eligible (s : State) (p f) : (s.updTport p f).torus.eligible = s.torus.eligible := rfl
@[simp] theorem updTport_torus_inStep (s : State) (p f) : (s.updTport p f).torus.inStep = s.torus.inStep := rfl
@[simp] theorem updTport_torus_behindAt (s : State) (p f) : (s.updTport p f).torus.behindAt = s.torus.behindAt := rfl
@[simp] theorem updTport_torus_namedCut (s : State) (p f) : (s.updTport p f).torus.namedCut = s.torus.namedCut := rfl
@[simp] theorem updTport_torus_joining (s : State) (p f) : (s.updTport p f).torus.joining = s.torus.joining := rfl
@[simp] theorem updTport_torus_left (s : State) (p f) : (s.updTport p f).torus.left = s.torus.left := rfl
@[simp] theorem updTport_torus_linkDown (s : State) (p f) : (s.updTport p f).torus.linkDown = s.torus.linkDown := rfl
@[simp] theorem updTport_torus_held (s : State) (p f) : (s.updTport p f).torus.held = s.torus.held := rfl
@[simp] theorem updTport_torus_released (s : State) (p f) : (s.updTport p f).torus.released = s.torus.released := rfl
@[simp] theorem updTport_torus_releaseNo (s : State) (p f) : (s.updTport p f).torus.releaseNo = s.torus.releaseNo := rfl
@[simp] theorem updTport_torus_sent (s : State) (p f) : (s.updTport p f).torus.sent = s.torus.sent := rfl
@[simp] theorem updTport_torus_passages (s : State) (p f) : (s.updTport p f).torus.passages = s.torus.passages := rfl
@[simp] theorem updTport_torus_seen (s : State) (p f) : (s.updTport p f).torus.seen = s.torus.seen := rfl
@[simp] theorem updTport_torus_notices (s : State) (p f) : (s.updTport p f).torus.notices = s.torus.notices := rfl
@[simp] theorem updTport_torus_noticeNo (s : State) (p f) : (s.updTport p f).torus.noticeNo = s.torus.noticeNo := rfl
@[simp] theorem updTport_torus_control (s : State) (p f) : (s.updTport p f).torus.control = s.torus.control := rfl
@[simp] theorem updTport_torus_relays (s : State) (p f) : (s.updTport p f).torus.relays = s.torus.relays := rfl
@[simp] theorem updTport_torus_relayNo (s : State) (p f) : (s.updTport p f).torus.relayNo = s.torus.relayNo := rfl
@[simp] theorem updTport_torus_joiners (s : State) (p f) : (s.updTport p f).torus.joiners = s.torus.joiners := rfl
@[simp] theorem updTport_torus_flights (s : State) (p f) : (s.updTport p f).torus.flights = s.torus.flights := rfl
@[simp] theorem updTport_torus_delays (s : State) (p f) : (s.updTport p f).torus.delays = s.torus.delays := rfl
@[simp] theorem updTport_torus_timingAt (s : State) (p f) : (s.updTport p f).torus.timingAt = s.torus.timingAt := rfl
@[simp] theorem updTport_torus_nearest (s : State) (p f) : (s.updTport p f).torus.nearest = s.torus.nearest := rfl
@[simp] theorem updTport_torus_out (s : State) (p f) : (s.updTport p f).torus.out = s.torus.out := rfl
@[simp] theorem updTport_ft (s : State) (p f) : (s.updTport p f).ft = s.ft := rfl
@[simp] theorem updTport_tport (s : State) (p f) : (s.updTport p f).tport p = f (s.tport p) := by
  unfold updTport tport
  simp
theorem updTport_tport_ne (s : State) (p j f) (h : j ≠ p) : (s.updTport p f).tport j = s.tport j := by
  unfold updTport tport
  exact Tab.getD_put_ne _ _ _ _ _ h

/-! updGraph -/

@[simp] theorem updGraph_pending (s : State) (g f) : (s.updGraph g f).pending = s.pending := rfl
@[simp] theorem updGraph_freeCtr (s : State) (g f) : (s.updGraph g f).freeCtr = s.freeCtr := rfl
@[simp] theorem updGraph_time (s : State) (g f) : (s.updGraph g f).time = s.time := rfl
@[simp] theorem updGraph_log (s : State) (g f) : (s.updGraph g f).log = s.log := rfl
@[simp] theorem updGraph_net (s : State) (g f) : (s.updGraph g f).net = s.net := rfl
@[simp] theorem updGraph_mem (s : State) (g f) : (s.updGraph g f).mem = s.mem := rfl
@[simp] theorem updGraph_pound (s : State) (g f) : (s.updGraph g f).pound = s.pound := rfl
@[simp] theorem updGraph_stk (s : State) (g f) : (s.updGraph g f).stk = s.stk := rfl
@[simp] theorem updGraph_base (s : State) (g f) : (s.updGraph g f).base = s.base := rfl
@[simp] theorem updGraph_light (s : State) (g f) : (s.updGraph g f).light = s.light := rfl
@[simp] theorem updGraph_torus (s : State) (g f) : (s.updGraph g f).torus = s.torus := rfl
@[simp] theorem updGraph_power (s : State) (g f) : (s.updGraph g f).power = s.power := rfl
@[simp] theorem updGraph_lk (s : State) (g f) : (s.updGraph g f).lk = s.lk := rfl
@[simp] theorem updGraph_sec (s : State) (g f) : (s.updGraph g f).sec = s.sec := rfl
@[simp] theorem updGraph_flash (s : State) (g f) : (s.updGraph g f).flash = s.flash := rfl
@[simp] theorem updGraph_boot (s : State) (g f) : (s.updGraph g f).boot = s.boot := rfl
@[simp] theorem updGraph_pins (s : State) (g f) : (s.updGraph g f).pins = s.pins := rfl
@[simp] theorem updGraph_work_kernels (s : State) (g f) : (s.updGraph g f).work.kernels = s.work.kernels := rfl
@[simp] theorem updGraph_work_kgens (s : State) (g f) : (s.updGraph g f).work.kgens = s.work.kgens := rfl
@[simp] theorem updGraph_work_graphNo (s : State) (g f) : (s.updGraph g f).work.graphNo = s.work.graphNo := rfl
@[simp] theorem updGraph_work_msgs (s : State) (g f) : (s.updGraph g f).work.msgs = s.work.msgs := rfl
@[simp] theorem updGraph_work_msgNo (s : State) (g f) : (s.updGraph g f).work.msgNo = s.work.msgNo := rfl
@[simp] theorem updGraph_work_jobs (s : State) (g f) : (s.updGraph g f).work.jobs = s.work.jobs := rfl
@[simp] theorem updGraph_work_jobNo (s : State) (g f) : (s.updGraph g f).work.jobNo = s.work.jobNo := rfl
@[simp] theorem updGraph_work_relower (s : State) (g f) : (s.updGraph g f).work.relower = s.work.relower := rfl
@[simp] theorem updGraph_work_discarded (s : State) (g f) : (s.updGraph g f).work.discarded = s.work.discarded := rfl
@[simp] theorem updGraph_work_roleGens (s : State) (g f) : (s.updGraph g f).work.roleGens = s.work.roleGens := rfl
@[simp] theorem updGraph_work_admitTurn (s : State) (g f) : (s.updGraph g f).work.admitTurn = s.work.admitTurn := rfl
@[simp] theorem updGraph_ft (s : State) (g f) : (s.updGraph g f).ft = s.ft := rfl

/-! Graphs, tasks and members -/

theorem updGraph_graph? (s : State) (g f) : (s.updGraph g f).graph? g = (s.graph? g).map f := Tab.find?_modify _ _ _

theorem updGraph_graph?_ne (s : State) (g j f) (h : j ≠ g) : (s.updGraph g f).graph? j = s.graph? j :=
  Tab.find?_modify_ne _ _ _ _ h

theorem updTask_task? (s : State) (g t f) : (s.updTask g t f).task? g t = (s.task? g t).map f := by
  unfold updTask task?
  rw [updGraph_graph?]
  cases s.graph? g with
  | none => rfl
  | some x => exact Tab.find?_modify _ _ _

theorem updTask_task?_ne (s : State) (g t j k f) (h : (j, k) ≠ (g, t)) : (s.updTask g t f).task? j k = s.task? j k := by
  unfold updTask task?
  by_cases hg : j = g
  · subst hg
    have hk : k ≠ t := fun e => h (by rw [e])
    rw [updGraph_graph?]
    cases s.graph? j with
    | none => rfl
    | some x => exact Tab.find?_modify_ne _ _ _ _ hk
  · rw [updGraph_graph?_ne _ _ _ _ hg]

theorem updMember_member? (s : State) (m : MRef) (f) : (s.updMember m f).member? m = (s.member? m).map f := by
  unfold updMember member?
  rw [updTask_task?]
  cases s.task? m.slot m.task with
  | none => rfl
  | some x => exact Tab.find?_modify _ _ _

/-! updTask, updMember and updLk -/

@[simp] theorem updTask_pending (s : State) (g t f) : (s.updTask g t f).pending = s.pending := rfl
@[simp] theorem updMember_pending (s : State) (m f) : (s.updMember m f).pending = s.pending := rfl
@[simp] theorem updLk_pending (s : State) (i f) : (s.updLk i f).pending = s.pending := by cases i <;> rfl
@[simp] theorem updTask_freeCtr (s : State) (g t f) : (s.updTask g t f).freeCtr = s.freeCtr := rfl
@[simp] theorem updMember_freeCtr (s : State) (m f) : (s.updMember m f).freeCtr = s.freeCtr := rfl
@[simp] theorem updLk_freeCtr (s : State) (i f) : (s.updLk i f).freeCtr = s.freeCtr := by cases i <;> rfl
@[simp] theorem updTask_time (s : State) (g t f) : (s.updTask g t f).time = s.time := rfl
@[simp] theorem updMember_time (s : State) (m f) : (s.updMember m f).time = s.time := rfl
@[simp] theorem updLk_time (s : State) (i f) : (s.updLk i f).time = s.time := by cases i <;> rfl
@[simp] theorem updTask_log (s : State) (g t f) : (s.updTask g t f).log = s.log := rfl
@[simp] theorem updMember_log (s : State) (m f) : (s.updMember m f).log = s.log := rfl
@[simp] theorem updLk_log (s : State) (i f) : (s.updLk i f).log = s.log := by cases i <;> rfl
@[simp] theorem updTask_net (s : State) (g t f) : (s.updTask g t f).net = s.net := rfl
@[simp] theorem updMember_net (s : State) (m f) : (s.updMember m f).net = s.net := rfl
@[simp] theorem updLk_net (s : State) (i f) : (s.updLk i f).net = s.net := by cases i <;> rfl
@[simp] theorem updTask_mem (s : State) (g t f) : (s.updTask g t f).mem = s.mem := rfl
@[simp] theorem updMember_mem (s : State) (m f) : (s.updMember m f).mem = s.mem := rfl
@[simp] theorem updLk_mem (s : State) (i f) : (s.updLk i f).mem = s.mem := by cases i <;> rfl
@[simp] theorem updTask_pound (s : State) (g t f) : (s.updTask g t f).pound = s.pound := rfl
@[simp] theorem updMember_pound (s : State) (m f) : (s.updMember m f).pound = s.pound := rfl
@[simp] theorem updLk_pound (s : State) (i f) : (s.updLk i f).pound = s.pound := by cases i <;> rfl
@[simp] theorem updLk_work (s : State) (i f) : (s.updLk i f).work = s.work := by cases i <;> rfl
@[simp] theorem updTask_stk (s : State) (g t f) : (s.updTask g t f).stk = s.stk := rfl
@[simp] theorem updMember_stk (s : State) (m f) : (s.updMember m f).stk = s.stk := rfl
@[simp] theorem updLk_stk (s : State) (i f) : (s.updLk i f).stk = s.stk := by cases i <;> rfl
@[simp] theorem updTask_base (s : State) (g t f) : (s.updTask g t f).base = s.base := rfl
@[simp] theorem updMember_base (s : State) (m f) : (s.updMember m f).base = s.base := rfl
@[simp] theorem updLk_base (s : State) (i f) : (s.updLk i f).base = s.base := by cases i <;> rfl
@[simp] theorem updTask_light (s : State) (g t f) : (s.updTask g t f).light = s.light := rfl
@[simp] theorem updMember_light (s : State) (m f) : (s.updMember m f).light = s.light := rfl
@[simp] theorem updLk_light (s : State) (i f) : (s.updLk i f).light = s.light := by cases i <;> rfl
@[simp] theorem updTask_torus (s : State) (g t f) : (s.updTask g t f).torus = s.torus := rfl
@[simp] theorem updMember_torus (s : State) (m f) : (s.updMember m f).torus = s.torus := rfl
@[simp] theorem updLk_torus (s : State) (i f) : (s.updLk i f).torus = s.torus := by cases i <;> rfl
@[simp] theorem updTask_power (s : State) (g t f) : (s.updTask g t f).power = s.power := rfl
@[simp] theorem updMember_power (s : State) (m f) : (s.updMember m f).power = s.power := rfl
@[simp] theorem updLk_power (s : State) (i f) : (s.updLk i f).power = s.power := by cases i <;> rfl
@[simp] theorem updTask_lk (s : State) (g t f) : (s.updTask g t f).lk = s.lk := rfl
@[simp] theorem updMember_lk (s : State) (m f) : (s.updMember m f).lk = s.lk := rfl
@[simp] theorem updTask_sec (s : State) (g t f) : (s.updTask g t f).sec = s.sec := rfl
@[simp] theorem updMember_sec (s : State) (m f) : (s.updMember m f).sec = s.sec := rfl
@[simp] theorem updLk_sec (s : State) (i f) : (s.updLk i f).sec = s.sec := by cases i <;> rfl
@[simp] theorem updTask_flash (s : State) (g t f) : (s.updTask g t f).flash = s.flash := rfl
@[simp] theorem updMember_flash (s : State) (m f) : (s.updMember m f).flash = s.flash := rfl
@[simp] theorem updLk_flash (s : State) (i f) : (s.updLk i f).flash = s.flash := by cases i <;> rfl
@[simp] theorem updTask_boot (s : State) (g t f) : (s.updTask g t f).boot = s.boot := rfl
@[simp] theorem updMember_boot (s : State) (m f) : (s.updMember m f).boot = s.boot := rfl
@[simp] theorem updLk_boot (s : State) (i f) : (s.updLk i f).boot = s.boot := by cases i <;> rfl
@[simp] theorem updTask_pins (s : State) (g t f) : (s.updTask g t f).pins = s.pins := rfl
@[simp] theorem updMember_pins (s : State) (m f) : (s.updMember m f).pins = s.pins := rfl
@[simp] theorem updLk_pins (s : State) (i f) : (s.updLk i f).pins = s.pins := by cases i <;> rfl
@[simp] theorem updTask_work_kernels (s : State) (g t f) : (s.updTask g t f).work.kernels = s.work.kernels := rfl
@[simp] theorem updMember_work_kernels (s : State) (m f) : (s.updMember m f).work.kernels = s.work.kernels := rfl
@[simp] theorem updTask_work_kgens (s : State) (g t f) : (s.updTask g t f).work.kgens = s.work.kgens := rfl
@[simp] theorem updMember_work_kgens (s : State) (m f) : (s.updMember m f).work.kgens = s.work.kgens := rfl
@[simp] theorem updTask_work_graphNo (s : State) (g t f) : (s.updTask g t f).work.graphNo = s.work.graphNo := rfl
@[simp] theorem updMember_work_graphNo (s : State) (m f) : (s.updMember m f).work.graphNo = s.work.graphNo := rfl
@[simp] theorem updTask_work_msgs (s : State) (g t f) : (s.updTask g t f).work.msgs = s.work.msgs := rfl
@[simp] theorem updMember_work_msgs (s : State) (m f) : (s.updMember m f).work.msgs = s.work.msgs := rfl
@[simp] theorem updTask_work_msgNo (s : State) (g t f) : (s.updTask g t f).work.msgNo = s.work.msgNo := rfl
@[simp] theorem updMember_work_msgNo (s : State) (m f) : (s.updMember m f).work.msgNo = s.work.msgNo := rfl
@[simp] theorem updTask_work_jobs (s : State) (g t f) : (s.updTask g t f).work.jobs = s.work.jobs := rfl
@[simp] theorem updMember_work_jobs (s : State) (m f) : (s.updMember m f).work.jobs = s.work.jobs := rfl
@[simp] theorem updTask_work_jobNo (s : State) (g t f) : (s.updTask g t f).work.jobNo = s.work.jobNo := rfl
@[simp] theorem updMember_work_jobNo (s : State) (m f) : (s.updMember m f).work.jobNo = s.work.jobNo := rfl
@[simp] theorem updTask_work_relower (s : State) (g t f) : (s.updTask g t f).work.relower = s.work.relower := rfl
@[simp] theorem updMember_work_relower (s : State) (m f) : (s.updMember m f).work.relower = s.work.relower := rfl
@[simp] theorem updTask_work_discarded (s : State) (g t f) : (s.updTask g t f).work.discarded = s.work.discarded := rfl
@[simp] theorem updMember_work_discarded (s : State) (m f) : (s.updMember m f).work.discarded = s.work.discarded := rfl
@[simp] theorem updTask_work_roleGens (s : State) (g t f) : (s.updTask g t f).work.roleGens = s.work.roleGens := rfl
@[simp] theorem updMember_work_roleGens (s : State) (m f) : (s.updMember m f).work.roleGens = s.work.roleGens := rfl
@[simp] theorem updTask_work_admitTurn (s : State) (g t f) : (s.updTask g t f).work.admitTurn = s.work.admitTurn := rfl
@[simp] theorem updMember_work_admitTurn (s : State) (m f) : (s.updMember m f).work.admitTurn = s.work.admitTurn := rfl
@[simp] theorem updLk_lkOf (s : State) (i f) : (s.updLk i f).lkOf i = f (s.lkOf i) := by cases i <;> rfl
theorem updLk_lkOf_ne (s : State) (i j f) (h : j ≠ i) : (s.updLk i f).lkOf j = s.lkOf j := by cases i <;> cases j <;> first | rfl | exact absurd rfl h

end Sys2Proof.Machine.State
end

