-- ==== Sys2Proof/Laws/FixedOps.lean ====
section
/-!
SUPPORT. Every function of the shared operations and mail on states keeps the queue, the fuses and fabric time. A function that does not is not named; those are in Laws/Aging.lean.
-/

-- One proof after another: in parallel each asks for a thread and its stack.
set_option Elab.async false
set_option linter.all false

namespace Sys2Proof.Machine

/-- What no command but a few changes: the queue, the fuses, and fabric time. -/
def State.fixed (s : State) : List Instr × Fuses × Nat := (s.pending, s.sec.fuses, s.time.ft)

@[simp] theorem fixed_mk (p fc ti lo ne me po wo st ba li tr pw lk se fl bo pi) :
    State.fixed ⟨p, fc, ti, lo, ne, me, po, wo, st, ba, li, tr, pw, lk, se, fl, bo, pi⟩ = (p, se.fuses, ti.ft) := rfl

@[simp] theorem fixed_pack (s : State) : (s.pending, s.sec.fuses, s.time.ft) = s.fixed := rfl

@[simp] theorem foldl_fixed {α : Type} (f : State → α → State) (l : List α) (s : State) (h : ∀ s x, (f s x).fixed = s.fixed) :
    (l.foldl f s).fixed = s.fixed := by
  induction l generalizing s with
  | nil => rfl
  | cons x l ih => rw [List.foldl_cons, ih, h]

@[simp] theorem ite_fixed (c : Prop) [Decidable c] (a b : State) : (if c then a else b).fixed = if c then a.fixed else b.fixed := by
  split <;> rfl

@[simp] theorem ite_snd_fixed {α : Type} (c : Prop) [Decidable c] (a b : α × State) :
    (if c then a else b).2.fixed = if c then a.2.fixed else b.2.fixed := by
  split <;> rfl

theorem fixed_of_snd {α : Type} {p : α × State} {a : α} {s t : State} (h : p = (a, t)) (k : p.2.fixed = s.fixed) :
    t.fixed = s.fixed := by rw [h] at k; exact k

@[simp] theorem updIssuer_fixed (s a1 a2) : (State.updIssuer s a1 a2).fixed = s.fixed := by
  unfold State.updIssuer; simp

@[simp] theorem updEth_fixed (s a1 a2) : (State.updEth s a1 a2).fixed = s.fixed := by
  unfold State.updEth; simp

@[simp] theorem updSession_fixed (s a1 a2) : (State.updSession s a1 a2).fixed = s.fixed := by
  unfold State.updSession; simp

@[simp] theorem updBarge_fixed (s a1 a2) : (State.updBarge s a1 a2).fixed = s.fixed := by
  unfold State.updBarge; simp

@[simp] theorem updMemBerth_fixed (s a1 a2) : (State.updMemBerth s a1 a2).fixed = s.fixed := by
  unfold State.updMemBerth; simp

@[simp] theorem updCore_fixed (s a1 a2) : (State.updCore s a1 a2).fixed = s.fixed := by
  unfold State.updCore; simp

@[simp] theorem updStack_fixed (s a1 a2) : (State.updStack s a1 a2).fixed = s.fixed := by
  unfold State.updStack; simp

@[simp] theorem updRouter_fixed (s a1 a2) : (State.updRouter s a1 a2).fixed = s.fixed := by
  unfold State.updRouter; simp

@[simp] theorem updChamber_fixed (s a1 a2) : (State.updChamber s a1 a2).fixed = s.fixed := by
  unfold State.updChamber; simp

@[simp] theorem updLink_fixed (s a1 a2) : (State.updLink s a1 a2).fixed = s.fixed := by
  unfold State.updLink; simp

@[simp] theorem updLaser_fixed (s a1 a2) : (State.updLaser s a1 a2).fixed = s.fixed := by
  unfold State.updLaser; simp

@[simp] theorem updGroup_fixed (s a1 a2) : (State.updGroup s a1 a2).fixed = s.fixed := by
  unfold State.updGroup; simp

@[simp] theorem updTport_fixed (s a1 a2) : (State.updTport s a1 a2).fixed = s.fixed := by
  unfold State.updTport; simp

@[simp] theorem updGraph_fixed (s a1 a2) : (State.updGraph s a1 a2).fixed = s.fixed := by
  unfold State.updGraph; simp

@[simp] theorem updTask_fixed (s a1 a2 a3) : (State.updTask s a1 a2 a3).fixed = s.fixed := by
  unfold State.updTask; simp

@[simp] theorem updMember_fixed (s a1 a2) : (State.updMember s a1 a2).fixed = s.fixed := by
  unfold State.updMember; simp

@[simp] theorem updLk_fixed (s a1 a2) : (State.updLk s a1 a2).fixed = s.fixed := by
  unfold State.updLk
  try simp
  repeat' (first | (split <;> try simp) | (refine (foldl_fixed _ _ _ (fun _ _ => ?_)).trans ?_ <;> try simp))

@[simp] theorem draw_fixed (s) : (draw s).2.fixed = s.fixed := by
  unfold draw; simp

@[simp] theorem drawBelow_fixed (a0 s) : (drawBelow a0 s).2.fixed = s.fixed := by
  unfold drawBelow; simp

@[simp] theorem issueStamp_fixed (a0 a1 s) : (issueStamp a0 a1 s).2.fixed = s.fixed := by
  unfold issueStamp; simp

@[simp] theorem appendEntry_fixed (a0 s) : (appendEntry a0 s).fixed = s.fixed := by
  unfold appendEntry
  try simp
  repeat' (first | (split <;> try simp) | (refine (foldl_fixed _ _ _ (fun _ _ => ?_)).trans ?_ <;> try simp))

@[simp] theorem putWire_fixed (a0 s) : (putWire a0 s).fixed = s.fixed := by
  unfold putWire; simp

@[simp] theorem unpause_fixed (a0 s) : (unpause a0 s).fixed = s.fixed := by
  unfold unpause; simp

@[simp] theorem pausesEnd_fixed (s) : (pausesEnd s).fixed = s.fixed := by
  unfold pausesEnd; simp

@[simp] theorem noticeToAddress_fixed (a0 s) : (noticeToAddress a0 s).fixed = s.fixed := by
  unfold noticeToAddress; simp

@[simp] theorem logEventR_fixed (a0 a1 a2 s) : (logEventR a0 a1 a2 s).fixed = s.fixed := by
  unfold logEventR; simp

@[simp] theorem logEvent_fixed (a0 a1 s) : (logEvent a0 a1 s).fixed = s.fixed := by
  unfold logEvent; simp

@[simp] theorem alertPin_fixed (s) : (alertPin s).fixed = s.fixed := by
  unfold alertPin; simp

@[simp] theorem raiseFault_fixed (a0 a1 s) : (raiseFault a0 a1 s).fixed = s.fixed := by
  unfold raiseFault
  try simp
  repeat' (first | (split <;> try simp) | (refine (foldl_fixed _ _ _ (fun _ _ => ?_)).trans ?_ <;> try simp))

@[simp] theorem sendFrame_fixed (a0 a1 a2 a3 a4 s) : (sendFrame a0 a1 a2 a3 a4 s).fixed = s.fixed := by
  unfold sendFrame; simp

@[simp] theorem sendAck_fixed (a0 s) : (sendAck a0 s).fixed = s.fixed := by
  unfold sendAck; simp

@[simp] theorem sendSequenced_fixed (a0 a1 a2 a3 a4 a5 s) : (sendSequenced a0 a1 a2 a3 a4 a5 s).fixed = s.fixed := by
  unfold sendSequenced; simp

@[simp] theorem queueMail_fixed (a0 a1 a2 s) : (queueMail a0 a1 a2 s).fixed = s.fixed := by
  unfold queueMail; simp

@[simp] theorem sendReply_fixed (a0 a1 a2 s) : (sendReply a0 a1 a2 s).fixed = s.fixed := by
  unfold sendReply
  try simp
  repeat' (first | (split <;> try simp) | (refine (foldl_fixed _ _ _ (fun _ _ => ?_)).trans ?_ <;> try simp))

@[simp] theorem answer_fixed (a0 a1 a2 a3 a4 s) : (answer a0 a1 a2 a3 a4 s).fixed = s.fixed := by
  unfold answer; simp

@[simp] theorem addJob_fixed (a0 a1 a2 a3 s) : (addJob a0 a1 a2 a3 s).fixed = s.fixed := by
  unfold addJob; simp

@[simp] theorem endJob_fixed (a0 a1 a2 s) : (endJob a0 a1 a2 s).fixed = s.fixed := by
  unfold endJob
  try simp
  repeat' (first | (split <;> try simp) | (refine (foldl_fixed _ _ _ (fun _ _ => ?_)).trans ?_ <;> try simp))

@[simp] theorem retireFrame_fixed (a0 a1 s) : (retireFrame a0 a1 s).fixed = s.fixed := by
  unfold retireFrame; simp

@[simp] theorem releaseFrames_fixed (a0 s) : (releaseFrames a0 s).fixed = s.fixed := by
  unfold releaseFrames
  try simp
  repeat' (first | (split <;> try simp) | (refine (foldl_fixed _ _ _ (fun _ _ => ?_)).trans ?_ <;> try simp) | (intro _ <;> try simp))

@[simp] theorem tableUpdate_fixed (a0 s) : (tableUpdate a0 s).fixed = s.fixed := by
  unfold tableUpdate; simp

@[simp] theorem tablesUpdate_fixed (s) : (tablesUpdate s).fixed = s.fixed := by
  unfold tablesUpdate; simp

@[simp] theorem releasePins_fixed (a0 s) : (releasePins a0 s).fixed = s.fixed := by
  unfold releasePins; simp

@[simp] theorem endBarge_fixed (a0 a1 s) : (endBarge a0 a1 s).fixed = s.fixed := by
  unfold endBarge
  try simp
  repeat' (first | (split <;> try simp) | (refine (foldl_fixed _ _ _ (fun _ _ => ?_)).trans ?_ <;> try simp))

@[simp] theorem endBarges_fixed (a0 a1 s) : (endBarges a0 a1 s).fixed = s.fixed := by
  unfold endBarges; simp

@[simp] theorem poolFrame_fixed (s) : (poolFrame s).2.fixed = s.fixed := by
  unfold poolFrame; simp

@[simp] theorem takeSlot_fixed (s) : (takeSlot s).2.fixed = s.fixed := by
  unfold takeSlot; simp

@[simp] theorem wornCheck_fixed (a0 s) : (wornCheck a0 s).fixed = s.fixed := by
  unfold wornCheck; simp

@[simp] theorem tookLine_fixed (a0 s) : (tookLine a0 s).fixed = s.fixed := by
  unfold tookLine; simp

@[simp] theorem poisonLine_fixed (a0 a1 s) : (poisonLine a0 a1 s).fixed = s.fixed := by
  unfold poisonLine
  try simp
  repeat' (first | (split <;> try simp) | (refine (foldl_fixed _ _ _ (fun _ _ => ?_)).trans ?_ <;> try simp) | (intro _ <;> try simp))

@[simp] theorem parityReport_fixed (a0 a1 a2 s) : (parityReport a0 a1 a2 s).fixed = s.fixed := by
  unfold parityReport; simp

@[simp] theorem retireLater_fixed (a0 a1 s) : (retireLater a0 a1 s).fixed = s.fixed := by
  unfold retireLater; simp

@[simp] theorem heldOutcome_fixed (a0 a1 s) : (heldOutcome a0 a1 s).fixed = s.fixed := by
  unfold heldOutcome
  try simp
  repeat' (first | (split <;> try simp) | (refine (foldl_fixed _ _ _ (fun _ _ => ?_)).trans ?_ <;> try simp) | (intro _ <;> try simp))

@[simp] theorem byteError_fixed (a0 s) : (byteError a0 s).fixed = s.fixed := by
  unfold byteError
  try simp
  repeat' (first | (split <;> try simp) | (refine (foldl_fixed _ _ _ (fun _ _ => ?_)).trans ?_ <;> try simp) | (intro _ <;> try simp))

@[simp] theorem parityFault_fixed (a0 s) : (parityFault a0 s).fixed = s.fixed := by
  unfold parityFault
  try simp
  repeat' (first | (split <;> try simp) | (refine (foldl_fixed _ _ _ (fun _ _ => ?_)).trans ?_ <;> try simp) | (intro _ <;> try simp))

@[simp] theorem parityRetry_fixed (a0 s) : (parityRetry a0 s).fixed = s.fixed := by
  unfold parityRetry; simp

@[simp] theorem paritySeen_fixed (a0 a1 s) : (paritySeen a0 a1 s).fixed = s.fixed := by
  unfold paritySeen
  try simp
  repeat' (first | (split <;> try simp) | (refine (foldl_fixed _ _ _ (fun _ _ => ?_)).trans ?_ <;> try simp) | (intro _ <;> try simp))

@[simp] theorem readErrors_fixed (a0 a1 a2 s) : (readErrors a0 a1 a2 s).fixed = s.fixed := by
  unfold readErrors; simp

@[simp] theorem carryWrong_fixed (a0 a1 s) : (carryWrong a0 a1 s).fixed = s.fixed := by
  unfold carryWrong; simp

@[simp] theorem addShadow_fixed (a0 a1 s) : (addShadow a0 a1 s).fixed = s.fixed := by
  unfold addShadow
  try simp
  repeat' (first | (split <;> try simp) | (refine (foldl_fixed _ _ _ (fun _ _ => ?_)).trans ?_ <;> try simp) | (intro _ <;> try simp))

@[simp] theorem countDone_fixed (a0 a1 s) : (countDone a0 a1 s).fixed = s.fixed := by
  unfold countDone; simp

@[simp] theorem noteBargeWrite_fixed (a0 a1 s) : (noteBargeWrite a0 a1 s).fixed = s.fixed := by
  unfold noteBargeWrite
  try simp
  repeat' (first | (split <;> try simp) | (refine (foldl_fixed _ _ _ (fun _ _ => ?_)).trans ?_ <;> try simp))

@[simp] theorem storeParity_fixed (a0 a1 a2 s) : (storeParity a0 a1 a2 s).fixed = s.fixed := by
  unfold storeParity; simp

@[simp] theorem secondShadow_fixed (a0 a1 a2 a3 a4 s) : (secondShadow a0 a1 a2 a3 a4 s).fixed = s.fixed := by
  unfold secondShadow
  try simp
  repeat' (first | (split <;> try simp) | (refine (foldl_fixed _ _ _ (fun _ _ => ?_)).trans ?_ <;> try simp) | (intro _ <;> try simp))

@[simp] theorem lineTest_fixed (a0 a1 a2 a3 a4 a5 a6 s) : (lineTest a0 a1 a2 a3 a4 a5 a6 s).fixed = s.fixed := by
  unfold lineTest
  try simp
  repeat' (first | (split <;> try simp) | (refine (foldl_fixed _ _ _ (fun _ _ => ?_)).trans ?_ <;> try simp) | (intro _ <;> try simp))

@[simp] theorem linesTest_fixed (a0 a1 a2 a3 s) : (linesTest a0 a1 a2 a3 s).fixed = s.fixed := by
  unfold linesTest
  try simp
  repeat' (first | (split <;> try simp) | (refine (foldl_fixed _ _ _ (fun _ _ => ?_)).trans ?_ <;> try simp) | (intro _ <;> try simp))

@[simp] theorem foldShare_fixed (a0 a1 s) : (foldShare a0 a1 s).fixed = s.fixed := by
  unfold foldShare; simp

@[simp] theorem foldStep_fixed (a0 s) : (foldStep a0 s).fixed = s.fixed := by
  unfold foldStep
  try simp
  repeat' (first | (split <;> try simp) | (refine (foldl_fixed _ _ _ (fun _ _ => ?_)).trans ?_ <;> try simp) | (refine orRefuse_fixed _ _ _ _ _ _ (fun _ _ => ?_); try simp))

@[simp] theorem foldPage_fixed (a0 s) : (foldPage a0 s).fixed = s.fixed := by
  unfold foldPage
  try simp
  repeat' (first | (split <;> try simp) | (refine (foldl_fixed _ _ _ (fun _ _ => ?_)).trans ?_ <;> try simp) | (intro _ <;> try simp))

@[simp] theorem foldFull_fixed (a0 s) : (foldFull a0 s).fixed = s.fixed := by
  unfold foldFull
  try simp
  repeat' (first | (split <;> try simp) | (refine (foldl_fixed _ _ _ (fun _ _ => ?_)).trans ?_ <;> try simp) | (intro _ <;> try simp))

@[simp] theorem applyWrite_fixed (a0 s) : (applyWrite a0 s).fixed = s.fixed := by
  unfold applyWrite
  try simp
  repeat' (first | (split <;> try simp) | (refine (foldl_fixed _ _ _ (fun _ _ => ?_)).trans ?_ <;> try simp))

@[simp] theorem countIssued_fixed (a0 a1 s) : (countIssued a0 a1 s).fixed = s.fixed := by
  unfold countIssued; simp

@[simp] theorem newWrite_fixed (a0 s) : (newWrite a0 s).2.fixed = s.fixed := by
  unfold newWrite; simp

@[simp] theorem stampWrite_fixed (a0 s) : (stampWrite a0 s).fixed = s.fixed := by
  unfold stampWrite
  try simp
  repeat' (first | (split <;> try simp) | (refine (foldl_fixed _ _ _ (fun _ _ => ?_)).trans ?_ <;> try simp))

@[simp] theorem dropMail_fixed (a0 a1 s) : (dropMail a0 a1 s).fixed = s.fixed := by
  unfold dropMail
  try simp
  repeat' (first | (split <;> try simp) | (refine (foldl_fixed _ _ _ (fun _ _ => ?_)).trans ?_ <;> try simp))

@[simp] theorem checkpointStep_fixed (s) : (checkpointStep s).fixed = s.fixed := by
  unfold checkpointStep; simp

theorem takeMail_fixed {src sel s m t} (h : takeMail src sel s = some (m, t)) : t.fixed = s.fixed := by
  unfold takeMail at h
  split at h
  · cases h
  · split at h <;> cases h
    simp

@[simp] theorem mailStepSel_fixed (src code sel body s) (h : ∀ c m s, (body c m s).fixed = s.fixed) :
    (mailStepSel src code sel body s).fixed = s.fixed := by
  unfold mailStepSel
  split
  · rfl
  · rename_i m t e
    have := takeMail_fixed e
    simp [h, this]

@[simp] theorem mailStep_fixed (src code body s) (h : ∀ c m s, (body c m s).fixed = s.fixed) :
    (mailStep src code body s).fixed = s.fixed := mailStepSel_fixed _ _ _ _ _ h

@[simp] theorem refuseUnparsed_fixed (src s) : (refuseUnparsed src s).fixed = s.fixed := by
  unfold refuseUnparsed
  split
  · rfl
  · rename_i m t e
    have := takeMail_fixed e
    simp [this]

@[simp] theorem sourceErrors_fixed (a0 a1 a2 s) : (sourceErrors a0 a1 a2 s).fixed = s.fixed := by
  unfold sourceErrors
  try simp
  repeat' (first | (split <;> try simp) | (refine (foldl_fixed _ _ _ (fun _ _ => ?_)).trans ?_ <;> try simp) | (intro _ <;> try simp))

@[simp] theorem orRefuse_fixed {α : Type} (src code corr) (r : Nat ⊕ α) (k s) (h : ∀ x s, (k x s).fixed = s.fixed) :
    (orRefuse src code corr r k s).fixed = s.fixed := by
  unfold orRefuse
  split <;> simp [h]

@[simp] theorem allot_fixed (a0 s) : (allot a0 s).fixed = s.fixed := by
  unfold allot; simp

@[simp] theorem addWindow_fixed (a0 a1 a2 a3 s) : (addWindow a0 a1 a2 a3 s).fixed = s.fixed := by
  unfold addWindow; simp

@[simp] theorem nextWindow_fixed (a0 a1 s) : (nextWindow a0 a1 s).fixed = s.fixed := by
  unfold nextWindow; simp

@[simp] theorem maintenance_fixed (a0 a1 s) : (maintenance a0 a1 s).fixed = s.fixed := by
  unfold maintenance; simp

@[simp] theorem grantStamp_fixed (a0 s) : (grantStamp a0 s).fixed = s.fixed := by
  unfold grantStamp
  try simp
  repeat' (first | (split <;> try simp) | (refine (foldl_fixed _ _ _ (fun _ _ => ?_)).trans ?_ <;> try simp) | (refine orRefuse_fixed _ _ _ _ _ _ (fun _ _ => ?_); try simp))

@[simp] theorem linkTakes_fixed (a0 a1 a2 s) : (linkTakes a0 a1 a2 s).fixed = s.fixed := by
  unfold linkTakes; simp

@[simp] theorem installPort_fixed (a0 a1 s) : (installPort a0 a1 s).fixed = s.fixed := by
  unfold installPort
  try simp
  repeat' (first | (split <;> try simp) | (refine (foldl_fixed _ _ _ (fun _ _ => ?_)).trans ?_ <;> try simp) | (refine orRefuse_fixed _ _ _ _ _ _ (fun _ _ => ?_); try simp))

@[simp] theorem admitList_fixed (b l h s) : (admitList b l h s).2.fixed = s.fixed := by
  induction l generalizing h s with
  | nil => rfl
  | cons w l ih =>
    unfold admitList
    dsimp only
    split
    · exact ih _ _
    · split
      · exact ih _ _
      · split
        · simp [ih]
        · simp [ih]

@[simp] theorem admitBerth_fixed (a0 s) : (admitBerth a0 s).fixed = s.fixed := by
  unfold admitBerth; simp

@[simp] theorem enterBerth_fixed (a0 a1 a2 s) : (enterBerth a0 a1 a2 s).fixed = s.fixed := by
  unfold enterBerth; simp

@[simp] theorem takeBack_fixed (a0 a1 s) : (takeBack a0 a1 s).fixed = s.fixed := by
  unfold takeBack; simp

@[simp] theorem admitAll_fixed (s) : (admitAll s).fixed = s.fixed := by
  unfold admitAll; simp

@[simp] theorem torusHop_fixed (a0 a1 a2 a3 a4 s) : (torusHop a0 a1 a2 a3 a4 s).fixed = s.fixed := by
  unfold torusHop; simp

@[simp] theorem sendTorusPacket_fixed (a0 a1 a2 a3 a4 a5 s) : (sendTorusPacket a0 a1 a2 a3 a4 a5 s).fixed = s.fixed := by
  unfold sendTorusPacket
  try simp
  repeat' (first | (split <;> try simp) | (refine (foldl_fixed _ _ _ (fun _ _ => ?_)).trans ?_ <;> try simp) | (refine orRefuse_fixed _ _ _ _ _ _ (fun _ _ => ?_); try simp))

@[simp] theorem sendRelay_fixed (a0 a1 s) : (sendRelay a0 a1 s).fixed = s.fixed := by
  unfold sendRelay
  try simp
  repeat' (first | (split <;> try simp) | (refine (foldl_fixed _ _ _ (fun _ _ => ?_)).trans ?_ <;> try simp) | (refine (orRefuse_fixed _ _ _ _ _ _ (fun _ _ => ?_)).trans ?_ <;> try simp) | (intro _ <;> try simp))

@[simp] theorem relay_fixed (a0 a1 s) : (relay a0 a1 s).fixed = s.fixed := by
  unfold relay
  try simp
  repeat' (first | (split <;> try simp) | (refine (foldl_fixed _ _ _ (fun _ _ => ?_)).trans ?_ <;> try simp) | (refine (orRefuse_fixed _ _ _ _ _ _ (fun _ _ => ?_)).trans ?_ <;> try simp) | (intro _ <;> try simp))

@[simp] theorem sendNeighbour_fixed (a0 a1 s) : (sendNeighbour a0 a1 s).fixed = s.fixed := by
  unfold sendNeighbour; simp

@[simp] theorem sendControl_fixed (a0 a1 a2 s) : (sendControl a0 a1 a2 s).fixed = s.fixed := by
  unfold sendControl; simp

@[simp] theorem torusSend_fixed (a0 s) : (torusSend a0 s).fixed = s.fixed := by
  unfold torusSend; simp

@[simp] theorem floodNotice_fixed (a0 a1 a2 s) : (floodNotice a0 a1 a2 s).fixed = s.fixed := by
  unfold floodNotice; simp

@[simp] theorem announce_fixed (a0 s) : (announce a0 s).fixed = s.fixed := by
  unfold announce; simp

@[simp] theorem routeNotice_fixed (a0 a1 s) : (routeNotice a0 a1 s).fixed = s.fixed := by
  unfold routeNotice
  try simp
  repeat' (first | (split <;> try simp) | (refine (foldl_fixed _ _ _ (fun _ _ => ?_)).trans ?_ <;> try simp) | (refine (orRefuse_fixed _ _ _ _ _ _ (fun _ _ => ?_)).trans ?_ <;> try simp) | (intro _ <;> try simp))

@[simp] theorem sendNotice_fixed (a0 s) : (sendNotice a0 s).fixed = s.fixed := by
  unfold sendNotice; simp

@[simp] theorem moveEnds_fixed (a0 s) : (moveEnds a0 s).fixed = s.fixed := by
  unfold moveEnds; simp

@[simp] theorem recount_fixed (a0 s) : (recount a0 s).fixed = s.fixed := by
  unfold recount
  try simp
  repeat' (first | (split <;> try simp) | (refine (foldl_fixed _ _ _ (fun _ _ => ?_)).trans ?_ <;> try simp) | (refine orRefuse_fixed _ _ _ _ _ _ (fun _ _ => ?_); try simp))

@[simp] theorem deferCut_fixed (a0 a1 s) : (deferCut a0 a1 s).fixed = s.fixed := by
  unfold deferCut; simp

@[simp] theorem nameCut_fixed (a0 a1 s) : (nameCut a0 a1 s).fixed = s.fixed := by
  unfold nameCut
  try simp
  repeat' (first | (split <;> try simp) | (refine (foldl_fixed _ _ _ (fun _ _ => ?_)).trans ?_ <;> try simp) | (refine orRefuse_fixed _ _ _ _ _ _ (fun _ _ => ?_); try simp))

@[simp] theorem joinCut_fixed (a0 a1 a2 s) : (joinCut a0 a1 a2 s).fixed = s.fixed := by
  unfold joinCut; simp

@[simp] theorem masterCut_fixed (a0 s) : (masterCut a0 s).2.fixed = s.fixed := by
  unfold masterCut; simp

@[simp] theorem takeCut_fixed (a0 a1 a2 s) : (takeCut a0 a1 a2 s).fixed = s.fixed := by
  unfold takeCut
  try simp
  repeat' (first | (split <;> try simp) | (refine (foldl_fixed _ _ _ (fun _ _ => ?_)).trans ?_ <;> try simp) | (refine (orRefuse_fixed _ _ _ _ _ _ (fun _ _ => ?_)).trans ?_ <;> try simp) | (intro _ <;> try simp))

@[simp] theorem joinSerial_fixed (s) : (joinSerial s).2.fixed = s.fixed := by
  unfold joinSerial; simp

@[simp] theorem answerJoiners_fixed (a0 a1 s) : (answerJoiners a0 a1 s).fixed = s.fixed := by
  unfold answerJoiners; simp

@[simp] theorem nameMasterCut_fixed (a0 a1 s) : (nameMasterCut a0 a1 s).fixed = s.fixed := by
  unfold nameMasterCut; simp

@[simp] theorem askClose_fixed (a0 a1 s) : (askClose a0 a1 s).fixed = s.fixed := by
  unfold askClose; simp

@[simp] theorem poolTrigger_fixed (s) : (poolTrigger s).fixed = s.fixed := by
  unfold poolTrigger; simp

@[simp] theorem setTimeMode_fixed (a0 s) : (setTimeMode a0 s).fixed = s.fixed := by
  unfold setTimeMode; simp

@[simp] theorem reselect_fixed (s) : (reselect s).fixed = s.fixed := by
  unfold reselect; simp

@[simp] theorem mailIdentify_fixed (a0 a1 a2 s) : (mailIdentify a0 a1 a2 s).fixed = s.fixed := by
  unfold mailIdentify; simp

@[simp] theorem answerStamped_fixed (src code corr pre post s) : (answerStamped src code corr pre post s).fixed = s.fixed := by
  unfold answerStamped
  split <;> rename_i e <;> simpa using fixed_of_snd e (issueStamp_fixed _ _ _)

@[simp] theorem mailFtRead_fixed (a0 a1 a2 s) : (mailFtRead a0 a1 a2 s).fixed = s.fixed := by
  unfold mailFtRead; simp

@[simp] theorem mailPoundStatus_fixed (a0 a1 a2 s) : (mailPoundStatus a0 a1 a2 s).fixed = s.fixed := by
  unfold mailPoundStatus; simp

@[simp] theorem mailEventSubscribe_fixed (a0 a1 a2 s) : (mailEventSubscribe a0 a1 a2 s).fixed = s.fixed := by
  unfold mailEventSubscribe
  try simp
  repeat' (first | (split <;> try simp) | (refine (foldl_fixed _ _ _ (fun _ _ => ?_)).trans ?_ <;> try simp) | (refine orRefuse_fixed _ _ _ _ _ _ (fun _ _ => ?_); try simp))

@[simp] theorem mailEventRead_fixed (a0 a1 a2 s) : (mailEventRead a0 a1 a2 s).fixed = s.fixed := by
  unfold mailEventRead; simp

theorem createBuffer_fixed {size r s a b t} (h : createBuffer size r s = .inr (a, b, t)) : t.fixed = s.fixed := by
  unfold createBuffer at h
  simp only at h
  repeat' (split at h)
  all_goals simp only [Sum.inr.injEq, Prod.mk.injEq, reduceCtorEq] at h
  obtain ⟨-, -, rfl⟩ := h
  rfl

@[simp] theorem mailBufCreate_fixed (src corr m s) : (mailBufCreate src corr m s).fixed = s.fixed := by
  unfold mailBufCreate
  split
  · simp
  · rename_i e
    simpa using createBuffer_fixed e

@[simp] theorem freeBuffer_fixed (a0 a1 s) : (freeBuffer a0 a1 s).fixed = s.fixed := by
  unfold freeBuffer
  try simp
  repeat' (first | (split <;> try simp) | (refine (foldl_fixed _ _ _ (fun _ _ => ?_)).trans ?_ <;> try simp) | (refine orRefuse_fixed _ _ _ _ _ _ (fun _ _ => ?_); try simp))

@[simp] theorem mailBufFree_fixed (a0 a1 a2 s) : (mailBufFree a0 a1 a2 s).fixed = s.fixed := by
  unfold mailBufFree
  try simp
  repeat' (first | (split <;> try simp) | (refine (foldl_fixed _ _ _ (fun _ _ => ?_)).trans ?_ <;> try simp) | (refine orRefuse_fixed _ _ _ _ _ _ (fun _ _ => ?_); try simp))

@[simp] theorem liveRead_fixed (a0 a1 s) : (liveRead a0 a1 s).2.fixed = s.fixed := by
  unfold liveRead; simp

@[simp] theorem mailMemRead_fixed (a0 a1 a2 s) : (mailMemRead a0 a1 a2 s).fixed = s.fixed := by
  unfold mailMemRead; simp

@[simp] theorem mailBargeOpen_fixed (a0 a1 a2 s) : (mailBargeOpen a0 a1 a2 s).fixed = s.fixed := by
  unfold mailBargeOpen
  dsimp only
  refine (orRefuse_fixed _ _ _ _ _ _ (fun _ _ => ?_)).trans ?_
  · split
    · simp
    · split <;> simp
  · split <;> simp

@[simp] theorem mailBargeCancel_fixed (a0 a1 a2 s) : (mailBargeCancel a0 a1 a2 s).fixed = s.fixed := by
  unfold mailBargeCancel
  try simp
  repeat' (first | (split <;> try simp) | (refine (foldl_fixed _ _ _ (fun _ _ => ?_)).trans ?_ <;> try simp) | (refine orRefuse_fixed _ _ _ _ _ _ (fun _ _ => ?_); try simp))

@[simp] theorem mailPoundClose_fixed (a0 a1 a2 s) : (mailPoundClose a0 a1 a2 s).fixed = s.fixed := by
  unfold mailPoundClose; simp

end Sys2Proof.Machine
end

