-- ==== Sys2Proof/Laws/FixedNetwork.lean ====
section
/-!
SUPPORT. Every function of the torus, frames, scratch and the way of a packet on states keeps the queue, the fuses and fabric time. A function that does not is not named; those are in Laws/Aging.lean.
-/

-- One proof after another: in parallel each asks for a thread and its stack.
set_option Elab.async false
set_option linter.all false

namespace Sys2Proof.Machine

@[simp] theorem countPort_fixed (a0 a1 a2 a3 s) : (countPort a0 a1 a2 a3 s).fixed = s.fixed := by
  unfold countPort; simp

@[simp] theorem markDepth_fixed (a0 s) : (markDepth a0 s).fixed = s.fixed := by
  unfold markDepth; simp

@[simp] theorem dropPassage_fixed (a0 a1 s) : (dropPassage a0 a1 s).fixed = s.fixed := by
  unfold dropPassage; simp

@[simp] theorem releasePassage_fixed (a0 a1 s) : (releasePassage a0 a1 s).fixed = s.fixed := by
  unfold releasePassage; simp

@[simp] theorem passagesAtCut_fixed (s) : (passagesAtCut s).fixed = s.fixed := by
  unfold passagesAtCut; simp

@[simp] theorem losePassage_fixed (a0 s) : (losePassage a0 s).fixed = s.fixed := by
  unfold losePassage
  try simp
  repeat' (first | (split <;> try simp) | (refine (foldl_fixed _ _ _ (fun _ _ => ?_)).trans ?_ <;> try simp) | (refine orRefuse_fixed _ _ _ _ _ _ (fun _ _ => ?_); try simp))

@[simp] theorem losePassages_fixed (a0 s) : (losePassages a0 s).fixed = s.fixed := by
  unfold losePassages; simp

@[simp] theorem portsDown_fixed (a0 s) : (portsDown a0 s).fixed = s.fixed := by
  unfold portsDown; simp

@[simp] theorem setLinks_fixed (a0 a1 s) : (setLinks a0 a1 s).fixed = s.fixed := by
  unfold setLinks; simp

@[simp] theorem setCircuit_fixed (a0 a1 a2 a3 s) : (setCircuit a0 a1 a2 a3 s).fixed = s.fixed := by
  unfold setCircuit
  try simp
  repeat' (first | (split <;> try simp) | (refine (foldl_fixed _ _ _ (fun _ _ => ?_)).trans ?_ <;> try simp) | (refine orRefuse_fixed _ _ _ _ _ _ (fun _ _ => ?_); try simp))

@[simp] theorem dropCircuit_fixed (a0 a1 s) : (dropCircuit a0 a1 s).fixed = s.fixed := by
  unfold dropCircuit
  try simp
  repeat' (first | (split <;> try simp) | (refine (foldl_fixed _ _ _ (fun _ _ => ?_)).trans ?_ <;> try simp) | (refine orRefuse_fixed _ _ _ _ _ _ (fun _ _ => ?_); try simp))

@[simp] theorem occupy_fixed (a0 a1 a2 s) : (occupy a0 a1 a2 s).fixed = s.fixed := by
  unfold occupy; simp

@[simp] theorem basinTake_fixed (a0 a1 a2 s) : (basinTake a0 a1 a2 s).fixed = s.fixed := by
  unfold basinTake; simp

@[simp] theorem basinGive_fixed (a0 a1 a2 s) : (basinGive a0 a1 a2 s).fixed = s.fixed := by
  unfold basinGive; simp

@[simp] theorem putScratch_fixed (a0 a1 s) : (putScratch a0 a1 s).fixed = s.fixed := by
  unfold putScratch; simp

@[simp] theorem spoilByte_fixed (a0 a1 s) : (spoilByte a0 a1 s).fixed = s.fixed := by
  unfold spoilByte; simp

@[simp] theorem spoilWord_fixed (a0 a1 a2 s) : (spoilWord a0 a1 a2 s).fixed = s.fixed := by
  unfold spoilWord; simp

@[simp] theorem scratchError_fixed (a0 a1 a2 s) : (scratchError a0 a1 a2 s).fixed = s.fixed := by
  unfold scratchError; simp

@[simp] theorem checkWord_fixed (a0 a1 a2 s) : (checkWord a0 a1 a2 s).fixed = s.fixed := by
  unfold checkWord; simp

@[simp] theorem checkRuns_fixed (a0 a1 s) : (checkRuns a0 a1 s).fixed = s.fixed := by
  unfold checkRuns; simp

@[simp] theorem landBytes_fixed (a0 a1 a2 s) : (landBytes a0 a1 a2 s).fixed = s.fixed := by
  unfold landBytes; simp

@[simp] theorem coreRead_fixed (a0 a1 a2 s) : (coreRead a0 a1 a2 s).fixed = s.fixed := by
  unfold coreRead; simp

@[simp] theorem deferredCycle_fixed (a0 a1 a2 a3 s) : (deferredCycle a0 a1 a2 a3 s).fixed = s.fixed := by
  unfold deferredCycle
  try simp
  repeat' (first | (split <;> try simp) | (refine (foldl_fixed _ _ _ (fun _ _ => ?_)).trans ?_ <;> try simp) | (refine orRefuse_fixed _ _ _ _ _ _ (fun _ _ => ?_); try simp))

@[simp] theorem portCycle_fixed (a0 a1 a2 s) : (portCycle a0 a1 a2 s).fixed = s.fixed := by
  unfold portCycle
  try simp
  repeat' (first | (split <;> try simp) | (refine (foldl_fixed _ _ _ (fun _ _ => ?_)).trans ?_ <;> try simp) | (refine orRefuse_fixed _ _ _ _ _ _ (fun _ _ => ?_); try simp))

@[simp] theorem anyCycle_fixed (a0 a1 a2 s) : (anyCycle a0 a1 a2 s).fixed = s.fixed := by
  unfold anyCycle
  try simp
  repeat' (first | (split <;> try simp) | (refine (foldl_fixed _ _ _ (fun _ _ => ?_)).trans ?_ <;> try simp) | (refine orRefuse_fixed _ _ _ _ _ _ (fun _ _ => ?_); try simp))

@[simp] theorem coreWrite_fixed (a0 a1 s) : (coreWrite a0 a1 s).fixed = s.fixed := by
  unfold coreWrite; simp

@[simp] theorem landDeferred_fixed (a0 s) : (landDeferred a0 s).fixed = s.fixed := by
  unfold landDeferred; simp

@[simp] theorem lighterWrite_fixed (a0 a1 s) : (lighterWrite a0 a1 s).fixed = s.fixed := by
  unfold lighterWrite; simp

@[simp] theorem foldl_snd_fixed {α β : Type} (f : β × State → α → β × State) (l : List α) (a : β × State)
    (h : ∀ a x, (f a x).2.fixed = a.2.fixed) : (l.foldl f a).2.fixed = a.2.fixed := by
  induction l generalizing a with
  | nil => rfl
  | cons x l ih => rw [List.foldl_cons, ih, h]

@[simp] theorem lighterFetch_fixed (a0 a1 s) : (lighterFetch a0 a1 s).2.fixed = s.fixed := by
  unfold lighterFetch
  split
  · rfl
  · exact (foldl_snd_fixed _ _ _ (fun _ _ => by simp)).trans (by simp)

@[simp] theorem backTo_fixed (a0 a1 a2 s) : (backTo a0 a1 a2 s).fixed = s.fixed := by
  unfold backTo; simp

@[simp] theorem closeEntry_fixed (a0 a1 s) : (closeEntry a0 a1 s).fixed = s.fixed := by
  unfold closeEntry
  try simp
  repeat' (first | (split <;> try simp) | (refine (foldl_fixed _ _ _ (fun _ _ => ?_)).trans ?_ <;> try simp) | (refine (orRefuse_fixed _ _ _ _ _ _ (fun _ _ => ?_)).trans ?_ <;> try simp) | (intro _ <;> try simp))

@[simp] theorem dropSums_fixed (a0 a1 s) : (dropSums a0 a1 s).fixed = s.fixed := by
  unfold dropSums; simp

@[simp] theorem sendMesh_fixed (a0 a1 a2 s) : (sendMesh a0 a1 a2 s).fixed = s.fixed := by
  unfold sendMesh; simp

@[simp] theorem lighterSend_fixed (a0 a1 s) : (lighterSend a0 a1 s).fixed = s.fixed := by
  unfold lighterSend
  try simp
  repeat' (first | (split <;> try simp) | (refine (foldl_fixed _ _ _ (fun _ _ => ?_)).trans ?_ <;> try simp) | (refine orRefuse_fixed _ _ _ _ _ _ (fun _ _ => ?_); try simp))

@[simp] theorem coreSend_fixed (a0 a1 a2 s) : (coreSend a0 a1 a2 s).fixed = s.fixed := by
  unfold coreSend; simp

@[simp] theorem berthWrite_fixed (a0 s) : (berthWrite a0 s).fixed = s.fixed := by
  unfold berthWrite; simp

@[simp] theorem sendWrite_fixed (a0 s) : (sendWrite a0 s).fixed = s.fixed := by
  unfold sendWrite; simp

@[simp] theorem lineWrites_fixed (a0 a1 a2 s) : (lineWrites a0 a1 a2 s).fixed = s.fixed := by
  unfold lineWrites; simp

@[simp] theorem sendWrites_fixed (a0 a1 a2 a3 s) : (sendWrites a0 a1 a2 a3 s).fixed = s.fixed := by
  unfold sendWrites; simp

@[simp] theorem stampedWrite_fixed (a0 a1 a2 a3 a4 s) : (stampedWrite a0 a1 a2 a3 a4 s).fixed = s.fixed := by
  unfold stampedWrite; simp

@[simp] theorem coreReads_fixed (a0 a1 a2 s) : (coreReads a0 a1 a2 s).fixed = s.fixed := by
  unfold coreReads; simp

@[simp] theorem launchMsg_fixed (a0 a1 a2 s) : (launchMsg a0 a1 a2 s).fixed = s.fixed := by
  unfold launchMsg; simp

end Sys2Proof.Machine
end

