-- ==== Sys2Proof/Laws/FixedKernel.lean ====
section
/-!
SUPPORT. Every function of kernels on states keeps the queue, the fuses and fabric time. A function that does not is not named; those are in Laws/Aging.lean.
-/

-- One proof after another: in parallel each asks for a thread and its stack.
set_option Elab.async false
set_option linter.all false

namespace Sys2Proof.Machine

/-- The state a body leaves to finishOp. -/
def KRes.state : KRes → State
  | .next _ s | .jump _ _ s | .wait _ s | .stop _ s => s

def KRes.fixed (r : KRes) : List Instr × Fuses × Nat := r.state.fixed

@[simp] theorem kfixed_next (f s) : (KRes.next f s).fixed = s.fixed := rfl
@[simp] theorem kfixed_jump (p f s) : (KRes.jump p f s).fixed = s.fixed := rfl
@[simp] theorem kfixed_wait (w s) : (KRes.wait w s).fixed = s.fixed := rfl
@[simp] theorem kfixed_stop (n s) : (KRes.stop n s).fixed = s.fixed := rfl

@[simp] theorem ite_kfixed (c : Prop) [Decidable c] (a b : KRes) : (if c then a else b).fixed = if c then a.fixed else b.fixed := by
  split <;> rfl

@[simp] theorem writeSpace_fixed (a0 a1 a2 a3 s) : (writeSpace a0 a1 a2 a3 s).fixed = s.fixed := by
  unfold writeSpace; simp

@[simp] theorem landSpace_fixed (a0 a1 a2 a3 s) : (landSpace a0 a1 a2 a3 s).fixed = s.fixed := by
  unfold landSpace; simp

@[simp] theorem dropReads_fixed (a0 a1 s) : (dropReads a0 a1 s).fixed = s.fixed := by
  unfold dropReads; simp

@[simp] theorem endGang_fixed (a0 a1 a2 s) : (endGang a0 a1 a2 s).fixed = s.fixed := by
  unfold endGang; simp

@[simp] theorem stopMember_fixed (a0 a1 s) : (stopMember a0 a1 s).fixed = s.fixed := by
  unfold stopMember; simp

@[simp] theorem finishOp_fixed (k now r) : (finishOp k now r).fixed = r.fixed := by
  cases r <;> simp [finishOp]

@[simp] theorem lowerStatus_fixed (a0 a1 s) : (lowerStatus a0 a1 s).fixed = s.fixed := by
  unfold lowerStatus; simp

theorem kopStopped_fixed (a0 a1 body s) (h : ∀ k s, (body k s).fixed = s.fixed) : (kopStopped a0 a1 body s).fixed = s.fixed := by
  unfold kopStopped
  split
  · rfl
  · split
    · split
      · next e => have := h _ _ ▸ congrArg KRes.fixed e; simp_all
      all_goals rfl
    · rfl

@[simp] theorem noteIssue_fixed (a0 s) : (noteIssue a0 s).fixed = s.fixed := by
  unfold noteIssue; simp

@[simp] theorem issueOp_fixed (k now r) : (issueOp k now r).fixed = r.fixed := by
  cases r <;> simp [issueOp]

@[simp] theorem kop_fixed (m opc body s) (h : ∀ k s, (body k s).fixed = s.fixed) : (kop m opc body s).fixed = s.fixed := by
  unfold kop
  split
  · exact kopStopped_fixed _ _ _ _ h
  · split
    · simp [h]
    · rfl

@[simp] theorem opNop_fixed (a0 s) : (opNop a0 s).fixed = s.fixed := by
  unfold opNop; simp

@[simp] theorem opEnd_fixed (a0 s) : (opEnd a0 s).fixed = s.fixed := by
  unfold opEnd; simp

@[simp] theorem opLoop_fixed (a0 s) : (opLoop a0 s).fixed = s.fixed := by
  unfold opLoop; simp

@[simp] theorem opTilefor_fixed (a0 s) : (opTilefor a0 s).fixed = s.fixed := by
  unfold opTilefor; simp

@[simp] theorem opEndloop_fixed (a0 s) : (opEndloop a0 s).fixed = s.fixed := by
  unfold opEndloop
  try simp
  repeat' (first | (split <;> try simp) | (refine (foldl_fixed _ _ _ (fun _ _ => ?_)).trans ?_ <;> try simp) | (intro _) | (refine withAccess_fixed _ _ _ _ (fun _ => ?_); try simp))

@[simp] theorem opIf_fixed (a0 s) : (opIf a0 s).fixed = s.fixed := by
  unfold opIf; simp

@[simp] theorem opElse_fixed (a0 s) : (opElse a0 s).fixed = s.fixed := by
  unfold opElse
  try simp
  repeat' (first | (split <;> try simp) | (refine (foldl_fixed _ _ _ (fun _ _ => ?_)).trans ?_ <;> try simp) | (intro _) | (refine withAccess_fixed _ _ _ _ (fun _ => ?_); try simp))

@[simp] theorem opEndif_fixed (a0 s) : (opEndif a0 s).fixed = s.fixed := by
  unfold opEndif
  try simp
  repeat' (first | (split <;> try simp) | (refine (foldl_fixed _ _ _ (fun _ _ => ?_)).trans ?_ <;> try simp) | (intro _) | (refine withAccess_fixed _ _ _ _ (fun _ => ?_); try simp))

@[simp] theorem opImov_fixed (a0 s) : (opImov a0 s).fixed = s.fixed := by
  unfold opImov; simp

@[simp] theorem opIalu_fixed (a0 s) : (opIalu a0 s).fixed = s.fixed := by
  unfold opIalu; simp

@[simp] theorem opQuery_fixed (a0 s) : (opQuery a0 s).fixed = s.fixed := by
  unfold opQuery; simp

@[simp] theorem opParam_fixed (a0 s) : (opParam a0 s).fixed = s.fixed := by
  unfold opParam; simp

@[simp] theorem opVdim_fixed (a0 s) : (opVdim a0 s).fixed = s.fixed := by
  unfold opVdim; simp

@[simp] theorem opVsub_fixed (a0 s) : (opVsub a0 s).fixed = s.fixed := by
  unfold opVsub; simp

@[simp] theorem opStamp_fixed (k s) : (opStamp k s).fixed = s.fixed := by
  unfold opStamp
  split <;> rename_i e <;> simpa using fixed_of_snd e (issueStamp_fixed _ _ _)

@[simp] theorem logSecure_fixed (a0 s) : (logSecure a0 s).fixed = s.fixed := by
  unfold logSecure; simp

@[simp] theorem stopAccess_fixed (a0 a1 s) : (stopAccess a0 a1 s).fixed = s.fixed := by
  unfold stopAccess; simp

@[simp] theorem deviceErrors_fixed (a0 a1 s) : (deviceErrors a0 a1 s).fixed = s.fixed := by
  unfold deviceErrors; simp

@[simp] theorem dropOpReads_fixed (a0 a1 s) : (dropOpReads a0 a1 s).fixed = s.fixed := by
  unfold dropOpReads; simp

@[simp] theorem withRemote_fixed (k n l work s) (h : ∀ s, (work s).fixed = s.fixed) : (withRemote k n l work s).fixed = s.fixed := by
  unfold withRemote
  try simp only []
  repeat' (split)
  all_goals simp [h]

@[simp] theorem issueAccess_fixed (k l work s) (h : ∀ s, (work s).fixed = s.fixed) : (issueAccess k l work s).fixed = s.fixed := by
  unfold issueAccess
  try simp only []
  repeat' (split)
  all_goals simp [h]

@[simp] theorem withAccess_fixed (k l work s) (h : ∀ s, (work s).fixed = s.fixed) : (withAccess k l work s).fixed = s.fixed := by
  unfold withAccess
  simp [h]

@[simp] theorem viewReader_fixed (a0 a1 s) : (viewReader a0 a1 s).2.fixed = s.fixed := by
  unfold viewReader; simp

@[simp] theorem opTload_fixed (a0 s) : (opTload a0 s).fixed = s.fixed := by
  unfold opTload; simp

@[simp] theorem storeTile_fixed (a0 a1 a2 a3 a4 a5 s) : (storeTile a0 a1 a2 a3 a4 a5 s).fixed = s.fixed := by
  unfold storeTile; simp

@[simp] theorem opTstore_fixed (a0 s) : (opTstore a0 s).fixed = s.fixed := by
  unfold opTstore; simp

@[simp] theorem opTfill_fixed (a0 s) : (opTfill a0 s).fixed = s.fixed := by
  unfold opTfill; simp

@[simp] theorem opMma_fixed (a0 s) : (opMma a0 s).fixed = s.fixed := by
  unfold opMma
  try simp
  repeat' (first | (split <;> try simp) | (refine (foldl_fixed _ _ _ (fun _ _ => ?_)).trans ?_ <;> try simp) | (intro _) | (refine withAccess_fixed _ _ _ _ (fun _ => ?_); try simp))

@[simp] theorem opAccmov_fixed (a0 s) : (opAccmov a0 s).fixed = s.fixed := by
  unfold opAccmov; simp

@[simp] theorem tileResult_fixed (a0 a1 s) : (tileResult a0 a1 s).fixed = s.fixed := by
  unfold tileResult; simp

@[simp] theorem opEbin_fixed (a0 s) : (opEbin a0 s).fixed = s.fixed := by
  unfold opEbin; simp

@[simp] theorem opEfma_fixed (a0 s) : (opEfma a0 s).fixed = s.fixed := by
  unfold opEfma; simp

@[simp] theorem opEun_fixed (a0 s) : (opEun a0 s).fixed = s.fixed := by
  unfold opEun; simp

@[simp] theorem opCmp_fixed (a0 s) : (opCmp a0 s).fixed = s.fixed := by
  unfold opCmp; simp

@[simp] theorem opSel_fixed (a0 s) : (opSel a0 s).fixed = s.fixed := by
  unfold opSel; simp

@[simp] theorem opRed_fixed (a0 s) : (opRed a0 s).fixed = s.fixed := by
  unfold opRed; simp

@[simp] theorem opTrans_fixed (a0 s) : (opTrans a0 s).fixed = s.fixed := by
  unfold opTrans; simp

@[simp] theorem opGather_fixed (a0 s) : (opGather a0 s).fixed = s.fixed := by
  unfold opGather
  try simp
  repeat' (first | (split <;> try simp) | (refine (foldl_fixed _ _ _ (fun _ _ => ?_)).trans ?_ <;> try simp) | (intro _) | (refine withAccess_fixed _ _ _ _ (fun _ => ?_); try simp))

@[simp] theorem opScatter_fixed (a0 s) : (opScatter a0 s).fixed = s.fixed := by
  unfold opScatter
  try simp
  repeat' (first | (split <;> try simp) | (refine (foldl_fixed _ _ _ (fun _ _ => ?_)).trans ?_ <;> try simp) | (intro _) | (refine withAccess_fixed _ _ _ _ (fun _ => ?_); try simp))

@[simp] theorem opSort_fixed (a0 s) : (opSort a0 s).fixed = s.fixed := by
  unfold opSort; simp

@[simp] theorem opCvt_fixed (a0 s) : (opCvt a0 s).fixed = s.fixed := by
  unfold opCvt; simp

@[simp] theorem onToken_fixed (k token work s) (h : ∀ s, (work s).fixed = s.fixed) : (onToken k token work s).fixed = s.fixed := by
  unfold onToken; simp [h]

@[simp] theorem opXfer_fixed (a0 s) : (opXfer a0 s).fixed = s.fixed := by
  unfold opXfer
  try simp
  repeat' (first | (split <;> try simp) | (refine (foldl_fixed _ _ _ (fun _ _ => ?_)).trans ?_ <;> try simp) | (intro _) | (refine withAccess_fixed _ _ _ _ (fun _ => ?_); try simp) | (refine onToken_fixed _ _ _ _ (fun _ => ?_); try simp))

@[simp] theorem lighterReader_fixed (a0 a1 a2 s) : (lighterReader a0 a1 a2 s).2.fixed = s.fixed := by
  unfold lighterReader
  try simp
  repeat' (first | (split <;> try simp) | (refine (foldl_fixed _ _ _ (fun _ _ => ?_)).trans ?_ <;> try simp) | (refine (orRefuse_fixed _ _ _ _ _ _ (fun _ _ => ?_)).trans ?_ <;> try simp) | (intro _ <;> try simp))

@[simp] theorem landedDone_fixed (a0 a1 a2 s) : (landedDone a0 a1 a2 s).fixed = s.fixed := by
  unfold landedDone
  try simp
  repeat' (first | (split <;> try simp) | (refine (foldl_fixed _ _ _ (fun _ _ => ?_)).trans ?_ <;> try simp) | (refine orRefuse_fixed _ _ _ _ _ _ (fun _ _ => ?_); try simp))

@[simp] theorem xferDoneStep_fixed (a0 a1 s) : (xferDoneStep a0 a1 s).fixed = s.fixed := by
  unfold xferDoneStep
  try simp
  repeat' (first | (split <;> try simp) | (refine (foldl_fixed _ _ _ (fun _ _ => ?_)).trans ?_ <;> try simp) | (refine (orRefuse_fixed _ _ _ _ _ _ (fun _ _ => ?_)).trans ?_ <;> try simp) | (intro _ <;> try simp))

@[simp] theorem opWait_fixed (a0 s) : (opWait a0 s).fixed = s.fixed := by
  unfold opWait; simp

@[simp] theorem signalSend_fixed (s a1 a2) : (signalSend s a1 a2).fixed = s.fixed := by
  unfold signalSend; simp

@[simp] theorem dropMsg_fixed (a0 s) : (dropMsg a0 s).fixed = s.fixed := by
  unfold dropMsg; simp

@[simp] theorem parkMsg_fixed (a0 a1 s) : (parkMsg a0 a1 s).fixed = s.fixed := by
  unfold parkMsg; simp

@[simp] theorem landMsg_fixed (a0 a1 s) : (landMsg a0 a1 s).fixed = s.fixed := by
  unfold landMsg
  try simp
  repeat' (first | (split <;> try simp) | (refine (foldl_fixed _ _ _ (fun _ _ => ?_)).trans ?_ <;> try simp) | (refine orRefuse_fixed _ _ _ _ _ _ (fun _ _ => ?_); try simp))

@[simp] theorem matchWaiting_fixed (m n s) : (matchWaiting m n s).fixed = s.fixed := by
  induction n generalizing s with
  | zero => rfl
  | succ n ih => unfold matchWaiting; split <;> simp [ih]

@[simp] theorem deliver_fixed (a0 a1 s) : (deliver a0 a1 s).fixed = s.fixed := by
  unfold deliver; simp

@[simp] theorem afterDrop_fixed (a0 s) : (afterDrop a0 s).fixed = s.fixed := by
  unfold afterDrop; simp

@[simp] theorem opSend_fixed (a0 s) : (opSend a0 s).fixed = s.fixed := by
  unfold opSend
  try simp
  repeat' (first | (split <;> try simp) | (refine (foldl_fixed _ _ _ (fun _ _ => ?_)).trans ?_ <;> try simp) | (intro _) | (refine withAccess_fixed _ _ _ _ (fun _ => ?_); try simp) | (refine onToken_fixed _ _ _ _ (fun _ => ?_); try simp))

@[simp] theorem opRecv_fixed (a0 s) : (opRecv a0 s).fixed = s.fixed := by
  unfold opRecv
  try simp
  repeat' (first | (split <;> try simp) | (refine (foldl_fixed _ _ _ (fun _ _ => ?_)).trans ?_ <;> try simp) | (intro _) | (refine withAccess_fixed _ _ _ _ (fun _ => ?_); try simp) | (refine issueAccess_fixed _ _ _ _ (fun _ => ?_); try simp) | (refine withRemote_fixed _ _ _ _ _ (fun _ => ?_); try simp) | (refine onToken_fixed _ _ _ _ (fun _ => ?_); try simp) | (intro _ <;> try simp))

@[simp] theorem returnMsg_fixed (a0 a1 s) : (returnMsg a0 a1 s).fixed = s.fixed := by
  unfold returnMsg; simp

@[simp] theorem recvStops_fixed (a0 a1 a2 s) : (recvStops a0 a1 a2 s).fixed = s.fixed := by
  unfold recvStops; simp

@[simp] theorem lateArrival_fixed (a0 a1 s) : (lateArrival a0 a1 s).fixed = s.fixed := by
  unfold lateArrival
  try simp
  repeat' (first | (split <;> try simp) | (refine (foldl_fixed _ _ _ (fun _ _ => ?_)).trans ?_ <;> try simp) | (refine (orRefuse_fixed _ _ _ _ _ _ (fun _ _ => ?_)).trans ?_ <;> try simp) | (intro _ <;> try simp))

@[simp] theorem lateRecv_fixed (a0 s) : (lateRecv a0 s).fixed = s.fixed := by
  unfold lateRecv
  try simp
  repeat' (first | (split <;> try simp) | (refine (foldl_fixed _ _ _ (fun _ _ => ?_)).trans ?_ <;> try simp) | (refine (orRefuse_fixed _ _ _ _ _ _ (fun _ _ => ?_)).trans ?_ <;> try simp) | (intro _ <;> try simp))

@[simp] theorem msgArrivalStep_fixed (a0 s) : (msgArrivalStep a0 s).fixed = s.fixed := by
  unfold msgArrivalStep
  try simp
  repeat' (first | (split <;> try simp) | (refine (foldl_fixed _ _ _ (fun _ _ => ?_)).trans ?_ <;> try simp) | (refine orRefuse_fixed _ _ _ _ _ _ (fun _ _ => ?_); try simp))

@[simp] theorem staleMessageStep_fixed (a0 s) : (staleMessageStep a0 s).fixed = s.fixed := by
  unfold staleMessageStep
  try simp
  repeat' (first | (split <;> try simp) | (refine (foldl_fixed _ _ _ (fun _ _ => ?_)).trans ?_ <;> try simp) | (refine orRefuse_fixed _ _ _ _ _ _ (fun _ _ => ?_); try simp))

@[simp] theorem viewCodes_fixed (a0 a1 a2 s) : (viewCodes a0 a1 a2 s).2.fixed = s.fixed := by
  unfold viewCodes; simp

@[simp] theorem putCodes_fixed (a0 a1 a2 a3 s) : (putCodes a0 a1 a2 a3 s).fixed = s.fixed := by
  unfold putCodes; simp

@[simp] theorem collSingle_fixed (a0 a1 a2 a3 a4 s) : (collSingle a0 a1 a2 a3 a4 s).fixed = s.fixed := by
  unfold collSingle; simp

@[simp] theorem opColl_fixed (a0 s) : (opColl a0 s).fixed = s.fixed := by
  unfold opColl
  dsimp only
  generalize (if 3 ≤ a0.mod % 8 then a0.view (a0.e2 % 256) else emptyView) = q
  split
  · rfl
  · split
    · rfl
    · refine onToken_fixed _ _ _ _ (fun _ => ?_)
      split
      · rfl
      · refine issueAccess_fixed _ _ _ _ (fun _ => withRemote_fixed _ _ _ _ _ (fun _ => ?_))
        split <;> simp

@[simp] theorem contribution_fixed (a0 a1 a2 s) : (contribution a0 a1 a2 s).2.fixed = s.fixed := by
  unfold contribution
  try simp
  repeat' (first | (split <;> try simp) | (refine (foldl_fixed _ _ _ (fun _ _ => ?_)).trans ?_ <;> try simp) | (refine (orRefuse_fixed _ _ _ _ _ _ (fun _ _ => ?_)).trans ?_ <;> try simp) | (intro _ <;> try simp))

@[simp] theorem freshSum_fixed (a0 a1 a2 a3 a4 s) : (freshSum a0 a1 a2 a3 a4 s).fixed = s.fixed := by
  unfold freshSum
  try simp
  repeat' (first | (split <;> try simp) | (refine (foldl_fixed _ _ _ (fun _ _ => ?_)).trans ?_ <;> try simp) | (refine (orRefuse_fixed _ _ _ _ _ _ (fun _ _ => ?_)).trans ?_ <;> try simp) | (intro _ <;> try simp))

@[simp] theorem sendRound_fixed (a0 a1 a2 s) : (sendRound a0 a1 a2 s).fixed = s.fixed := by
  unfold sendRound
  try simp
  repeat' (first | (split <;> try simp) | (refine (foldl_fixed _ _ _ (fun _ _ => ?_)).trans ?_ <;> try simp) | (refine (orRefuse_fixed _ _ _ _ _ _ (fun _ _ => ?_)).trans ?_ <;> try simp) | (intro _ <;> try simp))

@[simp] theorem sendShare_fixed (a0 a1 a2 a3 a4 a5 s) : (sendShare a0 a1 a2 a3 a4 a5 s).fixed = s.fixed := by
  unfold sendShare
  try simp
  repeat' (first | (split <;> try simp) | (refine (foldl_fixed _ _ _ (fun _ _ => ?_)).trans ?_ <;> try simp) | (refine (orRefuse_fixed _ _ _ _ _ _ (fun _ _ => ?_)).trans ?_ <;> try simp) | (intro _ <;> try simp))

@[simp] theorem sendShares_fixed (a0 a1 a2 s) : (sendShares a0 a1 a2 s).fixed = s.fixed := by
  unfold sendShares
  try simp
  repeat' (first | (split <;> try simp) | (refine (foldl_fixed _ _ _ (fun _ _ => ?_)).trans ?_ <;> try simp) | (refine (orRefuse_fixed _ _ _ _ _ _ (fun _ _ => ?_)).trans ?_ <;> try simp) | (intro _ <;> try simp))

@[simp] theorem beginColl_fixed (a0 a1 a2 s) : (beginColl a0 a1 a2 s).fixed = s.fixed := by
  unfold beginColl
  try simp
  repeat' (first | (split <;> try simp) | (refine (foldl_fixed _ _ _ (fun _ _ => ?_)).trans ?_ <;> try simp) | (refine (orRefuse_fixed _ _ _ _ _ _ (fun _ _ => ?_)).trans ?_ <;> try simp) | (intro _ <;> try simp))

@[simp] theorem beginColls_fixed (a0 s) : (beginColls a0 s).fixed = s.fixed := by
  unfold beginColls
  try simp
  repeat' (first | (split <;> try simp) | (refine (foldl_fixed _ _ _ (fun _ _ => ?_)).trans ?_ <;> try simp) | (refine (orRefuse_fixed _ _ _ _ _ _ (fun _ _ => ?_)).trans ?_ <;> try simp) | (intro _ <;> try simp))

@[simp] theorem signalColl_fixed (a0 a1 a2 s) : (signalColl a0 a1 a2 s).fixed = s.fixed := by
  unfold signalColl
  try simp
  repeat' (first | (split <;> try simp) | (refine (foldl_fixed _ _ _ (fun _ _ => ?_)).trans ?_ <;> try simp) | (refine (orRefuse_fixed _ _ _ _ _ _ (fun _ _ => ?_)).trans ?_ <;> try simp) | (intro _ <;> try simp))

@[simp] theorem roundDone_fixed (a0 a1 a2 s) : (roundDone a0 a1 a2 s).fixed = s.fixed := by
  unfold roundDone
  try simp
  repeat' (first | (split <;> try simp) | (refine (foldl_fixed _ _ _ (fun _ _ => ?_)).trans ?_ <;> try simp) | (refine (orRefuse_fixed _ _ _ _ _ _ (fun _ _ => ?_)).trans ?_ <;> try simp) | (intro _ <;> try simp))

@[simp] theorem landRound_fixed (a0 a1 a2 a3 s) : (landRound a0 a1 a2 a3 s).fixed = s.fixed := by
  unfold landRound
  try simp
  repeat' (first | (split <;> try simp) | (refine (foldl_fixed _ _ _ (fun _ _ => ?_)).trans ?_ <;> try simp) | (refine (orRefuse_fixed _ _ _ _ _ _ (fun _ _ => ?_)).trans ?_ <;> try simp) | (intro _ <;> try simp))

@[simp] theorem collDoneGang_fixed (a0 a1 a2 s) : (collDoneGang a0 a1 a2 s).fixed = s.fixed := by
  unfold collDoneGang
  try simp
  repeat' (first | (split <;> try simp) | (refine (foldl_fixed _ _ _ (fun _ _ => ?_)).trans ?_ <;> try simp) | (refine (orRefuse_fixed _ _ _ _ _ _ (fun _ _ => ?_)).trans ?_ <;> try simp) | (intro _ <;> try simp))

@[simp] theorem opBarrier_fixed (a0 s) : (opBarrier a0 s).fixed = s.fixed := by
  unfold opBarrier; simp

@[simp] theorem barrierReleaseStep_fixed (a0 a1 s) : (barrierReleaseStep a0 a1 s).fixed = s.fixed := by
  unfold barrierReleaseStep
  try simp
  repeat' (first | (split <;> try simp) | (refine (foldl_fixed _ _ _ (fun _ _ => ?_)).trans ?_ <;> try simp) | (refine orRefuse_fixed _ _ _ _ _ _ (fun _ _ => ?_); try simp))

@[simp] theorem kernelHangStep_fixed (a0 a1 s) : (kernelHangStep a0 a1 s).fixed = s.fixed := by
  unfold kernelHangStep
  try simp
  repeat' (first | (split <;> try simp) | (refine (foldl_fixed _ _ _ (fun _ _ => ?_)).trans ?_ <;> try simp) | (refine orRefuse_fixed _ _ _ _ _ _ (fun _ _ => ?_); try simp))

@[simp] theorem taskTimeoutStep_fixed (a0 a1 s) : (taskTimeoutStep a0 a1 s).fixed = s.fixed := by
  unfold taskTimeoutStep
  try simp
  repeat' (first | (split <;> try simp) | (refine (foldl_fixed _ _ _ (fun _ _ => ?_)).trans ?_ <;> try simp) | (refine orRefuse_fixed _ _ _ _ _ _ (fun _ _ => ?_); try simp))

@[simp] theorem mailKernelLoad_fixed (a0 a1 a2 s) : (mailKernelLoad a0 a1 a2 s).fixed = s.fixed := by
  unfold mailKernelLoad; simp

@[simp] theorem loweringDone_fixed (a0 s) : (loweringDone a0 s).fixed = s.fixed := by
  unfold loweringDone
  try simp
  repeat' (first | (split <;> try simp) | (refine (foldl_fixed _ _ _ (fun _ _ => ?_)).trans ?_ <;> try simp) | (refine orRefuse_fixed _ _ _ _ _ _ (fun _ _ => ?_); try simp))

@[simp] theorem mailKernelUnload_fixed (a0 a1 a2 s) : (mailKernelUnload a0 a1 a2 s).fixed = s.fixed := by
  unfold mailKernelUnload
  try simp
  repeat' (first | (split <;> try simp) | (refine (foldl_fixed _ _ _ (fun _ _ => ?_)).trans ?_ <;> try simp) | (refine orRefuse_fixed _ _ _ _ _ _ (fun _ _ => ?_); try simp))

end Sys2Proof.Machine
end

