-- ==== Sys2Proof/Laws/FixedPounds.lean ====
section
/-!
SUPPORT. Every function of the on-die network, graphs, pounds, memory and time on states keeps the queue, the fuses and fabric time. A function that does not is not named; those are in Laws/Aging.lean.
-/

-- One proof after another: in parallel each asks for a thread and its stack.
set_option Elab.async false
set_option linter.all false

namespace Sys2Proof.Machine

@[simp] theorem scratchStep_fixed (a0 a1 a2 a3 s) : (scratchStep a0 a1 a2 a3 s).fixed = s.fixed := by
  unfold scratchStep
  try simp
  repeat' (first | (split <;> try simp) | (refine (foldl_fixed _ _ _ (fun _ _ => ?_)).trans ?_ <;> try simp) | (refine (orRefuse_fixed _ _ _ _ _ _ (fun _ _ => ?_)).trans ?_ <;> try simp) | (intro _ <;> try simp))

@[simp] theorem groupFlags_fixed (a0 a1 a2 s) : (groupFlags a0 a1 a2 s).fixed = s.fixed := by
  unfold groupFlags
  try simp
  repeat' (first | (split <;> try simp) | (refine (foldl_fixed _ _ _ (fun _ _ => ?_)).trans ?_ <;> try simp) | (refine orRefuse_fixed _ _ _ _ _ _ (fun _ _ => ?_); try simp))

@[simp] theorem endCollective_fixed (a0 a1 a2 s) : (endCollective a0 a1 a2 s).fixed = s.fixed := by
  unfold endCollective
  try simp
  repeat' (first | (split <;> try simp) | (refine (foldl_fixed _ _ _ (fun _ _ => ?_)).trans ?_ <;> try simp) | (refine orRefuse_fixed _ _ _ _ _ _ (fun _ _ => ?_); try simp))

@[simp] theorem partLanded_fixed (a0 a1 s) : (partLanded a0 a1 s).fixed = s.fixed := by
  unfold partLanded
  try simp
  repeat' (first | (split <;> try simp) | (refine (foldl_fixed _ _ _ (fun _ _ => ?_)).trans ?_ <;> try simp) | (refine (orRefuse_fixed _ _ _ _ _ _ (fun _ _ => ?_)).trans ?_ <;> try simp) | (intro _ <;> try simp))

@[simp] theorem addMsg_fixed (a0 s) : (addMsg a0 s).fixed = s.fixed := by
  unfold addMsg; simp

@[simp] theorem landPacket_fixed (a0 s) : (landPacket a0 s).fixed = s.fixed := by
  unfold landPacket
  try simp
  repeat' (first | (split <;> try simp) | (refine (foldl_fixed _ _ _ (fun _ _ => ?_)).trans ?_ <;> try simp) | (refine orRefuse_fixed _ _ _ _ _ _ (fun _ _ => ?_); try simp))

@[simp] theorem leaveMesh_fixed (a0 a1 a2 s) : (leaveMesh a0 a1 a2 s).fixed = s.fixed := by
  unfold leaveMesh; simp

@[simp] theorem placeFlit_fixed (a0 a1 a2 s) : (placeFlit a0 a1 a2 s).fixed = s.fixed := by
  unfold placeFlit
  try simp
  repeat' (first | (split <;> try simp) | (refine (foldl_fixed _ _ _ (fun _ _ => ?_)).trans ?_ <;> try simp) | (refine orRefuse_fixed _ _ _ _ _ _ (fun _ _ => ?_); try simp))

@[simp] theorem sendFlit_fixed (a0 a1 s) : (sendFlit a0 a1 s).fixed = s.fixed := by
  unfold sendFlit
  try simp
  repeat' (first | (split <;> try simp) | (refine (foldl_fixed _ _ _ (fun _ _ => ?_)).trans ?_ <;> try simp) | (refine orRefuse_fixed _ _ _ _ _ _ (fun _ _ => ?_); try simp))

@[simp] theorem injectAll_fixed (a0 a1 s) : (injectAll a0 a1 s).fixed = s.fixed := by
  unfold injectAll; simp

@[simp] theorem outboxStep_fixed (b l h s) : (outboxStep b l h s).2.fixed = s.fixed := by
  induction l generalizing h s with
  | nil => rfl
  | cons w l ih =>
    unfold outboxStep
    dsimp only
    repeat' (split)
    all_goals simp [ih]

@[simp] theorem injectOutbox_fixed (a0 s) : (injectOutbox a0 s).fixed = s.fixed := by
  unfold injectOutbox; simp

@[simp] theorem mergeAll_fixed (r n s) : (mergeAll r n s).fixed = s.fixed := by
  induction n generalizing s with
  | zero => rfl
  | succ n ih =>
    unfold mergeAll
    dsimp only
    repeat' (split)
    all_goals simp [ih]

@[simp] theorem routerStep_fixed (a0 a1 s) : (routerStep a0 a1 s).fixed = s.fixed := by
  unfold routerStep; simp

@[simp] theorem tableStep_fixed (a0 s) : (tableStep a0 s).fixed = s.fixed := by
  unfold tableStep
  try simp
  repeat' (first | (split <;> try simp) | (refine (foldl_fixed _ _ _ (fun _ _ => ?_)).trans ?_ <;> try simp) | (refine orRefuse_fixed _ _ _ _ _ _ (fun _ _ => ?_); try simp))

@[simp] theorem tableDone_fixed (a0 a1 s) : (tableDone a0 a1 s).fixed = s.fixed := by
  unfold tableDone
  try simp
  repeat' (first | (split <;> try simp) | (refine (foldl_fixed _ _ _ (fun _ _ => ?_)).trans ?_ <;> try simp) | (refine (orRefuse_fixed _ _ _ _ _ _ (fun _ _ => ?_)).trans ?_ <;> try simp) | (intro _ <;> try simp))

@[simp] theorem chamberStep_fixed (a0 a1 a2 s) : (chamberStep a0 a1 a2 s).fixed = s.fixed := by
  unfold chamberStep
  try simp
  repeat' (first | (split <;> try simp) | (refine (foldl_fixed _ _ _ (fun _ _ => ?_)).trans ?_ <;> try simp) | (refine orRefuse_fixed _ _ _ _ _ _ (fun _ _ => ?_); try simp))

@[simp] theorem recordEnd_fixed (a0 a1 a2 s) : (recordEnd a0 a1 a2 s).fixed = s.fixed := by
  unfold recordEnd
  try simp
  repeat' (first | (split <;> try simp) | (refine (foldl_fixed _ _ _ (fun _ _ => ?_)).trans ?_ <;> try simp) | (refine orRefuse_fixed _ _ _ _ _ _ (fun _ _ => ?_); try simp))

@[simp] theorem returnParked_fixed (a0 a1 s) : (returnParked a0 a1 s).fixed = s.fixed := by
  unfold returnParked; simp

@[simp] theorem freeGroupsOf_fixed (a0 s) : (freeGroupsOf a0 s).fixed = s.fixed := by
  unfold freeGroupsOf
  try simp
  repeat' (first | (split <;> try simp) | (refine (foldl_fixed _ _ _ (fun _ _ => ?_)).trans ?_ <;> try simp) | (refine (orRefuse_fixed _ _ _ _ _ _ (fun _ _ => ?_)).trans ?_ <;> try simp) | (intro _ <;> try simp))

@[simp] theorem endTask_fixed (slot task st s) : (endTask slot task st s).fixed = s.fixed := by
  unfold endTask
  split
  · rfl
  · simp only
    split <;> rename_i e <;> simpa using fixed_of_snd e (issueStamp_fixed _ _ _)

@[simp] theorem skipAll_fixed (n s) : (skipAll n s).fixed = s.fixed := by
  induction n generalizing s with
  | zero => rfl
  | succ n ih => unfold skipAll; split <;> simp [ih]

@[simp] theorem graphEnd_fixed (a0 s) : (graphEnd a0 s).fixed = s.fixed := by
  unfold graphEnd
  try simp
  repeat' (first | (split <;> try simp) | (refine (foldl_fixed _ _ _ (fun _ _ => ?_)).trans ?_ <;> try simp) | (refine orRefuse_fixed _ _ _ _ _ _ (fun _ _ => ?_); try simp))

@[simp] theorem markReady_fixed (s) : (markReady s).fixed = s.fixed := by
  unfold markReady; simp

@[simp] theorem settle_fixed (s) : (settle s).fixed = s.fixed := by
  unfold settle; simp

@[simp] theorem failPeers_fixed (a0 a1 s) : (failPeers a0 a1 s).fixed = s.fixed := by
  unfold failPeers; simp

@[simp] theorem quiesceCheck_fixed (s) : (quiesceCheck s).fixed = s.fixed := by
  unfold quiesceCheck
  try simp
  repeat' (first | (split <;> try simp) | (refine (foldl_fixed _ _ _ (fun _ _ => ?_)).trans ?_ <;> try simp) | (refine orRefuse_fixed _ _ _ _ _ _ (fun _ _ => ?_); try simp))

@[simp] theorem taskEndStep_fixed (a0 a1 s) : (taskEndStep a0 a1 s).fixed = s.fixed := by
  unfold taskEndStep
  try simp
  repeat' (first | (split <;> try simp) | (refine (foldl_fixed _ _ _ (fun _ _ => ?_)).trans ?_ <;> try simp) | (refine orRefuse_fixed _ _ _ _ _ _ (fun _ _ => ?_); try simp))

@[simp] theorem reportGraph_fixed (a0 a1 s) : (reportGraph a0 a1 s).fixed = s.fixed := by
  unfold reportGraph
  try simp
  repeat' (first | (split <;> try simp) | (refine (foldl_fixed _ _ _ (fun _ _ => ?_)).trans ?_ <;> try simp) | (refine orRefuse_fixed _ _ _ _ _ _ (fun _ _ => ?_); try simp))

@[simp] theorem killedReport_fixed (a0 s) : (killedReport a0 s).fixed = s.fixed := by
  unfold killedReport
  try simp
  repeat' (first | (split <;> try simp) | (refine (foldl_fixed _ _ _ (fun _ _ => ?_)).trans ?_ <;> try simp) | (refine orRefuse_fixed _ _ _ _ _ _ (fun _ _ => ?_); try simp))

@[simp] theorem killGraph_fixed (a0 a1 s) : (killGraph a0 a1 s).fixed = s.fixed := by
  unfold killGraph
  try simp
  repeat' (first | (split <;> try simp) | (refine (foldl_fixed _ _ _ (fun _ _ => ?_)).trans ?_ <;> try simp) | (refine orRefuse_fixed _ _ _ _ _ _ (fun _ _ => ?_); try simp))

@[simp] theorem killGraphs_fixed (a0 s) : (killGraphs a0 s).fixed = s.fixed := by
  unfold killGraphs; simp

@[simp] theorem mailGraphSubmit_fixed (a0 a1 a2 s) : (mailGraphSubmit a0 a1 a2 s).fixed = s.fixed := by
  unfold mailGraphSubmit
  try simp
  repeat' (first | (split <;> try simp) | (refine (foldl_fixed _ _ _ (fun _ _ => ?_)).trans ?_ <;> try simp) | (refine (orRefuse_fixed _ _ _ _ _ _ (fun _ _ => ?_)).trans ?_ <;> try simp) | (intro _ <;> try simp))

@[simp] theorem graphCheckDone_fixed (a0 s) : (graphCheckDone a0 s).fixed = s.fixed := by
  unfold graphCheckDone
  try simp
  repeat' (first | (split <;> try simp) | (refine (foldl_fixed _ _ _ (fun _ _ => ?_)).trans ?_ <;> try simp) | (refine orRefuse_fixed _ _ _ _ _ _ (fun _ _ => ?_); try simp))

@[simp] theorem cancelGraph_fixed (a0 s) : (cancelGraph a0 s).fixed = s.fixed := by
  unfold cancelGraph
  try simp
  repeat' (first | (split <;> try simp) | (refine (foldl_fixed _ _ _ (fun _ _ => ?_)).trans ?_ <;> try simp) | (refine orRefuse_fixed _ _ _ _ _ _ (fun _ _ => ?_); try simp))

@[simp] theorem mailGraphCancel_fixed (a0 a1 a2 s) : (mailGraphCancel a0 a1 a2 s).fixed = s.fixed := by
  unfold mailGraphCancel
  try simp
  repeat' (first | (split <;> try simp) | (refine (foldl_fixed _ _ _ (fun _ _ => ?_)).trans ?_ <;> try simp) | (refine orRefuse_fixed _ _ _ _ _ _ (fun _ _ => ?_); try simp))

@[simp] theorem admitTask_fixed (a0 a1 s) : (admitTask a0 a1 s).fixed = s.fixed := by
  unfold admitTask; simp

@[simp] theorem admissionStep_fixed (a0 s) : (admissionStep a0 s).fixed = s.fixed := by
  unfold admissionStep
  try simp
  repeat' (first | (split <;> try simp) | (refine (foldl_fixed _ _ _ (fun _ _ => ?_)).trans ?_ <;> try simp) | (refine orRefuse_fixed _ _ _ _ _ _ (fun _ _ => ?_); try simp))

@[simp] theorem taskRebindStep_fixed (a0 a1 s) : (taskRebindStep a0 a1 s).fixed = s.fixed := by
  unfold taskRebindStep
  try simp
  repeat' (first | (split <;> try simp) | (refine (foldl_fixed _ _ _ (fun _ _ => ?_)).trans ?_ <;> try simp) | (refine orRefuse_fixed _ _ _ _ _ _ (fun _ _ => ?_); try simp))

@[simp] theorem cogroupRebindStep_fixed (a0 a1 s) : (cogroupRebindStep a0 a1 s).fixed = s.fixed := by
  unfold cogroupRebindStep
  try simp
  repeat' (first | (split <;> try simp) | (refine (foldl_fixed _ _ _ (fun _ _ => ?_)).trans ?_ <;> try simp) | (refine orRefuse_fixed _ _ _ _ _ _ (fun _ _ => ?_); try simp))

@[simp] theorem startTask_fixed (a0 a1 a2 s) : (startTask a0 a1 a2 s).fixed = s.fixed := by
  unfold startTask
  try simp
  repeat' (first | (split <;> try simp) | (refine (foldl_fixed _ _ _ (fun _ _ => ?_)).trans ?_ <;> try simp) | (refine orRefuse_fixed _ _ _ _ _ _ (fun _ _ => ?_); try simp))

@[simp] theorem taskReleaseStep_fixed (a0 s) : (taskReleaseStep a0 s).fixed = s.fixed := by
  unfold taskReleaseStep
  try simp
  repeat' (first | (split <;> try simp) | (refine (foldl_fixed _ _ _ (fun _ _ => ?_)).trans ?_ <;> try simp) | (refine orRefuse_fixed _ _ _ _ _ _ (fun _ _ => ?_); try simp))

@[simp] theorem cogroupReleaseStep_fixed (a0 a1 s) : (cogroupReleaseStep a0 a1 s).fixed = s.fixed := by
  unfold cogroupReleaseStep
  try simp
  repeat' (first | (split <;> try simp) | (refine (foldl_fixed _ _ _ (fun _ _ => ?_)).trans ?_ <;> try simp) | (refine orRefuse_fixed _ _ _ _ _ _ (fun _ _ => ?_); try simp))

@[simp] theorem headStarveStep_fixed (a0 s) : (headStarveStep a0 s).fixed = s.fixed := by
  unfold headStarveStep
  try simp
  repeat' (first | (split <;> try simp) | (refine (foldl_fixed _ _ _ (fun _ _ => ?_)).trans ?_ <;> try simp) | (refine orRefuse_fixed _ _ _ _ _ _ (fun _ _ => ?_); try simp))

@[simp] theorem cogroupHangStep_fixed (a0 a1 s) : (cogroupHangStep a0 a1 s).fixed = s.fixed := by
  unfold cogroupHangStep
  try simp
  repeat' (first | (split <;> try simp) | (refine (foldl_fixed _ _ _ (fun _ _ => ?_)).trans ?_ <;> try simp) | (refine orRefuse_fixed _ _ _ _ _ _ (fun _ _ => ?_); try simp))

@[simp] theorem deadlineStep_fixed (s) : (deadlineStep s).fixed = s.fixed := by
  unfold deadlineStep; simp

@[simp] theorem thresholdStep_fixed (s) : (thresholdStep s).fixed = s.fixed := by
  unfold thresholdStep; simp

@[simp] theorem cutStep_fixed (s) : (cutStep s).fixed = s.fixed := by
  unfold cutStep
  try simp
  repeat' (first | (split <;> try simp) | (refine (foldl_fixed _ _ _ (fun _ _ => ?_)).trans ?_ <;> try simp) | (refine orRefuse_fixed _ _ _ _ _ _ (fun _ _ => ?_); try simp))

@[simp] theorem drainStep_fixed (s) : (drainStep s).fixed = s.fixed := by
  unfold drainStep
  try simp
  repeat' (first | (split <;> try simp) | (refine (foldl_fixed _ _ _ (fun _ _ => ?_)).trans ?_ <;> try simp) | (refine orRefuse_fixed _ _ _ _ _ _ (fun _ _ => ?_); try simp))

@[simp] theorem drainLateStep_fixed (s) : (drainLateStep s).fixed = s.fixed := by
  unfold drainLateStep
  try simp
  repeat' (first | (split <;> try simp) | (refine (foldl_fixed _ _ _ (fun _ _ => ?_)).trans ?_ <;> try simp) | (refine orRefuse_fixed _ _ _ _ _ _ (fun _ _ => ?_); try simp))

@[simp] theorem verdictStep_fixed (s) : (verdictStep s).fixed = s.fixed := by
  unfold verdictStep
  try simp
  repeat' (first | (split <;> try simp) | (refine (foldl_fixed _ _ _ (fun _ _ => ?_)).trans ?_ <;> try simp) | (refine orRefuse_fixed _ _ _ _ _ _ (fun _ _ => ?_); try simp))

@[simp] theorem addPreImage_fixed (a0 a1 a2 a3 s) : (addPreImage a0 a1 a2 a3 s).fixed = s.fixed := by
  unfold addPreImage; simp

@[simp] theorem keepPreImages_fixed (a0 a1 s) : (keepPreImages a0 a1 s).fixed = s.fixed := by
  unfold keepPreImages; simp

@[simp] theorem pinPage_fixed (a0 a1 s) : (pinPage a0 a1 s).fixed = s.fixed := by
  unfold pinPage; simp

@[simp] theorem pinAll_fixed (a0 s) : (pinAll a0 s).fixed = s.fixed := by
  unfold pinAll
  try simp
  repeat' (first | (split <;> try simp) | (refine (foldl_fixed _ _ _ (fun _ _ => ?_)).trans ?_ <;> try simp) | (refine orRefuse_fixed _ _ _ _ _ _ (fun _ _ => ?_); try simp))

@[simp] theorem fitPins_fixed (n s) : (fitPins n s).fixed = s.fixed := by
  induction n generalizing s with
  | zero => rfl
  | succ n ih => unfold fitPins; split; · rfl
                 split <;> simp [ih]

@[simp] theorem newPoison_fixed (a0 s) : (newPoison a0 s).fixed = s.fixed := by
  unfold newPoison; simp

@[simp] theorem freePages_fixed (s) : (freePages s).fixed = s.fixed := by
  unfold freePages; simp

@[simp] theorem advance_fixed (a0 a1 s) : (advance a0 a1 s).fixed = s.fixed := by
  unfold advance; simp

@[simp] theorem commitReport_fixed (a0 a1 s) : (commitReport a0 a1 s).fixed = s.fixed := by
  unfold commitReport
  try simp
  repeat' (first | (split <;> try simp) | (refine (foldl_fixed _ _ _ (fun _ _ => ?_)).trans ?_ <;> try simp) | (refine orRefuse_fixed _ _ _ _ _ _ (fun _ _ => ?_); try simp))

@[simp] theorem bargesAfter_fixed (a0 a1 s) : (bargesAfter a0 a1 s).fixed = s.fixed := by
  unfold bargesAfter; simp

@[simp] theorem torusAfter_fixed (a0 s) : (torusAfter a0 s).fixed = s.fixed := by
  unfold torusAfter; simp

@[simp] theorem inStepAfter_fixed (a0 s) : (inStepAfter a0 s).fixed = s.fixed := by
  unfold inStepAfter
  try simp
  repeat' (first | (split <;> try simp) | (refine (foldl_fixed _ _ _ (fun _ _ => ?_)).trans ?_ <;> try simp) | (refine orRefuse_fixed _ _ _ _ _ _ (fun _ _ => ?_); try simp))

@[simp] theorem joinAfter_fixed (a0 a1 s) : (joinAfter a0 a1 s).fixed = s.fixed := by
  unfold joinAfter; simp

@[simp] theorem takeNextJoin_fixed (a0 a1 a2 s) : (takeNextJoin a0 a1 a2 s).fixed = s.fixed := by
  unfold takeNextJoin; simp

@[simp] theorem takeNextCut_fixed (a0 s) : (takeNextCut a0 s).fixed = s.fixed := by
  unfold takeNextCut
  try simp
  repeat' (first | (split <;> try simp) | (refine (foldl_fixed _ _ _ (fun _ _ => ?_)).trans ?_ <;> try simp) | (refine orRefuse_fixed _ _ _ _ _ _ (fun _ _ => ?_); try simp))

@[simp] theorem openNext_fixed (a0 s) : (openNext a0 s).fixed = s.fixed := by
  unfold openNext; simp

@[simp] theorem haltPair_fixed (s) : (haltPair s).fixed = s.fixed := by
  unfold haltPair; simp

@[simp] theorem haltAfter_fixed (s) : (haltAfter s).fixed = s.fixed := by
  unfold haltAfter; simp

@[simp] theorem commitStep_fixed (s) : (commitStep s).fixed = s.fixed := by
  unfold commitStep
  try simp
  repeat' (first | (split <;> try simp) | (refine (foldl_fixed _ _ _ (fun _ _ => ?_)).trans ?_ <;> try simp) | (refine orRefuse_fixed _ _ _ _ _ _ (fun _ _ => ?_); try simp))

@[simp] theorem rollTask_fixed (a0 s) : (rollTask a0 s).fixed = s.fixed := by
  unfold rollTask
  try simp
  repeat' (first | (split <;> try simp) | (refine (foldl_fixed _ _ _ (fun _ _ => ?_)).trans ?_ <;> try simp) | (refine orRefuse_fixed _ _ _ _ _ _ (fun _ _ => ?_); try simp))

@[simp] theorem rollMessages_fixed (a0 s) : (rollMessages a0 s).fixed = s.fixed := by
  unfold rollMessages; simp

@[simp] theorem rollWrites_fixed (a0 s) : (rollWrites a0 s).fixed = s.fixed := by
  unfold rollWrites; simp

@[simp] theorem rollBarges_fixed (a0 s) : (rollBarges a0 s).fixed = s.fixed := by
  unfold rollBarges; simp

@[simp] theorem rollTorus_fixed (a0 s) : (rollTorus a0 s).fixed = s.fixed := by
  unfold rollTorus; simp

@[simp] theorem fallBehind_fixed (a0 s) : (fallBehind a0 s).fixed = s.fixed := by
  unfold fallBehind; simp

@[simp] theorem faultGraphs_fixed (a0 a1 s) : (faultGraphs a0 a1 s).fixed = s.fixed := by
  unfold faultGraphs; simp

@[simp] theorem unready_fixed (s) : (unready s).fixed = s.fixed := by
  unfold unready; simp

@[simp] theorem faultStep_fixed (s) : (faultStep s).fixed = s.fixed := by
  unfold faultStep
  try simp
  repeat' (first | (split <;> try simp) | (refine (foldl_fixed _ _ _ (fun _ _ => ?_)).trans ?_ <;> try simp) | (refine orRefuse_fixed _ _ _ _ _ _ (fun _ _ => ?_); try simp))

@[simp] theorem returnStep_fixed (s) : (returnStep s).fixed = s.fixed := by
  unfold returnStep
  try simp
  repeat' (first | (split <;> try simp) | (refine (foldl_fixed _ _ _ (fun _ _ => ?_)).trans ?_ <;> try simp) | (refine orRefuse_fixed _ _ _ _ _ _ (fun _ _ => ?_); try simp))

@[simp] theorem rewindBarges_fixed (s) : (rewindBarges s).fixed = s.fixed := by
  unfold rewindBarges; simp

@[simp] theorem rewrites_fixed (a0 s) : (rewrites a0 s).fixed = s.fixed := by
  unfold rewrites
  try simp
  repeat' (first | (split <;> try simp) | (refine (foldl_fixed _ _ _ (fun _ _ => ?_)).trans ?_ <;> try simp) | (refine orRefuse_fixed _ _ _ _ _ _ (fun _ _ => ?_); try simp))

@[simp] theorem reRecord_fixed (s) : (reRecord s).fixed = s.fixed := by
  unfold reRecord
  apply foldl_fixed
  intro s x
  split <;> rename_i e <;> simpa using fixed_of_snd e (issueStamp_fixed _ _ _)

@[simp] theorem replayStep_fixed (s) : (replayStep s).fixed = s.fixed := by
  unfold replayStep
  try simp
  repeat' (first | (split <;> try simp) | (refine (foldl_fixed _ _ _ (fun _ _ => ?_)).trans ?_ <;> try simp) | (refine orRefuse_fixed _ _ _ _ _ _ (fun _ _ => ?_); try simp))

@[simp] theorem countSent_fixed (a0 a1 s) : (countSent a0 a1 s).fixed = s.fixed := by
  unfold countSent; simp

@[simp] theorem forwardWrite_fixed (a0 a1 a2 a3 a4 s) : (forwardWrite a0 a1 a2 a3 a4 s).fixed = s.fixed := by
  unfold forwardWrite; simp

@[simp] theorem dropWrite_fixed (a0 s) : (dropWrite a0 s).fixed = s.fixed := by
  unfold dropWrite; simp

@[simp] theorem torusArrival_fixed (a0 a1 a2 a3 a4 a5 s) : (torusArrival a0 a1 a2 a3 a4 a5 s).fixed = s.fixed := by
  unfold torusArrival; simp

@[simp] theorem countLate_fixed (a0 a1 s) : (countLate a0 a1 s).fixed = s.fixed := by
  unfold countLate; simp

@[simp] theorem holdWrite_fixed (a0 a1 s) : (holdWrite a0 a1 s).fixed = s.fixed := by
  unfold holdWrite; simp

@[simp] theorem berthArrival_fixed (a0 a1 a2 a3 s) : (berthArrival a0 a1 a2 a3 s).fixed = s.fixed := by
  unfold berthArrival
  try simp
  repeat' (first | (split <;> try simp) | (refine (foldl_fixed _ _ _ (fun _ _ => ?_)).trans ?_ <;> try simp) | (refine (orRefuse_fixed _ _ _ _ _ _ (fun _ _ => ?_)).trans ?_ <;> try simp) | (intro _ <;> try simp))

@[simp] theorem writeArrival_fixed (a0 s) : (writeArrival a0 s).fixed = s.fixed := by
  unfold writeArrival
  try simp
  repeat' (first | (split <;> try simp) | (refine (foldl_fixed _ _ _ (fun _ _ => ?_)).trans ?_ <;> try simp) | (refine (orRefuse_fixed _ _ _ _ _ _ (fun _ _ => ?_)).trans ?_ <;> try simp) | (intro _ <;> try simp))

@[simp] theorem reorderStep_fixed (a0 s) : (reorderStep a0 s).fixed = s.fixed := by
  unfold reorderStep
  try simp
  repeat' (first | (split <;> try simp) | (refine (foldl_fixed _ _ _ (fun _ _ => ?_)).trans ?_ <;> try simp) | (refine orRefuse_fixed _ _ _ _ _ _ (fun _ _ => ?_); try simp))

@[simp] theorem copyStep_fixed (a0 s) : (copyStep a0 s).fixed = s.fixed := by
  unfold copyStep
  try simp
  repeat' (first | (split <;> try simp) | (refine (foldl_fixed _ _ _ (fun _ _ => ?_)).trans ?_ <;> try simp) | (refine orRefuse_fixed _ _ _ _ _ _ (fun _ _ => ?_); try simp))

@[simp] theorem poolResumeStep_fixed (a0 s) : (poolResumeStep a0 s).fixed = s.fixed := by
  unfold poolResumeStep
  try simp
  repeat' (first | (split <;> try simp) | (refine (foldl_fixed _ _ _ (fun _ _ => ?_)).trans ?_ <;> try simp) | (refine orRefuse_fixed _ _ _ _ _ _ (fun _ _ => ?_); try simp))

@[simp] theorem answerTorusRead_fixed (a0 a1 a2 a3 a4 s) : (answerTorusRead a0 a1 a2 a3 a4 s).fixed = s.fixed := by
  unfold answerTorusRead; simp

@[simp] theorem sendRead_fixed (a0 a1 a2 a3 s) : (sendRead a0 a1 a2 a3 s).fixed = s.fixed := by
  unfold sendRead; simp

@[simp] theorem forwardRead_fixed (a0 a1 a2 a3 s) : (forwardRead a0 a1 a2 a3 s).fixed = s.fixed := by
  unfold forwardRead; simp

@[simp] theorem readAnswer_fixed (a0 a1 a2 a3 a4 s) : (readAnswer a0 a1 a2 a3 a4 s).fixed = s.fixed := by
  unfold readAnswer
  try simp
  repeat' (first | (split <;> try simp) | (refine (foldl_fixed _ _ _ (fun _ _ => ?_)).trans ?_ <;> try simp) | (refine (orRefuse_fixed _ _ _ _ _ _ (fun _ _ => ?_)).trans ?_ <;> try simp) | (intro _ <;> try simp))

@[simp] theorem serveRead_fixed (a0 a1 s) : (serveRead a0 a1 s).fixed = s.fixed := by
  unfold serveRead
  try simp
  repeat' (first | (split <;> try simp) | (refine (foldl_fixed _ _ _ (fun _ _ => ?_)).trans ?_ <;> try simp) | (refine (orRefuse_fixed _ _ _ _ _ _ (fun _ _ => ?_)).trans ?_ <;> try simp) | (intro _ <;> try simp))

@[simp] theorem readStep_fixed (a0 a1 s) : (readStep a0 a1 s).fixed = s.fixed := by
  unfold readStep
  try simp
  repeat' (first | (split <;> try simp) | (refine (foldl_fixed _ _ _ (fun _ _ => ?_)).trans ?_ <;> try simp) | (refine orRefuse_fixed _ _ _ _ _ _ (fun _ _ => ?_); try simp))

@[simp] theorem refreshStep_fixed (a0 a1 a2 s) : (refreshStep a0 a1 a2 s).fixed = s.fixed := by
  unfold refreshStep; simp

@[simp] theorem calibCount_fixed (a0 a1 a2 s) : (calibCount a0 a1 a2 s).fixed = s.fixed := by
  unfold calibCount; simp

@[simp] theorem trackStep_fixed (a0 a1 a2 s) : (trackStep a0 a1 a2 s).fixed = s.fixed := by
  unfold trackStep; simp

@[simp] theorem trackAll_fixed (s) : (trackAll s).fixed = s.fixed := by
  unfold trackAll; simp

@[simp] theorem patrolStep_fixed (a0 a1 a2 s) : (patrolStep a0 a1 a2 s).fixed = s.fixed := by
  unfold patrolStep; simp

@[simp] theorem lockIfClose_fixed (s) : (lockIfClose s).fixed = s.fixed := by
  unfold lockIfClose; simp

@[simp] theorem timersTick_fixed (s) : (timersTick s).fixed = s.fixed := by
  unfold timersTick; simp

@[simp] theorem copiesTick_fixed (a0 s) : (copiesTick a0 s).fixed = s.fixed := by
  unfold copiesTick; simp

@[simp] theorem pauseSerials_fixed (a0 a1 s) : (pauseSerials a0 a1 s).2.fixed = s.fixed := by
  unfold pauseSerials
  try simp
  repeat' (first | (split <;> try simp) | (refine (foldl_fixed _ _ _ (fun _ _ => ?_)).trans ?_ <;> try simp) | (refine orRefuse_fixed _ _ _ _ _ _ (fun _ _ => ?_); try simp))

@[simp] theorem pauseEvent_fixed (a0 a1 a2 a3 s) : (pauseEvent a0 a1 a2 a3 s).fixed = s.fixed := by
  unfold pauseEvent; simp

@[simp] theorem giveStamp_fixed (a0 a1 s) : (giveStamp a0 a1 s).fixed = s.fixed := by
  unfold giveStamp
  try simp
  repeat' (first | (split <;> try simp) | (refine (foldl_fixed _ _ _ (fun _ _ => ?_)).trans ?_ <;> try simp) | (refine orRefuse_fixed _ _ _ _ _ _ (fun _ _ => ?_); try simp))

@[simp] theorem releaseHeld_fixed (b n s) : (releaseHeld b n s).fixed = s.fixed := by
  induction n generalizing s with
  | zero => rfl
  | succ n ih =>
    unfold releaseHeld
    simp only
    split
    · rfl
    · split
      · rw [ih, giveStamp_fixed]
        rfl
      · rfl

@[simp] theorem replicaStep_fixed (a0 a1 s) : (replicaStep a0 a1 s).fixed = s.fixed := by
  unfold replicaStep; simp

@[simp] theorem loadCopies_fixed (s) : (loadCopies s).fixed = s.fixed := by
  unfold loadCopies; simp

@[simp] theorem timingSend_fixed (a0 a1 s) : (timingSend a0 a1 s).fixed = s.fixed := by
  unfold timingSend; simp

@[simp] theorem takeMaster_fixed (a0 s) : (takeMaster a0 s).fixed = s.fixed := by
  unfold takeMaster; simp

@[simp] theorem becomeMaster_fixed (s) : (becomeMaster s).fixed = s.fixed := by
  unfold becomeMaster; simp

@[simp] theorem learnMaster_fixed (a0 s) : (learnMaster a0 s).fixed = s.fixed := by
  unfold learnMaster; simp

@[simp] theorem scheduleStep_fixed (a0 s) : (scheduleStep a0 s).fixed = s.fixed := by
  unfold scheduleStep; simp

@[simp] theorem sendAvs_fixed (a0 a1 a2 s) : (sendAvs a0 a1 a2 s).fixed = s.fixed := by
  unfold sendAvs; simp

@[simp] theorem setChange_fixed (a0 a1 s) : (setChange a0 a1 s).fixed = s.fixed := by
  unfold setChange; simp

@[simp] theorem stepStart_fixed (a0 s) : (stepStart a0 s).fixed = s.fixed := by
  unfold stepStart
  try simp
  repeat' (first | (split <;> try simp) | (refine (foldl_fixed _ _ _ (fun _ _ => ?_)).trans ?_ <;> try simp) | (refine orRefuse_fixed _ _ _ _ _ _ (fun _ _ => ?_); try simp))

@[simp] theorem changeDone_fixed (a0 s) : (changeDone a0 s).fixed = s.fixed := by
  unfold changeDone
  try simp
  repeat' (first | (split <;> try simp) | (refine (foldl_fixed _ _ _ (fun _ _ => ?_)).trans ?_ <;> try simp) | (refine orRefuse_fixed _ _ _ _ _ _ (fun _ _ => ?_); try simp))

@[simp] theorem glideStep_fixed (a0 s) : (glideStep a0 s).fixed = s.fixed := by
  unfold glideStep
  try simp
  repeat' (first | (split <;> try simp) | (refine (foldl_fixed _ _ _ (fun _ _ => ?_)).trans ?_ <;> try simp) | (refine orRefuse_fixed _ _ _ _ _ _ (fun _ _ => ?_); try simp))

@[simp] theorem wroteVolts_fixed (a0 a1 s) : (wroteVolts a0 a1 s).fixed = s.fixed := by
  unfold wroteVolts
  try simp
  repeat' (first | (split <;> try simp) | (refine (foldl_fixed _ _ _ (fun _ _ => ?_)).trans ?_ <;> try simp) | (refine orRefuse_fixed _ _ _ _ _ _ (fun _ _ => ?_); try simp))

@[simp] theorem statusRead_fixed (a0 a1 s) : (statusRead a0 a1 s).fixed = s.fixed := by
  unfold statusRead
  try simp
  repeat' (first | (split <;> try simp) | (refine (foldl_fixed _ _ _ (fun _ _ => ?_)).trans ?_ <;> try simp) | (refine orRefuse_fixed _ _ _ _ _ _ (fun _ _ => ?_); try simp))

@[simp] theorem avsFailed_fixed (a0 s) : (avsFailed a0 s).fixed = s.fixed := by
  unfold avsFailed
  try simp
  repeat' (first | (split <;> try simp) | (refine (foldl_fixed _ _ _ (fun _ _ => ?_)).trans ?_ <;> try simp) | (refine orRefuse_fixed _ _ _ _ _ _ (fun _ _ => ?_); try simp))

@[simp] theorem avsDone_fixed (a0 s) : (avsDone a0 s).fixed = s.fixed := by
  unfold avsDone
  try simp
  repeat' (first | (split <;> try simp) | (refine (foldl_fixed _ _ _ (fun _ _ => ?_)).trans ?_ <;> try simp) | (refine orRefuse_fixed _ _ _ _ _ _ (fun _ _ => ?_); try simp))

@[simp] theorem pllLoss_fixed (a0 s) : (pllLoss a0 s).fixed = s.fixed := by
  unfold pllLoss; simp

@[simp] theorem pllRelock_fixed (a0 s) : (pllRelock a0 s).fixed = s.fixed := by
  unfold pllRelock; simp

@[simp] theorem marginStep_fixed (a0 a1 a2 s) : (marginStep a0 a1 a2 s).fixed = s.fixed := by
  unfold marginStep; simp

end Sys2Proof.Machine
end

