-- ==== Sys2Proof/Laws/FixedBase.lean ====
section
/-!
SUPPORT. Every function of the base, light and the torus on states keeps the queue, the fuses and fabric time. A function that does not is not named; those are in Laws/Aging.lean.
-/

-- One proof after another: in parallel each asks for a thread and its stack.
set_option Elab.async false
set_option linter.all false

namespace Sys2Proof.Machine

@[simp] theorem laneStep_fixed (a0 a1 s) : (laneStep a0 a1 s).fixed = s.fixed := by
  unfold laneStep; simp

@[simp] theorem suspectLane_fixed (a0 a1 s) : (suspectLane a0 a1 s).fixed = s.fixed := by
  unfold suspectLane; simp

@[simp] theorem watchLanes_fixed (a0 a1 s) : (watchLanes a0 a1 s).fixed = s.fixed := by
  unfold watchLanes; simp

@[simp] theorem idleWave_fixed (a0 a1 a2 a3 s) : (idleWave a0 a1 a2 a3 s).fixed = s.fixed := by
  unfold idleWave; simp

@[simp] theorem pruneQueue_fixed (a0 s) : (pruneQueue a0 s).fixed = s.fixed := by
  unfold pruneQueue; simp

@[simp] theorem pairFields_fixed (s a1 a2) : (pairFields s a1 a2).2.fixed = s.fixed := by
  unfold pairFields; simp

@[simp] theorem newFrame_fixed (a0 a1 s) : (newFrame a0 a1 s).2.fixed = s.fixed := by
  unfold newFrame; simp

@[simp] theorem nextFrame_fixed (a0 a1 s) : (nextFrame a0 a1 s).2.fixed = s.fixed := by
  unfold nextFrame
  try simp
  repeat' (first | (split <;> try simp) | (refine (foldl_fixed _ _ _ (fun _ _ => ?_)).trans ?_ <;> try simp) | (refine orRefuse_fixed _ _ _ _ _ _ (fun _ _ => ?_); try simp))

@[simp] theorem countFrame_fixed (a0 a1 s) : (countFrame a0 a1 s).fixed = s.fixed := by
  unfold countFrame; simp

@[simp] theorem toTrain_fixed (a0 s) : (toTrain a0 s).fixed = s.fixed := by
  unfold toTrain; simp

@[simp] theorem unrecovered_fixed (a0 a1 s) : (unrecovered a0 a1 s).fixed = s.fixed := by
  unfold unrecovered; simp

@[simp] theorem fibreControl_fixed (a0 a1 s) : (fibreControl a0 a1 s).fixed = s.fixed := by
  unfold fibreControl; simp

@[simp] theorem arrivePacket_fixed (a0 a1 a2 s) : (arrivePacket a0 a1 a2 s).fixed = s.fixed := by
  unfold arrivePacket
  try simp
  repeat' (first | (split <;> try simp) | (refine (foldl_fixed _ _ _ (fun _ _ => ?_)).trans ?_ <;> try simp) | (refine orRefuse_fixed _ _ _ _ _ _ (fun _ _ => ?_); try simp))

@[simp] theorem countDecoded_fixed (a0 a1 a2 s) : (countDecoded a0 a1 a2 s).fixed = s.fixed := by
  unfold countDecoded; simp

@[simp] theorem acceptFrame_fixed (a0 a1 a2 a3 s) : (acceptFrame a0 a1 a2 a3 s).fixed = s.fixed := by
  unfold acceptFrame; simp

@[simp] theorem askAgain_fixed (a0 a1 a2 s) : (askAgain a0 a1 a2 s).fixed = s.fixed := by
  unfold askAgain; simp

@[simp] theorem badFrame_fixed (a0 a1 a2 s) : (badFrame a0 a1 a2 s).fixed = s.fixed := by
  unfold badFrame; simp

@[simp] theorem takeFrame_fixed (a0 a1 a2 a3 s) : (takeFrame a0 a1 a2 a3 s).fixed = s.fixed := by
  unfold takeFrame
  try simp
  repeat' (first | (split <;> try simp) | (refine (foldl_fixed _ _ _ (fun _ _ => ?_)).trans ?_ <;> try simp) | (refine (orRefuse_fixed _ _ _ _ _ _ (fun _ _ => ?_)).trans ?_ <;> try simp) | (intro _ <;> try simp))

@[simp] theorem fibreSend_fixed (t n s) : (fibreSend t n s).fixed = s.fixed := by
  induction n generalizing s with
  | zero => rfl
  | succ n ih =>
    unfold fibreSend
    dsimp only
    split
    · rfl
    · rw [ih]; simp

theorem fibreAdmit_fixed {d p s t} (h : fibreAdmit d p s = some t) : t.fixed = s.fixed := by
  unfold fibreAdmit at h
  dsimp only at h
  cases e : fibreFor s d (torusOf p) <;> rw [e] at h <;> cases h
  simp

@[simp] theorem fibreList_fixed (d l h s) : (fibreList d l h s).2.fixed = s.fixed := by
  induction l generalizing h s with
  | nil => rfl
  | cons w l ih =>
    unfold fibreList
    dsimp only
    split
    · rename_i e
      split at e
      · cases e
      · rw [ih]; exact fibreAdmit_fixed e
    · simp [ih]

@[simp] theorem fibreEnter_fixed (a0 a1 s) : (fibreEnter a0 a1 s).fixed = s.fixed := by
  unfold fibreEnter; simp

@[simp] theorem passCycle_fixed (a0 a1 s) : (passCycle a0 a1 s).fixed = s.fixed := by
  unfold passCycle; simp

@[simp] theorem fibreFrame_fixed (a0 a1 s) : (fibreFrame a0 a1 s).fixed = s.fixed := by
  unfold fibreFrame
  try simp
  repeat' (first | (split <;> try simp) | (refine (foldl_fixed _ _ _ (fun _ _ => ?_)).trans ?_ <;> try simp) | (refine (orRefuse_fixed _ _ _ _ _ _ (fun _ _ => ?_)).trans ?_ <;> try simp) | (intro _ <;> try simp))

@[simp] theorem frameReceive_fixed (a0 a1 s) : (frameReceive a0 a1 s).fixed = s.fixed := by
  unfold frameReceive
  try simp
  repeat' (first | (split <;> try simp) | (refine (foldl_fixed _ _ _ (fun _ _ => ?_)).trans ?_ <;> try simp) | (refine (orRefuse_fixed _ _ _ _ _ _ (fun _ _ => ?_)).trans ?_ <;> try simp) | (intro _ <;> try simp))

@[simp] theorem nakStep_fixed (a0 s) : (nakStep a0 s).fixed = s.fixed := by
  unfold nakStep
  try simp
  repeat' (first | (split <;> try simp) | (refine (foldl_fixed _ _ _ (fun _ _ => ?_)).trans ?_ <;> try simp) | (refine orRefuse_fixed _ _ _ _ _ _ (fun _ _ => ?_); try simp))

@[simp] theorem baseParity_fixed (a0 a1 a2 s) : (baseParity a0 a1 a2 s).fixed = s.fixed := by
  unfold baseParity; simp

@[simp] theorem grantStep_fixed (a0 a1 a2 s) : (grantStep a0 a1 a2 s).fixed = s.fixed := by
  unfold grantStep
  try simp
  repeat' (first | (split <;> try simp) | (refine (foldl_fixed _ _ _ (fun _ _ => ?_)).trans ?_ <;> try simp) | (refine orRefuse_fixed _ _ _ _ _ _ (fun _ _ => ?_); try simp))

@[simp] theorem retargetStep_fixed (a0 a1 s) : (retargetStep a0 a1 s).fixed = s.fixed := by
  unfold retargetStep
  try simp
  repeat' (first | (split <;> try simp) | (refine (foldl_fixed _ _ _ (fun _ _ => ?_)).trans ?_ <;> try simp) | (refine orRefuse_fixed _ _ _ _ _ _ (fun _ _ => ?_); try simp))

@[simp] theorem portEnter_fixed (a0 a1 a2 s) : (portEnter a0 a1 a2 s).fixed = s.fixed := by
  unfold portEnter; simp

@[simp] theorem ackReceive_fixed (a0 a1 a2 s) : (ackReceive a0 a1 a2 s).fixed = s.fixed := by
  unfold ackReceive; simp

@[simp] theorem noticeAcked_fixed (a0 a1 s) : (noticeAcked a0 a1 s).fixed = s.fixed := by
  unfold noticeAcked
  try simp
  repeat' (first | (split <;> try simp) | (refine (foldl_fixed _ _ _ (fun _ _ => ?_)).trans ?_ <;> try simp) | (refine (orRefuse_fixed _ _ _ _ _ _ (fun _ _ => ?_)).trans ?_ <;> try simp) | (intro _ <;> try simp))

@[simp] theorem wharfTakes_fixed (a0 s) : (wharfTakes a0 s).fixed = s.fixed := by
  unfold wharfTakes
  try simp
  repeat' (first | (split <;> try simp) | (refine (foldl_fixed _ _ _ (fun _ _ => ?_)).trans ?_ <;> try simp) | (refine (orRefuse_fixed _ _ _ _ _ _ (fun _ _ => ?_)).trans ?_ <;> try simp) | (intro _ <;> try simp))

@[simp] theorem berthTakes_fixed (a0 s) : (berthTakes a0 s).fixed = s.fixed := by
  unfold berthTakes; simp

@[simp] theorem deliverBase_fixed (a0 a1 s) : (deliverBase a0 a1 s).fixed = s.fixed := by
  unfold deliverBase; simp

@[simp] theorem drainQueue_fixed (l v n u s) : (drainQueue l v n u s).fixed = s.fixed := by
  induction n generalizing u s with
  | zero => rfl
  | succ n ih =>
    unfold drainQueue
    split
    · rfl
    · dsimp only
      split
      · rw [ih]; simp
      · rfl

@[simp] theorem creditStep_fixed (a0 a1 a2 s) : (creditStep a0 a1 a2 s).fixed = s.fixed := by
  unfold creditStep; simp

@[simp] theorem startAct_fixed (a0 s) : (startAct a0 s).fixed = s.fixed := by
  unfold startAct
  try simp
  repeat' (first | (split <;> try simp) | (refine (foldl_fixed _ _ _ (fun _ _ => ?_)).trans ?_ <;> try simp) | (refine orRefuse_fixed _ _ _ _ _ _ (fun _ _ => ?_); try simp))

@[simp] theorem holdLink_fixed (a0 s) : (holdLink a0 s).fixed = s.fixed := by
  unfold holdLink; simp

@[simp] theorem takeBackAll_fixed (a0 s) : (takeBackAll a0 s).fixed = s.fixed := by
  unfold takeBackAll; simp

@[simp] theorem reallot_fixed (a0 a1 s) : (reallot a0 a1 s).fixed = s.fixed := by
  unfold reallot; simp

@[simp] theorem windowStart_fixed (s) : (windowStart s).fixed = s.fixed := by
  unfold windowStart; simp

@[simp] theorem resume_fixed (a0 a1 s) : (resume a0 a1 s).fixed = s.fixed := by
  unfold resume; simp

@[simp] theorem lockPorts_fixed (a0 a1 a2 s) : (lockPorts a0 a1 a2 s).fixed = s.fixed := by
  unfold lockPorts; simp

@[simp] theorem ringsLocked_fixed (a0 s) : (ringsLocked a0 s).fixed = s.fixed := by
  unfold ringsLocked; dsimp only; repeat' split
  all_goals simp

@[simp] theorem portUnset_fixed (a0 s a2) : (portUnset a0 s a2).fixed = s.fixed := by
  unfold portUnset; simp

@[simp] theorem linkDeadline_fixed (a0 s) : (linkDeadline a0 s).fixed = s.fixed := by
  unfold linkDeadline; simp

@[simp] theorem windowDeadline_fixed (s) : (windowDeadline s).fixed = s.fixed := by
  unfold windowDeadline; simp

@[simp] theorem resync_fixed (a0 a1 s) : (resync a0 a1 s).fixed = s.fixed := by
  unfold resync; simp

@[simp] theorem retrained_fixed (a0 s) : (retrained a0 s).fixed = s.fixed := by
  unfold retrained; simp

@[simp] theorem endAct_fixed (a0 s) : (endAct a0 s).fixed = s.fixed := by
  unfold endAct
  try simp
  repeat' (first | (split <;> try simp) | (refine (foldl_fixed _ _ _ (fun _ _ => ?_)).trans ?_ <;> try simp) | (refine orRefuse_fixed _ _ _ _ _ _ (fun _ _ => ?_); try simp))

@[simp] theorem windowEnd_fixed (s) : (windowEnd s).fixed = s.fixed := by
  unfold windowEnd; simp

@[simp] theorem basinPut_fixed (a0 a1 s) : (basinPut a0 a1 s).fixed = s.fixed := by
  unfold basinPut; simp

@[simp] theorem unqueueKept_fixed (a0 a1 s) : (unqueueKept a0 a1 s).fixed = s.fixed := by
  unfold unqueueKept
  try simp
  repeat' (first | (split <;> try simp) | (refine (foldl_fixed _ _ _ (fun _ _ => ?_)).trans ?_ <;> try simp) | (refine orRefuse_fixed _ _ _ _ _ _ (fun _ _ => ?_); try simp))

@[simp] theorem unqueue_fixed (a0 a1 s) : (unqueue a0 a1 s).fixed = s.fixed := by
  unfold unqueue
  try simp
  repeat' (first | (split <;> try simp) | (refine (foldl_fixed _ _ _ (fun _ _ => ?_)).trans ?_ <;> try simp) | (refine orRefuse_fixed _ _ _ _ _ _ (fun _ _ => ?_); try simp))

@[simp] theorem basinStep_fixed (a0 a1 s) : (basinStep a0 a1 s).fixed = s.fixed := by
  unfold basinStep
  try simp
  repeat' (first | (split <;> try simp) | (refine (foldl_fixed _ _ _ (fun _ _ => ?_)).trans ?_ <;> try simp) | (refine orRefuse_fixed _ _ _ _ _ _ (fun _ _ => ?_); try simp))

@[simp] theorem finishEntry_fixed (a0 a1 s) : (finishEntry a0 a1 s).fixed = s.fixed := by
  unfold finishEntry; simp

@[simp] theorem basinDone_fixed (a0 a1 a2 s) : (basinDone a0 a1 a2 s).fixed = s.fixed := by
  unfold basinDone
  try simp
  repeat' (first | (split <;> try simp) | (refine (foldl_fixed _ _ _ (fun _ _ => ?_)).trans ?_ <;> try simp) | (refine orRefuse_fixed _ _ _ _ _ _ (fun _ _ => ?_); try simp))

@[simp] theorem collDone_fixed (a0 s) : (collDone a0 s).fixed = s.fixed := by
  unfold collDone
  try simp
  repeat' (first | (split <;> try simp) | (refine (foldl_fixed _ _ _ (fun _ _ => ?_)).trans ?_ <;> try simp) | (refine orRefuse_fixed _ _ _ _ _ _ (fun _ _ => ?_); try simp))

@[simp] theorem dropBase_fixed (s) : (dropBase s).fixed = s.fixed := by
  unfold dropBase; simp

@[simp] theorem resetBase_fixed (a0 s) : (resetBase a0 s).fixed = s.fixed := by
  unfold resetBase; simp

@[simp] theorem baseReset_fixed (a0 s) : (baseReset a0 s).fixed = s.fixed := by
  unfold baseReset; simp

@[simp] theorem resetWaiting_fixed (s) : (resetWaiting s).fixed = s.fixed := by
  unfold resetWaiting
  try simp
  repeat' (first | (split <;> try simp) | (refine (foldl_fixed _ _ _ (fun _ _ => ?_)).trans ?_ <;> try simp) | (refine (orRefuse_fixed _ _ _ _ _ _ (fun _ _ => ?_)).trans ?_ <;> try simp) | (intro _ <;> try simp))

@[simp] theorem mendTables_fixed (s) : (mendTables s).fixed = s.fixed := by
  unfold mendTables; simp

@[simp] theorem baseRelease_fixed (s) : (baseRelease s).fixed = s.fixed := by
  unfold baseRelease
  try simp
  repeat' (first | (split <;> try simp) | (refine (foldl_fixed _ _ _ (fun _ _ => ?_)).trans ?_ <;> try simp) | (refine orRefuse_fixed _ _ _ _ _ _ (fun _ _ => ?_); try simp))

@[simp] theorem installPlan_fixed (s) : (installPlan s).fixed = s.fixed := by
  unfold installPlan
  generalize List.range 32 = l
  generalize List.range 8 = k
  exact foldl_fixed _ _ _ fun s b => foldl_fixed _ _ _ fun s r => by simp

@[simp] theorem allotAll_fixed (s) : (allotAll s).fixed = s.fixed := by
  unfold allotAll
  generalize List.range 32 = l
  generalize List.range 8 = k
  exact foldl_fixed _ _ _ fun s b => foldl_fixed _ _ _ fun s r => by simp

@[simp] theorem fibreCredits_fixed (s) : (fibreCredits s).fixed = s.fixed := by
  unfold fibreCredits; simp

@[simp] theorem restoreCircuit_fixed (a0 s) : (restoreCircuit a0 s).fixed = s.fixed := by
  unfold restoreCircuit; simp

@[simp] theorem planReloaded_fixed (down s) : (planReloaded down s).fixed = s.fixed := by
  unfold planReloaded
  split
  · split
    · refine (foldl_fixed _ _ _ fun s l => by simp).trans ?_
      rw [setLinks_fixed]
      rw [fixed_mk, fixed_pack]
      refine (foldl_fixed _ _ _ fun s p => foldl_fixed _ _ _ fun s l => by simp).trans ?_
      simp
    · rfl
  · rfl

@[simp] theorem groupDown_fixed (a0 s) : (groupDown a0 s).fixed = s.fixed := by
  unfold groupDown; simp

@[simp] theorem enqueue_fixed (a0 a1 s) : (enqueue a0 a1 s).fixed = s.fixed := by
  unfold enqueue; simp

@[simp] theorem relieve_fixed (a0 a1 s) : (relieve a0 a1 s).fixed = s.fixed := by
  unfold relieve; simp

@[simp] theorem dropLane_fixed (a0 a1 s) : (dropLane a0 a1 s).fixed = s.fixed := by
  unfold dropLane; simp

@[simp] theorem relieveFail_fixed (a0 a1 s) : (relieveFail a0 a1 s).fixed = s.fixed := by
  unfold relieveFail; simp

@[simp] theorem wrFail_fixed (a0 s) : (wrFail a0 s).fixed = s.fixed := by
  unfold wrFail
  try simp
  repeat' (first | (split <;> try simp) | (refine (foldl_fixed _ _ _ (fun _ _ => ?_)).trans ?_ <;> try simp) | (refine orRefuse_fixed _ _ _ _ _ _ (fun _ _ => ?_); try simp))

@[simp] theorem laserFail_fixed (a0 s) : (laserFail a0 s).fixed = s.fixed := by
  unfold laserFail; simp

@[simp] theorem laserMigrate_fixed (a0 s) : (laserMigrate a0 s).fixed = s.fixed := by
  unfold laserMigrate; simp

@[simp] theorem failTrip_fixed (a0 s) : (failTrip a0 s).fixed = s.fixed := by
  unfold failTrip; simp

@[simp] theorem noSpare_fixed (a0 a1 s) : (noSpare a0 a1 s).fixed = s.fixed := by
  unfold noSpare; simp

@[simp] theorem setPhase_fixed (a0 a1 s) : (setPhase a0 a1 s).fixed = s.fixed := by
  unfold setPhase; simp

@[simp] theorem handStart_fixed (a0 s) : (handStart a0 s).fixed = s.fixed := by
  unfold handStart
  try simp
  repeat' (first | (split <;> try simp) | (refine (foldl_fixed _ _ _ (fun _ _ => ?_)).trans ?_ <;> try simp) | (refine orRefuse_fixed _ _ _ _ _ _ (fun _ _ => ?_); try simp))

@[simp] theorem handDrain_fixed (a0 s) : (handDrain a0 s).fixed = s.fixed := by
  unfold handDrain; simp

@[simp] theorem spareReject_fixed (a0 s) : (spareReject a0 s).fixed = s.fixed := by
  unfold spareReject
  try simp
  repeat' (first | (split <;> try simp) | (refine (foldl_fixed _ _ _ (fun _ _ => ?_)).trans ?_ <;> try simp) | (refine orRefuse_fixed _ _ _ _ _ _ (fun _ _ => ?_); try simp))

@[simp] theorem spareTuned_fixed (a0 s) : (spareTuned a0 s).fixed = s.fixed := by
  unfold spareTuned
  try simp
  repeat' (first | (split <;> try simp) | (refine (foldl_fixed _ _ _ (fun _ _ => ?_)).trans ?_ <;> try simp) | (refine (orRefuse_fixed _ _ _ _ _ _ (fun _ _ => ?_)).trans ?_ <;> try simp) | (intro _ <;> try simp))

@[simp] theorem spareTunedStep_fixed (a0 a1 s) : (spareTunedStep a0 a1 s).fixed = s.fixed := by
  unfold spareTunedStep; simp

@[simp] theorem spareVerifiedStep_fixed (a0 a1 s) : (spareVerifiedStep a0 a1 s).fixed = s.fixed := by
  unfold spareVerifiedStep; simp

@[simp] theorem handSwitch_fixed (a0 s) : (handSwitch a0 s).fixed = s.fixed := by
  unfold handSwitch
  try simp
  repeat' (first | (split <;> try simp) | (refine (foldl_fixed _ _ _ (fun _ _ => ?_)).trans ?_ <;> try simp) | (refine orRefuse_fixed _ _ _ _ _ _ (fun _ _ => ?_); try simp))

@[simp] theorem handCheck_fixed (a0 a1 s) : (handCheck a0 a1 s).fixed = s.fixed := by
  unfold handCheck; simp

@[simp] theorem handStop_fixed (a0 s) : (handStop a0 s).fixed = s.fixed := by
  unfold handStop
  try simp
  repeat' (first | (split <;> try simp) | (refine (foldl_fixed _ _ _ (fun _ _ => ?_)).trans ?_ <;> try simp) | (refine orRefuse_fixed _ _ _ _ _ _ (fun _ _ => ?_); try simp))

@[simp] theorem relieveLink_fixed (a0 a1 s) : (relieveLink a0 a1 s).fixed = s.fixed := by
  unfold relieveLink; simp

@[simp] theorem returnLane_fixed (a0 a1 s) : (returnLane a0 a1 s).fixed = s.fixed := by
  unfold returnLane; simp

@[simp] theorem wrongLock_fixed (a0 s) : (wrongLock a0 s).fixed = s.fixed := by
  unfold wrongLock; simp

@[simp] theorem relockStep_fixed (a0 a1 s) : (relockStep a0 a1 s).fixed = s.fixed := by
  unfold relockStep; simp

@[simp] theorem suspectCause_fixed (a0 s) : (suspectCause a0 s).fixed = s.fixed := by
  unfold suspectCause; simp

@[simp] theorem laserCalibrated_fixed (a0 a1 a2 s) : (laserCalibrated a0 a1 a2 s).fixed = s.fixed := by
  unfold laserCalibrated; simp

@[simp] theorem calibGap_fixed (c i s) : (calibGap c i s).1.fixed = s.fixed := by
  have h : (ringGap i s).1.fixed = s.fixed := by
    unfold ringGap
    dsimp only
    repeat' (split)
    all_goals simp
  unfold calibGap
  repeat' (split)
  all_goals simp [h]

@[simp] theorem calibRun_fixed (c i v a s) : (calibRun c i v a s).fixed = s.fixed := by
  unfold calibRun
  dsimp only
  repeat' (split)
  all_goals simp

@[simp] theorem calibStep_fixed (a0 a1 a2 a3 s) : (calibStep a0 a1 a2 a3 s).fixed = s.fixed := by
  unfold calibStep; simp

@[simp] theorem governStep_fixed (a0 a1 s) : (governStep a0 a1 s).fixed = s.fixed := by
  unfold governStep; simp

@[simp] theorem noticeStep_fixed (a0 s) : (noticeStep a0 s).fixed = s.fixed := by
  unfold noticeStep
  try simp
  repeat' (first | (split <;> try simp) | (refine (foldl_fixed _ _ _ (fun _ _ => ?_)).trans ?_ <;> try simp) | (refine orRefuse_fixed _ _ _ _ _ _ (fun _ _ => ?_); try simp))

theorem takeControl_fixed (f s c s') (h : takeControl f s = some (c, s')) : s'.fixed = s.fixed := by
  unfold takeControl at h
  rw [Option.map_eq_some_iff] at h
  obtain ⟨_, -, e⟩ := h
  cases e; rfl

theorem takeNotice_fixed (n s s') (h : takeNotice n s = some s') : s'.fixed = s.fixed := by
  unfold takeNotice at h
  rw [Option.map_eq_some_iff] at h
  obtain ⟨⟨c, t⟩, h, e⟩ := h
  rw [← e, sendControl_fixed]
  exact takeControl_fixed _ _ _ _ h

@[simp] theorem closeRequest_fixed (a0 a1 s) : (closeRequest a0 a1 s).fixed = s.fixed := by
  unfold closeRequest
  split
  · rfl
  · next h => rw [← takeNotice_fixed _ _ _ h]; split <;> simp

@[simp] theorem namedCut_fixed (a0 a1 s) : (namedCut a0 a1 s).fixed = s.fixed := by
  unfold namedCut; simp

@[simp] theorem joinStep_fixed (s) : (joinStep s).fixed = s.fixed := by
  unfold joinStep; simp

@[simp] theorem joinReceive_fixed (a0 a1 s) : (joinReceive a0 a1 s).fixed = s.fixed := by
  unfold joinReceive
  split
  · rfl
  · next h => rw [← takeNotice_fixed _ _ _ h]; split <;> simp

@[simp] theorem leaveStep_fixed (s) : (leaveStep s).fixed = s.fixed := by
  unfold leaveStep; simp

@[simp] theorem addFlightWindow_fixed (a0 a1 a2 a3 s) : (addFlightWindow a0 a1 a2 a3 s).fixed = s.fixed := by
  unfold addFlightWindow; simp

@[simp] theorem confirmPassages_fixed (a0 s) : (confirmPassages a0 s).fixed = s.fixed := by
  unfold confirmPassages; simp

@[simp] theorem takeWindow_fixed (a0 a1 s) : (takeWindow a0 a1 s).fixed = s.fixed := by
  unfold takeWindow; simp

@[simp] theorem takeFlight_fixed (a0 a1 s) : (takeFlight a0 a1 s).fixed = s.fixed := by
  unfold takeFlight; simp

@[simp] theorem placeFlight_fixed (a0 a1 s) : (placeFlight a0 a1 s).fixed = s.fixed := by
  unfold placeFlight; simp

@[simp] theorem flightStep_fixed (a0 a1 s) : (flightStep a0 a1 s).fixed = s.fixed := by
  unfold flightStep; simp

@[simp] theorem takeLinkState_fixed (a0 a1 a2 s) : (takeLinkState a0 a1 a2 s).fixed = s.fixed := by
  unfold takeLinkState; simp

@[simp] theorem noticeReceive_fixed (a0 a1 a2 s) : (noticeReceive a0 a1 a2 s).fixed = s.fixed := by
  unfold noticeReceive
  split
  · rfl
  · next h =>
    rw [← takeControl_fixed _ _ _ _ h]
    split
    · rfl
    · cases a2 <;> simp

@[simp] theorem masterLost_fixed (s) : (masterLost s).fixed = s.fixed := by
  unfold masterLost; simp

@[simp] theorem releaseHeldWrite_fixed (a0 s) : (releaseHeldWrite a0 s).fixed = s.fixed := by
  unfold releaseHeldWrite; simp

@[simp] theorem commitNotice_fixed (a0 a1 a2 s) : (commitNotice a0 a1 a2 s).fixed = s.fixed := by
  unfold commitNotice
  split
  · rfl
  · next h =>
    rw [← takeNotice_fixed _ _ _ h]
    exact (foldl_fixed _ _ _ (fun _ _ => by simp)).trans rfl

@[simp] theorem rollbackNotice_fixed (a0 a1 a2 s) : (rollbackNotice a0 a1 a2 s).fixed = s.fixed := by
  unfold rollbackNotice
  split
  · rfl
  · next h => rw [← takeNotice_fixed _ _ _ h]; rfl

@[simp] theorem holdStep_fixed (a0 a1 s) : (holdStep a0 a1 s).fixed = s.fixed := by
  unfold holdStep
  try simp
  repeat' (first | (split <;> try simp) | (refine (foldl_fixed _ _ _ (fun _ _ => ?_)).trans ?_ <;> try simp) | (refine orRefuse_fixed _ _ _ _ _ _ (fun _ _ => ?_); try simp))

@[simp] theorem writeAck_fixed (a0 a1 a2 s) : (writeAck a0 a1 a2 s).fixed = s.fixed := by
  unfold writeAck; simp

@[simp] theorem unackedStep_fixed (s) : (unackedStep s).fixed = s.fixed := by
  unfold unackedStep
  try simp
  repeat' (first | (split <;> try simp) | (refine (foldl_fixed _ _ _ (fun _ _ => ?_)).trans ?_ <;> try simp) | (refine orRefuse_fixed _ _ _ _ _ _ (fun _ _ => ?_); try simp))

@[simp] theorem readResend_fixed (a0 s) : (readResend a0 s).fixed = s.fixed := by
  unfold readResend
  try simp
  repeat' (first | (split <;> try simp) | (refine (foldl_fixed _ _ _ (fun _ _ => ?_)).trans ?_ <;> try simp) | (refine orRefuse_fixed _ _ _ _ _ _ (fun _ _ => ?_); try simp))

@[simp] theorem routeError_fixed (a0 a1 s) : (routeError a0 a1 s).fixed = s.fixed := by
  unfold routeError; simp

@[simp] theorem deliverPacket_fixed (a0 a1 s) : (deliverPacket a0 a1 s).fixed = s.fixed := by
  unfold deliverPacket
  try simp
  repeat' (first | (split <;> try simp) | (refine (foldl_fixed _ _ _ (fun _ _ => ?_)).trans ?_ <;> try simp) | (refine orRefuse_fixed _ _ _ _ _ _ (fun _ _ => ?_); try simp))

@[simp] theorem fibreTake_fixed (a0 a1 s) : (fibreTake a0 a1 s).fixed = s.fixed := by
  unfold fibreTake; simp

@[simp] theorem fibreStep_fixed (a0 a1 a2 s) : (fibreStep a0 a1 a2 s).fixed = s.fixed := by
  unfold fibreStep; simp

@[simp] theorem trainStep_fixed (a0 a1 a2 a3 a4 s) : (trainStep a0 a1 a2 a3 a4 s).fixed = s.fixed := by
  unfold trainStep; simp

@[simp] theorem remoteRequest_fixed (a0 a1 s) : (remoteRequest a0 a1 s).fixed = s.fixed := by
  unfold remoteRequest
  try simp
  repeat' (first | (split <;> try simp) | (refine (foldl_fixed _ _ _ (fun _ _ => ?_)).trans ?_ <;> try simp) | (refine orRefuse_fixed _ _ _ _ _ _ (fun _ _ => ?_); try simp))

end Sys2Proof.Machine
end

