-- ==== Sys2Proof/Laws/FixedPorts.lean ====
section
/-!
SUPPORT. Every function of debug, Ethernet and Ecden on states keeps the queue, the fuses and fabric time. A function that does not is not named; those are in Laws/Aging.lean.
-/

-- One proof after another: in parallel each asks for a thread and its stack.
set_option Elab.async false
set_option linter.all false

namespace Sys2Proof.Machine

@[simp] theorem releaseTrigger_fixed (s) : (releaseTrigger s).fixed = s.fixed := by
  unfold releaseTrigger
  try simp
  repeat' (first | (split <;> try simp) | (refine (foldl_fixed _ _ _ (fun _ _ => ?_)).trans ?_ <;> try simp) | (refine orRefuse_fixed _ _ _ _ _ _ (fun _ _ => ?_); try simp))

@[simp] theorem runAgain_fixed (s) : (runAgain s).fixed = s.fixed := by
  unfold runAgain
  try simp
  repeat' (first | (split <;> try simp) | (refine (foldl_fixed _ _ _ (fun _ _ => ?_)).trans ?_ <;> try simp) | (refine orRefuse_fixed _ _ _ _ _ _ (fun _ _ => ?_); try simp))

@[simp] theorem dropHalts_fixed (s) : (dropHalts s).fixed = s.fixed := by
  unfold dropHalts; simp

@[simp] theorem setLevel_fixed (a0 a1 s) : (setLevel a0 a1 s).fixed = s.fixed := by
  unfold setLevel
  try simp
  repeat' (first | (split <;> try simp) | (refine (foldl_fixed _ _ _ (fun _ _ => ?_)).trans ?_ <;> try simp) | (refine orRefuse_fixed _ _ _ _ _ _ (fun _ _ => ?_); try simp))

@[simp] theorem lowerDebug_fixed (a0 a1 a2 s) : (lowerDebug a0 a1 a2 s).fixed = s.fixed := by
  unfold lowerDebug; simp

@[simp] theorem lowerAllDebug_fixed (a0 a1 s) : (lowerAllDebug a0 a1 s).fixed = s.fixed := by
  unfold lowerAllDebug; simp

@[simp] theorem invalidStep_fixed (a0 a1 s) : (invalidStep a0 a1 s).fixed = s.fixed := by
  unfold invalidStep; simp

@[simp] theorem pauseCheck_fixed (a0 s) : (pauseCheck a0 s).fixed = s.fixed := by
  unfold pauseCheck; simp

@[simp] theorem bufferTake_fixed (a0 a1 s) : (bufferTake a0 a1 s).fixed = s.fixed := by
  unfold bufferTake; simp

@[simp] theorem bufferGive_fixed (a0 a1 s) : (bufferGive a0 a1 s).fixed = s.fixed := by
  unfold bufferGive; simp

@[simp] theorem bufferFullStep_fixed (a0 a1 s) : (bufferFullStep a0 a1 s).fixed = s.fixed := by
  unfold bufferFullStep; simp

@[simp] theorem pfcStep_fixed (a0 a1 a2 s) : (pfcStep a0 a1 a2 s).fixed = s.fixed := by
  unfold pfcStep; simp

@[simp] theorem arpStep_fixed (a0 a1 a2 a3 s) : (arpStep a0 a1 a2 a3 s).fixed = s.fixed := by
  unfold arpStep; simp

@[simp] theorem neighborStep_fixed (a0 a1 a2 a3 s) : (neighborStep a0 a1 a2 a3 s).fixed = s.fixed := by
  unfold neighborStep; simp

@[simp] theorem portLinkStep_fixed (a0 a1 s) : (portLinkStep a0 a1 s).fixed = s.fixed := by
  unfold portLinkStep; simp

@[simp] theorem strandedNotice_fixed (a0 s) : (strandedNotice a0 s).fixed = s.fixed := by
  unfold strandedNotice; simp

@[simp] theorem strandedAnswer_fixed (a0 s) : (strandedAnswer a0 s).fixed = s.fixed := by
  unfold strandedAnswer
  try simp
  repeat' (first | (split <;> try simp) | (refine (foldl_fixed _ _ _ (fun _ _ => ?_)).trans ?_ <;> try simp) | (refine orRefuse_fixed _ _ _ _ _ _ (fun _ _ => ?_); try simp))

@[simp] theorem onFrame_fixed (f k s) (h : ∀ s, (k s).fixed = s.fixed) : (onFrame f k s).fixed = s.fixed := by
  unfold onFrame; simp [h]

@[simp] theorem dropSession_fixed (a0 a1 a2 s) : (dropSession a0 a1 a2 s).fixed = s.fixed := by
  unfold dropSession; simp

@[simp] theorem freeSession_fixed (a0 s) : (freeSession a0 s).fixed = s.fixed := by
  unfold freeSession; simp

@[simp] theorem strandSession_fixed (a0 s) : (strandSession a0 s).fixed = s.fixed := by
  unfold strandSession; simp

@[simp] theorem bargeAcked_fixed (a0 s) : (bargeAcked a0 s).fixed = s.fixed := by
  unfold bargeAcked
  try simp
  repeat' (first | (split <;> try simp) | (refine (foldl_fixed _ _ _ (fun _ _ => ?_)).trans ?_ <;> try simp) | (refine orRefuse_fixed _ _ _ _ _ _ (fun _ _ => ?_); try simp))

@[simp] theorem takeAck_fixed (a0 a1 a2 a3 s) : (takeAck a0 a1 a2 a3 s).fixed = s.fixed := by
  unfold takeAck; simp

@[simp] theorem rebind_fixed (a0 a1 s) : (rebind a0 a1 s).fixed = s.fixed := by
  unfold rebind; simp

@[simp] theorem ackSoon_fixed (a0 s) : (ackSoon a0 s).fixed = s.fixed := by
  unfold ackSoon; simp

@[simp] theorem acceptSeq_fixed (a0 a1 s) : (acceptSeq a0 a1 s).fixed = s.fixed := by
  unfold acceptSeq; simp

@[simp] theorem releaseHeldFrame_fixed (a0 a1 s) : (releaseHeldFrame a0 a1 s).fixed = s.fixed := by
  unfold releaseHeldFrame; simp

theorem deliverData_fixed {i x s t} (h : deliverData i x s = some t) : t.fixed = s.fixed := by
  unfold deliverData at h
  simp only at h
  repeat' (split at h)
  all_goals (first | cases h | skip)
  all_goals (try simp)

@[simp] theorem unblock_fixed (a0 s) : (unblock a0 s).fixed = s.fixed := by
  unfold unblock; simp

@[simp] theorem deliverOne_fixed (i s) : (deliverOne i s).2.fixed = s.fixed := by
  unfold deliverOne
  split
  · rfl
  · split
    · split <;> simp
    · split
      · split
        · rename_i e; simpa using deliverData_fixed e
        · simp
      · simp

@[simp] theorem resend_fixed (a0 a1 s) : (resend a0 a1 s).fixed = s.fixed := by
  unfold resend; simp

theorem sendMailOne_fixed (i s t) (h : sendMailOne i s = some t) : t.fixed = s.fixed := by
  unfold sendMailOne at h
  dsimp only at h
  repeat' (split at h)
  all_goals (first | cases h | skip)
  all_goals (try simp)

theorem sendDataOne_fixed (i s t) (h : sendDataOne i s = some t) : t.fixed = s.fixed := by
  unfold sendDataOne at h
  dsimp only at h
  repeat' (split at h)
  all_goals (first | cases h | skip)
  all_goals (try simp)

@[simp] theorem upTo_fixed (f n s) (h : ∀ s t, f s = some t → t.fixed = s.fixed) : (upTo f n s).2.fixed = s.fixed := by
  induction n generalizing s with
  | zero => rfl
  | succ n ih =>
    unfold upTo
    split
    · rfl
    · rename_i e; rw [ih, h _ _ e]

@[simp] theorem deliverUpTo_fixed (i n s) : (deliverUpTo i n s).2.fixed = s.fixed := by
  induction n generalizing s with
  | zero => rfl
  | succ n ih =>
    unfold deliverUpTo
    split <;> rename_i e <;> simpa [ih] using fixed_of_snd e (deliverOne_fixed i s)

@[simp] theorem visit_fixed (i s) : (visit i s).fixed = s.fixed := by
  have a : ∀ n s, (upTo (sendMailOne i) n s).2.fixed = s.fixed := fun n s => upTo_fixed _ _ _ (sendMailOne_fixed i)
  have b : ∀ n s, (upTo (sendDataOne i) n s).2.fixed = s.fixed := fun n s => upTo_fixed _ _ _ (sendDataOne_fixed i)
  have c : ∀ s, (upTo (fun s => (firstDue s i).map fun t => resend i t s) 4 s).2.fixed = s.fixed := by
    intro s
    refine upTo_fixed _ _ _ fun s t h => ?_
    cases e : firstDue s i <;> rw [e] at h <;> cases h
    simp
  unfold visit
  dsimp only
  split
  · simp
  · split <;> simp [a, b, c]

@[simp] theorem malformedStep_fixed (a0 s) : (malformedStep a0 s).fixed = s.fixed := by
  unfold malformedStep
  try simp
  repeat' (first | (split <;> try simp) | (refine (foldl_fixed _ _ _ (fun _ _ => ?_)).trans ?_ <;> try simp) | (refine orRefuse_fixed _ _ _ _ _ _ (fun _ _ => ?_); try simp))

@[simp] theorem authFailStep_fixed (a0 s) : (authFailStep a0 s).fixed = s.fixed := by
  unfold authFailStep
  try simp
  repeat' (first | (split <;> try simp) | (refine (foldl_fixed _ _ _ (fun _ _ => ?_)).trans ?_ <;> try simp) | (refine orRefuse_fixed _ _ _ _ _ _ (fun _ _ => ?_); try simp))

@[simp] theorem unknownStep_fixed (a0 s) : (unknownStep a0 s).fixed = s.fixed := by
  unfold unknownStep; simp

@[simp] theorem sendOpenReply_fixed (a0 a1 s) : (sendOpenReply a0 a1 s).fixed = s.fixed := by
  unfold sendOpenReply; simp

@[simp] theorem answerOpen_fixed (a0 a1 s) : (answerOpen a0 a1 s).fixed = s.fixed := by
  unfold answerOpen; simp

@[simp] theorem openSession_fixed (a0 a1 s) : (openSession a0 a1 s).fixed = s.fixed := by
  unfold openSession; simp

@[simp] theorem openStep_fixed (a0 s) : (openStep a0 s).fixed = s.fixed := by
  unfold openStep
  try simp
  repeat' (first | (split <;> try simp) | (refine (foldl_fixed _ _ _ (fun _ _ => ?_)).trans ?_ <;> try simp) | (refine orRefuse_fixed _ _ _ _ _ _ (fun _ _ => ?_); try simp))

@[simp] theorem deliverNew_fixed (a0 a1 s) : (deliverNew a0 a1 s).fixed = s.fixed := by
  unfold deliverNew; simp

@[simp] theorem sequencedStep_fixed (a0 a1 s) : (sequencedStep a0 a1 s).fixed = s.fixed := by
  unfold sequencedStep
  try simp
  repeat' (first | (split <;> try simp) | (refine (foldl_fixed _ _ _ (fun _ _ => ?_)).trans ?_ <;> try simp) | (refine orRefuse_fixed _ _ _ _ _ _ (fun _ _ => ?_); try simp))

@[simp] theorem ackFrameStep_fixed (a0 s) : (ackFrameStep a0 s).fixed = s.fixed := by
  unfold ackFrameStep
  try simp
  repeat' (first | (split <;> try simp) | (refine (foldl_fixed _ _ _ (fun _ _ => ?_)).trans ?_ <;> try simp) | (refine orRefuse_fixed _ _ _ _ _ _ (fun _ _ => ?_); try simp))

@[simp] theorem ackTimerStep_fixed (a0 s) : (ackTimerStep a0 s).fixed = s.fixed := by
  unfold ackTimerStep; simp

@[simp] theorem creditRiseStep_fixed (a0 s) : (creditRiseStep a0 s).fixed = s.fixed := by
  unfold creditRiseStep; simp

@[simp] theorem visitStep_fixed (a0 s) : (visitStep a0 s).fixed = s.fixed := by
  unfold visitStep; simp

@[simp] theorem retransmitStep_fixed (a0 a1 s) : (retransmitStep a0 a1 s).fixed = s.fixed := by
  unfold retransmitStep
  try simp
  repeat' (first | (split <;> try simp) | (refine (foldl_fixed _ _ _ (fun _ _ => ?_)).trans ?_ <;> try simp) | (refine orRefuse_fixed _ _ _ _ _ _ (fun _ _ => ?_); try simp))

@[simp] theorem strandStep_fixed (a0 s) : (strandStep a0 s).fixed = s.fixed := by
  unfold strandStep; simp

@[simp] theorem indexFreeStep_fixed (a0 s) : (indexFreeStep a0 s).fixed = s.fixed := by
  unfold indexFreeStep; simp

end Sys2Proof.Machine
end

