-- ==== Sys2Proof/Laws/FixedPower.lean ====
section
/-!
SUPPORT. Every function of flash, power and configuration on states keeps the queue, the fuses and fabric time. A function that does not is not named; those are in Laws/Aging.lean.
-/

-- One proof after another: in parallel each asks for a thread and its stack.
set_option Elab.async false
set_option linter.all false

namespace Sys2Proof.Machine

@[simp] theorem updRecord_fixed (a0 a1 s) : (updRecord a0 a1 s).fixed = s.fixed := by
  unfold updRecord; simp

@[simp] theorem recordForce_fixed (a0 s) : (recordForce a0 s).fixed = s.fixed := by
  unfold recordForce
  try simp
  repeat' (first | (split <;> try simp) | (refine (foldl_fixed _ _ _ (fun _ _ => ?_)).trans ?_ <;> try simp) | (refine orRefuse_fixed _ _ _ _ _ _ (fun _ _ => ?_); try simp))

@[simp] theorem storeRecord_fixed (a0 a1 s) : (storeRecord a0 a1 s).2.fixed = s.fixed := by
  unfold storeRecord; simp

@[simp] theorem eraseCopy_fixed (a0 a1 s) : (eraseCopy a0 a1 s).fixed = s.fixed := by
  unfold eraseCopy; simp

@[simp] theorem storeNow_fixed (kind d s) : (storeNow kind d s).fixed = s.fixed := by
  unfold storeNow
  split <;> rename_i e <;> simpa using fixed_of_snd e (storeRecord_fixed _ _ _)

@[simp] theorem flashAdd_fixed (a0 s) : (flashAdd a0 s).fixed = s.fixed := by
  unfold flashAdd; simp

@[simp] theorem flashNext_fixed (a0 s) : (flashNext a0 s).fixed = s.fixed := by
  unfold flashNext
  try simp
  repeat' (first | (split <;> try simp) | (refine (foldl_fixed _ _ _ (fun _ _ => ?_)).trans ?_ <;> try simp) | (refine orRefuse_fixed _ _ _ _ _ _ (fun _ _ => ?_); try simp))

@[simp] theorem flashSuspend_fixed (a0 s) : (flashSuspend a0 s).fixed = s.fixed := by
  unfold flashSuspend
  try simp
  repeat' (first | (split <;> try simp) | (refine (foldl_fixed _ _ _ (fun _ _ => ?_)).trans ?_ <;> try simp) | (refine orRefuse_fixed _ _ _ _ _ _ (fun _ _ => ?_); try simp))

@[simp] theorem writeKeys_fixed (s) : (writeKeys s).fixed = s.fixed := by
  unfold writeKeys; simp

@[simp] theorem wipeSecure_fixed (s) : (wipeSecure s).fixed = s.fixed := by
  unfold wipeSecure; simp

@[simp] theorem forgetScratch_fixed (a0 s) : (forgetScratch a0 s).fixed = s.fixed := by
  unfold forgetScratch; simp

@[simp] theorem wipeNow_fixed (s) : (wipeNow s).fixed = s.fixed := by
  unfold wipeNow; simp

@[simp] theorem fullWipe_fixed (a0 s) : (fullWipe a0 s).fixed = s.fixed := by
  unfold fullWipe; simp

@[simp] theorem attestReport_fixed (a0 a1 s) : (attestReport a0 a1 s).2.fixed = s.fixed := by
  unfold attestReport; simp

@[simp] theorem setJob_fixed (a0 a1 s) : (setJob a0 a1 s).fixed = s.fixed := by
  unfold setJob; simp

@[simp] theorem attestReserve_fixed (a0 s) : (attestReserve a0 s).fixed = s.fixed := by
  unfold attestReserve
  try simp
  repeat' (first | (split <;> try simp) | (refine (foldl_fixed _ _ _ (fun _ _ => ?_)).trans ?_ <;> try simp) | (refine orRefuse_fixed _ _ _ _ _ _ (fun _ _ => ?_); try simp))

@[simp] theorem attestSign_fixed (a0 s) : (attestSign a0 s).fixed = s.fixed := by
  unfold attestSign
  try simp
  repeat' (first | (split <;> try simp) | (refine (foldl_fixed _ _ _ (fun _ _ => ?_)).trans ?_ <;> try simp) | (refine orRefuse_fixed _ _ _ _ _ _ (fun _ _ => ?_); try simp))

@[simp] theorem programDone_fixed (s) : (programDone s).fixed = s.fixed := by
  unfold programDone
  try simp
  repeat' (first | (split <;> try simp) | (refine (foldl_fixed _ _ _ (fun _ _ => ?_)).trans ?_ <;> try simp) | (refine orRefuse_fixed _ _ _ _ _ _ (fun _ _ => ?_); try simp))

@[simp] theorem tripStored_fixed (s) : (tripStored s).fixed = s.fixed := by
  unfold tripStored
  try simp
  repeat' (first | (split <;> try simp) | (refine (foldl_fixed _ _ _ (fun _ _ => ?_)).trans ?_ <;> try simp) | (refine orRefuse_fixed _ _ _ _ _ _ (fun _ _ => ?_); try simp))

@[simp] theorem tear_fixed (a0 s) : (tear a0 s).fixed = s.fixed := by
  unfold tear
  try simp
  repeat' (first | (split <;> try simp) | (refine (foldl_fixed _ _ _ (fun _ _ => ?_)).trans ?_ <;> try simp) | (refine orRefuse_fixed _ _ _ _ _ _ (fun _ _ => ?_); try simp))

@[simp] theorem flashCut_fixed (s) : (flashCut s).fixed = s.fixed := by
  unfold flashCut
  try simp
  repeat' (first | (split <;> try simp) | (refine (foldl_fixed _ _ _ (fun _ _ => ?_)).trans ?_ <;> try simp) | (refine orRefuse_fixed _ _ _ _ _ _ (fun _ _ => ?_); try simp))

@[simp] theorem stacksOff_fixed (s) : (stacksOff s).fixed = s.fixed := by
  unfold stacksOff; simp

@[simp] theorem stackOn_fixed (a0 s) : (stackOn a0 s).fixed = s.fixed := by
  unfold stackOn; simp

@[simp] theorem markDark_fixed (a0 s) : (markDark a0 s).fixed = s.fixed := by
  unfold markDark; simp

@[simp] theorem lightOff_fixed (s) : (lightOff s).fixed = s.fixed := by
  unfold lightOff; simp

@[simp] theorem lightOn_fixed (a0 s) : (lightOn a0 s).fixed = s.fixed := by
  unfold lightOn; simp

@[simp] theorem baseLinksUp_fixed (s) : (baseLinksUp s).fixed = s.fixed := by
  unfold baseLinksUp; simp

@[simp] theorem leavePartition_fixed (s) : (leavePartition s).fixed = s.fixed := by
  unfold leavePartition; simp

@[simp] theorem discardPound_fixed (s) : (discardPound s).fixed = s.fixed := by
  unfold discardPound; simp

@[simp] theorem openPound_fixed (s) : (openPound s).fixed = s.fixed := by
  unfold openPound; simp

@[simp] theorem endJobs_fixed (a0 a1 s) : (endJobs a0 a1 s).fixed = s.fixed := by
  unfold endJobs; simp

@[simp] theorem closeSessions_fixed (a0 a1 s) : (closeSessions a0 a1 s).fixed = s.fixed := by
  unfold closeSessions; simp

@[simp] theorem enterStandby_fixed (s) : (enterStandby s).fixed = s.fixed := by
  unfold enterStandby; simp

@[simp] theorem closePortB_fixed (s) : (closePortB s).fixed = s.fixed := by
  unfold closePortB; simp

@[simp] theorem scheduleAll_fixed (s) : (scheduleAll s).fixed = s.fixed := by
  unfold scheduleAll
  exact foldl_fixed _ _ _ fun s k => by simp

@[simp] theorem startTransition_fixed (a0 a1 a2 a3 s) : (startTransition a0 a1 a2 a3 s).fixed = s.fixed := by
  unfold startTransition; simp

@[simp] theorem leaveDark_fixed (s) : (leaveDark s).fixed = s.fixed := by
  unfold leaveDark; simp

@[simp] theorem enterDark_fixed (s) : (enterDark s).fixed = s.fixed := by
  unfold enterDark
  generalize List.range 8 = l
  dsimp only
  rw [leavePartition_fixed, lightOff_fixed, stacksOff_fixed, markDark_fixed]
  refine (foldl_fixed _ _ _ fun s k => ?_).trans (endBarges_fixed _ _ _)
  rw [updMemBerth_fixed]
  exact foldl_fixed _ _ _ fun s k => foldStep_fixed _ _

@[simp] theorem meshes_fixed (a0 s) : (meshes a0 s).fixed = s.fixed := by
  unfold meshes; simp

@[simp] theorem finishTransition_fixed (a0 s) : (finishTransition a0 s).fixed = s.fixed := by
  unfold finishTransition
  try simp
  repeat' (first | (split <;> try simp) | (refine (foldl_fixed _ _ _ (fun _ _ => ?_)).trans ?_ <;> try simp) | (refine orRefuse_fixed _ _ _ _ _ _ (fun _ _ => ?_); try simp))

@[simp] theorem transitionStep_fixed (s) : (transitionStep s).fixed = s.fixed := by
  unfold transitionStep
  try simp
  repeat' (first | (split <;> try simp) | (refine (foldl_fixed _ _ _ (fun _ _ => ?_)).trans ?_ <;> try simp) | (refine orRefuse_fixed _ _ _ _ _ _ (fun _ _ => ?_); try simp))

@[simp] theorem mailRbufCreate_fixed (a0 a1 a2 s) : (mailRbufCreate a0 a1 a2 s).fixed = s.fixed := by
  unfold mailRbufCreate; simp

@[simp] theorem rbufAnswer_fixed (job c base s) : (rbufAnswer job c base s).fixed = s.fixed := by
  unfold rbufAnswer
  split
  · split
    · simp
    · split
      · simp
      · rename_i e; simpa using createBuffer_fixed e
  · rfl

@[simp] theorem rbufTimeout_fixed (a0 s) : (rbufTimeout a0 s).fixed = s.fixed := by
  unfold rbufTimeout
  try simp
  repeat' (first | (split <;> try simp) | (refine (foldl_fixed _ _ _ (fun _ _ => ?_)).trans ?_ <;> try simp) | (refine orRefuse_fixed _ _ _ _ _ _ (fun _ _ => ?_); try simp))

@[simp] theorem flashWrite_fixed (a0 a1 a2 a3 a4 s) : (flashWrite a0 a1 a2 a3 a4 s).fixed = s.fixed := by
  unfold flashWrite; simp

@[simp] theorem mailFlatSet_fixed (a0 a1 a2 s) : (mailFlatSet a0 a1 a2 s).fixed = s.fixed := by
  unfold mailFlatSet; simp

@[simp] theorem mailConfigRead_fixed (a0 a1 a2 s) : (mailConfigRead a0 a1 a2 s).fixed = s.fixed := by
  unfold mailConfigRead; simp

@[simp] theorem mailConfigWrite_fixed (a0 a1 a2 s) : (mailConfigWrite a0 a1 a2 s).fixed = s.fixed := by
  unfold mailConfigWrite; simp

@[simp] theorem mailPassageOpen_fixed (a0 a1 a2 s) : (mailPassageOpen a0 a1 a2 s).fixed = s.fixed := by
  unfold mailPassageOpen
  try simp
  repeat' (first | (split <;> try simp) | (refine (foldl_fixed _ _ _ (fun _ _ => ?_)).trans ?_ <;> try simp) | (refine orRefuse_fixed _ _ _ _ _ _ (fun _ _ => ?_); try simp))

@[simp] theorem passageConfirmed_fixed (a0 s) : (passageConfirmed a0 s).fixed = s.fixed := by
  unfold passageConfirmed
  try simp
  repeat' (first | (split <;> try simp) | (refine (foldl_fixed _ _ _ (fun _ _ => ?_)).trans ?_ <;> try simp) | (refine orRefuse_fixed _ _ _ _ _ _ (fun _ _ => ?_); try simp))

@[simp] theorem mailPassageClose_fixed (a0 a1 a2 s) : (mailPassageClose a0 a1 a2 s).fixed = s.fixed := by
  unfold mailPassageClose; simp

@[simp] theorem calibBytes_fixed (s) : (calibBytes s).2.fixed = s.fixed := by
  unfold calibBytes; simp

@[simp] theorem mailCalibRead_fixed (a0 a1 a2 s) : (mailCalibRead a0 a1 a2 s).fixed = s.fixed := by
  unfold mailCalibRead; simp

@[simp] theorem mailCalibWrite_fixed (a0 a1 a2 s) : (mailCalibWrite a0 a1 a2 s).fixed = s.fixed := by
  unfold mailCalibWrite; simp

@[simp] theorem mailPowerSet_fixed (a0 a1 a2 s) : (mailPowerSet a0 a1 a2 s).fixed = s.fixed := by
  unfold mailPowerSet; simp

@[simp] theorem mailResume_fixed (a0 a1 a2 s) : (mailResume a0 a1 a2 s).fixed = s.fixed := by
  unfold mailResume; simp

@[simp] theorem mailModuleReset_fixed (a0 a1 a2 s) : (mailModuleReset a0 a1 a2 s).fixed = s.fixed := by
  unfold mailModuleReset; simp

@[simp] theorem mailUpdateStage_fixed (a0 a1 a2 s) : (mailUpdateStage a0 a1 a2 s).fixed = s.fixed := by
  unfold mailUpdateStage; simp

@[simp] theorem confirmImage_fixed (a0 s) : (confirmImage a0 s).fixed = s.fixed := by
  unfold confirmImage; simp

@[simp] theorem mailHealthConfirm_fixed (a0 a1 a2 s) : (mailHealthConfirm a0 a1 a2 s).fixed = s.fixed := by
  unfold mailHealthConfirm; simp

@[simp] theorem mailAttest_fixed (a0 a1 a2 s) : (mailAttest a0 a1 a2 s).fixed = s.fixed := by
  unfold mailAttest; simp

@[simp] theorem mailKeyInstall_fixed (a0 a1 a2 s) : (mailKeyInstall a0 a1 a2 s).fixed = s.fixed := by
  unfold mailKeyInstall; simp

@[simp] theorem openLevel_fixed (a0 a1 s) : (openLevel a0 a1 s).fixed = s.fixed := by
  unfold openLevel; simp

@[simp] theorem mailDebugOpen_fixed (a0 a1 a2 s) : (mailDebugOpen a0 a1 a2 s).fixed = s.fixed := by
  unfold mailDebugOpen; simp

@[simp] theorem debugOp_fixed (src corr k s) (h : ∀ s, (k s).fixed = s.fixed) : (debugOp src corr k s).fixed = s.fixed := by
  unfold debugOp; simp [h]

@[simp] theorem mailDebugHalt_fixed (a0 a1 a2 s) : (mailDebugHalt a0 a1 a2 s).fixed = s.fixed := by
  unfold mailDebugHalt; simp

@[simp] theorem mailDebugStep_fixed (a0 a1 a2 s) : (mailDebugStep a0 a1 a2 s).fixed = s.fixed := by
  unfold mailDebugStep; simp

@[simp] theorem mailDebugRun_fixed (a0 a1 a2 s) : (mailDebugRun a0 a1 a2 s).fixed = s.fixed := by
  unfold mailDebugRun; simp

@[simp] theorem mailDebugRead_fixed (src corr m s) : (mailDebugRead src corr m s).fixed = s.fixed := by
  unfold mailDebugRead
  apply debugOp_fixed
  intro s
  dsimp only
  split <;> simp

@[simp] theorem mailDebugClose_fixed (a0 a1 a2 s) : (mailDebugClose a0 a1 a2 s).fixed = s.fixed := by
  unfold mailDebugClose; simp

@[simp] theorem roundReads_fixed (s) : (roundReads s).fixed = s.fixed := by
  unfold roundReads
  exact foldl_fixed _ _ _ fun s x => by split <;> simp

@[simp] theorem roundStep_fixed (a0 s) : (roundStep a0 s).fixed = s.fixed := by
  unfold roundStep; simp

@[simp] theorem fadeStep_fixed (a0 s) : (fadeStep a0 s).fixed = s.fixed := by
  unfold fadeStep
  try simp
  repeat' (first | (split <;> try simp) | (refine (foldl_fixed _ _ _ (fun _ _ => ?_)).trans ?_ <;> try simp) | (refine orRefuse_fixed _ _ _ _ _ _ (fun _ _ => ?_); try simp))

@[simp] theorem biasStep_fixed (s) : (biasStep s).fixed = s.fixed := by
  unfold biasStep; simp

@[simp] theorem markBroken_fixed (s) : (markBroken s).fixed = s.fixed := by
  unfold markBroken; simp

@[simp] theorem logRail_fixed (a0 s) : (logRail a0 s).fixed = s.fixed := by
  unfold logRail; simp

@[simp] theorem railCheck_fixed (s) : (railCheck s).fixed = s.fixed := by
  unfold railCheck
  refine foldl_fixed _ _ _ fun s x => ?_
  dsimp only
  split <;> simp

@[simp] theorem correctPair_fixed (a0 s) : (correctPair a0 s).fixed = s.fixed := by
  unfold correctPair
  try simp
  repeat' (first | (split <;> try simp) | (refine (foldl_fixed _ _ _ (fun _ _ => ?_)).trans ?_ <;> try simp) | (refine orRefuse_fixed _ _ _ _ _ _ (fun _ _ => ?_); try simp))

@[simp] theorem evaluate_fixed (a0 s) : (evaluate a0 s).fixed = s.fixed := by
  unfold evaluate; simp

@[simp] theorem setThermal_fixed (a0 a1 s) : (setThermal a0 a1 s).fixed = s.fixed := by
  unfold setThermal; simp

@[simp] theorem thermalAct_fixed (a0 s) : (thermalAct a0 s).fixed = s.fixed := by
  unfold thermalAct; simp

@[simp] theorem currentAct_fixed (a0 s) : (currentAct a0 s).fixed = s.fixed := by
  unfold currentAct; simp

@[simp] theorem marginAct_fixed (a0 s) : (marginAct a0 s).fixed = s.fixed := by
  unfold marginAct
  try simp
  repeat' (first | (split <;> try simp) | (refine (foldl_fixed _ _ _ (fun _ _ => ?_)).trans ?_ <;> try simp) | (refine orRefuse_fixed _ _ _ _ _ _ (fun _ _ => ?_); try simp))

@[simp] theorem throttleAct_fixed (a0 s) : (throttleAct a0 s).fixed = s.fixed := by
  unfold throttleAct; simp

@[simp] theorem stackActs_fixed (s) : (stackActs s).fixed = s.fixed := by
  unfold stackActs
  simp only [scheduleAll_fixed]
  refine (foldl_fixed _ _ _ fun s x => by simp).trans ?_
  refine (foldl_fixed _ _ _ fun s x => by simp).trans ?_
  refine (foldl_fixed _ _ _ fun s x => by simp).trans ?_
  exact foldl_fixed _ _ _ fun s x => by simp

@[simp] theorem compensate_fixed (s) : (compensate s).fixed = s.fixed := by
  unfold compensate; simp

@[simp] theorem actStep_fixed (s) : (actStep s).fixed = s.fixed := by
  unfold actStep; simp

@[simp] theorem tripStep_fixed (a0 a1 a2 s) : (tripStep a0 a1 a2 s).fixed = s.fixed := by
  unfold tripStep; simp

@[simp] theorem tripCommand_fixed (s) : (tripCommand s).fixed = s.fixed := by
  unfold tripCommand
  try simp
  repeat' (first | (split <;> try simp) | (refine (foldl_fixed _ _ _ (fun _ _ => ?_)).trans ?_ <;> try simp) | (refine orRefuse_fixed _ _ _ _ _ _ (fun _ _ => ?_); try simp))

@[simp] theorem tripWritten_fixed (s) : (tripWritten s).fixed = s.fixed := by
  unfold tripWritten
  try simp
  repeat' (first | (split <;> try simp) | (refine (foldl_fixed _ _ _ (fun _ _ => ?_)).trans ?_ <;> try simp) | (refine orRefuse_fixed _ _ _ _ _ _ (fun _ _ => ?_); try simp))

end Sys2Proof.Machine
end

