-- ==== Sys2Proof/Laws/FixedReset.lean ====
section
/-!
SUPPORT. Every function of resets, redundancy, security, boot, telemetry and what is due at a tick on states keeps the queue, the fuses and fabric time. A function that does not is not named; those are in Laws/Aging.lean.
-/

-- One proof after another: in parallel each asks for a thread and its stack.
set_option Elab.async false
set_option linter.all false

namespace Sys2Proof.Machine

@[simp] theorem stopMembers_fixed (s) : (stopMembers s).fixed = s.fixed := by
  unfold stopMembers; simp

@[simp] theorem strandNow_fixed (a0 s) : (strandNow a0 s).fixed = s.fixed := by
  unfold strandNow; simp

@[simp] theorem strandStepModule_fixed (s) : (strandStepModule s).fixed = s.fixed := by
  unfold strandStepModule; simp

@[simp] theorem endPause_fixed (s) : (endPause s).fixed = s.fixed := by
  unfold endPause
  try simp
  repeat' (first | (split <;> try simp) | (refine (foldl_fixed _ _ _ (fun _ _ => ?_)).trans ?_ <;> try simp) | (refine orRefuse_fixed _ _ _ _ _ _ (fun _ _ => ?_); try simp))

@[simp] theorem beginTest_fixed (a0 a1 a2 s) : (beginTest a0 a1 a2 s).fixed = s.fixed := by
  unfold beginTest; simp

@[simp] theorem lkFaulty_fixed (a0 s) : (lkFaulty a0 s).fixed = s.fixed := by
  unfold lkFaulty; simp

@[simp] theorem ownFault_fixed (a0 a1 s) : (ownFault a0 a1 s).fixed = s.fixed := by
  unfold ownFault; simp

@[simp] theorem lkFault_fixed (a0 a1 a2 s) : (lkFault a0 a1 a2 s).fixed = s.fixed := by
  unfold lkFault
  try simp
  repeat' (first | (split <;> try simp) | (refine (foldl_fixed _ _ _ (fun _ _ => ?_)).trans ?_ <;> try simp) | (refine orRefuse_fixed _ _ _ _ _ _ (fun _ _ => ?_); try simp))

@[simp] theorem miscompareStep_fixed (a0 a1 a2 s) : (miscompareStep a0 a1 a2 s).fixed = s.fixed := by
  unfold miscompareStep
  try simp
  repeat' (first | (split <;> try simp) | (refine (foldl_fixed _ _ _ (fun _ _ => ?_)).trans ?_ <;> try simp) | (refine orRefuse_fixed _ _ _ _ _ _ (fun _ _ => ?_); try simp))

@[simp] theorem retireLk_fixed (a0 s) : (retireLk a0 s).fixed = s.fixed := by
  unfold retireLk; simp

@[simp] theorem takeHelm_fixed (a0 s) : (takeHelm a0 s).fixed = s.fixed := by
  unfold takeHelm; simp

@[simp] theorem tested_fixed (a0 a1 s) : (tested a0 a1 s).fixed = s.fixed := by
  unfold tested; simp

@[simp] theorem failOver_fixed (a0 s) : (failOver a0 s).fixed = s.fixed := by
  unfold failOver; simp

@[simp] theorem bothPassed_fixed (s) : (bothPassed s).fixed = s.fixed := by
  unfold bothPassed
  try simp
  repeat' (first | (split <;> try simp) | (refine (foldl_fixed _ _ _ (fun _ _ => ?_)).trans ?_ <;> try simp) | (refine orRefuse_fixed _ _ _ _ _ _ (fun _ _ => ?_); try simp))

@[simp] theorem decisionStep_fixed (a0 a1 a2 s) : (decisionStep a0 a1 a2 s).fixed = s.fixed := by
  unfold decisionStep
  try simp
  repeat' (first | (split <;> try simp) | (refine (foldl_fixed _ _ _ (fun _ _ => ?_)).trans ?_ <;> try simp) | (refine orRefuse_fixed _ _ _ _ _ _ (fun _ _ => ?_); try simp))

@[simp] theorem injectStep_fixed (a0 s) : (injectStep a0 s).fixed = s.fixed := by
  unfold injectStep; simp

@[simp] theorem scrubStep_fixed (a0 s) : (scrubStep a0 s).fixed = s.fixed := by
  unfold scrubStep
  try simp
  repeat' (first | (split <;> try simp) | (refine (foldl_fixed _ _ _ (fun _ _ => ?_)).trans ?_ <;> try simp) | (refine orRefuse_fixed _ _ _ _ _ _ (fun _ _ => ?_); try simp))

@[simp] theorem leaveStepChecker_fixed (s) : (leaveStepChecker s).fixed = s.fixed := by
  unfold leaveStepChecker; simp

@[simp] theorem selfConfirm_fixed (s) : (selfConfirm s).fixed = s.fixed := by
  unfold selfConfirm; simp

@[simp] theorem checkerDone_fixed (a0 s) : (checkerDone a0 s).fixed = s.fixed := by
  unfold checkerDone; simp

@[simp] theorem retiredStep_fixed (a0 a1 s) : (retiredStep a0 a1 s).fixed = s.fixed := by
  unfold retiredStep
  try simp
  repeat' (first | (split <;> try simp) | (refine (foldl_fixed _ _ _ (fun _ _ => ?_)).trans ?_ <;> try simp) | (refine orRefuse_fixed _ _ _ _ _ _ (fun _ _ => ?_); try simp))

@[simp] theorem rejoinStep_fixed (s) : (rejoinStep s).fixed = s.fixed := by
  unfold rejoinStep
  try simp
  repeat' (first | (split <;> try simp) | (refine (foldl_fixed _ _ _ (fun _ _ => ?_)).trans ?_ <;> try simp) | (refine orRefuse_fixed _ _ _ _ _ _ (fun _ _ => ?_); try simp))

@[simp] theorem writeRepairs_fixed (s) : (writeRepairs s).fixed = s.fixed := by
  unfold writeRepairs; simp

@[simp] theorem fenceCore_fixed (a0 a1 s) : (fenceCore a0 a1 s).fixed = s.fixed := by
  unfold fenceCore; simp

@[simp] theorem voteEvent_fixed (a0 a1 a2 s) : (voteEvent a0 a1 a2 s).fixed = s.fixed := by
  unfold voteEvent; simp

@[simp] theorem coreVote_fixed (a0 a1 a2 s) : (coreVote a0 a1 a2 s).fixed = s.fixed := by
  unfold coreVote; simp

@[simp] theorem baseVote_fixed (a0 a1 s) : (baseVote a0 a1 s).fixed = s.fixed := by
  unfold baseVote; simp

@[simp] theorem voteStep_fixed (a0 a1 a2 s) : (voteStep a0 a1 a2 s).fixed = s.fixed := by
  unfold voteStep
  try simp
  repeat' (first | (split <;> try simp) | (refine (foldl_fixed _ _ _ (fun _ _ => ?_)).trans ?_ <;> try simp) | (refine orRefuse_fixed _ _ _ _ _ _ (fun _ _ => ?_); try simp))

@[simp] theorem laneFails_fixed (a0 a1 a2 s) : (laneFails a0 a1 a2 s).fixed = s.fixed := by
  unfold laneFails; simp

@[simp] theorem wordFails_fixed (a0 a1 s) : (wordFails a0 a1 s).fixed = s.fixed := by
  unfold wordFails; simp

@[simp] theorem laneTest_fixed (a0 a1 a2 s) : (laneTest a0 a1 a2 s).fixed = s.fixed := by
  unfold laneTest
  try simp
  repeat' (first | (split <;> try simp) | (refine (foldl_fixed _ _ _ (fun _ _ => ?_)).trans ?_ <;> try simp) | (refine orRefuse_fixed _ _ _ _ _ _ (fun _ _ => ?_); try simp))

theorem takeAct_fixed {a s t} (h : takeAct a s = some t) : t.fixed = s.fixed := by
  unfold takeAct at h
  split at h <;> cases h
  rfl

@[simp] theorem spared_fixed (a0 a1 a2 a3 s) : (spared a0 a1 a2 a3 s).fixed = s.fixed := by
  unfold spared; simp

@[simp] theorem laneWindow_fixed (c g l s) : (laneWindow c g l s).fixed = s.fixed := by
  unfold laneWindow
  split
  · rename_i e _
    have := takeAct_fixed e
    dsimp only
    split <;> simp [this]
  · rfl

@[simp] theorem rerouteReach_fixed (a0 a1 s) : (rerouteReach a0 a1 s).fixed = s.fixed := by
  unfold rerouteReach
  try simp
  repeat' (first | (split <;> try simp) | (refine (foldl_fixed _ _ _ (fun _ _ => ?_)).trans ?_ <;> try simp) | (refine orRefuse_fixed _ _ _ _ _ _ (fun _ _ => ?_); try simp))

@[simp] theorem groupFails_fixed (a0 a1 s) : (groupFails a0 a1 s).fixed = s.fixed := by
  unfold groupFails; simp

@[simp] theorem groupStep_fixed (k g f s) : (groupStep k g f s).fixed = s.fixed := by
  unfold groupStep
  split
  · rfl
  · split
    · rename_i e
      have := takeAct_fixed e
      dsimp only
      split <;> simp [this]
    · split <;> simp

@[simp] theorem routerFaulty_fixed (a0 s) : (routerFaulty a0 s).fixed = s.fixed := by
  unfold routerFaulty; simp

@[simp] theorem logicFault_fixed (a0 s) : (logicFault a0 s).fixed = s.fixed := by
  unfold logicFault; simp

@[simp] theorem routerFaultStep_fixed (a0 a1 s) : (routerFaultStep a0 a1 s).fixed = s.fixed := by
  unfold routerFaultStep
  try simp
  repeat' (first | (split <;> try simp) | (refine (foldl_fixed _ _ _ (fun _ _ => ?_)).trans ?_ <;> try simp) | (refine orRefuse_fixed _ _ _ _ _ _ (fun _ _ => ?_); try simp))

@[simp] theorem routeStep_fixed (a0 s) : (routeStep a0 s).fixed = s.fixed := by
  unfold routeStep; simp

@[simp] theorem zeroVault_fixed (s) : (zeroVault s).fixed = s.fixed := by
  unfold zeroVault; simp

@[simp] theorem freeKeyed_fixed (s) : (freeKeyed s).fixed = s.fixed := by
  unfold freeKeyed; simp

@[simp] theorem tamperEvent_fixed (a0 s) : (tamperEvent a0 s).fixed = s.fixed := by
  unfold tamperEvent; simp

@[simp] theorem tamperClearStep_fixed (s) : (tamperClearStep s).fixed = s.fixed := by
  unfold tamperClearStep; simp

@[simp] theorem captureCells_fixed (s) : (captureCells s).2.fixed = s.fixed := by
  unfold captureCells; simp

@[simp] theorem releaseCells_fixed (s) : (releaseCells s).fixed = s.fixed := by
  unfold releaseCells; simp

@[simp] theorem driveCells_fixed (a0 s) : (driveCells a0 s).fixed = s.fixed := by
  unfold driveCells; simp

@[simp] theorem selectIr_fixed (a0 a1 s) : (selectIr a0 a1 s).fixed = s.fixed := by
  unfold selectIr; simp

@[simp] theorem bypass_fixed (s) : (bypass s).fixed = s.fixed := by
  unfold bypass; simp

@[simp] theorem extestStep_fixed (a0 s) : (extestStep a0 s).fixed = s.fixed := by
  unfold extestStep; simp

@[simp] theorem sampleStep_fixed (a0 s) : (sampleStep a0 s).fixed = s.fixed := by
  unfold sampleStep; simp

@[simp] theorem clampStep_fixed (s) : (clampStep s).fixed = s.fixed := by
  unfold clampStep; simp

@[simp] theorem highzStep_fixed (s) : (highzStep s).fixed = s.fixed := by
  unfold highzStep; simp

@[simp] theorem tapStep_fixed (s) : (tapStep s).fixed = s.fixed := by
  unfold tapStep; simp

@[simp] theorem authLevel_fixed (a0 s) : (authLevel a0 s).fixed = s.fixed := by
  unfold authLevel; simp

@[simp] theorem authStep_fixed (a0 a1 a2 a3 s) : (authStep a0 a1 a2 a3 s).fixed = s.fixed := by
  unfold authStep; simp

@[simp] theorem mailRegister_fixed (a0 s) : (mailRegister a0 s).fixed = s.fixed := by
  unfold mailRegister; simp

theorem runAll_fixed (l s) (h : ∀ f ∈ l, ∀ s, (f s).fixed = s.fixed) : (runAll l s).fixed = s.fixed := by
  unfold runAll
  induction l generalizing s with
  | nil => rfl
  | cons f l ih => rw [List.foldl_cons, ih _ (fun g hg => h g (List.mem_cons_of_mem _ hg)), h f List.mem_cons_self]

@[simp] theorem stallPorts_fixed (s) : (stallPorts s).fixed = s.fixed := by
  unfold stallPorts; simp

theorem due_fixed (s f) (h : f ∈ poundsDue ++ baseDue ++ stacksDue ∨ f ∈ sessionsDue s ∨ f ∈ lightDue ++ tasksDue s ∨ f ∈ torusDue s) :
    ∀ s, (f s).fixed = s.fixed := by
  intro u
  simp only [poundsDue, baseDue, stacksDue, sessionsDue, lightDue, tasksDue, torusDue, List.mem_append, List.mem_cons, List.mem_flatMap,
    List.mem_map, List.mem_ite_nil_right, List.not_mem_nil, or_false] at h
  rcases h with h | h | h | h
  · rcases h with (h | h) | h
    · rcases h with rfl | rfl | rfl | rfl | rfl | rfl | rfl <;> simp
    · rcases h with rfl | rfl | rfl | rfl | rfl <;> simp
    · rcases h with ⟨_, -, rfl | rfl⟩ | rfl <;> simp
  · obtain ⟨_, -, ⟨-, rfl⟩ | rfl | rfl⟩ := h <;> simp
  · rcases h with ⟨_, -, rfl | rfl | rfl⟩ | ⟨_, -, ⟨_, -, rfl | rfl⟩ | ⟨_, -, rfl⟩⟩ | ⟨_, -, rfl⟩ <;> simp
  · rcases h with ((((⟨_, -, rfl⟩ | ⟨_, -, rfl⟩) | ⟨_, -, rfl⟩) | ⟨_, -, rfl⟩) | ⟨_, -, rfl⟩) | rfl | rfl <;> simp

@[simp] theorem dueStep_fixed (s) : (dueStep s).fixed = s.fixed := by
  unfold dueStep
  dsimp only
  have h1 : ∀ s, (runAll (poundsDue ++ baseDue ++ stacksDue) (stallPorts s)).fixed = s.fixed := fun s =>
    (runAll_fixed _ _ fun f h => due_fixed s f (.inl h)).trans (stallPorts_fixed s)
  have h2 : ∀ s, (runAll (sessionsDue s) s).fixed = s.fixed := fun s => runAll_fixed _ _ fun f h => due_fixed s f (.inr (.inl h))
  have h3 : ∀ s, (runAll (lightDue ++ tasksDue s) s).fixed = s.fixed := fun s => runAll_fixed _ _ fun f h => due_fixed s f (.inr (.inr (.inl h)))
  have h4 : ∀ s, (runAll (torusDue s) s).fixed = s.fixed := fun s => runAll_fixed _ _ fun f h => due_fixed s f (.inr (.inr (.inr h)))
  split <;> simp only [h1, h2, h3, h4]

@[simp] theorem owedTamper_fixed (s) : (owedTamper s).fixed = s.fixed := by
  unfold owedTamper
  try simp
  repeat' (first | (split <;> try simp) | (refine (foldl_fixed _ _ _ (fun _ _ => ?_)).trans ?_ <;> try simp) | (refine orRefuse_fixed _ _ _ _ _ _ (fun _ _ => ?_); try simp))

@[simp] theorem bootStep_fixed (a0 s) : (bootStep a0 s).fixed = s.fixed := by
  unfold bootStep; simp

@[simp] theorem eraseTorn_fixed (a0 a1 s) : (eraseTorn a0 a1 s).fixed = s.fixed := by
  unfold eraseTorn; simp

@[simp] theorem eraseTorns_fixed (a0 s) : (eraseTorns a0 s).fixed = s.fixed := by
  unfold eraseTorns; simp

@[simp] theorem storeBoot_fixed (a0 s) : (storeBoot a0 s).fixed = s.fixed := by
  unfold storeBoot; simp

@[simp] theorem fallBack_fixed (a0 s) : (fallBack a0 s).fixed = s.fixed := by
  unfold fallBack; simp

@[simp] theorem chooseImage_fixed (s) : (chooseImage s).fixed = s.fixed := by
  unfold chooseImage; simp

@[simp] theorem romPhase_fixed (s) : (romPhase s).fixed = s.fixed := by
  unfold romPhase; simp

@[simp] theorem noImage_fixed (s) : (noImage s).fixed = s.fixed := by
  unfold noImage; simp

@[simp] theorem imagePhase_fixed (s) : (imagePhase s).fixed = s.fixed := by
  unfold imagePhase; simp

@[simp] theorem trialTimer_fixed (s) : (trialTimer s).fixed = s.fixed := by
  unfold trialTimer; simp

@[simp] theorem loadKeys_fixed (s) : (loadKeys s).fixed = s.fixed := by
  unfold loadKeys
  try simp
  repeat' (first | (split <;> try simp) | (refine (foldl_fixed _ _ _ (fun _ _ => ?_)).trans ?_ <;> try simp) | (refine orRefuse_fixed _ _ _ _ _ _ (fun _ _ => ?_); try simp))

@[simp] theorem bootWipe_fixed (s) : (bootWipe s).fixed = s.fixed := by
  unfold bootWipe; simp

@[simp] theorem loadRecords_fixed (s) : (loadRecords s).fixed = s.fixed := by
  unfold loadRecords; simp

@[simp] theorem latchConfig_fixed (s) : (latchConfig s).fixed = s.fixed := by
  unfold latchConfig; simp

@[simp] theorem firstLight_fixed (a0 s) : (firstLight a0 s).fixed = s.fixed := by
  unfold firstLight; simp

@[simp] theorem stampHeld_fixed (s) : (stampHeld s).fixed = s.fixed := by
  unfold stampHeld
  apply foldl_fixed
  intro s x
  split <;> rename_i e <;> simpa using fixed_of_snd e (issueStamp_fixed _ _ _)

@[simp] theorem sourceReport_fixed (s) : (sourceReport s).fixed = s.fixed := by
  unfold sourceReport; simp

@[simp] theorem timePhase_fixed (s) : (timePhase s).fixed = s.fixed := by
  unfold timePhase; simp

@[simp] theorem rejectRestored_fixed (a0 s) : (rejectRestored a0 s).fixed = s.fixed := by
  unfold rejectRestored; simp

@[simp] theorem laserPhase_fixed (a0 a1 a2 s) : (laserPhase a0 a1 a2 s).fixed = s.fixed := by
  unfold laserPhase; simp

@[simp] theorem haltBoot_fixed (s) : (haltBoot s).fixed = s.fixed := by
  unfold haltBoot; simp

@[simp] theorem memPhase_fixed (a0 a1 s) : (memPhase a0 a1 s).fixed = s.fixed := by
  unfold memPhase; simp

@[simp] theorem assignPorts_fixed (s) : (assignPorts s).fixed = s.fixed := by
  unfold assignPorts
  refine foldl_fixed _ _ _ fun s k => ?_
  dsimp only
  refine (foldl_fixed _ _ _ fun s r => rerouteReach_fixed _ _ _).trans ?_
  split <;> simp

@[simp] theorem loadRepairs_fixed (s) : (loadRepairs s).fixed = s.fixed := by
  unfold loadRepairs
  rw [assignPorts_fixed]
  split
  · dsimp only
    refine (foldl_fixed _ _ _ fun s r => updStack_fixed _ _ _).trans ?_
    refine (foldl_fixed _ _ _ fun s r => updStack_fixed _ _ _).trans ?_
    refine (foldl_fixed _ _ _ fun s r => updCore_fixed _ _ _).trans ?_
    exact foldl_fixed _ _ _ fun s r => updCore_fixed _ _ _
  · rfl

@[simp] theorem pllFails_fixed (a0 s) : (pllFails a0 s).fixed = s.fixed := by
  unfold pllFails; simp

@[simp] theorem emptyOff_fixed (s) : (emptyOff s).fixed = s.fixed := by
  unfold emptyOff; simp

@[simp] theorem stackPhase_fixed (a0 a1 s) : (stackPhase a0 a1 s).fixed = s.fixed := by
  unfold stackPhase; simp

@[simp] theorem startHeld_fixed (s) : (startHeld s).fixed = s.fixed := by
  unfold startHeld
  try simp
  repeat' (first | (split <;> try simp) | (refine (foldl_fixed _ _ _ (fun _ _ => ?_)).trans ?_ <;> try simp) | (refine orRefuse_fixed _ _ _ _ _ _ (fun _ _ => ?_); try simp))

@[simp] theorem announceReady_fixed (s) : (announceReady s).fixed = s.fixed := by
  unfold announceReady; simp

@[simp] theorem slowReport_fixed (a0 a1 s) : (slowReport a0 a1 s).fixed = s.fixed := by
  unfold slowReport; simp

@[simp] theorem takeLimits_fixed (s) : (takeLimits s).fixed = s.fixed := by
  unfold takeLimits; simp

@[simp] theorem phaseTime_fixed (a0 a1 s) : (phaseTime a0 a1 s).fixed = s.fixed := by
  unfold phaseTime; simp

@[simp] theorem nextPhase_fixed (a0 s) : (nextPhase a0 s).fixed = s.fixed := by
  unfold nextPhase; simp

@[simp] theorem clearRead_fixed (a0 a1 s) : (clearRead a0 a1 s).fixed = s.fixed := by
  unfold clearRead; simp

@[simp] theorem mailTelemetryRead_fixed (a0 a1 a2 s) : (mailTelemetryRead a0 a1 a2 s).fixed = s.fixed := by
  unfold mailTelemetryRead
  try simp
  repeat' (first | (split <;> try simp) | (refine (foldl_fixed _ _ _ (fun _ _ => ?_)).trans ?_ <;> try simp) | (refine orRefuse_fixed _ _ _ _ _ _ (fun _ _ => ?_); try simp))

end Sys2Proof.Machine
end

