-- ==== Sys2Proof/Laws/BegunOps.lean ====
section
/-!
SUPPORT. Every function of the shared operations and mail on states keeps the mark that the first stamp has been issued. Resets and power loss clear it and are not named.
-/

-- One proof after another: in parallel each asks for a thread and its stack.
set_option Elab.async false
set_option linter.all false

namespace Sys2Proof.Machine

/-- The first stamp has been issued (R307). -/
def State.begun (s : State) : Prop := s.time.firstStamp = true

@[simp] theorem begun_mk (p fc ti lo ne me po wo st ba li tr pw lk se fl bo pi) :
    State.begun ⟨p, fc, ti, lo, ne, me, po, wo, st, ba, li, tr, pw, lk, se, fl, bo, pi⟩ ↔ ti.firstStamp = true := Iff.intro id id

@[simp] theorem begun_field (s : State) (h : s.begun) : s.time.firstStamp = true := h

@[simp] theorem foldl_begun {α : Type} (f : State → α → State) (l : List α) (s : State) (h : ∀ s x, s.begun → (f s x).begun)
    (hs : s.begun) : (l.foldl f s).begun := by
  induction l generalizing s with
  | nil => exact hs
  | cons x l ih => rw [List.foldl_cons]; exact ih _ (h _ _ hs)

@[simp] theorem ite_begun (c : Prop) [Decidable c] (a b : State) (ha : a.begun) (hb : b.begun) : (if c then a else b).begun := by
  split <;> assumption

@[simp] theorem ite_snd_begun {α : Type} (c : Prop) [Decidable c] (a b : α × State) (ha : a.2.begun) (hb : b.2.begun) :
    (if c then a else b).2.begun := by
  split <;> assumption

theorem begun_of_snd {α : Type} {p : α × State} {a : α} {t : State} (h : p = (a, t)) (k : p.2.begun) : t.begun := by
  rw [h] at k; exact k

@[simp] theorem updIssuer_begun (s a1 a2) (h : s.begun) : (State.updIssuer s a1 a2).begun := by
  exact h

@[simp] theorem updEth_begun (s a1 a2) (h : s.begun) : (State.updEth s a1 a2).begun := by
  exact h

@[simp] theorem updSession_begun (s a1 a2) (h : s.begun) : (State.updSession s a1 a2).begun := by
  exact h

@[simp] theorem updBarge_begun (s a1 a2) (h : s.begun) : (State.updBarge s a1 a2).begun := by
  exact h

@[simp] theorem updMemBerth_begun (s a1 a2) (h : s.begun) : (State.updMemBerth s a1 a2).begun := by
  exact h

@[simp] theorem updCore_begun (s a1 a2) (h : s.begun) : (State.updCore s a1 a2).begun := by
  exact h

@[simp] theorem updStack_begun (s a1 a2) (h : s.begun) : (State.updStack s a1 a2).begun := by
  exact h

@[simp] theorem updRouter_begun (s a1 a2) (h : s.begun) : (State.updRouter s a1 a2).begun := by
  exact h

@[simp] theorem updChamber_begun (s a1 a2) (h : s.begun) : (State.updChamber s a1 a2).begun := by
  exact h

@[simp] theorem updLink_begun (s a1 a2) (h : s.begun) : (State.updLink s a1 a2).begun := by
  exact h

@[simp] theorem updLaser_begun (s a1 a2) (h : s.begun) : (State.updLaser s a1 a2).begun := by
  exact h

@[simp] theorem updGroup_begun (s a1 a2) (h : s.begun) : (State.updGroup s a1 a2).begun := by
  exact h

@[simp] theorem updTport_begun (s a1 a2) (h : s.begun) : (State.updTport s a1 a2).begun := by
  exact h

@[simp] theorem updGraph_begun (s a1 a2) (h : s.begun) : (State.updGraph s a1 a2).begun := by
  exact h

@[simp] theorem updTask_begun (s a1 a2 a3) (h : s.begun) : (State.updTask s a1 a2 a3).begun := by
  exact h

@[simp] theorem updMember_begun (s a1 a2) (h : s.begun) : (State.updMember s a1 a2).begun := by
  exact h

@[simp] theorem updLk_begun (s a1 a2) (h : s.begun) : (State.updLk s a1 a2).begun := by
  unfold State.updLk
  try simp +contextual (maxDischargeDepth := 40) [h]
  repeat' (first | (split <;> try simp +contextual (maxDischargeDepth := 40) [*]) | (refine foldl_begun _ _ _ (fun _ _ _ => ?_) ?_ <;> try simp +contextual (maxDischargeDepth := 40) [*]))

@[simp] theorem draw_begun (s) (h : s.begun) : (draw s).2.begun := by
  exact h

@[simp] theorem drawBelow_begun (a0 s) (h : s.begun) : (drawBelow a0 s).2.begun := by
  exact h

@[simp] theorem issueStamp_begun (a0 a1 s) (h : s.begun) : (issueStamp a0 a1 s).2.begun := by
  unfold issueStamp; simp [h]

@[simp] theorem appendEntry_begun (a0 s) (h : s.begun) : (appendEntry a0 s).begun := by
  unfold appendEntry
  try simp +contextual (maxDischargeDepth := 40) [h]
  repeat' (first | (split <;> try simp +contextual (maxDischargeDepth := 40) [*]) | (refine foldl_begun _ _ _ (fun _ _ _ => ?_) ?_ <;> try simp +contextual (maxDischargeDepth := 40) [*]))

@[simp] theorem putWire_begun (a0 s) (h : s.begun) : (putWire a0 s).begun := by
  unfold putWire; simp [h]

@[simp] theorem unpause_begun (a0 s) (h : s.begun) : (unpause a0 s).begun := by
  exact h

@[simp] theorem pausesEnd_begun (s) (h : s.begun) : (pausesEnd s).begun := by
  unfold pausesEnd; simp +contextual (maxDischargeDepth := 40) [h]

@[simp] theorem noticeToAddress_begun (a0 s) (h : s.begun) : (noticeToAddress a0 s).begun := by
  unfold noticeToAddress; simp (maxDischargeDepth := 40) [h]

@[simp] theorem logEventR_begun (a0 a1 a2 s) (h : s.begun) : (logEventR a0 a1 a2 s).begun := by
  unfold logEventR; simp (maxDischargeDepth := 40) [h]

@[simp] theorem logEvent_begun (a0 a1 s) (h : s.begun) : (logEvent a0 a1 s).begun := by
  unfold logEvent; simp [h]

@[simp] theorem alertPin_begun (s) (h : s.begun) : (alertPin s).begun := by
  exact h

@[simp] theorem raiseFault_begun (a0 a1 s) (h : s.begun) : (raiseFault a0 a1 s).begun := by
  unfold raiseFault
  try simp +contextual (maxDischargeDepth := 40) [h]
  repeat' (first | (split <;> try simp +contextual (maxDischargeDepth := 40) [*]) | (refine foldl_begun _ _ _ (fun _ _ _ => ?_) ?_ <;> try simp +contextual (maxDischargeDepth := 40) [*]))

@[simp] theorem sendFrame_begun (a0 a1 a2 a3 a4 s) (h : s.begun) : (sendFrame a0 a1 a2 a3 a4 s).begun := by
  unfold sendFrame; simp [h]

@[simp] theorem sendAck_begun (a0 s) (h : s.begun) : (sendAck a0 s).begun := by
  unfold sendAck; simp [h]

@[simp] theorem sendSequenced_begun (a0 a1 a2 a3 a4 a5 s) (h : s.begun) : (sendSequenced a0 a1 a2 a3 a4 a5 s).begun := by
  unfold sendSequenced; simp [h]

@[simp] theorem queueMail_begun (a0 a1 a2 s) (h : s.begun) : (queueMail a0 a1 a2 s).begun := by
  exact h

@[simp] theorem sendReply_begun (a0 a1 a2 s) (h : s.begun) : (sendReply a0 a1 a2 s).begun := by
  unfold sendReply
  try simp +contextual (maxDischargeDepth := 40) [h]
  repeat' (first | (split <;> try simp +contextual (maxDischargeDepth := 40) [*]) | (refine foldl_begun _ _ _ (fun _ _ _ => ?_) ?_ <;> try simp +contextual (maxDischargeDepth := 40) [*]))

@[simp] theorem answer_begun (a0 a1 a2 a3 a4 s) (h : s.begun) : (answer a0 a1 a2 a3 a4 s).begun := by
  unfold answer; simp [h]

@[simp] theorem addJob_begun (a0 a1 a2 a3 s) (h : s.begun) : (addJob a0 a1 a2 a3 s).begun := by
  exact h

@[simp] theorem endJob_begun (a0 a1 a2 s) (h : s.begun) : (endJob a0 a1 a2 s).begun := by
  unfold endJob
  try simp +contextual (maxDischargeDepth := 40) [h]
  repeat' (first | (split <;> try simp +contextual (maxDischargeDepth := 40) [*]) | (refine foldl_begun _ _ _ (fun _ _ _ => ?_) ?_ <;> try simp +contextual (maxDischargeDepth := 40) [*]))

@[simp] theorem retireFrame_begun (a0 a1 s) (h : s.begun) : (retireFrame a0 a1 s).begun := by
  unfold retireFrame; simp [h]

@[simp] theorem releaseFrames_begun (a0 s) (h : s.begun) : (releaseFrames a0 s).begun := by
  unfold releaseFrames
  try simp +contextual (maxDischargeDepth := 40) [h]
  repeat' (first | (split <;> try simp +contextual (maxDischargeDepth := 40) [*]) | (refine foldl_begun _ _ _ (fun _ _ _ => ?_) ?_ <;> try simp +contextual (maxDischargeDepth := 40) [*]) | (intro _ <;> try simp +contextual (maxDischargeDepth := 40) [*]))

@[simp] theorem tableUpdate_begun (a0 s) (h : s.begun) : (tableUpdate a0 s).begun := by
  exact h

@[simp] theorem tablesUpdate_begun (s) (h : s.begun) : (tablesUpdate s).begun := by
  unfold tablesUpdate; simp +contextual (maxDischargeDepth := 40) [h]

@[simp] theorem releasePins_begun (a0 s) (h : s.begun) : (releasePins a0 s).begun := by
  unfold releasePins; simp (maxDischargeDepth := 40) [h]

@[simp] theorem endBarge_begun (a0 a1 s) (h : s.begun) : (endBarge a0 a1 s).begun := by
  unfold endBarge
  try simp +contextual (maxDischargeDepth := 40) [h]
  repeat' (first | (split <;> try simp +contextual (maxDischargeDepth := 40) [*]) | (refine foldl_begun _ _ _ (fun _ _ _ => ?_) ?_ <;> try simp +contextual (maxDischargeDepth := 40) [*]))

@[simp] theorem endBarges_begun (a0 a1 s) (h : s.begun) : (endBarges a0 a1 s).begun := by
  unfold endBarges; simp +contextual (maxDischargeDepth := 40) [h]

@[simp] theorem poolFrame_begun (s) (h : s.begun) : (poolFrame s).2.begun := by
  exact h

@[simp] theorem takeSlot_begun (s) (h : s.begun) : (takeSlot s).2.begun := by
  exact h

@[simp] theorem wornCheck_begun (a0 s) (h : s.begun) : (wornCheck a0 s).begun := by
  unfold wornCheck; simp [h]

@[simp] theorem tookLine_begun (a0 s) (h : s.begun) : (tookLine a0 s).begun := by
  unfold tookLine; simp [h]

@[simp] theorem poisonLine_begun (a0 a1 s) (h : s.begun) : (poisonLine a0 a1 s).begun := by
  unfold poisonLine
  try simp +contextual (maxDischargeDepth := 40) [h]
  repeat' (first | (split <;> try simp +contextual (maxDischargeDepth := 40) [*]) | (refine foldl_begun _ _ _ (fun _ _ _ => ?_) ?_ <;> try simp +contextual (maxDischargeDepth := 40) [*]) | (intro _ <;> try simp +contextual (maxDischargeDepth := 40) [*]))

@[simp] theorem parityReport_begun (a0 a1 a2 s) (h : s.begun) : (parityReport a0 a1 a2 s).begun := by
  unfold parityReport; simp (maxDischargeDepth := 40) [h]

@[simp] theorem retireLater_begun (a0 a1 s) (h : s.begun) : (retireLater a0 a1 s).begun := by
  exact h

@[simp] theorem heldOutcome_begun (a0 a1 s) (h : s.begun) : (heldOutcome a0 a1 s).begun := by
  unfold heldOutcome
  try simp +contextual (maxDischargeDepth := 40) [h]
  repeat' (first | (split <;> try simp +contextual (maxDischargeDepth := 40) [*]) | (refine foldl_begun _ _ _ (fun _ _ _ => ?_) ?_ <;> try simp +contextual (maxDischargeDepth := 40) [*]) | (intro _ <;> try simp +contextual (maxDischargeDepth := 40) [*]))

@[simp] theorem byteError_begun (a0 s) (h : s.begun) : (byteError a0 s).begun := by
  unfold byteError
  try simp +contextual (maxDischargeDepth := 40) [h]
  repeat' (first | (split <;> try simp +contextual (maxDischargeDepth := 40) [*]) | (refine foldl_begun _ _ _ (fun _ _ _ => ?_) ?_ <;> try simp +contextual (maxDischargeDepth := 40) [*]) | (intro _ <;> try simp +contextual (maxDischargeDepth := 40) [*]))

@[simp] theorem parityFault_begun (a0 s) (h : s.begun) : (parityFault a0 s).begun := by
  unfold parityFault
  try simp +contextual (maxDischargeDepth := 40) [h]
  repeat' (first | (split <;> try simp +contextual (maxDischargeDepth := 40) [*]) | (refine foldl_begun _ _ _ (fun _ _ _ => ?_) ?_ <;> try simp +contextual (maxDischargeDepth := 40) [*]) | (intro _ <;> try simp +contextual (maxDischargeDepth := 40) [*]))

@[simp] theorem parityRetry_begun (a0 s) (h : s.begun) : (parityRetry a0 s).begun := by
  exact h

@[simp] theorem paritySeen_begun (a0 a1 s) (h : s.begun) : (paritySeen a0 a1 s).begun := by
  unfold paritySeen
  try simp +contextual (maxDischargeDepth := 40) [h]
  repeat' (first | (split <;> try simp +contextual (maxDischargeDepth := 40) [*]) | (refine foldl_begun _ _ _ (fun _ _ _ => ?_) ?_ <;> try simp +contextual (maxDischargeDepth := 40) [*]) | (intro _ <;> try simp +contextual (maxDischargeDepth := 40) [*]))

@[simp] theorem readErrors_begun (a0 a1 a2 s) (h : s.begun) : (readErrors a0 a1 a2 s).begun := by
  unfold readErrors; simp +contextual (maxDischargeDepth := 40) [h]

@[simp] theorem carryWrong_begun (a0 a1 s) (h : s.begun) : (carryWrong a0 a1 s).begun := by
  exact h

@[simp] theorem addShadow_begun (a0 a1 s) (h : s.begun) : (addShadow a0 a1 s).begun := by
  unfold addShadow
  try simp +contextual (maxDischargeDepth := 40) [h]
  repeat' (first | (split <;> try simp +contextual (maxDischargeDepth := 40) [*]) | (refine foldl_begun _ _ _ (fun _ _ _ => ?_) ?_ <;> try simp +contextual (maxDischargeDepth := 40) [*]) | (intro _ <;> try simp +contextual (maxDischargeDepth := 40) [*]))

@[simp] theorem countDone_begun (a0 a1 s) (h : s.begun) : (countDone a0 a1 s).begun := by
  exact h

@[simp] theorem noteBargeWrite_begun (a0 a1 s) (h : s.begun) : (noteBargeWrite a0 a1 s).begun := by
  unfold noteBargeWrite
  try simp +contextual (maxDischargeDepth := 40) [h]
  repeat' (first | (split <;> try simp +contextual (maxDischargeDepth := 40) [*]) | (refine foldl_begun _ _ _ (fun _ _ _ => ?_) ?_ <;> try simp +contextual (maxDischargeDepth := 40) [*]))

@[simp] theorem storeParity_begun (a0 a1 a2 s) (h : s.begun) : (storeParity a0 a1 a2 s).begun := by
  exact h

@[simp] theorem secondShadow_begun (a0 a1 a2 a3 a4 s) (h : s.begun) : (secondShadow a0 a1 a2 a3 a4 s).begun := by
  unfold secondShadow
  try simp +contextual (maxDischargeDepth := 40) [h]
  repeat' (first | (split <;> try simp +contextual (maxDischargeDepth := 40) [*]) | (refine foldl_begun _ _ _ (fun _ _ _ => ?_) ?_ <;> try simp +contextual (maxDischargeDepth := 40) [*]) | (intro _ <;> try simp +contextual (maxDischargeDepth := 40) [*]))

@[simp] theorem lineTest_begun (a0 a1 a2 a3 a4 a5 a6 s) (h : s.begun) : (lineTest a0 a1 a2 a3 a4 a5 a6 s).begun := by
  unfold lineTest
  try simp +contextual (maxDischargeDepth := 40) [h]
  repeat' (first | (split <;> try simp +contextual (maxDischargeDepth := 40) [*]) | (refine foldl_begun _ _ _ (fun _ _ _ => ?_) ?_ <;> try simp +contextual (maxDischargeDepth := 40) [*]) | (intro _ <;> try simp +contextual (maxDischargeDepth := 40) [*]))

@[simp] theorem linesTest_begun (a0 a1 a2 a3 s) (h : s.begun) : (linesTest a0 a1 a2 a3 s).begun := by
  unfold linesTest; simp +contextual (maxDischargeDepth := 40) [h]

@[simp] theorem foldShare_begun (a0 a1 s) (h : s.begun) : (foldShare a0 a1 s).begun := by
  unfold foldShare; simp (maxDischargeDepth := 40) [h]

@[simp] theorem foldStep_begun (a0 s) (h : s.begun) : (foldStep a0 s).begun := by
  unfold foldStep
  try simp +contextual (maxDischargeDepth := 40) [h]
  repeat' (first | (split <;> try simp +contextual (maxDischargeDepth := 40) [*]) | (refine foldl_begun _ _ _ (fun _ _ _ => ?_) ?_ <;> try simp +contextual (maxDischargeDepth := 40) [*]) | (refine orRefuse_begun _ _ _ _ _ _ ?_ (fun _ _ _ => ?_) <;> try simp +contextual (maxDischargeDepth := 40) [*]))

@[simp] theorem foldPage_begun (a0 s) (h : s.begun) : (foldPage a0 s).begun := by
  unfold foldPage
  try simp +contextual (maxDischargeDepth := 40) [h]
  repeat' (first | (split <;> try simp +contextual (maxDischargeDepth := 40) [*]) | (refine foldl_begun _ _ _ (fun _ _ _ => ?_) ?_ <;> try simp +contextual (maxDischargeDepth := 40) [*]) | (intro _ <;> try simp +contextual (maxDischargeDepth := 40) [*]))

@[simp] theorem foldFull_begun (a0 s) (h : s.begun) : (foldFull a0 s).begun := by
  unfold foldFull; simp [h]

@[simp] theorem applyWrite_begun (a0 s) (h : s.begun) : (applyWrite a0 s).begun := by
  unfold applyWrite
  try simp +contextual (maxDischargeDepth := 40) [h]
  repeat' (first | (split <;> try simp +contextual (maxDischargeDepth := 40) [*]) | (refine foldl_begun _ _ _ (fun _ _ _ => ?_) ?_ <;> try simp +contextual (maxDischargeDepth := 40) [*]))

@[simp] theorem countIssued_begun (a0 a1 s) (h : s.begun) : (countIssued a0 a1 s).begun := by
  exact h

@[simp] theorem newWrite_begun (a0 s) (h : s.begun) : (newWrite a0 s).2.begun := by
  exact h

@[simp] theorem stampWrite_begun (a0 s) (h : s.begun) : (stampWrite a0 s).begun := by
  unfold stampWrite
  try simp +contextual (maxDischargeDepth := 40) [h]
  repeat' (first | (split <;> try simp +contextual (maxDischargeDepth := 40) [*]) | (refine foldl_begun _ _ _ (fun _ _ _ => ?_) ?_ <;> try simp +contextual (maxDischargeDepth := 40) [*]))

@[simp] theorem dropMail_begun (a0 a1 s) (h : s.begun) : (dropMail a0 a1 s).begun := by
  unfold dropMail
  try simp +contextual (maxDischargeDepth := 40) [h]
  repeat' (first | (split <;> try simp +contextual (maxDischargeDepth := 40) [*]) | (refine foldl_begun _ _ _ (fun _ _ _ => ?_) ?_ <;> try simp +contextual (maxDischargeDepth := 40) [*]))

@[simp] theorem checkpointStep_begun (s) (h : s.begun) : (checkpointStep s).begun := by
  exact h

theorem takeMail_begun {src sel s m t} (h : s.begun) (e : takeMail src sel s = some (m, t)) : t.begun := by
  unfold takeMail at e
  split at e
  · cases e
  · split at e <;> cases e
    simp (maxDischargeDepth := 40) [h]

@[simp] theorem mailStepSel_begun (src code sel body s) (h : s.begun) (hb : ∀ c m s, s.begun → (body c m s).begun) :
    (mailStepSel src code sel body s).begun := by
  unfold mailStepSel
  split
  · exact h
  · rename_i m t e
    have := takeMail_begun h e
    dsimp only
    split <;> simp (maxDischargeDepth := 40) [hb, this]

@[simp] theorem mailStep_begun (src code body s) (h : s.begun) (hb : ∀ c m s, s.begun → (body c m s).begun) :
    (mailStep src code body s).begun := mailStepSel_begun _ _ _ _ _ h hb

@[simp] theorem refuseUnparsed_begun (src s) (h : s.begun) : (refuseUnparsed src s).begun := by
  unfold refuseUnparsed
  split
  · exact h
  · rename_i m t e
    have := takeMail_begun h e
    split <;> simp (maxDischargeDepth := 40) [this]

@[simp] theorem sourceErrors_begun (a0 a1 a2 s) (h : s.begun) : (sourceErrors a0 a1 a2 s).begun := by
  unfold sourceErrors
  try simp +contextual (maxDischargeDepth := 40) [h]
  repeat' (first | (split <;> try simp +contextual (maxDischargeDepth := 40) [*]) | (refine foldl_begun _ _ _ (fun _ _ _ => ?_) ?_ <;> try simp +contextual (maxDischargeDepth := 40) [*]) | (intro _ <;> try simp +contextual (maxDischargeDepth := 40) [*]))

@[simp] theorem orRefuse_begun {α : Type} (src code corr) (r : Nat ⊕ α) (k s) (hs : s.begun) (h : ∀ x s, s.begun → (k x s).begun) :
    (orRefuse src code corr r k s).begun := by
  unfold orRefuse
  split <;> simp (maxDischargeDepth := 40) [h, hs]

@[simp] theorem allot_begun (a0 s) (h : s.begun) : (allot a0 s).begun := by
  unfold allot; simp +contextual (maxDischargeDepth := 40) [h]

@[simp] theorem addWindow_begun (a0 a1 a2 a3 s) (h : s.begun) : (addWindow a0 a1 a2 a3 s).begun := by
  exact h

@[simp] theorem nextWindow_begun (a0 a1 s) (h : s.begun) : (nextWindow a0 a1 s).begun := by
  exact h

@[simp] theorem maintenance_begun (a0 a1 s) (h : s.begun) : (maintenance a0 a1 s).begun := by
  exact h

@[simp] theorem grantStamp_begun (a0 s) (h : s.begun) : (grantStamp a0 s).begun := by
  unfold grantStamp
  try simp +contextual (maxDischargeDepth := 40) [h]
  repeat' (first | (split <;> try simp +contextual (maxDischargeDepth := 40) [*]) | (refine foldl_begun _ _ _ (fun _ _ _ => ?_) ?_ <;> try simp +contextual (maxDischargeDepth := 40) [*]) | (refine orRefuse_begun _ _ _ _ _ _ ?_ (fun _ _ _ => ?_) <;> try simp +contextual (maxDischargeDepth := 40) [*]))

@[simp] theorem linkTakes_begun (a0 a1 a2 s) (h : s.begun) : (linkTakes a0 a1 a2 s).begun := by
  unfold linkTakes; simp [h]

@[simp] theorem installPort_begun (a0 a1 s) (h : s.begun) : (installPort a0 a1 s).begun := by
  unfold installPort
  try simp +contextual (maxDischargeDepth := 40) [h]
  repeat' (first | (split <;> try simp +contextual (maxDischargeDepth := 40) [*]) | (refine foldl_begun _ _ _ (fun _ _ _ => ?_) ?_ <;> try simp +contextual (maxDischargeDepth := 40) [*]) | (refine orRefuse_begun _ _ _ _ _ _ ?_ (fun _ _ _ => ?_) <;> try simp +contextual (maxDischargeDepth := 40) [*]))

@[simp] theorem admitList_begun (b l h s) (hs : s.begun) : (admitList b l h s).2.begun := by
  induction l generalizing h s with
  | nil => exact hs
  | cons w l ih =>
    unfold admitList
    dsimp only
    split
    · exact ih _ _ hs
    · split
      · exact ih _ _ hs
      · split
        · exact ih _ _ (linkTakes_begun _ _ _ _ hs)
        · exact ih _ _ (installPort_begun _ _ _ hs)

@[simp] theorem admitBerth_begun (a0 s) (h : s.begun) : (admitBerth a0 s).begun := by
  unfold admitBerth; simp [h]

@[simp] theorem enterBerth_begun (a0 a1 a2 s) (h : s.begun) : (enterBerth a0 a1 a2 s).begun := by
  unfold enterBerth; simp [h]

@[simp] theorem takeBack_begun (a0 a1 s) (h : s.begun) : (takeBack a0 a1 s).begun := by
  unfold takeBack; simp [h]

@[simp] theorem admitAll_begun (s) (h : s.begun) : (admitAll s).begun := by
  unfold admitAll; simp +contextual (maxDischargeDepth := 40) [h]

@[simp] theorem torusHop_begun (a0 a1 a2 a3 a4 s) (h : s.begun) : (torusHop a0 a1 a2 a3 a4 s).begun := by
  unfold torusHop; simp [h]

@[simp] theorem sendTorusPacket_begun (a0 a1 a2 a3 a4 a5 s) (h : s.begun) : (sendTorusPacket a0 a1 a2 a3 a4 a5 s).begun := by
  unfold sendTorusPacket
  try simp +contextual (maxDischargeDepth := 40) [h]
  repeat' (first | (split <;> try simp +contextual (maxDischargeDepth := 40) [*]) | (refine foldl_begun _ _ _ (fun _ _ _ => ?_) ?_ <;> try simp +contextual (maxDischargeDepth := 40) [*]) | (refine orRefuse_begun _ _ _ _ _ _ ?_ (fun _ _ _ => ?_) <;> try simp +contextual (maxDischargeDepth := 40) [*]))

@[simp] theorem sendRelay_begun (a0 a1 s) (h : s.begun) : (sendRelay a0 a1 s).begun := by
  unfold sendRelay
  try simp +contextual (maxDischargeDepth := 40) [h]
  repeat' (first | (split <;> try simp +contextual (maxDischargeDepth := 40) [*]) | (refine foldl_begun _ _ _ (fun _ _ _ => ?_) ?_ <;> try simp +contextual (maxDischargeDepth := 40) [*]) | (refine orRefuse_begun _ _ _ _ _ _ ?_ (fun _ _ _ => ?_) <;> try simp +contextual (maxDischargeDepth := 40) [*]) | (intro _ <;> try simp +contextual (maxDischargeDepth := 40) [*]))

@[simp] theorem relay_begun (a0 a1 s) (h : s.begun) : (relay a0 a1 s).begun := by
  unfold relay
  try simp +contextual (maxDischargeDepth := 40) [h]
  repeat' (first | (split <;> try simp +contextual (maxDischargeDepth := 40) [*]) | (refine foldl_begun _ _ _ (fun _ _ _ => ?_) ?_ <;> try simp +contextual (maxDischargeDepth := 40) [*]) | (refine orRefuse_begun _ _ _ _ _ _ ?_ (fun _ _ _ => ?_) <;> try simp +contextual (maxDischargeDepth := 40) [*]) | (intro _ <;> try simp +contextual (maxDischargeDepth := 40) [*]))

@[simp] theorem sendNeighbour_begun (a0 a1 s) (h : s.begun) : (sendNeighbour a0 a1 s).begun := by
  unfold sendNeighbour; simp [h]

@[simp] theorem sendControl_begun (a0 a1 a2 s) (h : s.begun) : (sendControl a0 a1 a2 s).begun := by
  unfold sendControl; simp [h]

@[simp] theorem torusSend_begun (a0 s) (h : s.begun) : (torusSend a0 s).begun := by
  exact h

@[simp] theorem floodNotice_begun (a0 a1 a2 s) (h : s.begun) : (floodNotice a0 a1 a2 s).begun := by
  unfold floodNotice; simp +contextual (maxDischargeDepth := 40) [h]

@[simp] theorem announce_begun (a0 s) (h : s.begun) : (announce a0 s).begun := by
  unfold announce; simp [h]

@[simp] theorem routeNotice_begun (a0 a1 s) (h : s.begun) : (routeNotice a0 a1 s).begun := by
  unfold routeNotice
  try simp +contextual (maxDischargeDepth := 40) [h]
  repeat' (first | (split <;> try simp +contextual (maxDischargeDepth := 40) [*]) | (refine foldl_begun _ _ _ (fun _ _ _ => ?_) ?_ <;> try simp +contextual (maxDischargeDepth := 40) [*]) | (refine orRefuse_begun _ _ _ _ _ _ ?_ (fun _ _ _ => ?_) <;> try simp +contextual (maxDischargeDepth := 40) [*]) | (intro _ <;> try simp +contextual (maxDischargeDepth := 40) [*]))

@[simp] theorem sendNotice_begun (a0 s) (h : s.begun) : (sendNotice a0 s).begun := by
  unfold sendNotice; simp [h]

@[simp] theorem moveEnds_begun (a0 s) (h : s.begun) : (moveEnds a0 s).begun := by
  exact h

@[simp] theorem recount_begun (a0 s) (h : s.begun) : (recount a0 s).begun := by
  unfold recount
  try simp +contextual (maxDischargeDepth := 40) [h]
  repeat' (first | (split <;> try simp +contextual (maxDischargeDepth := 40) [*]) | (refine foldl_begun _ _ _ (fun _ _ _ => ?_) ?_ <;> try simp +contextual (maxDischargeDepth := 40) [*]) | (refine orRefuse_begun _ _ _ _ _ _ ?_ (fun _ _ _ => ?_) <;> try simp +contextual (maxDischargeDepth := 40) [*]))

@[simp] theorem deferCut_begun (a0 a1 s) (h : s.begun) : (deferCut a0 a1 s).begun := by
  exact h

@[simp] theorem nameCut_begun (a0 a1 s) (h : s.begun) : (nameCut a0 a1 s).begun := by
  unfold nameCut
  try simp +contextual (maxDischargeDepth := 40) [h]
  repeat' (first | (split <;> try simp +contextual (maxDischargeDepth := 40) [*]) | (refine foldl_begun _ _ _ (fun _ _ _ => ?_) ?_ <;> try simp +contextual (maxDischargeDepth := 40) [*]) | (refine orRefuse_begun _ _ _ _ _ _ ?_ (fun _ _ _ => ?_) <;> try simp +contextual (maxDischargeDepth := 40) [*]))

@[simp] theorem joinCut_begun (a0 a1 a2 s) (h : s.begun) : (joinCut a0 a1 a2 s).begun := by
  unfold joinCut; simp (maxDischargeDepth := 40) [h]

@[simp] theorem masterCut_begun (a0 s) (h : s.begun) : (masterCut a0 s).2.begun := by
  exact h

@[simp] theorem takeCut_begun (a0 a1 a2 s) (h : s.begun) : (takeCut a0 a1 a2 s).begun := by
  unfold takeCut
  try simp +contextual (maxDischargeDepth := 40) [h]
  repeat' (first | (split <;> try simp +contextual (maxDischargeDepth := 40) [*]) | (refine foldl_begun _ _ _ (fun _ _ _ => ?_) ?_ <;> try simp +contextual (maxDischargeDepth := 40) [*]) | (refine orRefuse_begun _ _ _ _ _ _ ?_ (fun _ _ _ => ?_) <;> try simp +contextual (maxDischargeDepth := 40) [*]) | (intro _ <;> try simp +contextual (maxDischargeDepth := 40) [*]))

@[simp] theorem joinSerial_begun (s) (h : s.begun) : (joinSerial s).2.begun := by
  unfold joinSerial; simp [h]

@[simp] theorem answerJoiners_begun (a0 a1 s) (h : s.begun) : (answerJoiners a0 a1 s).begun := by
  unfold answerJoiners; simp +contextual (maxDischargeDepth := 40) [h]

@[simp] theorem nameMasterCut_begun (a0 a1 s) (h : s.begun) : (nameMasterCut a0 a1 s).begun := by
  unfold nameMasterCut; simp (maxDischargeDepth := 40) [h]

@[simp] theorem askClose_begun (a0 a1 s) (h : s.begun) : (askClose a0 a1 s).begun := by
  unfold askClose; simp (maxDischargeDepth := 40) [h]

@[simp] theorem poolTrigger_begun (s) (h : s.begun) : (poolTrigger s).begun := by
  unfold poolTrigger; simp (maxDischargeDepth := 40) [h]

@[simp] theorem setTimeMode_begun (a0 s) (h : s.begun) : (setTimeMode a0 s).begun := by
  unfold setTimeMode; simp [h]

@[simp] theorem reselect_begun (s) (h : s.begun) : (reselect s).begun := by
  unfold reselect; simp [h]

@[simp] theorem mailIdentify_begun (a0 a1 a2 s) (h : s.begun) : (mailIdentify a0 a1 a2 s).begun := by
  unfold mailIdentify; simp [h]

@[simp] theorem answerStamped_begun (src code corr pre post s) (h : s.begun) : (answerStamped src code corr pre post s).begun := by
  unfold answerStamped
  split <;> rename_i e <;> have hh := begun_of_snd e (issueStamp_begun _ _ _ h) <;> simp (maxDischargeDepth := 40) [hh]

@[simp] theorem mailFtRead_begun (a0 a1 a2 s) (h : s.begun) : (mailFtRead a0 a1 a2 s).begun := by
  unfold mailFtRead; simp [h]

@[simp] theorem mailPoundStatus_begun (a0 a1 a2 s) (h : s.begun) : (mailPoundStatus a0 a1 a2 s).begun := by
  unfold mailPoundStatus; simp [h]

@[simp] theorem mailEventSubscribe_begun (a0 a1 a2 s) (h : s.begun) : (mailEventSubscribe a0 a1 a2 s).begun := by
  unfold mailEventSubscribe
  try simp +contextual (maxDischargeDepth := 40) [h]
  repeat' (first | (split <;> try simp +contextual (maxDischargeDepth := 40) [*]) | (refine foldl_begun _ _ _ (fun _ _ _ => ?_) ?_ <;> try simp +contextual (maxDischargeDepth := 40) [*]) | (refine orRefuse_begun _ _ _ _ _ _ ?_ (fun _ _ _ => ?_) <;> try simp +contextual (maxDischargeDepth := 40) [*]))

@[simp] theorem mailEventRead_begun (a0 a1 a2 s) (h : s.begun) : (mailEventRead a0 a1 a2 s).begun := by
  unfold mailEventRead; simp [h]

theorem createBuffer_begun {size r s a b t} (hs : s.begun) (h : createBuffer size r s = .inr (a, b, t)) : t.begun := by
  unfold createBuffer at h
  simp only at h
  repeat' (split at h)
  all_goals simp only [Sum.inr.injEq, Prod.mk.injEq, reduceCtorEq] at h
  obtain ⟨-, -, rfl⟩ := h
  exact hs

@[simp] theorem mailBufCreate_begun (src corr m s) (h : s.begun) : (mailBufCreate src corr m s).begun := by
  unfold mailBufCreate
  split
  · simp (maxDischargeDepth := 40) [h]
  · rename_i e
    simp (maxDischargeDepth := 40) [createBuffer_begun h e]

@[simp] theorem freeBuffer_begun (a0 a1 s) (h : s.begun) : (freeBuffer a0 a1 s).begun := by
  unfold freeBuffer
  try simp +contextual (maxDischargeDepth := 40) [h]
  repeat' (first | (split <;> try simp +contextual (maxDischargeDepth := 40) [*]) | (refine foldl_begun _ _ _ (fun _ _ _ => ?_) ?_ <;> try simp +contextual (maxDischargeDepth := 40) [*]) | (refine orRefuse_begun _ _ _ _ _ _ ?_ (fun _ _ _ => ?_) <;> try simp +contextual (maxDischargeDepth := 40) [*]) | (intro _ <;> try simp +contextual (maxDischargeDepth := 40) [*]))

@[simp] theorem mailBufFree_begun (a0 a1 a2 s) (h : s.begun) : (mailBufFree a0 a1 a2 s).begun := by
  unfold mailBufFree
  try simp +contextual (maxDischargeDepth := 40) [h]
  repeat' (first | (split <;> try simp +contextual (maxDischargeDepth := 40) [*]) | (refine foldl_begun _ _ _ (fun _ _ _ => ?_) ?_ <;> try simp +contextual (maxDischargeDepth := 40) [*]) | (refine orRefuse_begun _ _ _ _ _ _ ?_ (fun _ _ _ => ?_) <;> try simp +contextual (maxDischargeDepth := 40) [*]) | (intro _ <;> try simp +contextual (maxDischargeDepth := 40) [*]))

@[simp] theorem liveRead_begun (a0 a1 s) (h : s.begun) : (liveRead a0 a1 s).2.begun := by
  exact h

@[simp] theorem mailMemRead_begun (a0 a1 a2 s) (h : s.begun) : (mailMemRead a0 a1 a2 s).begun := by
  unfold mailMemRead; simp +contextual (maxDischargeDepth := 40) [h]

@[simp] theorem mailBargeOpen_begun (a0 a1 a2 s) (h : s.begun) : (mailBargeOpen a0 a1 a2 s).begun := by
  unfold mailBargeOpen
  try simp +contextual (maxDischargeDepth := 40) [h]
  repeat' (first | (split <;> try simp +contextual (maxDischargeDepth := 40) [*]) | (refine foldl_begun _ _ _ (fun _ _ _ => ?_) ?_ <;> try simp +contextual (maxDischargeDepth := 40) [*]) | (refine orRefuse_begun _ _ _ _ _ _ ?_ (fun _ _ _ => ?_) <;> try simp +contextual (maxDischargeDepth := 40) [*]))

@[simp] theorem mailBargeCancel_begun (a0 a1 a2 s) (h : s.begun) : (mailBargeCancel a0 a1 a2 s).begun := by
  unfold mailBargeCancel
  try simp +contextual (maxDischargeDepth := 40) [h]
  repeat' (first | (split <;> try simp +contextual (maxDischargeDepth := 40) [*]) | (refine foldl_begun _ _ _ (fun _ _ _ => ?_) ?_ <;> try simp +contextual (maxDischargeDepth := 40) [*]) | (refine orRefuse_begun _ _ _ _ _ _ ?_ (fun _ _ _ => ?_) <;> try simp +contextual (maxDischargeDepth := 40) [*]))

@[simp] theorem mailPoundClose_begun (a0 a1 a2 s) (h : s.begun) : (mailPoundClose a0 a1 a2 s).begun := by
  unfold mailPoundClose; simp [h]

end Sys2Proof.Machine
end

