-- ==== Sys2Proof/Laws/BegunNetwork.lean ====
section
/-!
SUPPORT. Every function of the torus, frames, scratch and the way of a packet on states keeps the mark that the first stamp has been issued. Resets and power loss clear it and are not named.
-/

-- One proof after another: in parallel each asks for a thread and its stack.
set_option Elab.async false
set_option linter.all false

namespace Sys2Proof.Machine

@[simp] theorem countPort_begun (a0 a1 a2 a3 s) (h : s.begun) : (countPort a0 a1 a2 a3 s).begun := by
  exact h

@[simp] theorem markDepth_begun (a0 s) (h : s.begun) : (markDepth a0 s).begun := by
  exact h

@[simp] theorem dropPassage_begun (a0 a1 s) (h : s.begun) : (dropPassage a0 a1 s).begun := by
  exact h

@[simp] theorem releasePassage_begun (a0 a1 s) (h : s.begun) : (releasePassage a0 a1 s).begun := by
  exact h

@[simp] theorem passagesAtCut_begun (s) (h : s.begun) : (passagesAtCut s).begun := by
  unfold passagesAtCut; simp +contextual (maxDischargeDepth := 40) [h]

@[simp] theorem losePassage_begun (a0 s) (h : s.begun) : (losePassage a0 s).begun := by
  unfold losePassage
  try simp +contextual (maxDischargeDepth := 40) [h]
  repeat' (first | (split <;> try simp +contextual (maxDischargeDepth := 40) [*]) | (refine foldl_begun _ _ _ (fun _ _ _ => ?_) ?_ <;> try simp +contextual (maxDischargeDepth := 40) [*]) | (refine orRefuse_begun _ _ _ _ _ _ ?_ (fun _ _ _ => ?_) <;> try simp +contextual (maxDischargeDepth := 40) [*]))

@[simp] theorem losePassages_begun (a0 s) (h : s.begun) : (losePassages a0 s).begun := by
  unfold losePassages; simp +contextual (maxDischargeDepth := 40) [h]

@[simp] theorem portsDown_begun (a0 s) (h : s.begun) : (portsDown a0 s).begun := by
  unfold portsDown; simp +contextual (maxDischargeDepth := 40) [h]

@[simp] theorem setLinks_begun (links st s) (h : s.begun) : (setLinks links st s).begun := by
  unfold setLinks
  dsimp only
  refine reselect_begun _ ?_
  refine foldl_begun _ _ _ (fun s d h => announce_begun _ _ h) ?_
  refine foldl_begun _ _ _ (fun s d h => announce_begun _ _ (logEvent_begun _ _ _ h)) ?_
  refine losePassages_begun _ _ ?_
  exact foldl_begun _ _ _ (fun s d h => updLink_begun _ _ _ h) h

@[simp] theorem setCircuit_begun (a0 a1 a2 a3 s) (h : s.begun) : (setCircuit a0 a1 a2 a3 s).begun := by
  unfold setCircuit
  try simp +contextual (maxDischargeDepth := 40) [h]
  repeat' (first | (split <;> try simp +contextual (maxDischargeDepth := 40) [*]) | (refine foldl_begun _ _ _ (fun _ _ _ => ?_) ?_ <;> try simp +contextual (maxDischargeDepth := 40) [*]) | (refine orRefuse_begun _ _ _ _ _ _ ?_ (fun _ _ _ => ?_) <;> try simp +contextual (maxDischargeDepth := 40) [*]))

@[simp] theorem dropCircuit_begun (a0 a1 s) (h : s.begun) : (dropCircuit a0 a1 s).begun := by
  unfold dropCircuit
  try simp +contextual (maxDischargeDepth := 40) [h]
  repeat' (first | (split <;> try simp +contextual (maxDischargeDepth := 40) [*]) | (refine foldl_begun _ _ _ (fun _ _ _ => ?_) ?_ <;> try simp +contextual (maxDischargeDepth := 40) [*]) | (refine orRefuse_begun _ _ _ _ _ _ ?_ (fun _ _ _ => ?_) <;> try simp +contextual (maxDischargeDepth := 40) [*]))

@[simp] theorem occupy_begun (a0 a1 a2 s) (h : s.begun) : (occupy a0 a1 a2 s).begun := by
  exact h

@[simp] theorem basinTake_begun (a0 a1 a2 s) (h : s.begun) : (basinTake a0 a1 a2 s).begun := by
  exact h

@[simp] theorem basinGive_begun (a0 a1 a2 s) (h : s.begun) : (basinGive a0 a1 a2 s).begun := by
  exact h

@[simp] theorem putScratch_begun (a0 a1 s) (h : s.begun) : (putScratch a0 a1 s).begun := by
  exact h

@[simp] theorem spoilByte_begun (a0 a1 s) (h : s.begun) : (spoilByte a0 a1 s).begun := by
  exact h

@[simp] theorem spoilWord_begun (a0 a1 a2 s) (h : s.begun) : (spoilWord a0 a1 a2 s).begun := by
  unfold spoilWord; simp +contextual (maxDischargeDepth := 40) [h]

@[simp] theorem scratchError_begun (a0 a1 a2 s) (h : s.begun) : (scratchError a0 a1 a2 s).begun := by
  unfold scratchError; simp [h]

@[simp] theorem checkWord_begun (a0 a1 a2 s) (h : s.begun) : (checkWord a0 a1 a2 s).begun := by
  unfold checkWord; simp [h]

@[simp] theorem checkRuns_begun (a0 a1 s) (h : s.begun) : (checkRuns a0 a1 s).begun := by
  unfold checkRuns; simp +contextual (maxDischargeDepth := 40) [h]

@[simp] theorem landBytes_begun (a0 a1 a2 s) (h : s.begun) : (landBytes a0 a1 a2 s).begun := by
  unfold landBytes; simp +contextual (maxDischargeDepth := 40) [h]

@[simp] theorem coreRead_begun (a0 a1 a2 s) (h : s.begun) : (coreRead a0 a1 a2 s).begun := by
  exact h

@[simp] theorem deferredCycle_begun (a0 a1 a2 a3 s) (h : s.begun) : (deferredCycle a0 a1 a2 a3 s).begun := by
  unfold deferredCycle
  try simp +contextual (maxDischargeDepth := 40) [h]
  repeat' (first | (split <;> try simp +contextual (maxDischargeDepth := 40) [*]) | (refine foldl_begun _ _ _ (fun _ _ _ => ?_) ?_ <;> try simp +contextual (maxDischargeDepth := 40) [*]) | (refine orRefuse_begun _ _ _ _ _ _ ?_ (fun _ _ _ => ?_) <;> try simp +contextual (maxDischargeDepth := 40) [*]))

@[simp] theorem portCycle_begun (a0 a1 a2 s) (h : s.begun) : (portCycle a0 a1 a2 s).begun := by
  unfold portCycle
  try simp +contextual (maxDischargeDepth := 40) [h]
  repeat' (first | (split <;> try simp +contextual (maxDischargeDepth := 40) [*]) | (refine foldl_begun _ _ _ (fun _ _ _ => ?_) ?_ <;> try simp +contextual (maxDischargeDepth := 40) [*]) | (refine orRefuse_begun _ _ _ _ _ _ ?_ (fun _ _ _ => ?_) <;> try simp +contextual (maxDischargeDepth := 40) [*]))

@[simp] theorem anyCycle_begun (a0 a1 a2 s) (h : s.begun) : (anyCycle a0 a1 a2 s).begun := by
  unfold anyCycle
  try simp +contextual (maxDischargeDepth := 40) [h]
  repeat' (first | (split <;> try simp +contextual (maxDischargeDepth := 40) [*]) | (refine foldl_begun _ _ _ (fun _ _ _ => ?_) ?_ <;> try simp +contextual (maxDischargeDepth := 40) [*]) | (refine orRefuse_begun _ _ _ _ _ _ ?_ (fun _ _ _ => ?_) <;> try simp +contextual (maxDischargeDepth := 40) [*]))

@[simp] theorem coreWrite_begun (a0 a1 s) (h : s.begun) : (coreWrite a0 a1 s).begun := by
  unfold coreWrite; simp +contextual (maxDischargeDepth := 40) [h]

@[simp] theorem landDeferred_begun (a0 s) (h : s.begun) : (landDeferred a0 s).begun := by
  unfold landDeferred; simp [h]

@[simp] theorem lighterWrite_begun (a0 a1 s) (h : s.begun) : (lighterWrite a0 a1 s).begun := by
  unfold lighterWrite; simp +contextual (maxDischargeDepth := 40) [h]

theorem foldl_snd_begun {α β : Type} (f : β × State → α → β × State) (l : List α) (a : β × State)
    (h : ∀ a x, a.2.begun → (f a x).2.begun) (ha : a.2.begun) : (l.foldl f a).2.begun := by
  induction l generalizing a with
  | nil => exact ha
  | cons x l ih => rw [List.foldl_cons]; exact ih _ (h _ _ ha)

@[simp] theorem lighterFetch_begun (a0 a1 s) (h : s.begun) : (lighterFetch a0 a1 s).2.begun := by
  unfold lighterFetch
  split
  · exact h
  · exact foldl_snd_begun _ _ _ (fun _ _ _ => by simp [*]) (by simp [h])

@[simp] theorem backTo_begun (a0 a1 a2 s) (h : s.begun) : (backTo a0 a1 a2 s).begun := by
  unfold backTo; simp [h]

@[simp] theorem closeEntry_begun (a0 a1 s) (h : s.begun) : (closeEntry a0 a1 s).begun := by
  unfold closeEntry
  try simp +contextual (maxDischargeDepth := 40) [h]
  repeat' (first | (split <;> try simp +contextual (maxDischargeDepth := 40) [*]) | (refine foldl_begun _ _ _ (fun _ _ _ => ?_) ?_ <;> try simp +contextual (maxDischargeDepth := 40) [*]) | (refine orRefuse_begun _ _ _ _ _ _ ?_ (fun _ _ _ => ?_) <;> try simp +contextual (maxDischargeDepth := 40) [*]) | (intro _ <;> try simp +contextual (maxDischargeDepth := 40) [*]))

@[simp] theorem dropSums_begun (a0 a1 s) (h : s.begun) : (dropSums a0 a1 s).begun := by
  unfold dropSums; simp +contextual (maxDischargeDepth := 40) [h]

@[simp] theorem sendMesh_begun (a0 a1 a2 s) (h : s.begun) : (sendMesh a0 a1 a2 s).begun := by
  exact h

@[simp] theorem lighterSend_begun (a0 a1 s) (h : s.begun) : (lighterSend a0 a1 s).begun := by
  unfold lighterSend; simp +contextual (maxDischargeDepth := 40) [h]

@[simp] theorem coreSend_begun (a0 a1 a2 s) (h : s.begun) : (coreSend a0 a1 a2 s).begun := by
  unfold coreSend; simp +contextual (maxDischargeDepth := 40) [h]

@[simp] theorem berthWrite_begun (a0 s) (h : s.begun) : (berthWrite a0 s).begun := by
  unfold berthWrite; simp [h]

@[simp] theorem sendWrite_begun (a0 s) (h : s.begun) : (sendWrite a0 s).begun := by
  unfold sendWrite
  try simp +contextual (maxDischargeDepth := 40) [h]
  repeat' (first | (split <;> try simp +contextual (maxDischargeDepth := 40) [*]) | (refine foldl_begun _ _ _ (fun _ _ _ => ?_) ?_ <;> try simp +contextual (maxDischargeDepth := 40) [*]) | (refine orRefuse_begun _ _ _ _ _ _ ?_ (fun _ _ _ => ?_) <;> try simp +contextual (maxDischargeDepth := 40) [*]) | (intro _ <;> try simp +contextual (maxDischargeDepth := 40) [*]))

@[simp] theorem lineWrites_begun (a0 a1 a2 s) (h : s.begun) : (lineWrites a0 a1 a2 s).begun := by
  unfold lineWrites; simp +contextual (maxDischargeDepth := 40) [h]

@[simp] theorem sendWrites_begun (a0 a1 a2 a3 s) (h : s.begun) : (sendWrites a0 a1 a2 a3 s).begun := by
  unfold sendWrites; simp +contextual (maxDischargeDepth := 40) [h]

@[simp] theorem stampedWrite_begun (a0 a1 a2 a3 a4 s) (h : s.begun) : (stampedWrite a0 a1 a2 a3 a4 s).begun := by
  unfold stampedWrite; simp +contextual (maxDischargeDepth := 40) [h]

@[simp] theorem coreReads_begun (a0 a1 a2 s) (h : s.begun) : (coreReads a0 a1 a2 s).begun := by
  unfold coreReads; simp +contextual (maxDischargeDepth := 40) [h]

@[simp] theorem launchMsg_begun (a0 a1 a2 s) (h : s.begun) : (launchMsg a0 a1 a2 s).begun := by
  unfold launchMsg; simp [h]

end Sys2Proof.Machine
end

