-- ==== Sys2Proof/Laws/BegunKernel.lean ====
section
/-!
SUPPORT. Every function of kernels on states keeps the mark that the first stamp has been issued. Resets and power loss clear it and are not named.
-/

-- One proof after another: in parallel each asks for a thread and its stack.
set_option Elab.async false
set_option linter.all false

namespace Sys2Proof.Machine

def KRes.begun (r : KRes) : Prop := r.state.begun

@[simp] theorem kbegun_next (f s) : (KRes.next f s).begun ↔ s.begun := by unfold KRes.begun KRes.state; exact Iff.rfl
@[simp] theorem kbegun_jump (p f s) : (KRes.jump p f s).begun ↔ s.begun := by unfold KRes.begun KRes.state; exact Iff.rfl
@[simp] theorem kbegun_wait (w s) : (KRes.wait w s).begun ↔ s.begun := by unfold KRes.begun KRes.state; exact Iff.rfl
@[simp] theorem kbegun_stop (n s) : (KRes.stop n s).begun ↔ s.begun := by unfold KRes.begun KRes.state; exact Iff.rfl

@[simp] theorem ite_kbegun (c : Prop) [Decidable c] (a b : KRes) (ha : a.begun) (hb : b.begun) : (if c then a else b).begun := by
  split <;> assumption

@[simp] theorem writeSpace_begun (a0 a1 a2 a3 s) (h : s.begun) : (writeSpace a0 a1 a2 a3 s).begun := by
  unfold writeSpace; simp [h]

@[simp] theorem landSpace_begun (a0 a1 a2 a3 s) (h : s.begun) : (landSpace a0 a1 a2 a3 s).begun := by
  unfold landSpace; simp [h]

@[simp] theorem dropReads_begun (a0 a1 s) (h : s.begun) : (dropReads a0 a1 s).begun := by
  exact h

@[simp] theorem endGang_begun (a0 a1 a2 s) (h : s.begun) : (endGang a0 a1 a2 s).begun := by
  exact h

@[simp] theorem stopMember_begun (a0 a1 s) (h : s.begun) : (stopMember a0 a1 s).begun := by
  exact h

@[simp] theorem finishOp_begun (k now r) (h : r.begun) : (finishOp k now r).begun := by
  cases r <;> (try rw [kbegun_next] at h) <;> (try rw [kbegun_jump] at h) <;> (try rw [kbegun_wait] at h) <;>
    (try rw [kbegun_stop] at h) <;> simp [finishOp, h]

@[simp] theorem lowerStatus_begun (a0 a1 s) (h : s.begun) : (lowerStatus a0 a1 s).begun := by
  exact h

theorem kres_stop_begun (body : KOp → State → KRes) (k s st s') (h : (body k s).begun) (e : body k s = .stop st s') : s'.begun := by
  rw [e] at h; exact h

theorem kopStopped_begun (a0 a1 body s) (hs : s.begun) (h : ∀ k s, s.begun → (body k s).begun) : (kopStopped a0 a1 body s).begun := by
  unfold kopStopped
  split
  · exact hs
  · split
    · split
      · next e => exact lowerStatus_begun _ _ _ (kres_stop_begun _ _ _ _ _ (h _ _ hs) e)
      all_goals exact hs
    · exact hs

@[simp] theorem noteIssue_begun (a0 s) (h : s.begun) : (noteIssue a0 s).begun := by
  unfold noteIssue; simp [h]

@[simp] theorem issueOp_begun (k now r) (h : r.begun) : (issueOp k now r).begun := by
  cases r with
  | next f s => exact finishOp_begun _ _ _ (noteIssue_begun _ _ h)
  | jump _ _ _ => exact finishOp_begun _ _ _ h
  | wait _ _ => exact finishOp_begun _ _ _ h
  | stop _ _ => exact finishOp_begun _ _ _ h

@[simp] theorem kop_begun (m opc body s) (hs : s.begun) (h : ∀ k s, s.begun → (body k s).begun) : (kop m opc body s).begun := by
  unfold kop
  split
  · exact kopStopped_begun _ _ _ _ hs h
  · split
    · simp [h, hs]
    · exact hs

@[simp] theorem opNop_begun (a0 s) (h : s.begun) : (opNop a0 s).begun := by
  exact h

@[simp] theorem opEnd_begun (a0 s) (h : s.begun) : (opEnd a0 s).begun := by
  unfold opEnd; simp [h]

@[simp] theorem opLoop_begun (a0 s) (h : s.begun) : (opLoop a0 s).begun := by
  unfold opLoop; simp [h]

@[simp] theorem opTilefor_begun (a0 s) (h : s.begun) : (opTilefor a0 s).begun := by
  unfold opTilefor; simp [h]

@[simp] theorem opEndloop_begun (a0 s) (h : s.begun) : (opEndloop a0 s).begun := by
  unfold opEndloop
  try simp +contextual (maxDischargeDepth := 40) [h]
  repeat' (first | (split <;> try simp +contextual (maxDischargeDepth := 40) [*]) | (refine foldl_begun _ _ _ (fun _ _ _ => ?_) ?_ <;> try simp +contextual (maxDischargeDepth := 40) [*]) | (intro _) | (refine withAccess_begun _ _ _ _ ?_ (fun _ _ => ?_) <;> try simp [*]))

@[simp] theorem opIf_begun (a0 s) (h : s.begun) : (opIf a0 s).begun := by
  unfold opIf; simp [h]

@[simp] theorem opElse_begun (a0 s) (h : s.begun) : (opElse a0 s).begun := by
  unfold opElse
  try simp +contextual (maxDischargeDepth := 40) [h]
  repeat' (first | (split <;> try simp +contextual (maxDischargeDepth := 40) [*]) | (refine foldl_begun _ _ _ (fun _ _ _ => ?_) ?_ <;> try simp +contextual (maxDischargeDepth := 40) [*]) | (intro _) | (refine withAccess_begun _ _ _ _ ?_ (fun _ _ => ?_) <;> try simp [*]))

@[simp] theorem opEndif_begun (a0 s) (h : s.begun) : (opEndif a0 s).begun := by
  unfold opEndif
  try simp +contextual (maxDischargeDepth := 40) [h]
  repeat' (first | (split <;> try simp +contextual (maxDischargeDepth := 40) [*]) | (refine foldl_begun _ _ _ (fun _ _ _ => ?_) ?_ <;> try simp +contextual (maxDischargeDepth := 40) [*]) | (intro _) | (refine withAccess_begun _ _ _ _ ?_ (fun _ _ => ?_) <;> try simp [*]))

@[simp] theorem opImov_begun (a0 s) (h : s.begun) : (opImov a0 s).begun := by
  exact h

@[simp] theorem opIalu_begun (a0 s) (h : s.begun) : (opIalu a0 s).begun := by
  exact h

@[simp] theorem opQuery_begun (a0 s) (h : s.begun) : (opQuery a0 s).begun := by
  exact h

@[simp] theorem opParam_begun (a0 s) (h : s.begun) : (opParam a0 s).begun := by
  unfold opParam; simp [h]

@[simp] theorem opVdim_begun (a0 s) (h : s.begun) : (opVdim a0 s).begun := by
  exact h

@[simp] theorem opVsub_begun (a0 s) (h : s.begun) : (opVsub a0 s).begun := by
  unfold opVsub; simp (maxDischargeDepth := 40) [h]

@[simp] theorem opStamp_begun (k s) (h : s.begun) : (opStamp k s).begun := by
  unfold opStamp
  split <;> rename_i e <;> have hh := begun_of_snd e (issueStamp_begun _ _ _ h) <;> simp [hh]

@[simp] theorem logSecure_begun (a0 s) (h : s.begun) : (logSecure a0 s).begun := by
  unfold logSecure; simp [h]

@[simp] theorem stopAccess_begun (a0 a1 s) (h : s.begun) : (stopAccess a0 a1 s).begun := by
  unfold stopAccess; simp [h]

@[simp] theorem deviceErrors_begun (a0 a1 s) (h : s.begun) : (deviceErrors a0 a1 s).begun := by
  unfold deviceErrors
  try simp +contextual (maxDischargeDepth := 40) [h]
  repeat' (first | (split <;> try simp +contextual (maxDischargeDepth := 40) [*]) | (refine foldl_begun _ _ _ (fun _ _ _ => ?_) ?_ <;> try simp +contextual (maxDischargeDepth := 40) [*]) | (refine orRefuse_begun _ _ _ _ _ _ ?_ (fun _ _ _ => ?_) <;> try simp +contextual (maxDischargeDepth := 40) [*]) | (intro _ <;> try simp +contextual (maxDischargeDepth := 40) [*]))

@[simp] theorem dropOpReads_begun (a0 a1 s) (h : s.begun) : (dropOpReads a0 a1 s).begun := by
  exact h

@[simp] theorem withRemote_begun (k n l work s) (hs : s.begun) (h : ∀ s, s.begun → (work s).begun) : (withRemote k n l work s).begun := by
  unfold withRemote
  try simp only []
  repeat' (split)
  all_goals simp (maxDischargeDepth := 40) [h, hs]

@[simp] theorem issueAccess_begun (k l work s) (hs : s.begun) (h : ∀ s, s.begun → (work s).begun) : (issueAccess k l work s).begun := by
  unfold issueAccess
  try simp only []
  repeat' (split)
  all_goals simp (maxDischargeDepth := 40) [h, hs]

@[simp] theorem withAccess_begun (k l work s) (hs : s.begun) (h : ∀ s, s.begun → (work s).begun) : (withAccess k l work s).begun := by
  unfold withAccess
  exact issueAccess_begun _ _ _ _ hs (fun _ hs => withRemote_begun _ _ _ _ _ hs (fun _ hs => h _ (checkRuns_begun _ _ _ hs)))

@[simp] theorem viewReader_begun (a0 a1 s) (h : s.begun) : (viewReader a0 a1 s).2.begun := by
  unfold viewReader; simp [h]

@[simp] theorem opTload_begun (a0 s) (h : s.begun) : (opTload a0 s).begun := by
  unfold opTload; simp +contextual (maxDischargeDepth := 40) [h]

@[simp] theorem storeTile_begun (a0 a1 a2 a3 a4 a5 s) (h : s.begun) : (storeTile a0 a1 a2 a3 a4 a5 s).begun := by
  unfold storeTile; simp +contextual (maxDischargeDepth := 40) [h]

@[simp] theorem opTstore_begun (a0 s) (h : s.begun) : (opTstore a0 s).begun := by
  unfold opTstore; simp [h]

@[simp] theorem opTfill_begun (a0 s) (h : s.begun) : (opTfill a0 s).begun := by
  exact h

@[simp] theorem opMma_begun (a0 s) (h : s.begun) : (opMma a0 s).begun := by
  unfold opMma
  try simp +contextual (maxDischargeDepth := 40) [h]
  repeat' (first | (split <;> try simp +contextual (maxDischargeDepth := 40) [*]) | (refine foldl_begun _ _ _ (fun _ _ _ => ?_) ?_ <;> try simp +contextual (maxDischargeDepth := 40) [*]) | (intro _) | (refine withAccess_begun _ _ _ _ ?_ (fun _ _ => ?_) <;> try simp [*]))

@[simp] theorem opAccmov_begun (a0 s) (h : s.begun) : (opAccmov a0 s).begun := by
  exact h

@[simp] theorem tileResult_begun (a0 a1 s) (h : s.begun) : (tileResult a0 a1 s).begun := by
  exact h

@[simp] theorem opEbin_begun (k s) (h : s.begun) : (opEbin k s).begun := by
  unfold opEbin
  dsimp only
  split
  · exact (kbegun_stop _ _).2 h
  · exact tileResult_begun _ _ _ h

@[simp] theorem opEfma_begun (a0 s) (h : s.begun) : (opEfma a0 s).begun := by
  unfold opEfma; simp [h]

@[simp] theorem opEun_begun (a0 s) (h : s.begun) : (opEun a0 s).begun := by
  unfold opEun; simp [h]

@[simp] theorem opCmp_begun (k s) (h : s.begun) : (opCmp k s).begun := by
  unfold opCmp
  dsimp only
  split
  · exact (kbegun_stop _ _).2 h
  · exact tileResult_begun _ _ _ h

@[simp] theorem opSel_begun (a0 s) (h : s.begun) : (opSel a0 s).begun := by
  unfold opSel; simp [h]

@[simp] theorem opRed_begun (a0 s) (h : s.begun) : (opRed a0 s).begun := by
  unfold opRed; simp [h]

@[simp] theorem opTrans_begun (a0 s) (h : s.begun) : (opTrans a0 s).begun := by
  exact h

@[simp] theorem opGather_begun (a0 s) (h : s.begun) : (opGather a0 s).begun := by
  unfold opGather
  try simp +contextual (maxDischargeDepth := 40) [h]
  repeat' (first | (split <;> try simp +contextual (maxDischargeDepth := 40) [*]) | (refine foldl_begun _ _ _ (fun _ _ _ => ?_) ?_ <;> try simp +contextual (maxDischargeDepth := 40) [*]) | (intro _) | (refine withAccess_begun _ _ _ _ ?_ (fun _ _ => ?_) <;> try simp [*]))

@[simp] theorem opScatter_begun (a0 s) (h : s.begun) : (opScatter a0 s).begun := by
  unfold opScatter
  try simp +contextual (maxDischargeDepth := 40) [h]
  repeat' (first | (split <;> try simp +contextual (maxDischargeDepth := 40) [*]) | (refine foldl_begun _ _ _ (fun _ _ _ => ?_) ?_ <;> try simp +contextual (maxDischargeDepth := 40) [*]) | (intro _) | (refine withAccess_begun _ _ _ _ ?_ (fun _ _ => ?_) <;> try simp [*]))

@[simp] theorem opSort_begun (a0 s) (h : s.begun) : (opSort a0 s).begun := by
  unfold opSort; simp [h]

@[simp] theorem opCvt_begun (a0 s) (h : s.begun) : (opCvt a0 s).begun := by
  unfold opCvt; simp (maxDischargeDepth := 40) [h]

@[simp] theorem onToken_begun (k token work s) (hs : s.begun) (h : ∀ s, s.begun → (work s).begun) : (onToken k token work s).begun := by
  unfold onToken
  split <;> simp [h, hs]

@[simp] theorem opXfer_begun (a0 s) (h : s.begun) : (opXfer a0 s).begun := by
  unfold opXfer
  try simp +contextual (maxDischargeDepth := 40) [h]
  repeat' (first | (split <;> try simp +contextual (maxDischargeDepth := 40) [*]) | (refine foldl_begun _ _ _ (fun _ _ _ => ?_) ?_ <;> try simp +contextual (maxDischargeDepth := 40) [*]) | (intro _) | (refine withAccess_begun _ _ _ _ ?_ (fun _ _ => ?_) <;> try simp [*]) | (refine issueAccess_begun _ _ _ _ ?_ (fun _ _ => ?_) <;> try simp [*]) | (refine withRemote_begun _ _ _ _ _ ?_ (fun _ _ => ?_) <;> try simp [*]) | (refine onToken_begun _ _ _ _ ?_ (fun _ _ => ?_) <;> try simp [*]) | (intro _ <;> try simp +contextual (maxDischargeDepth := 40) [*]))

@[simp] theorem lighterReader_begun (a0 a1 a2 s) (h : s.begun) : (lighterReader a0 a1 a2 s).2.begun := by
  unfold lighterReader
  try simp +contextual (maxDischargeDepth := 40) [h]
  repeat' (first | (split <;> try simp +contextual (maxDischargeDepth := 40) [*]) | (refine foldl_begun _ _ _ (fun _ _ _ => ?_) ?_ <;> try simp +contextual (maxDischargeDepth := 40) [*]) | (refine orRefuse_begun _ _ _ _ _ _ ?_ (fun _ _ _ => ?_) <;> try simp +contextual (maxDischargeDepth := 40) [*]) | (intro _ <;> try simp +contextual (maxDischargeDepth := 40) [*]))

@[simp] theorem landedDone_begun (a0 a1 a2 s) (h : s.begun) : (landedDone a0 a1 a2 s).begun := by
  unfold landedDone
  try simp +contextual (maxDischargeDepth := 40) [h]
  repeat' (first | (split <;> try simp +contextual (maxDischargeDepth := 40) [*]) | (refine foldl_begun _ _ _ (fun _ _ _ => ?_) ?_ <;> try simp +contextual (maxDischargeDepth := 40) [*]) | (refine orRefuse_begun _ _ _ _ _ _ ?_ (fun _ _ _ => ?_) <;> try simp +contextual (maxDischargeDepth := 40) [*]))

@[simp] theorem xferDoneStep_begun (a0 a1 s) (h : s.begun) : (xferDoneStep a0 a1 s).begun := by
  unfold xferDoneStep
  try simp +contextual (maxDischargeDepth := 40) [h]
  repeat' (first | (split <;> try simp +contextual (maxDischargeDepth := 40) [*]) | (refine foldl_begun _ _ _ (fun _ _ _ => ?_) ?_ <;> try simp +contextual (maxDischargeDepth := 40) [*]) | (refine orRefuse_begun _ _ _ _ _ _ ?_ (fun _ _ _ => ?_) <;> try simp +contextual (maxDischargeDepth := 40) [*]) | (intro _ <;> try simp +contextual (maxDischargeDepth := 40) [*]))

@[simp] theorem opWait_begun (a0 s) (h : s.begun) : (opWait a0 s).begun := by
  unfold opWait; simp [h]

@[simp] theorem signalSend_begun (s a1 a2) (h : s.begun) : (signalSend s a1 a2).begun := by
  unfold signalSend; simp [h]

@[simp] theorem dropMsg_begun (a0 s) (h : s.begun) : (dropMsg a0 s).begun := by
  exact h

@[simp] theorem parkMsg_begun (a0 a1 s) (h : s.begun) : (parkMsg a0 a1 s).begun := by
  exact h

@[simp] theorem landMsg_begun (a0 a1 s) (h : s.begun) : (landMsg a0 a1 s).begun := by
  unfold landMsg
  try simp +contextual (maxDischargeDepth := 40) [h]
  repeat' (first | (split <;> try simp +contextual (maxDischargeDepth := 40) [*]) | (refine foldl_begun _ _ _ (fun _ _ _ => ?_) ?_ <;> try simp +contextual (maxDischargeDepth := 40) [*]) | (refine orRefuse_begun _ _ _ _ _ _ ?_ (fun _ _ _ => ?_) <;> try simp +contextual (maxDischargeDepth := 40) [*]))

@[simp] theorem matchWaiting_begun (m n s) (h : s.begun) : (matchWaiting m n s).begun := by
  induction n generalizing s with
  | zero => exact h
  | succ n ih =>
    unfold matchWaiting
    split
    · exact ih _ (landMsg_begun _ _ _ h)
    · exact h

@[simp] theorem deliver_begun (a0 a1 s) (h : s.begun) : (deliver a0 a1 s).begun := by
  unfold deliver; simp [h]

@[simp] theorem afterDrop_begun (a0 s) (h : s.begun) : (afterDrop a0 s).begun := by
  unfold afterDrop; simp [h]

@[simp] theorem opSend_begun (a0 s) (h : s.begun) : (opSend a0 s).begun := by
  unfold opSend
  try simp +contextual (maxDischargeDepth := 40) [h]
  repeat' (first | (split <;> try simp +contextual (maxDischargeDepth := 40) [*]) | (refine foldl_begun _ _ _ (fun _ _ _ => ?_) ?_ <;> try simp +contextual (maxDischargeDepth := 40) [*]) | (intro _) | (refine withAccess_begun _ _ _ _ ?_ (fun _ _ => ?_) <;> try simp [*]) | (refine onToken_begun _ _ _ _ ?_ (fun _ _ => ?_) <;> try simp [*]))

@[simp] theorem opRecv_begun (a0 s) (h : s.begun) : (opRecv a0 s).begun := by
  unfold opRecv
  try simp +contextual (maxDischargeDepth := 40) [h]
  repeat' (first | (split <;> try simp +contextual (maxDischargeDepth := 40) [*]) | (refine foldl_begun _ _ _ (fun _ _ _ => ?_) ?_ <;> try simp +contextual (maxDischargeDepth := 40) [*]) | (intro _) | (refine withAccess_begun _ _ _ _ ?_ (fun _ _ => ?_) <;> try simp [*]) | (refine onToken_begun _ _ _ _ ?_ (fun _ _ => ?_) <;> try simp [*]))

@[simp] theorem returnMsg_begun (a0 a1 s) (h : s.begun) : (returnMsg a0 a1 s).begun := by
  exact h

@[simp] theorem recvStops_begun (a0 a1 a2 s) (h : s.begun) : (recvStops a0 a1 a2 s).begun := by
  unfold recvStops; simp [h]

@[simp] theorem lateArrival_begun (a0 a1 s) (h : s.begun) : (lateArrival a0 a1 s).begun := by
  unfold lateArrival
  try simp +contextual (maxDischargeDepth := 40) [h]
  repeat' (first | (split <;> try simp +contextual (maxDischargeDepth := 40) [*]) | (refine foldl_begun _ _ _ (fun _ _ _ => ?_) ?_ <;> try simp +contextual (maxDischargeDepth := 40) [*]) | (refine orRefuse_begun _ _ _ _ _ _ ?_ (fun _ _ _ => ?_) <;> try simp +contextual (maxDischargeDepth := 40) [*]) | (intro _ <;> try simp +contextual (maxDischargeDepth := 40) [*]))

@[simp] theorem lateRecv_begun (a0 s) (h : s.begun) : (lateRecv a0 s).begun := by
  unfold lateRecv
  try simp +contextual (maxDischargeDepth := 40) [h]
  repeat' (first | (split <;> try simp +contextual (maxDischargeDepth := 40) [*]) | (refine foldl_begun _ _ _ (fun _ _ _ => ?_) ?_ <;> try simp +contextual (maxDischargeDepth := 40) [*]) | (refine orRefuse_begun _ _ _ _ _ _ ?_ (fun _ _ _ => ?_) <;> try simp +contextual (maxDischargeDepth := 40) [*]) | (intro _ <;> try simp +contextual (maxDischargeDepth := 40) [*]))

@[simp] theorem msgArrivalStep_begun (a0 s) (h : s.begun) : (msgArrivalStep a0 s).begun := by
  unfold msgArrivalStep
  try simp +contextual (maxDischargeDepth := 40) [h]
  repeat' (first | (split <;> try simp +contextual (maxDischargeDepth := 40) [*]) | (refine foldl_begun _ _ _ (fun _ _ _ => ?_) ?_ <;> try simp +contextual (maxDischargeDepth := 40) [*]) | (refine orRefuse_begun _ _ _ _ _ _ ?_ (fun _ _ _ => ?_) <;> try simp +contextual (maxDischargeDepth := 40) [*]))

@[simp] theorem staleMessageStep_begun (a0 s) (h : s.begun) : (staleMessageStep a0 s).begun := by
  unfold staleMessageStep
  try simp +contextual (maxDischargeDepth := 40) [h]
  repeat' (first | (split <;> try simp +contextual (maxDischargeDepth := 40) [*]) | (refine foldl_begun _ _ _ (fun _ _ _ => ?_) ?_ <;> try simp +contextual (maxDischargeDepth := 40) [*]) | (refine orRefuse_begun _ _ _ _ _ _ ?_ (fun _ _ _ => ?_) <;> try simp +contextual (maxDischargeDepth := 40) [*]))

@[simp] theorem viewCodes_begun (a0 a1 a2 s) (h : s.begun) : (viewCodes a0 a1 a2 s).2.begun := by
  unfold viewCodes; simp [h]

@[simp] theorem putCodes_begun (a0 a1 a2 a3 s) (h : s.begun) : (putCodes a0 a1 a2 a3 s).begun := by
  unfold putCodes; simp [h]

@[simp] theorem collSingle_begun (a0 a1 a2 a3 a4 s) (h : s.begun) : (collSingle a0 a1 a2 a3 a4 s).begun := by
  unfold collSingle; simp (maxDischargeDepth := 40) [h]

@[simp] theorem opColl_begun (a0 s) (h : s.begun) : (opColl a0 s).begun := by
  unfold opColl
  dsimp only
  generalize (if 3 ≤ a0.mod % 8 then a0.view (a0.e2 % 256) else emptyView) = q
  split
  · exact h
  · split
    · exact h
    · refine onToken_begun _ _ _ _ h (fun _ h => ?_)
      split
      · exact h
      · refine issueAccess_begun _ _ _ _ h (fun _ h => withRemote_begun _ _ _ _ _ h (fun _ h => ?_))
        split
        · exact collSingle_begun _ _ _ _ _ _ h
        · exact h

@[simp] theorem contribution_begun (a0 a1 a2 s) (h : s.begun) : (contribution a0 a1 a2 s).2.begun := by
  unfold contribution
  try simp +contextual (maxDischargeDepth := 40) [h]
  repeat' (first | (split <;> try simp +contextual (maxDischargeDepth := 40) [*]) | (refine foldl_begun _ _ _ (fun _ _ _ => ?_) ?_ <;> try simp +contextual (maxDischargeDepth := 40) [*]) | (refine orRefuse_begun _ _ _ _ _ _ ?_ (fun _ _ _ => ?_) <;> try simp +contextual (maxDischargeDepth := 40) [*]) | (intro _ <;> try simp +contextual (maxDischargeDepth := 40) [*]))

@[simp] theorem freshSum_begun (a0 a1 a2 a3 a4 s) (h : s.begun) : (freshSum a0 a1 a2 a3 a4 s).begun := by
  unfold freshSum
  try simp +contextual (maxDischargeDepth := 40) [h]
  repeat' (first | (split <;> try simp +contextual (maxDischargeDepth := 40) [*]) | (refine foldl_begun _ _ _ (fun _ _ _ => ?_) ?_ <;> try simp +contextual (maxDischargeDepth := 40) [*]) | (refine orRefuse_begun _ _ _ _ _ _ ?_ (fun _ _ _ => ?_) <;> try simp +contextual (maxDischargeDepth := 40) [*]) | (intro _ <;> try simp +contextual (maxDischargeDepth := 40) [*]))

@[simp] theorem sendRound_begun (a0 a1 a2 s) (h : s.begun) : (sendRound a0 a1 a2 s).begun := by
  unfold sendRound
  try simp +contextual (maxDischargeDepth := 40) [h]
  repeat' (first | (split <;> try simp +contextual (maxDischargeDepth := 40) [*]) | (refine foldl_begun _ _ _ (fun _ _ _ => ?_) ?_ <;> try simp +contextual (maxDischargeDepth := 40) [*]) | (refine orRefuse_begun _ _ _ _ _ _ ?_ (fun _ _ _ => ?_) <;> try simp +contextual (maxDischargeDepth := 40) [*]) | (intro _ <;> try simp +contextual (maxDischargeDepth := 40) [*]))

@[simp] theorem sendShare_begun (a0 a1 a2 a3 a4 a5 s) (h : s.begun) : (sendShare a0 a1 a2 a3 a4 a5 s).begun := by
  unfold sendShare
  try simp +contextual (maxDischargeDepth := 40) [h]
  repeat' (first | (split <;> try simp +contextual (maxDischargeDepth := 40) [*]) | (refine foldl_begun _ _ _ (fun _ _ _ => ?_) ?_ <;> try simp +contextual (maxDischargeDepth := 40) [*]) | (refine orRefuse_begun _ _ _ _ _ _ ?_ (fun _ _ _ => ?_) <;> try simp +contextual (maxDischargeDepth := 40) [*]) | (intro _ <;> try simp +contextual (maxDischargeDepth := 40) [*]))

@[simp] theorem sendShares_begun (a0 a1 a2 s) (h : s.begun) : (sendShares a0 a1 a2 s).begun := by
  unfold sendShares
  try simp +contextual (maxDischargeDepth := 40) [h]
  repeat' (first | (split <;> try simp +contextual (maxDischargeDepth := 40) [*]) | (refine foldl_begun _ _ _ (fun _ _ _ => ?_) ?_ <;> try simp +contextual (maxDischargeDepth := 40) [*]) | (refine orRefuse_begun _ _ _ _ _ _ ?_ (fun _ _ _ => ?_) <;> try simp +contextual (maxDischargeDepth := 40) [*]) | (intro _ <;> try simp +contextual (maxDischargeDepth := 40) [*]))

@[simp] theorem beginColl_begun (a0 a1 a2 s) (h : s.begun) : (beginColl a0 a1 a2 s).begun := by
  unfold beginColl
  try simp +contextual (maxDischargeDepth := 40) [h]
  repeat' (first | (split <;> try simp +contextual (maxDischargeDepth := 40) [*]) | (refine foldl_begun _ _ _ (fun _ _ _ => ?_) ?_ <;> try simp +contextual (maxDischargeDepth := 40) [*]) | (refine orRefuse_begun _ _ _ _ _ _ ?_ (fun _ _ _ => ?_) <;> try simp +contextual (maxDischargeDepth := 40) [*]) | (intro _ <;> try simp +contextual (maxDischargeDepth := 40) [*]))

@[simp] theorem beginColls_begun (a0 s) (h : s.begun) : (beginColls a0 s).begun := by
  unfold beginColls
  try simp +contextual (maxDischargeDepth := 40) [h]
  repeat' (first | (split <;> try simp +contextual (maxDischargeDepth := 40) [*]) | (refine foldl_begun _ _ _ (fun _ _ _ => ?_) ?_ <;> try simp +contextual (maxDischargeDepth := 40) [*]) | (refine orRefuse_begun _ _ _ _ _ _ ?_ (fun _ _ _ => ?_) <;> try simp +contextual (maxDischargeDepth := 40) [*]) | (intro _ <;> try simp +contextual (maxDischargeDepth := 40) [*]))

@[simp] theorem signalColl_begun (a0 a1 a2 s) (h : s.begun) : (signalColl a0 a1 a2 s).begun := by
  unfold signalColl
  try simp +contextual (maxDischargeDepth := 40) [h]
  repeat' (first | (split <;> try simp +contextual (maxDischargeDepth := 40) [*]) | (refine foldl_begun _ _ _ (fun _ _ _ => ?_) ?_ <;> try simp +contextual (maxDischargeDepth := 40) [*]) | (refine orRefuse_begun _ _ _ _ _ _ ?_ (fun _ _ _ => ?_) <;> try simp +contextual (maxDischargeDepth := 40) [*]) | (intro _ <;> try simp +contextual (maxDischargeDepth := 40) [*]))

@[simp] theorem roundDone_begun (a0 a1 a2 s) (h : s.begun) : (roundDone a0 a1 a2 s).begun := by
  unfold roundDone
  try simp +contextual (maxDischargeDepth := 40) [h]
  repeat' (first | (split <;> try simp +contextual (maxDischargeDepth := 40) [*]) | (refine foldl_begun _ _ _ (fun _ _ _ => ?_) ?_ <;> try simp +contextual (maxDischargeDepth := 40) [*]) | (refine orRefuse_begun _ _ _ _ _ _ ?_ (fun _ _ _ => ?_) <;> try simp +contextual (maxDischargeDepth := 40) [*]) | (intro _ <;> try simp +contextual (maxDischargeDepth := 40) [*]))

@[simp] theorem landRound_begun (a0 a1 a2 a3 s) (h : s.begun) : (landRound a0 a1 a2 a3 s).begun := by
  unfold landRound
  try simp +contextual (maxDischargeDepth := 40) [h]
  repeat' (first | (split <;> try simp +contextual (maxDischargeDepth := 40) [*]) | (refine foldl_begun _ _ _ (fun _ _ _ => ?_) ?_ <;> try simp +contextual (maxDischargeDepth := 40) [*]) | (refine orRefuse_begun _ _ _ _ _ _ ?_ (fun _ _ _ => ?_) <;> try simp +contextual (maxDischargeDepth := 40) [*]) | (intro _ <;> try simp +contextual (maxDischargeDepth := 40) [*]))

@[simp] theorem collDoneGang_begun (a0 a1 a2 s) (h : s.begun) : (collDoneGang a0 a1 a2 s).begun := by
  unfold collDoneGang
  try simp +contextual (maxDischargeDepth := 40) [h]
  repeat' (first | (split <;> try simp +contextual (maxDischargeDepth := 40) [*]) | (refine foldl_begun _ _ _ (fun _ _ _ => ?_) ?_ <;> try simp +contextual (maxDischargeDepth := 40) [*]) | (refine orRefuse_begun _ _ _ _ _ _ ?_ (fun _ _ _ => ?_) <;> try simp +contextual (maxDischargeDepth := 40) [*]) | (intro _ <;> try simp +contextual (maxDischargeDepth := 40) [*]))

@[simp] theorem opBarrier_begun (a0 s) (h : s.begun) : (opBarrier a0 s).begun := by
  unfold opBarrier; simp (maxDischargeDepth := 40) [h]

@[simp] theorem barrierReleaseStep_begun (a0 a1 s) (h : s.begun) : (barrierReleaseStep a0 a1 s).begun := by
  unfold barrierReleaseStep
  try simp +contextual (maxDischargeDepth := 40) [h]
  repeat' (first | (split <;> try simp +contextual (maxDischargeDepth := 40) [*]) | (refine foldl_begun _ _ _ (fun _ _ _ => ?_) ?_ <;> try simp +contextual (maxDischargeDepth := 40) [*]) | (refine orRefuse_begun _ _ _ _ _ _ ?_ (fun _ _ _ => ?_) <;> try simp +contextual (maxDischargeDepth := 40) [*]))

@[simp] theorem kernelHangStep_begun (a0 a1 s) (h : s.begun) : (kernelHangStep a0 a1 s).begun := by
  unfold kernelHangStep
  try simp +contextual (maxDischargeDepth := 40) [h]
  repeat' (first | (split <;> try simp +contextual (maxDischargeDepth := 40) [*]) | (refine foldl_begun _ _ _ (fun _ _ _ => ?_) ?_ <;> try simp +contextual (maxDischargeDepth := 40) [*]) | (refine orRefuse_begun _ _ _ _ _ _ ?_ (fun _ _ _ => ?_) <;> try simp +contextual (maxDischargeDepth := 40) [*]))

@[simp] theorem taskTimeoutStep_begun (a0 a1 s) (h : s.begun) : (taskTimeoutStep a0 a1 s).begun := by
  unfold taskTimeoutStep
  try simp +contextual (maxDischargeDepth := 40) [h]
  repeat' (first | (split <;> try simp +contextual (maxDischargeDepth := 40) [*]) | (refine foldl_begun _ _ _ (fun _ _ _ => ?_) ?_ <;> try simp +contextual (maxDischargeDepth := 40) [*]) | (refine orRefuse_begun _ _ _ _ _ _ ?_ (fun _ _ _ => ?_) <;> try simp +contextual (maxDischargeDepth := 40) [*]))

@[simp] theorem mailKernelLoad_begun (a0 a1 a2 s) (h : s.begun) : (mailKernelLoad a0 a1 a2 s).begun := by
  unfold mailKernelLoad
  try simp +contextual (maxDischargeDepth := 40) [h]
  repeat' (first | (split <;> try simp +contextual (maxDischargeDepth := 40) [*]) | (refine foldl_begun _ _ _ (fun _ _ _ => ?_) ?_ <;> try simp +contextual (maxDischargeDepth := 40) [*]) | (refine orRefuse_begun _ _ _ _ _ _ ?_ (fun _ _ _ => ?_) <;> try simp +contextual (maxDischargeDepth := 40) [*]) | (intro _ <;> try simp +contextual (maxDischargeDepth := 40) [*]))

@[simp] theorem loweringDone_begun (a0 s) (h : s.begun) : (loweringDone a0 s).begun := by
  unfold loweringDone
  try simp +contextual (maxDischargeDepth := 40) [h]
  repeat' (first | (split <;> try simp +contextual (maxDischargeDepth := 40) [*]) | (refine foldl_begun _ _ _ (fun _ _ _ => ?_) ?_ <;> try simp +contextual (maxDischargeDepth := 40) [*]) | (refine orRefuse_begun _ _ _ _ _ _ ?_ (fun _ _ _ => ?_) <;> try simp +contextual (maxDischargeDepth := 40) [*]))

@[simp] theorem mailKernelUnload_begun (a0 a1 a2 s) (h : s.begun) : (mailKernelUnload a0 a1 a2 s).begun := by
  unfold mailKernelUnload
  try simp +contextual (maxDischargeDepth := 40) [h]
  repeat' (first | (split <;> try simp +contextual (maxDischargeDepth := 40) [*]) | (refine foldl_begun _ _ _ (fun _ _ _ => ?_) ?_ <;> try simp +contextual (maxDischargeDepth := 40) [*]) | (refine orRefuse_begun _ _ _ _ _ _ ?_ (fun _ _ _ => ?_) <;> try simp +contextual (maxDischargeDepth := 40) [*]))

end Sys2Proof.Machine
end

