-- ==== Sys2Proof/Laws/BegunPounds.lean ====
section
/-!
SUPPORT. Every function of the on-die network, graphs, pounds, memory and time on states keeps the mark that the first stamp has been issued. Resets and power loss clear it and are not named.
-/

-- One proof after another: in parallel each asks for a thread and its stack.
set_option Elab.async false
set_option linter.all false

namespace Sys2Proof.Machine

@[simp] theorem scratchStep_begun (a0 a1 a2 a3 s) (h : s.begun) : (scratchStep a0 a1 a2 a3 s).begun := by
  unfold scratchStep
  try simp +contextual (maxDischargeDepth := 40) [h]
  repeat' (first | (split <;> try simp +contextual (maxDischargeDepth := 40) [*]) | (refine foldl_begun _ _ _ (fun _ _ _ => ?_) ?_ <;> try simp +contextual (maxDischargeDepth := 40) [*]) | (refine orRefuse_begun _ _ _ _ _ _ ?_ (fun _ _ _ => ?_) <;> try simp +contextual (maxDischargeDepth := 40) [*]) | (intro _ <;> try simp +contextual (maxDischargeDepth := 40) [*]))

@[simp] theorem groupFlags_begun (a0 a1 a2 s) (h : s.begun) : (groupFlags a0 a1 a2 s).begun := by
  unfold groupFlags
  try simp +contextual (maxDischargeDepth := 40) [h]
  repeat' (first | (split <;> try simp +contextual (maxDischargeDepth := 40) [*]) | (refine foldl_begun _ _ _ (fun _ _ _ => ?_) ?_ <;> try simp +contextual (maxDischargeDepth := 40) [*]) | (refine orRefuse_begun _ _ _ _ _ _ ?_ (fun _ _ _ => ?_) <;> try simp +contextual (maxDischargeDepth := 40) [*]))

@[simp] theorem endCollective_begun (a0 a1 a2 s) (h : s.begun) : (endCollective a0 a1 a2 s).begun := by
  unfold endCollective
  try simp +contextual (maxDischargeDepth := 40) [h]
  repeat' (first | (split <;> try simp +contextual (maxDischargeDepth := 40) [*]) | (refine foldl_begun _ _ _ (fun _ _ _ => ?_) ?_ <;> try simp +contextual (maxDischargeDepth := 40) [*]) | (refine orRefuse_begun _ _ _ _ _ _ ?_ (fun _ _ _ => ?_) <;> try simp +contextual (maxDischargeDepth := 40) [*]))

@[simp] theorem partLanded_begun (a0 a1 s) (h : s.begun) : (partLanded a0 a1 s).begun := by
  unfold partLanded
  try simp +contextual (maxDischargeDepth := 40) [h]
  repeat' (first | (split <;> try simp +contextual (maxDischargeDepth := 40) [*]) | (refine foldl_begun _ _ _ (fun _ _ _ => ?_) ?_ <;> try simp +contextual (maxDischargeDepth := 40) [*]) | (refine orRefuse_begun _ _ _ _ _ _ ?_ (fun _ _ _ => ?_) <;> try simp +contextual (maxDischargeDepth := 40) [*]) | (intro _ <;> try simp +contextual (maxDischargeDepth := 40) [*]))

@[simp] theorem addMsg_begun (a0 s) (h : s.begun) : (addMsg a0 s).begun := by
  exact h

@[simp] theorem landPacket_begun (a0 s) (h : s.begun) : (landPacket a0 s).begun := by
  unfold landPacket
  try simp +contextual (maxDischargeDepth := 40) [h]
  repeat' (first | (split <;> try simp +contextual (maxDischargeDepth := 40) [*]) | (refine foldl_begun _ _ _ (fun _ _ _ => ?_) ?_ <;> try simp +contextual (maxDischargeDepth := 40) [*]) | (refine orRefuse_begun _ _ _ _ _ _ ?_ (fun _ _ _ => ?_) <;> try simp +contextual (maxDischargeDepth := 40) [*]))

@[simp] theorem leaveMesh_begun (a0 a1 a2 s) (h : s.begun) : (leaveMesh a0 a1 a2 s).begun := by
  unfold leaveMesh; simp (maxDischargeDepth := 40) [h]

@[simp] theorem placeFlit_begun (a0 a1 a2 s) (h : s.begun) : (placeFlit a0 a1 a2 s).begun := by
  unfold placeFlit
  try simp +contextual (maxDischargeDepth := 40) [h]
  repeat' (first | (split <;> try simp +contextual (maxDischargeDepth := 40) [*]) | (refine foldl_begun _ _ _ (fun _ _ _ => ?_) ?_ <;> try simp +contextual (maxDischargeDepth := 40) [*]) | (refine orRefuse_begun _ _ _ _ _ _ ?_ (fun _ _ _ => ?_) <;> try simp +contextual (maxDischargeDepth := 40) [*]))

@[simp] theorem sendFlit_begun (a0 a1 s) (h : s.begun) : (sendFlit a0 a1 s).begun := by
  unfold sendFlit
  try simp +contextual (maxDischargeDepth := 40) [h]
  repeat' (first | (split <;> try simp +contextual (maxDischargeDepth := 40) [*]) | (refine foldl_begun _ _ _ (fun _ _ _ => ?_) ?_ <;> try simp +contextual (maxDischargeDepth := 40) [*]) | (refine orRefuse_begun _ _ _ _ _ _ ?_ (fun _ _ _ => ?_) <;> try simp +contextual (maxDischargeDepth := 40) [*]))

@[simp] theorem injectAll_begun (a0 a1 s) (h : s.begun) : (injectAll a0 a1 s).begun := by
  unfold injectAll; simp +contextual (maxDischargeDepth := 40) [h]

@[simp] theorem outboxStep_begun (b l h s) (hs : s.begun) : (outboxStep b l h s).2.begun := by
  induction l generalizing h s with
  | nil => exact hs
  | cons w l ih =>
    unfold outboxStep
    dsimp only
    split
    · exact ih _ _ hs
    · split
      · exact ih _ _ (injectAll_begun _ _ _ hs)
      · exact ih _ _ hs

@[simp] theorem injectOutbox_begun (a0 s) (h : s.begun) : (injectOutbox a0 s).begun := by
  unfold injectOutbox; simp [h]

@[simp] theorem mergeAll_begun (r n s) (h : s.begun) : (mergeAll r n s).begun := by
  induction n generalizing s with
  | zero => exact h
  | succ n ih =>
    unfold mergeAll
    dsimp only
    repeat' (split)
    all_goals simp (maxDischargeDepth := 40) [ih, h]

@[simp] theorem routerStep_begun (r inject s) (h : s.begun) : (routerStep r inject s).begun := by
  unfold routerStep
  split
  · dsimp only
    refine updRouter_begun _ _ _ (foldl_begun _ _ _ (fun s o h => sendFlit_begun _ _ _ h) ?_)
    exact mergeAll_begun _ _ _ (injectAll_begun _ _ _ (injectOutbox_begun _ _ h))
  · exact h

@[simp] theorem tableStep_begun (a0 s) (h : s.begun) : (tableStep a0 s).begun := by
  unfold tableStep
  try simp +contextual (maxDischargeDepth := 40) [h]
  repeat' (first | (split <;> try simp +contextual (maxDischargeDepth := 40) [*]) | (refine foldl_begun _ _ _ (fun _ _ _ => ?_) ?_ <;> try simp +contextual (maxDischargeDepth := 40) [*]) | (refine orRefuse_begun _ _ _ _ _ _ ?_ (fun _ _ _ => ?_) <;> try simp +contextual (maxDischargeDepth := 40) [*]))

@[simp] theorem tableDone_begun (a0 a1 s) (h : s.begun) : (tableDone a0 a1 s).begun := by
  unfold tableDone
  try simp +contextual (maxDischargeDepth := 40) [h]
  repeat' (first | (split <;> try simp +contextual (maxDischargeDepth := 40) [*]) | (refine foldl_begun _ _ _ (fun _ _ _ => ?_) ?_ <;> try simp +contextual (maxDischargeDepth := 40) [*]) | (refine orRefuse_begun _ _ _ _ _ _ ?_ (fun _ _ _ => ?_) <;> try simp +contextual (maxDischargeDepth := 40) [*]) | (intro _ <;> try simp +contextual (maxDischargeDepth := 40) [*]))

@[simp] theorem chamberStep_begun (a0 a1 a2 s) (h : s.begun) : (chamberStep a0 a1 a2 s).begun := by
  unfold chamberStep
  try simp +contextual (maxDischargeDepth := 40) [h]
  repeat' (first | (split <;> try simp +contextual (maxDischargeDepth := 40) [*]) | (refine foldl_begun _ _ _ (fun _ _ _ => ?_) ?_ <;> try simp +contextual (maxDischargeDepth := 40) [*]) | (refine orRefuse_begun _ _ _ _ _ _ ?_ (fun _ _ _ => ?_) <;> try simp +contextual (maxDischargeDepth := 40) [*]))

@[simp] theorem recordEnd_begun (a0 a1 a2 s) (h : s.begun) : (recordEnd a0 a1 a2 s).begun := by
  unfold recordEnd
  try simp +contextual (maxDischargeDepth := 40) [h]
  repeat' (first | (split <;> try simp +contextual (maxDischargeDepth := 40) [*]) | (refine foldl_begun _ _ _ (fun _ _ _ => ?_) ?_ <;> try simp +contextual (maxDischargeDepth := 40) [*]) | (refine orRefuse_begun _ _ _ _ _ _ ?_ (fun _ _ _ => ?_) <;> try simp +contextual (maxDischargeDepth := 40) [*]))

@[simp] theorem returnParked_begun (a0 a1 s) (h : s.begun) : (returnParked a0 a1 s).begun := by
  unfold returnParked; simp +contextual (maxDischargeDepth := 40) [h]

@[simp] theorem freeGroupsOf_begun (a0 s) (h : s.begun) : (freeGroupsOf a0 s).begun := by
  unfold freeGroupsOf
  try simp +contextual (maxDischargeDepth := 40) [h]
  repeat' (first | (split <;> try simp +contextual (maxDischargeDepth := 40) [*]) | (refine foldl_begun _ _ _ (fun _ _ _ => ?_) ?_ <;> try simp +contextual (maxDischargeDepth := 40) [*]) | (refine orRefuse_begun _ _ _ _ _ _ ?_ (fun _ _ _ => ?_) <;> try simp +contextual (maxDischargeDepth := 40) [*]) | (intro _ <;> try simp +contextual (maxDischargeDepth := 40) [*]))

@[simp] theorem endTask_begun (slot task st s) (h : s.begun) : (endTask slot task st s).begun := by
  unfold endTask
  split
  · exact h
  · dsimp only
    split <;> rename_i e <;>
      have hh := begun_of_snd e (issueStamp_begun _ _ _ (returnParked_begun _ _ _ (updTask_begun _ _ _ _ (freeGroupsOf_begun _ _ h)))) <;>
      simp (maxDischargeDepth := 40) [hh]

@[simp] theorem skipAll_begun (n s) (h : s.begun) : (skipAll n s).begun := by
  induction n generalizing s with
  | zero => exact h
  | succ n ih => unfold skipAll; split <;> simp (maxDischargeDepth := 40) [ih, h]

@[simp] theorem graphEnd_begun (a0 s) (h : s.begun) : (graphEnd a0 s).begun := by
  unfold graphEnd
  try simp +contextual (maxDischargeDepth := 40) [h]
  repeat' (first | (split <;> try simp +contextual (maxDischargeDepth := 40) [*]) | (refine foldl_begun _ _ _ (fun _ _ _ => ?_) ?_ <;> try simp +contextual (maxDischargeDepth := 40) [*]) | (refine orRefuse_begun _ _ _ _ _ _ ?_ (fun _ _ _ => ?_) <;> try simp +contextual (maxDischargeDepth := 40) [*]))

@[simp] theorem markReady_begun (s) (h : s.begun) : (markReady s).begun := by
  unfold markReady; simp +contextual (maxDischargeDepth := 40) [h]

@[simp] theorem settle_begun (s) (h : s.begun) : (settle s).begun := by
  unfold settle; simp +contextual (maxDischargeDepth := 40) [h]

@[simp] theorem failPeers_begun (a0 a1 s) (h : s.begun) : (failPeers a0 a1 s).begun := by
  unfold failPeers; simp +contextual (maxDischargeDepth := 40) [h]

@[simp] theorem quiesceCheck_begun (s) (h : s.begun) : (quiesceCheck s).begun := by
  unfold quiesceCheck
  try simp +contextual (maxDischargeDepth := 40) [h]
  repeat' (first | (split <;> try simp +contextual (maxDischargeDepth := 40) [*]) | (refine foldl_begun _ _ _ (fun _ _ _ => ?_) ?_ <;> try simp +contextual (maxDischargeDepth := 40) [*]) | (refine orRefuse_begun _ _ _ _ _ _ ?_ (fun _ _ _ => ?_) <;> try simp +contextual (maxDischargeDepth := 40) [*]))

@[simp] theorem taskEndStep_begun (a0 a1 s) (h : s.begun) : (taskEndStep a0 a1 s).begun := by
  unfold taskEndStep
  try simp +contextual (maxDischargeDepth := 40) [h]
  repeat' (first | (split <;> try simp +contextual (maxDischargeDepth := 40) [*]) | (refine foldl_begun _ _ _ (fun _ _ _ => ?_) ?_ <;> try simp +contextual (maxDischargeDepth := 40) [*]) | (refine orRefuse_begun _ _ _ _ _ _ ?_ (fun _ _ _ => ?_) <;> try simp +contextual (maxDischargeDepth := 40) [*]))

@[simp] theorem reportGraph_begun (a0 a1 s) (h : s.begun) : (reportGraph a0 a1 s).begun := by
  unfold reportGraph
  try simp +contextual (maxDischargeDepth := 40) [h]
  repeat' (first | (split <;> try simp +contextual (maxDischargeDepth := 40) [*]) | (refine foldl_begun _ _ _ (fun _ _ _ => ?_) ?_ <;> try simp +contextual (maxDischargeDepth := 40) [*]) | (refine orRefuse_begun _ _ _ _ _ _ ?_ (fun _ _ _ => ?_) <;> try simp +contextual (maxDischargeDepth := 40) [*]) | (intro _ <;> try simp +contextual (maxDischargeDepth := 40) [*]))

@[simp] theorem killedReport_begun (a0 s) (h : s.begun) : (killedReport a0 s).begun := by
  unfold killedReport
  try simp +contextual (maxDischargeDepth := 40) [h]
  repeat' (first | (split <;> try simp +contextual (maxDischargeDepth := 40) [*]) | (refine foldl_begun _ _ _ (fun _ _ _ => ?_) ?_ <;> try simp +contextual (maxDischargeDepth := 40) [*]) | (refine orRefuse_begun _ _ _ _ _ _ ?_ (fun _ _ _ => ?_) <;> try simp +contextual (maxDischargeDepth := 40) [*]))

@[simp] theorem killGraph_begun (a0 a1 s) (h : s.begun) : (killGraph a0 a1 s).begun := by
  unfold killGraph
  try simp +contextual (maxDischargeDepth := 40) [h]
  repeat' (first | (split <;> try simp +contextual (maxDischargeDepth := 40) [*]) | (refine foldl_begun _ _ _ (fun _ _ _ => ?_) ?_ <;> try simp +contextual (maxDischargeDepth := 40) [*]) | (refine orRefuse_begun _ _ _ _ _ _ ?_ (fun _ _ _ => ?_) <;> try simp +contextual (maxDischargeDepth := 40) [*]))

@[simp] theorem killGraphs_begun (a0 s) (h : s.begun) : (killGraphs a0 s).begun := by
  unfold killGraphs; simp +contextual (maxDischargeDepth := 40) [h]

@[simp] theorem mailGraphSubmit_begun (a0 a1 a2 s) (h : s.begun) : (mailGraphSubmit a0 a1 a2 s).begun := by
  unfold mailGraphSubmit
  try simp +contextual (maxDischargeDepth := 40) [h]
  repeat' (first | (split <;> try simp +contextual (maxDischargeDepth := 40) [*]) | (refine foldl_begun _ _ _ (fun _ _ _ => ?_) ?_ <;> try simp +contextual (maxDischargeDepth := 40) [*]) | (refine orRefuse_begun _ _ _ _ _ _ ?_ (fun _ _ _ => ?_) <;> try simp +contextual (maxDischargeDepth := 40) [*]) | (intro _ <;> try simp +contextual (maxDischargeDepth := 40) [*]))

@[simp] theorem graphCheckDone_begun (a0 s) (h : s.begun) : (graphCheckDone a0 s).begun := by
  unfold graphCheckDone
  try simp +contextual (maxDischargeDepth := 40) [h]
  repeat' (first | (split <;> try simp +contextual (maxDischargeDepth := 40) [*]) | (refine foldl_begun _ _ _ (fun _ _ _ => ?_) ?_ <;> try simp +contextual (maxDischargeDepth := 40) [*]) | (refine orRefuse_begun _ _ _ _ _ _ ?_ (fun _ _ _ => ?_) <;> try simp +contextual (maxDischargeDepth := 40) [*]))

@[simp] theorem cancelGraph_begun (a0 s) (h : s.begun) : (cancelGraph a0 s).begun := by
  unfold cancelGraph
  try simp +contextual (maxDischargeDepth := 40) [h]
  repeat' (first | (split <;> try simp +contextual (maxDischargeDepth := 40) [*]) | (refine foldl_begun _ _ _ (fun _ _ _ => ?_) ?_ <;> try simp +contextual (maxDischargeDepth := 40) [*]) | (refine orRefuse_begun _ _ _ _ _ _ ?_ (fun _ _ _ => ?_) <;> try simp +contextual (maxDischargeDepth := 40) [*]))

@[simp] theorem mailGraphCancel_begun (a0 a1 a2 s) (h : s.begun) : (mailGraphCancel a0 a1 a2 s).begun := by
  unfold mailGraphCancel
  try simp +contextual (maxDischargeDepth := 40) [h]
  repeat' (first | (split <;> try simp +contextual (maxDischargeDepth := 40) [*]) | (refine foldl_begun _ _ _ (fun _ _ _ => ?_) ?_ <;> try simp +contextual (maxDischargeDepth := 40) [*]) | (refine orRefuse_begun _ _ _ _ _ _ ?_ (fun _ _ _ => ?_) <;> try simp +contextual (maxDischargeDepth := 40) [*]))

@[simp] theorem admitTask_begun (a0 a1 s) (h : s.begun) : (admitTask a0 a1 s).begun := by
  exact h

@[simp] theorem admissionStep_begun (a0 s) (h : s.begun) : (admissionStep a0 s).begun := by
  unfold admissionStep
  try simp +contextual (maxDischargeDepth := 40) [h]
  repeat' (first | (split <;> try simp +contextual (maxDischargeDepth := 40) [*]) | (refine foldl_begun _ _ _ (fun _ _ _ => ?_) ?_ <;> try simp +contextual (maxDischargeDepth := 40) [*]) | (refine orRefuse_begun _ _ _ _ _ _ ?_ (fun _ _ _ => ?_) <;> try simp +contextual (maxDischargeDepth := 40) [*]))

@[simp] theorem taskRebindStep_begun (a0 a1 s) (h : s.begun) : (taskRebindStep a0 a1 s).begun := by
  unfold taskRebindStep
  try simp +contextual (maxDischargeDepth := 40) [h]
  repeat' (first | (split <;> try simp +contextual (maxDischargeDepth := 40) [*]) | (refine foldl_begun _ _ _ (fun _ _ _ => ?_) ?_ <;> try simp +contextual (maxDischargeDepth := 40) [*]) | (refine orRefuse_begun _ _ _ _ _ _ ?_ (fun _ _ _ => ?_) <;> try simp +contextual (maxDischargeDepth := 40) [*]))

@[simp] theorem cogroupRebindStep_begun (a0 a1 s) (h : s.begun) : (cogroupRebindStep a0 a1 s).begun := by
  unfold cogroupRebindStep
  try simp +contextual (maxDischargeDepth := 40) [h]
  repeat' (first | (split <;> try simp +contextual (maxDischargeDepth := 40) [*]) | (refine foldl_begun _ _ _ (fun _ _ _ => ?_) ?_ <;> try simp +contextual (maxDischargeDepth := 40) [*]) | (refine orRefuse_begun _ _ _ _ _ _ ?_ (fun _ _ _ => ?_) <;> try simp +contextual (maxDischargeDepth := 40) [*]))

@[simp] theorem startTask_begun (a0 a1 a2 s) (h : s.begun) : (startTask a0 a1 a2 s).begun := by
  unfold startTask
  try simp (maxDischargeDepth := 40) [h]
  repeat' (first | (split <;> try simp (maxDischargeDepth := 40) [*]) | (refine foldl_begun _ _ _ (fun _ _ _ => ?_) ?_ <;> try simp (maxDischargeDepth := 40) [*]) | (refine orRefuse_begun _ _ _ _ _ _ ?_ (fun _ _ _ => ?_) <;> try simp +contextual (maxDischargeDepth := 40) [*]))

@[simp] theorem taskReleaseStep_begun (a0 s) (h : s.begun) : (taskReleaseStep a0 s).begun := by
  unfold taskReleaseStep
  try simp +contextual (maxDischargeDepth := 40) [h]
  repeat' (first | (split <;> try simp +contextual (maxDischargeDepth := 40) [*]) | (refine foldl_begun _ _ _ (fun _ _ _ => ?_) ?_ <;> try simp +contextual (maxDischargeDepth := 40) [*]) | (refine orRefuse_begun _ _ _ _ _ _ ?_ (fun _ _ _ => ?_) <;> try simp +contextual (maxDischargeDepth := 40) [*]))

@[simp] theorem cogroupReleaseStep_begun (a0 a1 s) (h : s.begun) : (cogroupReleaseStep a0 a1 s).begun := by
  unfold cogroupReleaseStep
  try simp +contextual (maxDischargeDepth := 40) [h]
  repeat' (first | (split <;> try simp +contextual (maxDischargeDepth := 40) [*]) | (refine foldl_begun _ _ _ (fun _ _ _ => ?_) ?_ <;> try simp +contextual (maxDischargeDepth := 40) [*]) | (refine orRefuse_begun _ _ _ _ _ _ ?_ (fun _ _ _ => ?_) <;> try simp +contextual (maxDischargeDepth := 40) [*]))

@[simp] theorem headStarveStep_begun (a0 s) (h : s.begun) : (headStarveStep a0 s).begun := by
  unfold headStarveStep
  try simp +contextual (maxDischargeDepth := 40) [h]
  repeat' (first | (split <;> try simp +contextual (maxDischargeDepth := 40) [*]) | (refine foldl_begun _ _ _ (fun _ _ _ => ?_) ?_ <;> try simp +contextual (maxDischargeDepth := 40) [*]) | (refine orRefuse_begun _ _ _ _ _ _ ?_ (fun _ _ _ => ?_) <;> try simp +contextual (maxDischargeDepth := 40) [*]))

@[simp] theorem cogroupHangStep_begun (a0 a1 s) (h : s.begun) : (cogroupHangStep a0 a1 s).begun := by
  unfold cogroupHangStep
  try simp +contextual (maxDischargeDepth := 40) [h]
  repeat' (first | (split <;> try simp +contextual (maxDischargeDepth := 40) [*]) | (refine foldl_begun _ _ _ (fun _ _ _ => ?_) ?_ <;> try simp +contextual (maxDischargeDepth := 40) [*]) | (refine orRefuse_begun _ _ _ _ _ _ ?_ (fun _ _ _ => ?_) <;> try simp +contextual (maxDischargeDepth := 40) [*]))

@[simp] theorem deadlineStep_begun (s) (h : s.begun) : (deadlineStep s).begun := by
  unfold deadlineStep; simp (maxDischargeDepth := 40) [h]

@[simp] theorem thresholdStep_begun (s) (h : s.begun) : (thresholdStep s).begun := by
  unfold thresholdStep; simp (maxDischargeDepth := 40) [h]

@[simp] theorem cutStep_begun (s) (h : s.begun) : (cutStep s).begun := by
  unfold cutStep
  try simp +contextual (maxDischargeDepth := 40) [h]
  repeat' (first | (split <;> try simp +contextual (maxDischargeDepth := 40) [*]) | (refine foldl_begun _ _ _ (fun _ _ _ => ?_) ?_ <;> try simp +contextual (maxDischargeDepth := 40) [*]) | (refine orRefuse_begun _ _ _ _ _ _ ?_ (fun _ _ _ => ?_) <;> try simp +contextual (maxDischargeDepth := 40) [*]))

@[simp] theorem drainStep_begun (s) (h : s.begun) : (drainStep s).begun := by
  unfold drainStep
  try simp +contextual (maxDischargeDepth := 40) [h]
  repeat' (first | (split <;> try simp +contextual (maxDischargeDepth := 40) [*]) | (refine foldl_begun _ _ _ (fun _ _ _ => ?_) ?_ <;> try simp +contextual (maxDischargeDepth := 40) [*]) | (refine orRefuse_begun _ _ _ _ _ _ ?_ (fun _ _ _ => ?_) <;> try simp +contextual (maxDischargeDepth := 40) [*]))

@[simp] theorem drainLateStep_begun (s) (h : s.begun) : (drainLateStep s).begun := by
  unfold drainLateStep
  try simp +contextual (maxDischargeDepth := 40) [h]
  repeat' (first | (split <;> try simp +contextual (maxDischargeDepth := 40) [*]) | (refine foldl_begun _ _ _ (fun _ _ _ => ?_) ?_ <;> try simp +contextual (maxDischargeDepth := 40) [*]) | (refine orRefuse_begun _ _ _ _ _ _ ?_ (fun _ _ _ => ?_) <;> try simp +contextual (maxDischargeDepth := 40) [*]))

@[simp] theorem verdictStep_begun (s) (h : s.begun) : (verdictStep s).begun := by
  unfold verdictStep
  try simp +contextual (maxDischargeDepth := 40) [h]
  repeat' (first | (split <;> try simp +contextual (maxDischargeDepth := 40) [*]) | (refine foldl_begun _ _ _ (fun _ _ _ => ?_) ?_ <;> try simp +contextual (maxDischargeDepth := 40) [*]) | (refine orRefuse_begun _ _ _ _ _ _ ?_ (fun _ _ _ => ?_) <;> try simp +contextual (maxDischargeDepth := 40) [*]))

@[simp] theorem addPreImage_begun (a0 a1 a2 a3 s) (h : s.begun) : (addPreImage a0 a1 a2 a3 s).begun := by
  exact h

@[simp] theorem keepPreImages_begun (a0 a1 s) (h : s.begun) : (keepPreImages a0 a1 s).begun := by
  unfold keepPreImages
  try simp +contextual (maxDischargeDepth := 40) [h]
  repeat' (first | (split <;> try simp +contextual (maxDischargeDepth := 40) [*]) | (refine foldl_begun _ _ _ (fun _ _ _ => ?_) ?_ <;> try simp +contextual (maxDischargeDepth := 40) [*]) | (refine orRefuse_begun _ _ _ _ _ _ ?_ (fun _ _ _ => ?_) <;> try simp +contextual (maxDischargeDepth := 40) [*]) | (intro _ <;> try simp +contextual (maxDischargeDepth := 40) [*]))

@[simp] theorem pinPage_begun (a0 a1 s) (h : s.begun) : (pinPage a0 a1 s).begun := by
  unfold pinPage; simp (maxDischargeDepth := 40) [h]

@[simp] theorem pinAll_begun (a0 s) (h : s.begun) : (pinAll a0 s).begun := by
  unfold pinAll
  try simp +contextual (maxDischargeDepth := 40) [h]
  repeat' (first | (split <;> try simp +contextual (maxDischargeDepth := 40) [*]) | (refine foldl_begun _ _ _ (fun _ _ _ => ?_) ?_ <;> try simp +contextual (maxDischargeDepth := 40) [*]) | (refine orRefuse_begun _ _ _ _ _ _ ?_ (fun _ _ _ => ?_) <;> try simp +contextual (maxDischargeDepth := 40) [*]))

@[simp] theorem fitPins_begun (n s) (h : s.begun) : (fitPins n s).begun := by
  induction n generalizing s with
  | zero => exact h
  | succ n ih => unfold fitPins; split; · exact h
                 split <;> simp (maxDischargeDepth := 40) [ih, h]

@[simp] theorem newPoison_begun (a0 s) (h : s.begun) : (newPoison a0 s).begun := by
  exact h

@[simp] theorem freePages_begun (s) (h : s.begun) : (freePages s).begun := by
  unfold freePages
  try simp +contextual (maxDischargeDepth := 40) [h]
  repeat' (first | (split <;> try simp +contextual (maxDischargeDepth := 40) [*]) | (refine foldl_begun _ _ _ (fun _ _ _ => ?_) ?_ <;> try simp +contextual (maxDischargeDepth := 40) [*]) | (refine orRefuse_begun _ _ _ _ _ _ ?_ (fun _ _ _ => ?_) <;> try simp +contextual (maxDischargeDepth := 40) [*]) | (intro _ <;> try simp +contextual (maxDischargeDepth := 40) [*]))

@[simp] theorem advance_begun (a0 a1 s) (h : s.begun) : (advance a0 a1 s).begun := by
  unfold advance; simp [h]

@[simp] theorem commitReport_begun (a0 a1 s) (h : s.begun) : (commitReport a0 a1 s).begun := by
  unfold commitReport
  try simp +contextual (maxDischargeDepth := 40) [h]
  repeat' (first | (split <;> try simp +contextual (maxDischargeDepth := 40) [*]) | (refine foldl_begun _ _ _ (fun _ _ _ => ?_) ?_ <;> try simp +contextual (maxDischargeDepth := 40) [*]) | (refine orRefuse_begun _ _ _ _ _ _ ?_ (fun _ _ _ => ?_) <;> try simp +contextual (maxDischargeDepth := 40) [*]))

@[simp] theorem bargesAfter_begun (a0 a1 s) (h : s.begun) : (bargesAfter a0 a1 s).begun := by
  unfold bargesAfter; simp +contextual (maxDischargeDepth := 40) [h]

@[simp] theorem torusAfter_begun (a0 s) (h : s.begun) : (torusAfter a0 s).begun := by
  unfold torusAfter; simp +contextual (maxDischargeDepth := 40) [h]

@[simp] theorem inStepAfter_begun (a0 s) (h : s.begun) : (inStepAfter a0 s).begun := by
  unfold inStepAfter
  try simp +contextual (maxDischargeDepth := 40) [h]
  repeat' (first | (split <;> try simp +contextual (maxDischargeDepth := 40) [*]) | (refine foldl_begun _ _ _ (fun _ _ _ => ?_) ?_ <;> try simp +contextual (maxDischargeDepth := 40) [*]) | (refine orRefuse_begun _ _ _ _ _ _ ?_ (fun _ _ _ => ?_) <;> try simp +contextual (maxDischargeDepth := 40) [*]))

@[simp] theorem joinAfter_begun (a0 a1 s) (h : s.begun) : (joinAfter a0 a1 s).begun := by
  unfold joinAfter; simp (maxDischargeDepth := 40) [h]

@[simp] theorem takeNextJoin_begun (a0 a1 a2 s) (h : s.begun) : (takeNextJoin a0 a1 a2 s).begun := by
  unfold takeNextJoin
  try simp +contextual (maxDischargeDepth := 40) [h]
  repeat' (first | (split <;> try simp +contextual (maxDischargeDepth := 40) [*]) | (refine foldl_begun _ _ _ (fun _ _ _ => ?_) ?_ <;> try simp +contextual (maxDischargeDepth := 40) [*]) | (refine orRefuse_begun _ _ _ _ _ _ ?_ (fun _ _ _ => ?_) <;> try simp +contextual (maxDischargeDepth := 40) [*]) | (intro _ <;> try simp +contextual (maxDischargeDepth := 40) [*]))

@[simp] theorem takeNextCut_begun (a0 s) (h : s.begun) : (takeNextCut a0 s).begun := by
  unfold takeNextCut
  try simp +contextual (maxDischargeDepth := 40) [h]
  repeat' (first | (split <;> try simp +contextual (maxDischargeDepth := 40) [*]) | (refine foldl_begun _ _ _ (fun _ _ _ => ?_) ?_ <;> try simp +contextual (maxDischargeDepth := 40) [*]) | (refine orRefuse_begun _ _ _ _ _ _ ?_ (fun _ _ _ => ?_) <;> try simp +contextual (maxDischargeDepth := 40) [*]))

@[simp] theorem openNext_begun (a0 s) (h : s.begun) : (openNext a0 s).begun := by
  unfold openNext; simp (maxDischargeDepth := 40) [h]

@[simp] theorem haltPair_begun (s) (h : s.begun) : (haltPair s).begun := by
  exact h

@[simp] theorem haltAfter_begun (s) (h : s.begun) : (haltAfter s).begun := by
  unfold haltAfter; simp +contextual (maxDischargeDepth := 40) [h]

@[simp] theorem commitStep_begun (s) (h : s.begun) : (commitStep s).begun := by
  unfold commitStep
  try simp +contextual (maxDischargeDepth := 40) [h]
  repeat' (first | (split <;> try simp +contextual (maxDischargeDepth := 40) [*]) | (refine foldl_begun _ _ _ (fun _ _ _ => ?_) ?_ <;> try simp +contextual (maxDischargeDepth := 40) [*]) | (refine orRefuse_begun _ _ _ _ _ _ ?_ (fun _ _ _ => ?_) <;> try simp +contextual (maxDischargeDepth := 40) [*]) | (intro _ <;> try simp +contextual (maxDischargeDepth := 40) [*]))

@[simp] theorem rollTask_begun (a0 s) (h : s.begun) : (rollTask a0 s).begun := by
  unfold rollTask
  try simp +contextual (maxDischargeDepth := 40) [h]
  repeat' (first | (split <;> try simp +contextual (maxDischargeDepth := 40) [*]) | (refine foldl_begun _ _ _ (fun _ _ _ => ?_) ?_ <;> try simp +contextual (maxDischargeDepth := 40) [*]) | (refine orRefuse_begun _ _ _ _ _ _ ?_ (fun _ _ _ => ?_) <;> try simp +contextual (maxDischargeDepth := 40) [*]))

@[simp] theorem rollMessages_begun (a0 s) (h : s.begun) : (rollMessages a0 s).begun := by
  exact h

@[simp] theorem rollWrites_begun (a0 s) (h : s.begun) : (rollWrites a0 s).begun := by
  exact h

@[simp] theorem rollBarges_begun (a0 s) (h : s.begun) : (rollBarges a0 s).begun := by
  exact h

@[simp] theorem rollTorus_begun (a0 s) (h : s.begun) : (rollTorus a0 s).begun := by
  unfold rollTorus; simp +contextual (maxDischargeDepth := 40) [h]

@[simp] theorem fallBehind_begun (a0 s) (h : s.begun) : (fallBehind a0 s).begun := by
  exact h

@[simp] theorem faultGraphs_begun (a0 a1 s) (h : s.begun) : (faultGraphs a0 a1 s).begun := by
  unfold faultGraphs; simp +contextual (maxDischargeDepth := 40) [h]

@[simp] theorem unready_begun (s) (h : s.begun) : (unready s).begun := by
  unfold unready; simp +contextual (maxDischargeDepth := 40) [h]

@[simp] theorem faultStep_begun (s) (h : s.begun) : (faultStep s).begun := by
  unfold faultStep
  split
  · exact h
  · split
    · exact h
    · dsimp only
      have e : ∀ m (t : State), t.begun → (rollTorus m (rollWrites m (rollBarges m t))).begun := fun m t ht =>
        rollTorus_begun _ _ (rollWrites_begun _ _ (rollBarges_begun _ _ ht))
      have f : ∀ (l : List (Nat × Nat)) (t : State), t.begun → (rollMessages l (l.foldl (fun s x => rollTask x s) t)).begun :=
        fun l t ht => rollMessages_begun _ _ (foldl_begun _ _ _ (fun s x h => rollTask_begun _ _ h) ht)
      have g : ∀ (c : Prop) [Decidable c] (b : Bool), (if c then fallBehind b s else s).begun := fun c _ b => by
        split
        · exact fallBehind_begun _ _ h
        · exact h
      have w : ∀ (c : Prop) [Decidable c] (n : Nat) (l : List (Nat × Nat)) (t : State), t.begun →
          (if c then faultGraphs n l t else t).begun := fun c _ n l t ht => by
        split
        · exact faultGraphs_begun _ _ _ ht
        · exact ht
      refine unready_begun _ (w _ _ _ _ ?_)
      rw [begun_mk]
      apply begun_field
      split
      · exact f _ _ (e _ _ (g _ _))
      · exact e _ _ (g _ _)

@[simp] theorem returnStep_begun (s) (h : s.begun) : (returnStep s).begun := by
  unfold returnStep
  try simp +contextual (maxDischargeDepth := 40) [h]
  repeat' (first | (split <;> try simp +contextual (maxDischargeDepth := 40) [*]) | (refine foldl_begun _ _ _ (fun _ _ _ => ?_) ?_ <;> try simp +contextual (maxDischargeDepth := 40) [*]) | (refine orRefuse_begun _ _ _ _ _ _ ?_ (fun _ _ _ => ?_) <;> try simp +contextual (maxDischargeDepth := 40) [*]) | (intro _ <;> try simp +contextual (maxDischargeDepth := 40) [*]))

@[simp] theorem rewindBarges_begun (s) (h : s.begun) : (rewindBarges s).begun := by
  unfold rewindBarges; simp +contextual (maxDischargeDepth := 40) [h]

@[simp] theorem rewrites_begun (a0 s) (h : s.begun) : (rewrites a0 s).begun := by
  unfold rewrites
  try simp +contextual (maxDischargeDepth := 40) [h]
  repeat' (first | (split <;> try simp +contextual (maxDischargeDepth := 40) [*]) | (refine foldl_begun _ _ _ (fun _ _ _ => ?_) ?_ <;> try simp +contextual (maxDischargeDepth := 40) [*]) | (refine orRefuse_begun _ _ _ _ _ _ ?_ (fun _ _ _ => ?_) <;> try simp +contextual (maxDischargeDepth := 40) [*]))

@[simp] theorem reRecord_begun (s) (h : s.begun) : (reRecord s).begun := by
  unfold reRecord
  refine foldl_begun _ _ _ (fun s x h => ?_) h
  split <;> rename_i e <;> have hh := begun_of_snd e (issueStamp_begun _ _ _ h) <;> simp (maxDischargeDepth := 40) [hh]

@[simp] theorem replayStep_begun (s) (h : s.begun) : (replayStep s).begun := by
  unfold replayStep
  try simp +contextual (maxDischargeDepth := 40) [h]
  repeat' (first | (split <;> try simp +contextual (maxDischargeDepth := 40) [*]) | (refine foldl_begun _ _ _ (fun _ _ _ => ?_) ?_ <;> try simp +contextual (maxDischargeDepth := 40) [*]) | (refine orRefuse_begun _ _ _ _ _ _ ?_ (fun _ _ _ => ?_) <;> try simp +contextual (maxDischargeDepth := 40) [*]))

@[simp] theorem countSent_begun (a0 a1 s) (h : s.begun) : (countSent a0 a1 s).begun := by
  unfold countSent; simp [h]

@[simp] theorem forwardWrite_begun (a0 a1 a2 a3 a4 s) (h : s.begun) : (forwardWrite a0 a1 a2 a3 a4 s).begun := by
  unfold forwardWrite; simp +contextual (maxDischargeDepth := 40) [h]

@[simp] theorem dropWrite_begun (a0 s) (h : s.begun) : (dropWrite a0 s).begun := by
  exact h

@[simp] theorem torusArrival_begun (a0 a1 a2 a3 a4 a5 s) (h : s.begun) : (torusArrival a0 a1 a2 a3 a4 a5 s).begun := by
  unfold torusArrival; simp (maxDischargeDepth := 40) [h]

@[simp] theorem countLate_begun (a0 a1 s) (h : s.begun) : (countLate a0 a1 s).begun := by
  unfold countLate; simp [h]

@[simp] theorem holdWrite_begun (a0 a1 s) (h : s.begun) : (holdWrite a0 a1 s).begun := by
  exact h

@[simp] theorem berthArrival_begun (a0 a1 a2 a3 s) (h : s.begun) : (berthArrival a0 a1 a2 a3 s).begun := by
  unfold berthArrival
  try simp +contextual (maxDischargeDepth := 40) [h]
  repeat' (first | (split <;> try simp +contextual (maxDischargeDepth := 40) [*]) | (refine foldl_begun _ _ _ (fun _ _ _ => ?_) ?_ <;> try simp +contextual (maxDischargeDepth := 40) [*]) | (refine orRefuse_begun _ _ _ _ _ _ ?_ (fun _ _ _ => ?_) <;> try simp +contextual (maxDischargeDepth := 40) [*]) | (intro _ <;> try simp +contextual (maxDischargeDepth := 40) [*]))

@[simp] theorem writeArrival_begun (a0 s) (h : s.begun) : (writeArrival a0 s).begun := by
  unfold writeArrival
  try simp +contextual (maxDischargeDepth := 40) [h]
  repeat' (first | (split <;> try simp +contextual (maxDischargeDepth := 40) [*]) | (refine foldl_begun _ _ _ (fun _ _ _ => ?_) ?_ <;> try simp +contextual (maxDischargeDepth := 40) [*]) | (refine orRefuse_begun _ _ _ _ _ _ ?_ (fun _ _ _ => ?_) <;> try simp +contextual (maxDischargeDepth := 40) [*]))

@[simp] theorem reorderStep_begun (a0 s) (h : s.begun) : (reorderStep a0 s).begun := by
  unfold reorderStep
  try simp +contextual (maxDischargeDepth := 40) [h]
  repeat' (first | (split <;> try simp +contextual (maxDischargeDepth := 40) [*]) | (refine foldl_begun _ _ _ (fun _ _ _ => ?_) ?_ <;> try simp +contextual (maxDischargeDepth := 40) [*]) | (refine orRefuse_begun _ _ _ _ _ _ ?_ (fun _ _ _ => ?_) <;> try simp +contextual (maxDischargeDepth := 40) [*]))

@[simp] theorem copyStep_begun (a0 s) (h : s.begun) : (copyStep a0 s).begun := by
  unfold copyStep
  try simp +contextual (maxDischargeDepth := 40) [h]
  repeat' (first | (split <;> try simp +contextual (maxDischargeDepth := 40) [*]) | (refine foldl_begun _ _ _ (fun _ _ _ => ?_) ?_ <;> try simp +contextual (maxDischargeDepth := 40) [*]) | (refine orRefuse_begun _ _ _ _ _ _ ?_ (fun _ _ _ => ?_) <;> try simp +contextual (maxDischargeDepth := 40) [*]))

@[simp] theorem poolResumeStep_begun (a0 s) (h : s.begun) : (poolResumeStep a0 s).begun := by
  unfold poolResumeStep
  try simp +contextual (maxDischargeDepth := 40) [h]
  repeat' (first | (split <;> try simp +contextual (maxDischargeDepth := 40) [*]) | (refine foldl_begun _ _ _ (fun _ _ _ => ?_) ?_ <;> try simp +contextual (maxDischargeDepth := 40) [*]) | (refine orRefuse_begun _ _ _ _ _ _ ?_ (fun _ _ _ => ?_) <;> try simp +contextual (maxDischargeDepth := 40) [*]))

@[simp] theorem answerTorusRead_begun (a0 a1 a2 a3 a4 s) (h : s.begun) : (answerTorusRead a0 a1 a2 a3 a4 s).begun := by
  unfold answerTorusRead; simp +contextual (maxDischargeDepth := 40) [h]

@[simp] theorem sendRead_begun (a0 a1 a2 a3 s) (h : s.begun) : (sendRead a0 a1 a2 a3 s).begun := by
  unfold sendRead; simp [h]

@[simp] theorem forwardRead_begun (a0 a1 a2 a3 s) (h : s.begun) : (forwardRead a0 a1 a2 a3 s).begun := by
  unfold forwardRead; simp (maxDischargeDepth := 40) [h]

@[simp] theorem readAnswer_begun (a0 a1 a2 a3 a4 s) (h : s.begun) : (readAnswer a0 a1 a2 a3 a4 s).begun := by
  unfold readAnswer
  try simp +contextual (maxDischargeDepth := 40) [h]
  repeat' (first | (split <;> try simp +contextual (maxDischargeDepth := 40) [*]) | (refine foldl_begun _ _ _ (fun _ _ _ => ?_) ?_ <;> try simp +contextual (maxDischargeDepth := 40) [*]) | (refine orRefuse_begun _ _ _ _ _ _ ?_ (fun _ _ _ => ?_) <;> try simp +contextual (maxDischargeDepth := 40) [*]) | (intro _ <;> try simp +contextual (maxDischargeDepth := 40) [*]))

@[simp] theorem serveRead_begun (a0 a1 s) (h : s.begun) : (serveRead a0 a1 s).begun := by
  unfold serveRead
  try simp +contextual (maxDischargeDepth := 40) [h]
  repeat' (first | (split <;> try simp +contextual (maxDischargeDepth := 40) [*]) | (refine foldl_begun _ _ _ (fun _ _ _ => ?_) ?_ <;> try simp +contextual (maxDischargeDepth := 40) [*]) | (refine orRefuse_begun _ _ _ _ _ _ ?_ (fun _ _ _ => ?_) <;> try simp +contextual (maxDischargeDepth := 40) [*]) | (intro _ <;> try simp +contextual (maxDischargeDepth := 40) [*]))

@[simp] theorem readStep_begun (a0 a1 s) (h : s.begun) : (readStep a0 a1 s).begun := by
  unfold readStep
  try simp +contextual (maxDischargeDepth := 40) [h]
  repeat' (first | (split <;> try simp +contextual (maxDischargeDepth := 40) [*]) | (refine foldl_begun _ _ _ (fun _ _ _ => ?_) ?_ <;> try simp +contextual (maxDischargeDepth := 40) [*]) | (refine orRefuse_begun _ _ _ _ _ _ ?_ (fun _ _ _ => ?_) <;> try simp +contextual (maxDischargeDepth := 40) [*]) | (intro _ <;> try simp +contextual (maxDischargeDepth := 40) [*]))

@[simp] theorem refreshStep_begun (a0 a1 a2 s) (h : s.begun) : (refreshStep a0 a1 a2 s).begun := by
  unfold refreshStep; split <;> simp [h]

@[simp] theorem calibCount_begun (a0 a1 a2 s) (h : s.begun) : (calibCount a0 a1 a2 s).begun := by
  unfold calibCount; simp (maxDischargeDepth := 40) [h]

@[simp] theorem trackStep_begun (a0 a1 a2 s) (h : s.begun) : (trackStep a0 a1 a2 s).begun := by
  unfold trackStep; simp (maxDischargeDepth := 40) [h]

@[simp] theorem trackAll_begun (s) (h : s.begun) : (trackAll s).begun := by
  unfold trackAll; simp +contextual (maxDischargeDepth := 40) [h]

@[simp] theorem patrolStep_begun (a0 a1 a2 s) (h : s.begun) : (patrolStep a0 a1 a2 s).begun := by
  unfold patrolStep
  try simp +contextual (maxDischargeDepth := 40) [h]
  repeat' (first | (split <;> try simp +contextual (maxDischargeDepth := 40) [*]) | (refine foldl_begun _ _ _ (fun _ _ _ => ?_) ?_ <;> try simp +contextual (maxDischargeDepth := 40) [*]) | (refine orRefuse_begun _ _ _ _ _ _ ?_ (fun _ _ _ => ?_) <;> try simp +contextual (maxDischargeDepth := 40) [*]) | (intro _ <;> try simp +contextual (maxDischargeDepth := 40) [*]))

@[simp] theorem lockIfClose_begun (s) (h : s.begun) : (lockIfClose s).begun := by
  unfold lockIfClose; simp [h]

@[simp] theorem countTick_begun (s) (h : s.begun) : (countTick s).begun := by
  unfold countTick; simp (maxDischargeDepth := 40) [h]

@[simp] theorem timersTick_begun (s) (h : s.begun) : (timersTick s).begun := by
  exact h

@[simp] theorem copiesTick_begun (a0 s) (h : s.begun) : (copiesTick a0 s).begun := by
  exact h

@[simp] theorem fabricTick_begun (s) (h : s.begun) : (fabricTick s).begun := by
  unfold fabricTick; simp [h]

@[simp] theorem tickStep_begun (s) (h : s.begun) : (tickStep s).begun := by
  unfold tickStep; simp (maxDischargeDepth := 40) [h]

@[simp] theorem pauseSerials_begun (a0 a1 s) (h : s.begun) : (pauseSerials a0 a1 s).2.begun := by
  unfold pauseSerials
  try simp +contextual (maxDischargeDepth := 40) [h]
  repeat' (first | (split <;> try simp +contextual (maxDischargeDepth := 40) [*]) | (refine foldl_begun _ _ _ (fun _ _ _ => ?_) ?_ <;> try simp +contextual (maxDischargeDepth := 40) [*]) | (refine orRefuse_begun _ _ _ _ _ _ ?_ (fun _ _ _ => ?_) <;> try simp +contextual (maxDischargeDepth := 40) [*]))

@[simp] theorem pauseEvent_begun (a0 a1 a2 a3 s) (h : s.begun) : (pauseEvent a0 a1 a2 a3 s).begun := by
  unfold pauseEvent; simp [h]

@[simp] theorem giveStamp_begun (a0 a1 s) (h : s.begun) : (giveStamp a0 a1 s).begun := by
  unfold giveStamp
  try simp +contextual (maxDischargeDepth := 40) [h]
  repeat' (first | (split <;> try simp +contextual (maxDischargeDepth := 40) [*]) | (refine foldl_begun _ _ _ (fun _ _ _ => ?_) ?_ <;> try simp +contextual (maxDischargeDepth := 40) [*]) | (refine orRefuse_begun _ _ _ _ _ _ ?_ (fun _ _ _ => ?_) <;> try simp +contextual (maxDischargeDepth := 40) [*]) | (intro _ <;> try simp +contextual (maxDischargeDepth := 40) [*]))

@[simp] theorem releaseHeld_begun (b n s) (h : s.begun) : (releaseHeld b n s).begun := by
  induction n generalizing s with
  | zero => exact h
  | succ n ih =>
    unfold releaseHeld
    dsimp only
    split
    · exact h
    · split
      · exact ih _ (giveStamp_begun _ _ _ rfl)
      · exact h

@[simp] theorem replicaStep_begun (a0 a1 s) (h : s.begun) : (replicaStep a0 a1 s).begun := by
  unfold replicaStep; simp (maxDischargeDepth := 40) [h]

@[simp] theorem loadCopies_begun (s) (h : s.begun) : (loadCopies s).begun := by
  exact h

@[simp] theorem applyOffset_begun (a0 s) (h : s.begun) : (applyOffset a0 s).begun := by
  unfold applyOffset; simp [h]

@[simp] theorem timingSend_begun (a0 a1 s) (h : s.begun) : (timingSend a0 a1 s).begun := by
  unfold timingSend; simp (maxDischargeDepth := 40) [h]

@[simp] theorem takeMaster_begun (a0 s) (h : s.begun) : (takeMaster a0 s).begun := by
  unfold takeMaster; simp (maxDischargeDepth := 40) [h]

@[simp] theorem becomeMaster_begun (s) (h : s.begun) : (becomeMaster s).begun := by
  unfold becomeMaster; simp (maxDischargeDepth := 40) [h]

@[simp] theorem learnMaster_begun (a0 s) (h : s.begun) : (learnMaster a0 s).begun := by
  unfold learnMaster; simp [h]

@[simp] theorem timingReceive_begun (a0 a1 a2 a3 a4 a5 s) (h : s.begun) : (timingReceive a0 a1 a2 a3 a4 a5 s).begun := by
  unfold timingReceive
  try simp +contextual (maxDischargeDepth := 40) [h]
  repeat' (first | (split <;> try simp +contextual (maxDischargeDepth := 40) [*]) | (refine foldl_begun _ _ _ (fun _ _ _ => ?_) ?_ <;> try simp +contextual (maxDischargeDepth := 40) [*]) | (refine orRefuse_begun _ _ _ _ _ _ ?_ (fun _ _ _ => ?_) <;> try simp +contextual (maxDischargeDepth := 40) [*]))

@[simp] theorem ptpStep_begun (a0 a1 a2 s) (h : s.begun) : (ptpStep a0 a1 a2 s).begun := by
  unfold ptpStep
  try simp +contextual (maxDischargeDepth := 40) [h]
  repeat' (first | (split <;> try simp +contextual (maxDischargeDepth := 40) [*]) | (refine foldl_begun _ _ _ (fun _ _ _ => ?_) ?_ <;> try simp +contextual (maxDischargeDepth := 40) [*]) | (refine orRefuse_begun _ _ _ _ _ _ ?_ (fun _ _ _ => ?_) <;> try simp +contextual (maxDischargeDepth := 40) [*]))

@[simp] theorem scheduleStep_begun (a0 s) (h : s.begun) : (scheduleStep a0 s).begun := by
  unfold scheduleStep; simp (maxDischargeDepth := 40) [h]

@[simp] theorem sendAvs_begun (a0 a1 a2 s) (h : s.begun) : (sendAvs a0 a1 a2 s).begun := by
  exact h

@[simp] theorem setChange_begun (a0 a1 s) (h : s.begun) : (setChange a0 a1 s).begun := by
  exact h

@[simp] theorem stepStart_begun (a0 s) (h : s.begun) : (stepStart a0 s).begun := by
  unfold stepStart
  try simp +contextual (maxDischargeDepth := 40) [h]
  repeat' (first | (split <;> try simp +contextual (maxDischargeDepth := 40) [*]) | (refine foldl_begun _ _ _ (fun _ _ _ => ?_) ?_ <;> try simp +contextual (maxDischargeDepth := 40) [*]) | (refine orRefuse_begun _ _ _ _ _ _ ?_ (fun _ _ _ => ?_) <;> try simp +contextual (maxDischargeDepth := 40) [*]))

@[simp] theorem changeDone_begun (a0 s) (h : s.begun) : (changeDone a0 s).begun := by
  unfold changeDone
  try simp +contextual (maxDischargeDepth := 40) [h]
  repeat' (first | (split <;> try simp +contextual (maxDischargeDepth := 40) [*]) | (refine foldl_begun _ _ _ (fun _ _ _ => ?_) ?_ <;> try simp +contextual (maxDischargeDepth := 40) [*]) | (refine orRefuse_begun _ _ _ _ _ _ ?_ (fun _ _ _ => ?_) <;> try simp +contextual (maxDischargeDepth := 40) [*]))

@[simp] theorem glideStep_begun (a0 s) (h : s.begun) : (glideStep a0 s).begun := by
  unfold glideStep
  try simp +contextual (maxDischargeDepth := 40) [h]
  repeat' (first | (split <;> try simp +contextual (maxDischargeDepth := 40) [*]) | (refine foldl_begun _ _ _ (fun _ _ _ => ?_) ?_ <;> try simp +contextual (maxDischargeDepth := 40) [*]) | (refine orRefuse_begun _ _ _ _ _ _ ?_ (fun _ _ _ => ?_) <;> try simp +contextual (maxDischargeDepth := 40) [*]))

@[simp] theorem wroteVolts_begun (a0 a1 s) (h : s.begun) : (wroteVolts a0 a1 s).begun := by
  unfold wroteVolts
  try simp +contextual (maxDischargeDepth := 40) [h]
  repeat' (first | (split <;> try simp +contextual (maxDischargeDepth := 40) [*]) | (refine foldl_begun _ _ _ (fun _ _ _ => ?_) ?_ <;> try simp +contextual (maxDischargeDepth := 40) [*]) | (refine orRefuse_begun _ _ _ _ _ _ ?_ (fun _ _ _ => ?_) <;> try simp +contextual (maxDischargeDepth := 40) [*]))

@[simp] theorem statusRead_begun (a0 a1 s) (h : s.begun) : (statusRead a0 a1 s).begun := by
  unfold statusRead
  try simp +contextual (maxDischargeDepth := 40) [h]
  repeat' (first | (split <;> try simp +contextual (maxDischargeDepth := 40) [*]) | (refine foldl_begun _ _ _ (fun _ _ _ => ?_) ?_ <;> try simp +contextual (maxDischargeDepth := 40) [*]) | (refine orRefuse_begun _ _ _ _ _ _ ?_ (fun _ _ _ => ?_) <;> try simp +contextual (maxDischargeDepth := 40) [*]))

@[simp] theorem avsFailed_begun (a0 s) (h : s.begun) : (avsFailed a0 s).begun := by
  unfold avsFailed
  try simp +contextual (maxDischargeDepth := 40) [h]
  repeat' (first | (split <;> try simp +contextual (maxDischargeDepth := 40) [*]) | (refine foldl_begun _ _ _ (fun _ _ _ => ?_) ?_ <;> try simp +contextual (maxDischargeDepth := 40) [*]) | (refine orRefuse_begun _ _ _ _ _ _ ?_ (fun _ _ _ => ?_) <;> try simp +contextual (maxDischargeDepth := 40) [*]))

@[simp] theorem avsDone_begun (a0 s) (h : s.begun) : (avsDone a0 s).begun := by
  unfold avsDone
  try simp +contextual (maxDischargeDepth := 40) [h]
  repeat' (first | (split <;> try simp +contextual (maxDischargeDepth := 40) [*]) | (refine foldl_begun _ _ _ (fun _ _ _ => ?_) ?_ <;> try simp +contextual (maxDischargeDepth := 40) [*]) | (refine orRefuse_begun _ _ _ _ _ _ ?_ (fun _ _ _ => ?_) <;> try simp +contextual (maxDischargeDepth := 40) [*]))

@[simp] theorem pllLoss_begun (a0 s) (h : s.begun) : (pllLoss a0 s).begun := by
  unfold pllLoss; simp (maxDischargeDepth := 40) [h]

@[simp] theorem pllRelock_begun (a0 s) (h : s.begun) : (pllRelock a0 s).begun := by
  unfold pllRelock; simp (maxDischargeDepth := 40) [h]

@[simp] theorem marginStep_begun (a0 a1 a2 s) (h : s.begun) : (marginStep a0 a1 a2 s).begun := by
  unfold marginStep; simp [h]

end Sys2Proof.Machine
end

