-- ==== Sys2Proof/Laws/BegunBase.lean ====
section
/-!
SUPPORT. Every function of the base, light and the torus on states keeps the mark that the first stamp has been issued. Resets and power loss clear it and are not named.
-/

-- One proof after another: in parallel each asks for a thread and its stack.
set_option Elab.async false
set_option linter.all false

namespace Sys2Proof.Machine

@[simp] theorem laneStep_begun (a0 a1 s) (h : s.begun) : (laneStep a0 a1 s).begun := by
  unfold laneStep; simp (maxDischargeDepth := 40) [h]

@[simp] theorem suspectLane_begun (a0 a1 s) (h : s.begun) : (suspectLane a0 a1 s).begun := by
  unfold suspectLane; simp [h]

@[simp] theorem watchLanes_begun (a0 a1 s) (h : s.begun) : (watchLanes a0 a1 s).begun := by
  unfold watchLanes; simp +contextual (maxDischargeDepth := 40) [h]

@[simp] theorem idleWave_begun (a0 a1 a2 a3 s) (h : s.begun) : (idleWave a0 a1 a2 a3 s).begun := by
  unfold idleWave; simp (maxDischargeDepth := 40) [h]

@[simp] theorem pruneQueue_begun (a0 s) (h : s.begun) : (pruneQueue a0 s).begun := by
  exact h

@[simp] theorem pairFields_begun (s a1 a2) (h : s.begun) : (pairFields s a1 a2).2.begun := by
  unfold pairFields; simp [h]

@[simp] theorem newFrame_begun (a0 a1 s) (h : s.begun) : (newFrame a0 a1 s).2.begun := by
  unfold newFrame; simp (maxDischargeDepth := 40) [h]

@[simp] theorem nextFrame_begun (a0 a1 s) (h : s.begun) : (nextFrame a0 a1 s).2.begun := by
  unfold nextFrame
  try simp +contextual (maxDischargeDepth := 40) [h]
  repeat' (first | (split <;> try simp +contextual (maxDischargeDepth := 40) [*]) | (refine foldl_begun _ _ _ (fun _ _ _ => ?_) ?_ <;> try simp +contextual (maxDischargeDepth := 40) [*]) | (refine orRefuse_begun _ _ _ _ _ _ ?_ (fun _ _ _ => ?_) <;> try simp +contextual (maxDischargeDepth := 40) [*]))

@[simp] theorem countFrame_begun (a0 a1 s) (h : s.begun) : (countFrame a0 a1 s).begun := by
  exact h

@[simp] theorem toTrain_begun (l s) (h : s.begun) : (toTrain l s).begun := by
  unfold toTrain
  dsimp only
  exact nextWindow_begun _ _ _ (setLinks_begun _ _ _ (foldl_begun _ _ _ (fun s x h => updLink_begun _ _ _ h) h))

@[simp] theorem unrecovered_begun (l f s) (h : s.begun) : (unrecovered l f s).begun :=
  toTrain_begun _ _ (raiseFault_begun _ _ _ (updLink_begun _ _ _ h))

@[simp] theorem fibreControl_begun (a0 a1 s) (h : s.begun) : (fibreControl a0 a1 s).begun := by
  exact h

@[simp] theorem arrivePacket_begun (a0 a1 a2 s) (h : s.begun) : (arrivePacket a0 a1 a2 s).begun := by
  unfold arrivePacket
  try simp +contextual (maxDischargeDepth := 40) [h]
  repeat' (first | (split <;> try simp +contextual (maxDischargeDepth := 40) [*]) | (refine foldl_begun _ _ _ (fun _ _ _ => ?_) ?_ <;> try simp +contextual (maxDischargeDepth := 40) [*]) | (refine orRefuse_begun _ _ _ _ _ _ ?_ (fun _ _ _ => ?_) <;> try simp +contextual (maxDischargeDepth := 40) [*]))

@[simp] theorem countDecoded_begun (a0 a1 a2 s) (h : s.begun) : (countDecoded a0 a1 a2 s).begun := by
  unfold countDecoded; simp [h]

@[simp] theorem acceptFrame_begun (a0 a1 a2 a3 s) (h : s.begun) : (acceptFrame a0 a1 a2 a3 s).begun := by
  unfold acceptFrame; simp +contextual (maxDischargeDepth := 40) [h]

@[simp] theorem askAgain_begun (a0 a1 a2 s) (h : s.begun) : (askAgain a0 a1 a2 s).begun := by
  unfold askAgain; simp [h]

@[simp] theorem badFrame_begun (a0 a1 a2 s) (h : s.begun) : (badFrame a0 a1 a2 s).begun := by
  unfold badFrame; simp (maxDischargeDepth := 40) [h]

@[simp] theorem takeFrame_begun (a0 a1 a2 a3 s) (h : s.begun) : (takeFrame a0 a1 a2 a3 s).begun := by
  unfold takeFrame
  try simp +contextual (maxDischargeDepth := 40) [h]
  repeat' (first | (split <;> try simp +contextual (maxDischargeDepth := 40) [*]) | (refine foldl_begun _ _ _ (fun _ _ _ => ?_) ?_ <;> try simp +contextual (maxDischargeDepth := 40) [*]) | (refine orRefuse_begun _ _ _ _ _ _ ?_ (fun _ _ _ => ?_) <;> try simp +contextual (maxDischargeDepth := 40) [*]) | (intro _ <;> try simp +contextual (maxDischargeDepth := 40) [*]))

@[simp] theorem fibreSend_begun (t n s) (h : s.begun) : (fibreSend t n s).begun := by
  induction n generalizing s with
  | zero => exact h
  | succ n ih =>
    unfold fibreSend
    dsimp only
    split
    · exact h
    · refine ih _ ?_
      simp (maxDischargeDepth := 40) [h]

theorem fibreAdmit_begun {d p s t} (hs : s.begun) (h : fibreAdmit d p s = some t) : t.begun := by
  unfold fibreAdmit at h
  dsimp only at h
  cases e : fibreFor s d (torusOf p) <;> rw [e] at h <;> cases h
  simp (maxDischargeDepth := 40) [hs]

@[simp] theorem fibreList_begun (d l h s) (hs : s.begun) : (fibreList d l h s).2.begun := by
  induction l generalizing h s with
  | nil => exact hs
  | cons w l ih =>
    unfold fibreList
    dsimp only
    split
    · rename_i e
      split at e
      · cases e
      · exact ih _ _ (fibreAdmit_begun hs e)
    · exact ih _ _ hs

@[simp] theorem fibreEnter_begun (a0 a1 s) (h : s.begun) : (fibreEnter a0 a1 s).begun := by
  unfold fibreEnter; simp (maxDischargeDepth := 40) [h]

@[simp] theorem passCycle_begun (a0 a1 s) (h : s.begun) : (passCycle a0 a1 s).begun := by
  unfold passCycle; simp +contextual (maxDischargeDepth := 40) [h]

@[simp] theorem fibreFrame_begun (a0 a1 s) (h : s.begun) : (fibreFrame a0 a1 s).begun := by
  unfold fibreFrame; simp (maxDischargeDepth := 40) [h]

@[simp] theorem frameReceive_begun (a0 a1 s) (h : s.begun) : (frameReceive a0 a1 s).begun := by
  unfold frameReceive
  try simp +contextual (maxDischargeDepth := 40) [h]
  repeat' (first | (split <;> try simp +contextual (maxDischargeDepth := 40) [*]) | (refine foldl_begun _ _ _ (fun _ _ _ => ?_) ?_ <;> try simp +contextual (maxDischargeDepth := 40) [*]) | (refine orRefuse_begun _ _ _ _ _ _ ?_ (fun _ _ _ => ?_) <;> try simp +contextual (maxDischargeDepth := 40) [*]) | (intro _ <;> try simp +contextual (maxDischargeDepth := 40) [*]))

@[simp] theorem nakStep_begun (a0 s) (h : s.begun) : (nakStep a0 s).begun := by
  unfold nakStep
  try simp +contextual (maxDischargeDepth := 40) [h]
  repeat' (first | (split <;> try simp +contextual (maxDischargeDepth := 40) [*]) | (refine foldl_begun _ _ _ (fun _ _ _ => ?_) ?_ <;> try simp +contextual (maxDischargeDepth := 40) [*]) | (refine orRefuse_begun _ _ _ _ _ _ ?_ (fun _ _ _ => ?_) <;> try simp +contextual (maxDischargeDepth := 40) [*]))

@[simp] theorem baseParity_begun (a0 a1 a2 s) (h : s.begun) : (baseParity a0 a1 a2 s).begun := by
  unfold baseParity; simp [h]

@[simp] theorem grantStep_begun (a0 a1 a2 s) (h : s.begun) : (grantStep a0 a1 a2 s).begun := by
  unfold grantStep
  try simp +contextual (maxDischargeDepth := 40) [h]
  repeat' (first | (split <;> try simp +contextual (maxDischargeDepth := 40) [*]) | (refine foldl_begun _ _ _ (fun _ _ _ => ?_) ?_ <;> try simp +contextual (maxDischargeDepth := 40) [*]) | (refine orRefuse_begun _ _ _ _ _ _ ?_ (fun _ _ _ => ?_) <;> try simp +contextual (maxDischargeDepth := 40) [*]))

@[simp] theorem retargetStep_begun (a0 a1 s) (h : s.begun) : (retargetStep a0 a1 s).begun := by
  unfold retargetStep
  try simp +contextual (maxDischargeDepth := 40) [h]
  repeat' (first | (split <;> try simp +contextual (maxDischargeDepth := 40) [*]) | (refine foldl_begun _ _ _ (fun _ _ _ => ?_) ?_ <;> try simp +contextual (maxDischargeDepth := 40) [*]) | (refine orRefuse_begun _ _ _ _ _ _ ?_ (fun _ _ _ => ?_) <;> try simp +contextual (maxDischargeDepth := 40) [*]))

@[simp] theorem portEnter_begun (a0 a1 a2 s) (h : s.begun) : (portEnter a0 a1 a2 s).begun := by
  exact h

@[simp] theorem ackReceive_begun (a0 a1 a2 s) (h : s.begun) : (ackReceive a0 a1 a2 s).begun := by
  exact h

@[simp] theorem noticeAcked_begun (a0 a1 s) (h : s.begun) : (noticeAcked a0 a1 s).begun := by
  unfold noticeAcked
  try simp +contextual (maxDischargeDepth := 40) [h]
  repeat' (first | (split <;> try simp +contextual (maxDischargeDepth := 40) [*]) | (refine foldl_begun _ _ _ (fun _ _ _ => ?_) ?_ <;> try simp +contextual (maxDischargeDepth := 40) [*]) | (refine orRefuse_begun _ _ _ _ _ _ ?_ (fun _ _ _ => ?_) <;> try simp +contextual (maxDischargeDepth := 40) [*]) | (intro _ <;> try simp +contextual (maxDischargeDepth := 40) [*]))

@[simp] theorem wharfTakes_begun (a0 s) (h : s.begun) : (wharfTakes a0 s).begun := by
  unfold wharfTakes; simp (maxDischargeDepth := 40) [h]

@[simp] theorem berthTakes_begun (a0 s) (h : s.begun) : (berthTakes a0 s).begun := by
  unfold berthTakes; simp [h]

@[simp] theorem deliverBase_begun (a0 a1 s) (h : s.begun) : (deliverBase a0 a1 s).begun := by
  unfold deliverBase; simp (maxDischargeDepth := 40) [h]

@[simp] theorem drainQueue_begun (l v n u s) (h : s.begun) : (drainQueue l v n u s).begun := by
  induction n generalizing u s with
  | zero => exact h
  | succ n ih =>
    unfold drainQueue
    split
    · exact h
    · dsimp only
      split
      · refine ih _ _ ?_; simp (maxDischargeDepth := 40) [h]
      · exact h

@[simp] theorem creditStep_begun (a0 a1 a2 s) (h : s.begun) : (creditStep a0 a1 a2 s).begun := by
  unfold creditStep; simp (maxDischargeDepth := 40) [h]

@[simp] theorem startAct_begun (a0 s) (h : s.begun) : (startAct a0 s).begun := by
  unfold startAct
  try simp +contextual (maxDischargeDepth := 40) [h]
  repeat' (first | (split <;> try simp +contextual (maxDischargeDepth := 40) [*]) | (refine foldl_begun _ _ _ (fun _ _ _ => ?_) ?_ <;> try simp +contextual (maxDischargeDepth := 40) [*]) | (refine orRefuse_begun _ _ _ _ _ _ ?_ (fun _ _ _ => ?_) <;> try simp +contextual (maxDischargeDepth := 40) [*]))

@[simp] theorem holdLink_begun (a0 s) (h : s.begun) : (holdLink a0 s).begun := by
  exact h

@[simp] theorem takeBackAll_begun (a0 s) (h : s.begun) : (takeBackAll a0 s).begun := by
  unfold takeBackAll
  try simp +contextual (maxDischargeDepth := 40) [h]
  repeat' (first | (split <;> try simp +contextual (maxDischargeDepth := 40) [*]) | (refine foldl_begun _ _ _ (fun _ _ _ => ?_) ?_ <;> try simp +contextual (maxDischargeDepth := 40) [*]) | (refine orRefuse_begun _ _ _ _ _ _ ?_ (fun _ _ _ => ?_) <;> try simp +contextual (maxDischargeDepth := 40) [*]) | (intro _ <;> try simp +contextual (maxDischargeDepth := 40) [*]))

@[simp] theorem reallot_begun (a0 a1 s) (h : s.begun) : (reallot a0 a1 s).begun := by
  unfold reallot; simp +contextual (maxDischargeDepth := 40) [h]

@[simp] theorem windowStart_begun (s) (h : s.begun) : (windowStart s).begun := by
  unfold windowStart; simp +contextual (maxDischargeDepth := 40) [h]

@[simp] theorem resume_begun (a0 a1 s) (h : s.begun) : (resume a0 a1 s).begun := by
  unfold resume; simp (maxDischargeDepth := 40) [h]

@[simp] theorem lockPorts_begun (a0 a1 a2 s) (h : s.begun) : (lockPorts a0 a1 a2 s).begun := by
  unfold lockPorts; simp (maxDischargeDepth := 40) [h]

@[simp] theorem ringsLocked_begun (a0 s) (h : s.begun) : (ringsLocked a0 s).begun := by
  unfold ringsLocked; dsimp only; repeat' split
  all_goals simp [h]

@[simp] theorem portUnset_begun (a0 s a2) (h : s.begun) : (portUnset a0 s a2).begun := by
  unfold portUnset; simp [h]

@[simp] theorem linkDeadline_begun (a0 s) (h : s.begun) : (linkDeadline a0 s).begun := by
  unfold linkDeadline; simp +contextual (maxDischargeDepth := 40) [h]

@[simp] theorem windowDeadline_begun (s) (h : s.begun) : (windowDeadline s).begun := by
  unfold windowDeadline; simp +contextual (maxDischargeDepth := 40) [h]

@[simp] theorem resync_begun (a0 a1 s) (h : s.begun) : (resync a0 a1 s).begun := by
  exact h

@[simp] theorem retrained_begun (a0 s) (h : s.begun) : (retrained a0 s).begun := by
  unfold retrained; simp +contextual (maxDischargeDepth := 40) [h]

@[simp] theorem endAct_begun (a0 s) (h : s.begun) : (endAct a0 s).begun := by
  unfold endAct
  try simp +contextual (maxDischargeDepth := 40) [h]
  repeat' (first | (split <;> try simp +contextual (maxDischargeDepth := 40) [*]) | (refine foldl_begun _ _ _ (fun _ _ _ => ?_) ?_ <;> try simp +contextual (maxDischargeDepth := 40) [*]) | (refine orRefuse_begun _ _ _ _ _ _ ?_ (fun _ _ _ => ?_) <;> try simp +contextual (maxDischargeDepth := 40) [*]))

@[simp] theorem windowEnd_begun (s) (h : s.begun) : (windowEnd s).begun := by
  unfold windowEnd; simp +contextual (maxDischargeDepth := 40) [h]

@[simp] theorem basinPut_begun (a0 a1 s) (h : s.begun) : (basinPut a0 a1 s).begun := by
  unfold basinPut; simp [h]

@[simp] theorem unqueueKept_begun (a0 a1 s) (h : s.begun) : (unqueueKept a0 a1 s).begun := by
  unfold unqueueKept
  try simp +contextual (maxDischargeDepth := 40) [h]
  repeat' (first | (split <;> try simp +contextual (maxDischargeDepth := 40) [*]) | (refine foldl_begun _ _ _ (fun _ _ _ => ?_) ?_ <;> try simp +contextual (maxDischargeDepth := 40) [*]) | (refine orRefuse_begun _ _ _ _ _ _ ?_ (fun _ _ _ => ?_) <;> try simp +contextual (maxDischargeDepth := 40) [*]))

@[simp] theorem unqueue_begun (a0 a1 s) (h : s.begun) : (unqueue a0 a1 s).begun := by
  unfold unqueue
  try simp +contextual (maxDischargeDepth := 40) [h]
  repeat' (first | (split <;> try simp +contextual (maxDischargeDepth := 40) [*]) | (refine foldl_begun _ _ _ (fun _ _ _ => ?_) ?_ <;> try simp +contextual (maxDischargeDepth := 40) [*]) | (refine orRefuse_begun _ _ _ _ _ _ ?_ (fun _ _ _ => ?_) <;> try simp +contextual (maxDischargeDepth := 40) [*]) | (intro _ <;> try simp +contextual (maxDischargeDepth := 40) [*]))

@[simp] theorem basinStep_begun (a0 a1 s) (h : s.begun) : (basinStep a0 a1 s).begun := by
  unfold basinStep
  try simp +contextual (maxDischargeDepth := 40) [h]
  repeat' (first | (split <;> try simp +contextual (maxDischargeDepth := 40) [*]) | (refine foldl_begun _ _ _ (fun _ _ _ => ?_) ?_ <;> try simp +contextual (maxDischargeDepth := 40) [*]) | (refine orRefuse_begun _ _ _ _ _ _ ?_ (fun _ _ _ => ?_) <;> try simp +contextual (maxDischargeDepth := 40) [*]) | (intro _ <;> try simp +contextual (maxDischargeDepth := 40) [*]))

@[simp] theorem finishEntry_begun (a0 a1 s) (h : s.begun) : (finishEntry a0 a1 s).begun := by
  unfold finishEntry
  try simp +contextual (maxDischargeDepth := 40) [h]
  repeat' (first | (split <;> try simp +contextual (maxDischargeDepth := 40) [*]) | (refine foldl_begun _ _ _ (fun _ _ _ => ?_) ?_ <;> try simp +contextual (maxDischargeDepth := 40) [*]) | (refine orRefuse_begun _ _ _ _ _ _ ?_ (fun _ _ _ => ?_) <;> try simp +contextual (maxDischargeDepth := 40) [*]) | (intro _ <;> try simp +contextual (maxDischargeDepth := 40) [*]))

@[simp] theorem basinDone_begun (a0 a1 a2 s) (h : s.begun) : (basinDone a0 a1 a2 s).begun := by
  unfold basinDone
  try simp +contextual (maxDischargeDepth := 40) [h]
  repeat' (first | (split <;> try simp +contextual (maxDischargeDepth := 40) [*]) | (refine foldl_begun _ _ _ (fun _ _ _ => ?_) ?_ <;> try simp +contextual (maxDischargeDepth := 40) [*]) | (refine orRefuse_begun _ _ _ _ _ _ ?_ (fun _ _ _ => ?_) <;> try simp +contextual (maxDischargeDepth := 40) [*]) | (intro _ <;> try simp +contextual (maxDischargeDepth := 40) [*]))

@[simp] theorem collDone_begun (c s) (h : s.begun) : (collDone c s).begun := by
  unfold collDone
  split
  · exact collDoneGang_begun _ _ _ _ h
  · exact tableDone_begun _ _ _ h
  · exact basinDone_begun _ _ _ _ h

@[simp] theorem dropBase_begun (s) (h : s.begun) : (dropBase s).begun := by
  exact h

@[simp] theorem resetBase_begun (a0 s) (h : s.begun) : (resetBase a0 s).begun := by
  unfold resetBase
  try simp +contextual (maxDischargeDepth := 40) [h]
  repeat' (first | (split <;> try simp +contextual (maxDischargeDepth := 40) [*]) | (refine foldl_begun _ _ _ (fun _ _ _ => ?_) ?_ <;> try simp +contextual (maxDischargeDepth := 40) [*]) | (refine orRefuse_begun _ _ _ _ _ _ ?_ (fun _ _ _ => ?_) <;> try simp +contextual (maxDischargeDepth := 40) [*]) | (intro _ <;> try simp +contextual (maxDischargeDepth := 40) [*]))

@[simp] theorem baseReset_begun (a0 s) (h : s.begun) : (baseReset a0 s).begun := by
  unfold baseReset; simp (maxDischargeDepth := 40) [h]

@[simp] theorem resetWaiting_begun (s) (h : s.begun) : (resetWaiting s).begun := by
  unfold resetWaiting
  try simp +contextual (maxDischargeDepth := 40) [h]
  repeat' (first | (split <;> try simp +contextual (maxDischargeDepth := 40) [*]) | (refine foldl_begun _ _ _ (fun _ _ _ => ?_) ?_ <;> try simp +contextual (maxDischargeDepth := 40) [*]) | (refine orRefuse_begun _ _ _ _ _ _ ?_ (fun _ _ _ => ?_) <;> try simp +contextual (maxDischargeDepth := 40) [*]) | (intro _ <;> try simp +contextual (maxDischargeDepth := 40) [*]))

@[simp] theorem mendTables_begun (s) (h : s.begun) : (mendTables s).begun := by
  unfold mendTables; simp +contextual (maxDischargeDepth := 40) [h]

@[simp] theorem baseRelease_begun (s) (h : s.begun) : (baseRelease s).begun := by
  unfold baseRelease
  try simp +contextual (maxDischargeDepth := 40) [h]
  repeat' (first | (split <;> try simp +contextual (maxDischargeDepth := 40) [*]) | (refine foldl_begun _ _ _ (fun _ _ _ => ?_) ?_ <;> try simp +contextual (maxDischargeDepth := 40) [*]) | (refine orRefuse_begun _ _ _ _ _ _ ?_ (fun _ _ _ => ?_) <;> try simp +contextual (maxDischargeDepth := 40) [*]))

@[simp] theorem installPlan_begun (s) (h : s.begun) : (installPlan s).begun := by
  unfold installPlan
  exact foldl_begun _ _ _ (fun s b h => foldl_begun _ _ _ (fun s r h => by simp (maxDischargeDepth := 40) [h]) h) h

@[simp] theorem allotAll_begun (s) (h : s.begun) : (allotAll s).begun := by
  unfold allotAll
  exact foldl_begun _ _ _ (fun s b h => foldl_begun _ _ _ (fun s r h => by simp (maxDischargeDepth := 40) [h]) h) h

@[simp] theorem fibreCredits_begun (s) (h : s.begun) : (fibreCredits s).begun := by
  unfold fibreCredits
  generalize List.range 6 = l
  generalize List.range 8 = k
  exact foldl_begun _ _ _ (fun s d h => foldl_begun _ _ _ (fun s r h => updLink_begun _ _ _ h) h) h

@[simp] theorem restoreCircuit_begun (a0 s) (h : s.begun) : (restoreCircuit a0 s).begun := by
  unfold restoreCircuit; simp (maxDischargeDepth := 40) [h]

@[simp] theorem planReloaded_begun (a0 s) (h : s.begun) : (planReloaded a0 s).begun := by
  unfold planReloaded
  try simp +contextual (maxDischargeDepth := 40) [h]
  repeat' (first | (split <;> try simp +contextual (maxDischargeDepth := 40) [*]) | (refine foldl_begun _ _ _ (fun _ _ _ => ?_) ?_ <;> try simp +contextual (maxDischargeDepth := 40) [*]) | (refine orRefuse_begun _ _ _ _ _ _ ?_ (fun _ _ _ => ?_) <;> try simp +contextual (maxDischargeDepth := 40) [*]) | (intro _ <;> try simp +contextual (maxDischargeDepth := 40) [*]))

@[simp] theorem groupDown_begun (a0 s) (h : s.begun) : (groupDown a0 s).begun := by
  unfold groupDown; simp (maxDischargeDepth := 40) [h]

@[simp] theorem enqueue_begun (a0 a1 s) (h : s.begun) : (enqueue a0 a1 s).begun := by
  exact h

@[simp] theorem relieve_begun (a0 a1 s) (h : s.begun) : (relieve a0 a1 s).begun := by
  exact h

@[simp] theorem dropLane_begun (a0 a1 s) (h : s.begun) : (dropLane a0 a1 s).begun := by
  exact h

@[simp] theorem relieveFail_begun (a0 a1 s) (h : s.begun) : (relieveFail a0 a1 s).begun := by
  unfold relieveFail; simp (maxDischargeDepth := 40) [h]

@[simp] theorem wrFail_begun (a0 s) (h : s.begun) : (wrFail a0 s).begun := by
  unfold wrFail
  try simp +contextual (maxDischargeDepth := 40) [h]
  repeat' (first | (split <;> try simp +contextual (maxDischargeDepth := 40) [*]) | (refine foldl_begun _ _ _ (fun _ _ _ => ?_) ?_ <;> try simp +contextual (maxDischargeDepth := 40) [*]) | (refine orRefuse_begun _ _ _ _ _ _ ?_ (fun _ _ _ => ?_) <;> try simp +contextual (maxDischargeDepth := 40) [*]))

@[simp] theorem laserFail_begun (a0 s) (h : s.begun) : (laserFail a0 s).begun := by
  unfold laserFail; simp (maxDischargeDepth := 40) [h]

@[simp] theorem laserMigrate_begun (a0 s) (h : s.begun) : (laserMigrate a0 s).begun := by
  unfold laserMigrate; simp (maxDischargeDepth := 40) [h]

@[simp] theorem failTrip_begun (a0 s) (h : s.begun) : (failTrip a0 s).begun := by
  unfold failTrip; simp (maxDischargeDepth := 40) [h]

@[simp] theorem noSpare_begun (a0 a1 s) (h : s.begun) : (noSpare a0 a1 s).begun := by
  unfold noSpare; simp (maxDischargeDepth := 40) [h]

@[simp] theorem setPhase_begun (a0 a1 s) (h : s.begun) : (setPhase a0 a1 s).begun := by
  exact h

@[simp] theorem handStart_begun (a0 s) (h : s.begun) : (handStart a0 s).begun := by
  unfold handStart
  try simp +contextual (maxDischargeDepth := 40) [h]
  repeat' (first | (split <;> try simp +contextual (maxDischargeDepth := 40) [*]) | (refine foldl_begun _ _ _ (fun _ _ _ => ?_) ?_ <;> try simp +contextual (maxDischargeDepth := 40) [*]) | (refine orRefuse_begun _ _ _ _ _ _ ?_ (fun _ _ _ => ?_) <;> try simp +contextual (maxDischargeDepth := 40) [*]))

@[simp] theorem handDrain_begun (a0 s) (h : s.begun) : (handDrain a0 s).begun := by
  unfold handDrain; simp [h]

@[simp] theorem spareReject_begun (a0 s) (h : s.begun) : (spareReject a0 s).begun := by
  unfold spareReject
  try simp +contextual (maxDischargeDepth := 40) [h]
  repeat' (first | (split <;> try simp +contextual (maxDischargeDepth := 40) [*]) | (refine foldl_begun _ _ _ (fun _ _ _ => ?_) ?_ <;> try simp +contextual (maxDischargeDepth := 40) [*]) | (refine orRefuse_begun _ _ _ _ _ _ ?_ (fun _ _ _ => ?_) <;> try simp +contextual (maxDischargeDepth := 40) [*]))

@[simp] theorem spareTuned_begun (a0 s) (h : s.begun) : (spareTuned a0 s).begun := by
  unfold spareTuned
  try simp +contextual (maxDischargeDepth := 40) [h]
  repeat' (first | (split <;> try simp +contextual (maxDischargeDepth := 40) [*]) | (refine foldl_begun _ _ _ (fun _ _ _ => ?_) ?_ <;> try simp +contextual (maxDischargeDepth := 40) [*]) | (refine orRefuse_begun _ _ _ _ _ _ ?_ (fun _ _ _ => ?_) <;> try simp +contextual (maxDischargeDepth := 40) [*]) | (intro _ <;> try simp +contextual (maxDischargeDepth := 40) [*]))

@[simp] theorem spareTunedStep_begun (a0 a1 s) (h : s.begun) : (spareTunedStep a0 a1 s).begun := by
  unfold spareTunedStep; simp (maxDischargeDepth := 40) [h]

@[simp] theorem spareVerifiedStep_begun (a0 a1 s) (h : s.begun) : (spareVerifiedStep a0 a1 s).begun := by
  unfold spareVerifiedStep; simp (maxDischargeDepth := 40) [h]

@[simp] theorem handSwitch_begun (a0 s) (h : s.begun) : (handSwitch a0 s).begun := by
  unfold handSwitch
  try simp +contextual (maxDischargeDepth := 40) [h]
  repeat' (first | (split <;> try simp +contextual (maxDischargeDepth := 40) [*]) | (refine foldl_begun _ _ _ (fun _ _ _ => ?_) ?_ <;> try simp +contextual (maxDischargeDepth := 40) [*]) | (refine orRefuse_begun _ _ _ _ _ _ ?_ (fun _ _ _ => ?_) <;> try simp +contextual (maxDischargeDepth := 40) [*]))

@[simp] theorem handCheck_begun (a0 a1 s) (h : s.begun) : (handCheck a0 a1 s).begun := by
  unfold handCheck; simp (maxDischargeDepth := 40) [h]

@[simp] theorem handStop_begun (a0 s) (h : s.begun) : (handStop a0 s).begun := by
  unfold handStop
  try simp +contextual (maxDischargeDepth := 40) [h]
  repeat' (first | (split <;> try simp +contextual (maxDischargeDepth := 40) [*]) | (refine foldl_begun _ _ _ (fun _ _ _ => ?_) ?_ <;> try simp +contextual (maxDischargeDepth := 40) [*]) | (refine orRefuse_begun _ _ _ _ _ _ ?_ (fun _ _ _ => ?_) <;> try simp +contextual (maxDischargeDepth := 40) [*]))

@[simp] theorem relieveLink_begun (a0 a1 s) (h : s.begun) : (relieveLink a0 a1 s).begun := by
  exact h

@[simp] theorem returnLane_begun (a0 a1 s) (h : s.begun) : (returnLane a0 a1 s).begun := by
  exact h

@[simp] theorem wrongLock_begun (a0 s) (h : s.begun) : (wrongLock a0 s).begun := by
  unfold wrongLock; simp (maxDischargeDepth := 40) [h]

@[simp] theorem relockStep_begun (a0 a1 s) (h : s.begun) : (relockStep a0 a1 s).begun := by
  unfold relockStep; simp (maxDischargeDepth := 40) [h]

@[simp] theorem suspectCause_begun (a0 s) (h : s.begun) : (suspectCause a0 s).begun := by
  unfold suspectCause; simp (maxDischargeDepth := 40) [h]

@[simp] theorem laserCalibrated_begun (a0 a1 a2 s) (h : s.begun) : (laserCalibrated a0 a1 a2 s).begun := by
  exact h

@[simp] theorem calibGap_begun (c i s) (hs : s.begun) : (calibGap c i s).1.begun := by
  have h : (ringGap i s).1.begun := by
    unfold ringGap
    dsimp only
    repeat' (split)
    all_goals simp (maxDischargeDepth := 40) [hs]
  unfold calibGap
  repeat' (split)
  all_goals simp (maxDischargeDepth := 40) [h, hs]

@[simp] theorem calibRun_begun (c i v a s) (h : s.begun) : (calibRun c i v a s).begun := by
  unfold calibRun
  dsimp only
  repeat' (split)
  all_goals simp (maxDischargeDepth := 40) [h]

@[simp] theorem calibStep_begun (a0 a1 a2 a3 s) (h : s.begun) : (calibStep a0 a1 a2 a3 s).begun := by
  unfold calibStep; simp (maxDischargeDepth := 40) [h]

@[simp] theorem governStep_begun (a0 a1 s) (h : s.begun) : (governStep a0 a1 s).begun := by
  unfold governStep; simp (maxDischargeDepth := 40) [h]

@[simp] theorem noticeStep_begun (a0 s) (h : s.begun) : (noticeStep a0 s).begun := by
  unfold noticeStep
  try simp +contextual (maxDischargeDepth := 40) [h]
  repeat' (first | (split <;> try simp +contextual (maxDischargeDepth := 40) [*]) | (refine foldl_begun _ _ _ (fun _ _ _ => ?_) ?_ <;> try simp +contextual (maxDischargeDepth := 40) [*]) | (refine orRefuse_begun _ _ _ _ _ _ ?_ (fun _ _ _ => ?_) <;> try simp +contextual (maxDischargeDepth := 40) [*]) | (intro _ <;> try simp +contextual (maxDischargeDepth := 40) [*]))

theorem takeControl_begun (f s c s') (h : takeControl f s = some (c, s')) (hs : s.begun) : s'.begun := by
  unfold takeControl at h
  rw [Option.map_eq_some_iff] at h
  obtain ⟨_, -, e⟩ := h
  cases e; exact hs

theorem takeNotice_begun (n s s') (h : takeNotice n s = some s') (hs : s.begun) : s'.begun := by
  unfold takeNotice at h
  rw [Option.map_eq_some_iff] at h
  obtain ⟨⟨c, t⟩, h, e⟩ := h
  rw [← e]
  exact sendControl_begun _ _ _ _ (takeControl_begun _ _ _ _ h hs)

@[simp] theorem closeRequest_begun (a0 a1 s) (h : s.begun) : (closeRequest a0 a1 s).begun := by
  unfold closeRequest
  split
  · exact h
  · next e => have := takeNotice_begun _ _ _ e h; split <;> simp [this]

@[simp] theorem namedCut_begun (a0 a1 s) (h : s.begun) : (namedCut a0 a1 s).begun := by
  unfold namedCut; simp (maxDischargeDepth := 40) [h]

@[simp] theorem joinStep_begun (s) (h : s.begun) : (joinStep s).begun := by
  unfold joinStep; simp (maxDischargeDepth := 40) [h]

@[simp] theorem joinReceive_begun (a0 a1 s) (h : s.begun) : (joinReceive a0 a1 s).begun := by
  unfold joinReceive
  split
  · exact h
  · next e => have := takeNotice_begun _ _ _ e h; split <;> simp [this]

@[simp] theorem leaveStep_begun (s) (h : s.begun) : (leaveStep s).begun := by
  unfold leaveStep; simp (maxDischargeDepth := 40) [h]

@[simp] theorem addFlightWindow_begun (a0 a1 a2 a3 s) (h : s.begun) : (addFlightWindow a0 a1 a2 a3 s).begun := by
  unfold addFlightWindow; simp +contextual (maxDischargeDepth := 40) [h]

@[simp] theorem confirmPassages_begun (a0 s) (h : s.begun) : (confirmPassages a0 s).begun := by
  unfold confirmPassages; simp +contextual (maxDischargeDepth := 40) [h]

@[simp] theorem takeWindow_begun (a0 a1 s) (h : s.begun) : (takeWindow a0 a1 s).begun := by
  unfold takeWindow; simp (maxDischargeDepth := 40) [h]

@[simp] theorem takeFlight_begun (a0 a1 s) (h : s.begun) : (takeFlight a0 a1 s).begun := by
  unfold takeFlight; simp +contextual (maxDischargeDepth := 40) [h]

@[simp] theorem placeFlight_begun (a0 a1 s) (h : s.begun) : (placeFlight a0 a1 s).begun := by
  unfold placeFlight; simp [h]

@[simp] theorem flightStep_begun (a0 a1 s) (h : s.begun) : (flightStep a0 a1 s).begun := by
  unfold flightStep; simp [h]

@[simp] theorem takeLinkState_begun (a0 a1 a2 s) (h : s.begun) : (takeLinkState a0 a1 a2 s).begun := by
  unfold takeLinkState; simp (maxDischargeDepth := 40) [h]

@[simp] theorem noticeReceive_begun (a0 a1 a2 s) (h : s.begun) : (noticeReceive a0 a1 a2 s).begun := by
  unfold noticeReceive
  split
  · exact h
  · next e =>
    have := takeControl_begun _ _ _ _ e h
    split
    · exact this
    · cases a2 <;> simp [this]

@[simp] theorem masterLost_begun (s) (h : s.begun) : (masterLost s).begun := by
  unfold masterLost
  try simp +contextual (maxDischargeDepth := 40) [h]
  repeat' (first | (split <;> try simp +contextual (maxDischargeDepth := 40) [*]) | (refine foldl_begun _ _ _ (fun _ _ _ => ?_) ?_ <;> try simp +contextual (maxDischargeDepth := 40) [*]) | (refine orRefuse_begun _ _ _ _ _ _ ?_ (fun _ _ _ => ?_) <;> try simp +contextual (maxDischargeDepth := 40) [*]) | (intro _ <;> try simp +contextual (maxDischargeDepth := 40) [*]))

@[simp] theorem releaseHeldWrite_begun (a0 s) (h : s.begun) : (releaseHeldWrite a0 s).begun := by
  unfold releaseHeldWrite; simp [h]

@[simp] theorem commitNotice_begun (a0 a1 a2 s) (h : s.begun) : (commitNotice a0 a1 a2 s).begun := by
  unfold commitNotice
  split
  · exact h
  · next e =>
    have := takeNotice_begun _ _ _ e h
    exact foldl_begun _ _ _ (fun _ _ _ => by simp [*]) this

@[simp] theorem rollbackNotice_begun (a0 a1 a2 s) (h : s.begun) : (rollbackNotice a0 a1 a2 s).begun := by
  unfold rollbackNotice
  split
  · exact h
  · next e =>
    have := takeNotice_begun _ _ _ e h
    exact this

@[simp] theorem holdStep_begun (a0 a1 s) (h : s.begun) : (holdStep a0 a1 s).begun := by
  unfold holdStep
  try simp +contextual (maxDischargeDepth := 40) [h]
  repeat' (first | (split <;> try simp +contextual (maxDischargeDepth := 40) [*]) | (refine foldl_begun _ _ _ (fun _ _ _ => ?_) ?_ <;> try simp +contextual (maxDischargeDepth := 40) [*]) | (refine orRefuse_begun _ _ _ _ _ _ ?_ (fun _ _ _ => ?_) <;> try simp +contextual (maxDischargeDepth := 40) [*]))

@[simp] theorem writeAck_begun (a0 a1 a2 s) (h : s.begun) : (writeAck a0 a1 a2 s).begun := by
  unfold writeAck; simp [h]

@[simp] theorem unackedStep_begun (s) (h : s.begun) : (unackedStep s).begun := by
  unfold unackedStep
  try simp +contextual (maxDischargeDepth := 40) [h]
  repeat' (first | (split <;> try simp +contextual (maxDischargeDepth := 40) [*]) | (refine foldl_begun _ _ _ (fun _ _ _ => ?_) ?_ <;> try simp +contextual (maxDischargeDepth := 40) [*]) | (refine orRefuse_begun _ _ _ _ _ _ ?_ (fun _ _ _ => ?_) <;> try simp +contextual (maxDischargeDepth := 40) [*]))

@[simp] theorem readResend_begun (a0 s) (h : s.begun) : (readResend a0 s).begun := by
  unfold readResend
  try simp +contextual (maxDischargeDepth := 40) [h]
  repeat' (first | (split <;> try simp +contextual (maxDischargeDepth := 40) [*]) | (refine foldl_begun _ _ _ (fun _ _ _ => ?_) ?_ <;> try simp +contextual (maxDischargeDepth := 40) [*]) | (refine orRefuse_begun _ _ _ _ _ _ ?_ (fun _ _ _ => ?_) <;> try simp +contextual (maxDischargeDepth := 40) [*]) | (intro _ <;> try simp +contextual (maxDischargeDepth := 40) [*]))

@[simp] theorem routeError_begun (a0 a1 s) (h : s.begun) : (routeError a0 a1 s).begun := by
  unfold routeError; simp [h]

@[simp] theorem deliverPacket_begun (a0 a1 s) (h : s.begun) : (deliverPacket a0 a1 s).begun := by
  unfold deliverPacket
  try simp +contextual (maxDischargeDepth := 40) [h]
  repeat' (first | (split <;> try simp +contextual (maxDischargeDepth := 40) [*]) | (refine foldl_begun _ _ _ (fun _ _ _ => ?_) ?_ <;> try simp +contextual (maxDischargeDepth := 40) [*]) | (refine orRefuse_begun _ _ _ _ _ _ ?_ (fun _ _ _ => ?_) <;> try simp +contextual (maxDischargeDepth := 40) [*]) | (intro _ <;> try simp +contextual (maxDischargeDepth := 40) [*]))

@[simp] theorem fibreTake_begun (a0 a1 s) (h : s.begun) : (fibreTake a0 a1 s).begun := by
  exact h

@[simp] theorem fibreStep_begun (a0 a1 a2 s) (h : s.begun) : (fibreStep a0 a1 a2 s).begun := by
  unfold fibreStep; simp (maxDischargeDepth := 40) [h]

@[simp] theorem trainStep_begun (a0 a1 a2 a3 a4 s) (h : s.begun) : (trainStep a0 a1 a2 a3 a4 s).begun := by
  unfold trainStep; simp (maxDischargeDepth := 40) [h]

@[simp] theorem remoteRequest_begun (a0 a1 s) (h : s.begun) : (remoteRequest a0 a1 s).begun := by
  unfold remoteRequest
  try simp +contextual (maxDischargeDepth := 40) [h]
  repeat' (first | (split <;> try simp +contextual (maxDischargeDepth := 40) [*]) | (refine foldl_begun _ _ _ (fun _ _ _ => ?_) ?_ <;> try simp +contextual (maxDischargeDepth := 40) [*]) | (refine orRefuse_begun _ _ _ _ _ _ ?_ (fun _ _ _ => ?_) <;> try simp +contextual (maxDischargeDepth := 40) [*]))

end Sys2Proof.Machine
end

