-- ==== Sys2Proof/Laws/BegunPorts.lean ====
section
/-!
SUPPORT. Every function of debug, Ethernet and Ecden on states keeps the mark that the first stamp has been issued. Resets and power loss clear it and are not named.
-/

-- One proof after another: in parallel each asks for a thread and its stack.
set_option Elab.async false
set_option linter.all false

namespace Sys2Proof.Machine

@[simp] theorem releaseTrigger_begun (s) (h : s.begun) : (releaseTrigger s).begun := by
  unfold releaseTrigger
  try simp +contextual (maxDischargeDepth := 40) [h]
  repeat' (first | (split <;> try simp +contextual (maxDischargeDepth := 40) [*]) | (refine foldl_begun _ _ _ (fun _ _ _ => ?_) ?_ <;> try simp +contextual (maxDischargeDepth := 40) [*]) | (refine orRefuse_begun _ _ _ _ _ _ ?_ (fun _ _ _ => ?_) <;> try simp +contextual (maxDischargeDepth := 40) [*]))

@[simp] theorem runAgain_begun (s) (h : s.begun) : (runAgain s).begun := by
  unfold runAgain
  try simp +contextual (maxDischargeDepth := 40) [h]
  repeat' (first | (split <;> try simp +contextual (maxDischargeDepth := 40) [*]) | (refine foldl_begun _ _ _ (fun _ _ _ => ?_) ?_ <;> try simp +contextual (maxDischargeDepth := 40) [*]) | (refine orRefuse_begun _ _ _ _ _ _ ?_ (fun _ _ _ => ?_) <;> try simp +contextual (maxDischargeDepth := 40) [*]))

@[simp] theorem dropHalts_begun (s) (h : s.begun) : (dropHalts s).begun := by
  unfold dropHalts; simp +contextual (maxDischargeDepth := 40) [h]

@[simp] theorem setLevel_begun (a0 a1 s) (h : s.begun) : (setLevel a0 a1 s).begun := by
  unfold setLevel
  try simp +contextual (maxDischargeDepth := 40) [h]
  repeat' (first | (split <;> try simp +contextual (maxDischargeDepth := 40) [*]) | (refine foldl_begun _ _ _ (fun _ _ _ => ?_) ?_ <;> try simp +contextual (maxDischargeDepth := 40) [*]) | (refine orRefuse_begun _ _ _ _ _ _ ?_ (fun _ _ _ => ?_) <;> try simp +contextual (maxDischargeDepth := 40) [*]))

@[simp] theorem lowerDebug_begun (a0 a1 a2 s) (h : s.begun) : (lowerDebug a0 a1 a2 s).begun := by
  unfold lowerDebug; simp (maxDischargeDepth := 40) [h]

@[simp] theorem lowerAllDebug_begun (a0 a1 s) (h : s.begun) : (lowerAllDebug a0 a1 s).begun := by
  unfold lowerAllDebug; simp +contextual (maxDischargeDepth := 40) [h]

@[simp] theorem invalidStep_begun (a0 a1 s) (h : s.begun) : (invalidStep a0 a1 s).begun := by
  unfold invalidStep; simp [h]

@[simp] theorem pauseCheck_begun (a0 s) (h : s.begun) : (pauseCheck a0 s).begun := by
  unfold pauseCheck; simp (maxDischargeDepth := 40) [h]

@[simp] theorem bufferTake_begun (a0 a1 s) (h : s.begun) : (bufferTake a0 a1 s).begun := by
  unfold bufferTake; simp [h]

@[simp] theorem bufferGive_begun (a0 a1 s) (h : s.begun) : (bufferGive a0 a1 s).begun := by
  unfold bufferGive; simp [h]

@[simp] theorem bufferFullStep_begun (a0 a1 s) (h : s.begun) : (bufferFullStep a0 a1 s).begun := by
  unfold bufferFullStep; simp (maxDischargeDepth := 40) [h]

@[simp] theorem pfcStep_begun (a0 a1 a2 s) (h : s.begun) : (pfcStep a0 a1 a2 s).begun := by
  unfold pfcStep; simp (maxDischargeDepth := 40) [h]

@[simp] theorem arpStep_begun (a0 a1 a2 a3 s) (h : s.begun) : (arpStep a0 a1 a2 a3 s).begun := by
  unfold arpStep; simp [h]

@[simp] theorem neighborStep_begun (a0 a1 a2 a3 s) (h : s.begun) : (neighborStep a0 a1 a2 a3 s).begun := by
  unfold neighborStep; simp [h]

@[simp] theorem portLinkStep_begun (a0 a1 s) (h : s.begun) : (portLinkStep a0 a1 s).begun := by
  unfold portLinkStep; simp (maxDischargeDepth := 40) [h]

@[simp] theorem strandedNotice_begun (a0 s) (h : s.begun) : (strandedNotice a0 s).begun := by
  unfold strandedNotice; simp [h]

@[simp] theorem strandedAnswer_begun (a0 s) (h : s.begun) : (strandedAnswer a0 s).begun := by
  unfold strandedAnswer
  try simp +contextual (maxDischargeDepth := 40) [h]
  repeat' (first | (split <;> try simp +contextual (maxDischargeDepth := 40) [*]) | (refine foldl_begun _ _ _ (fun _ _ _ => ?_) ?_ <;> try simp +contextual (maxDischargeDepth := 40) [*]) | (refine orRefuse_begun _ _ _ _ _ _ ?_ (fun _ _ _ => ?_) <;> try simp +contextual (maxDischargeDepth := 40) [*]))

@[simp] theorem onFrame_begun (f k s) (hs : s.begun) (h : ∀ s, s.begun → (k s).begun) : (onFrame f k s).begun := by
  unfold onFrame
  split
  · exact hs
  · split <;> simp (maxDischargeDepth := 40) [h, hs]

@[simp] theorem dropSession_begun (a0 a1 a2 s) (h : s.begun) : (dropSession a0 a1 a2 s).begun := by
  unfold dropSession; simp +contextual (maxDischargeDepth := 40) [h]

@[simp] theorem freeSession_begun (a0 s) (h : s.begun) : (freeSession a0 s).begun := by
  unfold freeSession; simp [h]

@[simp] theorem strandSession_begun (a0 s) (h : s.begun) : (strandSession a0 s).begun := by
  unfold strandSession; simp (maxDischargeDepth := 40) [h]

@[simp] theorem bargeAcked_begun (a0 s) (h : s.begun) : (bargeAcked a0 s).begun := by
  unfold bargeAcked
  try simp +contextual (maxDischargeDepth := 40) [h]
  repeat' (first | (split <;> try simp +contextual (maxDischargeDepth := 40) [*]) | (refine foldl_begun _ _ _ (fun _ _ _ => ?_) ?_ <;> try simp +contextual (maxDischargeDepth := 40) [*]) | (refine orRefuse_begun _ _ _ _ _ _ ?_ (fun _ _ _ => ?_) <;> try simp +contextual (maxDischargeDepth := 40) [*]))

@[simp] theorem takeAck_begun (a0 a1 a2 a3 s) (h : s.begun) : (takeAck a0 a1 a2 a3 s).begun := by
  unfold takeAck; simp +contextual (maxDischargeDepth := 40) [h]

@[simp] theorem rebind_begun (a0 a1 s) (h : s.begun) : (rebind a0 a1 s).begun := by
  exact h

@[simp] theorem ackSoon_begun (a0 s) (h : s.begun) : (ackSoon a0 s).begun := by
  exact h

@[simp] theorem acceptSeq_begun (a0 a1 s) (h : s.begun) : (acceptSeq a0 a1 s).begun := by
  unfold acceptSeq; simp (maxDischargeDepth := 40) [h]

@[simp] theorem releaseHeldFrame_begun (a0 a1 s) (h : s.begun) : (releaseHeldFrame a0 a1 s).begun := by
  unfold releaseHeldFrame; simp [h]

theorem deliverData_begun {i x s t} (hs : s.begun) (h : deliverData i x s = some t) : t.begun := by
  unfold deliverData at h
  dsimp only at h
  repeat' (split at h)
  all_goals (first | cases h | skip)
  all_goals (simp (maxDischargeDepth := 40) [hs])

@[simp] theorem unblock_begun (a0 s) (h : s.begun) : (unblock a0 s).begun := by
  unfold unblock; simp (maxDischargeDepth := 40) [h]

@[simp] theorem deliverOne_begun (i s) (h : s.begun) : (deliverOne i s).2.begun := by
  unfold deliverOne
  split
  · exact h
  · split
    · split <;> simp (maxDischargeDepth := 40) [h]
    · split
      · split
        · rename_i e; simp (maxDischargeDepth := 40) [deliverData_begun h e]
        · simp (maxDischargeDepth := 40) [h]
      · simp (maxDischargeDepth := 40) [h]

@[simp] theorem resend_begun (a0 a1 s) (h : s.begun) : (resend a0 a1 s).begun := by
  unfold resend; simp [h]

theorem sendMailOne_begun (i s t) (h : sendMailOne i s = some t) (hs : s.begun) : t.begun := by
  unfold sendMailOne at h
  dsimp only at h
  repeat' (split at h)
  all_goals (first | cases h | skip)
  all_goals (simp (maxDischargeDepth := 40) [hs])

theorem sendDataOne_begun (i s t) (h : sendDataOne i s = some t) (hs : s.begun) : t.begun := by
  unfold sendDataOne at h
  dsimp only at h
  repeat' (split at h)
  all_goals (first | cases h | skip)
  all_goals (simp (maxDischargeDepth := 40) [hs])

theorem upTo_begun (f n s) (hs : s.begun) (h : ∀ s t, f s = some t → s.begun → t.begun) : (upTo f n s).2.begun := by
  induction n generalizing s with
  | zero => exact hs
  | succ n ih =>
    unfold upTo
    split
    · exact hs
    · rename_i e; exact ih _ (h _ _ e hs)

@[simp] theorem deliverUpTo_begun (i n s) (h : s.begun) : (deliverUpTo i n s).2.begun := by
  induction n generalizing s with
  | zero => exact h
  | succ n ih =>
    unfold deliverUpTo
    split <;> rename_i e <;> have hh := begun_of_snd e (deliverOne_begun i s h) <;> simp (maxDischargeDepth := 40) [ih, hh]

@[simp] theorem visit_begun (i s) (h : s.begun) : (visit i s).begun := by
  unfold visit
  dsimp only
  split
  · simp (maxDischargeDepth := 40) [h]
  · have a : (upTo (fun s => (firstDue s i).map fun t => resend i t s) 4 s).2.begun := by
      refine upTo_begun _ _ _ h fun s t h hs => ?_
      cases e : firstDue s i <;> rw [e] at h <;> cases h
      simp (maxDischargeDepth := 40) [hs]
    have b := fun n => upTo_begun (sendMailOne i) n _ a (sendMailOne_begun i)
    have c := fun n m => deliverUpTo_begun i m _ (b n)
    split
    · exact c _ _
    · exact upTo_begun _ _ _ (c _ _) (sendDataOne_begun i)

@[simp] theorem malformedStep_begun (a0 s) (h : s.begun) : (malformedStep a0 s).begun := by
  unfold malformedStep
  try simp +contextual (maxDischargeDepth := 40) [h]
  repeat' (first | (split <;> try simp +contextual (maxDischargeDepth := 40) [*]) | (refine foldl_begun _ _ _ (fun _ _ _ => ?_) ?_ <;> try simp +contextual (maxDischargeDepth := 40) [*]) | (refine orRefuse_begun _ _ _ _ _ _ ?_ (fun _ _ _ => ?_) <;> try simp +contextual (maxDischargeDepth := 40) [*]))

@[simp] theorem authFailStep_begun (a0 s) (h : s.begun) : (authFailStep a0 s).begun := by
  unfold authFailStep
  try simp +contextual (maxDischargeDepth := 40) [h]
  repeat' (first | (split <;> try simp +contextual (maxDischargeDepth := 40) [*]) | (refine foldl_begun _ _ _ (fun _ _ _ => ?_) ?_ <;> try simp +contextual (maxDischargeDepth := 40) [*]) | (refine orRefuse_begun _ _ _ _ _ _ ?_ (fun _ _ _ => ?_) <;> try simp +contextual (maxDischargeDepth := 40) [*]))

@[simp] theorem unknownStep_begun (a0 s) (h : s.begun) : (unknownStep a0 s).begun := by
  unfold unknownStep; simp (maxDischargeDepth := 40) [h]

@[simp] theorem sendOpenReply_begun (a0 a1 s) (h : s.begun) : (sendOpenReply a0 a1 s).begun := by
  unfold sendOpenReply; simp [h]

@[simp] theorem answerOpen_begun (a0 a1 s) (h : s.begun) : (answerOpen a0 a1 s).begun := by
  unfold answerOpen; simp [h]

@[simp] theorem openSession_begun (a0 a1 s) (h : s.begun) : (openSession a0 a1 s).begun := by
  unfold openSession; simp (maxDischargeDepth := 40) [h]

@[simp] theorem openStep_begun (a0 s) (h : s.begun) : (openStep a0 s).begun := by
  unfold openStep
  try simp +contextual (maxDischargeDepth := 40) [h]
  repeat' (first | (split <;> try simp +contextual (maxDischargeDepth := 40) [*]) | (refine foldl_begun _ _ _ (fun _ _ _ => ?_) ?_ <;> try simp +contextual (maxDischargeDepth := 40) [*]) | (refine orRefuse_begun _ _ _ _ _ _ ?_ (fun _ _ _ => ?_) <;> try simp +contextual (maxDischargeDepth := 40) [*]))

@[simp] theorem deliverNew_begun (a0 a1 s) (h : s.begun) : (deliverNew a0 a1 s).begun := by
  unfold deliverNew; simp [h]

@[simp] theorem sequencedStep_begun (a0 a1 s) (h : s.begun) : (sequencedStep a0 a1 s).begun := by
  unfold sequencedStep
  try simp +contextual (maxDischargeDepth := 40) [h]
  repeat' (first | (split <;> try simp +contextual (maxDischargeDepth := 40) [*]) | (refine foldl_begun _ _ _ (fun _ _ _ => ?_) ?_ <;> try simp +contextual (maxDischargeDepth := 40) [*]) | (refine orRefuse_begun _ _ _ _ _ _ ?_ (fun _ _ _ => ?_) <;> try simp +contextual (maxDischargeDepth := 40) [*]))

@[simp] theorem ackFrameStep_begun (a0 s) (h : s.begun) : (ackFrameStep a0 s).begun := by
  unfold ackFrameStep
  try simp +contextual (maxDischargeDepth := 40) [h]
  repeat' (first | (split <;> try simp +contextual (maxDischargeDepth := 40) [*]) | (refine foldl_begun _ _ _ (fun _ _ _ => ?_) ?_ <;> try simp +contextual (maxDischargeDepth := 40) [*]) | (refine orRefuse_begun _ _ _ _ _ _ ?_ (fun _ _ _ => ?_) <;> try simp +contextual (maxDischargeDepth := 40) [*]))

@[simp] theorem ackTimerStep_begun (a0 s) (h : s.begun) : (ackTimerStep a0 s).begun := by
  unfold ackTimerStep; simp [h]

@[simp] theorem creditRiseStep_begun (a0 s) (h : s.begun) : (creditRiseStep a0 s).begun := by
  unfold creditRiseStep; simp [h]

@[simp] theorem visitStep_begun (a0 s) (h : s.begun) : (visitStep a0 s).begun := by
  unfold visitStep; simp (maxDischargeDepth := 40) [h]

@[simp] theorem retransmitStep_begun (a0 a1 s) (h : s.begun) : (retransmitStep a0 a1 s).begun := by
  unfold retransmitStep
  try simp +contextual (maxDischargeDepth := 40) [h]
  repeat' (first | (split <;> try simp +contextual (maxDischargeDepth := 40) [*]) | (refine foldl_begun _ _ _ (fun _ _ _ => ?_) ?_ <;> try simp +contextual (maxDischargeDepth := 40) [*]) | (refine orRefuse_begun _ _ _ _ _ _ ?_ (fun _ _ _ => ?_) <;> try simp +contextual (maxDischargeDepth := 40) [*]))

@[simp] theorem strandStep_begun (a0 s) (h : s.begun) : (strandStep a0 s).begun := by
  unfold strandStep; simp [h]

@[simp] theorem indexFreeStep_begun (a0 s) (h : s.begun) : (indexFreeStep a0 s).begun := by
  unfold indexFreeStep; simp [h]

end Sys2Proof.Machine
end

