-- ==== Sys2Proof/Laws/BegunPower.lean ====
section
/-!
SUPPORT. Every function of flash, power and configuration on states keeps the mark that the first stamp has been issued. Resets and power loss clear it and are not named.
-/

-- One proof after another: in parallel each asks for a thread and its stack.
set_option Elab.async false
set_option linter.all false

namespace Sys2Proof.Machine

@[simp] theorem updRecord_begun (a0 a1 s) (h : s.begun) : (updRecord a0 a1 s).begun := by
  exact h

@[simp] theorem recordForce_begun (a0 s) (h : s.begun) : (recordForce a0 s).begun := by
  unfold recordForce
  try simp +contextual (maxDischargeDepth := 40) [h]
  repeat' (first | (split <;> try simp +contextual (maxDischargeDepth := 40) [*]) | (refine foldl_begun _ _ _ (fun _ _ _ => ?_) ?_ <;> try simp +contextual (maxDischargeDepth := 40) [*]) | (refine orRefuse_begun _ _ _ _ _ _ ?_ (fun _ _ _ => ?_) <;> try simp +contextual (maxDischargeDepth := 40) [*]))

@[simp] theorem storeRecord_begun (a0 a1 s) (h : s.begun) : (storeRecord a0 a1 s).2.begun := by
  unfold storeRecord; simp [h]

@[simp] theorem eraseCopy_begun (a0 a1 s) (h : s.begun) : (eraseCopy a0 a1 s).begun := by
  exact h

@[simp] theorem storeNow_begun (kind d s) (h : s.begun) : (storeNow kind d s).begun := by
  unfold storeNow
  split <;> rename_i e <;> have hh := begun_of_snd e (storeRecord_begun _ _ _ h) <;> simp (maxDischargeDepth := 40) [hh]

@[simp] theorem flashAdd_begun (a0 s) (h : s.begun) : (flashAdd a0 s).begun := by
  exact h

@[simp] theorem flashNext_begun (a0 s) (h : s.begun) : (flashNext a0 s).begun := by
  unfold flashNext
  try simp +contextual (maxDischargeDepth := 40) [h]
  repeat' (first | (split <;> try simp +contextual (maxDischargeDepth := 40) [*]) | (refine foldl_begun _ _ _ (fun _ _ _ => ?_) ?_ <;> try simp +contextual (maxDischargeDepth := 40) [*]) | (refine orRefuse_begun _ _ _ _ _ _ ?_ (fun _ _ _ => ?_) <;> try simp +contextual (maxDischargeDepth := 40) [*]))

@[simp] theorem flashSuspend_begun (a0 s) (h : s.begun) : (flashSuspend a0 s).begun := by
  unfold flashSuspend
  try simp +contextual (maxDischargeDepth := 40) [h]
  repeat' (first | (split <;> try simp +contextual (maxDischargeDepth := 40) [*]) | (refine foldl_begun _ _ _ (fun _ _ _ => ?_) ?_ <;> try simp +contextual (maxDischargeDepth := 40) [*]) | (refine orRefuse_begun _ _ _ _ _ _ ?_ (fun _ _ _ => ?_) <;> try simp +contextual (maxDischargeDepth := 40) [*]))

@[simp] theorem writeKeys_begun (s) (h : s.begun) : (writeKeys s).begun := by
  exact h

@[simp] theorem wipeSecure_begun (s) (h : s.begun) : (wipeSecure s).begun := by
  exact h

@[simp] theorem forgetScratch_begun (a0 s) (h : s.begun) : (forgetScratch a0 s).begun := by
  exact h

@[simp] theorem wipeNow_begun (s) (h : s.begun) : (wipeNow s).begun := by
  exact h

@[simp] theorem fullWipe_begun (a0 s) (h : s.begun) : (fullWipe a0 s).begun := by
  exact h

@[simp] theorem attestReport_begun (a0 a1 s) (h : s.begun) : (attestReport a0 a1 s).2.begun := by
  exact h

@[simp] theorem setJob_begun (a0 a1 s) (h : s.begun) : (setJob a0 a1 s).begun := by
  exact h

@[simp] theorem attestReserve_begun (a0 s) (h : s.begun) : (attestReserve a0 s).begun := by
  unfold attestReserve
  try simp +contextual (maxDischargeDepth := 40) [h]
  repeat' (first | (split <;> try simp +contextual (maxDischargeDepth := 40) [*]) | (refine foldl_begun _ _ _ (fun _ _ _ => ?_) ?_ <;> try simp +contextual (maxDischargeDepth := 40) [*]) | (refine orRefuse_begun _ _ _ _ _ _ ?_ (fun _ _ _ => ?_) <;> try simp +contextual (maxDischargeDepth := 40) [*]))

@[simp] theorem attestSign_begun (a0 s) (h : s.begun) : (attestSign a0 s).begun := by
  unfold attestSign
  try simp +contextual (maxDischargeDepth := 40) [h]
  repeat' (first | (split <;> try simp +contextual (maxDischargeDepth := 40) [*]) | (refine foldl_begun _ _ _ (fun _ _ _ => ?_) ?_ <;> try simp +contextual (maxDischargeDepth := 40) [*]) | (refine orRefuse_begun _ _ _ _ _ _ ?_ (fun _ _ _ => ?_) <;> try simp +contextual (maxDischargeDepth := 40) [*]))

@[simp] theorem confirmed_begun (s) (h : s.begun) : (confirmed s).begun := by
  exact h

@[simp] theorem afterFlash_begun (a0 s) (h : s.begun) : (afterFlash a0 s).begun := by
  unfold afterFlash
  try simp +contextual (maxDischargeDepth := 40) [h]
  repeat' (first | (split <;> try simp +contextual (maxDischargeDepth := 40) [*]) | (refine foldl_begun _ _ _ (fun _ _ _ => ?_) ?_ <;> try simp +contextual (maxDischargeDepth := 40) [*]) | (refine orRefuse_begun _ _ _ _ _ _ ?_ (fun _ _ _ => ?_) <;> try simp +contextual (maxDischargeDepth := 40) [*]))

@[simp] theorem writeDone_begun (s) (h : s.begun) : (writeDone s).begun := by
  unfold writeDone
  try simp +contextual (maxDischargeDepth := 40) [h]
  repeat' (first | (split <;> try simp +contextual (maxDischargeDepth := 40) [*]) | (refine foldl_begun _ _ _ (fun _ _ _ => ?_) ?_ <;> try simp +contextual (maxDischargeDepth := 40) [*]) | (refine orRefuse_begun _ _ _ _ _ _ ?_ (fun _ _ _ => ?_) <;> try simp +contextual (maxDischargeDepth := 40) [*]))

@[simp] theorem eraseDone_begun (s) (h : s.begun) : (eraseDone s).begun := by
  unfold eraseDone
  try simp +contextual (maxDischargeDepth := 40) [h]
  repeat' (first | (split <;> try simp +contextual (maxDischargeDepth := 40) [*]) | (refine foldl_begun _ _ _ (fun _ _ _ => ?_) ?_ <;> try simp +contextual (maxDischargeDepth := 40) [*]) | (refine orRefuse_begun _ _ _ _ _ _ ?_ (fun _ _ _ => ?_) <;> try simp +contextual (maxDischargeDepth := 40) [*]))

@[simp] theorem programDone_begun (s) (h : s.begun) : (programDone s).begun := by
  unfold programDone
  try simp +contextual (maxDischargeDepth := 40) [h]
  repeat' (first | (split <;> try simp +contextual (maxDischargeDepth := 40) [*]) | (refine foldl_begun _ _ _ (fun _ _ _ => ?_) ?_ <;> try simp +contextual (maxDischargeDepth := 40) [*]) | (refine orRefuse_begun _ _ _ _ _ _ ?_ (fun _ _ _ => ?_) <;> try simp +contextual (maxDischargeDepth := 40) [*]))

@[simp] theorem tripStored_begun (s) (h : s.begun) : (tripStored s).begun := by
  unfold tripStored
  try simp +contextual (maxDischargeDepth := 40) [h]
  repeat' (first | (split <;> try simp +contextual (maxDischargeDepth := 40) [*]) | (refine foldl_begun _ _ _ (fun _ _ _ => ?_) ?_ <;> try simp +contextual (maxDischargeDepth := 40) [*]) | (refine orRefuse_begun _ _ _ _ _ _ ?_ (fun _ _ _ => ?_) <;> try simp +contextual (maxDischargeDepth := 40) [*]))

@[simp] theorem tear_begun (a0 s) (h : s.begun) : (tear a0 s).begun := by
  unfold tear
  try simp +contextual (maxDischargeDepth := 40) [h]
  repeat' (first | (split <;> try simp +contextual (maxDischargeDepth := 40) [*]) | (refine foldl_begun _ _ _ (fun _ _ _ => ?_) ?_ <;> try simp +contextual (maxDischargeDepth := 40) [*]) | (refine orRefuse_begun _ _ _ _ _ _ ?_ (fun _ _ _ => ?_) <;> try simp +contextual (maxDischargeDepth := 40) [*]))

@[simp] theorem flashCut_begun (s) (h : s.begun) : (flashCut s).begun := by
  unfold flashCut
  try simp +contextual (maxDischargeDepth := 40) [h]
  repeat' (first | (split <;> try simp +contextual (maxDischargeDepth := 40) [*]) | (refine foldl_begun _ _ _ (fun _ _ _ => ?_) ?_ <;> try simp +contextual (maxDischargeDepth := 40) [*]) | (refine orRefuse_begun _ _ _ _ _ _ ?_ (fun _ _ _ => ?_) <;> try simp +contextual (maxDischargeDepth := 40) [*]))

@[simp] theorem stacksOff_begun (s) (h : s.begun) : (stacksOff s).begun := by
  exact h

@[simp] theorem stackOn_begun (a0 s) (h : s.begun) : (stackOn a0 s).begun := by
  exact h

@[simp] theorem markDark_begun (a0 s) (h : s.begun) : (markDark a0 s).begun := by
  exact h

@[simp] theorem lightOff_begun (s) (h : s.begun) : (lightOff s).begun := by
  unfold lightOff
  exact setLinks_begun _ _ _ h

@[simp] theorem lightOn_begun (a0 s) (h : s.begun) : (lightOn a0 s).begun := by
  exact h

@[simp] theorem baseLinksUp_begun (s) (h : s.begun) : (baseLinksUp s).begun := setLinks_begun _ _ _ h

@[simp] theorem leavePartition_begun (s) (h : s.begun) : (leavePartition s).begun := by
  unfold leavePartition; simp [h]

@[simp] theorem discardPound_begun (s) (h : s.begun) : (discardPound s).begun := by
  unfold discardPound
  try simp +contextual (maxDischargeDepth := 40) [h]
  repeat' (first | (split <;> try simp +contextual (maxDischargeDepth := 40) [*]) | (refine foldl_begun _ _ _ (fun _ _ _ => ?_) ?_ <;> try simp +contextual (maxDischargeDepth := 40) [*]) | (refine orRefuse_begun _ _ _ _ _ _ ?_ (fun _ _ _ => ?_) <;> try simp +contextual (maxDischargeDepth := 40) [*]) | (intro _ <;> try simp +contextual (maxDischargeDepth := 40) [*]))

@[simp] theorem openPound_begun (s) (h : s.begun) : (openPound s).begun := by
  exact h

@[simp] theorem endJobs_begun (a0 a1 s) (h : s.begun) : (endJobs a0 a1 s).begun := by
  unfold endJobs; simp +contextual (maxDischargeDepth := 40) [h]

@[simp] theorem closeSessions_begun (a0 a1 s) (h : s.begun) : (closeSessions a0 a1 s).begun := by
  exact h

@[simp] theorem enterStandby_begun (s) (h : s.begun) : (enterStandby s).begun := by
  unfold enterStandby; simp (maxDischargeDepth := 40) [h]

@[simp] theorem closePortB_begun (s) (h : s.begun) : (closePortB s).begun := by
  exact h

@[simp] theorem scheduleAll_begun (s) (h : s.begun) : (scheduleAll s).begun := by
  unfold scheduleAll
  exact foldl_begun _ _ _ (fun s k h => by simp (maxDischargeDepth := 40) [h]) h

@[simp] theorem startTransition_begun (a0 a1 a2 a3 s) (h : s.begun) : (startTransition a0 a1 a2 a3 s).begun := by
  unfold startTransition; simp (maxDischargeDepth := 40) [h]

@[simp] theorem leaveDark_begun (s) (h : s.begun) : (leaveDark s).begun := by
  unfold leaveDark
  dsimp only
  refine foldl_begun _ _ _ (fun s k h => stackOn_begun _ _ h) ?_
  rw [begun_mk]
  exact begun_field _ (trackAll_begun _ (baseLinksUp_begun _ (lightOn_begun _ _ h)))

@[simp] theorem enterDark_begun (s) (h : s.begun) : (enterDark s).begun := by
  unfold enterDark
  generalize List.range 8 = l
  dsimp only
  refine leavePartition_begun _ (lightOff_begun _ (stacksOff_begun _ (markDark_begun _ _ ?_)))
  refine foldl_begun _ _ _ (fun s k h => ?_) (endBarges_begun _ _ _ h)
  exact updMemBerth_begun _ _ _ (foldl_begun _ _ _ (fun s k h => foldStep_begun _ _ h) h)

@[simp] theorem meshes_begun (a0 s) (h : s.begun) : (meshes a0 s).begun := by
  exact h

@[simp] theorem finishTransition_begun (a0 s) (h : s.begun) : (finishTransition a0 s).begun := by
  unfold finishTransition
  try simp +contextual (maxDischargeDepth := 40) [h]
  repeat' (first | (split <;> try simp +contextual (maxDischargeDepth := 40) [*]) | (refine foldl_begun _ _ _ (fun _ _ _ => ?_) ?_ <;> try simp +contextual (maxDischargeDepth := 40) [*]) | (refine orRefuse_begun _ _ _ _ _ _ ?_ (fun _ _ _ => ?_) <;> try simp +contextual (maxDischargeDepth := 40) [*]))

@[simp] theorem transitionStep_begun (s) (h : s.begun) : (transitionStep s).begun := by
  unfold transitionStep
  try simp +contextual (maxDischargeDepth := 40) [h]
  repeat' (first | (split <;> try simp +contextual (maxDischargeDepth := 40) [*]) | (refine foldl_begun _ _ _ (fun _ _ _ => ?_) ?_ <;> try simp +contextual (maxDischargeDepth := 40) [*]) | (refine orRefuse_begun _ _ _ _ _ _ ?_ (fun _ _ _ => ?_) <;> try simp +contextual (maxDischargeDepth := 40) [*]))

@[simp] theorem mailRbufCreate_begun (a0 a1 a2 s) (h : s.begun) : (mailRbufCreate a0 a1 a2 s).begun := by
  unfold mailRbufCreate; simp +contextual (maxDischargeDepth := 40) [h]

@[simp] theorem rbufAnswer_begun (job c base s) (h : s.begun) : (rbufAnswer job c base s).begun := by
  unfold rbufAnswer
  split
  · split
    · simp (maxDischargeDepth := 40) [h]
    · split
      · simp (maxDischargeDepth := 40) [h]
      · rename_i e; simp (maxDischargeDepth := 40) [createBuffer_begun h e]
  · exact h

@[simp] theorem rbufTimeout_begun (a0 s) (h : s.begun) : (rbufTimeout a0 s).begun := by
  unfold rbufTimeout
  try simp +contextual (maxDischargeDepth := 40) [h]
  repeat' (first | (split <;> try simp +contextual (maxDischargeDepth := 40) [*]) | (refine foldl_begun _ _ _ (fun _ _ _ => ?_) ?_ <;> try simp +contextual (maxDischargeDepth := 40) [*]) | (refine orRefuse_begun _ _ _ _ _ _ ?_ (fun _ _ _ => ?_) <;> try simp +contextual (maxDischargeDepth := 40) [*]))

@[simp] theorem flashWrite_begun (a0 a1 a2 a3 a4 s) (h : s.begun) : (flashWrite a0 a1 a2 a3 a4 s).begun := by
  exact h

@[simp] theorem mailFlatSet_begun (a0 a1 a2 s) (h : s.begun) : (mailFlatSet a0 a1 a2 s).begun := by
  unfold mailFlatSet; simp (maxDischargeDepth := 40) [h]

@[simp] theorem mailConfigRead_begun (a0 a1 a2 s) (h : s.begun) : (mailConfigRead a0 a1 a2 s).begun := by
  unfold mailConfigRead; simp [h]

@[simp] theorem mailConfigWrite_begun (a0 a1 a2 s) (h : s.begun) : (mailConfigWrite a0 a1 a2 s).begun := by
  unfold mailConfigWrite; simp (maxDischargeDepth := 40) [h]

@[simp] theorem mailPassageOpen_begun (a0 a1 a2 s) (h : s.begun) : (mailPassageOpen a0 a1 a2 s).begun := by
  unfold mailPassageOpen
  try simp +contextual (maxDischargeDepth := 40) [h]
  repeat' (first | (split <;> try simp +contextual (maxDischargeDepth := 40) [*]) | (refine foldl_begun _ _ _ (fun _ _ _ => ?_) ?_ <;> try simp +contextual (maxDischargeDepth := 40) [*]) | (refine orRefuse_begun _ _ _ _ _ _ ?_ (fun _ _ _ => ?_) <;> try simp +contextual (maxDischargeDepth := 40) [*]))

@[simp] theorem passageConfirmed_begun (a0 s) (h : s.begun) : (passageConfirmed a0 s).begun := by
  unfold passageConfirmed
  try simp +contextual (maxDischargeDepth := 40) [h]
  repeat' (first | (split <;> try simp +contextual (maxDischargeDepth := 40) [*]) | (refine foldl_begun _ _ _ (fun _ _ _ => ?_) ?_ <;> try simp +contextual (maxDischargeDepth := 40) [*]) | (refine orRefuse_begun _ _ _ _ _ _ ?_ (fun _ _ _ => ?_) <;> try simp +contextual (maxDischargeDepth := 40) [*]))

@[simp] theorem mailPassageClose_begun (a0 a1 a2 s) (h : s.begun) : (mailPassageClose a0 a1 a2 s).begun := by
  unfold mailPassageClose; simp (maxDischargeDepth := 40) [h]

@[simp] theorem calibBytes_begun (s) (h : s.begun) : (calibBytes s).2.begun := by
  exact h

@[simp] theorem mailCalibRead_begun (a0 a1 a2 s) (h : s.begun) : (mailCalibRead a0 a1 a2 s).begun := by
  unfold mailCalibRead; simp +contextual (maxDischargeDepth := 40) [h]

@[simp] theorem mailCalibWrite_begun (a0 a1 a2 s) (h : s.begun) : (mailCalibWrite a0 a1 a2 s).begun := by
  unfold mailCalibWrite
  try simp +contextual (maxDischargeDepth := 40) [h]
  repeat' (first | (split <;> try simp +contextual (maxDischargeDepth := 40) [*]) | (refine foldl_begun _ _ _ (fun _ _ _ => ?_) ?_ <;> try simp +contextual (maxDischargeDepth := 40) [*]) | (refine orRefuse_begun _ _ _ _ _ _ ?_ (fun _ _ _ => ?_) <;> try simp +contextual (maxDischargeDepth := 40) [*]) | (intro _ <;> try simp +contextual (maxDischargeDepth := 40) [*]))

@[simp] theorem mailPowerSet_begun (a0 a1 a2 s) (h : s.begun) : (mailPowerSet a0 a1 a2 s).begun := by
  unfold mailPowerSet; simp (maxDischargeDepth := 40) [h]

@[simp] theorem mailResume_begun (a0 a1 a2 s) (h : s.begun) : (mailResume a0 a1 a2 s).begun := by
  unfold mailResume; simp (maxDischargeDepth := 40) [h]

@[simp] theorem mailModuleReset_begun (a0 a1 a2 s) (h : s.begun) : (mailModuleReset a0 a1 a2 s).begun := by
  unfold mailModuleReset; simp [h]

@[simp] theorem mailUpdateStage_begun (a0 a1 a2 s) (h : s.begun) : (mailUpdateStage a0 a1 a2 s).begun := by
  unfold mailUpdateStage
  try simp +contextual (maxDischargeDepth := 40) [h]
  repeat' (first | (split <;> try simp +contextual (maxDischargeDepth := 40) [*]) | (refine foldl_begun _ _ _ (fun _ _ _ => ?_) ?_ <;> try simp +contextual (maxDischargeDepth := 40) [*]) | (refine orRefuse_begun _ _ _ _ _ _ ?_ (fun _ _ _ => ?_) <;> try simp +contextual (maxDischargeDepth := 40) [*]) | (intro _ <;> try simp +contextual (maxDischargeDepth := 40) [*]))

@[simp] theorem confirmImage_begun (a0 s) (h : s.begun) : (confirmImage a0 s).begun := by
  exact h

@[simp] theorem mailHealthConfirm_begun (a0 a1 a2 s) (h : s.begun) : (mailHealthConfirm a0 a1 a2 s).begun := by
  unfold mailHealthConfirm; simp (maxDischargeDepth := 40) [h]

@[simp] theorem mailAttest_begun (a0 a1 a2 s) (h : s.begun) : (mailAttest a0 a1 a2 s).begun := by
  unfold mailAttest; simp +contextual (maxDischargeDepth := 40) [h]

@[simp] theorem mailKeyInstall_begun (a0 a1 a2 s) (h : s.begun) : (mailKeyInstall a0 a1 a2 s).begun := by
  unfold mailKeyInstall; simp (maxDischargeDepth := 40) [h]

@[simp] theorem lcMove_begun (a0 a1 s) (h : s.begun) : (lcMove a0 a1 s).begun := by
  unfold lcMove; simp (maxDischargeDepth := 40) [h]

@[simp] theorem mailLifecycleSet_begun (a0 a1 a2 s) (h : s.begun) : (mailLifecycleSet a0 a1 a2 s).begun := by
  unfold mailLifecycleSet; simp (maxDischargeDepth := 40) [h]

@[simp] theorem openLevel_begun (a0 a1 s) (h : s.begun) : (openLevel a0 a1 s).begun := by
  unfold openLevel; simp (maxDischargeDepth := 40) [h]

@[simp] theorem mailDebugOpen_begun (a0 a1 a2 s) (h : s.begun) : (mailDebugOpen a0 a1 a2 s).begun := by
  unfold mailDebugOpen; simp (maxDischargeDepth := 40) [h]

@[simp] theorem debugOp_begun (src corr k s) (hs : s.begun) (h : ∀ s, s.begun → (k s).begun) : (debugOp src corr k s).begun := by
  unfold debugOp
  split <;> simp (maxDischargeDepth := 40) [h, hs]

@[simp] theorem mailDebugHalt_begun (a0 a1 a2 s) (h : s.begun) : (mailDebugHalt a0 a1 a2 s).begun := by
  unfold mailDebugHalt; simp +contextual (maxDischargeDepth := 40) [h]

@[simp] theorem mailDebugStep_begun (a0 a1 a2 s) (h : s.begun) : (mailDebugStep a0 a1 a2 s).begun := by
  unfold mailDebugStep; simp +contextual (maxDischargeDepth := 40) [h]

@[simp] theorem mailDebugRun_begun (a0 a1 a2 s) (h : s.begun) : (mailDebugRun a0 a1 a2 s).begun := by
  unfold mailDebugRun; simp +contextual (maxDischargeDepth := 40) [h]

@[simp] theorem mailDebugRead_begun (src corr m s) (h : s.begun) : (mailDebugRead src corr m s).begun := by
  unfold mailDebugRead
  refine debugOp_begun _ _ _ _ h fun s h => ?_
  dsimp only
  split <;> simp (maxDischargeDepth := 40) [h]

@[simp] theorem mailDebugClose_begun (a0 a1 a2 s) (h : s.begun) : (mailDebugClose a0 a1 a2 s).begun := by
  unfold mailDebugClose; simp [h]

@[simp] theorem roundReads_begun (s) (h : s.begun) : (roundReads s).begun := by
  unfold roundReads
  exact foldl_begun _ _ _ (fun s x h => by split <;> simp (maxDischargeDepth := 40) [h]) h

@[simp] theorem roundStep_begun (a0 s) (h : s.begun) : (roundStep a0 s).begun := by
  unfold roundStep; simp (maxDischargeDepth := 40) [h]

@[simp] theorem fadeStep_begun (k s) (h : s.begun) : (fadeStep k s).begun := by
  unfold fadeStep
  split
  · exact h
  · split
    · exact h
    · dsimp only
      generalize hu : State.updLaser _ _ _ = u
      have hc : u.begun := by subst hu; exact updLaser_begun _ _ _ h
      exact ite_begun _ _ _ (laserFail_begun _ _ hc) (ite_begun _ _ _ (laserMigrate_begun _ _ (updLaser_begun _ _ _ hc))
        (ite_begun _ _ _ (logEvent_begun _ _ _ (updLaser_begun _ _ _ hc)) (ite_begun _ _ _ (updLaser_begun _ _ _ hc) hc)))

@[simp] theorem biasStep_begun (s) (h : s.begun) : (biasStep s).begun := by
  exact h

@[simp] theorem markBroken_begun (s) (h : s.begun) : (markBroken s).begun := by
  exact h

@[simp] theorem logRail_begun (a0 s) (h : s.begun) : (logRail a0 s).begun := by
  unfold logRail; simp [h]

@[simp] theorem railCheck_begun (s) (h : s.begun) : (railCheck s).begun := by
  unfold railCheck
  refine foldl_begun _ _ _ (fun s x h => ?_) h
  dsimp only
  split <;> simp (maxDischargeDepth := 40) [h]

@[simp] theorem correctPair_begun (a0 s) (h : s.begun) : (correctPair a0 s).begun := by
  unfold correctPair
  try simp +contextual (maxDischargeDepth := 40) [h]
  repeat' (first | (split <;> try simp +contextual (maxDischargeDepth := 40) [*]) | (refine foldl_begun _ _ _ (fun _ _ _ => ?_) ?_ <;> try simp +contextual (maxDischargeDepth := 40) [*]) | (refine orRefuse_begun _ _ _ _ _ _ ?_ (fun _ _ _ => ?_) <;> try simp +contextual (maxDischargeDepth := 40) [*]))

theorem readRings_begun (tones : List (RingRef × Nat)) (s : State) (h : s.begun) :
    (railCheck (markBroken (biasStep ((List.range 288).foldl (fun s k => fadeStep k s) s)))).begun :=
  railCheck_begun _ (markBroken_begun _ (biasStep_begun _ (foldl_begun _ _ _ (fun s k h => fadeStep_begun _ _ h) h)))

@[simp] theorem evaluate_begun (tones s) (h : s.begun) : (evaluate tones s).begun := by
  unfold evaluate
  dsimp only
  have r := readRings_begun tones s h
  generalize railCheck (markBroken (biasStep ((List.range 288).foldl (fun s k => fadeStep k s) s))) = u at r ⊢
  split
  · generalize hx : List.foldl (fun s x => suspectCause x s) _ _ = x
    have hh : x.begun := by
      subst hx
      refine foldl_begun _ _ _ (fun s x h => suspectCause_begun _ _ h) ?_
      refine foldl_begun _ _ _ (fun s x h => wrongLock_begun _ _ h) ?_
      rw [begun_mk]
      exact r
    split
    · exact hh
    · exact hh
  · exact h

@[simp] theorem setThermal_begun (a0 a1 s) (h : s.begun) : (setThermal a0 a1 s).begun := by
  unfold setThermal; simp (maxDischargeDepth := 40) [h]

@[simp] theorem thermalAct_begun (a0 s) (h : s.begun) : (thermalAct a0 s).begun := by
  unfold thermalAct; simp (maxDischargeDepth := 40) [h]

@[simp] theorem currentAct_begun (a0 s) (h : s.begun) : (currentAct a0 s).begun := by
  unfold currentAct; simp [h]

@[simp] theorem marginAct_begun (a0 s) (h : s.begun) : (marginAct a0 s).begun := by
  unfold marginAct
  try simp +contextual (maxDischargeDepth := 40) [h]
  repeat' (first | (split <;> try simp +contextual (maxDischargeDepth := 40) [*]) | (refine foldl_begun _ _ _ (fun _ _ _ => ?_) ?_ <;> try simp +contextual (maxDischargeDepth := 40) [*]) | (refine orRefuse_begun _ _ _ _ _ _ ?_ (fun _ _ _ => ?_) <;> try simp +contextual (maxDischargeDepth := 40) [*]))

@[simp] theorem throttleAct_begun (a0 s) (h : s.begun) : (throttleAct a0 s).begun := by
  unfold throttleAct; simp (maxDischargeDepth := 40) [h]

@[simp] theorem stackActs_begun (s) (h : s.begun) : (stackActs s).begun := by
  unfold stackActs
  dsimp only
  refine scheduleAll_begun _ (foldl_begun _ _ _ (fun s x h => by simp (maxDischargeDepth := 40) [h]) ?_)
  refine foldl_begun _ _ _ (fun s x h => by simp (maxDischargeDepth := 40) [h]) ?_
  refine foldl_begun _ _ _ (fun s x h => by simp (maxDischargeDepth := 40) [h]) ?_
  exact foldl_begun _ _ _ (fun s x h => by simp (maxDischargeDepth := 40) [h]) h

@[simp] theorem compensate_begun (s) (h : s.begun) : (compensate s).begun := by
  unfold compensate
  rw [begun_mk]
  exact h

@[simp] theorem actStep_begun (s) (h : s.begun) : (actStep s).begun := by
  unfold actStep; simp +contextual (maxDischargeDepth := 40) [h]

@[simp] theorem tripStep_begun (r cause hw s) (h : s.begun) : (tripStep r cause hw s).begun := by
  unfold tripStep
  dsimp only
  refine flashSuspend_begun _ _ ?_
  rw [begun_mk]
  refine begun_field _ (enterStandby_begun _ (lowerAllDebug_begun _ _ _ (logEvent_begun _ _ _ ?_)))
  exact discardPound_begun _ (lightOff_begun _ (stacksOff_begun _ h))

@[simp] theorem tripCommand_begun (s) (h : s.begun) : (tripCommand s).begun := by
  unfold tripCommand
  try simp +contextual (maxDischargeDepth := 40) [h]
  repeat' (first | (split <;> try simp +contextual (maxDischargeDepth := 40) [*]) | (refine foldl_begun _ _ _ (fun _ _ _ => ?_) ?_ <;> try simp +contextual (maxDischargeDepth := 40) [*]) | (refine orRefuse_begun _ _ _ _ _ _ ?_ (fun _ _ _ => ?_) <;> try simp +contextual (maxDischargeDepth := 40) [*]))

@[simp] theorem tripWritten_begun (s) (h : s.begun) : (tripWritten s).begun := by
  unfold tripWritten
  try simp +contextual (maxDischargeDepth := 40) [h]
  repeat' (first | (split <;> try simp +contextual (maxDischargeDepth := 40) [*]) | (refine foldl_begun _ _ _ (fun _ _ _ => ?_) ?_ <;> try simp +contextual (maxDischargeDepth := 40) [*]) | (refine orRefuse_begun _ _ _ _ _ _ ?_ (fun _ _ _ => ?_) <;> try simp +contextual (maxDischargeDepth := 40) [*]))

end Sys2Proof.Machine
end

