-- ==== Sys2Proof/Laws/BegunReset.lean ====
section
/-!
SUPPORT. Every function of resets, redundancy, security, boot, telemetry and what is due at a tick on states keeps the mark that the first stamp has been issued. Resets and power loss clear it and are not named.
-/

-- One proof after another: in parallel each asks for a thread and its stack.
set_option Elab.async false
set_option linter.all false

namespace Sys2Proof.Machine

@[simp] theorem stopMembers_begun (s) (h : s.begun) : (stopMembers s).begun := by
  exact h

@[simp] theorem strandNow_begun (a0 s) (h : s.begun) : (strandNow a0 s).begun := by
  unfold strandNow; simp (maxDischargeDepth := 40) [h]

@[simp] theorem strandStepModule_begun (s) (h : s.begun) : (strandStepModule s).begun := by
  unfold strandStepModule; simp +contextual (maxDischargeDepth := 40) [h]

@[simp] theorem endPause_begun (s) (h : s.begun) : (endPause s).begun := by
  unfold endPause
  split
  · exact h
  · dsimp only
    split <;> rename_i e
    · exact pauseEvent_begun _ _ _ _ _ (issueStamp_begun _ _ _ h)
    · exact issueStamp_begun _ _ _ h

@[simp] theorem beginTest_begun (a0 a1 a2 s) (h : s.begun) : (beginTest a0 a1 a2 s).begun := by
  unfold beginTest; simp (maxDischargeDepth := 40) [h]

@[simp] theorem lkFaulty_begun (a0 s) (h : s.begun) : (lkFaulty a0 s).begun := by
  unfold lkFaulty; simp [h]

@[simp] theorem ownFault_begun (a0 a1 s) (h : s.begun) : (ownFault a0 a1 s).begun := by
  unfold ownFault; simp (maxDischargeDepth := 40) [h]

@[simp] theorem lkFault_begun (a0 a1 a2 s) (h : s.begun) : (lkFault a0 a1 a2 s).begun := by
  unfold lkFault
  try simp +contextual (maxDischargeDepth := 40) [h]
  repeat' (first | (split <;> try simp +contextual (maxDischargeDepth := 40) [*]) | (refine foldl_begun _ _ _ (fun _ _ _ => ?_) ?_ <;> try simp +contextual (maxDischargeDepth := 40) [*]) | (refine orRefuse_begun _ _ _ _ _ _ ?_ (fun _ _ _ => ?_) <;> try simp +contextual (maxDischargeDepth := 40) [*]))

@[simp] theorem miscompareStep_begun (a0 a1 a2 s) (h : s.begun) : (miscompareStep a0 a1 a2 s).begun := by
  unfold miscompareStep
  try simp +contextual (maxDischargeDepth := 40) [h]
  repeat' (first | (split <;> try simp +contextual (maxDischargeDepth := 40) [*]) | (refine foldl_begun _ _ _ (fun _ _ _ => ?_) ?_ <;> try simp +contextual (maxDischargeDepth := 40) [*]) | (refine orRefuse_begun _ _ _ _ _ _ ?_ (fun _ _ _ => ?_) <;> try simp +contextual (maxDischargeDepth := 40) [*]))

@[simp] theorem retireLk_begun (a0 s) (h : s.begun) : (retireLk a0 s).begun := by
  unfold retireLk; simp (maxDischargeDepth := 40) [h]

@[simp] theorem takeHelm_begun (a0 s) (h : s.begun) : (takeHelm a0 s).begun := by
  unfold takeHelm; simp (maxDischargeDepth := 40) [h]

@[simp] theorem tested_begun (a0 a1 s) (h : s.begun) : (tested a0 a1 s).begun := by
  unfold tested; simp [h]

@[simp] theorem failOver_begun (a0 s) (h : s.begun) : (failOver a0 s).begun := by
  unfold failOver; simp [h]

@[simp] theorem bothPassed_begun (s) (h : s.begun) : (bothPassed s).begun := by
  unfold bothPassed
  try simp +contextual (maxDischargeDepth := 40) [h]
  repeat' (first | (split <;> try simp +contextual (maxDischargeDepth := 40) [*]) | (refine foldl_begun _ _ _ (fun _ _ _ => ?_) ?_ <;> try simp +contextual (maxDischargeDepth := 40) [*]) | (refine orRefuse_begun _ _ _ _ _ _ ?_ (fun _ _ _ => ?_) <;> try simp +contextual (maxDischargeDepth := 40) [*]))

@[simp] theorem decisionStep_begun (a0 a1 a2 s) (h : s.begun) : (decisionStep a0 a1 a2 s).begun := by
  unfold decisionStep
  try simp +contextual (maxDischargeDepth := 40) [h]
  repeat' (first | (split <;> try simp +contextual (maxDischargeDepth := 40) [*]) | (refine foldl_begun _ _ _ (fun _ _ _ => ?_) ?_ <;> try simp +contextual (maxDischargeDepth := 40) [*]) | (refine orRefuse_begun _ _ _ _ _ _ ?_ (fun _ _ _ => ?_) <;> try simp +contextual (maxDischargeDepth := 40) [*]))

@[simp] theorem injectStep_begun (a0 s) (h : s.begun) : (injectStep a0 s).begun := by
  unfold injectStep; simp (maxDischargeDepth := 40) [h]

@[simp] theorem scrubStep_begun (a0 s) (h : s.begun) : (scrubStep a0 s).begun := by
  unfold scrubStep
  try simp +contextual (maxDischargeDepth := 40) [h]
  repeat' (first | (split <;> try simp +contextual (maxDischargeDepth := 40) [*]) | (refine foldl_begun _ _ _ (fun _ _ _ => ?_) ?_ <;> try simp +contextual (maxDischargeDepth := 40) [*]) | (refine orRefuse_begun _ _ _ _ _ _ ?_ (fun _ _ _ => ?_) <;> try simp +contextual (maxDischargeDepth := 40) [*]))

@[simp] theorem leaveStepChecker_begun (s) (h : s.begun) : (leaveStepChecker s).begun := by
  unfold leaveStepChecker; simp (maxDischargeDepth := 40) [h]

@[simp] theorem selfConfirm_begun (s) (h : s.begun) : (selfConfirm s).begun := by
  unfold selfConfirm; simp [h]

@[simp] theorem checkerDone_begun (a0 s) (h : s.begun) : (checkerDone a0 s).begun := by
  unfold checkerDone; simp (maxDischargeDepth := 40) [h]

@[simp] theorem retiredStep_begun (a0 a1 s) (h : s.begun) : (retiredStep a0 a1 s).begun := by
  unfold retiredStep
  try simp +contextual (maxDischargeDepth := 40) [h]
  repeat' (first | (split <;> try simp +contextual (maxDischargeDepth := 40) [*]) | (refine foldl_begun _ _ _ (fun _ _ _ => ?_) ?_ <;> try simp +contextual (maxDischargeDepth := 40) [*]) | (refine orRefuse_begun _ _ _ _ _ _ ?_ (fun _ _ _ => ?_) <;> try simp +contextual (maxDischargeDepth := 40) [*]))

@[simp] theorem rejoinStep_begun (s) (h : s.begun) : (rejoinStep s).begun := by
  unfold rejoinStep
  try simp +contextual (maxDischargeDepth := 40) [h]
  repeat' (first | (split <;> try simp +contextual (maxDischargeDepth := 40) [*]) | (refine foldl_begun _ _ _ (fun _ _ _ => ?_) ?_ <;> try simp +contextual (maxDischargeDepth := 40) [*]) | (refine orRefuse_begun _ _ _ _ _ _ ?_ (fun _ _ _ => ?_) <;> try simp +contextual (maxDischargeDepth := 40) [*]))

@[simp] theorem writeRepairs_begun (s) (h : s.begun) : (writeRepairs s).begun := by
  exact h

@[simp] theorem fenceCore_begun (a0 a1 s) (h : s.begun) : (fenceCore a0 a1 s).begun := by
  unfold fenceCore; simp (maxDischargeDepth := 40) [h]

@[simp] theorem voteEvent_begun (a0 a1 a2 s) (h : s.begun) : (voteEvent a0 a1 a2 s).begun := by
  unfold voteEvent; simp [h]

@[simp] theorem coreVote_begun (a0 a1 a2 s) (h : s.begun) : (coreVote a0 a1 a2 s).begun := by
  unfold coreVote; simp (maxDischargeDepth := 40) [h]

@[simp] theorem baseVote_begun (a0 a1 s) (h : s.begun) : (baseVote a0 a1 s).begun := by
  unfold baseVote; simp +contextual (maxDischargeDepth := 40) [h]

@[simp] theorem voteStep_begun (a0 a1 a2 s) (h : s.begun) : (voteStep a0 a1 a2 s).begun := by
  unfold voteStep
  try simp +contextual (maxDischargeDepth := 40) [h]
  repeat' (first | (split <;> try simp +contextual (maxDischargeDepth := 40) [*]) | (refine foldl_begun _ _ _ (fun _ _ _ => ?_) ?_ <;> try simp +contextual (maxDischargeDepth := 40) [*]) | (refine orRefuse_begun _ _ _ _ _ _ ?_ (fun _ _ _ => ?_) <;> try simp +contextual (maxDischargeDepth := 40) [*]))

@[simp] theorem laneFails_begun (a0 a1 a2 s) (h : s.begun) : (laneFails a0 a1 a2 s).begun := by
  unfold laneFails; simp (maxDischargeDepth := 40) [h]

@[simp] theorem wordFails_begun (a0 a1 s) (h : s.begun) : (wordFails a0 a1 s).begun := by
  unfold wordFails; simp (maxDischargeDepth := 40) [h]

@[simp] theorem laneTest_begun (a0 a1 a2 s) (h : s.begun) : (laneTest a0 a1 a2 s).begun := by
  unfold laneTest
  try simp +contextual (maxDischargeDepth := 40) [h]
  repeat' (first | (split <;> try simp +contextual (maxDischargeDepth := 40) [*]) | (refine foldl_begun _ _ _ (fun _ _ _ => ?_) ?_ <;> try simp +contextual (maxDischargeDepth := 40) [*]) | (refine orRefuse_begun _ _ _ _ _ _ ?_ (fun _ _ _ => ?_) <;> try simp +contextual (maxDischargeDepth := 40) [*]))

theorem takeAct_begun {a s t} (hs : s.begun) (h : takeAct a s = some t) : t.begun := by
  unfold takeAct at h
  split at h <;> cases h
  exact hs

@[simp] theorem spared_begun (a0 a1 a2 a3 s) (h : s.begun) : (spared a0 a1 a2 a3 s).begun := by
  unfold spared; simp (maxDischargeDepth := 40) [h]

@[simp] theorem laneWindow_begun (c g l s) (h : s.begun) : (laneWindow c g l s).begun := by
  unfold laneWindow
  split
  · rename_i e _
    have := takeAct_begun h e
    dsimp only
    split <;> simp (maxDischargeDepth := 40) [this]
  · exact h

@[simp] theorem rerouteReach_begun (a0 a1 s) (h : s.begun) : (rerouteReach a0 a1 s).begun := by
  unfold rerouteReach
  try simp +contextual (maxDischargeDepth := 40) [h]
  repeat' (first | (split <;> try simp +contextual (maxDischargeDepth := 40) [*]) | (refine foldl_begun _ _ _ (fun _ _ _ => ?_) ?_ <;> try simp +contextual (maxDischargeDepth := 40) [*]) | (refine orRefuse_begun _ _ _ _ _ _ ?_ (fun _ _ _ => ?_) <;> try simp +contextual (maxDischargeDepth := 40) [*]))

@[simp] theorem groupFails_begun (a0 a1 s) (h : s.begun) : (groupFails a0 a1 s).begun := by
  unfold groupFails; simp (maxDischargeDepth := 40) [h]

@[simp] theorem groupStep_begun (k g f s) (h : s.begun) : (groupStep k g f s).begun := by
  unfold groupStep
  split
  · exact h
  · split
    · rename_i e
      have := takeAct_begun h e
      dsimp only
      split <;> simp (maxDischargeDepth := 40) [this]
    · split <;> simp (maxDischargeDepth := 40) [h]

@[simp] theorem routerFaulty_begun (a0 s) (h : s.begun) : (routerFaulty a0 s).begun := by
  unfold routerFaulty; simp (maxDischargeDepth := 40) [h]

@[simp] theorem logicFault_begun (a0 s) (h : s.begun) : (logicFault a0 s).begun := by
  unfold logicFault; simp (maxDischargeDepth := 40) [h]

@[simp] theorem routerFaultStep_begun (a0 a1 s) (h : s.begun) : (routerFaultStep a0 a1 s).begun := by
  unfold routerFaultStep
  try simp +contextual (maxDischargeDepth := 40) [h]
  repeat' (first | (split <;> try simp +contextual (maxDischargeDepth := 40) [*]) | (refine foldl_begun _ _ _ (fun _ _ _ => ?_) ?_ <;> try simp +contextual (maxDischargeDepth := 40) [*]) | (refine orRefuse_begun _ _ _ _ _ _ ?_ (fun _ _ _ => ?_) <;> try simp +contextual (maxDischargeDepth := 40) [*]))

@[simp] theorem routeStep_begun (a0 s) (h : s.begun) : (routeStep a0 s).begun := by
  unfold routeStep; simp +contextual (maxDischargeDepth := 40) [h]

@[simp] theorem blowTamper_begun (s) (h : s.begun) : (blowTamper s).begun := by
  exact h

@[simp] theorem zeroVault_begun (s) (h : s.begun) : (zeroVault s).begun := by
  exact h

@[simp] theorem freeKeyed_begun (s) (h : s.begun) : (freeKeyed s).begun := by
  unfold freeKeyed; simp +contextual (maxDischargeDepth := 40) [h]

@[simp] theorem tamperEvent_begun (a0 s) (h : s.begun) : (tamperEvent a0 s).begun := by
  unfold tamperEvent; simp [h]

@[simp] theorem tamperNow_begun (a0 s) (h : s.begun) : (tamperNow a0 s).begun := by
  unfold tamperNow; simp (maxDischargeDepth := 40) [h]

@[simp] theorem tamperStep_begun (a0 s) (h : s.begun) : (tamperStep a0 s).begun := by
  unfold tamperStep; simp (maxDischargeDepth := 40) [h]

@[simp] theorem tamperClearStep_begun (s) (h : s.begun) : (tamperClearStep s).begun := by
  unfold tamperClearStep; simp [h]

@[simp] theorem captureCells_begun (s) (h : s.begun) : (captureCells s).2.begun := by
  exact h

@[simp] theorem releaseCells_begun (s) (h : s.begun) : (releaseCells s).begun := by
  unfold releaseCells; simp [h]

@[simp] theorem driveCells_begun (a0 s) (h : s.begun) : (driveCells a0 s).begun := by
  exact h

@[simp] theorem selectIr_begun (a0 a1 s) (h : s.begun) : (selectIr a0 a1 s).begun := by
  unfold selectIr; simp [h]

@[simp] theorem bypass_begun (s) (h : s.begun) : (bypass s).begun := by
  unfold bypass; simp [h]

@[simp] theorem extestStep_begun (a0 s) (h : s.begun) : (extestStep a0 s).begun := by
  unfold extestStep; simp (maxDischargeDepth := 40) [h]

@[simp] theorem sampleStep_begun (a0 s) (h : s.begun) : (sampleStep a0 s).begun := by
  unfold sampleStep; simp (maxDischargeDepth := 40) [h]

@[simp] theorem clampStep_begun (s) (h : s.begun) : (clampStep s).begun := by
  unfold clampStep; simp (maxDischargeDepth := 40) [h]

@[simp] theorem highzStep_begun (s) (h : s.begun) : (highzStep s).begun := by
  unfold highzStep; simp (maxDischargeDepth := 40) [h]

@[simp] theorem tapStep_begun (s) (h : s.begun) : (tapStep s).begun := by
  unfold tapStep; simp (maxDischargeDepth := 40) [h]

@[simp] theorem authLevel_begun (a0 s) (h : s.begun) : (authLevel a0 s).begun := by
  unfold authLevel; simp [h]

@[simp] theorem authStep_begun (a0 a1 a2 a3 s) (h : s.begun) : (authStep a0 a1 a2 a3 s).begun := by
  unfold authStep; simp (maxDischargeDepth := 40) [h]

@[simp] theorem mailRegister_begun (a0 s) (h : s.begun) : (mailRegister a0 s).begun := by
  unfold mailRegister; simp (maxDischargeDepth := 40) [h]

theorem runAll_begun (l s) (h : ∀ f ∈ l, ∀ s : State, s.begun → (f s).begun) (hs : s.begun) : (runAll l s).begun := by
  unfold runAll
  induction l generalizing s with
  | nil => exact hs
  | cons f l ih => exact ih _ (fun g hg => h g (List.mem_cons_of_mem _ hg)) (h f List.mem_cons_self _ hs)

@[simp] theorem stallPorts_begun (s) (h : s.begun) : (stallPorts s).begun := by
  unfold stallPorts; simp +contextual (maxDischargeDepth := 40) [h]

theorem due_begun (s f) (h : f ∈ poundsDue ++ baseDue ++ stacksDue ∨ f ∈ sessionsDue s ∨ f ∈ lightDue ++ tasksDue s ∨ f ∈ torusDue s) :
    ∀ s : State, s.begun → (f s).begun := by
  intro u hu
  simp only [poundsDue, baseDue, stacksDue, sessionsDue, lightDue, tasksDue, torusDue, List.mem_append, List.mem_cons, List.mem_flatMap,
    List.mem_map, List.mem_ite_nil_right, List.not_mem_nil, or_false] at h
  rcases h with h | h | h | h
  · rcases h with (h | h) | h
    · rcases h with rfl | rfl | rfl | rfl | rfl | rfl | rfl <;> simp [hu]
    · rcases h with rfl | rfl | rfl | rfl | rfl <;> simp [hu]
    · rcases h with ⟨_, -, rfl | rfl⟩ | rfl <;> simp [hu]
  · obtain ⟨_, -, ⟨-, rfl⟩ | rfl | rfl⟩ := h <;> simp [hu]
  · rcases h with ⟨_, -, rfl | rfl | rfl⟩ | ⟨_, -, ⟨_, -, rfl | rfl⟩ | ⟨_, -, rfl⟩⟩ | ⟨_, -, rfl⟩ <;> simp [hu]
  · rcases h with ((((⟨_, -, rfl⟩ | ⟨_, -, rfl⟩) | ⟨_, -, rfl⟩) | ⟨_, -, rfl⟩) | ⟨_, -, rfl⟩) | rfl | rfl <;> simp [hu]

@[simp] theorem dueStep_begun (s) (h : s.begun) : (dueStep s).begun := by
  unfold dueStep
  dsimp only
  have h1 : (runAll (poundsDue ++ baseDue ++ stacksDue) (stallPorts s)).begun :=
    runAll_begun _ _ (fun f h => due_begun s f (.inl h)) (stallPorts_begun s h)
  generalize runAll (poundsDue ++ baseDue ++ stacksDue) (stallPorts s) = t at h1
  have h2 : (runAll (sessionsDue t) t).begun := runAll_begun _ _ (fun f h => due_begun t f (.inr (.inl h))) h1
  generalize runAll (sessionsDue t) t = u at h2
  have h3 : (runAll (lightDue ++ tasksDue u) u).begun := runAll_begun _ _ (fun f h => due_begun u f (.inr (.inr (.inl h)))) h2
  generalize runAll (lightDue ++ tasksDue u) u = v at h3
  have h4 : (runAll (torusDue v) v).begun := runAll_begun _ _ (fun f h => due_begun v f (.inr (.inr (.inr h)))) h3
  split
  · exact h4
  · exact h2

@[simp] theorem owedTamper_begun (s) (h : s.begun) : (owedTamper s).begun := by
  unfold owedTamper
  try simp +contextual (maxDischargeDepth := 40) [h]
  repeat' (first | (split <;> try simp +contextual (maxDischargeDepth := 40) [*]) | (refine foldl_begun _ _ _ (fun _ _ _ => ?_) ?_ <;> try simp +contextual (maxDischargeDepth := 40) [*]) | (refine orRefuse_begun _ _ _ _ _ _ ?_ (fun _ _ _ => ?_) <;> try simp +contextual (maxDischargeDepth := 40) [*]))

@[simp] theorem bootStep_begun (a0 s) (h : s.begun) : (bootStep a0 s).begun := by
  unfold bootStep; simp (maxDischargeDepth := 40) [h]

@[simp] theorem eraseTorn_begun (a0 a1 s) (h : s.begun) : (eraseTorn a0 a1 s).begun := by
  unfold eraseTorn; simp (maxDischargeDepth := 40) [h]

@[simp] theorem eraseTorns_begun (a0 s) (h : s.begun) : (eraseTorns a0 s).begun := by
  unfold eraseTorns; simp [h]

@[simp] theorem storeBoot_begun (a0 s) (h : s.begun) : (storeBoot a0 s).begun := by
  unfold storeBoot; simp [h]

@[simp] theorem fallBack_begun (a0 s) (h : s.begun) : (fallBack a0 s).begun := by
  unfold fallBack; simp (maxDischargeDepth := 40) [h]

@[simp] theorem chooseImage_begun (s) (h : s.begun) : (chooseImage s).begun := by
  unfold chooseImage; simp (maxDischargeDepth := 40) [h]

@[simp] theorem romPhase_begun (s) (h : s.begun) : (romPhase s).begun := by
  unfold romPhase; simp (maxDischargeDepth := 40) [h]

@[simp] theorem noImage_begun (s) (h : s.begun) : (noImage s).begun := by
  exact h

@[simp] theorem imagePhase_begun (s) (h : s.begun) : (imagePhase s).begun := by
  unfold imagePhase; simp (maxDischargeDepth := 40) [h]

@[simp] theorem trialTimer_begun (s) (h : s.begun) : (trialTimer s).begun := by
  unfold trialTimer; simp [h]

@[simp] theorem loadKeys_begun (s) (h : s.begun) : (loadKeys s).begun := by
  unfold loadKeys
  try simp +contextual (maxDischargeDepth := 40) [h]
  repeat' (first | (split <;> try simp +contextual (maxDischargeDepth := 40) [*]) | (refine foldl_begun _ _ _ (fun _ _ _ => ?_) ?_ <;> try simp +contextual (maxDischargeDepth := 40) [*]) | (refine orRefuse_begun _ _ _ _ _ _ ?_ (fun _ _ _ => ?_) <;> try simp +contextual (maxDischargeDepth := 40) [*]))

@[simp] theorem bootWipe_begun (s) (h : s.begun) : (bootWipe s).begun := by
  unfold bootWipe; simp (maxDischargeDepth := 40) [h]

@[simp] theorem loadRecords_begun (s) (h : s.begun) : (loadRecords s).begun := by
  exact h

@[simp] theorem latchConfig_begun (s) (h : s.begun) : (latchConfig s).begun := by
  exact h

@[simp] theorem blowSvn_begun (s) (h : s.begun) : (blowSvn s).begun := by
  unfold blowSvn; simp [h]

@[simp] theorem configPhase_begun (s) (h : s.begun) : (configPhase s).begun := by
  unfold configPhase; simp (maxDischargeDepth := 40) [h]

@[simp] theorem firstLight_begun (a0 s) (h : s.begun) : (firstLight a0 s).begun := by
  unfold firstLight; simp +contextual (maxDischargeDepth := 40) [h]

@[simp] theorem stampHeld_begun (s) (h : s.begun) : (stampHeld s).begun := by
  unfold stampHeld
  refine foldl_begun _ _ _ (fun s x h => ?_) h
  split <;> rename_i e <;> have hh := begun_of_snd e (issueStamp_begun _ _ _ h) <;> simp (maxDischargeDepth := 40) [hh]

@[simp] theorem sourceReport_begun (s) (h : s.begun) : (sourceReport s).begun := by
  unfold sourceReport; simp [h]

@[simp] theorem timePhase_begun (s) (h : s.begun) : (timePhase s).begun := by
  unfold timePhase; simp (maxDischargeDepth := 40) [h]

@[simp] theorem rejectRestored_begun (a0 s) (h : s.begun) : (rejectRestored a0 s).begun := by
  unfold rejectRestored; simp +contextual (maxDischargeDepth := 40) [h]

@[simp] theorem laserPhase_begun (d r j s) (h : s.begun) : (laserPhase d r j s).begun := by
  unfold laserPhase
  dsimp only
  refine rejectRestored_begun _ _ ?_
  refine foldl_begun _ _ _ (fun s r h => maintenance_begun _ _ _ (suspectLane_begun _ _ _ h)) ?_
  refine foldl_begun _ _ _ (fun s r h => groupDown_begun _ _ h) ?_
  exact baseLinksUp_begun _ (fibreCredits_begun _ (allotAll_begun _ (installPlan_begun _ (firstLight_begun _ _ h))))

@[simp] theorem haltBoot_begun (s) (h : s.begun) : (haltBoot s).begun := by
  unfold haltBoot; simp [h]

@[simp] theorem memPhase_begun (a0 a1 s) (h : s.begun) : (memPhase a0 a1 s).begun := by
  unfold memPhase; simp +contextual (maxDischargeDepth := 40) [h]

@[simp] theorem assignPorts_begun (s) (h : s.begun) : (assignPorts s).begun := by
  unfold assignPorts
  refine foldl_begun _ _ _ (fun s k h => ?_) h
  dsimp only
  refine foldl_begun _ _ _ (fun s r h => rerouteReach_begun _ _ _ h) ?_
  split
  · exact h
  · exact updStack_begun _ _ _ h

@[simp] theorem loadRepairs_begun (s) (h : s.begun) : (loadRepairs s).begun := by
  unfold loadRepairs
  refine assignPorts_begun _ ?_
  split
  · dsimp only
    refine foldl_begun _ _ _ (fun s r h => updStack_begun _ _ _ h) ?_
    refine foldl_begun _ _ _ (fun s r h => updStack_begun _ _ _ h) ?_
    refine foldl_begun _ _ _ (fun s r h => updCore_begun _ _ _ h) ?_
    exact foldl_begun _ _ _ (fun s r h => updCore_begun _ _ _ h) h
  · exact h

@[simp] theorem pllFails_begun (a0 s) (h : s.begun) : (pllFails a0 s).begun := by
  unfold pllFails; simp [h]

@[simp] theorem emptyOff_begun (s) (h : s.begun) : (emptyOff s).begun := by
  exact h

@[simp] theorem stackPhase_begun (a0 a1 s) (h : s.begun) : (stackPhase a0 a1 s).begun := by
  unfold stackPhase; simp +contextual (maxDischargeDepth := 40) [h]

@[simp] theorem startHeld_begun (s) (h : s.begun) : (startHeld s).begun := by
  unfold startHeld
  try simp +contextual (maxDischargeDepth := 40) [h]
  repeat' (first | (split <;> try simp +contextual (maxDischargeDepth := 40) [*]) | (refine foldl_begun _ _ _ (fun _ _ _ => ?_) ?_ <;> try simp +contextual (maxDischargeDepth := 40) [*]) | (refine orRefuse_begun _ _ _ _ _ _ ?_ (fun _ _ _ => ?_) <;> try simp +contextual (maxDischargeDepth := 40) [*]))

@[simp] theorem announceReady_begun (s) (h : s.begun) : (announceReady s).begun := by
  unfold announceReady
  dsimp only
  refine startHeld_begun _ (scheduleAll_begun _ ?_)
  split
  · exact openPound_begun _ (logEvent_begun _ _ _ h)
  · exact logEvent_begun _ _ _ (openPound_begun _ (logEvent_begun _ _ _ h))

@[simp] theorem slowReport_begun (a0 a1 s) (h : s.begun) : (slowReport a0 a1 s).begun := by
  unfold slowReport; simp [h]

@[simp] theorem takeLimits_begun (s) (h : s.begun) : (takeLimits s).begun := by
  unfold takeLimits; simp +contextual (maxDischargeDepth := 40) [h]

@[simp] theorem phaseWork_begun (a0 a1 s) (h : s.begun) : (phaseWork a0 a1 s).begun := by
  unfold phaseWork
  try simp +contextual (maxDischargeDepth := 40) [h]
  repeat' (first | (split <;> try simp +contextual (maxDischargeDepth := 40) [*]) | (refine foldl_begun _ _ _ (fun _ _ _ => ?_) ?_ <;> try simp +contextual (maxDischargeDepth := 40) [*]) | (refine orRefuse_begun _ _ _ _ _ _ ?_ (fun _ _ _ => ?_) <;> try simp +contextual (maxDischargeDepth := 40) [*]) | (intro _ <;> try simp +contextual (maxDischargeDepth := 40) [*]))

@[simp] theorem phaseTime_begun (a0 a1 s) (h : s.begun) : (phaseTime a0 a1 s).begun := by
  unfold phaseTime; simp [h]

@[simp] theorem nextPhase_begun (a0 s) (h : s.begun) : (nextPhase a0 s).begun := by
  unfold nextPhase; simp (maxDischargeDepth := 40) [h]

@[simp] theorem phaseStep_begun (a0 a1 a2 s) (h : s.begun) : (phaseStep a0 a1 a2 s).begun := by
  unfold phaseStep; simp (maxDischargeDepth := 40) [h]

@[simp] theorem clearRead_begun (a0 a1 s) (h : s.begun) : (clearRead a0 a1 s).begun := by
  unfold clearRead; simp (maxDischargeDepth := 40) [h]

@[simp] theorem mailTelemetryRead_begun (a0 a1 a2 s) (h : s.begun) : (mailTelemetryRead a0 a1 a2 s).begun := by
  unfold mailTelemetryRead
  try simp +contextual (maxDischargeDepth := 40) [h]
  repeat' (first | (split <;> try simp +contextual (maxDischargeDepth := 40) [*]) | (refine foldl_begun _ _ _ (fun _ _ _ => ?_) ?_ <;> try simp +contextual (maxDischargeDepth := 40) [*]) | (refine orRefuse_begun _ _ _ _ _ _ ?_ (fun _ _ _ => ?_) <;> try simp +contextual (maxDischargeDepth := 40) [*]))

end Sys2Proof.Machine
end

