-- ==== Sys2Proof/Laws/Aging.lean ====
section
/-!
SUPPORT. The functions that change what the others keep: those that blow fuses (`Older`), those that reset the module
(`Reset`), and those that move fabric time.
-/

-- One proof after another: in parallel each asks for a thread and its stack.
set_option Elab.async false
set_option linter.all false

namespace Sys2Proof.Machine
open Sys2Proof.Safety

/-- The queue and fabric time stand, and fuses are at most blown further. -/
structure Older (s t : State) : Prop where
  pend : t.pending = s.pending
  fus : FusesOnlyBlown s.sec.fuses t.sec.fuses
  tam : s.sec.fuses.tamper ≤ 32 → t.sec.fuses.tamper ≤ 32
  ft : t.time.ft = s.time.ft

theorem blown_refl (f : Fuses) : FusesOnlyBlown f f := ⟨fun _ h => h, Nat.le_refl _, Nat.le_refl _, rfl, rfl, rfl⟩
theorem blown_trans {a b c : Fuses} (h : FusesOnlyBlown a b) (k : FusesOnlyBlown b c) : FusesOnlyBlown a c := by
  obtain ⟨h1, h2, h3, h4, h5, h6⟩ := h
  obtain ⟨k1, k2, k3, k4, k5, k6⟩ := k
  exact ⟨fun i hi => k1 i (h1 i hi), Nat.le_trans h2 k2, Nat.le_trans h3 k3, k4.trans h4, k5.trans h5, k6.trans h6⟩

theorem Older.ofFixed {s t : State} (h : t.fixed = s.fixed) : Older s t := by
  have h1 : t.pending = s.pending := congrArg (fun p => p.1) h
  have h2 : t.sec.fuses = s.sec.fuses := congrArg (fun p => p.2.1) h
  have h3 : t.time.ft = s.time.ft := congrArg (fun p => p.2.2) h
  exact ⟨h1, h2 ▸ blown_refl _, fun h => h2 ▸ h, h3⟩

theorem Older.trans {s t u : State} (h : Older s t) (k : Older t u) : Older s u :=
  ⟨k.pend.trans h.pend, blown_trans h.fus k.fus, fun x => k.tam (h.tam x), k.ft.trans h.ft⟩

theorem older_confirmed (s) : Older s (confirmed s) :=
  ⟨rfl, ⟨fun _ h => h, Nat.le_refl _, Nat.le_max_left _ _, rfl, rfl, rfl⟩, fun h => h, rfl⟩
theorem older_blowSvn (s) : Older s (blowSvn s) := by
  unfold blowSvn; split
  · exact ⟨rfl, ⟨fun _ h => h, Nat.le_refl _, Nat.le_max_left _ _, rfl, rfl, rfl⟩, fun h => h, rfl⟩
  · exact .ofFixed rfl
theorem older_blowTamper (s) (h : s.sec.fuses.tamper ≤ 32) : Older s (blowTamper s) :=
  ⟨rfl, ⟨fun _ h => h, by show _ ≤ min 32 _; omega, Nat.le_refl _, rfl, rfl, rfl⟩, fun _ => by show min 32 _ ≤ 32; omega, rfl⟩

theorem older_afterFlash (n s) : Older s (afterFlash n s) := by
  unfold afterFlash
  split
  · exact .ofFixed rfl
  · exact .ofFixed (by simp)
  · exact .ofFixed (by simp)
  · dsimp only; split
    · exact (older_confirmed s).trans (.ofFixed (by simp))
    · exact older_confirmed s
  · exact .ofFixed (by simp)
  · dsimp only; split <;> exact .ofFixed (by simp)

theorem older_writeDone (s) : Older s (writeDone s) := by
  unfold writeDone
  split
  · split
    · exact .ofFixed rfl
    · dsimp only
      refine Older.trans (.ofFixed ?_) (older_afterFlash _ _)
      rw [fixed_mk, fixed_pack]
      split
      · rw [reselect_fixed]; split <;> simp
      · simp
  · exact .ofFixed rfl

theorem older_eraseDone (s) : Older s (eraseDone s) := by
  unfold eraseDone
  split
  · exact .ofFixed (by simp)
  · exact Older.trans (.ofFixed (by simp)) (older_afterFlash _ _)
  · exact .ofFixed rfl

theorem older_lcMove (t n s) : Older s (lcMove t n s) := by
  unfold lcMove
  dsimp only
  have a : Older s (wipeSecure (lowerAllDebug 0 4 s)) := .ofFixed (by simp)
  have b : ∀ (u : State), Older u (logEvent Ev.lifecycle (leBytes 1 (lifeCycle s) ++ leBytes 1 t) { u with sec.fuses.lc := u.sec.fuses.lc ||| (1 <<< (t - 1)) }) := by
    intro u
    refine Older.trans (t := { u with sec.fuses.lc := u.sec.fuses.lc ||| (1 <<< (t - 1)) }) ⟨rfl, ⟨?_, Nat.le_refl _, Nat.le_refl _, rfl, rfl, rfl⟩, fun h => h, rfl⟩ (.ofFixed (by simp))
    intro i hi
    show Nat.testBit (_ ||| _) i = true
    rw [Nat.testBit_or, hi]; rfl
  have c := a.trans (b _)
  split
  · refine c.trans ?_
    generalize logEvent _ _ _ = u
    exact Older.trans (t := { u with sec.fuses.ownerRoot := (Tab.find? 0 u.sec.vault).getD [], sec.vault := Tab.del 0 u.sec.vault })
      ⟨rfl, ⟨fun _ h => h, Nat.le_refl _, Nat.le_refl _, rfl, rfl, rfl⟩, fun h => h, rfl⟩ (.ofFixed (endJob_fixed _ _ _ _))
  · split
    · exact c.trans (.ofFixed (by simp))
    · exact c.trans (.ofFixed (by simp))

theorem older_lifecycleSet (src corr m s) : Older s (mailLifecycleSet src corr m s) := by
  unfold mailLifecycleSet
  dsimp only
  split
  · exact .ofFixed (by simp)
  · split
    · exact .ofFixed (by simp)
    · exact Older.trans (.ofFixed (by simp)) (older_lcMove _ _ _)

theorem older_mailStepSel (src code sel body s) (h : ∀ c m s, Older s (body c m s)) : Older s (mailStepSel src code sel body s) := by
  unfold mailStepSel
  split
  · exact .ofFixed rfl
  · rename_i m t e
    have k := Older.ofFixed (takeMail_fixed e)
    refine k.trans (Older.trans ?_ (.ofFixed (checkpointStep_fixed _)))
    split
    · exact h _ _ _
    · exact .ofFixed (by simp)

theorem older_tamperNow (k s) (h : s.sec.fuses.tamper ≤ 32) : Older s (tamperNow k s) := by
  unfold tamperNow
  dsimp only
  have a : Older s (freeKeyed (lowerAllDebug 0 5 (zeroVault (wipeSecure s)))) := .ofFixed (by simp)
  have b := a.trans (older_blowTamper _ (a.tam h))
  have c := b.trans (.ofFixed (tamperEvent_fixed k _))
  split
  · exact c.trans (.ofFixed (by simp))
  · exact c

theorem older_tamperStep (k s) (h : s.sec.fuses.tamper ≤ 32) : Older s (tamperStep k s) := by
  unfold tamperStep
  split
  · exact .ofFixed rfl
  · dsimp only
    generalize e : (if s.sec.asserted.contains k = true then s.sec.asserted else s.sec.asserted ++ [k]) = al
    have a : Older s { s with sec.asserted := al, sec.clearFor := 0, sec.counted := true, pins.tamperN := s.pins.tamperN && k != 0 } :=
      .ofFixed rfl
    split
    · exact a
    · split
      · exact a.trans (older_tamperNow _ _ h)
      · exact a.trans (Older.trans (.ofFixed (zeroVault_fixed _)) (Older.trans (older_blowTamper _ h) (.ofFixed rfl)))

theorem older_phaseStep (p ms r s) : Older s (phaseStep p ms r s) := by
  unfold phaseStep
  split
  · refine Older.trans ?_ (.ofFixed (by simp : (nextPhase p _).fixed = (phaseWork p r s).fixed))
    unfold phaseWork
    split
    · exact .ofFixed (by simp)
    · split
      · exact .ofFixed (by simp)
      · split
        · unfold configPhase
          refine Older.trans (.ofFixed ?_) (older_blowSvn _)
          simp
        · split
          · exact .ofFixed (by simp)
          · split <;> exact .ofFixed (by simp)
  · exact .ofFixed rfl

theorem appendEntry_time (e s) : (appendEntry e s).time = s.time := by
  unfold appendEntry; dsimp only; repeat' (first | rfl | split)

theorem logs_time (l : List (Nat × Nat)) (s : State) (h : s.time = {}) :
    ((l.foldl (fun s x => logEvent Ev.debugEnd (leBytes 2 x.1 ++ leBytes 1 x.2 ++ leBytes 1 3) s) s)).time = {} := by
  induction l generalizing s with
  | nil => exact h
  | cons x l ih =>
    rw [List.foldl_cons]
    apply ih
    unfold logEvent logEventR
    rw [h]
    simp only
    rw [if_neg (by decide), appendEntry_time, h]

/-- The state right after a reset: the queue and the fuses stand, and fabric time starts over. -/
structure Reset (s t : State) : Prop where
  pend : t.pending = s.pending
  fus : t.sec.fuses = s.sec.fuses
  tm : t.time = {}

theorem reset_resetModule (c r s) : Reset s (resetModule c r s) := by
  unfold resetModule
  have h := foldl_fixed (fun s (x : Nat × Nat) => logEvent Ev.debugEnd (leBytes 2 x.1 ++ leBytes 1 x.2 ++ leBytes 1 3) s) (openLevels s) (clearedState c r s) (by intros; simp)
  exact ⟨congrArg (fun p => p.1) h, congrArg (fun p => p.2.1) h, logs_time _ _ rfl⟩

theorem reset_self (c s) : selfReset c s = s ∨ Reset s (selfReset c s) := by
  unfold selfReset
  split
  · exact .inl rfl
  · exact .inr (reset_resetModule _ _ _)

theorem or_timerReset (s) : timerReset s = s ∨ Reset s (timerReset s) := by
  unfold timerReset; split
  · exact reset_self _ _
  · exact .inl rfl
theorem or_trial (s) : trialStep s = s ∨ Reset s (trialStep s) := by
  unfold trialStep; split
  · exact reset_self _ _
  · exact .inl rfl
theorem or_fixed (s t : State) (h : t = s ∨ Reset s t) : (s.sec.fuses.tamper ≤ 32 → Older s t) ∨ Reset s t := by
  rcases h with h | h
  · exact .inl fun _ => .ofFixed (h ▸ rfl)
  · exact .inr h
theorem resetN_cases (ns s) : (s.sec.fuses.tamper ≤ 32 → Older s (resetNStep ns s)) ∨ Reset s (resetNStep ns s) := by
  unfold resetNStep
  split
  · exact .inl fun _ => .ofFixed rfl
  · split
    · exact .inr (reset_resetModule _ _ _)
    · split
      · exact .inl fun _ => .ofFixed (by simp)
      · refine .inr ?_
        have h := reset_resetModule 1 false (drawBelow 2 s).2
        have k := Older.ofFixed (drawBelow_fixed 2 s)
        have k2 : (drawBelow 2 s).2.sec.fuses = s.sec.fuses := congrArg (fun p => p.2.1) (drawBelow_fixed 2 s)
        exact ⟨h.pend.trans k.pend, h.fus.trans k2, h.tm⟩

theorem wd_cases (w s) : (s.sec.fuses.tamper ≤ 32 → Older s (watchdogStep w s)) ∨ Reset s (watchdogStep w s) := by
  unfold watchdogStep
  split
  · dsimp only
    split
    · exact .inl fun _ => .ofFixed (by simp)
    · generalize hu : State.updLk _ _ _ = u
      have k : u.fixed = s.fixed := by subst hu; simp
      rcases reset_self 5 u with h | h
      · exact .inl fun _ => .ofFixed (by rw [h]; exact k)
      · exact .inr ⟨h.pend.trans (congrArg (fun p => p.1) k), h.fus.trans (congrArg (fun p => p.2.1) k), h.tm⟩
  · exact .inl fun _ => .ofFixed rfl


/-- The queue and the fuses. -/
def State.still (s : State) : List Instr × Fuses := (s.pending, s.sec.fuses)
theorem still_of {s t : State} (h : t.fixed = s.fixed) : t.still = s.still := by
  exact congrArg (fun p => (p.1, p.2.1)) h

theorem setTimeMode_still (m s) : (setTimeMode m s).still = s.still := still_of (setTimeMode_fixed m s)
theorem lockIfClose_still (s) : (lockIfClose s).still = s.still := still_of (lockIfClose_fixed s)
theorem countTick_still (s) : (countTick s).still = s.still := by
  unfold countTick
  split
  · rw [lockIfClose_still]; rfl
  · split
    · rw [lockIfClose_still]; rfl
    · rfl
theorem tick_still (s) : (tickStep s).still = s.still := by
  unfold tickStep
  split
  · rfl
  · rw [still_of (pausesEnd_fixed _)]
    unfold fabricTick
    rw [still_of (copiesTick_fixed _ _), countTick_still]; rfl
theorem ft_of {s t : State} (h : t.fixed = s.fixed) : t.time.ft = s.time.ft := congrArg (fun p => p.2.2) h
theorem countTick_ft (s) : (countTick s).time.ft = (s.time.ft + 1) % 2 ^ 64 ∨
    ((countTick s).time.ft = (s.time.ft + 2) % 2 ^ 64 ∧ 0 < s.time.correction) ∨
      ((countTick s).time.ft = s.time.ft ∧ s.time.correction < 0) := by
  unfold countTick
  split
  · rename_i h; simp at h; right; left
    rw [ft_of (lockIfClose_fixed _)]; exact ⟨rfl, h.1⟩
  · split
    · rename_i h; simp at h; right; right
      rw [ft_of (lockIfClose_fixed _)]; exact ⟨rfl, h.1.1⟩
    · left; rfl
theorem tick_ft (s) : (tickStep s).time.ft = (s.time.ft + 1) % 2 ^ 64 ∨
    ((tickStep s).time.ft = (s.time.ft + 2) % 2 ^ 64 ∧ 0 < s.time.correction) ∨
      ((tickStep s).time.ft = s.time.ft ∧ (s.time.correction < 0 ∨ s.pins.resetN = false)) := by
  unfold tickStep
  split
  · rename_i h; right; right; exact ⟨rfl, .inr (by simpa using h)⟩
  · rw [ft_of (pausesEnd_fixed _)]
    unfold fabricTick
    rw [ft_of (copiesTick_fixed _ _)]
    rcases countTick_ft (timersTick s) with h | h | h
    · exact .inl h
    · exact .inr (.inl h)
    · exact .inr (.inr ⟨h.1, .inl h.2⟩)
theorem applyOffset_still (o s) : (applyOffset o s).still = s.still := by
  unfold applyOffset
  split
  · dsimp only; rw [setTimeMode_still]; rfl
  · dsimp only
    generalize hX : setTimeMode _ _ = v
    have hv : v.still = s.still := by subst hX; exact (setTimeMode_still _ _).trans rfl
    split
    · exact (still_of (logEvent_fixed _ _ _)).trans hv
    · exact hv
theorem applyOffset_fixed (o s) (h : s.begun) : (applyOffset o s).fixed = s.fixed := by
  unfold applyOffset
  rw [if_neg (by rw [begun_field s h]; decide)]
  dsimp only
  generalize hX : setTimeMode _ _ = v
  have hv : v.fixed = s.fixed := by subst hX; exact (setTimeMode_fixed _ _).trans rfl
  split
  · exact (logEvent_fixed _ _ _).trans hv
  · exact hv

end Sys2Proof.Machine
end

