-- ==== Sys2Proof/Laws/CanonOps.lean ====
section
/-!
SUPPORT. Every function of the shared operations and mail on states keeps device memory, scratch and what tasks keep in canonical form. None is left out.
-/

-- One proof after another: in parallel each asks for a thread and its stack.
set_option Elab.async false
set_option linter.all false

namespace Sys2Proof.Machine

open Sys2Proof.Safety

/-- What Canonical asks of a state. -/
def State.canon (s : State) : Prop :=
  Parts s.mem.base s.mem.shadows s.mem.pins s.mem.preImages s.stk.scratch s.work.graphs s.work.jobs

@[simp] theorem canon_mk (p fc ti lo ne me po wo st ba li tr pw lk se fl bo pi) :
    State.canon ⟨p, fc, ti, lo, ne, me, po, wo, st, ba, li, tr, pw, lk, se, fl, bo, pi⟩ ↔
      Parts me.base me.shadows me.pins me.preImages st.scratch wo.graphs wo.jobs := Iff.intro id id

@[simp] theorem canon_field (s : State) (h : s.canon) :
    Parts s.mem.base s.mem.shadows s.mem.pins s.mem.preImages s.stk.scratch s.work.graphs s.work.jobs := h

@[simp low] theorem parts_iff (a b c d e f g) : Parts a b c d e f g ↔
    (canonicalBytes a = true ∧ ShadowsOk b ∧ PinsOk c ∧ PresOk d) ∧ canonicalBytes e = true ∧ GraphsOk f ∧ JobsOk g := Iff.rfl

@[simp] theorem canon_base (s : State) (h : s.canon) : canonicalBytes s.mem.base = true := h.1.1
@[simp] theorem canon_shadows (s : State) (h : s.canon) : ShadowsOk s.mem.shadows := h.1.2.1
@[simp] theorem canon_pins (s : State) (h : s.canon) : PinsOk s.mem.pins := h.1.2.2.1
@[simp] theorem canon_pres (s : State) (h : s.canon) : PresOk s.mem.preImages := h.1.2.2.2
@[simp] theorem canon_scratch (s : State) (h : s.canon) : canonicalBytes s.stk.scratch = true := h.2.1
@[simp] theorem canon_graphs (s : State) (h : s.canon) : GraphsOk s.work.graphs := h.2.2.1
@[simp] theorem canon_jobs (s : State) (h : s.canon) : JobsOk s.work.jobs := h.2.2.2

@[simp] theorem foldl_canon {α : Type} (f : State → α → State) (l : List α) (s : State) (h : ∀ s x, s.canon → (f s x).canon)
    (hs : s.canon) : (l.foldl f s).canon := by
  induction l generalizing s with
  | nil => exact hs
  | cons x l ih => rw [List.foldl_cons]; exact ih _ (h _ _ hs)

@[simp] theorem ite_canon (c : Prop) [Decidable c] (a b : State) (ha : a.canon) (hb : b.canon) : (if c then a else b).canon := by
  split <;> assumption

@[simp] theorem ite_snd_canon {α : Type} (c : Prop) [Decidable c] (a b : α × State) (ha : a.2.canon) (hb : b.2.canon) :
    (if c then a else b).2.canon := by
  split <;> assumption

theorem canon_of_snd {α : Type} {p : α × State} {a : α} {t : State} (h : p = (a, t)) (k : p.2.canon) : t.canon := by
  rw [h] at k; exact k

/-! Versions -/

@[simp] theorem shadowsOk_nil : ShadowsOk [] := fun _ h => by cases h
@[simp] theorem shadowsOk_filter (q) (l : List Shadow) (h : ShadowsOk l) : ShadowsOk (l.filter q) :=
  fun x hx => h x (List.mem_filter.mp hx).1
@[simp] theorem shadowsOk_map (f) (l : List Shadow) (h : ShadowsOk l)
    (hf : ∀ x, canonicalBytes x.cells = true → canonicalBytes (f x).cells = true) : ShadowsOk (l.map f) := fun x hx => by
  obtain ⟨y, hy, rfl⟩ := List.mem_map.mp hx
  exact hf y (h y hy)
@[simp] theorem shadowsOk_append (l : List Shadow) (x : Shadow) (h : ShadowsOk l) (hx : canonicalBytes x.cells = true) :
    ShadowsOk (l ++ [x]) := fun y hy => by
  rcases List.mem_append.mp hy with e | e
  · exact h y e
  · rw [List.mem_singleton.mp e]; exact hx
@[simp] theorem shadowsOk_set (x : Shadow) (l : List Shadow) (h : ShadowsOk l) (hx : canonicalBytes x.cells = true) :
    ShadowsOk (setShadow x l) := by
  unfold setShadow
  intro y hy
  obtain ⟨z, hz, rfl⟩ := List.mem_map.mp hy
  split
  · exact hx
  · exact h z hz

@[simp] theorem pinsOk_nil : PinsOk [] := fun _ h => by cases h
@[simp] theorem pinsOk_filter (q) (l : List Pin) (h : PinsOk l) : PinsOk (l.filter q) := fun x hx => h x (List.mem_filter.mp hx).1
@[simp] theorem pinsOk_map (f) (l : List Pin) (h : PinsOk l)
    (hf : ∀ x, canonicalBytes x.cells = true → canonicalBytes (f x).cells = true) : PinsOk (l.map f) := fun x hx => by
  obtain ⟨y, hy, rfl⟩ := List.mem_map.mp hx
  exact hf y (h y hy)
@[simp] theorem pinsOk_append (l : List Pin) (x : Pin) (h : PinsOk l) (hx : canonicalBytes x.cells = true) :
    PinsOk (l ++ [x]) := fun y hy => by
  rcases List.mem_append.mp hy with e | e
  · exact h y e
  · rw [List.mem_singleton.mp e]; exact hx

@[simp] theorem presOk_nil : PresOk [] := fun _ h => by cases h
@[simp] theorem presOk_filter (q) (l : List PreImage) (h : PresOk l) : PresOk (l.filter q) := fun x hx => h x (List.mem_filter.mp hx).1
@[simp] theorem presOk_map (f) (l : List PreImage) (h : PresOk l)
    (hf : ∀ x, canonicalBytes x.cells = true → canonicalBytes (f x).cells = true) : PresOk (l.map f) := fun x hx => by
  obtain ⟨y, hy, rfl⟩ := List.mem_map.mp hx
  exact hf y (h y hy)
@[simp] theorem presOk_append (l m : List PreImage) (h : PresOk l) (hm : PresOk m) : PresOk (l ++ m) := fun y hy => by
  rcases List.mem_append.mp hy with e | e
  · exact h y e
  · exact hm y e

@[simp] theorem canonical_putD (k : Nat) (v : Byte) (t : Tab Byte) (h : canonicalBytes t = true) :
    canonicalBytes (Tab.putD (0#8) k v t) = true := canonicalBytes_putD k v t h
@[simp] theorem canonical_committed (s : State) (p : Nat) (h : s.canon) : canonicalBytes (committedCells s p) = true :=
  canonicalBytes_committed s p h.1.1 h.1.2.1
@[simp] theorem canonical_newest (s : State) (p : Nat) (h : s.canon) : canonicalBytes (newestCells s p) = true :=
  canonicalBytes_newest s p h.1.1 h.1.2.1
@[simp] theorem canonical_newShadow (s : State) (p tag f q : Nat) (h : s.canon) : canonicalBytes (newShadow s p tag f q).cells = true :=
  canonicalBytes_newShadow s p tag f q h.1.1 h.1.2.1

/-! Tasks, graphs and jobs -/

/-- Of every task of a table. -/
def TasksOk (t : Tab Task) : Prop := ∀ x ∈ t, TaskOk x.2
/-- Of the pages a task began with. -/
def BeforeOk (t : Tab PageBefore) : Prop := ∀ b ∈ t, canonicalBytes b.2.cells = true

@[simp] theorem beforeOk_nil : BeforeOk [] := fun _ h => by cases h
@[simp] theorem taskOk_mk (a b c d e f g h i j k l m n o p q r t u v) :
    TaskOk ⟨a, b, c, d, e, f, g, h, i, j, k, l, m, n, o, p, q, r, t, u, v⟩ ↔ BeforeOk q :=
  Iff.intro id id
@[simp] theorem taskOk_before (t : Task) (h : TaskOk t) : BeforeOk t.before := h
@[simp] theorem graphOk_mk (a b c d e f g h i j k l m n o p q r t u) :
    GraphOk ⟨a, b, c, d, e, f, g, h, i, j, k, l, m, n, o, p, q, r, t, u⟩ ↔ TasksOk i :=
  Iff.intro id id
@[simp] theorem graphOk_tasks (g : Graph) (h : GraphOk g) : TasksOk g.tasks := h
@[simp] theorem tasksOk_modify (k f) (t : Tab Task) (h : TasksOk t) (hf : ∀ x, TaskOk x → TaskOk (f x)) : TasksOk (Tab.modify k f t) :=
  Tab.all_modify (p := fun x => TaskOk x.2) h hf
@[simp] theorem tasksOk_mapVals (f) (t : Tab Task) (h : TasksOk t) (hf : ∀ k x, TaskOk x → TaskOk (f k x)) : TasksOk (Tab.mapVals f t) :=
  fun y hy => by
    obtain ⟨x, hx, rfl⟩ := List.mem_map.mp hy
    exact hf _ _ (h x hx)
@[simp] theorem taskOk_ite (c : Prop) [Decidable c] (a b : Task) (ha : TaskOk a) (hb : TaskOk b) : TaskOk (if c then a else b) := by
  split <;> assumption
@[simp] theorem graphOk_ite (c : Prop) [Decidable c] (a b : Graph) (ha : GraphOk a) (hb : GraphOk b) : GraphOk (if c then a else b) := by
  split <;> assumption
@[simp] theorem cells_ite (c : Prop) [Decidable c] (a b : Shadow) (ha : canonicalBytes a.cells = true) (hb : canonicalBytes b.cells = true) :
    canonicalBytes (if c then a else b).cells = true := by
  split <;> assumption
@[simp] theorem pinCells_ite (c : Prop) [Decidable c] (a b : Pin) (ha : canonicalBytes a.cells = true) (hb : canonicalBytes b.cells = true) :
    canonicalBytes (if c then a else b).cells = true := by
  split <;> assumption
@[simp] theorem preCells_ite (c : Prop) [Decidable c] (a b : PreImage) (ha : canonicalBytes a.cells = true) (hb : canonicalBytes b.cells = true) :
    canonicalBytes (if c then a else b).cells = true := by
  split <;> assumption
@[simp] theorem graphsOk_nil : GraphsOk [] := fun _ h => by cases h
@[simp] theorem graphsOk_put (k g) (t : Tab Graph) (h : GraphsOk t) (hg : GraphOk g) : GraphsOk (Tab.put k g t) :=
  Tab.all_put (p := fun x => GraphOk x.2) h hg
@[simp] theorem graphsOk_del (k) (t : Tab Graph) (h : GraphsOk t) : GraphsOk (Tab.del k t) := Tab.all_del (p := fun x => GraphOk x.2) h
@[simp] theorem graphsOk_modify (k f) (t : Tab Graph) (h : GraphsOk t) (hf : ∀ x, GraphOk x → GraphOk (f x)) : GraphsOk (Tab.modify k f t) :=
  Tab.all_modify (p := fun x => GraphOk x.2) h hf
@[simp] theorem graphsOk_mapVals (f) (t : Tab Graph) (h : GraphsOk t) (hf : ∀ k x, GraphOk x → GraphOk (f k x)) : GraphsOk (Tab.mapVals f t) :=
  fun y hy => by
    obtain ⟨x, hx, rfl⟩ := List.mem_map.mp hy
    exact hf _ _ (h x hx)
@[simp] theorem jobsOk_nil : JobsOk [] := fun _ h => by cases h
@[simp] theorem jobsOk_put (k j) (t : Tab Job) (h : JobsOk t) (hj : KindOk j.kind) : JobsOk (Tab.put k j t) :=
  Tab.all_put (p := fun (x : Nat × Job) => KindOk x.2.kind) h hj
@[simp] theorem jobsOk_del (k) (t : Tab Job) (h : JobsOk t) : JobsOk (Tab.del k t) := Tab.all_del (p := fun (x : Nat × Job) => KindOk x.2.kind) h
@[simp] theorem jobsOk_modify (k f) (t : Tab Job) (h : JobsOk t) (hf : ∀ x, KindOk x.kind → KindOk (f x).kind) : JobsOk (Tab.modify k f t) :=
  Tab.all_modify (p := fun (x : Nat × Job) => KindOk x.2.kind) h fun v => hf v
@[simp] theorem kindOk_check (g a b) : KindOk (.graphCheck g a b) ↔ GraphOk g := Iff.intro id id
@[simp] theorem kindOk_lowering (a b) : KindOk (.lowering a b) := trivial
@[simp] theorem kindOk_poundClose : KindOk .poundClose := trivial
@[simp] theorem kindOk_rbuf (a b c d e) : KindOk (.rbuf a b c d e) := trivial
@[simp] theorem kindOk_passage (a) : KindOk (.passage a) := trivial
@[simp] theorem kindOk_flash : KindOk .flash := trivial
@[simp] theorem kindOk_atCommit (a b c d) : KindOk (.atCommit a b c d) := trivial
@[simp] theorem kindOk_attest (a b c) : KindOk (.attestWrite a b c) := trivial
@[simp] theorem kindOk_power : KindOk .power := trivial
@[simp] theorem kindOk_halt : KindOk .halt := trivial
@[simp] theorem kindOk_lifecycle : KindOk .lifecycle := trivial
@[simp] theorem kindOk_stamped (a b) : KindOk (.stamped a b) := trivial

@[simp] theorem updIssuer_canon (s a1 a2) (h : s.canon) : (State.updIssuer s a1 a2).canon := by
  exact h

@[simp] theorem updEth_canon (s a1 a2) (h : s.canon) : (State.updEth s a1 a2).canon := by
  exact h

@[simp] theorem updSession_canon (s a1 a2) (h : s.canon) : (State.updSession s a1 a2).canon := by
  exact h

@[simp] theorem updBarge_canon (s a1 a2) (h : s.canon) : (State.updBarge s a1 a2).canon := by
  exact h

@[simp] theorem updMemBerth_canon (s a1 a2) (h : s.canon) : (State.updMemBerth s a1 a2).canon := by
  exact h

@[simp] theorem updCore_canon (s a1 a2) (h : s.canon) : (State.updCore s a1 a2).canon := by
  exact h

@[simp] theorem updStack_canon (s a1 a2) (h : s.canon) : (State.updStack s a1 a2).canon := by
  exact h

@[simp] theorem updRouter_canon (s a1 a2) (h : s.canon) : (State.updRouter s a1 a2).canon := by
  exact h

@[simp] theorem updChamber_canon (s a1 a2) (h : s.canon) : (State.updChamber s a1 a2).canon := by
  exact h

@[simp] theorem updLink_canon (s a1 a2) (h : s.canon) : (State.updLink s a1 a2).canon := by
  exact h

@[simp] theorem updLaser_canon (s a1 a2) (h : s.canon) : (State.updLaser s a1 a2).canon := by
  exact h

@[simp] theorem updGroup_canon (s a1 a2) (h : s.canon) : (State.updGroup s a1 a2).canon := by
  exact h

@[simp] theorem updTport_canon (s a1 a2) (h : s.canon) : (State.updTport s a1 a2).canon := by
  exact h

@[simp] theorem updGraph_canon (s : State) (g f) (h : s.canon) (hf : ∀ x, GraphOk x → GraphOk (f x)) : (s.updGraph g f).canon :=
  ⟨h.1, h.2.1, graphsOk_modify _ _ _ h.2.2.1 hf, h.2.2.2⟩

@[simp] theorem updTask_canon (s : State) (g t f) (h : s.canon) (hf : ∀ x, TaskOk x → TaskOk (f x)) : (s.updTask g t f).canon :=
  updGraph_canon _ _ _ h fun x hx => tasksOk_modify _ _ _ hx hf

@[simp] theorem updMember_canon (s : State) (m f) (h : s.canon) : (s.updMember m f).canon :=
  updTask_canon _ _ _ _ h fun _ hx => hx

@[simp] theorem updLk_canon (s a1 a2) (h : s.canon) : (State.updLk s a1 a2).canon := by
  unfold State.updLk
  try simp +contextual (maxDischargeDepth := 40) [h]
  repeat' (first | (split <;> try simp +contextual (maxDischargeDepth := 40) [*]) | (refine foldl_canon _ _ _ (fun _ _ _ => ?_) ?_ <;> try simp +contextual (maxDischargeDepth := 40) [*]))

@[simp] theorem draw_canon (s) (h : s.canon) : (draw s).2.canon := by
  exact h

@[simp] theorem drawBelow_canon (a0 s) (h : s.canon) : (drawBelow a0 s).2.canon := by
  exact h

@[simp] theorem issueStamp_canon (a0 a1 s) (h : s.canon) : (issueStamp a0 a1 s).2.canon := by
  unfold issueStamp; simp [h]

@[simp] theorem appendEntry_canon (a0 s) (h : s.canon) : (appendEntry a0 s).canon := by
  unfold appendEntry
  try simp +contextual (maxDischargeDepth := 40) [h]
  repeat' (first | (split <;> try simp +contextual (maxDischargeDepth := 40) [*]) | (refine foldl_canon _ _ _ (fun _ _ _ => ?_) ?_ <;> try simp +contextual (maxDischargeDepth := 40) [*]))

@[simp] theorem putWire_canon (a0 s) (h : s.canon) : (putWire a0 s).canon := by
  unfold putWire; simp [h]

@[simp] theorem unpause_canon (a0 s) (h : s.canon) : (unpause a0 s).canon := by
  exact h

@[simp] theorem pausesEnd_canon (s) (h : s.canon) : (pausesEnd s).canon := by
  unfold pausesEnd; simp +contextual (maxDischargeDepth := 40) [h]

@[simp] theorem noticeToAddress_canon (a0 s) (h : s.canon) : (noticeToAddress a0 s).canon := by
  unfold noticeToAddress; simp (maxDischargeDepth := 40) [h]

@[simp] theorem logEventR_canon (a0 a1 a2 s) (h : s.canon) : (logEventR a0 a1 a2 s).canon := by
  unfold logEventR; simp (maxDischargeDepth := 40) [h]

@[simp] theorem logEvent_canon (a0 a1 s) (h : s.canon) : (logEvent a0 a1 s).canon := by
  unfold logEvent; simp [h]

@[simp] theorem alertPin_canon (s) (h : s.canon) : (alertPin s).canon := by
  exact h

@[simp] theorem raiseFault_canon (a0 a1 s) (h : s.canon) : (raiseFault a0 a1 s).canon := by
  unfold raiseFault
  try simp +contextual (maxDischargeDepth := 40) [h]
  repeat' (first | (split <;> try simp +contextual (maxDischargeDepth := 40) [*]) | (refine foldl_canon _ _ _ (fun _ _ _ => ?_) ?_ <;> try simp +contextual (maxDischargeDepth := 40) [*]))

@[simp] theorem sendFrame_canon (a0 a1 a2 a3 a4 s) (h : s.canon) : (sendFrame a0 a1 a2 a3 a4 s).canon := by
  unfold sendFrame; simp [h]

@[simp] theorem sendAck_canon (a0 s) (h : s.canon) : (sendAck a0 s).canon := by
  unfold sendAck; simp [h]

@[simp] theorem sendSequenced_canon (a0 a1 a2 a3 a4 a5 s) (h : s.canon) : (sendSequenced a0 a1 a2 a3 a4 a5 s).canon := by
  unfold sendSequenced; simp [h]

@[simp] theorem queueMail_canon (a0 a1 a2 s) (h : s.canon) : (queueMail a0 a1 a2 s).canon := by
  exact h

@[simp] theorem sendReply_canon (a0 a1 a2 s) (h : s.canon) : (sendReply a0 a1 a2 s).canon := by
  unfold sendReply
  try simp +contextual (maxDischargeDepth := 40) [h]
  repeat' (first | (split <;> try simp +contextual (maxDischargeDepth := 40) [*]) | (refine foldl_canon _ _ _ (fun _ _ _ => ?_) ?_ <;> try simp +contextual (maxDischargeDepth := 40) [*]))

@[simp] theorem answer_canon (a0 a1 a2 a3 a4 s) (h : s.canon) : (answer a0 a1 a2 a3 a4 s).canon := by
  unfold answer; simp [h]

@[simp] theorem addJob_canon (k src code corr s) (h : s.canon) (hk : KindOk k) : (addJob k src code corr s).canon := by
  unfold addJob
  exact ⟨h.1, h.2.1, h.2.2.1, jobsOk_put _ _ _ h.2.2.2 hk⟩

@[simp] theorem endJob_canon (a0 a1 a2 s) (h : s.canon) : (endJob a0 a1 a2 s).canon := by
  unfold endJob
  try simp +contextual (maxDischargeDepth := 40) [h]
  repeat' (first | (split <;> try simp +contextual (maxDischargeDepth := 40) [*]) | (refine foldl_canon _ _ _ (fun _ _ _ => ?_) ?_ <;> try simp +contextual (maxDischargeDepth := 40) [*]))

@[simp] theorem retireFrame_canon (a0 a1 s) (h : s.canon) : (retireFrame a0 a1 s).canon := by
  unfold retireFrame; simp [h]

@[simp] theorem releaseFrames_canon (a0 s) (h : s.canon) : (releaseFrames a0 s).canon := by
  unfold releaseFrames
  try simp +contextual (maxDischargeDepth := 40) [h]
  repeat' (first | (split <;> try simp +contextual (maxDischargeDepth := 40) [*]) | (refine foldl_canon _ _ _ (fun _ _ _ => ?_) ?_ <;> try simp +contextual (maxDischargeDepth := 40) [*]) | (intro _ <;> try simp +contextual (maxDischargeDepth := 40) [*]))

@[simp] theorem tableUpdate_canon (a0 s) (h : s.canon) : (tableUpdate a0 s).canon := by
  exact h

@[simp] theorem tablesUpdate_canon (s) (h : s.canon) : (tablesUpdate s).canon := by
  unfold tablesUpdate; simp +contextual (maxDischargeDepth := 40) [h]

@[simp] theorem releasePins_canon (a0 s) (h : s.canon) : (releasePins a0 s).canon := by
  unfold releasePins; simp (maxDischargeDepth := 40) [h]

@[simp] theorem endBarge_canon (a0 a1 s) (h : s.canon) : (endBarge a0 a1 s).canon := by
  unfold endBarge
  try simp +contextual (maxDischargeDepth := 40) [h]
  repeat' (first | (split <;> try simp +contextual (maxDischargeDepth := 40) [*]) | (refine foldl_canon _ _ _ (fun _ _ _ => ?_) ?_ <;> try simp +contextual (maxDischargeDepth := 40) [*]))

@[simp] theorem endBarges_canon (a0 a1 s) (h : s.canon) : (endBarges a0 a1 s).canon := by
  unfold endBarges; simp +contextual (maxDischargeDepth := 40) [h]

@[simp] theorem poolFrame_canon (s) (h : s.canon) : (poolFrame s).2.canon := by
  exact h

@[simp] theorem takeSlot_canon (s) (h : s.canon) : (takeSlot s).2.canon := by
  exact h

@[simp] theorem wornCheck_canon (a0 s) (h : s.canon) : (wornCheck a0 s).canon := by
  unfold wornCheck; simp [h]

@[simp] theorem tookLine_canon (a0 s) (h : s.canon) : (tookLine a0 s).canon := by
  unfold tookLine; simp [h]

@[simp] theorem poisonLine_canon (a0 a1 s) (h : s.canon) : (poisonLine a0 a1 s).canon := by
  unfold poisonLine
  try simp +contextual (maxDischargeDepth := 40) [h]
  repeat' (first | (split <;> try simp +contextual (maxDischargeDepth := 40) [*]) | (refine foldl_canon _ _ _ (fun _ _ _ => ?_) ?_ <;> try simp +contextual (maxDischargeDepth := 40) [*]) | (intro _ <;> try simp +contextual (maxDischargeDepth := 40) [*]))

@[simp] theorem parityReport_canon (a0 a1 a2 s) (h : s.canon) : (parityReport a0 a1 a2 s).canon := by
  unfold parityReport; simp (maxDischargeDepth := 40) [h]

@[simp] theorem retireLater_canon (a0 a1 s) (h : s.canon) : (retireLater a0 a1 s).canon := by
  exact h

@[simp] theorem heldOutcome_canon (a0 a1 s) (h : s.canon) : (heldOutcome a0 a1 s).canon := by
  unfold heldOutcome
  try simp +contextual (maxDischargeDepth := 40) [h]
  repeat' (first | (split <;> try simp +contextual (maxDischargeDepth := 40) [*]) | (refine foldl_canon _ _ _ (fun _ _ _ => ?_) ?_ <;> try simp +contextual (maxDischargeDepth := 40) [*]) | (intro _ <;> try simp +contextual (maxDischargeDepth := 40) [*]))

@[simp] theorem byteError_canon (a0 s) (h : s.canon) : (byteError a0 s).canon := by
  unfold byteError
  try simp +contextual (maxDischargeDepth := 40) [h]
  repeat' (first | (split <;> try simp +contextual (maxDischargeDepth := 40) [*]) | (refine foldl_canon _ _ _ (fun _ _ _ => ?_) ?_ <;> try simp +contextual (maxDischargeDepth := 40) [*]) | (intro _ <;> try simp +contextual (maxDischargeDepth := 40) [*]))

@[simp] theorem parityFault_canon (a0 s) (h : s.canon) : (parityFault a0 s).canon := by
  unfold parityFault
  try simp +contextual (maxDischargeDepth := 40) [h]
  repeat' (first | (split <;> try simp +contextual (maxDischargeDepth := 40) [*]) | (refine foldl_canon _ _ _ (fun _ _ _ => ?_) ?_ <;> try simp +contextual (maxDischargeDepth := 40) [*]) | (intro _ <;> try simp +contextual (maxDischargeDepth := 40) [*]))

@[simp] theorem parityRetry_canon (a0 s) (h : s.canon) : (parityRetry a0 s).canon := by
  exact h

@[simp] theorem paritySeen_canon (a0 a1 s) (h : s.canon) : (paritySeen a0 a1 s).canon := by
  unfold paritySeen
  try simp +contextual (maxDischargeDepth := 40) [h]
  repeat' (first | (split <;> try simp +contextual (maxDischargeDepth := 40) [*]) | (refine foldl_canon _ _ _ (fun _ _ _ => ?_) ?_ <;> try simp +contextual (maxDischargeDepth := 40) [*]) | (intro _ <;> try simp +contextual (maxDischargeDepth := 40) [*]))

@[simp] theorem readErrors_canon (a0 a1 a2 s) (h : s.canon) : (readErrors a0 a1 a2 s).canon := by
  unfold readErrors; simp +contextual (maxDischargeDepth := 40) [h]

@[simp] theorem carryWrong_canon (a0 a1 s) (h : s.canon) : (carryWrong a0 a1 s).canon := by
  exact h

@[simp] theorem addShadow_canon (a0 a1 s) (h : s.canon) : (addShadow a0 a1 s).canon := by
  unfold addShadow
  try simp +contextual (maxDischargeDepth := 40) [h]
  repeat' (first | (split <;> try simp +contextual (maxDischargeDepth := 40) [*]) | (refine foldl_canon _ _ _ (fun _ _ _ => ?_) ?_ <;> try simp +contextual (maxDischargeDepth := 40) [*]) | (intro _ <;> try simp +contextual (maxDischargeDepth := 40) [*]))

@[simp] theorem countDone_canon (a0 a1 s) (h : s.canon) : (countDone a0 a1 s).canon := by
  exact h

@[simp] theorem noteBargeWrite_canon (a0 a1 s) (h : s.canon) : (noteBargeWrite a0 a1 s).canon := by
  unfold noteBargeWrite
  try simp +contextual (maxDischargeDepth := 40) [h]
  repeat' (first | (split <;> try simp +contextual (maxDischargeDepth := 40) [*]) | (refine foldl_canon _ _ _ (fun _ _ _ => ?_) ?_ <;> try simp +contextual (maxDischargeDepth := 40) [*]))

@[simp] theorem storeParity_canon (a0 a1 a2 s) (h : s.canon) : (storeParity a0 a1 a2 s).canon := by
  exact h

theorem shadowsOk_find (s : State) (p tag x) (h : s.canon) (e : shadowOf s p tag = some x) : canonicalBytes x.cells = true :=
  h.1.2.1 x (shadowOf_mem e)

@[simp] theorem setShadow_canon (s : State) (x : Shadow) (h : s.canon) (hx : canonicalBytes x.cells = true) :
    ({ s with mem.shadows := setShadow x s.mem.shadows } : State).canon :=
  ⟨⟨h.1.1, shadowsOk_set _ _ h.1.2.1 hx, h.1.2.2⟩, h.2⟩

@[simp] theorem secondShadow_canon (p l n c b s) (h : s.canon) : (secondShadow p l n c b s).canon := by
  unfold secondShadow
  split
  · split
    · split
      · rename_i e
        split
        · exact h
        · exact storeParity_canon _ _ _ _ (setShadow_canon s _ h (canonicalBytes_putCells _ _ (shadowsOk_find _ _ _ _ h e)))
      · exact h
    · exact h
  · exact h

@[simp] theorem lineTest_canon (k st n p l c b s) (h : s.canon) : (lineTest k st n p l c b s).canon := by
  unfold lineTest
  split
  · exact h
  · next x e =>
    have hx := shadowsOk_find _ _ _ _ h e
    have g : ((testErrors s x l c).foldl (fun s a => byteError a s) s).canon := foldl_canon _ _ _ (fun _ _ h => byteError_canon _ _ h) h
    dsimp only
    split
    · split
      · exact updMemBerth_canon _ _ _ g
      · exact raiseFault_canon _ _ _ (updMemBerth_canon _ _ _ g)
    · exact secondShadow_canon _ _ _ _ _ _ (storeParity_canon _ _ _ _ (setShadow_canon _ _ g (canonicalBytes_putCells _ _ hx)))

@[simp] theorem linesTest_canon (a0 a1 a2 a3 s) (h : s.canon) : (linesTest a0 a1 a2 a3 s).canon := by
  unfold linesTest; simp +contextual (maxDischargeDepth := 40) [h]

theorem foldShare_canon (k x s) (h : s.canon) (hx : canonicalBytes x.cells = true) : (foldShare k x s).canon := by
  unfold foldShare
  have hb : canonicalBytes ((x.cells.filter fun c => memBerthOf c.1 == k).foldl (fun t c => Tab.put (x.page * 65536 + c.1) c.2 t)
      (s.mem.base.filter fun c => !(pageOf c.1 == x.page && memBerthOf (c.1 % 65536) == k))) = true :=
    canonicalBytes_lay (fun a => x.page * 65536 + a) _ _ (canonicalBytes_filter _ _ h.1.1) fun c hc =>
      ((canonicalBytes_iff _).1 hx).2 c (List.mem_filter.mp hc).1
  dsimp only
  split
  · exact tableUpdate_canon _ _ (releaseFrames_canon _ _ ⟨⟨hb, shadowsOk_filter _ _ h.1.2.1, h.1.2.2⟩, h.2⟩)
  · exact tableUpdate_canon _ _ ⟨⟨hb, shadowsOk_set _ _ h.1.2.1 hx, h.1.2.2⟩, h.2⟩

theorem nextFold_canonical (s k q x) (h : s.canon) (e : nextFold s k q = some x) : canonicalBytes x.cells = true := by
  unfold nextFold at e
  exact h.1.2.1 x (List.mem_filter.mp ((mem_byTag x _).1 (List.mem_of_mem_head? e))).1

@[simp] theorem foldStep_canon (k s) (h : s.canon) : (foldStep k s).canon := by
  unfold foldStep
  split
  · next e => exact foldShare_canon _ _ _ h (nextFold_canonical _ _ _ _ h e)
  · exact h

@[simp] theorem foldPage_canon (p s) (h : s.canon) : (foldPage p s).canon := by
  unfold foldPage
  refine foldl_canon _ _ _ (fun _ _ h => foldl_canon _ _ _ (fun _ _ h => ?_) h) h
  split
  · next e => exact foldShare_canon _ _ _ h (nextFold_canonical _ _ _ _ h e)
  · exact h

@[simp] theorem foldFull_canon (a0 s) (h : s.canon) : (foldFull a0 s).canon := by
  unfold foldFull; simp [h]

@[simp] theorem applyWrite_canon (a0 s) (h : s.canon) : (applyWrite a0 s).canon := by
  unfold applyWrite
  try simp +contextual (maxDischargeDepth := 40) [h]
  repeat' (first | (split <;> try simp +contextual (maxDischargeDepth := 40) [*]) | (refine foldl_canon _ _ _ (fun _ _ _ => ?_) ?_ <;> try simp +contextual (maxDischargeDepth := 40) [*]) | (intro _ <;> try simp +contextual (maxDischargeDepth := 40) [*]))

@[simp] theorem countIssued_canon (a0 a1 s) (h : s.canon) : (countIssued a0 a1 s).canon := by
  exact h

@[simp] theorem newWrite_canon (a0 s) (h : s.canon) : (newWrite a0 s).2.canon := by
  exact h

@[simp] theorem stampWrite_canon (a0 s) (h : s.canon) : (stampWrite a0 s).canon := by
  unfold stampWrite
  try simp +contextual (maxDischargeDepth := 40) [h]
  repeat' (first | (split <;> try simp +contextual (maxDischargeDepth := 40) [*]) | (refine foldl_canon _ _ _ (fun _ _ _ => ?_) ?_ <;> try simp +contextual (maxDischargeDepth := 40) [*]))

@[simp] theorem dropMail_canon (a0 a1 s) (h : s.canon) : (dropMail a0 a1 s).canon := by
  unfold dropMail
  try simp +contextual (maxDischargeDepth := 40) [h]
  repeat' (first | (split <;> try simp +contextual (maxDischargeDepth := 40) [*]) | (refine foldl_canon _ _ _ (fun _ _ _ => ?_) ?_ <;> try simp +contextual (maxDischargeDepth := 40) [*]))

@[simp] theorem checkpointStep_canon (s) (h : s.canon) : (checkpointStep s).canon := by
  exact h

theorem takeMail_canon {src sel s m t} (h : s.canon) (e : takeMail src sel s = some (m, t)) : t.canon := by
  unfold takeMail at e
  split at e
  · cases e
  · split at e <;> cases e
    simp (maxDischargeDepth := 40) [h]

@[simp] theorem mailStepSel_canon (src code sel body s) (h : s.canon) (hb : ∀ c m s, s.canon → (body c m s).canon) :
    (mailStepSel src code sel body s).canon := by
  unfold mailStepSel
  split
  · exact h
  · rename_i m t e
    have := takeMail_canon h e
    dsimp only
    split <;> simp (maxDischargeDepth := 40) [hb, this]

@[simp] theorem mailStep_canon (src code body s) (h : s.canon) (hb : ∀ c m s, s.canon → (body c m s).canon) :
    (mailStep src code body s).canon := mailStepSel_canon _ _ _ _ _ h hb

@[simp] theorem refuseUnparsed_canon (src s) (h : s.canon) : (refuseUnparsed src s).canon := by
  unfold refuseUnparsed
  split
  · exact h
  · rename_i m t e
    have := takeMail_canon h e
    split <;> simp (maxDischargeDepth := 40) [this]

@[simp] theorem sourceErrors_canon (a0 a1 a2 s) (h : s.canon) : (sourceErrors a0 a1 a2 s).canon := by
  unfold sourceErrors
  try simp +contextual (maxDischargeDepth := 40) [h]
  repeat' (first | (split <;> try simp +contextual (maxDischargeDepth := 40) [*]) | (refine foldl_canon _ _ _ (fun _ _ _ => ?_) ?_ <;> try simp +contextual (maxDischargeDepth := 40) [*]) | (intro _ <;> try simp +contextual (maxDischargeDepth := 40) [*]))

@[simp] theorem orRefuse_canon {α : Type} (src code corr) (r : Nat ⊕ α) (k s) (hs : s.canon) (h : ∀ x s, s.canon → (k x s).canon) :
    (orRefuse src code corr r k s).canon := by
  unfold orRefuse
  split <;> simp (maxDischargeDepth := 40) [h, hs]

@[simp] theorem allot_canon (a0 s) (h : s.canon) : (allot a0 s).canon := by
  unfold allot; simp +contextual (maxDischargeDepth := 40) [h]

@[simp] theorem addWindow_canon (a0 a1 a2 a3 s) (h : s.canon) : (addWindow a0 a1 a2 a3 s).canon := by
  exact h

@[simp] theorem nextWindow_canon (a0 a1 s) (h : s.canon) : (nextWindow a0 a1 s).canon := by
  exact h

@[simp] theorem maintenance_canon (a0 a1 s) (h : s.canon) : (maintenance a0 a1 s).canon := by
  exact h

@[simp] theorem grantStamp_canon (a0 s) (h : s.canon) : (grantStamp a0 s).canon := by
  unfold grantStamp
  try simp +contextual (maxDischargeDepth := 40) [h]
  repeat' (first | (split <;> try simp +contextual (maxDischargeDepth := 40) [*]) | (refine foldl_canon _ _ _ (fun _ _ _ => ?_) ?_ <;> try simp +contextual (maxDischargeDepth := 40) [*]) | (refine orRefuse_canon _ _ _ _ _ _ ?_ (fun _ _ _ => ?_) <;> try simp +contextual (maxDischargeDepth := 40) [*]))

@[simp] theorem linkTakes_canon (a0 a1 a2 s) (h : s.canon) : (linkTakes a0 a1 a2 s).canon := by
  unfold linkTakes; simp [h]

@[simp] theorem installPort_canon (a0 a1 s) (h : s.canon) : (installPort a0 a1 s).canon := by
  unfold installPort
  try simp +contextual (maxDischargeDepth := 40) [h]
  repeat' (first | (split <;> try simp +contextual (maxDischargeDepth := 40) [*]) | (refine foldl_canon _ _ _ (fun _ _ _ => ?_) ?_ <;> try simp +contextual (maxDischargeDepth := 40) [*]) | (refine orRefuse_canon _ _ _ _ _ _ ?_ (fun _ _ _ => ?_) <;> try simp +contextual (maxDischargeDepth := 40) [*]))

@[simp] theorem admitList_canon (b l h s) (hs : s.canon) : (admitList b l h s).2.canon := by
  induction l generalizing h s with
  | nil => exact hs
  | cons w l ih =>
    unfold admitList
    dsimp only
    split
    · exact ih _ _ hs
    · split
      · exact ih _ _ hs
      · split
        · exact ih _ _ (linkTakes_canon _ _ _ _ hs)
        · exact ih _ _ (installPort_canon _ _ _ hs)

@[simp] theorem admitBerth_canon (a0 s) (h : s.canon) : (admitBerth a0 s).canon := by
  unfold admitBerth; simp [h]

@[simp] theorem enterBerth_canon (a0 a1 a2 s) (h : s.canon) : (enterBerth a0 a1 a2 s).canon := by
  unfold enterBerth; simp [h]

@[simp] theorem takeBack_canon (a0 a1 s) (h : s.canon) : (takeBack a0 a1 s).canon := by
  unfold takeBack; simp [h]

@[simp] theorem admitAll_canon (s) (h : s.canon) : (admitAll s).canon := by
  unfold admitAll; simp +contextual (maxDischargeDepth := 40) [h]

@[simp] theorem torusHop_canon (a0 a1 a2 a3 a4 s) (h : s.canon) : (torusHop a0 a1 a2 a3 a4 s).canon := by
  unfold torusHop; simp [h]

@[simp] theorem sendTorusPacket_canon (a0 a1 a2 a3 a4 a5 s) (h : s.canon) : (sendTorusPacket a0 a1 a2 a3 a4 a5 s).canon := by
  unfold sendTorusPacket
  try simp +contextual (maxDischargeDepth := 40) [h]
  repeat' (first | (split <;> try simp +contextual (maxDischargeDepth := 40) [*]) | (refine foldl_canon _ _ _ (fun _ _ _ => ?_) ?_ <;> try simp +contextual (maxDischargeDepth := 40) [*]) | (refine orRefuse_canon _ _ _ _ _ _ ?_ (fun _ _ _ => ?_) <;> try simp +contextual (maxDischargeDepth := 40) [*]))

@[simp] theorem sendRelay_canon (a0 a1 s) (h : s.canon) : (sendRelay a0 a1 s).canon := by
  unfold sendRelay
  try simp +contextual (maxDischargeDepth := 40) [h]
  repeat' (first | (split <;> try simp +contextual (maxDischargeDepth := 40) [*]) | (refine foldl_canon _ _ _ (fun _ _ _ => ?_) ?_ <;> try simp +contextual (maxDischargeDepth := 40) [*]) | (refine orRefuse_canon _ _ _ _ _ _ ?_ (fun _ _ _ => ?_) <;> try simp +contextual (maxDischargeDepth := 40) [*]) | (intro _ <;> try simp +contextual (maxDischargeDepth := 40) [*]))

@[simp] theorem relay_canon (a0 a1 s) (h : s.canon) : (relay a0 a1 s).canon := by
  unfold relay
  try simp +contextual (maxDischargeDepth := 40) [h]
  repeat' (first | (split <;> try simp +contextual (maxDischargeDepth := 40) [*]) | (refine foldl_canon _ _ _ (fun _ _ _ => ?_) ?_ <;> try simp +contextual (maxDischargeDepth := 40) [*]) | (refine orRefuse_canon _ _ _ _ _ _ ?_ (fun _ _ _ => ?_) <;> try simp +contextual (maxDischargeDepth := 40) [*]) | (intro _ <;> try simp +contextual (maxDischargeDepth := 40) [*]))

@[simp] theorem sendNeighbour_canon (a0 a1 s) (h : s.canon) : (sendNeighbour a0 a1 s).canon := by
  unfold sendNeighbour; simp [h]

@[simp] theorem sendControl_canon (a0 a1 a2 s) (h : s.canon) : (sendControl a0 a1 a2 s).canon := by
  unfold sendControl; simp [h]

@[simp] theorem torusSend_canon (a0 s) (h : s.canon) : (torusSend a0 s).canon := by
  exact h

@[simp] theorem floodNotice_canon (a0 a1 a2 s) (h : s.canon) : (floodNotice a0 a1 a2 s).canon := by
  unfold floodNotice; simp +contextual (maxDischargeDepth := 40) [h]

@[simp] theorem announce_canon (a0 s) (h : s.canon) : (announce a0 s).canon := by
  unfold announce; simp [h]

@[simp] theorem routeNotice_canon (a0 a1 s) (h : s.canon) : (routeNotice a0 a1 s).canon := by
  unfold routeNotice
  try simp +contextual (maxDischargeDepth := 40) [h]
  repeat' (first | (split <;> try simp +contextual (maxDischargeDepth := 40) [*]) | (refine foldl_canon _ _ _ (fun _ _ _ => ?_) ?_ <;> try simp +contextual (maxDischargeDepth := 40) [*]) | (refine orRefuse_canon _ _ _ _ _ _ ?_ (fun _ _ _ => ?_) <;> try simp +contextual (maxDischargeDepth := 40) [*]) | (intro _ <;> try simp +contextual (maxDischargeDepth := 40) [*]))

@[simp] theorem sendNotice_canon (a0 s) (h : s.canon) : (sendNotice a0 s).canon := by
  unfold sendNotice; simp [h]

@[simp] theorem moveEnds_canon (a0 s) (h : s.canon) : (moveEnds a0 s).canon := by
  unfold moveEnds; simp +contextual (maxDischargeDepth := 40) [h]

@[simp] theorem recount_canon (a0 s) (h : s.canon) : (recount a0 s).canon := by
  unfold recount
  refine moveEnds_canon _ _ (foldl_canon _ _ _ (fun _ _ h => ?_) h)
  split
  · exact h
  · split
    · exact updMemBerth_canon _ _ _ h
    · exact h

@[simp] theorem deferCut_canon (a0 a1 s) (h : s.canon) : (deferCut a0 a1 s).canon := by
  exact h

@[simp] theorem nameCut_canon (a0 a1 s) (h : s.canon) : (nameCut a0 a1 s).canon := by
  unfold nameCut
  try simp +contextual (maxDischargeDepth := 40) [h]
  repeat' (first | (split <;> try simp +contextual (maxDischargeDepth := 40) [*]) | (refine foldl_canon _ _ _ (fun _ _ _ => ?_) ?_ <;> try simp +contextual (maxDischargeDepth := 40) [*]) | (refine orRefuse_canon _ _ _ _ _ _ ?_ (fun _ _ _ => ?_) <;> try simp +contextual (maxDischargeDepth := 40) [*]))

@[simp] theorem joinCut_canon (a0 a1 a2 s) (h : s.canon) : (joinCut a0 a1 a2 s).canon := by
  unfold joinCut; simp (maxDischargeDepth := 40) [h]

@[simp] theorem masterCut_canon (a0 s) (h : s.canon) : (masterCut a0 s).2.canon := by
  exact h

@[simp] theorem takeCut_canon (a0 a1 a2 s) (h : s.canon) : (takeCut a0 a1 a2 s).canon := by
  unfold takeCut
  try simp +contextual (maxDischargeDepth := 40) [h]
  repeat' (first | (split <;> try simp +contextual (maxDischargeDepth := 40) [*]) | (refine foldl_canon _ _ _ (fun _ _ _ => ?_) ?_ <;> try simp +contextual (maxDischargeDepth := 40) [*]) | (refine orRefuse_canon _ _ _ _ _ _ ?_ (fun _ _ _ => ?_) <;> try simp +contextual (maxDischargeDepth := 40) [*]) | (intro _ <;> try simp +contextual (maxDischargeDepth := 40) [*]))

@[simp] theorem joinSerial_canon (s) (h : s.canon) : (joinSerial s).2.canon := by
  unfold joinSerial; simp [h]

@[simp] theorem answerJoiners_canon (a0 a1 s) (h : s.canon) : (answerJoiners a0 a1 s).canon := by
  unfold answerJoiners; simp +contextual (maxDischargeDepth := 40) [h]

@[simp] theorem nameMasterCut_canon (a0 a1 s) (h : s.canon) : (nameMasterCut a0 a1 s).canon := by
  unfold nameMasterCut; simp (maxDischargeDepth := 40) [h]

@[simp] theorem askClose_canon (a0 a1 s) (h : s.canon) : (askClose a0 a1 s).canon := by
  unfold askClose; simp (maxDischargeDepth := 40) [h]

@[simp] theorem poolTrigger_canon (s) (h : s.canon) : (poolTrigger s).canon := by
  unfold poolTrigger; simp (maxDischargeDepth := 40) [h]

@[simp] theorem setTimeMode_canon (a0 s) (h : s.canon) : (setTimeMode a0 s).canon := by
  unfold setTimeMode; simp (maxDischargeDepth := 40) [h]

@[simp] theorem reselect_canon (s) (h : s.canon) : (reselect s).canon := by
  unfold reselect; simp (maxDischargeDepth := 40) [h]

@[simp] theorem mailIdentify_canon (a0 a1 a2 s) (h : s.canon) : (mailIdentify a0 a1 a2 s).canon := by
  unfold mailIdentify; simp [h]

@[simp] theorem answerStamped_canon (src code corr pre post s) (h : s.canon) : (answerStamped src code corr pre post s).canon := by
  unfold answerStamped
  split <;> rename_i e <;> have hh := canon_of_snd e (issueStamp_canon _ _ _ h) <;> simp (maxDischargeDepth := 40) [hh]

@[simp] theorem mailFtRead_canon (a0 a1 a2 s) (h : s.canon) : (mailFtRead a0 a1 a2 s).canon := by
  unfold mailFtRead; simp [h]

@[simp] theorem mailPoundStatus_canon (a0 a1 a2 s) (h : s.canon) : (mailPoundStatus a0 a1 a2 s).canon := by
  unfold mailPoundStatus; simp [h]

@[simp] theorem mailEventSubscribe_canon (a0 a1 a2 s) (h : s.canon) : (mailEventSubscribe a0 a1 a2 s).canon := by
  unfold mailEventSubscribe
  try simp +contextual (maxDischargeDepth := 40) [h]
  repeat' (first | (split <;> try simp +contextual (maxDischargeDepth := 40) [*]) | (refine foldl_canon _ _ _ (fun _ _ _ => ?_) ?_ <;> try simp +contextual (maxDischargeDepth := 40) [*]) | (refine orRefuse_canon _ _ _ _ _ _ ?_ (fun _ _ _ => ?_) <;> try simp +contextual (maxDischargeDepth := 40) [*]))

@[simp] theorem mailEventRead_canon (a0 a1 a2 s) (h : s.canon) : (mailEventRead a0 a1 a2 s).canon := by
  unfold mailEventRead; simp [h]

theorem createBuffer_canon {size r s a b t} (hs : s.canon) (h : createBuffer size r s = .inr (a, b, t)) : t.canon := by
  unfold createBuffer at h
  simp only at h
  repeat' (split at h)
  all_goals simp only [Sum.inr.injEq, Prod.mk.injEq, reduceCtorEq] at h
  obtain ⟨-, -, rfl⟩ := h
  exact hs

@[simp] theorem mailBufCreate_canon (src corr m s) (h : s.canon) : (mailBufCreate src corr m s).canon := by
  unfold mailBufCreate
  split
  · simp (maxDischargeDepth := 40) [h]
  · rename_i e
    simp (maxDischargeDepth := 40) [createBuffer_canon h e]

@[simp] theorem freeBuffer_canon (a0 a1 s) (h : s.canon) : (freeBuffer a0 a1 s).canon := by
  unfold freeBuffer
  try simp +contextual (maxDischargeDepth := 40) [h]
  repeat' (first | (split <;> try simp +contextual (maxDischargeDepth := 40) [*]) | (refine foldl_canon _ _ _ (fun _ _ _ => ?_) ?_ <;> try simp +contextual (maxDischargeDepth := 40) [*]) | (refine orRefuse_canon _ _ _ _ _ _ ?_ (fun _ _ _ => ?_) <;> try simp +contextual (maxDischargeDepth := 40) [*]) | (intro _ <;> try simp +contextual (maxDischargeDepth := 40) [*]))

@[simp] theorem mailBufFree_canon (a0 a1 a2 s) (h : s.canon) : (mailBufFree a0 a1 a2 s).canon := by
  unfold mailBufFree
  try simp +contextual (maxDischargeDepth := 40) [h]
  repeat' (first | (split <;> try simp +contextual (maxDischargeDepth := 40) [*]) | (refine foldl_canon _ _ _ (fun _ _ _ => ?_) ?_ <;> try simp +contextual (maxDischargeDepth := 40) [*]) | (refine orRefuse_canon _ _ _ _ _ _ ?_ (fun _ _ _ => ?_) <;> try simp +contextual (maxDischargeDepth := 40) [*]) | (intro _ <;> try simp +contextual (maxDischargeDepth := 40) [*]))

@[simp] theorem liveRead_canon (a0 a1 s) (h : s.canon) : (liveRead a0 a1 s).2.canon := by
  exact h

@[simp] theorem mailMemRead_canon (a0 a1 a2 s) (h : s.canon) : (mailMemRead a0 a1 a2 s).canon := by
  unfold mailMemRead; simp +contextual (maxDischargeDepth := 40) [h]

@[simp] theorem mailBargeOpen_canon (a0 a1 a2 s) (h : s.canon) : (mailBargeOpen a0 a1 a2 s).canon := by
  unfold mailBargeOpen
  try simp +contextual (maxDischargeDepth := 40) [h]
  repeat' (first | (split <;> try simp +contextual (maxDischargeDepth := 40) [*]) | (refine foldl_canon _ _ _ (fun _ _ _ => ?_) ?_ <;> try simp +contextual (maxDischargeDepth := 40) [*]) | (refine orRefuse_canon _ _ _ _ _ _ ?_ (fun _ _ _ => ?_) <;> try simp +contextual (maxDischargeDepth := 40) [*]))

@[simp] theorem mailBargeCancel_canon (a0 a1 a2 s) (h : s.canon) : (mailBargeCancel a0 a1 a2 s).canon := by
  unfold mailBargeCancel
  try simp +contextual (maxDischargeDepth := 40) [h]
  repeat' (first | (split <;> try simp +contextual (maxDischargeDepth := 40) [*]) | (refine foldl_canon _ _ _ (fun _ _ _ => ?_) ?_ <;> try simp +contextual (maxDischargeDepth := 40) [*]) | (refine orRefuse_canon _ _ _ _ _ _ ?_ (fun _ _ _ => ?_) <;> try simp +contextual (maxDischargeDepth := 40) [*]))

@[simp] theorem mailPoundClose_canon (a0 a1 a2 s) (h : s.canon) : (mailPoundClose a0 a1 a2 s).canon := by
  unfold mailPoundClose; simp [h]

end Sys2Proof.Machine
end

