-- ==== Sys2Proof/Laws/CanonNetwork.lean ====
section
/-!
SUPPORT. Every function of the torus, frames, scratch and the way of a packet on states keeps device memory, scratch and what tasks keep in canonical form. None is left out.
-/

-- One proof after another: in parallel each asks for a thread and its stack.
set_option Elab.async false
set_option linter.all false

namespace Sys2Proof.Machine

open Sys2Proof.Safety

@[simp] theorem countPort_canon (a0 a1 a2 a3 s) (h : s.canon) : (countPort a0 a1 a2 a3 s).canon := by
  exact h

@[simp] theorem markDepth_canon (a0 s) (h : s.canon) : (markDepth a0 s).canon := by
  exact h

@[simp] theorem dropPassage_canon (a0 a1 s) (h : s.canon) : (dropPassage a0 a1 s).canon := by
  exact h

@[simp] theorem releasePassage_canon (a0 a1 s) (h : s.canon) : (releasePassage a0 a1 s).canon := by
  exact h

@[simp] theorem passagesAtCut_canon (s) (h : s.canon) : (passagesAtCut s).canon := by
  unfold passagesAtCut; simp +contextual (maxDischargeDepth := 40) [h]

@[simp] theorem losePassage_canon (a0 s) (h : s.canon) : (losePassage a0 s).canon := by
  unfold losePassage
  try simp +contextual (maxDischargeDepth := 40) [h]
  repeat' (first | (split <;> try simp +contextual (maxDischargeDepth := 40) [*]) | (refine foldl_canon _ _ _ (fun _ _ _ => ?_) ?_ <;> try simp +contextual (maxDischargeDepth := 40) [*]) | (refine orRefuse_canon _ _ _ _ _ _ ?_ (fun _ _ _ => ?_) <;> try simp +contextual (maxDischargeDepth := 40) [*]))

@[simp] theorem losePassages_canon (a0 s) (h : s.canon) : (losePassages a0 s).canon := by
  unfold losePassages; simp +contextual (maxDischargeDepth := 40) [h]

@[simp] theorem portsDown_canon (a0 s) (h : s.canon) : (portsDown a0 s).canon := by
  unfold portsDown; simp +contextual (maxDischargeDepth := 40) [h]

@[simp] theorem setLinks_canon (links st s) (h : s.canon) : (setLinks links st s).canon := by
  unfold setLinks
  dsimp only
  refine reselect_canon _ ?_
  refine foldl_canon _ _ _ (fun s d h => announce_canon _ _ h) ?_
  refine foldl_canon _ _ _ (fun s d h => announce_canon _ _ (logEvent_canon _ _ _ h)) ?_
  refine losePassages_canon _ _ ?_
  exact foldl_canon _ _ _ (fun s d h => updLink_canon _ _ _ h) h

@[simp] theorem setCircuit_canon (a0 a1 a2 a3 s) (h : s.canon) : (setCircuit a0 a1 a2 a3 s).canon := by
  unfold setCircuit
  try simp +contextual (maxDischargeDepth := 40) [h]
  repeat' (first | (split <;> try simp +contextual (maxDischargeDepth := 40) [*]) | (refine foldl_canon _ _ _ (fun _ _ _ => ?_) ?_ <;> try simp +contextual (maxDischargeDepth := 40) [*]) | (refine orRefuse_canon _ _ _ _ _ _ ?_ (fun _ _ _ => ?_) <;> try simp +contextual (maxDischargeDepth := 40) [*]))

@[simp] theorem dropCircuit_canon (a0 a1 s) (h : s.canon) : (dropCircuit a0 a1 s).canon := by
  unfold dropCircuit
  try simp +contextual (maxDischargeDepth := 40) [h]
  repeat' (first | (split <;> try simp +contextual (maxDischargeDepth := 40) [*]) | (refine foldl_canon _ _ _ (fun _ _ _ => ?_) ?_ <;> try simp +contextual (maxDischargeDepth := 40) [*]) | (refine orRefuse_canon _ _ _ _ _ _ ?_ (fun _ _ _ => ?_) <;> try simp +contextual (maxDischargeDepth := 40) [*]))

@[simp] theorem occupy_canon (a0 a1 a2 s) (h : s.canon) : (occupy a0 a1 a2 s).canon := by
  exact h

@[simp] theorem basinTake_canon (a0 a1 a2 s) (h : s.canon) : (basinTake a0 a1 a2 s).canon := by
  exact h

@[simp] theorem basinGive_canon (a0 a1 a2 s) (h : s.canon) : (basinGive a0 a1 a2 s).canon := by
  exact h

@[simp] theorem putScratch_canon (a0 a1 s) (h : s.canon) : (putScratch a0 a1 s).canon := by
  unfold putScratch; simp [h]

@[simp] theorem spoilByte_canon (a0 a1 s) (h : s.canon) : (spoilByte a0 a1 s).canon := by
  unfold spoilByte; simp (maxDischargeDepth := 40) [h]

@[simp] theorem spoilWord_canon (a0 a1 a2 s) (h : s.canon) : (spoilWord a0 a1 a2 s).canon := by
  unfold spoilWord; simp +contextual (maxDischargeDepth := 40) [h]

@[simp] theorem scratchError_canon (a0 a1 a2 s) (h : s.canon) : (scratchError a0 a1 a2 s).canon := by
  unfold scratchError; simp [h]

@[simp] theorem checkWord_canon (a0 a1 a2 s) (h : s.canon) : (checkWord a0 a1 a2 s).canon := by
  unfold checkWord; simp [h]

@[simp] theorem checkRuns_canon (a0 a1 s) (h : s.canon) : (checkRuns a0 a1 s).canon := by
  unfold checkRuns; simp +contextual (maxDischargeDepth := 40) [h]

@[simp] theorem landBytes_canon (a0 a1 a2 s) (h : s.canon) : (landBytes a0 a1 a2 s).canon := by
  unfold landBytes; simp +contextual (maxDischargeDepth := 40) [h]

@[simp] theorem coreRead_canon (a0 a1 a2 s) (h : s.canon) : (coreRead a0 a1 a2 s).canon := by
  exact h

@[simp] theorem deferredCycle_canon (a0 a1 a2 a3 s) (h : s.canon) : (deferredCycle a0 a1 a2 a3 s).canon := by
  unfold deferredCycle
  try simp +contextual (maxDischargeDepth := 40) [h]
  repeat' (first | (split <;> try simp +contextual (maxDischargeDepth := 40) [*]) | (refine foldl_canon _ _ _ (fun _ _ _ => ?_) ?_ <;> try simp +contextual (maxDischargeDepth := 40) [*]) | (refine orRefuse_canon _ _ _ _ _ _ ?_ (fun _ _ _ => ?_) <;> try simp +contextual (maxDischargeDepth := 40) [*]))

@[simp] theorem portCycle_canon (a0 a1 a2 s) (h : s.canon) : (portCycle a0 a1 a2 s).canon := by
  unfold portCycle
  try simp +contextual (maxDischargeDepth := 40) [h]
  repeat' (first | (split <;> try simp +contextual (maxDischargeDepth := 40) [*]) | (refine foldl_canon _ _ _ (fun _ _ _ => ?_) ?_ <;> try simp +contextual (maxDischargeDepth := 40) [*]) | (refine orRefuse_canon _ _ _ _ _ _ ?_ (fun _ _ _ => ?_) <;> try simp +contextual (maxDischargeDepth := 40) [*]))

@[simp] theorem anyCycle_canon (a0 a1 a2 s) (h : s.canon) : (anyCycle a0 a1 a2 s).canon := by
  unfold anyCycle
  try simp +contextual (maxDischargeDepth := 40) [h]
  repeat' (first | (split <;> try simp +contextual (maxDischargeDepth := 40) [*]) | (refine foldl_canon _ _ _ (fun _ _ _ => ?_) ?_ <;> try simp +contextual (maxDischargeDepth := 40) [*]) | (refine orRefuse_canon _ _ _ _ _ _ ?_ (fun _ _ _ => ?_) <;> try simp +contextual (maxDischargeDepth := 40) [*]))

@[simp] theorem coreWrite_canon (a0 a1 s) (h : s.canon) : (coreWrite a0 a1 s).canon := by
  unfold coreWrite; simp +contextual (maxDischargeDepth := 40) [h]

@[simp] theorem landDeferred_canon (a0 s) (h : s.canon) : (landDeferred a0 s).canon := by
  unfold landDeferred; simp [h]

@[simp] theorem lighterWrite_canon (a0 a1 s) (h : s.canon) : (lighterWrite a0 a1 s).canon := by
  unfold lighterWrite; simp +contextual (maxDischargeDepth := 40) [h]

theorem foldl_snd_canon {α β : Type} (f : β × State → α → β × State) (l : List α) (a : β × State)
    (h : ∀ a x, a.2.canon → (f a x).2.canon) (ha : a.2.canon) : (l.foldl f a).2.canon := by
  induction l generalizing a with
  | nil => exact ha
  | cons x l ih => rw [List.foldl_cons]; exact ih _ (h _ _ ha)

@[simp] theorem lighterFetch_canon (a0 a1 s) (h : s.canon) : (lighterFetch a0 a1 s).2.canon := by
  unfold lighterFetch
  split
  · exact h
  · exact foldl_snd_canon _ _ _ (fun _ _ _ => by simp [*]) (by simp [h])

@[simp] theorem backTo_canon (a0 a1 a2 s) (h : s.canon) : (backTo a0 a1 a2 s).canon := by
  unfold backTo; simp [h]

@[simp] theorem closeEntry_canon (a0 a1 s) (h : s.canon) : (closeEntry a0 a1 s).canon := by
  unfold closeEntry
  try simp +contextual (maxDischargeDepth := 40) [h]
  repeat' (first | (split <;> try simp +contextual (maxDischargeDepth := 40) [*]) | (refine foldl_canon _ _ _ (fun _ _ _ => ?_) ?_ <;> try simp +contextual (maxDischargeDepth := 40) [*]) | (refine orRefuse_canon _ _ _ _ _ _ ?_ (fun _ _ _ => ?_) <;> try simp +contextual (maxDischargeDepth := 40) [*]) | (intro _ <;> try simp +contextual (maxDischargeDepth := 40) [*]))

@[simp] theorem dropSums_canon (a0 a1 s) (h : s.canon) : (dropSums a0 a1 s).canon := by
  unfold dropSums; simp +contextual (maxDischargeDepth := 40) [h]

@[simp] theorem sendMesh_canon (a0 a1 a2 s) (h : s.canon) : (sendMesh a0 a1 a2 s).canon := by
  exact h

@[simp] theorem lighterSend_canon (a0 a1 s) (h : s.canon) : (lighterSend a0 a1 s).canon := by
  unfold lighterSend; simp +contextual (maxDischargeDepth := 40) [h]

@[simp] theorem coreSend_canon (a0 a1 a2 s) (h : s.canon) : (coreSend a0 a1 a2 s).canon := by
  unfold coreSend; simp +contextual (maxDischargeDepth := 40) [h]

@[simp] theorem berthWrite_canon (a0 s) (h : s.canon) : (berthWrite a0 s).canon := by
  unfold berthWrite; simp [h]

@[simp] theorem sendWrite_canon (a0 s) (h : s.canon) : (sendWrite a0 s).canon := by
  unfold sendWrite; simp (maxDischargeDepth := 40) [h]

@[simp] theorem lineWrites_canon (a0 a1 a2 s) (h : s.canon) : (lineWrites a0 a1 a2 s).canon := by
  unfold lineWrites; simp +contextual (maxDischargeDepth := 40) [h]

@[simp] theorem sendWrites_canon (a0 a1 a2 a3 s) (h : s.canon) : (sendWrites a0 a1 a2 a3 s).canon := by
  unfold sendWrites; simp +contextual (maxDischargeDepth := 40) [h]

@[simp] theorem stampedWrite_canon (a0 a1 a2 a3 a4 s) (h : s.canon) : (stampedWrite a0 a1 a2 a3 a4 s).canon := by
  unfold stampedWrite; simp +contextual (maxDischargeDepth := 40) [h]

@[simp] theorem coreReads_canon (a0 a1 a2 s) (h : s.canon) : (coreReads a0 a1 a2 s).canon := by
  unfold coreReads; simp +contextual (maxDischargeDepth := 40) [h]

@[simp] theorem launchMsg_canon (a0 a1 a2 s) (h : s.canon) : (launchMsg a0 a1 a2 s).canon := by
  unfold launchMsg; simp [h]

end Sys2Proof.Machine
end

