-- ==== Sys2Proof/Laws/CanonKernel.lean ====
section
/-!
SUPPORT. Every function of kernels on states keeps device memory, scratch and what tasks keep in canonical form. None is left out.
-/

-- One proof after another: in parallel each asks for a thread and its stack.
set_option Elab.async false
set_option linter.all false

namespace Sys2Proof.Machine

open Sys2Proof.Safety

def KRes.canon (r : KRes) : Prop := r.state.canon

@[simp] theorem kcanon_next (f s) : (KRes.next f s).canon ↔ s.canon := by unfold KRes.canon KRes.state; exact Iff.rfl
@[simp] theorem kcanon_jump (p f s) : (KRes.jump p f s).canon ↔ s.canon := by unfold KRes.canon KRes.state; exact Iff.rfl
@[simp] theorem kcanon_wait (w s) : (KRes.wait w s).canon ↔ s.canon := by unfold KRes.canon KRes.state; exact Iff.rfl
@[simp] theorem kcanon_stop (n s) : (KRes.stop n s).canon ↔ s.canon := by unfold KRes.canon KRes.state; exact Iff.rfl

@[simp] theorem ite_kcanon (c : Prop) [Decidable c] (a b : KRes) (ha : a.canon) (hb : b.canon) : (if c then a else b).canon := by
  split <;> assumption

@[simp] theorem writeSpace_canon (a0 a1 a2 a3 s) (h : s.canon) : (writeSpace a0 a1 a2 a3 s).canon := by
  unfold writeSpace; simp [h]

@[simp] theorem landSpace_canon (a0 a1 a2 a3 s) (h : s.canon) : (landSpace a0 a1 a2 a3 s).canon := by
  unfold landSpace; simp [h]

@[simp] theorem dropReads_canon (a0 a1 s) (h : s.canon) : (dropReads a0 a1 s).canon := by
  exact h

@[simp] theorem endGang_canon (a0 a1 a2 s) (h : s.canon) : (endGang a0 a1 a2 s).canon := by
  unfold endGang; simp +contextual (maxDischargeDepth := 40) [h]

@[simp] theorem stopMember_canon (a0 a1 s) (h : s.canon) : (stopMember a0 a1 s).canon := by
  unfold stopMember; simp +contextual (maxDischargeDepth := 40) [h]

@[simp] theorem finishOp_canon (k now r) (h : r.canon) : (finishOp k now r).canon := by
  cases r <;> (try rw [kcanon_next] at h) <;> (try rw [kcanon_jump] at h) <;> (try rw [kcanon_wait] at h) <;>
    (try rw [kcanon_stop] at h) <;> simp [finishOp, h]

@[simp] theorem lowerStatus_canon (a0 a1 s) (h : s.canon) : (lowerStatus a0 a1 s).canon := by
  unfold lowerStatus; simp +contextual (maxDischargeDepth := 40) [h]

theorem kres_stop_canon (body : KOp → State → KRes) (k s st s') (h : (body k s).canon) (e : body k s = .stop st s') : s'.canon := by
  rw [e] at h; exact h

theorem kopStopped_canon (a0 a1 body s) (hs : s.canon) (h : ∀ k s, s.canon → (body k s).canon) : (kopStopped a0 a1 body s).canon := by
  unfold kopStopped
  split
  · exact hs
  · split
    · split
      · next e => exact lowerStatus_canon _ _ _ (kres_stop_canon _ _ _ _ _ (h _ _ hs) e)
      all_goals exact hs
    · exact hs

@[simp] theorem noteIssue_canon (a0 s) (h : s.canon) : (noteIssue a0 s).canon := by
  unfold noteIssue; simp [h]

@[simp] theorem issueOp_canon (k now r) (h : r.canon) : (issueOp k now r).canon := by
  cases r with
  | next f s => exact finishOp_canon _ _ _ (noteIssue_canon _ _ h)
  | jump _ _ _ => exact finishOp_canon _ _ _ h
  | wait _ _ => exact finishOp_canon _ _ _ h
  | stop _ _ => exact finishOp_canon _ _ _ h

@[simp] theorem kop_canon (m opc body s) (hs : s.canon) (h : ∀ k s, s.canon → (body k s).canon) : (kop m opc body s).canon := by
  unfold kop
  split
  · exact kopStopped_canon _ _ _ _ hs h
  · split
    · simp [h, hs]
    · exact hs

@[simp] theorem opNop_canon (a0 s) (h : s.canon) : (opNop a0 s).canon := by
  exact h

@[simp] theorem opEnd_canon (a0 s) (h : s.canon) : (opEnd a0 s).canon := by
  unfold opEnd; simp [h]

@[simp] theorem opLoop_canon (a0 s) (h : s.canon) : (opLoop a0 s).canon := by
  unfold opLoop; simp [h]

@[simp] theorem opTilefor_canon (a0 s) (h : s.canon) : (opTilefor a0 s).canon := by
  unfold opTilefor; simp [h]

@[simp] theorem opEndloop_canon (a0 s) (h : s.canon) : (opEndloop a0 s).canon := by
  unfold opEndloop
  try simp +contextual (maxDischargeDepth := 40) [h]
  repeat' (first | (split <;> try simp +contextual (maxDischargeDepth := 40) [*]) | (refine foldl_canon _ _ _ (fun _ _ _ => ?_) ?_ <;> try simp +contextual (maxDischargeDepth := 40) [*]) | (intro _) | (refine withAccess_canon _ _ _ _ ?_ (fun _ _ => ?_) <;> try simp [*]))

@[simp] theorem opIf_canon (a0 s) (h : s.canon) : (opIf a0 s).canon := by
  unfold opIf; simp [h]

@[simp] theorem opElse_canon (a0 s) (h : s.canon) : (opElse a0 s).canon := by
  unfold opElse
  try simp +contextual (maxDischargeDepth := 40) [h]
  repeat' (first | (split <;> try simp +contextual (maxDischargeDepth := 40) [*]) | (refine foldl_canon _ _ _ (fun _ _ _ => ?_) ?_ <;> try simp +contextual (maxDischargeDepth := 40) [*]) | (intro _) | (refine withAccess_canon _ _ _ _ ?_ (fun _ _ => ?_) <;> try simp [*]))

@[simp] theorem opEndif_canon (a0 s) (h : s.canon) : (opEndif a0 s).canon := by
  unfold opEndif
  try simp +contextual (maxDischargeDepth := 40) [h]
  repeat' (first | (split <;> try simp +contextual (maxDischargeDepth := 40) [*]) | (refine foldl_canon _ _ _ (fun _ _ _ => ?_) ?_ <;> try simp +contextual (maxDischargeDepth := 40) [*]) | (intro _) | (refine withAccess_canon _ _ _ _ ?_ (fun _ _ => ?_) <;> try simp [*]))

@[simp] theorem opImov_canon (a0 s) (h : s.canon) : (opImov a0 s).canon := by
  exact h

@[simp] theorem opIalu_canon (a0 s) (h : s.canon) : (opIalu a0 s).canon := by
  exact h

@[simp] theorem opQuery_canon (a0 s) (h : s.canon) : (opQuery a0 s).canon := by
  exact h

@[simp] theorem opParam_canon (a0 s) (h : s.canon) : (opParam a0 s).canon := by
  unfold opParam; simp [h]

@[simp] theorem opVdim_canon (a0 s) (h : s.canon) : (opVdim a0 s).canon := by
  exact h

@[simp] theorem opVsub_canon (a0 s) (h : s.canon) : (opVsub a0 s).canon := by
  unfold opVsub; simp (maxDischargeDepth := 40) [h]

@[simp] theorem opStamp_canon (k s) (h : s.canon) : (opStamp k s).canon := by
  unfold opStamp
  split <;> rename_i e <;> have hh := canon_of_snd e (issueStamp_canon _ _ _ h) <;> simp [hh]

@[simp] theorem logSecure_canon (a0 s) (h : s.canon) : (logSecure a0 s).canon := by
  unfold logSecure; simp [h]

@[simp] theorem stopAccess_canon (a0 a1 s) (h : s.canon) : (stopAccess a0 a1 s).canon := by
  unfold stopAccess; simp [h]

@[simp] theorem deviceErrors_canon (a0 a1 s) (h : s.canon) : (deviceErrors a0 a1 s).canon := by
  unfold deviceErrors; simp +contextual (maxDischargeDepth := 40) [h]

@[simp] theorem dropOpReads_canon (a0 a1 s) (h : s.canon) : (dropOpReads a0 a1 s).canon := by
  exact h

@[simp] theorem withRemote_canon (k n l work s) (hs : s.canon) (h : ∀ s, s.canon → (work s).canon) : (withRemote k n l work s).canon := by
  unfold withRemote
  try simp only []
  repeat' (split)
  all_goals simp (maxDischargeDepth := 40) [h, hs]

@[simp] theorem issueAccess_canon (k l work s) (hs : s.canon) (h : ∀ s, s.canon → (work s).canon) : (issueAccess k l work s).canon := by
  unfold issueAccess
  try simp only []
  repeat' (split)
  all_goals simp (maxDischargeDepth := 40) [h, hs]

@[simp] theorem withAccess_canon (k l work s) (hs : s.canon) (h : ∀ s, s.canon → (work s).canon) : (withAccess k l work s).canon := by
  unfold withAccess
  exact issueAccess_canon _ _ _ _ hs (fun _ hs => withRemote_canon _ _ _ _ _ hs (fun _ hs => h _ (checkRuns_canon _ _ _ hs)))

@[simp] theorem viewReader_canon (a0 a1 s) (h : s.canon) : (viewReader a0 a1 s).2.canon := by
  unfold viewReader; simp [h]

@[simp] theorem opTload_canon (a0 s) (h : s.canon) : (opTload a0 s).canon := by
  unfold opTload; simp +contextual (maxDischargeDepth := 40) [h]

@[simp] theorem storeTile_canon (a0 a1 a2 a3 a4 a5 s) (h : s.canon) : (storeTile a0 a1 a2 a3 a4 a5 s).canon := by
  unfold storeTile; simp +contextual (maxDischargeDepth := 40) [h]

@[simp] theorem opTstore_canon (a0 s) (h : s.canon) : (opTstore a0 s).canon := by
  unfold opTstore; simp [h]

@[simp] theorem opTfill_canon (a0 s) (h : s.canon) : (opTfill a0 s).canon := by
  exact h

@[simp] theorem opMma_canon (a0 s) (h : s.canon) : (opMma a0 s).canon := by
  unfold opMma
  try simp +contextual (maxDischargeDepth := 40) [h]
  repeat' (first | (split <;> try simp +contextual (maxDischargeDepth := 40) [*]) | (refine foldl_canon _ _ _ (fun _ _ _ => ?_) ?_ <;> try simp +contextual (maxDischargeDepth := 40) [*]) | (intro _) | (refine withAccess_canon _ _ _ _ ?_ (fun _ _ => ?_) <;> try simp [*]))

@[simp] theorem opAccmov_canon (a0 s) (h : s.canon) : (opAccmov a0 s).canon := by
  exact h

@[simp] theorem tileResult_canon (a0 a1 s) (h : s.canon) : (tileResult a0 a1 s).canon := by
  exact h

@[simp] theorem opEbin_canon (k s) (h : s.canon) : (opEbin k s).canon := by
  unfold opEbin
  dsimp only
  split
  · exact (kcanon_stop _ _).2 h
  · exact tileResult_canon _ _ _ h

@[simp] theorem opEfma_canon (a0 s) (h : s.canon) : (opEfma a0 s).canon := by
  unfold opEfma; simp [h]

@[simp] theorem opEun_canon (a0 s) (h : s.canon) : (opEun a0 s).canon := by
  unfold opEun; simp [h]

@[simp] theorem opCmp_canon (k s) (h : s.canon) : (opCmp k s).canon := by
  unfold opCmp
  dsimp only
  split
  · exact (kcanon_stop _ _).2 h
  · exact tileResult_canon _ _ _ h

@[simp] theorem opSel_canon (a0 s) (h : s.canon) : (opSel a0 s).canon := by
  unfold opSel; simp [h]

@[simp] theorem opRed_canon (a0 s) (h : s.canon) : (opRed a0 s).canon := by
  unfold opRed; simp [h]

@[simp] theorem opTrans_canon (a0 s) (h : s.canon) : (opTrans a0 s).canon := by
  exact h

@[simp] theorem opGather_canon (a0 s) (h : s.canon) : (opGather a0 s).canon := by
  unfold opGather
  try simp +contextual (maxDischargeDepth := 40) [h]
  repeat' (first | (split <;> try simp +contextual (maxDischargeDepth := 40) [*]) | (refine foldl_canon _ _ _ (fun _ _ _ => ?_) ?_ <;> try simp +contextual (maxDischargeDepth := 40) [*]) | (intro _) | (refine withAccess_canon _ _ _ _ ?_ (fun _ _ => ?_) <;> try simp [*]))

@[simp] theorem opScatter_canon (a0 s) (h : s.canon) : (opScatter a0 s).canon := by
  unfold opScatter
  try simp +contextual (maxDischargeDepth := 40) [h]
  repeat' (first | (split <;> try simp +contextual (maxDischargeDepth := 40) [*]) | (refine foldl_canon _ _ _ (fun _ _ _ => ?_) ?_ <;> try simp +contextual (maxDischargeDepth := 40) [*]) | (intro _) | (refine withAccess_canon _ _ _ _ ?_ (fun _ _ => ?_) <;> try simp [*]))

@[simp] theorem opSort_canon (a0 s) (h : s.canon) : (opSort a0 s).canon := by
  unfold opSort; simp [h]

@[simp] theorem opCvt_canon (a0 s) (h : s.canon) : (opCvt a0 s).canon := by
  unfold opCvt; simp (maxDischargeDepth := 40) [h]

@[simp] theorem onToken_canon (k token work s) (hs : s.canon) (h : ∀ s, s.canon → (work s).canon) : (onToken k token work s).canon := by
  unfold onToken
  split <;> simp [h, hs]

@[simp] theorem opXfer_canon (a0 s) (h : s.canon) : (opXfer a0 s).canon := by
  unfold opXfer
  try simp +contextual (maxDischargeDepth := 40) [h]
  repeat' (first | (split <;> try simp +contextual (maxDischargeDepth := 40) [*]) | (refine foldl_canon _ _ _ (fun _ _ _ => ?_) ?_ <;> try simp +contextual (maxDischargeDepth := 40) [*]) | (intro _) | (refine withAccess_canon _ _ _ _ ?_ (fun _ _ => ?_) <;> try simp [*]) | (refine onToken_canon _ _ _ _ ?_ (fun _ _ => ?_) <;> try simp [*]))

@[simp] theorem lighterReader_canon (a0 a1 a2 s) (h : s.canon) : (lighterReader a0 a1 a2 s).2.canon := by
  unfold lighterReader; simp [h]

@[simp] theorem landedDone_canon (a0 a1 a2 s) (h : s.canon) : (landedDone a0 a1 a2 s).canon := by
  unfold landedDone
  try simp +contextual (maxDischargeDepth := 40) [h]
  repeat' (first | (split <;> try simp +contextual (maxDischargeDepth := 40) [*]) | (refine foldl_canon _ _ _ (fun _ _ _ => ?_) ?_ <;> try simp +contextual (maxDischargeDepth := 40) [*]) | (refine orRefuse_canon _ _ _ _ _ _ ?_ (fun _ _ _ => ?_) <;> try simp +contextual (maxDischargeDepth := 40) [*]))

@[simp] theorem xferDoneStep_canon (a0 a1 s) (h : s.canon) : (xferDoneStep a0 a1 s).canon := by
  unfold xferDoneStep
  try simp +contextual (maxDischargeDepth := 40) [h]
  repeat' (first | (split <;> try simp +contextual (maxDischargeDepth := 40) [*]) | (refine foldl_canon _ _ _ (fun _ _ _ => ?_) ?_ <;> try simp +contextual (maxDischargeDepth := 40) [*]) | (refine orRefuse_canon _ _ _ _ _ _ ?_ (fun _ _ _ => ?_) <;> try simp +contextual (maxDischargeDepth := 40) [*]))

@[simp] theorem opWait_canon (a0 s) (h : s.canon) : (opWait a0 s).canon := by
  unfold opWait; simp [h]

@[simp] theorem signalSend_canon (s a1 a2) (h : s.canon) : (signalSend s a1 a2).canon := by
  unfold signalSend; simp [h]

@[simp] theorem dropMsg_canon (a0 s) (h : s.canon) : (dropMsg a0 s).canon := by
  exact h

@[simp] theorem parkMsg_canon (a0 a1 s) (h : s.canon) : (parkMsg a0 a1 s).canon := by
  exact h

@[simp] theorem landMsg_canon (a0 a1 s) (h : s.canon) : (landMsg a0 a1 s).canon := by
  unfold landMsg
  try simp +contextual (maxDischargeDepth := 40) [h]
  repeat' (first | (split <;> try simp +contextual (maxDischargeDepth := 40) [*]) | (refine foldl_canon _ _ _ (fun _ _ _ => ?_) ?_ <;> try simp +contextual (maxDischargeDepth := 40) [*]) | (refine orRefuse_canon _ _ _ _ _ _ ?_ (fun _ _ _ => ?_) <;> try simp +contextual (maxDischargeDepth := 40) [*]))

@[simp] theorem matchWaiting_canon (m n s) (h : s.canon) : (matchWaiting m n s).canon := by
  induction n generalizing s with
  | zero => exact h
  | succ n ih =>
    unfold matchWaiting
    split
    · exact ih _ (landMsg_canon _ _ _ h)
    · exact h

@[simp] theorem deliver_canon (a0 a1 s) (h : s.canon) : (deliver a0 a1 s).canon := by
  unfold deliver; simp [h]

@[simp] theorem afterDrop_canon (a0 s) (h : s.canon) : (afterDrop a0 s).canon := by
  unfold afterDrop; simp [h]

@[simp] theorem opSend_canon (a0 s) (h : s.canon) : (opSend a0 s).canon := by
  unfold opSend
  try simp +contextual (maxDischargeDepth := 40) [h]
  repeat' (first | (split <;> try simp +contextual (maxDischargeDepth := 40) [*]) | (refine foldl_canon _ _ _ (fun _ _ _ => ?_) ?_ <;> try simp +contextual (maxDischargeDepth := 40) [*]) | (intro _) | (refine withAccess_canon _ _ _ _ ?_ (fun _ _ => ?_) <;> try simp [*]) | (refine onToken_canon _ _ _ _ ?_ (fun _ _ => ?_) <;> try simp [*]))

@[simp] theorem opRecv_canon (a0 s) (h : s.canon) : (opRecv a0 s).canon := by
  unfold opRecv
  try simp +contextual (maxDischargeDepth := 40) [h]
  repeat' (first | (split <;> try simp +contextual (maxDischargeDepth := 40) [*]) | (refine foldl_canon _ _ _ (fun _ _ _ => ?_) ?_ <;> try simp +contextual (maxDischargeDepth := 40) [*]) | (intro _) | (refine withAccess_canon _ _ _ _ ?_ (fun _ _ => ?_) <;> try simp [*]) | (refine onToken_canon _ _ _ _ ?_ (fun _ _ => ?_) <;> try simp [*]))

@[simp] theorem returnMsg_canon (a0 a1 s) (h : s.canon) : (returnMsg a0 a1 s).canon := by
  exact h

@[simp] theorem recvStops_canon (a0 a1 a2 s) (h : s.canon) : (recvStops a0 a1 a2 s).canon := by
  unfold recvStops; simp [h]

@[simp] theorem lateArrival_canon (a0 a1 s) (h : s.canon) : (lateArrival a0 a1 s).canon := by
  unfold lateArrival
  try simp +contextual (maxDischargeDepth := 40) [h]
  repeat' (first | (split <;> try simp +contextual (maxDischargeDepth := 40) [*]) | (refine foldl_canon _ _ _ (fun _ _ _ => ?_) ?_ <;> try simp +contextual (maxDischargeDepth := 40) [*]) | (refine orRefuse_canon _ _ _ _ _ _ ?_ (fun _ _ _ => ?_) <;> try simp +contextual (maxDischargeDepth := 40) [*]) | (intro _ <;> try simp +contextual (maxDischargeDepth := 40) [*]))

@[simp] theorem lateRecv_canon (a0 s) (h : s.canon) : (lateRecv a0 s).canon := by
  unfold lateRecv
  try simp +contextual (maxDischargeDepth := 40) [h]
  repeat' (first | (split <;> try simp +contextual (maxDischargeDepth := 40) [*]) | (refine foldl_canon _ _ _ (fun _ _ _ => ?_) ?_ <;> try simp +contextual (maxDischargeDepth := 40) [*]) | (refine orRefuse_canon _ _ _ _ _ _ ?_ (fun _ _ _ => ?_) <;> try simp +contextual (maxDischargeDepth := 40) [*]) | (intro _ <;> try simp +contextual (maxDischargeDepth := 40) [*]))

@[simp] theorem msgArrivalStep_canon (a0 s) (h : s.canon) : (msgArrivalStep a0 s).canon := by
  unfold msgArrivalStep
  try simp +contextual (maxDischargeDepth := 40) [h]
  repeat' (first | (split <;> try simp +contextual (maxDischargeDepth := 40) [*]) | (refine foldl_canon _ _ _ (fun _ _ _ => ?_) ?_ <;> try simp +contextual (maxDischargeDepth := 40) [*]) | (refine orRefuse_canon _ _ _ _ _ _ ?_ (fun _ _ _ => ?_) <;> try simp +contextual (maxDischargeDepth := 40) [*]))

@[simp] theorem staleMessageStep_canon (a0 s) (h : s.canon) : (staleMessageStep a0 s).canon := by
  unfold staleMessageStep
  try simp +contextual (maxDischargeDepth := 40) [h]
  repeat' (first | (split <;> try simp +contextual (maxDischargeDepth := 40) [*]) | (refine foldl_canon _ _ _ (fun _ _ _ => ?_) ?_ <;> try simp +contextual (maxDischargeDepth := 40) [*]) | (refine orRefuse_canon _ _ _ _ _ _ ?_ (fun _ _ _ => ?_) <;> try simp +contextual (maxDischargeDepth := 40) [*]))

@[simp] theorem viewCodes_canon (a0 a1 a2 s) (h : s.canon) : (viewCodes a0 a1 a2 s).2.canon := by
  unfold viewCodes; simp [h]

@[simp] theorem putCodes_canon (a0 a1 a2 a3 s) (h : s.canon) : (putCodes a0 a1 a2 a3 s).canon := by
  unfold putCodes; simp [h]

@[simp] theorem collSingle_canon (a0 a1 a2 a3 a4 s) (h : s.canon) : (collSingle a0 a1 a2 a3 a4 s).canon := by
  unfold collSingle; simp (maxDischargeDepth := 40) [h]

@[simp] theorem opColl_canon (a0 s) (h : s.canon) : (opColl a0 s).canon := by
  unfold opColl
  dsimp only
  generalize (if 3 ≤ a0.mod % 8 then a0.view (a0.e2 % 256) else emptyView) = q
  split
  · exact h
  · split
    · exact h
    · refine onToken_canon _ _ _ _ h (fun _ h => ?_)
      split
      · exact h
      · refine issueAccess_canon _ _ _ _ h (fun _ h => withRemote_canon _ _ _ _ _ h (fun _ h => ?_))
        split
        · exact collSingle_canon _ _ _ _ _ _ h
        · exact h

@[simp] theorem contribution_canon (a0 a1 a2 s) (h : s.canon) : (contribution a0 a1 a2 s).2.canon := by
  unfold contribution; simp [h]

@[simp] theorem freshSum_canon (a0 a1 a2 a3 a4 s) (h : s.canon) : (freshSum a0 a1 a2 a3 a4 s).canon := by
  unfold freshSum
  try simp +contextual (maxDischargeDepth := 40) [h]
  repeat' (first | (split <;> try simp +contextual (maxDischargeDepth := 40) [*]) | (refine foldl_canon _ _ _ (fun _ _ _ => ?_) ?_ <;> try simp +contextual (maxDischargeDepth := 40) [*]) | (refine orRefuse_canon _ _ _ _ _ _ ?_ (fun _ _ _ => ?_) <;> try simp +contextual (maxDischargeDepth := 40) [*]) | (intro _ <;> try simp +contextual (maxDischargeDepth := 40) [*]))

@[simp] theorem sendRound_canon (a0 a1 a2 s) (h : s.canon) : (sendRound a0 a1 a2 s).canon := by
  unfold sendRound
  try simp +contextual (maxDischargeDepth := 40) [h]
  repeat' (first | (split <;> try simp +contextual (maxDischargeDepth := 40) [*]) | (refine foldl_canon _ _ _ (fun _ _ _ => ?_) ?_ <;> try simp +contextual (maxDischargeDepth := 40) [*]) | (refine orRefuse_canon _ _ _ _ _ _ ?_ (fun _ _ _ => ?_) <;> try simp +contextual (maxDischargeDepth := 40) [*]) | (intro _ <;> try simp +contextual (maxDischargeDepth := 40) [*]))

@[simp] theorem sendShare_canon (a0 a1 a2 a3 a4 a5 s) (h : s.canon) : (sendShare a0 a1 a2 a3 a4 a5 s).canon := by
  unfold sendShare
  try simp +contextual (maxDischargeDepth := 40) [h]
  repeat' (first | (split <;> try simp +contextual (maxDischargeDepth := 40) [*]) | (refine foldl_canon _ _ _ (fun _ _ _ => ?_) ?_ <;> try simp +contextual (maxDischargeDepth := 40) [*]) | (refine orRefuse_canon _ _ _ _ _ _ ?_ (fun _ _ _ => ?_) <;> try simp +contextual (maxDischargeDepth := 40) [*]) | (intro _ <;> try simp +contextual (maxDischargeDepth := 40) [*]))

@[simp] theorem sendShares_canon (a0 a1 a2 s) (h : s.canon) : (sendShares a0 a1 a2 s).canon := by
  unfold sendShares
  try simp +contextual (maxDischargeDepth := 40) [h]
  repeat' (first | (split <;> try simp +contextual (maxDischargeDepth := 40) [*]) | (refine foldl_canon _ _ _ (fun _ _ _ => ?_) ?_ <;> try simp +contextual (maxDischargeDepth := 40) [*]) | (refine orRefuse_canon _ _ _ _ _ _ ?_ (fun _ _ _ => ?_) <;> try simp +contextual (maxDischargeDepth := 40) [*]) | (intro _ <;> try simp +contextual (maxDischargeDepth := 40) [*]))

@[simp] theorem beginColl_canon (a0 a1 a2 s) (h : s.canon) : (beginColl a0 a1 a2 s).canon := by
  unfold beginColl
  try simp +contextual (maxDischargeDepth := 40) [h]
  repeat' (first | (split <;> try simp +contextual (maxDischargeDepth := 40) [*]) | (refine foldl_canon _ _ _ (fun _ _ _ => ?_) ?_ <;> try simp +contextual (maxDischargeDepth := 40) [*]) | (refine orRefuse_canon _ _ _ _ _ _ ?_ (fun _ _ _ => ?_) <;> try simp +contextual (maxDischargeDepth := 40) [*]) | (intro _ <;> try simp +contextual (maxDischargeDepth := 40) [*]))

@[simp] theorem beginColls_canon (a0 s) (h : s.canon) : (beginColls a0 s).canon := by
  unfold beginColls
  try simp +contextual (maxDischargeDepth := 40) [h]
  repeat' (first | (split <;> try simp +contextual (maxDischargeDepth := 40) [*]) | (refine foldl_canon _ _ _ (fun _ _ _ => ?_) ?_ <;> try simp +contextual (maxDischargeDepth := 40) [*]) | (refine orRefuse_canon _ _ _ _ _ _ ?_ (fun _ _ _ => ?_) <;> try simp +contextual (maxDischargeDepth := 40) [*]) | (intro _ <;> try simp +contextual (maxDischargeDepth := 40) [*]))

@[simp] theorem signalColl_canon (a0 a1 a2 s) (h : s.canon) : (signalColl a0 a1 a2 s).canon := by
  unfold signalColl
  try simp +contextual (maxDischargeDepth := 40) [h]
  repeat' (first | (split <;> try simp +contextual (maxDischargeDepth := 40) [*]) | (refine foldl_canon _ _ _ (fun _ _ _ => ?_) ?_ <;> try simp +contextual (maxDischargeDepth := 40) [*]) | (refine orRefuse_canon _ _ _ _ _ _ ?_ (fun _ _ _ => ?_) <;> try simp +contextual (maxDischargeDepth := 40) [*]) | (intro _ <;> try simp +contextual (maxDischargeDepth := 40) [*]))

@[simp] theorem roundDone_canon (a0 a1 a2 s) (h : s.canon) : (roundDone a0 a1 a2 s).canon := by
  unfold roundDone
  try simp +contextual (maxDischargeDepth := 40) [h]
  repeat' (first | (split <;> try simp +contextual (maxDischargeDepth := 40) [*]) | (refine foldl_canon _ _ _ (fun _ _ _ => ?_) ?_ <;> try simp +contextual (maxDischargeDepth := 40) [*]) | (refine orRefuse_canon _ _ _ _ _ _ ?_ (fun _ _ _ => ?_) <;> try simp +contextual (maxDischargeDepth := 40) [*]) | (intro _ <;> try simp +contextual (maxDischargeDepth := 40) [*]))

@[simp] theorem landRound_canon (a0 a1 a2 a3 s) (h : s.canon) : (landRound a0 a1 a2 a3 s).canon := by
  unfold landRound
  try simp +contextual (maxDischargeDepth := 40) [h]
  repeat' (first | (split <;> try simp +contextual (maxDischargeDepth := 40) [*]) | (refine foldl_canon _ _ _ (fun _ _ _ => ?_) ?_ <;> try simp +contextual (maxDischargeDepth := 40) [*]) | (refine orRefuse_canon _ _ _ _ _ _ ?_ (fun _ _ _ => ?_) <;> try simp +contextual (maxDischargeDepth := 40) [*]) | (intro _ <;> try simp +contextual (maxDischargeDepth := 40) [*]))

@[simp] theorem collDoneGang_canon (a0 a1 a2 s) (h : s.canon) : (collDoneGang a0 a1 a2 s).canon := by
  unfold collDoneGang
  try simp +contextual (maxDischargeDepth := 40) [h]
  repeat' (first | (split <;> try simp +contextual (maxDischargeDepth := 40) [*]) | (refine foldl_canon _ _ _ (fun _ _ _ => ?_) ?_ <;> try simp +contextual (maxDischargeDepth := 40) [*]) | (refine orRefuse_canon _ _ _ _ _ _ ?_ (fun _ _ _ => ?_) <;> try simp +contextual (maxDischargeDepth := 40) [*]) | (intro _ <;> try simp +contextual (maxDischargeDepth := 40) [*]))

@[simp] theorem opBarrier_canon (a0 s) (h : s.canon) : (opBarrier a0 s).canon := by
  unfold opBarrier; simp (maxDischargeDepth := 40) [h]

@[simp] theorem barrierReleaseStep_canon (a0 a1 s) (h : s.canon) : (barrierReleaseStep a0 a1 s).canon := by
  unfold barrierReleaseStep
  try simp +contextual (maxDischargeDepth := 40) [h]
  repeat' (first | (split <;> try simp +contextual (maxDischargeDepth := 40) [*]) | (refine foldl_canon _ _ _ (fun _ _ _ => ?_) ?_ <;> try simp +contextual (maxDischargeDepth := 40) [*]) | (refine orRefuse_canon _ _ _ _ _ _ ?_ (fun _ _ _ => ?_) <;> try simp +contextual (maxDischargeDepth := 40) [*]))

@[simp] theorem kernelHangStep_canon (a0 a1 s) (h : s.canon) : (kernelHangStep a0 a1 s).canon := by
  unfold kernelHangStep
  try simp +contextual (maxDischargeDepth := 40) [h]
  repeat' (first | (split <;> try simp +contextual (maxDischargeDepth := 40) [*]) | (refine foldl_canon _ _ _ (fun _ _ _ => ?_) ?_ <;> try simp +contextual (maxDischargeDepth := 40) [*]) | (refine orRefuse_canon _ _ _ _ _ _ ?_ (fun _ _ _ => ?_) <;> try simp +contextual (maxDischargeDepth := 40) [*]))

@[simp] theorem taskTimeoutStep_canon (a0 a1 s) (h : s.canon) : (taskTimeoutStep a0 a1 s).canon := by
  unfold taskTimeoutStep
  try simp +contextual (maxDischargeDepth := 40) [h]
  repeat' (first | (split <;> try simp +contextual (maxDischargeDepth := 40) [*]) | (refine foldl_canon _ _ _ (fun _ _ _ => ?_) ?_ <;> try simp +contextual (maxDischargeDepth := 40) [*]) | (refine orRefuse_canon _ _ _ _ _ _ ?_ (fun _ _ _ => ?_) <;> try simp +contextual (maxDischargeDepth := 40) [*]))

@[simp] theorem mailKernelLoad_canon (a0 a1 a2 s) (h : s.canon) : (mailKernelLoad a0 a1 a2 s).canon := by
  unfold mailKernelLoad; simp +contextual (maxDischargeDepth := 40) [h]

@[simp] theorem loweringDone_canon (a0 s) (h : s.canon) : (loweringDone a0 s).canon := by
  unfold loweringDone
  try simp +contextual (maxDischargeDepth := 40) [h]
  repeat' (first | (split <;> try simp +contextual (maxDischargeDepth := 40) [*]) | (refine foldl_canon _ _ _ (fun _ _ _ => ?_) ?_ <;> try simp +contextual (maxDischargeDepth := 40) [*]) | (refine orRefuse_canon _ _ _ _ _ _ ?_ (fun _ _ _ => ?_) <;> try simp +contextual (maxDischargeDepth := 40) [*]))

@[simp] theorem mailKernelUnload_canon (a0 a1 a2 s) (h : s.canon) : (mailKernelUnload a0 a1 a2 s).canon := by
  unfold mailKernelUnload
  try simp +contextual (maxDischargeDepth := 40) [h]
  repeat' (first | (split <;> try simp +contextual (maxDischargeDepth := 40) [*]) | (refine foldl_canon _ _ _ (fun _ _ _ => ?_) ?_ <;> try simp +contextual (maxDischargeDepth := 40) [*]) | (refine orRefuse_canon _ _ _ _ _ _ ?_ (fun _ _ _ => ?_) <;> try simp +contextual (maxDischargeDepth := 40) [*]))

end Sys2Proof.Machine
end

