-- ==== Sys2Proof/Laws/CanonPounds.lean ====
section
/-!
SUPPORT. Every function of the on-die network, graphs, pounds, memory and time on states keeps device memory, scratch and what tasks keep in canonical form. None is left out.
-/

-- One proof after another: in parallel each asks for a thread and its stack.
set_option Elab.async false
set_option linter.all false

namespace Sys2Proof.Machine

open Sys2Proof.Safety

@[simp] theorem scratchStep_canon (a0 a1 a2 a3 s) (h : s.canon) : (scratchStep a0 a1 a2 a3 s).canon := by
  unfold scratchStep
  try simp +contextual (maxDischargeDepth := 40) [h]
  repeat' (first | (split <;> try simp +contextual (maxDischargeDepth := 40) [*]) | (refine foldl_canon _ _ _ (fun _ _ _ => ?_) ?_ <;> try simp +contextual (maxDischargeDepth := 40) [*]) | (refine orRefuse_canon _ _ _ _ _ _ ?_ (fun _ _ _ => ?_) <;> try simp +contextual (maxDischargeDepth := 40) [*]))

@[simp] theorem groupFlags_canon (a0 a1 a2 s) (h : s.canon) : (groupFlags a0 a1 a2 s).canon := by
  unfold groupFlags
  try simp +contextual (maxDischargeDepth := 40) [h]
  repeat' (first | (split <;> try simp +contextual (maxDischargeDepth := 40) [*]) | (refine foldl_canon _ _ _ (fun _ _ _ => ?_) ?_ <;> try simp +contextual (maxDischargeDepth := 40) [*]) | (refine orRefuse_canon _ _ _ _ _ _ ?_ (fun _ _ _ => ?_) <;> try simp +contextual (maxDischargeDepth := 40) [*]))

@[simp] theorem endCollective_canon (a0 a1 a2 s) (h : s.canon) : (endCollective a0 a1 a2 s).canon := by
  unfold endCollective
  try simp +contextual (maxDischargeDepth := 40) [h]
  repeat' (first | (split <;> try simp +contextual (maxDischargeDepth := 40) [*]) | (refine foldl_canon _ _ _ (fun _ _ _ => ?_) ?_ <;> try simp +contextual (maxDischargeDepth := 40) [*]) | (refine orRefuse_canon _ _ _ _ _ _ ?_ (fun _ _ _ => ?_) <;> try simp +contextual (maxDischargeDepth := 40) [*]))

@[simp] theorem partLanded_canon (a0 a1 s) (h : s.canon) : (partLanded a0 a1 s).canon := by
  unfold partLanded
  try simp +contextual (maxDischargeDepth := 40) [h]
  repeat' (first | (split <;> try simp +contextual (maxDischargeDepth := 40) [*]) | (refine foldl_canon _ _ _ (fun _ _ _ => ?_) ?_ <;> try simp +contextual (maxDischargeDepth := 40) [*]) | (refine orRefuse_canon _ _ _ _ _ _ ?_ (fun _ _ _ => ?_) <;> try simp +contextual (maxDischargeDepth := 40) [*]) | (intro _ <;> try simp +contextual (maxDischargeDepth := 40) [*]))

@[simp] theorem addMsg_canon (a0 s) (h : s.canon) : (addMsg a0 s).canon := by
  exact h

@[simp] theorem landPacket_canon (a0 s) (h : s.canon) : (landPacket a0 s).canon := by
  unfold landPacket
  try simp +contextual (maxDischargeDepth := 40) [h]
  repeat' (first | (split <;> try simp +contextual (maxDischargeDepth := 40) [*]) | (refine foldl_canon _ _ _ (fun _ _ _ => ?_) ?_ <;> try simp +contextual (maxDischargeDepth := 40) [*]) | (refine orRefuse_canon _ _ _ _ _ _ ?_ (fun _ _ _ => ?_) <;> try simp +contextual (maxDischargeDepth := 40) [*]))

@[simp] theorem leaveMesh_canon (a0 a1 a2 s) (h : s.canon) : (leaveMesh a0 a1 a2 s).canon := by
  unfold leaveMesh; simp (maxDischargeDepth := 40) [h]

@[simp] theorem placeFlit_canon (a0 a1 a2 s) (h : s.canon) : (placeFlit a0 a1 a2 s).canon := by
  unfold placeFlit
  try simp +contextual (maxDischargeDepth := 40) [h]
  repeat' (first | (split <;> try simp +contextual (maxDischargeDepth := 40) [*]) | (refine foldl_canon _ _ _ (fun _ _ _ => ?_) ?_ <;> try simp +contextual (maxDischargeDepth := 40) [*]) | (refine orRefuse_canon _ _ _ _ _ _ ?_ (fun _ _ _ => ?_) <;> try simp +contextual (maxDischargeDepth := 40) [*]))

@[simp] theorem sendFlit_canon (a0 a1 s) (h : s.canon) : (sendFlit a0 a1 s).canon := by
  unfold sendFlit
  try simp +contextual (maxDischargeDepth := 40) [h]
  repeat' (first | (split <;> try simp +contextual (maxDischargeDepth := 40) [*]) | (refine foldl_canon _ _ _ (fun _ _ _ => ?_) ?_ <;> try simp +contextual (maxDischargeDepth := 40) [*]) | (refine orRefuse_canon _ _ _ _ _ _ ?_ (fun _ _ _ => ?_) <;> try simp +contextual (maxDischargeDepth := 40) [*]))

@[simp] theorem injectAll_canon (a0 a1 s) (h : s.canon) : (injectAll a0 a1 s).canon := by
  unfold injectAll; simp +contextual (maxDischargeDepth := 40) [h]

@[simp] theorem outboxStep_canon (b l h s) (hs : s.canon) : (outboxStep b l h s).2.canon := by
  induction l generalizing h s with
  | nil => exact hs
  | cons w l ih =>
    unfold outboxStep
    dsimp only
    split
    · exact ih _ _ hs
    · split
      · exact ih _ _ (injectAll_canon _ _ _ hs)
      · exact ih _ _ hs

@[simp] theorem injectOutbox_canon (a0 s) (h : s.canon) : (injectOutbox a0 s).canon := by
  unfold injectOutbox; simp [h]

@[simp] theorem mergeAll_canon (r n s) (h : s.canon) : (mergeAll r n s).canon := by
  induction n generalizing s with
  | zero => exact h
  | succ n ih =>
    unfold mergeAll
    dsimp only
    repeat' (split)
    all_goals simp (maxDischargeDepth := 40) [ih, h]

@[simp] theorem routerStep_canon (r inject s) (h : s.canon) : (routerStep r inject s).canon := by
  unfold routerStep
  split
  · dsimp only
    refine updRouter_canon _ _ _ (foldl_canon _ _ _ (fun s o h => sendFlit_canon _ _ _ h) ?_)
    exact mergeAll_canon _ _ _ (injectAll_canon _ _ _ (injectOutbox_canon _ _ h))
  · exact h

@[simp] theorem tableStep_canon (a0 s) (h : s.canon) : (tableStep a0 s).canon := by
  unfold tableStep
  try simp +contextual (maxDischargeDepth := 40) [h]
  repeat' (first | (split <;> try simp +contextual (maxDischargeDepth := 40) [*]) | (refine foldl_canon _ _ _ (fun _ _ _ => ?_) ?_ <;> try simp +contextual (maxDischargeDepth := 40) [*]) | (refine orRefuse_canon _ _ _ _ _ _ ?_ (fun _ _ _ => ?_) <;> try simp +contextual (maxDischargeDepth := 40) [*]))

@[simp] theorem tableDone_canon (a0 a1 s) (h : s.canon) : (tableDone a0 a1 s).canon := by
  unfold tableDone
  try simp +contextual (maxDischargeDepth := 40) [h]
  repeat' (first | (split <;> try simp +contextual (maxDischargeDepth := 40) [*]) | (refine foldl_canon _ _ _ (fun _ _ _ => ?_) ?_ <;> try simp +contextual (maxDischargeDepth := 40) [*]) | (refine orRefuse_canon _ _ _ _ _ _ ?_ (fun _ _ _ => ?_) <;> try simp +contextual (maxDischargeDepth := 40) [*]))

@[simp] theorem chamberStep_canon (a0 a1 a2 s) (h : s.canon) : (chamberStep a0 a1 a2 s).canon := by
  unfold chamberStep
  try simp +contextual (maxDischargeDepth := 40) [h]
  repeat' (first | (split <;> try simp +contextual (maxDischargeDepth := 40) [*]) | (refine foldl_canon _ _ _ (fun _ _ _ => ?_) ?_ <;> try simp +contextual (maxDischargeDepth := 40) [*]) | (refine orRefuse_canon _ _ _ _ _ _ ?_ (fun _ _ _ => ?_) <;> try simp +contextual (maxDischargeDepth := 40) [*]))

@[simp] theorem recordEnd_canon (a0 a1 a2 s) (h : s.canon) : (recordEnd a0 a1 a2 s).canon := by
  unfold recordEnd
  try simp +contextual (maxDischargeDepth := 40) [h]
  repeat' (first | (split <;> try simp +contextual (maxDischargeDepth := 40) [*]) | (refine foldl_canon _ _ _ (fun _ _ _ => ?_) ?_ <;> try simp +contextual (maxDischargeDepth := 40) [*]) | (refine orRefuse_canon _ _ _ _ _ _ ?_ (fun _ _ _ => ?_) <;> try simp +contextual (maxDischargeDepth := 40) [*]))

@[simp] theorem returnParked_canon (a0 a1 s) (h : s.canon) : (returnParked a0 a1 s).canon := by
  unfold returnParked; simp +contextual (maxDischargeDepth := 40) [h]

@[simp] theorem freeGroupsOf_canon (a0 s) (h : s.canon) : (freeGroupsOf a0 s).canon := by
  unfold freeGroupsOf; simp [h]

@[simp] theorem endTask_canon (slot task st s) (h : s.canon) : (endTask slot task st s).canon := by
  unfold endTask
  split
  · exact h
  · dsimp only
    split <;> rename_i e <;>
      have hh := canon_of_snd e (issueStamp_canon _ _ _ (returnParked_canon _ _ _ (updTask_canon _ _ _ _ (freeGroupsOf_canon _ _ h) (fun x hx => hx)))) <;>
      simp (maxDischargeDepth := 40) [hh]

@[simp] theorem skipAll_canon (n s) (h : s.canon) : (skipAll n s).canon := by
  induction n generalizing s with
  | zero => exact h
  | succ n ih => unfold skipAll; split <;> simp (maxDischargeDepth := 40) [ih, h]

@[simp] theorem graphEnd_canon (a0 s) (h : s.canon) : (graphEnd a0 s).canon := by
  unfold graphEnd
  try simp +contextual (maxDischargeDepth := 40) [h]
  repeat' (first | (split <;> try simp +contextual (maxDischargeDepth := 40) [*]) | (refine foldl_canon _ _ _ (fun _ _ _ => ?_) ?_ <;> try simp +contextual (maxDischargeDepth := 40) [*]) | (refine orRefuse_canon _ _ _ _ _ _ ?_ (fun _ _ _ => ?_) <;> try simp +contextual (maxDischargeDepth := 40) [*]))

@[simp] theorem markReady_canon (s) (h : s.canon) : (markReady s).canon := by
  unfold markReady; simp +contextual (maxDischargeDepth := 40) [h]

@[simp] theorem settle_canon (s) (h : s.canon) : (settle s).canon := by
  unfold settle; simp +contextual (maxDischargeDepth := 40) [h]

@[simp] theorem failPeers_canon (a0 a1 s) (h : s.canon) : (failPeers a0 a1 s).canon := by
  unfold failPeers; simp +contextual (maxDischargeDepth := 40) [h]

@[simp] theorem quiesceCheck_canon (s) (h : s.canon) : (quiesceCheck s).canon := by
  unfold quiesceCheck
  try simp +contextual (maxDischargeDepth := 40) [h]
  repeat' (first | (split <;> try simp +contextual (maxDischargeDepth := 40) [*]) | (refine foldl_canon _ _ _ (fun _ _ _ => ?_) ?_ <;> try simp +contextual (maxDischargeDepth := 40) [*]) | (refine orRefuse_canon _ _ _ _ _ _ ?_ (fun _ _ _ => ?_) <;> try simp +contextual (maxDischargeDepth := 40) [*]))

@[simp] theorem taskEndStep_canon (a0 a1 s) (h : s.canon) : (taskEndStep a0 a1 s).canon := by
  unfold taskEndStep
  try simp +contextual (maxDischargeDepth := 40) [h]
  repeat' (first | (split <;> try simp +contextual (maxDischargeDepth := 40) [*]) | (refine foldl_canon _ _ _ (fun _ _ _ => ?_) ?_ <;> try simp +contextual (maxDischargeDepth := 40) [*]) | (refine orRefuse_canon _ _ _ _ _ _ ?_ (fun _ _ _ => ?_) <;> try simp +contextual (maxDischargeDepth := 40) [*]))

@[simp] theorem reportGraph_canon (a0 a1 s) (h : s.canon) : (reportGraph a0 a1 s).canon := by
  unfold reportGraph
  try simp +contextual (maxDischargeDepth := 40) [h]
  repeat' (first | (split <;> try simp +contextual (maxDischargeDepth := 40) [*]) | (refine foldl_canon _ _ _ (fun _ _ _ => ?_) ?_ <;> try simp +contextual (maxDischargeDepth := 40) [*]) | (refine orRefuse_canon _ _ _ _ _ _ ?_ (fun _ _ _ => ?_) <;> try simp +contextual (maxDischargeDepth := 40) [*]))

@[simp] theorem killedReport_canon (a0 s) (h : s.canon) : (killedReport a0 s).canon := by
  unfold killedReport
  try simp +contextual (maxDischargeDepth := 40) [h]
  repeat' (first | (split <;> try simp +contextual (maxDischargeDepth := 40) [*]) | (refine foldl_canon _ _ _ (fun _ _ _ => ?_) ?_ <;> try simp +contextual (maxDischargeDepth := 40) [*]) | (refine orRefuse_canon _ _ _ _ _ _ ?_ (fun _ _ _ => ?_) <;> try simp +contextual (maxDischargeDepth := 40) [*]))

@[simp] theorem killGraph_canon (a0 a1 s) (h : s.canon) : (killGraph a0 a1 s).canon := by
  unfold killGraph
  try simp +contextual (maxDischargeDepth := 40) [h]
  repeat' (first | (split <;> try simp +contextual (maxDischargeDepth := 40) [*]) | (refine foldl_canon _ _ _ (fun _ _ _ => ?_) ?_ <;> try simp +contextual (maxDischargeDepth := 40) [*]) | (refine orRefuse_canon _ _ _ _ _ _ ?_ (fun _ _ _ => ?_) <;> try simp +contextual (maxDischargeDepth := 40) [*]))

@[simp] theorem killGraphs_canon (a0 s) (h : s.canon) : (killGraphs a0 s).canon := by
  unfold killGraphs; simp +contextual (maxDischargeDepth := 40) [h]

theorem inr_of_ite {α β : Type} {c : Prop} [Decidable c] {a : α} {x : α ⊕ β} {y : β} (e : (if c then .inl a else x) = .inr y) : x = .inr y := by
  split at e
  · cases e
  · exact e

theorem graphCheck_ok {s src h m g} (e : graphCheck s src h m = .inr g) : GraphOk g := by
  unfold graphCheck at e
  dsimp only at e
  have e := inr_of_ite (inr_of_ite (inr_of_ite (inr_of_ite (inr_of_ite (inr_of_ite (inr_of_ite e))))))
  have e := inr_of_ite (inr_of_ite (inr_of_ite (inr_of_ite (inr_of_ite (inr_of_ite (inr_of_ite e))))))
  injection e with e
  subst e
  intro t ht
  obtain ⟨i, _, rfl⟩ := List.mem_map.mp ht
  intro b hb
  cases hb

@[simp] theorem mailGraphSubmit_canon (src corr m s) (h : s.canon) : (mailGraphSubmit src corr m s).canon := by
  unfold mailGraphSubmit
  dsimp only
  refine orRefuse_canon _ _ _ _ _ _ (sourceErrors_canon _ _ _ _ h) fun b s h => ?_
  split
  · simp [h]
  · rename_i e
    refine addJob_canon _ _ _ _ _ h ?_
    have k := graphCheck_ok e
    exact k

@[simp] theorem graphCheckDone_canon (job s) (h : s.canon) : (graphCheckDone job s).canon := by
  unfold graphCheckDone
  split
  · rename_i g _ image _ _ _ _ _ e
    generalize (if lightLost s then St.lightLost else graphStillGood s g image) = st
    dsimp only
    split
    · simp [h]
    · split
      · simp [h]
      · refine settle_canon _ (endJob_canon _ _ _ _ ⟨h.1, h.2.1, ?_, h.2.2.2⟩)
        refine graphsOk_put _ _ _ h.2.2.1 ?_
        have k := h.2.2.2 _ (Tab.find?_mem e)
        exact k
  · exact h

@[simp] theorem cancelGraph_canon (a0 s) (h : s.canon) : (cancelGraph a0 s).canon := by
  unfold cancelGraph
  try simp +contextual (maxDischargeDepth := 40) [h]
  repeat' (first | (split <;> try simp +contextual (maxDischargeDepth := 40) [*]) | (refine foldl_canon _ _ _ (fun _ _ _ => ?_) ?_ <;> try simp +contextual (maxDischargeDepth := 40) [*]) | (refine orRefuse_canon _ _ _ _ _ _ ?_ (fun _ _ _ => ?_) <;> try simp +contextual (maxDischargeDepth := 40) [*]))

@[simp] theorem mailGraphCancel_canon (a0 a1 a2 s) (h : s.canon) : (mailGraphCancel a0 a1 a2 s).canon := by
  unfold mailGraphCancel
  try simp +contextual (maxDischargeDepth := 40) [h]
  repeat' (first | (split <;> try simp +contextual (maxDischargeDepth := 40) [*]) | (refine foldl_canon _ _ _ (fun _ _ _ => ?_) ?_ <;> try simp +contextual (maxDischargeDepth := 40) [*]) | (refine orRefuse_canon _ _ _ _ _ _ ?_ (fun _ _ _ => ?_) <;> try simp +contextual (maxDischargeDepth := 40) [*]))

@[simp] theorem admitTask_canon (a0 a1 s) (h : s.canon) : (admitTask a0 a1 s).canon := by
  unfold admitTask; simp +contextual (maxDischargeDepth := 40) [h]

@[simp] theorem admissionStep_canon (a0 s) (h : s.canon) : (admissionStep a0 s).canon := by
  unfold admissionStep
  try simp +contextual (maxDischargeDepth := 40) [h]
  repeat' (first | (split <;> try simp +contextual (maxDischargeDepth := 40) [*]) | (refine foldl_canon _ _ _ (fun _ _ _ => ?_) ?_ <;> try simp +contextual (maxDischargeDepth := 40) [*]) | (refine orRefuse_canon _ _ _ _ _ _ ?_ (fun _ _ _ => ?_) <;> try simp +contextual (maxDischargeDepth := 40) [*]))

@[simp] theorem taskRebindStep_canon (a0 a1 s) (h : s.canon) : (taskRebindStep a0 a1 s).canon := by
  unfold taskRebindStep
  try simp +contextual (maxDischargeDepth := 40) [h]
  repeat' (first | (split <;> try simp +contextual (maxDischargeDepth := 40) [*]) | (refine foldl_canon _ _ _ (fun _ _ _ => ?_) ?_ <;> try simp +contextual (maxDischargeDepth := 40) [*]) | (refine orRefuse_canon _ _ _ _ _ _ ?_ (fun _ _ _ => ?_) <;> try simp +contextual (maxDischargeDepth := 40) [*]))

@[simp] theorem cogroupRebindStep_canon (a0 a1 s) (h : s.canon) : (cogroupRebindStep a0 a1 s).canon := by
  unfold cogroupRebindStep
  try simp +contextual (maxDischargeDepth := 40) [h]
  repeat' (first | (split <;> try simp +contextual (maxDischargeDepth := 40) [*]) | (refine foldl_canon _ _ _ (fun _ _ _ => ?_) ?_ <;> try simp +contextual (maxDischargeDepth := 40) [*]) | (refine orRefuse_canon _ _ _ _ _ _ ?_ (fun _ _ _ => ?_) <;> try simp +contextual (maxDischargeDepth := 40) [*]))

theorem task_ok (s : State) (slot task t) (h : s.canon) (e : s.task? slot task = some t) : TaskOk t := by
  unfold State.task? State.graph? at e
  obtain ⟨g, hg, ht⟩ := Option.bind_eq_some_iff.mp e
  exact h.2.2.1 _ (Tab.find?_mem hg) _ (Tab.find?_mem ht)

@[simp] theorem canonical_pageNow (s p) (h : s.canon) : canonicalBytes (pageNow s p).cells = true := by
  have k := canonical_newest s p h
  unfold newestCells at k
  unfold pageNow
  split
  · next e => rw [e] at k; exact k
  · exact canonical_committed s p h

@[simp] theorem startTask_canon (slot task cores s) (h : s.canon) : (startTask slot task cores s).canon := by
  have hd : ∀ c : Bool, (if c = true then draw s else (0, s)).2.canon := fun c => by
    split
    · exact h
    · exact h
  unfold startTask
  split
  · rename_i g t _ et
    split
    · exact h
    · dsimp only
      generalize hu : State.updStack _ _ _ = u
      have hc : u.canon := by subst hu; exact updStack_canon _ _ _ (issueStamp_canon _ _ _ (hd _))
      generalize hv : State.updTask _ _ _ _ = v
      have vc : v.canon := by
        subst hv
        refine updTask_canon _ _ _ _ hc fun x hx => ?_
        rw [taskOk_mk]
        split
        · exact task_ok _ _ _ _ h et
        · intro b hb
          obtain ⟨p, _, rfl⟩ := List.mem_map.mp hb
          exact canonical_pageNow _ _ hc
      exact ite_canon _ _ _ (endGang_canon _ _ _ _ vc) vc
  · exact h

@[simp] theorem taskReleaseStep_canon (a0 s) (h : s.canon) : (taskReleaseStep a0 s).canon := by
  unfold taskReleaseStep
  try simp +contextual (maxDischargeDepth := 40) [h]
  repeat' (first | (split <;> try simp +contextual (maxDischargeDepth := 40) [*]) | (refine foldl_canon _ _ _ (fun _ _ _ => ?_) ?_ <;> try simp +contextual (maxDischargeDepth := 40) [*]) | (refine orRefuse_canon _ _ _ _ _ _ ?_ (fun _ _ _ => ?_) <;> try simp +contextual (maxDischargeDepth := 40) [*]))

@[simp] theorem cogroupReleaseStep_canon (a0 a1 s) (h : s.canon) : (cogroupReleaseStep a0 a1 s).canon := by
  unfold cogroupReleaseStep
  try simp +contextual (maxDischargeDepth := 40) [h]
  repeat' (first | (split <;> try simp +contextual (maxDischargeDepth := 40) [*]) | (refine foldl_canon _ _ _ (fun _ _ _ => ?_) ?_ <;> try simp +contextual (maxDischargeDepth := 40) [*]) | (refine orRefuse_canon _ _ _ _ _ _ ?_ (fun _ _ _ => ?_) <;> try simp +contextual (maxDischargeDepth := 40) [*]))

@[simp] theorem headStarveStep_canon (a0 s) (h : s.canon) : (headStarveStep a0 s).canon := by
  unfold headStarveStep
  try simp +contextual (maxDischargeDepth := 40) [h]
  repeat' (first | (split <;> try simp +contextual (maxDischargeDepth := 40) [*]) | (refine foldl_canon _ _ _ (fun _ _ _ => ?_) ?_ <;> try simp +contextual (maxDischargeDepth := 40) [*]) | (refine orRefuse_canon _ _ _ _ _ _ ?_ (fun _ _ _ => ?_) <;> try simp +contextual (maxDischargeDepth := 40) [*]))

@[simp] theorem cogroupHangStep_canon (a0 a1 s) (h : s.canon) : (cogroupHangStep a0 a1 s).canon := by
  unfold cogroupHangStep
  try simp +contextual (maxDischargeDepth := 40) [h]
  repeat' (first | (split <;> try simp +contextual (maxDischargeDepth := 40) [*]) | (refine foldl_canon _ _ _ (fun _ _ _ => ?_) ?_ <;> try simp +contextual (maxDischargeDepth := 40) [*]) | (refine orRefuse_canon _ _ _ _ _ _ ?_ (fun _ _ _ => ?_) <;> try simp +contextual (maxDischargeDepth := 40) [*]))

@[simp] theorem deadlineStep_canon (s) (h : s.canon) : (deadlineStep s).canon := by
  unfold deadlineStep; simp (maxDischargeDepth := 40) [h]

@[simp] theorem thresholdStep_canon (s) (h : s.canon) : (thresholdStep s).canon := by
  unfold thresholdStep; simp (maxDischargeDepth := 40) [h]

@[simp] theorem cutStep_canon (s) (h : s.canon) : (cutStep s).canon := by
  unfold cutStep
  split
  · exact h
  · split
    · have k := passagesAtCut_canon s h
      rw [canon_mk]
      dsimp only
      refine ⟨k.1, k.2.1, graphsOk_mapVals _ _ k.2.2.1 fun _ g hg => ?_, k.2.2.2⟩
      split
      · exact hg
      · exact hg
    · exact h

@[simp] theorem drainStep_canon (s) (h : s.canon) : (drainStep s).canon := by
  unfold drainStep
  try simp +contextual (maxDischargeDepth := 40) [h]
  repeat' (first | (split <;> try simp +contextual (maxDischargeDepth := 40) [*]) | (refine foldl_canon _ _ _ (fun _ _ _ => ?_) ?_ <;> try simp +contextual (maxDischargeDepth := 40) [*]) | (refine orRefuse_canon _ _ _ _ _ _ ?_ (fun _ _ _ => ?_) <;> try simp +contextual (maxDischargeDepth := 40) [*]))

@[simp] theorem drainLateStep_canon (s) (h : s.canon) : (drainLateStep s).canon := by
  unfold drainLateStep
  try simp +contextual (maxDischargeDepth := 40) [h]
  repeat' (first | (split <;> try simp +contextual (maxDischargeDepth := 40) [*]) | (refine foldl_canon _ _ _ (fun _ _ _ => ?_) ?_ <;> try simp +contextual (maxDischargeDepth := 40) [*]) | (refine orRefuse_canon _ _ _ _ _ _ ?_ (fun _ _ _ => ?_) <;> try simp +contextual (maxDischargeDepth := 40) [*]))

@[simp] theorem verdictStep_canon (s) (h : s.canon) : (verdictStep s).canon := by
  unfold verdictStep
  try simp +contextual (maxDischargeDepth := 40) [h]
  repeat' (first | (split <;> try simp +contextual (maxDischargeDepth := 40) [*]) | (refine foldl_canon _ _ _ (fun _ _ _ => ?_) ?_ <;> try simp +contextual (maxDischargeDepth := 40) [*]) | (refine orRefuse_canon _ _ _ _ _ _ ?_ (fun _ _ _ => ?_) <;> try simp +contextual (maxDischargeDepth := 40) [*]))

theorem addPreImage_canon (a0 a1 a2 b s) (h : s.canon) (hb : canonicalBytes b.cells = true) : (addPreImage a0 a1 a2 b s).canon := by
  unfold addPreImage
  have k := poolFrame_canon s h
  refine ⟨⟨k.1.1, k.1.2.1, k.1.2.2.1, presOk_append _ _ k.1.2.2.2 fun x hx => ?_⟩, k.2⟩
  rw [List.mem_singleton.mp hx]; exact hb

theorem foldl_mem_canon {α : Type} (f : State → α → State) (l : List α) (s : State) (h : ∀ x ∈ l, ∀ s : State, s.canon → (f s x).canon)
    (hs : s.canon) : (l.foldl f s).canon := by
  induction l generalizing s with
  | nil => exact hs
  | cons x l ih =>
    rw [List.foldl_cons]
    exact ih _ (fun y hy => h y (List.mem_cons_of_mem _ hy)) (h x List.mem_cons_self _ hs)

theorem allTasks_ok (s : State) (h : s.canon) : ∀ x ∈ allTasks s, TaskOk x.2.2.2 := by
  intro x hx
  unfold allTasks at hx
  obtain ⟨g, hg, hx⟩ := List.mem_flatMap.mp hx
  obtain ⟨t, ht, rfl⟩ := List.mem_map.mp hx
  exact h.2.2.1 g hg t ht

@[simp] theorem keepPreImages_canon (m pages s) (h : s.canon) : (keepPreImages m pages s).canon := by
  unfold keepPreImages
  dsimp only
  refine foldl_mem_canon _ _ _ (fun x hx u hu => foldl_mem_canon _ _ _ (fun b hb u hu => addPreImage_canon _ _ _ _ _ hu ?_) hu) ?_
  · exact allTasks_ok s h x (List.mem_filter.mp hx).1 b (List.mem_filter.mp hb).1
  · exact releaseFrames_canon _ _ ⟨⟨h.1.1, h.1.2.1, h.1.2.2.1, presOk_filter _ _ h.1.2.2.2⟩, h.2⟩

@[simp] theorem pinPage_canon (a0 a1 s) (h : s.canon) : (pinPage a0 a1 s).canon := by
  unfold pinPage; simp +contextual (maxDischargeDepth := 40) [h]

@[simp] theorem pinAll_canon (a0 s) (h : s.canon) : (pinAll a0 s).canon := by
  unfold pinAll
  try simp +contextual (maxDischargeDepth := 40) [h]
  repeat' (first | (split <;> try simp +contextual (maxDischargeDepth := 40) [*]) | (refine foldl_canon _ _ _ (fun _ _ _ => ?_) ?_ <;> try simp +contextual (maxDischargeDepth := 40) [*]) | (refine orRefuse_canon _ _ _ _ _ _ ?_ (fun _ _ _ => ?_) <;> try simp +contextual (maxDischargeDepth := 40) [*]))

@[simp] theorem fitPins_canon (n s) (h : s.canon) : (fitPins n s).canon := by
  induction n generalizing s with
  | zero => exact h
  | succ n ih => unfold fitPins; split; · exact h
                 split <;> simp (maxDischargeDepth := 40) [ih, h]

@[simp] theorem newPoison_canon (a0 s) (h : s.canon) : (newPoison a0 s).canon := by
  exact h

@[simp] theorem freePages_canon (s) (h : s.canon) : (freePages s).canon := by
  unfold freePages; simp (maxDischargeDepth := 40) [h]

@[simp] theorem advance_canon (a0 a1 s) (h : s.canon) : (advance a0 a1 s).canon := by
  unfold advance; simp +contextual (maxDischargeDepth := 40) [h]

@[simp] theorem commitReport_canon (a0 a1 s) (h : s.canon) : (commitReport a0 a1 s).canon := by
  unfold commitReport
  try simp +contextual (maxDischargeDepth := 40) [h]
  repeat' (first | (split <;> try simp +contextual (maxDischargeDepth := 40) [*]) | (refine foldl_canon _ _ _ (fun _ _ _ => ?_) ?_ <;> try simp +contextual (maxDischargeDepth := 40) [*]) | (refine orRefuse_canon _ _ _ _ _ _ ?_ (fun _ _ _ => ?_) <;> try simp +contextual (maxDischargeDepth := 40) [*]))

@[simp] theorem bargesAfter_canon (a0 a1 s) (h : s.canon) : (bargesAfter a0 a1 s).canon := by
  unfold bargesAfter; simp +contextual (maxDischargeDepth := 40) [h]

@[simp] theorem torusAfter_canon (a0 s) (h : s.canon) : (torusAfter a0 s).canon := by
  unfold torusAfter; simp +contextual (maxDischargeDepth := 40) [h]

@[simp] theorem inStepAfter_canon (a0 s) (h : s.canon) : (inStepAfter a0 s).canon := by
  unfold inStepAfter
  try simp +contextual (maxDischargeDepth := 40) [h]
  repeat' (first | (split <;> try simp +contextual (maxDischargeDepth := 40) [*]) | (refine foldl_canon _ _ _ (fun _ _ _ => ?_) ?_ <;> try simp +contextual (maxDischargeDepth := 40) [*]) | (refine orRefuse_canon _ _ _ _ _ _ ?_ (fun _ _ _ => ?_) <;> try simp +contextual (maxDischargeDepth := 40) [*]))

@[simp] theorem joinAfter_canon (a0 a1 s) (h : s.canon) : (joinAfter a0 a1 s).canon := by
  unfold joinAfter; simp (maxDischargeDepth := 40) [h]

@[simp] theorem takeNextJoin_canon (a0 a1 a2 s) (h : s.canon) : (takeNextJoin a0 a1 a2 s).canon := by
  unfold takeNextJoin; simp [h]

@[simp] theorem takeNextCut_canon (a0 s) (h : s.canon) : (takeNextCut a0 s).canon := by
  unfold takeNextCut
  try simp +contextual (maxDischargeDepth := 40) [h]
  repeat' (first | (split <;> try simp +contextual (maxDischargeDepth := 40) [*]) | (refine foldl_canon _ _ _ (fun _ _ _ => ?_) ?_ <;> try simp +contextual (maxDischargeDepth := 40) [*]) | (refine orRefuse_canon _ _ _ _ _ _ ?_ (fun _ _ _ => ?_) <;> try simp +contextual (maxDischargeDepth := 40) [*]))

@[simp] theorem openNext_canon (a0 s) (h : s.canon) : (openNext a0 s).canon := by
  unfold openNext; simp (maxDischargeDepth := 40) [h]

@[simp] theorem haltPair_canon (s) (h : s.canon) : (haltPair s).canon := by
  exact h

@[simp] theorem haltAfter_canon (s) (h : s.canon) : (haltAfter s).canon := by
  unfold haltAfter; simp +contextual (maxDischargeDepth := 40) [h]

@[simp] theorem commitStep_canon (s) (h : s.canon) : (commitStep s).canon := by
  unfold commitStep
  try simp +contextual (maxDischargeDepth := 40) [h]
  repeat' (first | (split <;> try simp +contextual (maxDischargeDepth := 40) [*]) | (refine foldl_canon _ _ _ (fun _ _ _ => ?_) ?_ <;> try simp +contextual (maxDischargeDepth := 40) [*]) | (refine orRefuse_canon _ _ _ _ _ _ ?_ (fun _ _ _ => ?_) <;> try simp +contextual (maxDischargeDepth := 40) [*]))

@[simp] theorem rollTask_canon (x s) (h : s.canon) : (rollTask x s).canon := by
  unfold rollTask
  split
  · exact h
  · split
    · exact h
    · refine dropReads_canon _ _ _ (updTask_canon _ _ _ _ (freeGroupsOf_canon _ _ h) ?_)
      intro t ht
      unfold resetTask
      first | exact ht | (split <;> exact ht)

@[simp] theorem rollMessages_canon (a0 s) (h : s.canon) : (rollMessages a0 s).canon := by
  exact h

@[simp] theorem rollWrites_canon (a0 s) (h : s.canon) : (rollWrites a0 s).canon := by
  exact h

@[simp] theorem rollBarges_canon (a0 s) (h : s.canon) : (rollBarges a0 s).canon := by
  exact h

@[simp] theorem rollTorus_canon (a0 s) (h : s.canon) : (rollTorus a0 s).canon := by
  unfold rollTorus; simp +contextual (maxDischargeDepth := 40) [h]

@[simp] theorem fallBehind_canon (a0 s) (h : s.canon) : (fallBehind a0 s).canon := by
  exact h

@[simp] theorem faultGraphs_canon (a0 a1 s) (h : s.canon) : (faultGraphs a0 a1 s).canon := by
  unfold faultGraphs; simp +contextual (maxDischargeDepth := 40) [h]

@[simp] theorem unready_canon (s) (h : s.canon) : (unready s).canon := by
  unfold unready; simp +contextual (maxDischargeDepth := 40) [h]

theorem unEndGraph_ok (m g) (hg : GraphOk g) : GraphOk (unEndGraph m g) := by
  unfold unEndGraph
  dsimp only
  split
  · exact hg
  · exact tasksOk_mapVals (fun _ t => unEnd m g.cancelled t) _ hg fun _ x hx => by unfold unEnd; split <;> exact hx

@[simp] theorem faultStep_canon (s) (h : s.canon) : (faultStep s).canon := by
  unfold faultStep
  split
  · exact h
  · split
    · exact h
    · dsimp only
      have e : ∀ m (t : State), t.canon → (rollTorus m (rollWrites m (rollBarges m t))).canon := fun m t ht =>
        rollTorus_canon _ _ (rollWrites_canon _ _ (rollBarges_canon _ _ ht))
      have f : ∀ (l : List (Nat × Nat)) (t : State), t.canon → (rollMessages l (l.foldl (fun s x => rollTask x s) t)).canon :=
        fun l t ht => rollMessages_canon _ _ (foldl_canon _ _ _ (fun s x h => rollTask_canon _ _ h) ht)
      have g : ∀ (c : Prop) [Decidable c] (b : Bool), (if c then fallBehind b s else s).canon := fun c _ b => by
        split
        · exact fallBehind_canon _ _ h
        · exact h
      have w : ∀ (c : Prop) [Decidable c] (n : Nat) (l : List (Nat × Nat)) (t : State), t.canon →
          (if c then faultGraphs n l t else t).canon := fun c _ n l t ht => by
        split
        · exact faultGraphs_canon _ _ _ ht
        · exact ht
      have d : ∀ (m : Nat) (t : State), t.canon →
          ShadowsOk (t.mem.shadows.map fun h => if m ≤ h.tag then { h with discarded := true } else h) := fun m t ht =>
        shadowsOk_map _ _ ht.1.2.1 fun x hx => by split <;> exact hx
      have u : ∀ (m : Nat) (t : State), t.canon → GraphsOk (Tab.mapVals (fun _ g => unEndGraph m g) t.work.graphs) := fun m t ht =>
        graphsOk_mapVals (fun _ g => unEndGraph m g) _ ht.2.2.1 fun _ g hg => unEndGraph_ok _ _ hg
      refine unready_canon _ (w _ _ _ _ ?_)
      rename_i r _ _
      generalize hv : rollTorus _ _ = v
      have vc : v.canon := by subst hv; exact e _ _ (g _ _)
      rw [canon_mk]
      dsimp only
      split
      · have k := f
          (if rollsBack s ((Option.map Closing.serial s.pound.closing).getD 0) = true then
            (s.pound.closingSet ++ s.pound.taskSet).eraseDups else s.pound.taskSet)
        generalize hz : rollMessages _ _ = z
        have zc : z.canon := by subst hz; exact k _ ⟨⟨vc.1.1, d _ _ vc, vc.1.2.2⟩, vc.2⟩
        exact ⟨zc.1, zc.2.1, u _ _ zc, zc.2.2.2⟩
      · exact ⟨⟨vc.1.1, d _ _ vc, vc.1.2.2⟩, vc.2.1, u _ v vc, vc.2.2.2⟩

@[simp] theorem returnStep_canon (s) (h : s.canon) : (returnStep s).canon := by
  unfold returnStep
  try simp +contextual (maxDischargeDepth := 40) [h]
  repeat' (first | (split <;> try simp +contextual (maxDischargeDepth := 40) [*]) | (refine foldl_canon _ _ _ (fun _ _ _ => ?_) ?_ <;> try simp +contextual (maxDischargeDepth := 40) [*]) | (refine orRefuse_canon _ _ _ _ _ _ ?_ (fun _ _ _ => ?_) <;> try simp +contextual (maxDischargeDepth := 40) [*]))

@[simp] theorem rewindBarges_canon (s) (h : s.canon) : (rewindBarges s).canon := by
  unfold rewindBarges; simp +contextual (maxDischargeDepth := 40) [h]

@[simp] theorem rewrites_canon (a0 s) (h : s.canon) : (rewrites a0 s).canon := by
  unfold rewrites
  try simp +contextual (maxDischargeDepth := 40) [h]
  repeat' (first | (split <;> try simp +contextual (maxDischargeDepth := 40) [*]) | (refine foldl_canon _ _ _ (fun _ _ _ => ?_) ?_ <;> try simp +contextual (maxDischargeDepth := 40) [*]) | (refine orRefuse_canon _ _ _ _ _ _ ?_ (fun _ _ _ => ?_) <;> try simp +contextual (maxDischargeDepth := 40) [*]))

@[simp] theorem reRecord_canon (s) (h : s.canon) : (reRecord s).canon := by
  unfold reRecord
  refine foldl_canon _ _ _ (fun s x h => ?_) h
  split <;> rename_i e <;> have hh := canon_of_snd e (issueStamp_canon _ _ _ h) <;> simp (maxDischargeDepth := 40) [hh]

@[simp] theorem replayStep_canon (s) (h : s.canon) : (replayStep s).canon := by
  unfold replayStep
  try simp +contextual (maxDischargeDepth := 40) [h]
  repeat' (first | (split <;> try simp +contextual (maxDischargeDepth := 40) [*]) | (refine foldl_canon _ _ _ (fun _ _ _ => ?_) ?_ <;> try simp +contextual (maxDischargeDepth := 40) [*]) | (refine orRefuse_canon _ _ _ _ _ _ ?_ (fun _ _ _ => ?_) <;> try simp +contextual (maxDischargeDepth := 40) [*]))

@[simp] theorem countSent_canon (a0 a1 s) (h : s.canon) : (countSent a0 a1 s).canon := by
  unfold countSent; simp [h]

@[simp] theorem forwardWrite_canon (a0 a1 a2 a3 a4 s) (h : s.canon) : (forwardWrite a0 a1 a2 a3 a4 s).canon := by
  unfold forwardWrite; simp +contextual (maxDischargeDepth := 40) [h]

@[simp] theorem dropWrite_canon (a0 s) (h : s.canon) : (dropWrite a0 s).canon := by
  exact h

@[simp] theorem torusArrival_canon (a0 a1 a2 a3 a4 a5 s) (h : s.canon) : (torusArrival a0 a1 a2 a3 a4 a5 s).canon := by
  unfold torusArrival; simp (maxDischargeDepth := 40) [h]

@[simp] theorem countLate_canon (a0 a1 s) (h : s.canon) : (countLate a0 a1 s).canon := by
  unfold countLate; simp [h]

@[simp] theorem holdWrite_canon (a0 a1 s) (h : s.canon) : (holdWrite a0 a1 s).canon := by
  exact h

@[simp] theorem berthArrival_canon (a0 a1 a2 a3 s) (h : s.canon) : (berthArrival a0 a1 a2 a3 s).canon := by
  unfold berthArrival
  try simp +contextual (maxDischargeDepth := 40) [h]
  repeat' (first | (split <;> try simp +contextual (maxDischargeDepth := 40) [*]) | (refine foldl_canon _ _ _ (fun _ _ _ => ?_) ?_ <;> try simp +contextual (maxDischargeDepth := 40) [*]) | (refine orRefuse_canon _ _ _ _ _ _ ?_ (fun _ _ _ => ?_) <;> try simp +contextual (maxDischargeDepth := 40) [*]) | (intro _ <;> try simp +contextual (maxDischargeDepth := 40) [*]))

@[simp] theorem writeArrival_canon (a0 s) (h : s.canon) : (writeArrival a0 s).canon := by
  unfold writeArrival
  try simp +contextual (maxDischargeDepth := 40) [h]
  repeat' (first | (split <;> try simp +contextual (maxDischargeDepth := 40) [*]) | (refine foldl_canon _ _ _ (fun _ _ _ => ?_) ?_ <;> try simp +contextual (maxDischargeDepth := 40) [*]) | (refine orRefuse_canon _ _ _ _ _ _ ?_ (fun _ _ _ => ?_) <;> try simp +contextual (maxDischargeDepth := 40) [*]))

@[simp] theorem reorderStep_canon (a0 s) (h : s.canon) : (reorderStep a0 s).canon := by
  unfold reorderStep
  try simp +contextual (maxDischargeDepth := 40) [h]
  repeat' (first | (split <;> try simp +contextual (maxDischargeDepth := 40) [*]) | (refine foldl_canon _ _ _ (fun _ _ _ => ?_) ?_ <;> try simp +contextual (maxDischargeDepth := 40) [*]) | (refine orRefuse_canon _ _ _ _ _ _ ?_ (fun _ _ _ => ?_) <;> try simp +contextual (maxDischargeDepth := 40) [*]))

@[simp] theorem copyStep_canon (page s) (h : s.canon) : (copyStep page s).canon := by
  unfold copyStep
  split
  · exact h
  · rename_i x e
    have hx : canonicalBytes x.cells = true :=
      h.1.2.1 x (List.mem_filter.mp ((mem_byTag x _).1 (List.mem_of_mem_head? (by rw [e]; rfl)))).1
    exact foldl_canon _ _ _ (fun s w h => applyWrite_canon _ _ h) ⟨⟨h.1.1, shadowsOk_set _ _ h.1.2.1 hx, h.1.2.2⟩, h.2⟩

@[simp] theorem poolResumeStep_canon (a0 s) (h : s.canon) : (poolResumeStep a0 s).canon := by
  unfold poolResumeStep
  try simp +contextual (maxDischargeDepth := 40) [h]
  repeat' (first | (split <;> try simp +contextual (maxDischargeDepth := 40) [*]) | (refine foldl_canon _ _ _ (fun _ _ _ => ?_) ?_ <;> try simp +contextual (maxDischargeDepth := 40) [*]) | (refine orRefuse_canon _ _ _ _ _ _ ?_ (fun _ _ _ => ?_) <;> try simp +contextual (maxDischargeDepth := 40) [*]))

@[simp] theorem answerTorusRead_canon (a0 a1 a2 a3 a4 s) (h : s.canon) : (answerTorusRead a0 a1 a2 a3 a4 s).canon := by
  unfold answerTorusRead; simp +contextual (maxDischargeDepth := 40) [h]

@[simp] theorem sendRead_canon (a0 a1 a2 a3 s) (h : s.canon) : (sendRead a0 a1 a2 a3 s).canon := by
  unfold sendRead; simp [h]

@[simp] theorem forwardRead_canon (a0 a1 a2 a3 s) (h : s.canon) : (forwardRead a0 a1 a2 a3 s).canon := by
  unfold forwardRead; simp (maxDischargeDepth := 40) [h]

@[simp] theorem readAnswer_canon (a0 a1 a2 a3 a4 s) (h : s.canon) : (readAnswer a0 a1 a2 a3 a4 s).canon := by
  unfold readAnswer
  try simp +contextual (maxDischargeDepth := 40) [h]
  repeat' (first | (split <;> try simp +contextual (maxDischargeDepth := 40) [*]) | (refine foldl_canon _ _ _ (fun _ _ _ => ?_) ?_ <;> try simp +contextual (maxDischargeDepth := 40) [*]) | (refine orRefuse_canon _ _ _ _ _ _ ?_ (fun _ _ _ => ?_) <;> try simp +contextual (maxDischargeDepth := 40) [*]) | (intro _ <;> try simp +contextual (maxDischargeDepth := 40) [*]))

@[simp] theorem serveRead_canon (a0 a1 s) (h : s.canon) : (serveRead a0 a1 s).canon := by
  unfold serveRead
  try simp +contextual (maxDischargeDepth := 40) [h]
  repeat' (first | (split <;> try simp +contextual (maxDischargeDepth := 40) [*]) | (refine foldl_canon _ _ _ (fun _ _ _ => ?_) ?_ <;> try simp +contextual (maxDischargeDepth := 40) [*]) | (refine orRefuse_canon _ _ _ _ _ _ ?_ (fun _ _ _ => ?_) <;> try simp +contextual (maxDischargeDepth := 40) [*]) | (intro _ <;> try simp +contextual (maxDischargeDepth := 40) [*]))

@[simp] theorem readStep_canon (a0 a1 s) (h : s.canon) : (readStep a0 a1 s).canon := by
  unfold readStep
  try simp +contextual (maxDischargeDepth := 40) [h]
  repeat' (first | (split <;> try simp +contextual (maxDischargeDepth := 40) [*]) | (refine foldl_canon _ _ _ (fun _ _ _ => ?_) ?_ <;> try simp +contextual (maxDischargeDepth := 40) [*]) | (refine orRefuse_canon _ _ _ _ _ _ ?_ (fun _ _ _ => ?_) <;> try simp +contextual (maxDischargeDepth := 40) [*]))

@[simp] theorem refreshStep_canon (a0 a1 a2 s) (h : s.canon) : (refreshStep a0 a1 a2 s).canon := by
  unfold refreshStep; split <;> simp [h]

@[simp] theorem calibCount_canon (a0 a1 a2 s) (h : s.canon) : (calibCount a0 a1 a2 s).canon := by
  unfold calibCount; simp (maxDischargeDepth := 40) [h]

@[simp] theorem trackStep_canon (a0 a1 a2 s) (h : s.canon) : (trackStep a0 a1 a2 s).canon := by
  unfold trackStep; simp (maxDischargeDepth := 40) [h]

@[simp] theorem trackAll_canon (s) (h : s.canon) : (trackAll s).canon := by
  unfold trackAll; simp +contextual (maxDischargeDepth := 40) [h]

@[simp] theorem patrolStep_canon (a0 a1 a2 s) (h : s.canon) : (patrolStep a0 a1 a2 s).canon := by
  unfold patrolStep; simp +contextual (maxDischargeDepth := 40) [h]

@[simp] theorem lockIfClose_canon (s) (h : s.canon) : (lockIfClose s).canon := by
  unfold lockIfClose; simp [h]

@[simp] theorem countTick_canon (s) (h : s.canon) : (countTick s).canon := by
  unfold countTick; simp (maxDischargeDepth := 40) [h]

@[simp] theorem timersTick_canon (s) (h : s.canon) : (timersTick s).canon := by
  exact h

@[simp] theorem copiesTick_canon (a0 s) (h : s.canon) : (copiesTick a0 s).canon := by
  exact h

@[simp] theorem fabricTick_canon (s) (h : s.canon) : (fabricTick s).canon := by
  unfold fabricTick; simp [h]

@[simp] theorem tickStep_canon (s) (h : s.canon) : (tickStep s).canon := by
  unfold tickStep; simp (maxDischargeDepth := 40) [h]

@[simp] theorem pauseSerials_canon (a0 a1 s) (h : s.canon) : (pauseSerials a0 a1 s).2.canon := by
  unfold pauseSerials
  try simp +contextual (maxDischargeDepth := 40) [h]
  repeat' (first | (split <;> try simp +contextual (maxDischargeDepth := 40) [*]) | (refine foldl_canon _ _ _ (fun _ _ _ => ?_) ?_ <;> try simp +contextual (maxDischargeDepth := 40) [*]) | (refine orRefuse_canon _ _ _ _ _ _ ?_ (fun _ _ _ => ?_) <;> try simp +contextual (maxDischargeDepth := 40) [*]))

@[simp] theorem pauseEvent_canon (a0 a1 a2 a3 s) (h : s.canon) : (pauseEvent a0 a1 a2 a3 s).canon := by
  unfold pauseEvent; simp [h]

@[simp] theorem giveStamp_canon (a0 a1 s) (h : s.canon) : (giveStamp a0 a1 s).canon := by
  unfold giveStamp
  try simp +contextual (maxDischargeDepth := 40) [h]
  repeat' (first | (split <;> try simp +contextual (maxDischargeDepth := 40) [*]) | (refine foldl_canon _ _ _ (fun _ _ _ => ?_) ?_ <;> try simp +contextual (maxDischargeDepth := 40) [*]) | (refine orRefuse_canon _ _ _ _ _ _ ?_ (fun _ _ _ => ?_) <;> try simp +contextual (maxDischargeDepth := 40) [*]))

@[simp] theorem releaseHeld_canon (b n s) (h : s.canon) : (releaseHeld b n s).canon := by
  induction n generalizing s with
  | zero => exact h
  | succ n ih =>
    unfold releaseHeld
    dsimp only
    split
    · exact h
    · split
      · exact ih _ (giveStamp_canon _ _ _ h)
      · exact h

@[simp] theorem replicaStep_canon (a0 a1 s) (h : s.canon) : (replicaStep a0 a1 s).canon := by
  unfold replicaStep; simp (maxDischargeDepth := 40) [h]

@[simp] theorem loadCopies_canon (s) (h : s.canon) : (loadCopies s).canon := by
  exact h

@[simp] theorem applyOffset_canon (a0 s) (h : s.canon) : (applyOffset a0 s).canon := by
  unfold applyOffset; simp (maxDischargeDepth := 40) [h]

@[simp] theorem timingSend_canon (a0 a1 s) (h : s.canon) : (timingSend a0 a1 s).canon := by
  unfold timingSend; simp (maxDischargeDepth := 40) [h]

@[simp] theorem takeMaster_canon (a0 s) (h : s.canon) : (takeMaster a0 s).canon := by
  unfold takeMaster; simp (maxDischargeDepth := 40) [h]

@[simp] theorem becomeMaster_canon (s) (h : s.canon) : (becomeMaster s).canon := by
  unfold becomeMaster; simp (maxDischargeDepth := 40) [h]

@[simp] theorem learnMaster_canon (a0 s) (h : s.canon) : (learnMaster a0 s).canon := by
  unfold learnMaster; simp (maxDischargeDepth := 40) [h]

@[simp] theorem timingReceive_canon (a0 a1 a2 a3 a4 a5 s) (h : s.canon) : (timingReceive a0 a1 a2 a3 a4 a5 s).canon := by
  unfold timingReceive
  try simp +contextual (maxDischargeDepth := 40) [h]
  repeat' (first | (split <;> try simp +contextual (maxDischargeDepth := 40) [*]) | (refine foldl_canon _ _ _ (fun _ _ _ => ?_) ?_ <;> try simp +contextual (maxDischargeDepth := 40) [*]) | (refine orRefuse_canon _ _ _ _ _ _ ?_ (fun _ _ _ => ?_) <;> try simp +contextual (maxDischargeDepth := 40) [*]))

@[simp] theorem ptpStep_canon (a0 a1 a2 s) (h : s.canon) : (ptpStep a0 a1 a2 s).canon := by
  unfold ptpStep
  try simp +contextual (maxDischargeDepth := 40) [h]
  repeat' (first | (split <;> try simp +contextual (maxDischargeDepth := 40) [*]) | (refine foldl_canon _ _ _ (fun _ _ _ => ?_) ?_ <;> try simp +contextual (maxDischargeDepth := 40) [*]) | (refine orRefuse_canon _ _ _ _ _ _ ?_ (fun _ _ _ => ?_) <;> try simp +contextual (maxDischargeDepth := 40) [*]))

@[simp] theorem scheduleStep_canon (a0 s) (h : s.canon) : (scheduleStep a0 s).canon := by
  unfold scheduleStep; simp (maxDischargeDepth := 40) [h]

@[simp] theorem sendAvs_canon (a0 a1 a2 s) (h : s.canon) : (sendAvs a0 a1 a2 s).canon := by
  exact h

@[simp] theorem setChange_canon (a0 a1 s) (h : s.canon) : (setChange a0 a1 s).canon := by
  exact h

@[simp] theorem stepStart_canon (a0 s) (h : s.canon) : (stepStart a0 s).canon := by
  unfold stepStart
  try simp +contextual (maxDischargeDepth := 40) [h]
  repeat' (first | (split <;> try simp +contextual (maxDischargeDepth := 40) [*]) | (refine foldl_canon _ _ _ (fun _ _ _ => ?_) ?_ <;> try simp +contextual (maxDischargeDepth := 40) [*]) | (refine orRefuse_canon _ _ _ _ _ _ ?_ (fun _ _ _ => ?_) <;> try simp +contextual (maxDischargeDepth := 40) [*]))

@[simp] theorem changeDone_canon (a0 s) (h : s.canon) : (changeDone a0 s).canon := by
  unfold changeDone
  try simp +contextual (maxDischargeDepth := 40) [h]
  repeat' (first | (split <;> try simp +contextual (maxDischargeDepth := 40) [*]) | (refine foldl_canon _ _ _ (fun _ _ _ => ?_) ?_ <;> try simp +contextual (maxDischargeDepth := 40) [*]) | (refine orRefuse_canon _ _ _ _ _ _ ?_ (fun _ _ _ => ?_) <;> try simp +contextual (maxDischargeDepth := 40) [*]))

@[simp] theorem glideStep_canon (a0 s) (h : s.canon) : (glideStep a0 s).canon := by
  unfold glideStep
  try simp +contextual (maxDischargeDepth := 40) [h]
  repeat' (first | (split <;> try simp +contextual (maxDischargeDepth := 40) [*]) | (refine foldl_canon _ _ _ (fun _ _ _ => ?_) ?_ <;> try simp +contextual (maxDischargeDepth := 40) [*]) | (refine orRefuse_canon _ _ _ _ _ _ ?_ (fun _ _ _ => ?_) <;> try simp +contextual (maxDischargeDepth := 40) [*]))

@[simp] theorem wroteVolts_canon (a0 a1 s) (h : s.canon) : (wroteVolts a0 a1 s).canon := by
  unfold wroteVolts
  try simp +contextual (maxDischargeDepth := 40) [h]
  repeat' (first | (split <;> try simp +contextual (maxDischargeDepth := 40) [*]) | (refine foldl_canon _ _ _ (fun _ _ _ => ?_) ?_ <;> try simp +contextual (maxDischargeDepth := 40) [*]) | (refine orRefuse_canon _ _ _ _ _ _ ?_ (fun _ _ _ => ?_) <;> try simp +contextual (maxDischargeDepth := 40) [*]))

@[simp] theorem statusRead_canon (a0 a1 s) (h : s.canon) : (statusRead a0 a1 s).canon := by
  unfold statusRead
  try simp +contextual (maxDischargeDepth := 40) [h]
  repeat' (first | (split <;> try simp +contextual (maxDischargeDepth := 40) [*]) | (refine foldl_canon _ _ _ (fun _ _ _ => ?_) ?_ <;> try simp +contextual (maxDischargeDepth := 40) [*]) | (refine orRefuse_canon _ _ _ _ _ _ ?_ (fun _ _ _ => ?_) <;> try simp +contextual (maxDischargeDepth := 40) [*]))

@[simp] theorem avsFailed_canon (a0 s) (h : s.canon) : (avsFailed a0 s).canon := by
  unfold avsFailed
  try simp +contextual (maxDischargeDepth := 40) [h]
  repeat' (first | (split <;> try simp +contextual (maxDischargeDepth := 40) [*]) | (refine foldl_canon _ _ _ (fun _ _ _ => ?_) ?_ <;> try simp +contextual (maxDischargeDepth := 40) [*]) | (refine orRefuse_canon _ _ _ _ _ _ ?_ (fun _ _ _ => ?_) <;> try simp +contextual (maxDischargeDepth := 40) [*]))

@[simp] theorem avsDone_canon (a0 s) (h : s.canon) : (avsDone a0 s).canon := by
  unfold avsDone
  try simp +contextual (maxDischargeDepth := 40) [h]
  repeat' (first | (split <;> try simp +contextual (maxDischargeDepth := 40) [*]) | (refine foldl_canon _ _ _ (fun _ _ _ => ?_) ?_ <;> try simp +contextual (maxDischargeDepth := 40) [*]) | (refine orRefuse_canon _ _ _ _ _ _ ?_ (fun _ _ _ => ?_) <;> try simp +contextual (maxDischargeDepth := 40) [*]))

@[simp] theorem pllLoss_canon (a0 s) (h : s.canon) : (pllLoss a0 s).canon := by
  unfold pllLoss; simp (maxDischargeDepth := 40) [h]

@[simp] theorem pllRelock_canon (a0 s) (h : s.canon) : (pllRelock a0 s).canon := by
  unfold pllRelock; simp (maxDischargeDepth := 40) [h]

@[simp] theorem marginStep_canon (a0 a1 a2 s) (h : s.canon) : (marginStep a0 a1 a2 s).canon := by
  unfold marginStep; simp [h]

end Sys2Proof.Machine
end

