-- ==== Sys2Proof/Laws/CanonBase.lean ====
section
/-!
SUPPORT. Every function of the base, light and the torus on states keeps device memory, scratch and what tasks keep in canonical form. None is left out.
-/

-- One proof after another: in parallel each asks for a thread and its stack.
set_option Elab.async false
set_option linter.all false

namespace Sys2Proof.Machine

open Sys2Proof.Safety

@[simp] theorem laneStep_canon (a0 a1 s) (h : s.canon) : (laneStep a0 a1 s).canon := by
  unfold laneStep; simp (maxDischargeDepth := 40) [h]

@[simp] theorem suspectLane_canon (a0 a1 s) (h : s.canon) : (suspectLane a0 a1 s).canon := by
  unfold suspectLane; simp [h]

@[simp] theorem watchLanes_canon (a0 a1 s) (h : s.canon) : (watchLanes a0 a1 s).canon := by
  unfold watchLanes; simp +contextual (maxDischargeDepth := 40) [h]

@[simp] theorem idleWave_canon (a0 a1 a2 a3 s) (h : s.canon) : (idleWave a0 a1 a2 a3 s).canon := by
  unfold idleWave; simp (maxDischargeDepth := 40) [h]

@[simp] theorem pruneQueue_canon (a0 s) (h : s.canon) : (pruneQueue a0 s).canon := by
  exact h

@[simp] theorem pairFields_canon (s a1 a2) (h : s.canon) : (pairFields s a1 a2).2.canon := by
  unfold pairFields; simp [h]

@[simp] theorem newFrame_canon (a0 a1 s) (h : s.canon) : (newFrame a0 a1 s).2.canon := by
  unfold newFrame; simp (maxDischargeDepth := 40) [h]

@[simp] theorem nextFrame_canon (a0 a1 s) (h : s.canon) : (nextFrame a0 a1 s).2.canon := by
  unfold nextFrame
  try simp +contextual (maxDischargeDepth := 40) [h]
  repeat' (first | (split <;> try simp +contextual (maxDischargeDepth := 40) [*]) | (refine foldl_canon _ _ _ (fun _ _ _ => ?_) ?_ <;> try simp +contextual (maxDischargeDepth := 40) [*]) | (refine orRefuse_canon _ _ _ _ _ _ ?_ (fun _ _ _ => ?_) <;> try simp +contextual (maxDischargeDepth := 40) [*]))

@[simp] theorem countFrame_canon (a0 a1 s) (h : s.canon) : (countFrame a0 a1 s).canon := by
  exact h

@[simp] theorem toTrain_canon (l s) (h : s.canon) : (toTrain l s).canon := by
  unfold toTrain
  dsimp only
  exact nextWindow_canon _ _ _ (setLinks_canon _ _ _ (foldl_canon _ _ _ (fun s x h => updLink_canon _ _ _ h) h))

@[simp] theorem unrecovered_canon (l f s) (h : s.canon) : (unrecovered l f s).canon :=
  toTrain_canon _ _ (raiseFault_canon _ _ _ (updLink_canon _ _ _ h))

@[simp] theorem fibreControl_canon (a0 a1 s) (h : s.canon) : (fibreControl a0 a1 s).canon := by
  exact h

@[simp] theorem arrivePacket_canon (a0 a1 a2 s) (h : s.canon) : (arrivePacket a0 a1 a2 s).canon := by
  unfold arrivePacket
  try simp +contextual (maxDischargeDepth := 40) [h]
  repeat' (first | (split <;> try simp +contextual (maxDischargeDepth := 40) [*]) | (refine foldl_canon _ _ _ (fun _ _ _ => ?_) ?_ <;> try simp +contextual (maxDischargeDepth := 40) [*]) | (refine orRefuse_canon _ _ _ _ _ _ ?_ (fun _ _ _ => ?_) <;> try simp +contextual (maxDischargeDepth := 40) [*]))

@[simp] theorem countDecoded_canon (a0 a1 a2 s) (h : s.canon) : (countDecoded a0 a1 a2 s).canon := by
  unfold countDecoded; simp [h]

@[simp] theorem acceptFrame_canon (a0 a1 a2 a3 s) (h : s.canon) : (acceptFrame a0 a1 a2 a3 s).canon := by
  unfold acceptFrame; simp +contextual (maxDischargeDepth := 40) [h]

@[simp] theorem askAgain_canon (a0 a1 a2 s) (h : s.canon) : (askAgain a0 a1 a2 s).canon := by
  unfold askAgain; simp [h]

@[simp] theorem badFrame_canon (a0 a1 a2 s) (h : s.canon) : (badFrame a0 a1 a2 s).canon := by
  unfold badFrame; simp (maxDischargeDepth := 40) [h]

@[simp] theorem takeFrame_canon (a0 a1 a2 a3 s) (h : s.canon) : (takeFrame a0 a1 a2 a3 s).canon := by
  unfold takeFrame
  try simp +contextual (maxDischargeDepth := 40) [h]
  repeat' (first | (split <;> try simp +contextual (maxDischargeDepth := 40) [*]) | (refine foldl_canon _ _ _ (fun _ _ _ => ?_) ?_ <;> try simp +contextual (maxDischargeDepth := 40) [*]) | (refine orRefuse_canon _ _ _ _ _ _ ?_ (fun _ _ _ => ?_) <;> try simp +contextual (maxDischargeDepth := 40) [*]) | (intro _ <;> try simp +contextual (maxDischargeDepth := 40) [*]))

@[simp] theorem fibreSend_canon (t n s) (h : s.canon) : (fibreSend t n s).canon := by
  induction n generalizing s with
  | zero => exact h
  | succ n ih =>
    unfold fibreSend
    dsimp only
    split
    · exact h
    · refine ih _ ?_
      simp (maxDischargeDepth := 40) [h]

theorem fibreAdmit_canon {d p s t} (hs : s.canon) (h : fibreAdmit d p s = some t) : t.canon := by
  unfold fibreAdmit at h
  dsimp only at h
  cases e : fibreFor s d (torusOf p) <;> rw [e] at h <;> cases h
  simp (maxDischargeDepth := 40) [hs]

@[simp] theorem fibreList_canon (d l h s) (hs : s.canon) : (fibreList d l h s).2.canon := by
  induction l generalizing h s with
  | nil => exact hs
  | cons w l ih =>
    unfold fibreList
    dsimp only
    split
    · rename_i e
      split at e
      · cases e
      · exact ih _ _ (fibreAdmit_canon hs e)
    · exact ih _ _ hs

@[simp] theorem fibreEnter_canon (a0 a1 s) (h : s.canon) : (fibreEnter a0 a1 s).canon := by
  unfold fibreEnter; simp (maxDischargeDepth := 40) [h]

@[simp] theorem passCycle_canon (a0 a1 s) (h : s.canon) : (passCycle a0 a1 s).canon := by
  unfold passCycle; simp +contextual (maxDischargeDepth := 40) [h]

@[simp] theorem fibreFrame_canon (a0 a1 s) (h : s.canon) : (fibreFrame a0 a1 s).canon := by
  unfold fibreFrame; simp (maxDischargeDepth := 40) [h]

@[simp] theorem frameReceive_canon (a0 a1 s) (h : s.canon) : (frameReceive a0 a1 s).canon := by
  unfold frameReceive
  try simp +contextual (maxDischargeDepth := 40) [h]
  repeat' (first | (split <;> try simp +contextual (maxDischargeDepth := 40) [*]) | (refine foldl_canon _ _ _ (fun _ _ _ => ?_) ?_ <;> try simp +contextual (maxDischargeDepth := 40) [*]) | (refine orRefuse_canon _ _ _ _ _ _ ?_ (fun _ _ _ => ?_) <;> try simp +contextual (maxDischargeDepth := 40) [*]) | (intro _ <;> try simp +contextual (maxDischargeDepth := 40) [*]))

@[simp] theorem nakStep_canon (a0 s) (h : s.canon) : (nakStep a0 s).canon := by
  unfold nakStep
  try simp +contextual (maxDischargeDepth := 40) [h]
  repeat' (first | (split <;> try simp +contextual (maxDischargeDepth := 40) [*]) | (refine foldl_canon _ _ _ (fun _ _ _ => ?_) ?_ <;> try simp +contextual (maxDischargeDepth := 40) [*]) | (refine orRefuse_canon _ _ _ _ _ _ ?_ (fun _ _ _ => ?_) <;> try simp +contextual (maxDischargeDepth := 40) [*]))

@[simp] theorem baseParity_canon (a0 a1 a2 s) (h : s.canon) : (baseParity a0 a1 a2 s).canon := by
  unfold baseParity; simp [h]

@[simp] theorem grantStep_canon (a0 a1 a2 s) (h : s.canon) : (grantStep a0 a1 a2 s).canon := by
  unfold grantStep
  try simp +contextual (maxDischargeDepth := 40) [h]
  repeat' (first | (split <;> try simp +contextual (maxDischargeDepth := 40) [*]) | (refine foldl_canon _ _ _ (fun _ _ _ => ?_) ?_ <;> try simp +contextual (maxDischargeDepth := 40) [*]) | (refine orRefuse_canon _ _ _ _ _ _ ?_ (fun _ _ _ => ?_) <;> try simp +contextual (maxDischargeDepth := 40) [*]))

@[simp] theorem retargetStep_canon (a0 a1 s) (h : s.canon) : (retargetStep a0 a1 s).canon := by
  unfold retargetStep
  try simp +contextual (maxDischargeDepth := 40) [h]
  repeat' (first | (split <;> try simp +contextual (maxDischargeDepth := 40) [*]) | (refine foldl_canon _ _ _ (fun _ _ _ => ?_) ?_ <;> try simp +contextual (maxDischargeDepth := 40) [*]) | (refine orRefuse_canon _ _ _ _ _ _ ?_ (fun _ _ _ => ?_) <;> try simp +contextual (maxDischargeDepth := 40) [*]))

@[simp] theorem portEnter_canon (a0 a1 a2 s) (h : s.canon) : (portEnter a0 a1 a2 s).canon := by
  exact h

@[simp] theorem ackReceive_canon (a0 a1 a2 s) (h : s.canon) : (ackReceive a0 a1 a2 s).canon := by
  exact h

@[simp] theorem noticeAcked_canon (a0 a1 s) (h : s.canon) : (noticeAcked a0 a1 s).canon := by
  unfold noticeAcked
  try simp +contextual (maxDischargeDepth := 40) [h]
  repeat' (first | (split <;> try simp +contextual (maxDischargeDepth := 40) [*]) | (refine foldl_canon _ _ _ (fun _ _ _ => ?_) ?_ <;> try simp +contextual (maxDischargeDepth := 40) [*]) | (refine orRefuse_canon _ _ _ _ _ _ ?_ (fun _ _ _ => ?_) <;> try simp +contextual (maxDischargeDepth := 40) [*]) | (intro _ <;> try simp +contextual (maxDischargeDepth := 40) [*]))

@[simp] theorem wharfTakes_canon (a0 s) (h : s.canon) : (wharfTakes a0 s).canon := by
  unfold wharfTakes; simp (maxDischargeDepth := 40) [h]

@[simp] theorem berthTakes_canon (a0 s) (h : s.canon) : (berthTakes a0 s).canon := by
  unfold berthTakes; simp [h]

@[simp] theorem deliverBase_canon (a0 a1 s) (h : s.canon) : (deliverBase a0 a1 s).canon := by
  unfold deliverBase; simp (maxDischargeDepth := 40) [h]

@[simp] theorem drainQueue_canon (l v n u s) (h : s.canon) : (drainQueue l v n u s).canon := by
  induction n generalizing u s with
  | zero => exact h
  | succ n ih =>
    unfold drainQueue
    split
    · exact h
    · dsimp only
      split
      · refine ih _ _ ?_; simp (maxDischargeDepth := 40) [h]
      · exact h

@[simp] theorem creditStep_canon (a0 a1 a2 s) (h : s.canon) : (creditStep a0 a1 a2 s).canon := by
  unfold creditStep; simp (maxDischargeDepth := 40) [h]

@[simp] theorem startAct_canon (a0 s) (h : s.canon) : (startAct a0 s).canon := by
  unfold startAct
  try simp +contextual (maxDischargeDepth := 40) [h]
  repeat' (first | (split <;> try simp +contextual (maxDischargeDepth := 40) [*]) | (refine foldl_canon _ _ _ (fun _ _ _ => ?_) ?_ <;> try simp +contextual (maxDischargeDepth := 40) [*]) | (refine orRefuse_canon _ _ _ _ _ _ ?_ (fun _ _ _ => ?_) <;> try simp +contextual (maxDischargeDepth := 40) [*]))

@[simp] theorem holdLink_canon (a0 s) (h : s.canon) : (holdLink a0 s).canon := by
  exact h

@[simp] theorem takeBackAll_canon (a0 s) (h : s.canon) : (takeBackAll a0 s).canon := by
  unfold takeBackAll; simp +contextual (maxDischargeDepth := 40) [h]

@[simp] theorem reallot_canon (a0 a1 s) (h : s.canon) : (reallot a0 a1 s).canon := by
  unfold reallot; simp +contextual (maxDischargeDepth := 40) [h]

@[simp] theorem windowStart_canon (s) (h : s.canon) : (windowStart s).canon := by
  unfold windowStart; simp +contextual (maxDischargeDepth := 40) [h]

@[simp] theorem resume_canon (a0 a1 s) (h : s.canon) : (resume a0 a1 s).canon := by
  unfold resume; simp (maxDischargeDepth := 40) [h]

@[simp] theorem lockPorts_canon (a0 a1 a2 s) (h : s.canon) : (lockPorts a0 a1 a2 s).canon := by
  unfold lockPorts; simp (maxDischargeDepth := 40) [h]

@[simp] theorem ringsLocked_canon (a0 s) (h : s.canon) : (ringsLocked a0 s).canon := by
  unfold ringsLocked; dsimp only; repeat' split
  all_goals simp [h]

@[simp] theorem portUnset_canon (a0 s a2) (h : s.canon) : (portUnset a0 s a2).canon := by
  unfold portUnset; simp [h]

@[simp] theorem linkDeadline_canon (a0 s) (h : s.canon) : (linkDeadline a0 s).canon := by
  unfold linkDeadline; simp +contextual (maxDischargeDepth := 40) [h]

@[simp] theorem windowDeadline_canon (s) (h : s.canon) : (windowDeadline s).canon := by
  unfold windowDeadline; simp +contextual (maxDischargeDepth := 40) [h]

@[simp] theorem resync_canon (a0 a1 s) (h : s.canon) : (resync a0 a1 s).canon := by
  exact h

@[simp] theorem retrained_canon (a0 s) (h : s.canon) : (retrained a0 s).canon := by
  unfold retrained; simp +contextual (maxDischargeDepth := 40) [h]

@[simp] theorem endAct_canon (a0 s) (h : s.canon) : (endAct a0 s).canon := by
  unfold endAct
  try simp +contextual (maxDischargeDepth := 40) [h]
  repeat' (first | (split <;> try simp +contextual (maxDischargeDepth := 40) [*]) | (refine foldl_canon _ _ _ (fun _ _ _ => ?_) ?_ <;> try simp +contextual (maxDischargeDepth := 40) [*]) | (refine orRefuse_canon _ _ _ _ _ _ ?_ (fun _ _ _ => ?_) <;> try simp +contextual (maxDischargeDepth := 40) [*]))

@[simp] theorem windowEnd_canon (s) (h : s.canon) : (windowEnd s).canon := by
  unfold windowEnd; simp +contextual (maxDischargeDepth := 40) [h]

@[simp] theorem basinPut_canon (a0 a1 s) (h : s.canon) : (basinPut a0 a1 s).canon := by
  unfold basinPut; simp [h]

@[simp] theorem unqueueKept_canon (a0 a1 s) (h : s.canon) : (unqueueKept a0 a1 s).canon := by
  unfold unqueueKept
  try simp +contextual (maxDischargeDepth := 40) [h]
  repeat' (first | (split <;> try simp +contextual (maxDischargeDepth := 40) [*]) | (refine foldl_canon _ _ _ (fun _ _ _ => ?_) ?_ <;> try simp +contextual (maxDischargeDepth := 40) [*]) | (refine orRefuse_canon _ _ _ _ _ _ ?_ (fun _ _ _ => ?_) <;> try simp +contextual (maxDischargeDepth := 40) [*]))

@[simp] theorem unqueue_canon (a0 a1 s) (h : s.canon) : (unqueue a0 a1 s).canon := by
  unfold unqueue
  try simp +contextual (maxDischargeDepth := 40) [h]
  repeat' (first | (split <;> try simp +contextual (maxDischargeDepth := 40) [*]) | (refine foldl_canon _ _ _ (fun _ _ _ => ?_) ?_ <;> try simp +contextual (maxDischargeDepth := 40) [*]) | (refine orRefuse_canon _ _ _ _ _ _ ?_ (fun _ _ _ => ?_) <;> try simp +contextual (maxDischargeDepth := 40) [*]))

@[simp] theorem basinStep_canon (a0 a1 s) (h : s.canon) : (basinStep a0 a1 s).canon := by
  unfold basinStep
  try simp +contextual (maxDischargeDepth := 40) [h]
  repeat' (first | (split <;> try simp +contextual (maxDischargeDepth := 40) [*]) | (refine foldl_canon _ _ _ (fun _ _ _ => ?_) ?_ <;> try simp +contextual (maxDischargeDepth := 40) [*]) | (refine orRefuse_canon _ _ _ _ _ _ ?_ (fun _ _ _ => ?_) <;> try simp +contextual (maxDischargeDepth := 40) [*]) | (intro _ <;> try simp +contextual (maxDischargeDepth := 40) [*]))

@[simp] theorem finishEntry_canon (a0 a1 s) (h : s.canon) : (finishEntry a0 a1 s).canon := by
  unfold finishEntry; simp [h]

@[simp] theorem basinDone_canon (a0 a1 a2 s) (h : s.canon) : (basinDone a0 a1 a2 s).canon := by
  unfold basinDone
  try simp +contextual (maxDischargeDepth := 40) [h]
  repeat' (first | (split <;> try simp +contextual (maxDischargeDepth := 40) [*]) | (refine foldl_canon _ _ _ (fun _ _ _ => ?_) ?_ <;> try simp +contextual (maxDischargeDepth := 40) [*]) | (refine orRefuse_canon _ _ _ _ _ _ ?_ (fun _ _ _ => ?_) <;> try simp +contextual (maxDischargeDepth := 40) [*]) | (intro _ <;> try simp +contextual (maxDischargeDepth := 40) [*]))

@[simp] theorem collDone_canon (c s) (h : s.canon) : (collDone c s).canon := by
  unfold collDone
  split
  · exact collDoneGang_canon _ _ _ _ h
  · exact tableDone_canon _ _ _ h
  · exact basinDone_canon _ _ _ _ h

@[simp] theorem dropBase_canon (s) (h : s.canon) : (dropBase s).canon := by
  exact h

@[simp] theorem resetBase_canon (a0 s) (h : s.canon) : (resetBase a0 s).canon := by
  unfold resetBase; simp (maxDischargeDepth := 40) [h]

@[simp] theorem baseReset_canon (a0 s) (h : s.canon) : (baseReset a0 s).canon := by
  unfold baseReset; simp (maxDischargeDepth := 40) [h]

@[simp] theorem resetWaiting_canon (s) (h : s.canon) : (resetWaiting s).canon := by
  unfold resetWaiting
  try simp +contextual (maxDischargeDepth := 40) [h]
  repeat' (first | (split <;> try simp +contextual (maxDischargeDepth := 40) [*]) | (refine foldl_canon _ _ _ (fun _ _ _ => ?_) ?_ <;> try simp +contextual (maxDischargeDepth := 40) [*]) | (refine orRefuse_canon _ _ _ _ _ _ ?_ (fun _ _ _ => ?_) <;> try simp +contextual (maxDischargeDepth := 40) [*]) | (intro _ <;> try simp +contextual (maxDischargeDepth := 40) [*]))

@[simp] theorem mendTables_canon (s) (h : s.canon) : (mendTables s).canon := by
  unfold mendTables; simp +contextual (maxDischargeDepth := 40) [h]

@[simp] theorem baseRelease_canon (s) (h : s.canon) : (baseRelease s).canon := by
  unfold baseRelease
  try simp +contextual (maxDischargeDepth := 40) [h]
  repeat' (first | (split <;> try simp +contextual (maxDischargeDepth := 40) [*]) | (refine foldl_canon _ _ _ (fun _ _ _ => ?_) ?_ <;> try simp +contextual (maxDischargeDepth := 40) [*]) | (refine orRefuse_canon _ _ _ _ _ _ ?_ (fun _ _ _ => ?_) <;> try simp +contextual (maxDischargeDepth := 40) [*]))

@[simp] theorem installPlan_canon (s) (h : s.canon) : (installPlan s).canon := by
  unfold installPlan
  exact foldl_canon _ _ _ (fun s b h => foldl_canon _ _ _ (fun s r h => by simp (maxDischargeDepth := 40) [h]) h) h

@[simp] theorem allotAll_canon (s) (h : s.canon) : (allotAll s).canon := by
  unfold allotAll
  exact foldl_canon _ _ _ (fun s b h => foldl_canon _ _ _ (fun s r h => by simp (maxDischargeDepth := 40) [h]) h) h

@[simp] theorem fibreCredits_canon (s) (h : s.canon) : (fibreCredits s).canon := by
  unfold fibreCredits
  generalize List.range 6 = l
  generalize List.range 8 = k
  exact foldl_canon _ _ _ (fun s d h => foldl_canon _ _ _ (fun s r h => updLink_canon _ _ _ h) h) h

@[simp] theorem restoreCircuit_canon (a0 s) (h : s.canon) : (restoreCircuit a0 s).canon := by
  unfold restoreCircuit; simp (maxDischargeDepth := 40) [h]

@[simp] theorem planReloaded_canon (a0 s) (h : s.canon) : (planReloaded a0 s).canon := by
  unfold planReloaded
  try simp +contextual (maxDischargeDepth := 40) [h]
  repeat' (first | (split <;> try simp +contextual (maxDischargeDepth := 40) [*]) | (refine foldl_canon _ _ _ (fun _ _ _ => ?_) ?_ <;> try simp +contextual (maxDischargeDepth := 40) [*]) | (refine orRefuse_canon _ _ _ _ _ _ ?_ (fun _ _ _ => ?_) <;> try simp +contextual (maxDischargeDepth := 40) [*]) | (intro _ <;> try simp +contextual (maxDischargeDepth := 40) [*]))

@[simp] theorem groupDown_canon (a0 s) (h : s.canon) : (groupDown a0 s).canon := by
  unfold groupDown; simp (maxDischargeDepth := 40) [h]

@[simp] theorem enqueue_canon (a0 a1 s) (h : s.canon) : (enqueue a0 a1 s).canon := by
  exact h

@[simp] theorem relieve_canon (a0 a1 s) (h : s.canon) : (relieve a0 a1 s).canon := by
  exact h

@[simp] theorem dropLane_canon (a0 a1 s) (h : s.canon) : (dropLane a0 a1 s).canon := by
  exact h

@[simp] theorem relieveFail_canon (a0 a1 s) (h : s.canon) : (relieveFail a0 a1 s).canon := by
  unfold relieveFail; simp (maxDischargeDepth := 40) [h]

@[simp] theorem wrFail_canon (a0 s) (h : s.canon) : (wrFail a0 s).canon := by
  unfold wrFail
  try simp +contextual (maxDischargeDepth := 40) [h]
  repeat' (first | (split <;> try simp +contextual (maxDischargeDepth := 40) [*]) | (refine foldl_canon _ _ _ (fun _ _ _ => ?_) ?_ <;> try simp +contextual (maxDischargeDepth := 40) [*]) | (refine orRefuse_canon _ _ _ _ _ _ ?_ (fun _ _ _ => ?_) <;> try simp +contextual (maxDischargeDepth := 40) [*]))

@[simp] theorem laserFail_canon (a0 s) (h : s.canon) : (laserFail a0 s).canon := by
  unfold laserFail; simp (maxDischargeDepth := 40) [h]

@[simp] theorem laserMigrate_canon (a0 s) (h : s.canon) : (laserMigrate a0 s).canon := by
  unfold laserMigrate; simp (maxDischargeDepth := 40) [h]

@[simp] theorem failTrip_canon (a0 s) (h : s.canon) : (failTrip a0 s).canon := by
  unfold failTrip; simp (maxDischargeDepth := 40) [h]

@[simp] theorem noSpare_canon (a0 a1 s) (h : s.canon) : (noSpare a0 a1 s).canon := by
  unfold noSpare; simp (maxDischargeDepth := 40) [h]

@[simp] theorem setPhase_canon (a0 a1 s) (h : s.canon) : (setPhase a0 a1 s).canon := by
  exact h

@[simp] theorem handStart_canon (a0 s) (h : s.canon) : (handStart a0 s).canon := by
  unfold handStart
  try simp +contextual (maxDischargeDepth := 40) [h]
  repeat' (first | (split <;> try simp +contextual (maxDischargeDepth := 40) [*]) | (refine foldl_canon _ _ _ (fun _ _ _ => ?_) ?_ <;> try simp +contextual (maxDischargeDepth := 40) [*]) | (refine orRefuse_canon _ _ _ _ _ _ ?_ (fun _ _ _ => ?_) <;> try simp +contextual (maxDischargeDepth := 40) [*]))

@[simp] theorem handDrain_canon (a0 s) (h : s.canon) : (handDrain a0 s).canon := by
  unfold handDrain; simp [h]

@[simp] theorem spareReject_canon (a0 s) (h : s.canon) : (spareReject a0 s).canon := by
  unfold spareReject
  try simp +contextual (maxDischargeDepth := 40) [h]
  repeat' (first | (split <;> try simp +contextual (maxDischargeDepth := 40) [*]) | (refine foldl_canon _ _ _ (fun _ _ _ => ?_) ?_ <;> try simp +contextual (maxDischargeDepth := 40) [*]) | (refine orRefuse_canon _ _ _ _ _ _ ?_ (fun _ _ _ => ?_) <;> try simp +contextual (maxDischargeDepth := 40) [*]))

@[simp] theorem spareTuned_canon (a0 s) (h : s.canon) : (spareTuned a0 s).canon := by
  unfold spareTuned
  try simp +contextual (maxDischargeDepth := 40) [h]
  repeat' (first | (split <;> try simp +contextual (maxDischargeDepth := 40) [*]) | (refine foldl_canon _ _ _ (fun _ _ _ => ?_) ?_ <;> try simp +contextual (maxDischargeDepth := 40) [*]) | (refine orRefuse_canon _ _ _ _ _ _ ?_ (fun _ _ _ => ?_) <;> try simp +contextual (maxDischargeDepth := 40) [*]) | (intro _ <;> try simp +contextual (maxDischargeDepth := 40) [*]))

@[simp] theorem spareTunedStep_canon (a0 a1 s) (h : s.canon) : (spareTunedStep a0 a1 s).canon := by
  unfold spareTunedStep; simp (maxDischargeDepth := 40) [h]

@[simp] theorem spareVerifiedStep_canon (a0 a1 s) (h : s.canon) : (spareVerifiedStep a0 a1 s).canon := by
  unfold spareVerifiedStep; simp (maxDischargeDepth := 40) [h]

@[simp] theorem handSwitch_canon (a0 s) (h : s.canon) : (handSwitch a0 s).canon := by
  unfold handSwitch
  try simp +contextual (maxDischargeDepth := 40) [h]
  repeat' (first | (split <;> try simp +contextual (maxDischargeDepth := 40) [*]) | (refine foldl_canon _ _ _ (fun _ _ _ => ?_) ?_ <;> try simp +contextual (maxDischargeDepth := 40) [*]) | (refine orRefuse_canon _ _ _ _ _ _ ?_ (fun _ _ _ => ?_) <;> try simp +contextual (maxDischargeDepth := 40) [*]))

@[simp] theorem handCheck_canon (a0 a1 s) (h : s.canon) : (handCheck a0 a1 s).canon := by
  unfold handCheck; simp (maxDischargeDepth := 40) [h]

@[simp] theorem handStop_canon (a0 s) (h : s.canon) : (handStop a0 s).canon := by
  unfold handStop
  try simp +contextual (maxDischargeDepth := 40) [h]
  repeat' (first | (split <;> try simp +contextual (maxDischargeDepth := 40) [*]) | (refine foldl_canon _ _ _ (fun _ _ _ => ?_) ?_ <;> try simp +contextual (maxDischargeDepth := 40) [*]) | (refine orRefuse_canon _ _ _ _ _ _ ?_ (fun _ _ _ => ?_) <;> try simp +contextual (maxDischargeDepth := 40) [*]))

@[simp] theorem relieveLink_canon (a0 a1 s) (h : s.canon) : (relieveLink a0 a1 s).canon := by
  exact h

@[simp] theorem returnLane_canon (a0 a1 s) (h : s.canon) : (returnLane a0 a1 s).canon := by
  exact h

@[simp] theorem wrongLock_canon (a0 s) (h : s.canon) : (wrongLock a0 s).canon := by
  unfold wrongLock; simp (maxDischargeDepth := 40) [h]

@[simp] theorem relockStep_canon (a0 a1 s) (h : s.canon) : (relockStep a0 a1 s).canon := by
  unfold relockStep; simp (maxDischargeDepth := 40) [h]

@[simp] theorem suspectCause_canon (a0 s) (h : s.canon) : (suspectCause a0 s).canon := by
  unfold suspectCause; simp (maxDischargeDepth := 40) [h]

@[simp] theorem laserCalibrated_canon (a0 a1 a2 s) (h : s.canon) : (laserCalibrated a0 a1 a2 s).canon := by
  exact h

@[simp] theorem calibGap_canon (c i s) (hs : s.canon) : (calibGap c i s).1.canon := by
  have h : (ringGap i s).1.canon := by
    unfold ringGap
    dsimp only
    repeat' (split)
    all_goals simp (maxDischargeDepth := 40) [hs]
  unfold calibGap
  repeat' (split)
  all_goals simp (maxDischargeDepth := 40) [h, hs]

@[simp] theorem calibRun_canon (c i v a s) (h : s.canon) : (calibRun c i v a s).canon := by
  unfold calibRun
  dsimp only
  repeat' (split)
  all_goals simp (maxDischargeDepth := 40) [h]

@[simp] theorem calibStep_canon (a0 a1 a2 a3 s) (h : s.canon) : (calibStep a0 a1 a2 a3 s).canon := by
  unfold calibStep; simp (maxDischargeDepth := 40) [h]

@[simp] theorem governStep_canon (a0 a1 s) (h : s.canon) : (governStep a0 a1 s).canon := by
  unfold governStep; simp (maxDischargeDepth := 40) [h]

@[simp] theorem noticeStep_canon (a0 s) (h : s.canon) : (noticeStep a0 s).canon := by
  unfold noticeStep
  try simp +contextual (maxDischargeDepth := 40) [h]
  repeat' (first | (split <;> try simp +contextual (maxDischargeDepth := 40) [*]) | (refine foldl_canon _ _ _ (fun _ _ _ => ?_) ?_ <;> try simp +contextual (maxDischargeDepth := 40) [*]) | (refine orRefuse_canon _ _ _ _ _ _ ?_ (fun _ _ _ => ?_) <;> try simp +contextual (maxDischargeDepth := 40) [*]))

theorem takeControl_canon (f s c s') (h : takeControl f s = some (c, s')) (hs : s.canon) : s'.canon := by
  unfold takeControl at h
  rw [Option.map_eq_some_iff] at h
  obtain ⟨_, -, e⟩ := h
  cases e; exact hs

theorem takeNotice_canon (n s s') (h : takeNotice n s = some s') (hs : s.canon) : s'.canon := by
  unfold takeNotice at h
  rw [Option.map_eq_some_iff] at h
  obtain ⟨⟨c, t⟩, h, e⟩ := h
  rw [← e]
  exact sendControl_canon _ _ _ _ (takeControl_canon _ _ _ _ h hs)

@[simp] theorem closeRequest_canon (a0 a1 s) (h : s.canon) : (closeRequest a0 a1 s).canon := by
  unfold closeRequest
  split
  · exact h
  · next e => have := takeNotice_canon _ _ _ e h; split <;> simp [this]

@[simp] theorem namedCut_canon (a0 a1 s) (h : s.canon) : (namedCut a0 a1 s).canon := by
  unfold namedCut; simp (maxDischargeDepth := 40) [h]

@[simp] theorem joinStep_canon (s) (h : s.canon) : (joinStep s).canon := by
  unfold joinStep; simp (maxDischargeDepth := 40) [h]

@[simp] theorem joinReceive_canon (a0 a1 s) (h : s.canon) : (joinReceive a0 a1 s).canon := by
  unfold joinReceive
  split
  · exact h
  · next e => have := takeNotice_canon _ _ _ e h; split <;> simp [this]

@[simp] theorem leaveStep_canon (s) (h : s.canon) : (leaveStep s).canon := by
  unfold leaveStep; simp (maxDischargeDepth := 40) [h]

@[simp] theorem addFlightWindow_canon (a0 a1 a2 a3 s) (h : s.canon) : (addFlightWindow a0 a1 a2 a3 s).canon := by
  unfold addFlightWindow; simp +contextual (maxDischargeDepth := 40) [h]

@[simp] theorem confirmPassages_canon (a0 s) (h : s.canon) : (confirmPassages a0 s).canon := by
  unfold confirmPassages; simp +contextual (maxDischargeDepth := 40) [h]

@[simp] theorem takeWindow_canon (a0 a1 s) (h : s.canon) : (takeWindow a0 a1 s).canon := by
  unfold takeWindow; simp (maxDischargeDepth := 40) [h]

@[simp] theorem takeFlight_canon (a0 a1 s) (h : s.canon) : (takeFlight a0 a1 s).canon := by
  unfold takeFlight; simp +contextual (maxDischargeDepth := 40) [h]

@[simp] theorem placeFlight_canon (a0 a1 s) (h : s.canon) : (placeFlight a0 a1 s).canon := by
  unfold placeFlight; simp [h]

@[simp] theorem flightStep_canon (a0 a1 s) (h : s.canon) : (flightStep a0 a1 s).canon := by
  unfold flightStep; simp [h]

@[simp] theorem takeLinkState_canon (a0 a1 a2 s) (h : s.canon) : (takeLinkState a0 a1 a2 s).canon := by
  unfold takeLinkState; simp (maxDischargeDepth := 40) [h]

@[simp] theorem noticeReceive_canon (a0 a1 a2 s) (h : s.canon) : (noticeReceive a0 a1 a2 s).canon := by
  unfold noticeReceive
  split
  · exact h
  · next e =>
    have := takeControl_canon _ _ _ _ e h
    split
    · exact this
    · cases a2 <;> simp [this]

@[simp] theorem masterLost_canon (s) (h : s.canon) : (masterLost s).canon := by
  unfold masterLost; simp (maxDischargeDepth := 40) [h]

@[simp] theorem releaseHeldWrite_canon (a0 s) (h : s.canon) : (releaseHeldWrite a0 s).canon := by
  unfold releaseHeldWrite; simp [h]

@[simp] theorem commitNotice_canon (a0 a1 a2 s) (h : s.canon) : (commitNotice a0 a1 a2 s).canon := by
  unfold commitNotice
  split
  · exact h
  · next e =>
    have := takeNotice_canon _ _ _ e h
    exact foldl_canon _ _ _ (fun _ _ _ => by simp [*]) this

@[simp] theorem rollbackNotice_canon (a0 a1 a2 s) (h : s.canon) : (rollbackNotice a0 a1 a2 s).canon := by
  unfold rollbackNotice
  split
  · exact h
  · next e =>
    have := takeNotice_canon _ _ _ e h
    exact this

@[simp] theorem holdStep_canon (a0 a1 s) (h : s.canon) : (holdStep a0 a1 s).canon := by
  unfold holdStep
  try simp +contextual (maxDischargeDepth := 40) [h]
  repeat' (first | (split <;> try simp +contextual (maxDischargeDepth := 40) [*]) | (refine foldl_canon _ _ _ (fun _ _ _ => ?_) ?_ <;> try simp +contextual (maxDischargeDepth := 40) [*]) | (refine orRefuse_canon _ _ _ _ _ _ ?_ (fun _ _ _ => ?_) <;> try simp +contextual (maxDischargeDepth := 40) [*]))

@[simp] theorem writeAck_canon (a0 a1 a2 s) (h : s.canon) : (writeAck a0 a1 a2 s).canon := by
  unfold writeAck; simp [h]

@[simp] theorem unackedStep_canon (s) (h : s.canon) : (unackedStep s).canon := by
  unfold unackedStep
  try simp +contextual (maxDischargeDepth := 40) [h]
  repeat' (first | (split <;> try simp +contextual (maxDischargeDepth := 40) [*]) | (refine foldl_canon _ _ _ (fun _ _ _ => ?_) ?_ <;> try simp +contextual (maxDischargeDepth := 40) [*]) | (refine orRefuse_canon _ _ _ _ _ _ ?_ (fun _ _ _ => ?_) <;> try simp +contextual (maxDischargeDepth := 40) [*]))

@[simp] theorem readResend_canon (a0 s) (h : s.canon) : (readResend a0 s).canon := by
  unfold readResend
  try simp +contextual (maxDischargeDepth := 40) [h]
  repeat' (first | (split <;> try simp +contextual (maxDischargeDepth := 40) [*]) | (refine foldl_canon _ _ _ (fun _ _ _ => ?_) ?_ <;> try simp +contextual (maxDischargeDepth := 40) [*]) | (refine orRefuse_canon _ _ _ _ _ _ ?_ (fun _ _ _ => ?_) <;> try simp +contextual (maxDischargeDepth := 40) [*]) | (intro _ <;> try simp +contextual (maxDischargeDepth := 40) [*]))

@[simp] theorem routeError_canon (a0 a1 s) (h : s.canon) : (routeError a0 a1 s).canon := by
  unfold routeError; simp [h]

@[simp] theorem deliverPacket_canon (a0 a1 s) (h : s.canon) : (deliverPacket a0 a1 s).canon := by
  unfold deliverPacket
  try simp +contextual (maxDischargeDepth := 40) [h]
  repeat' (first | (split <;> try simp +contextual (maxDischargeDepth := 40) [*]) | (refine foldl_canon _ _ _ (fun _ _ _ => ?_) ?_ <;> try simp +contextual (maxDischargeDepth := 40) [*]) | (refine orRefuse_canon _ _ _ _ _ _ ?_ (fun _ _ _ => ?_) <;> try simp +contextual (maxDischargeDepth := 40) [*]))

@[simp] theorem fibreTake_canon (a0 a1 s) (h : s.canon) : (fibreTake a0 a1 s).canon := by
  exact h

@[simp] theorem fibreStep_canon (a0 a1 a2 s) (h : s.canon) : (fibreStep a0 a1 a2 s).canon := by
  unfold fibreStep; simp (maxDischargeDepth := 40) [h]

@[simp] theorem trainStep_canon (a0 a1 a2 a3 a4 s) (h : s.canon) : (trainStep a0 a1 a2 a3 a4 s).canon := by
  unfold trainStep; simp (maxDischargeDepth := 40) [h]

@[simp] theorem remoteRequest_canon (a0 a1 s) (h : s.canon) : (remoteRequest a0 a1 s).canon := by
  unfold remoteRequest
  try simp +contextual (maxDischargeDepth := 40) [h]
  repeat' (first | (split <;> try simp +contextual (maxDischargeDepth := 40) [*]) | (refine foldl_canon _ _ _ (fun _ _ _ => ?_) ?_ <;> try simp +contextual (maxDischargeDepth := 40) [*]) | (refine orRefuse_canon _ _ _ _ _ _ ?_ (fun _ _ _ => ?_) <;> try simp +contextual (maxDischargeDepth := 40) [*]))

end Sys2Proof.Machine
end

