-- ==== Sys2Proof/Laws/CanonPorts.lean ====
section
/-!
SUPPORT. Every function of debug, Ethernet and Ecden on states keeps device memory, scratch and what tasks keep in canonical form. None is left out.
-/

-- One proof after another: in parallel each asks for a thread and its stack.
set_option Elab.async false
set_option linter.all false

namespace Sys2Proof.Machine

open Sys2Proof.Safety

@[simp] theorem releaseTrigger_canon (s) (h : s.canon) : (releaseTrigger s).canon := by
  unfold releaseTrigger
  try simp +contextual (maxDischargeDepth := 40) [h]
  repeat' (first | (split <;> try simp +contextual (maxDischargeDepth := 40) [*]) | (refine foldl_canon _ _ _ (fun _ _ _ => ?_) ?_ <;> try simp +contextual (maxDischargeDepth := 40) [*]) | (refine orRefuse_canon _ _ _ _ _ _ ?_ (fun _ _ _ => ?_) <;> try simp +contextual (maxDischargeDepth := 40) [*]))

@[simp] theorem runAgain_canon (s) (h : s.canon) : (runAgain s).canon := by
  unfold runAgain
  try simp +contextual (maxDischargeDepth := 40) [h]
  repeat' (first | (split <;> try simp +contextual (maxDischargeDepth := 40) [*]) | (refine foldl_canon _ _ _ (fun _ _ _ => ?_) ?_ <;> try simp +contextual (maxDischargeDepth := 40) [*]) | (refine orRefuse_canon _ _ _ _ _ _ ?_ (fun _ _ _ => ?_) <;> try simp +contextual (maxDischargeDepth := 40) [*]))

@[simp] theorem dropHalts_canon (s) (h : s.canon) : (dropHalts s).canon := by
  unfold dropHalts; simp +contextual (maxDischargeDepth := 40) [h]

@[simp] theorem setLevel_canon (a0 a1 s) (h : s.canon) : (setLevel a0 a1 s).canon := by
  unfold setLevel
  try simp +contextual (maxDischargeDepth := 40) [h]
  repeat' (first | (split <;> try simp +contextual (maxDischargeDepth := 40) [*]) | (refine foldl_canon _ _ _ (fun _ _ _ => ?_) ?_ <;> try simp +contextual (maxDischargeDepth := 40) [*]) | (refine orRefuse_canon _ _ _ _ _ _ ?_ (fun _ _ _ => ?_) <;> try simp +contextual (maxDischargeDepth := 40) [*]))

@[simp] theorem lowerDebug_canon (a0 a1 a2 s) (h : s.canon) : (lowerDebug a0 a1 a2 s).canon := by
  unfold lowerDebug; simp (maxDischargeDepth := 40) [h]

@[simp] theorem lowerAllDebug_canon (a0 a1 s) (h : s.canon) : (lowerAllDebug a0 a1 s).canon := by
  unfold lowerAllDebug; simp +contextual (maxDischargeDepth := 40) [h]

@[simp] theorem invalidStep_canon (a0 a1 s) (h : s.canon) : (invalidStep a0 a1 s).canon := by
  unfold invalidStep; simp [h]

@[simp] theorem pauseCheck_canon (a0 s) (h : s.canon) : (pauseCheck a0 s).canon := by
  unfold pauseCheck; simp (maxDischargeDepth := 40) [h]

@[simp] theorem bufferTake_canon (a0 a1 s) (h : s.canon) : (bufferTake a0 a1 s).canon := by
  unfold bufferTake; simp [h]

@[simp] theorem bufferGive_canon (a0 a1 s) (h : s.canon) : (bufferGive a0 a1 s).canon := by
  unfold bufferGive; simp [h]

@[simp] theorem bufferFullStep_canon (a0 a1 s) (h : s.canon) : (bufferFullStep a0 a1 s).canon := by
  unfold bufferFullStep; simp (maxDischargeDepth := 40) [h]

@[simp] theorem pfcStep_canon (a0 a1 a2 s) (h : s.canon) : (pfcStep a0 a1 a2 s).canon := by
  unfold pfcStep; simp (maxDischargeDepth := 40) [h]

@[simp] theorem arpStep_canon (a0 a1 a2 a3 s) (h : s.canon) : (arpStep a0 a1 a2 a3 s).canon := by
  unfold arpStep; simp [h]

@[simp] theorem neighborStep_canon (a0 a1 a2 a3 s) (h : s.canon) : (neighborStep a0 a1 a2 a3 s).canon := by
  unfold neighborStep; simp [h]

@[simp] theorem portLinkStep_canon (a0 a1 s) (h : s.canon) : (portLinkStep a0 a1 s).canon := by
  unfold portLinkStep; simp (maxDischargeDepth := 40) [h]

@[simp] theorem strandedNotice_canon (a0 s) (h : s.canon) : (strandedNotice a0 s).canon := by
  unfold strandedNotice; simp [h]

@[simp] theorem strandedAnswer_canon (a0 s) (h : s.canon) : (strandedAnswer a0 s).canon := by
  unfold strandedAnswer
  try simp +contextual (maxDischargeDepth := 40) [h]
  repeat' (first | (split <;> try simp +contextual (maxDischargeDepth := 40) [*]) | (refine foldl_canon _ _ _ (fun _ _ _ => ?_) ?_ <;> try simp +contextual (maxDischargeDepth := 40) [*]) | (refine orRefuse_canon _ _ _ _ _ _ ?_ (fun _ _ _ => ?_) <;> try simp +contextual (maxDischargeDepth := 40) [*]))

@[simp] theorem onFrame_canon (f k s) (hs : s.canon) (h : ∀ s, s.canon → (k s).canon) : (onFrame f k s).canon := by
  unfold onFrame
  split
  · exact hs
  · split <;> simp (maxDischargeDepth := 40) [h, hs]

@[simp] theorem dropSession_canon (a0 a1 a2 s) (h : s.canon) : (dropSession a0 a1 a2 s).canon := by
  unfold dropSession; simp +contextual (maxDischargeDepth := 40) [h]

@[simp] theorem freeSession_canon (a0 s) (h : s.canon) : (freeSession a0 s).canon := by
  unfold freeSession; simp [h]

@[simp] theorem strandSession_canon (a0 s) (h : s.canon) : (strandSession a0 s).canon := by
  unfold strandSession; simp (maxDischargeDepth := 40) [h]

@[simp] theorem bargeAcked_canon (a0 s) (h : s.canon) : (bargeAcked a0 s).canon := by
  unfold bargeAcked
  try simp +contextual (maxDischargeDepth := 40) [h]
  repeat' (first | (split <;> try simp +contextual (maxDischargeDepth := 40) [*]) | (refine foldl_canon _ _ _ (fun _ _ _ => ?_) ?_ <;> try simp +contextual (maxDischargeDepth := 40) [*]) | (refine orRefuse_canon _ _ _ _ _ _ ?_ (fun _ _ _ => ?_) <;> try simp +contextual (maxDischargeDepth := 40) [*]))

@[simp] theorem takeAck_canon (a0 a1 a2 a3 s) (h : s.canon) : (takeAck a0 a1 a2 a3 s).canon := by
  unfold takeAck; simp +contextual (maxDischargeDepth := 40) [h]

@[simp] theorem rebind_canon (a0 a1 s) (h : s.canon) : (rebind a0 a1 s).canon := by
  exact h

@[simp] theorem ackSoon_canon (a0 s) (h : s.canon) : (ackSoon a0 s).canon := by
  exact h

@[simp] theorem acceptSeq_canon (a0 a1 s) (h : s.canon) : (acceptSeq a0 a1 s).canon := by
  unfold acceptSeq; simp (maxDischargeDepth := 40) [h]

@[simp] theorem releaseHeldFrame_canon (a0 a1 s) (h : s.canon) : (releaseHeldFrame a0 a1 s).canon := by
  unfold releaseHeldFrame; simp [h]

theorem deliverData_canon {i x s t} (hs : s.canon) (h : deliverData i x s = some t) : t.canon := by
  unfold deliverData at h
  dsimp only at h
  repeat' (split at h)
  all_goals (first | cases h | skip)
  all_goals (simp (maxDischargeDepth := 40) [hs])

@[simp] theorem unblock_canon (a0 s) (h : s.canon) : (unblock a0 s).canon := by
  unfold unblock; simp (maxDischargeDepth := 40) [h]

@[simp] theorem deliverOne_canon (i s) (h : s.canon) : (deliverOne i s).2.canon := by
  unfold deliverOne
  split
  · exact h
  · split
    · split <;> simp (maxDischargeDepth := 40) [h]
    · split
      · split
        · rename_i e; simp (maxDischargeDepth := 40) [deliverData_canon h e]
        · simp (maxDischargeDepth := 40) [h]
      · simp (maxDischargeDepth := 40) [h]

@[simp] theorem resend_canon (a0 a1 s) (h : s.canon) : (resend a0 a1 s).canon := by
  unfold resend; simp [h]

theorem sendMailOne_canon (i s t) (h : sendMailOne i s = some t) (hs : s.canon) : t.canon := by
  unfold sendMailOne at h
  dsimp only at h
  repeat' (split at h)
  all_goals (first | cases h | skip)
  all_goals (simp (maxDischargeDepth := 40) [hs])

theorem sendDataOne_canon (i s t) (h : sendDataOne i s = some t) (hs : s.canon) : t.canon := by
  unfold sendDataOne at h
  dsimp only at h
  repeat' (split at h)
  all_goals (first | cases h | skip)
  all_goals (simp (maxDischargeDepth := 40) [hs])

theorem upTo_canon (f n s) (hs : s.canon) (h : ∀ s t, f s = some t → s.canon → t.canon) : (upTo f n s).2.canon := by
  induction n generalizing s with
  | zero => exact hs
  | succ n ih =>
    unfold upTo
    split
    · exact hs
    · rename_i e; exact ih _ (h _ _ e hs)

@[simp] theorem deliverUpTo_canon (i n s) (h : s.canon) : (deliverUpTo i n s).2.canon := by
  induction n generalizing s with
  | zero => exact h
  | succ n ih =>
    unfold deliverUpTo
    split <;> rename_i e <;> have hh := canon_of_snd e (deliverOne_canon i s h) <;> simp (maxDischargeDepth := 40) [ih, hh]

@[simp] theorem visit_canon (i s) (h : s.canon) : (visit i s).canon := by
  unfold visit
  dsimp only
  split
  · simp (maxDischargeDepth := 40) [h]
  · have a : (upTo (fun s => (firstDue s i).map fun t => resend i t s) 4 s).2.canon := by
      refine upTo_canon _ _ _ h fun s t h hs => ?_
      cases e : firstDue s i <;> rw [e] at h <;> cases h
      simp (maxDischargeDepth := 40) [hs]
    have b := fun n => upTo_canon (sendMailOne i) n _ a (sendMailOne_canon i)
    have c := fun n m => deliverUpTo_canon i m _ (b n)
    split
    · exact c _ _
    · exact upTo_canon _ _ _ (c _ _) (sendDataOne_canon i)

@[simp] theorem malformedStep_canon (a0 s) (h : s.canon) : (malformedStep a0 s).canon := by
  unfold malformedStep
  try simp +contextual (maxDischargeDepth := 40) [h]
  repeat' (first | (split <;> try simp +contextual (maxDischargeDepth := 40) [*]) | (refine foldl_canon _ _ _ (fun _ _ _ => ?_) ?_ <;> try simp +contextual (maxDischargeDepth := 40) [*]) | (refine orRefuse_canon _ _ _ _ _ _ ?_ (fun _ _ _ => ?_) <;> try simp +contextual (maxDischargeDepth := 40) [*]))

@[simp] theorem authFailStep_canon (a0 s) (h : s.canon) : (authFailStep a0 s).canon := by
  unfold authFailStep
  try simp +contextual (maxDischargeDepth := 40) [h]
  repeat' (first | (split <;> try simp +contextual (maxDischargeDepth := 40) [*]) | (refine foldl_canon _ _ _ (fun _ _ _ => ?_) ?_ <;> try simp +contextual (maxDischargeDepth := 40) [*]) | (refine orRefuse_canon _ _ _ _ _ _ ?_ (fun _ _ _ => ?_) <;> try simp +contextual (maxDischargeDepth := 40) [*]))

@[simp] theorem unknownStep_canon (a0 s) (h : s.canon) : (unknownStep a0 s).canon := by
  unfold unknownStep; simp (maxDischargeDepth := 40) [h]

@[simp] theorem sendOpenReply_canon (a0 a1 s) (h : s.canon) : (sendOpenReply a0 a1 s).canon := by
  unfold sendOpenReply; simp [h]

@[simp] theorem answerOpen_canon (a0 a1 s) (h : s.canon) : (answerOpen a0 a1 s).canon := by
  unfold answerOpen; simp [h]

@[simp] theorem openSession_canon (a0 a1 s) (h : s.canon) : (openSession a0 a1 s).canon := by
  unfold openSession; simp (maxDischargeDepth := 40) [h]

@[simp] theorem openStep_canon (a0 s) (h : s.canon) : (openStep a0 s).canon := by
  unfold openStep
  try simp +contextual (maxDischargeDepth := 40) [h]
  repeat' (first | (split <;> try simp +contextual (maxDischargeDepth := 40) [*]) | (refine foldl_canon _ _ _ (fun _ _ _ => ?_) ?_ <;> try simp +contextual (maxDischargeDepth := 40) [*]) | (refine orRefuse_canon _ _ _ _ _ _ ?_ (fun _ _ _ => ?_) <;> try simp +contextual (maxDischargeDepth := 40) [*]))

@[simp] theorem deliverNew_canon (a0 a1 s) (h : s.canon) : (deliverNew a0 a1 s).canon := by
  unfold deliverNew; simp [h]

@[simp] theorem sequencedStep_canon (a0 a1 s) (h : s.canon) : (sequencedStep a0 a1 s).canon := by
  unfold sequencedStep
  try simp +contextual (maxDischargeDepth := 40) [h]
  repeat' (first | (split <;> try simp +contextual (maxDischargeDepth := 40) [*]) | (refine foldl_canon _ _ _ (fun _ _ _ => ?_) ?_ <;> try simp +contextual (maxDischargeDepth := 40) [*]) | (refine orRefuse_canon _ _ _ _ _ _ ?_ (fun _ _ _ => ?_) <;> try simp +contextual (maxDischargeDepth := 40) [*]))

@[simp] theorem ackFrameStep_canon (a0 s) (h : s.canon) : (ackFrameStep a0 s).canon := by
  unfold ackFrameStep
  try simp +contextual (maxDischargeDepth := 40) [h]
  repeat' (first | (split <;> try simp +contextual (maxDischargeDepth := 40) [*]) | (refine foldl_canon _ _ _ (fun _ _ _ => ?_) ?_ <;> try simp +contextual (maxDischargeDepth := 40) [*]) | (refine orRefuse_canon _ _ _ _ _ _ ?_ (fun _ _ _ => ?_) <;> try simp +contextual (maxDischargeDepth := 40) [*]))

@[simp] theorem ackTimerStep_canon (a0 s) (h : s.canon) : (ackTimerStep a0 s).canon := by
  unfold ackTimerStep; simp [h]

@[simp] theorem creditRiseStep_canon (a0 s) (h : s.canon) : (creditRiseStep a0 s).canon := by
  unfold creditRiseStep; simp [h]

@[simp] theorem visitStep_canon (a0 s) (h : s.canon) : (visitStep a0 s).canon := by
  unfold visitStep; simp (maxDischargeDepth := 40) [h]

@[simp] theorem retransmitStep_canon (a0 a1 s) (h : s.canon) : (retransmitStep a0 a1 s).canon := by
  unfold retransmitStep
  try simp +contextual (maxDischargeDepth := 40) [h]
  repeat' (first | (split <;> try simp +contextual (maxDischargeDepth := 40) [*]) | (refine foldl_canon _ _ _ (fun _ _ _ => ?_) ?_ <;> try simp +contextual (maxDischargeDepth := 40) [*]) | (refine orRefuse_canon _ _ _ _ _ _ ?_ (fun _ _ _ => ?_) <;> try simp +contextual (maxDischargeDepth := 40) [*]))

@[simp] theorem strandStep_canon (a0 s) (h : s.canon) : (strandStep a0 s).canon := by
  unfold strandStep; simp [h]

@[simp] theorem indexFreeStep_canon (a0 s) (h : s.canon) : (indexFreeStep a0 s).canon := by
  unfold indexFreeStep; simp [h]

end Sys2Proof.Machine
end

