-- ==== Sys2Proof/Laws/CanonPower.lean ====
section
/-!
SUPPORT. Every function of flash, power and configuration on states keeps device memory, scratch and what tasks keep in canonical form. None is left out.
-/

-- One proof after another: in parallel each asks for a thread and its stack.
set_option Elab.async false
set_option linter.all false

namespace Sys2Proof.Machine

open Sys2Proof.Safety

@[simp] theorem updRecord_canon (a0 a1 s) (h : s.canon) : (updRecord a0 a1 s).canon := by
  exact h

@[simp] theorem recordForce_canon (a0 s) (h : s.canon) : (recordForce a0 s).canon := by
  unfold recordForce
  try simp +contextual (maxDischargeDepth := 40) [h]
  repeat' (first | (split <;> try simp +contextual (maxDischargeDepth := 40) [*]) | (refine foldl_canon _ _ _ (fun _ _ _ => ?_) ?_ <;> try simp +contextual (maxDischargeDepth := 40) [*]) | (refine orRefuse_canon _ _ _ _ _ _ ?_ (fun _ _ _ => ?_) <;> try simp +contextual (maxDischargeDepth := 40) [*]))

@[simp] theorem storeRecord_canon (a0 a1 s) (h : s.canon) : (storeRecord a0 a1 s).2.canon := by
  unfold storeRecord; simp [h]

@[simp] theorem eraseCopy_canon (a0 a1 s) (h : s.canon) : (eraseCopy a0 a1 s).canon := by
  exact h

@[simp] theorem storeNow_canon (kind d s) (h : s.canon) : (storeNow kind d s).canon := by
  unfold storeNow
  split <;> rename_i e <;> have hh := canon_of_snd e (storeRecord_canon _ _ _ h) <;> simp (maxDischargeDepth := 40) [hh]

@[simp] theorem flashAdd_canon (a0 s) (h : s.canon) : (flashAdd a0 s).canon := by
  exact h

@[simp] theorem flashNext_canon (a0 s) (h : s.canon) : (flashNext a0 s).canon := by
  unfold flashNext
  try simp +contextual (maxDischargeDepth := 40) [h]
  repeat' (first | (split <;> try simp +contextual (maxDischargeDepth := 40) [*]) | (refine foldl_canon _ _ _ (fun _ _ _ => ?_) ?_ <;> try simp +contextual (maxDischargeDepth := 40) [*]) | (refine orRefuse_canon _ _ _ _ _ _ ?_ (fun _ _ _ => ?_) <;> try simp +contextual (maxDischargeDepth := 40) [*]))

@[simp] theorem flashSuspend_canon (a0 s) (h : s.canon) : (flashSuspend a0 s).canon := by
  unfold flashSuspend
  try simp +contextual (maxDischargeDepth := 40) [h]
  repeat' (first | (split <;> try simp +contextual (maxDischargeDepth := 40) [*]) | (refine foldl_canon _ _ _ (fun _ _ _ => ?_) ?_ <;> try simp +contextual (maxDischargeDepth := 40) [*]) | (refine orRefuse_canon _ _ _ _ _ _ ?_ (fun _ _ _ => ?_) <;> try simp +contextual (maxDischargeDepth := 40) [*]))

@[simp] theorem writeKeys_canon (s) (h : s.canon) : (writeKeys s).canon := by
  exact h

@[simp] theorem wipeSecure_canon (s) (h : s.canon) : (wipeSecure s).canon := by
  unfold wipeSecure; simp [h]

@[simp] theorem forgetScratch_canon (a0 s) (h : s.canon) : (forgetScratch a0 s).canon := by
  unfold forgetScratch; simp [h]

@[simp] theorem wipeNow_canon (s) (h : s.canon) : (wipeNow s).canon :=
  ⟨⟨rfl, shadowsOk_map _ _ h.1.2.1 fun _ _ => rfl, pinsOk_map _ _ h.1.2.2.1 fun _ _ => rfl, presOk_map _ _ h.1.2.2.2 fun _ _ => rfl⟩, h.2⟩

@[simp] theorem fullWipe_canon (a0 s) (h : s.canon) : (fullWipe a0 s).canon := by
  unfold fullWipe; simp (maxDischargeDepth := 40) [h]

@[simp] theorem attestReport_canon (a0 a1 s) (h : s.canon) : (attestReport a0 a1 s).2.canon := by
  exact h

@[simp] theorem setJob_canon (n kind s) (h : s.canon) (hk : KindOk kind) : (setJob n kind s).canon :=
  ⟨h.1, h.2.1, h.2.2.1, jobsOk_modify _ _ _ h.2.2.2 fun _ _ => hk⟩

@[simp] theorem attestReserve_canon (a0 s) (h : s.canon) : (attestReserve a0 s).canon := by
  unfold attestReserve
  try simp +contextual (maxDischargeDepth := 40) [h]
  repeat' (first | (split <;> try simp +contextual (maxDischargeDepth := 40) [*]) | (refine foldl_canon _ _ _ (fun _ _ _ => ?_) ?_ <;> try simp +contextual (maxDischargeDepth := 40) [*]) | (refine orRefuse_canon _ _ _ _ _ _ ?_ (fun _ _ _ => ?_) <;> try simp +contextual (maxDischargeDepth := 40) [*]))

@[simp] theorem attestSign_canon (a0 s) (h : s.canon) : (attestSign a0 s).canon := by
  unfold attestSign
  try simp +contextual (maxDischargeDepth := 40) [h]
  repeat' (first | (split <;> try simp +contextual (maxDischargeDepth := 40) [*]) | (refine foldl_canon _ _ _ (fun _ _ _ => ?_) ?_ <;> try simp +contextual (maxDischargeDepth := 40) [*]) | (refine orRefuse_canon _ _ _ _ _ _ ?_ (fun _ _ _ => ?_) <;> try simp +contextual (maxDischargeDepth := 40) [*]))

@[simp] theorem confirmed_canon (s) (h : s.canon) : (confirmed s).canon := by
  exact h

@[simp] theorem afterFlash_canon (a0 s) (h : s.canon) : (afterFlash a0 s).canon := by
  unfold afterFlash
  try simp +contextual (maxDischargeDepth := 40) [h]
  repeat' (first | (split <;> try simp +contextual (maxDischargeDepth := 40) [*]) | (refine foldl_canon _ _ _ (fun _ _ _ => ?_) ?_ <;> try simp +contextual (maxDischargeDepth := 40) [*]) | (refine orRefuse_canon _ _ _ _ _ _ ?_ (fun _ _ _ => ?_) <;> try simp +contextual (maxDischargeDepth := 40) [*]))

@[simp] theorem writeDone_canon (s) (h : s.canon) : (writeDone s).canon := by
  unfold writeDone
  try simp +contextual (maxDischargeDepth := 40) [h]
  repeat' (first | (split <;> try simp +contextual (maxDischargeDepth := 40) [*]) | (refine foldl_canon _ _ _ (fun _ _ _ => ?_) ?_ <;> try simp +contextual (maxDischargeDepth := 40) [*]) | (refine orRefuse_canon _ _ _ _ _ _ ?_ (fun _ _ _ => ?_) <;> try simp +contextual (maxDischargeDepth := 40) [*]))

@[simp] theorem eraseDone_canon (s) (h : s.canon) : (eraseDone s).canon := by
  unfold eraseDone
  try simp +contextual (maxDischargeDepth := 40) [h]
  repeat' (first | (split <;> try simp +contextual (maxDischargeDepth := 40) [*]) | (refine foldl_canon _ _ _ (fun _ _ _ => ?_) ?_ <;> try simp +contextual (maxDischargeDepth := 40) [*]) | (refine orRefuse_canon _ _ _ _ _ _ ?_ (fun _ _ _ => ?_) <;> try simp +contextual (maxDischargeDepth := 40) [*]))

@[simp] theorem programDone_canon (s) (h : s.canon) : (programDone s).canon := by
  unfold programDone
  try simp +contextual (maxDischargeDepth := 40) [h]
  repeat' (first | (split <;> try simp +contextual (maxDischargeDepth := 40) [*]) | (refine foldl_canon _ _ _ (fun _ _ _ => ?_) ?_ <;> try simp +contextual (maxDischargeDepth := 40) [*]) | (refine orRefuse_canon _ _ _ _ _ _ ?_ (fun _ _ _ => ?_) <;> try simp +contextual (maxDischargeDepth := 40) [*]))

@[simp] theorem tripStored_canon (s) (h : s.canon) : (tripStored s).canon := by
  unfold tripStored
  try simp +contextual (maxDischargeDepth := 40) [h]
  repeat' (first | (split <;> try simp +contextual (maxDischargeDepth := 40) [*]) | (refine foldl_canon _ _ _ (fun _ _ _ => ?_) ?_ <;> try simp +contextual (maxDischargeDepth := 40) [*]) | (refine orRefuse_canon _ _ _ _ _ _ ?_ (fun _ _ _ => ?_) <;> try simp +contextual (maxDischargeDepth := 40) [*]))

@[simp] theorem tear_canon (a0 s) (h : s.canon) : (tear a0 s).canon := by
  unfold tear
  try simp +contextual (maxDischargeDepth := 40) [h]
  repeat' (first | (split <;> try simp +contextual (maxDischargeDepth := 40) [*]) | (refine foldl_canon _ _ _ (fun _ _ _ => ?_) ?_ <;> try simp +contextual (maxDischargeDepth := 40) [*]) | (refine orRefuse_canon _ _ _ _ _ _ ?_ (fun _ _ _ => ?_) <;> try simp +contextual (maxDischargeDepth := 40) [*]))

@[simp] theorem flashCut_canon (s) (h : s.canon) : (flashCut s).canon := by
  unfold flashCut
  try simp +contextual (maxDischargeDepth := 40) [h]
  repeat' (first | (split <;> try simp +contextual (maxDischargeDepth := 40) [*]) | (refine foldl_canon _ _ _ (fun _ _ _ => ?_) ?_ <;> try simp +contextual (maxDischargeDepth := 40) [*]) | (refine orRefuse_canon _ _ _ _ _ _ ?_ (fun _ _ _ => ?_) <;> try simp +contextual (maxDischargeDepth := 40) [*]))

@[simp] theorem stacksOff_canon (s) (h : s.canon) : (stacksOff s).canon := by
  unfold stacksOff; simp [h]

@[simp] theorem stackOn_canon (a0 s) (h : s.canon) : (stackOn a0 s).canon := by
  exact h

@[simp] theorem markDark_canon (a0 s) (h : s.canon) : (markDark a0 s).canon := by
  exact h

@[simp] theorem lightOff_canon (s) (h : s.canon) : (lightOff s).canon := by
  unfold lightOff
  exact setLinks_canon _ _ _ h

@[simp] theorem lightOn_canon (a0 s) (h : s.canon) : (lightOn a0 s).canon := by
  exact h

@[simp] theorem baseLinksUp_canon (s) (h : s.canon) : (baseLinksUp s).canon := setLinks_canon _ _ _ h

@[simp] theorem leavePartition_canon (s) (h : s.canon) : (leavePartition s).canon := by
  unfold leavePartition; simp (maxDischargeDepth := 40) [h]

@[simp] theorem discardPound_canon (s) (h : s.canon) : (discardPound s).canon := by
  unfold discardPound; simp (maxDischargeDepth := 40) [h]

@[simp] theorem openPound_canon (s) (h : s.canon) : (openPound s).canon := by
  exact h

@[simp] theorem endJobs_canon (a0 a1 s) (h : s.canon) : (endJobs a0 a1 s).canon := by
  unfold endJobs; simp +contextual (maxDischargeDepth := 40) [h]

@[simp] theorem closeSessions_canon (a0 a1 s) (h : s.canon) : (closeSessions a0 a1 s).canon := by
  exact h

@[simp] theorem enterStandby_canon (s) (h : s.canon) : (enterStandby s).canon := by
  unfold enterStandby
  dsimp only
  refine leavePartition_canon _ (lightOff_canon _ (stacksOff_canon _ ?_))
  have k := endJobs_canon lostJob St.powerState _ (discardPound_canon _ (endBarges_canon (fun _ => true) St.powerState _ (killGraphs_canon St.powerState s h)))
  generalize endJobs lostJob _ _ = u at *
  exact ⟨⟨rfl, shadowsOk_nil, pinsOk_nil, presOk_nil⟩, k.2⟩

@[simp] theorem closePortB_canon (s) (h : s.canon) : (closePortB s).canon := by
  exact h

@[simp] theorem scheduleAll_canon (s) (h : s.canon) : (scheduleAll s).canon := by
  unfold scheduleAll
  exact foldl_canon _ _ _ (fun s k h => by simp (maxDischargeDepth := 40) [h]) h

@[simp] theorem startTransition_canon (a0 a1 a2 a3 s) (h : s.canon) : (startTransition a0 a1 a2 a3 s).canon := by
  unfold startTransition; simp (maxDischargeDepth := 40) [h]

@[simp] theorem leaveDark_canon (s) (h : s.canon) : (leaveDark s).canon := by
  unfold leaveDark
  dsimp only
  refine foldl_canon _ _ _ (fun s k h => stackOn_canon _ _ h) ?_
  have k := trackAll_canon _ (baseLinksUp_canon _ (lightOn_canon (fun _ => true) s h))
  generalize trackAll _ = u at *
  exact k

@[simp] theorem enterDark_canon (s) (h : s.canon) : (enterDark s).canon := by
  unfold enterDark
  generalize List.range 8 = l
  dsimp only
  refine leavePartition_canon _ (lightOff_canon _ (stacksOff_canon _ (markDark_canon _ _ ?_)))
  refine foldl_canon _ _ _ (fun s k h => ?_) (endBarges_canon _ _ _ h)
  exact updMemBerth_canon _ _ _ (foldl_canon _ _ _ (fun s k h => foldStep_canon _ _ h) h)

@[simp] theorem meshes_canon (a0 s) (h : s.canon) : (meshes a0 s).canon := by
  exact h

@[simp] theorem finishTransition_canon (a0 s) (h : s.canon) : (finishTransition a0 s).canon := by
  unfold finishTransition
  try simp +contextual (maxDischargeDepth := 40) [h]
  repeat' (first | (split <;> try simp +contextual (maxDischargeDepth := 40) [*]) | (refine foldl_canon _ _ _ (fun _ _ _ => ?_) ?_ <;> try simp +contextual (maxDischargeDepth := 40) [*]) | (refine orRefuse_canon _ _ _ _ _ _ ?_ (fun _ _ _ => ?_) <;> try simp +contextual (maxDischargeDepth := 40) [*]))

@[simp] theorem transitionStep_canon (s) (h : s.canon) : (transitionStep s).canon := by
  unfold transitionStep
  try simp +contextual (maxDischargeDepth := 40) [h]
  repeat' (first | (split <;> try simp +contextual (maxDischargeDepth := 40) [*]) | (refine foldl_canon _ _ _ (fun _ _ _ => ?_) ?_ <;> try simp +contextual (maxDischargeDepth := 40) [*]) | (refine orRefuse_canon _ _ _ _ _ _ ?_ (fun _ _ _ => ?_) <;> try simp +contextual (maxDischargeDepth := 40) [*]))

@[simp] theorem mailRbufCreate_canon (a0 a1 a2 s) (h : s.canon) : (mailRbufCreate a0 a1 a2 s).canon := by
  unfold mailRbufCreate; simp +contextual (maxDischargeDepth := 40) [h]

@[simp] theorem rbufAnswer_canon (job c base s) (h : s.canon) : (rbufAnswer job c base s).canon := by
  unfold rbufAnswer
  split
  · split
    · simp (maxDischargeDepth := 40) [h]
    · split
      · simp (maxDischargeDepth := 40) [h]
      · rename_i e; simp (maxDischargeDepth := 40) [createBuffer_canon h e]
  · exact h

@[simp] theorem rbufTimeout_canon (a0 s) (h : s.canon) : (rbufTimeout a0 s).canon := by
  unfold rbufTimeout
  try simp +contextual (maxDischargeDepth := 40) [h]
  repeat' (first | (split <;> try simp +contextual (maxDischargeDepth := 40) [*]) | (refine foldl_canon _ _ _ (fun _ _ _ => ?_) ?_ <;> try simp +contextual (maxDischargeDepth := 40) [*]) | (refine orRefuse_canon _ _ _ _ _ _ ?_ (fun _ _ _ => ?_) <;> try simp +contextual (maxDischargeDepth := 40) [*]))

@[simp] theorem flashWrite_canon (a0 a1 a2 a3 a4 s) (h : s.canon) : (flashWrite a0 a1 a2 a3 a4 s).canon := by
  unfold flashWrite; simp [h]

@[simp] theorem mailFlatSet_canon (a0 a1 a2 s) (h : s.canon) : (mailFlatSet a0 a1 a2 s).canon := by
  unfold mailFlatSet; simp (maxDischargeDepth := 40) [h]

@[simp] theorem mailConfigRead_canon (a0 a1 a2 s) (h : s.canon) : (mailConfigRead a0 a1 a2 s).canon := by
  unfold mailConfigRead; simp [h]

@[simp] theorem mailConfigWrite_canon (a0 a1 a2 s) (h : s.canon) : (mailConfigWrite a0 a1 a2 s).canon := by
  unfold mailConfigWrite; simp (maxDischargeDepth := 40) [h]

@[simp] theorem mailPassageOpen_canon (a0 a1 a2 s) (h : s.canon) : (mailPassageOpen a0 a1 a2 s).canon := by
  unfold mailPassageOpen
  try simp +contextual (maxDischargeDepth := 40) [h]
  repeat' (first | (split <;> try simp +contextual (maxDischargeDepth := 40) [*]) | (refine foldl_canon _ _ _ (fun _ _ _ => ?_) ?_ <;> try simp +contextual (maxDischargeDepth := 40) [*]) | (refine orRefuse_canon _ _ _ _ _ _ ?_ (fun _ _ _ => ?_) <;> try simp +contextual (maxDischargeDepth := 40) [*]))

@[simp] theorem passageConfirmed_canon (a0 s) (h : s.canon) : (passageConfirmed a0 s).canon := by
  unfold passageConfirmed
  try simp +contextual (maxDischargeDepth := 40) [h]
  repeat' (first | (split <;> try simp +contextual (maxDischargeDepth := 40) [*]) | (refine foldl_canon _ _ _ (fun _ _ _ => ?_) ?_ <;> try simp +contextual (maxDischargeDepth := 40) [*]) | (refine orRefuse_canon _ _ _ _ _ _ ?_ (fun _ _ _ => ?_) <;> try simp +contextual (maxDischargeDepth := 40) [*]))

@[simp] theorem mailPassageClose_canon (a0 a1 a2 s) (h : s.canon) : (mailPassageClose a0 a1 a2 s).canon := by
  unfold mailPassageClose; simp (maxDischargeDepth := 40) [h]

@[simp] theorem calibBytes_canon (s) (h : s.canon) : (calibBytes s).2.canon := by
  exact h

@[simp] theorem mailCalibRead_canon (a0 a1 a2 s) (h : s.canon) : (mailCalibRead a0 a1 a2 s).canon := by
  unfold mailCalibRead; simp +contextual (maxDischargeDepth := 40) [h]

@[simp] theorem mailCalibWrite_canon (a0 a1 a2 s) (h : s.canon) : (mailCalibWrite a0 a1 a2 s).canon := by
  unfold mailCalibWrite; simp +contextual (maxDischargeDepth := 40) [h]

@[simp] theorem mailPowerSet_canon (a0 a1 a2 s) (h : s.canon) : (mailPowerSet a0 a1 a2 s).canon := by
  unfold mailPowerSet; simp (maxDischargeDepth := 40) [h]

@[simp] theorem mailResume_canon (a0 a1 a2 s) (h : s.canon) : (mailResume a0 a1 a2 s).canon := by
  unfold mailResume; simp (maxDischargeDepth := 40) [h]

@[simp] theorem mailModuleReset_canon (a0 a1 a2 s) (h : s.canon) : (mailModuleReset a0 a1 a2 s).canon := by
  unfold mailModuleReset; simp [h]

@[simp] theorem mailUpdateStage_canon (a0 a1 a2 s) (h : s.canon) : (mailUpdateStage a0 a1 a2 s).canon := by
  unfold mailUpdateStage; simp +contextual (maxDischargeDepth := 40) [h]

@[simp] theorem confirmImage_canon (a0 s) (h : s.canon) : (confirmImage a0 s).canon := by
  exact h

@[simp] theorem mailHealthConfirm_canon (a0 a1 a2 s) (h : s.canon) : (mailHealthConfirm a0 a1 a2 s).canon := by
  unfold mailHealthConfirm; simp (maxDischargeDepth := 40) [h]

@[simp] theorem mailAttest_canon (a0 a1 a2 s) (h : s.canon) : (mailAttest a0 a1 a2 s).canon := by
  unfold mailAttest; simp +contextual (maxDischargeDepth := 40) [h]

@[simp] theorem mailKeyInstall_canon (a0 a1 a2 s) (h : s.canon) : (mailKeyInstall a0 a1 a2 s).canon := by
  unfold mailKeyInstall; simp (maxDischargeDepth := 40) [h]

@[simp] theorem lcMove_canon (a0 a1 s) (h : s.canon) : (lcMove a0 a1 s).canon := by
  unfold lcMove; simp (maxDischargeDepth := 40) [h]

@[simp] theorem mailLifecycleSet_canon (a0 a1 a2 s) (h : s.canon) : (mailLifecycleSet a0 a1 a2 s).canon := by
  unfold mailLifecycleSet; simp (maxDischargeDepth := 40) [h]

@[simp] theorem openLevel_canon (a0 a1 s) (h : s.canon) : (openLevel a0 a1 s).canon := by
  unfold openLevel; simp (maxDischargeDepth := 40) [h]

@[simp] theorem mailDebugOpen_canon (a0 a1 a2 s) (h : s.canon) : (mailDebugOpen a0 a1 a2 s).canon := by
  unfold mailDebugOpen; simp (maxDischargeDepth := 40) [h]

@[simp] theorem debugOp_canon (src corr k s) (hs : s.canon) (h : ∀ s, s.canon → (k s).canon) : (debugOp src corr k s).canon := by
  unfold debugOp
  split <;> simp (maxDischargeDepth := 40) [h, hs]

@[simp] theorem mailDebugHalt_canon (a0 a1 a2 s) (h : s.canon) : (mailDebugHalt a0 a1 a2 s).canon := by
  unfold mailDebugHalt; simp +contextual (maxDischargeDepth := 40) [h]

@[simp] theorem mailDebugStep_canon (a0 a1 a2 s) (h : s.canon) : (mailDebugStep a0 a1 a2 s).canon := by
  unfold mailDebugStep; simp +contextual (maxDischargeDepth := 40) [h]

@[simp] theorem mailDebugRun_canon (a0 a1 a2 s) (h : s.canon) : (mailDebugRun a0 a1 a2 s).canon := by
  unfold mailDebugRun; simp +contextual (maxDischargeDepth := 40) [h]

@[simp] theorem mailDebugRead_canon (src corr m s) (h : s.canon) : (mailDebugRead src corr m s).canon := by
  unfold mailDebugRead
  refine debugOp_canon _ _ _ _ h fun s h => ?_
  dsimp only
  split <;> simp (maxDischargeDepth := 40) [h]

@[simp] theorem mailDebugClose_canon (a0 a1 a2 s) (h : s.canon) : (mailDebugClose a0 a1 a2 s).canon := by
  unfold mailDebugClose; simp [h]

@[simp] theorem roundReads_canon (s) (h : s.canon) : (roundReads s).canon := by
  unfold roundReads
  exact foldl_canon _ _ _ (fun s x h => by split <;> simp (maxDischargeDepth := 40) [h]) h

@[simp] theorem roundStep_canon (a0 s) (h : s.canon) : (roundStep a0 s).canon := by
  unfold roundStep; simp (maxDischargeDepth := 40) [h]

@[simp] theorem fadeStep_canon (k s) (h : s.canon) : (fadeStep k s).canon := by
  unfold fadeStep
  split
  · exact h
  · split
    · exact h
    · dsimp only
      generalize hu : State.updLaser _ _ _ = u
      have hc : u.canon := by subst hu; exact updLaser_canon _ _ _ h
      exact ite_canon _ _ _ (laserFail_canon _ _ hc) (ite_canon _ _ _ (laserMigrate_canon _ _ (updLaser_canon _ _ _ hc))
        (ite_canon _ _ _ (logEvent_canon _ _ _ (updLaser_canon _ _ _ hc)) (ite_canon _ _ _ (updLaser_canon _ _ _ hc) hc)))

@[simp] theorem biasStep_canon (s) (h : s.canon) : (biasStep s).canon := by
  exact h

@[simp] theorem markBroken_canon (s) (h : s.canon) : (markBroken s).canon := by
  exact h

@[simp] theorem logRail_canon (a0 s) (h : s.canon) : (logRail a0 s).canon := by
  unfold logRail; simp [h]

@[simp] theorem railCheck_canon (s) (h : s.canon) : (railCheck s).canon := by
  unfold railCheck
  refine foldl_canon _ _ _ (fun s x h => ?_) h
  dsimp only
  split <;> simp (maxDischargeDepth := 40) [h]

@[simp] theorem correctPair_canon (a0 s) (h : s.canon) : (correctPair a0 s).canon := by
  unfold correctPair
  try simp +contextual (maxDischargeDepth := 40) [h]
  repeat' (first | (split <;> try simp +contextual (maxDischargeDepth := 40) [*]) | (refine foldl_canon _ _ _ (fun _ _ _ => ?_) ?_ <;> try simp +contextual (maxDischargeDepth := 40) [*]) | (refine orRefuse_canon _ _ _ _ _ _ ?_ (fun _ _ _ => ?_) <;> try simp +contextual (maxDischargeDepth := 40) [*]))

theorem readRings_canon (tones : List (RingRef × Nat)) (s : State) (h : s.canon) :
    (railCheck (markBroken (biasStep ((List.range 288).foldl (fun s k => fadeStep k s) s)))).canon :=
  railCheck_canon _ (markBroken_canon _ (biasStep_canon _ (foldl_canon _ _ _ (fun s k h => fadeStep_canon _ _ h) h)))

@[simp] theorem evaluate_canon (tones s) (h : s.canon) : (evaluate tones s).canon := by
  unfold evaluate
  dsimp only
  have r := readRings_canon tones s h
  generalize railCheck (markBroken (biasStep ((List.range 288).foldl (fun s k => fadeStep k s) s))) = u at r ⊢
  split
  · generalize hx : List.foldl (fun s x => suspectCause x s) _ _ = x
    have hh : x.canon := by
      subst hx
      refine foldl_canon _ _ _ (fun s x h => suspectCause_canon _ _ h) ?_
      refine foldl_canon _ _ _ (fun s x h => wrongLock_canon _ _ h) ?_
      rw [canon_mk]
      exact r
    split
    · exact hh
    · exact hh
  · exact h

@[simp] theorem setThermal_canon (a0 a1 s) (h : s.canon) : (setThermal a0 a1 s).canon := by
  unfold setThermal; simp (maxDischargeDepth := 40) [h]

@[simp] theorem thermalAct_canon (a0 s) (h : s.canon) : (thermalAct a0 s).canon := by
  unfold thermalAct; simp (maxDischargeDepth := 40) [h]

@[simp] theorem currentAct_canon (a0 s) (h : s.canon) : (currentAct a0 s).canon := by
  unfold currentAct; simp [h]

@[simp] theorem marginAct_canon (a0 s) (h : s.canon) : (marginAct a0 s).canon := by
  unfold marginAct
  try simp +contextual (maxDischargeDepth := 40) [h]
  repeat' (first | (split <;> try simp +contextual (maxDischargeDepth := 40) [*]) | (refine foldl_canon _ _ _ (fun _ _ _ => ?_) ?_ <;> try simp +contextual (maxDischargeDepth := 40) [*]) | (refine orRefuse_canon _ _ _ _ _ _ ?_ (fun _ _ _ => ?_) <;> try simp +contextual (maxDischargeDepth := 40) [*]))

@[simp] theorem throttleAct_canon (a0 s) (h : s.canon) : (throttleAct a0 s).canon := by
  unfold throttleAct; simp (maxDischargeDepth := 40) [h]

@[simp] theorem stackActs_canon (s) (h : s.canon) : (stackActs s).canon := by
  unfold stackActs
  dsimp only
  refine scheduleAll_canon _ (foldl_canon _ _ _ (fun s x h => by simp (maxDischargeDepth := 40) [h]) ?_)
  refine foldl_canon _ _ _ (fun s x h => by simp (maxDischargeDepth := 40) [h]) ?_
  refine foldl_canon _ _ _ (fun s x h => by simp (maxDischargeDepth := 40) [h]) ?_
  exact foldl_canon _ _ _ (fun s x h => by simp (maxDischargeDepth := 40) [h]) h

@[simp] theorem compensate_canon (s) (h : s.canon) : (compensate s).canon := by
  unfold compensate
  rw [canon_mk]
  exact h

@[simp] theorem actStep_canon (s) (h : s.canon) : (actStep s).canon := by
  unfold actStep; simp +contextual (maxDischargeDepth := 40) [h]

@[simp] theorem tripStep_canon (r cause hw s) (h : s.canon) : (tripStep r cause hw s).canon := by
  unfold tripStep
  dsimp only
  refine flashSuspend_canon _ _ ?_
  rw [canon_mk]
  refine canon_field _ (enterStandby_canon _ (lowerAllDebug_canon _ _ _ (logEvent_canon _ _ _ ?_)))
  exact discardPound_canon _ (lightOff_canon _ (stacksOff_canon _ h))

@[simp] theorem tripCommand_canon (s) (h : s.canon) : (tripCommand s).canon := by
  unfold tripCommand
  try simp +contextual (maxDischargeDepth := 40) [h]
  repeat' (first | (split <;> try simp +contextual (maxDischargeDepth := 40) [*]) | (refine foldl_canon _ _ _ (fun _ _ _ => ?_) ?_ <;> try simp +contextual (maxDischargeDepth := 40) [*]) | (refine orRefuse_canon _ _ _ _ _ _ ?_ (fun _ _ _ => ?_) <;> try simp +contextual (maxDischargeDepth := 40) [*]))

@[simp] theorem tripWritten_canon (s) (h : s.canon) : (tripWritten s).canon := by
  unfold tripWritten
  try simp +contextual (maxDischargeDepth := 40) [h]
  repeat' (first | (split <;> try simp +contextual (maxDischargeDepth := 40) [*]) | (refine foldl_canon _ _ _ (fun _ _ _ => ?_) ?_ <;> try simp +contextual (maxDischargeDepth := 40) [*]) | (refine orRefuse_canon _ _ _ _ _ _ ?_ (fun _ _ _ => ?_) <;> try simp +contextual (maxDischargeDepth := 40) [*]))

end Sys2Proof.Machine
end

