-- ==== Sys2Proof/Laws/CanonReset.lean ====
section
/-!
SUPPORT. Every function of resets, redundancy, security, boot, telemetry and what is due at a tick on states keeps device memory, scratch and what tasks keep in canonical form. None is left out.
-/

-- One proof after another: in parallel each asks for a thread and its stack.
set_option Elab.async false
set_option linter.all false

namespace Sys2Proof.Machine

open Sys2Proof.Safety

@[simp] theorem clearedState_canon (a0 a1 s) (h : s.canon) : (clearedState a0 a1 s).canon := by
  unfold clearedState; simp [h]

@[simp] theorem resetModule_canon (a0 a1 s) (h : s.canon) : (resetModule a0 a1 s).canon := by
  unfold resetModule; simp +contextual (maxDischargeDepth := 40) [h]

@[simp] theorem resetNStep_canon (a0 s) (h : s.canon) : (resetNStep a0 s).canon := by
  unfold resetNStep; simp (maxDischargeDepth := 40) [h]

@[simp] theorem selfReset_canon (a0 s) (h : s.canon) : (selfReset a0 s).canon := by
  unfold selfReset; simp [h]

@[simp] theorem timerReset_canon (s) (h : s.canon) : (timerReset s).canon := by
  unfold timerReset; simp [h]

@[simp] theorem trialStep_canon (s) (h : s.canon) : (trialStep s).canon := by
  unfold trialStep; simp [h]

@[simp] theorem powerLost_canon (s) (h : s.canon) : (powerLost s).canon := by
  unfold powerLost; simp [h]

@[simp] theorem stopMembers_canon (s) (h : s.canon) : (stopMembers s).canon := by
  unfold stopMembers; simp +contextual (maxDischargeDepth := 40) [h]

@[simp] theorem strandNow_canon (a0 s) (h : s.canon) : (strandNow a0 s).canon := by
  unfold strandNow; simp (maxDischargeDepth := 40) [h]

@[simp] theorem strandStepModule_canon (s) (h : s.canon) : (strandStepModule s).canon := by
  unfold strandStepModule; simp +contextual (maxDischargeDepth := 40) [h]

@[simp] theorem endPause_canon (s) (h : s.canon) : (endPause s).canon := by
  unfold endPause
  split
  · exact h
  · dsimp only
    split <;> rename_i e
    · exact pauseEvent_canon _ _ _ _ _ (issueStamp_canon _ _ _ h)
    · exact issueStamp_canon _ _ _ h

@[simp] theorem beginTest_canon (a0 a1 a2 s) (h : s.canon) : (beginTest a0 a1 a2 s).canon := by
  unfold beginTest; simp (maxDischargeDepth := 40) [h]

@[simp] theorem lkFaulty_canon (a0 s) (h : s.canon) : (lkFaulty a0 s).canon := by
  unfold lkFaulty; simp [h]

@[simp] theorem ownFault_canon (a0 a1 s) (h : s.canon) : (ownFault a0 a1 s).canon := by
  unfold ownFault; simp (maxDischargeDepth := 40) [h]

@[simp] theorem lkFault_canon (a0 a1 a2 s) (h : s.canon) : (lkFault a0 a1 a2 s).canon := by
  unfold lkFault
  try simp +contextual (maxDischargeDepth := 40) [h]
  repeat' (first | (split <;> try simp +contextual (maxDischargeDepth := 40) [*]) | (refine foldl_canon _ _ _ (fun _ _ _ => ?_) ?_ <;> try simp +contextual (maxDischargeDepth := 40) [*]) | (refine orRefuse_canon _ _ _ _ _ _ ?_ (fun _ _ _ => ?_) <;> try simp +contextual (maxDischargeDepth := 40) [*]))

@[simp] theorem miscompareStep_canon (a0 a1 a2 s) (h : s.canon) : (miscompareStep a0 a1 a2 s).canon := by
  unfold miscompareStep
  try simp +contextual (maxDischargeDepth := 40) [h]
  repeat' (first | (split <;> try simp +contextual (maxDischargeDepth := 40) [*]) | (refine foldl_canon _ _ _ (fun _ _ _ => ?_) ?_ <;> try simp +contextual (maxDischargeDepth := 40) [*]) | (refine orRefuse_canon _ _ _ _ _ _ ?_ (fun _ _ _ => ?_) <;> try simp +contextual (maxDischargeDepth := 40) [*]))

@[simp] theorem retireLk_canon (a0 s) (h : s.canon) : (retireLk a0 s).canon := by
  unfold retireLk; simp (maxDischargeDepth := 40) [h]

@[simp] theorem takeHelm_canon (a0 s) (h : s.canon) : (takeHelm a0 s).canon := by
  unfold takeHelm; simp (maxDischargeDepth := 40) [h]

@[simp] theorem tested_canon (a0 a1 s) (h : s.canon) : (tested a0 a1 s).canon := by
  unfold tested; simp [h]

@[simp] theorem failOver_canon (a0 s) (h : s.canon) : (failOver a0 s).canon := by
  unfold failOver; simp [h]

@[simp] theorem bothPassed_canon (s) (h : s.canon) : (bothPassed s).canon := by
  unfold bothPassed
  try simp +contextual (maxDischargeDepth := 40) [h]
  repeat' (first | (split <;> try simp +contextual (maxDischargeDepth := 40) [*]) | (refine foldl_canon _ _ _ (fun _ _ _ => ?_) ?_ <;> try simp +contextual (maxDischargeDepth := 40) [*]) | (refine orRefuse_canon _ _ _ _ _ _ ?_ (fun _ _ _ => ?_) <;> try simp +contextual (maxDischargeDepth := 40) [*]))

@[simp] theorem decisionStep_canon (a0 a1 a2 s) (h : s.canon) : (decisionStep a0 a1 a2 s).canon := by
  unfold decisionStep
  try simp +contextual (maxDischargeDepth := 40) [h]
  repeat' (first | (split <;> try simp +contextual (maxDischargeDepth := 40) [*]) | (refine foldl_canon _ _ _ (fun _ _ _ => ?_) ?_ <;> try simp +contextual (maxDischargeDepth := 40) [*]) | (refine orRefuse_canon _ _ _ _ _ _ ?_ (fun _ _ _ => ?_) <;> try simp +contextual (maxDischargeDepth := 40) [*]))

@[simp] theorem injectStep_canon (a0 s) (h : s.canon) : (injectStep a0 s).canon := by
  unfold injectStep; simp (maxDischargeDepth := 40) [h]

@[simp] theorem scrubStep_canon (a0 s) (h : s.canon) : (scrubStep a0 s).canon := by
  unfold scrubStep
  try simp +contextual (maxDischargeDepth := 40) [h]
  repeat' (first | (split <;> try simp +contextual (maxDischargeDepth := 40) [*]) | (refine foldl_canon _ _ _ (fun _ _ _ => ?_) ?_ <;> try simp +contextual (maxDischargeDepth := 40) [*]) | (refine orRefuse_canon _ _ _ _ _ _ ?_ (fun _ _ _ => ?_) <;> try simp +contextual (maxDischargeDepth := 40) [*]))

@[simp] theorem leaveStepChecker_canon (s) (h : s.canon) : (leaveStepChecker s).canon := by
  unfold leaveStepChecker; simp (maxDischargeDepth := 40) [h]

@[simp] theorem selfConfirm_canon (s) (h : s.canon) : (selfConfirm s).canon := by
  unfold selfConfirm; simp [h]

@[simp] theorem checkerDone_canon (a0 s) (h : s.canon) : (checkerDone a0 s).canon := by
  unfold checkerDone; simp (maxDischargeDepth := 40) [h]

@[simp] theorem watchdogStep_canon (a0 s) (h : s.canon) : (watchdogStep a0 s).canon := by
  unfold watchdogStep; simp (maxDischargeDepth := 40) [h]

@[simp] theorem retiredStep_canon (a0 a1 s) (h : s.canon) : (retiredStep a0 a1 s).canon := by
  unfold retiredStep
  try simp +contextual (maxDischargeDepth := 40) [h]
  repeat' (first | (split <;> try simp +contextual (maxDischargeDepth := 40) [*]) | (refine foldl_canon _ _ _ (fun _ _ _ => ?_) ?_ <;> try simp +contextual (maxDischargeDepth := 40) [*]) | (refine orRefuse_canon _ _ _ _ _ _ ?_ (fun _ _ _ => ?_) <;> try simp +contextual (maxDischargeDepth := 40) [*]))

@[simp] theorem rejoinStep_canon (s) (h : s.canon) : (rejoinStep s).canon := by
  unfold rejoinStep
  try simp +contextual (maxDischargeDepth := 40) [h]
  repeat' (first | (split <;> try simp +contextual (maxDischargeDepth := 40) [*]) | (refine foldl_canon _ _ _ (fun _ _ _ => ?_) ?_ <;> try simp +contextual (maxDischargeDepth := 40) [*]) | (refine orRefuse_canon _ _ _ _ _ _ ?_ (fun _ _ _ => ?_) <;> try simp +contextual (maxDischargeDepth := 40) [*]))

@[simp] theorem writeRepairs_canon (s) (h : s.canon) : (writeRepairs s).canon := by
  exact h

@[simp] theorem fenceCore_canon (a0 a1 s) (h : s.canon) : (fenceCore a0 a1 s).canon := by
  unfold fenceCore; simp (maxDischargeDepth := 40) [h]

@[simp] theorem voteEvent_canon (a0 a1 a2 s) (h : s.canon) : (voteEvent a0 a1 a2 s).canon := by
  unfold voteEvent; simp [h]

@[simp] theorem coreVote_canon (a0 a1 a2 s) (h : s.canon) : (coreVote a0 a1 a2 s).canon := by
  unfold coreVote; simp (maxDischargeDepth := 40) [h]

@[simp] theorem baseVote_canon (a0 a1 s) (h : s.canon) : (baseVote a0 a1 s).canon := by
  unfold baseVote; simp +contextual (maxDischargeDepth := 40) [h]

@[simp] theorem voteStep_canon (a0 a1 a2 s) (h : s.canon) : (voteStep a0 a1 a2 s).canon := by
  unfold voteStep
  try simp +contextual (maxDischargeDepth := 40) [h]
  repeat' (first | (split <;> try simp +contextual (maxDischargeDepth := 40) [*]) | (refine foldl_canon _ _ _ (fun _ _ _ => ?_) ?_ <;> try simp +contextual (maxDischargeDepth := 40) [*]) | (refine orRefuse_canon _ _ _ _ _ _ ?_ (fun _ _ _ => ?_) <;> try simp +contextual (maxDischargeDepth := 40) [*]))

@[simp] theorem laneFails_canon (a0 a1 a2 s) (h : s.canon) : (laneFails a0 a1 a2 s).canon := by
  unfold laneFails; simp (maxDischargeDepth := 40) [h]

@[simp] theorem wordFails_canon (a0 a1 s) (h : s.canon) : (wordFails a0 a1 s).canon := by
  unfold wordFails; simp (maxDischargeDepth := 40) [h]

@[simp] theorem laneTest_canon (a0 a1 a2 s) (h : s.canon) : (laneTest a0 a1 a2 s).canon := by
  unfold laneTest
  try simp +contextual (maxDischargeDepth := 40) [h]
  repeat' (first | (split <;> try simp +contextual (maxDischargeDepth := 40) [*]) | (refine foldl_canon _ _ _ (fun _ _ _ => ?_) ?_ <;> try simp +contextual (maxDischargeDepth := 40) [*]) | (refine orRefuse_canon _ _ _ _ _ _ ?_ (fun _ _ _ => ?_) <;> try simp +contextual (maxDischargeDepth := 40) [*]))

theorem takeAct_canon {a s t} (hs : s.canon) (h : takeAct a s = some t) : t.canon := by
  unfold takeAct at h
  split at h <;> cases h
  exact hs

@[simp] theorem spared_canon (a0 a1 a2 a3 s) (h : s.canon) : (spared a0 a1 a2 a3 s).canon := by
  unfold spared; simp (maxDischargeDepth := 40) [h]

@[simp] theorem laneWindow_canon (c g l s) (h : s.canon) : (laneWindow c g l s).canon := by
  unfold laneWindow
  split
  · rename_i e _
    have := takeAct_canon h e
    dsimp only
    split <;> simp (maxDischargeDepth := 40) [this]
  · exact h

@[simp] theorem rerouteReach_canon (a0 a1 s) (h : s.canon) : (rerouteReach a0 a1 s).canon := by
  unfold rerouteReach
  try simp +contextual (maxDischargeDepth := 40) [h]
  repeat' (first | (split <;> try simp +contextual (maxDischargeDepth := 40) [*]) | (refine foldl_canon _ _ _ (fun _ _ _ => ?_) ?_ <;> try simp +contextual (maxDischargeDepth := 40) [*]) | (refine orRefuse_canon _ _ _ _ _ _ ?_ (fun _ _ _ => ?_) <;> try simp +contextual (maxDischargeDepth := 40) [*]))

@[simp] theorem groupFails_canon (a0 a1 s) (h : s.canon) : (groupFails a0 a1 s).canon := by
  unfold groupFails; simp (maxDischargeDepth := 40) [h]

@[simp] theorem groupStep_canon (k g f s) (h : s.canon) : (groupStep k g f s).canon := by
  unfold groupStep
  split
  · exact h
  · split
    · rename_i e
      have := takeAct_canon h e
      dsimp only
      split <;> simp (maxDischargeDepth := 40) [this]
    · split <;> simp (maxDischargeDepth := 40) [h]

@[simp] theorem routerFaulty_canon (a0 s) (h : s.canon) : (routerFaulty a0 s).canon := by
  unfold routerFaulty; simp (maxDischargeDepth := 40) [h]

@[simp] theorem logicFault_canon (a0 s) (h : s.canon) : (logicFault a0 s).canon := by
  unfold logicFault; simp (maxDischargeDepth := 40) [h]

@[simp] theorem routerFaultStep_canon (a0 a1 s) (h : s.canon) : (routerFaultStep a0 a1 s).canon := by
  unfold routerFaultStep
  try simp +contextual (maxDischargeDepth := 40) [h]
  repeat' (first | (split <;> try simp +contextual (maxDischargeDepth := 40) [*]) | (refine foldl_canon _ _ _ (fun _ _ _ => ?_) ?_ <;> try simp +contextual (maxDischargeDepth := 40) [*]) | (refine orRefuse_canon _ _ _ _ _ _ ?_ (fun _ _ _ => ?_) <;> try simp +contextual (maxDischargeDepth := 40) [*]))

@[simp] theorem routeStep_canon (a0 s) (h : s.canon) : (routeStep a0 s).canon := by
  unfold routeStep; simp +contextual (maxDischargeDepth := 40) [h]

@[simp] theorem blowTamper_canon (s) (h : s.canon) : (blowTamper s).canon := by
  exact h

@[simp] theorem zeroVault_canon (s) (h : s.canon) : (zeroVault s).canon := by
  exact h

@[simp] theorem freeKeyed_canon (s) (h : s.canon) : (freeKeyed s).canon := by
  unfold freeKeyed; simp +contextual (maxDischargeDepth := 40) [h]

@[simp] theorem tamperEvent_canon (a0 s) (h : s.canon) : (tamperEvent a0 s).canon := by
  unfold tamperEvent; simp [h]

@[simp] theorem tamperNow_canon (a0 s) (h : s.canon) : (tamperNow a0 s).canon := by
  unfold tamperNow; simp (maxDischargeDepth := 40) [h]

@[simp] theorem tamperStep_canon (a0 s) (h : s.canon) : (tamperStep a0 s).canon := by
  unfold tamperStep; simp (maxDischargeDepth := 40) [h]

@[simp] theorem tamperClearStep_canon (s) (h : s.canon) : (tamperClearStep s).canon := by
  unfold tamperClearStep; simp [h]

@[simp] theorem captureCells_canon (s) (h : s.canon) : (captureCells s).2.canon := by
  exact h

@[simp] theorem releaseCells_canon (s) (h : s.canon) : (releaseCells s).canon := by
  unfold releaseCells; simp [h]

@[simp] theorem driveCells_canon (a0 s) (h : s.canon) : (driveCells a0 s).canon := by
  exact h

@[simp] theorem selectIr_canon (a0 a1 s) (h : s.canon) : (selectIr a0 a1 s).canon := by
  unfold selectIr; simp [h]

@[simp] theorem bypass_canon (s) (h : s.canon) : (bypass s).canon := by
  unfold bypass; simp [h]

@[simp] theorem extestStep_canon (a0 s) (h : s.canon) : (extestStep a0 s).canon := by
  unfold extestStep; simp (maxDischargeDepth := 40) [h]

@[simp] theorem sampleStep_canon (a0 s) (h : s.canon) : (sampleStep a0 s).canon := by
  unfold sampleStep; simp (maxDischargeDepth := 40) [h]

@[simp] theorem clampStep_canon (s) (h : s.canon) : (clampStep s).canon := by
  unfold clampStep; simp (maxDischargeDepth := 40) [h]

@[simp] theorem highzStep_canon (s) (h : s.canon) : (highzStep s).canon := by
  unfold highzStep; simp (maxDischargeDepth := 40) [h]

@[simp] theorem tapStep_canon (s) (h : s.canon) : (tapStep s).canon := by
  unfold tapStep; simp (maxDischargeDepth := 40) [h]

@[simp] theorem authLevel_canon (a0 s) (h : s.canon) : (authLevel a0 s).canon := by
  unfold authLevel; simp [h]

@[simp] theorem authStep_canon (a0 a1 a2 a3 s) (h : s.canon) : (authStep a0 a1 a2 a3 s).canon := by
  unfold authStep; simp (maxDischargeDepth := 40) [h]

@[simp] theorem mailRegister_canon (a0 s) (h : s.canon) : (mailRegister a0 s).canon := by
  unfold mailRegister; simp (maxDischargeDepth := 40) [h]

theorem runAll_canon (l s) (h : ∀ f ∈ l, ∀ s : State, s.canon → (f s).canon) (hs : s.canon) : (runAll l s).canon := by
  unfold runAll
  induction l generalizing s with
  | nil => exact hs
  | cons f l ih => exact ih _ (fun g hg => h g (List.mem_cons_of_mem _ hg)) (h f List.mem_cons_self _ hs)

@[simp] theorem stallPorts_canon (s) (h : s.canon) : (stallPorts s).canon := by
  unfold stallPorts; simp +contextual (maxDischargeDepth := 40) [h]

theorem due_canon (s f) (h : f ∈ poundsDue ++ baseDue ++ stacksDue ∨ f ∈ sessionsDue s ∨ f ∈ lightDue ++ tasksDue s ∨ f ∈ torusDue s) :
    ∀ s : State, s.canon → (f s).canon := by
  intro u hu
  simp only [poundsDue, baseDue, stacksDue, sessionsDue, lightDue, tasksDue, torusDue, List.mem_append, List.mem_cons, List.mem_flatMap,
    List.mem_map, List.mem_ite_nil_right, List.not_mem_nil, or_false] at h
  rcases h with h | h | h | h
  · rcases h with (h | h) | h
    · rcases h with rfl | rfl | rfl | rfl | rfl | rfl | rfl <;> simp [hu]
    · rcases h with rfl | rfl | rfl | rfl | rfl <;> simp [hu]
    · rcases h with ⟨_, -, rfl | rfl⟩ | rfl <;> simp [hu]
  · obtain ⟨_, -, ⟨-, rfl⟩ | rfl | rfl⟩ := h <;> simp [hu]
  · rcases h with ⟨_, -, rfl | rfl | rfl⟩ | ⟨_, -, ⟨_, -, rfl | rfl⟩ | ⟨_, -, rfl⟩⟩ | ⟨_, -, rfl⟩ <;> simp [hu]
  · rcases h with ((((⟨_, -, rfl⟩ | ⟨_, -, rfl⟩) | ⟨_, -, rfl⟩) | ⟨_, -, rfl⟩) | ⟨_, -, rfl⟩) | rfl | rfl <;> simp [hu]

@[simp] theorem dueStep_canon (s) (h : s.canon) : (dueStep s).canon := by
  unfold dueStep
  dsimp only
  have h1 : (runAll (poundsDue ++ baseDue ++ stacksDue) (stallPorts s)).canon :=
    runAll_canon _ _ (fun f h => due_canon s f (.inl h)) (stallPorts_canon s h)
  generalize runAll (poundsDue ++ baseDue ++ stacksDue) (stallPorts s) = t at h1
  have h2 : (runAll (sessionsDue t) t).canon := runAll_canon _ _ (fun f h => due_canon t f (.inr (.inl h))) h1
  generalize runAll (sessionsDue t) t = u at h2
  have h3 : (runAll (lightDue ++ tasksDue u) u).canon := runAll_canon _ _ (fun f h => due_canon u f (.inr (.inr (.inl h)))) h2
  generalize runAll (lightDue ++ tasksDue u) u = v at h3
  have h4 : (runAll (torusDue v) v).canon := runAll_canon _ _ (fun f h => due_canon v f (.inr (.inr (.inr h)))) h3
  split
  · exact h4
  · exact h2

@[simp] theorem timersDue_canon (s) (h : s.canon) : (timersDue s).canon := by
  unfold timersDue; simp [h]

@[simp] theorem owedTamper_canon (s) (h : s.canon) : (owedTamper s).canon := by
  unfold owedTamper
  try simp +contextual (maxDischargeDepth := 40) [h]
  repeat' (first | (split <;> try simp +contextual (maxDischargeDepth := 40) [*]) | (refine foldl_canon _ _ _ (fun _ _ _ => ?_) ?_ <;> try simp +contextual (maxDischargeDepth := 40) [*]) | (refine orRefuse_canon _ _ _ _ _ _ ?_ (fun _ _ _ => ?_) <;> try simp +contextual (maxDischargeDepth := 40) [*]))

@[simp] theorem bootStep_canon (a0 s) (h : s.canon) : (bootStep a0 s).canon := by
  unfold bootStep; simp (maxDischargeDepth := 40) [h]

@[simp] theorem eraseTorn_canon (a0 a1 s) (h : s.canon) : (eraseTorn a0 a1 s).canon := by
  unfold eraseTorn; simp (maxDischargeDepth := 40) [h]

@[simp] theorem eraseTorns_canon (a0 s) (h : s.canon) : (eraseTorns a0 s).canon := by
  unfold eraseTorns; simp [h]

@[simp] theorem storeBoot_canon (a0 s) (h : s.canon) : (storeBoot a0 s).canon := by
  unfold storeBoot; simp [h]

@[simp] theorem fallBack_canon (a0 s) (h : s.canon) : (fallBack a0 s).canon := by
  unfold fallBack; simp (maxDischargeDepth := 40) [h]

@[simp] theorem chooseImage_canon (s) (h : s.canon) : (chooseImage s).canon := by
  unfold chooseImage; simp (maxDischargeDepth := 40) [h]

@[simp] theorem romPhase_canon (s) (h : s.canon) : (romPhase s).canon := by
  unfold romPhase; simp (maxDischargeDepth := 40) [h]

@[simp] theorem noImage_canon (s) (h : s.canon) : (noImage s).canon := by
  exact h

@[simp] theorem imagePhase_canon (s) (h : s.canon) : (imagePhase s).canon := by
  unfold imagePhase; simp (maxDischargeDepth := 40) [h]

@[simp] theorem trialTimer_canon (s) (h : s.canon) : (trialTimer s).canon := by
  unfold trialTimer; simp [h]

@[simp] theorem loadKeys_canon (s) (h : s.canon) : (loadKeys s).canon := by
  unfold loadKeys
  try simp +contextual (maxDischargeDepth := 40) [h]
  repeat' (first | (split <;> try simp +contextual (maxDischargeDepth := 40) [*]) | (refine foldl_canon _ _ _ (fun _ _ _ => ?_) ?_ <;> try simp +contextual (maxDischargeDepth := 40) [*]) | (refine orRefuse_canon _ _ _ _ _ _ ?_ (fun _ _ _ => ?_) <;> try simp +contextual (maxDischargeDepth := 40) [*]))

@[simp] theorem bootWipe_canon (s) (h : s.canon) : (bootWipe s).canon := by
  unfold bootWipe; simp (maxDischargeDepth := 40) [h]

@[simp] theorem loadRecords_canon (s) (h : s.canon) : (loadRecords s).canon := by
  exact h

@[simp] theorem latchConfig_canon (s) (h : s.canon) : (latchConfig s).canon := by
  exact h

@[simp] theorem blowSvn_canon (s) (h : s.canon) : (blowSvn s).canon := by
  unfold blowSvn; simp [h]

@[simp] theorem configPhase_canon (s) (h : s.canon) : (configPhase s).canon := by
  unfold configPhase; simp (maxDischargeDepth := 40) [h]

@[simp] theorem firstLight_canon (a0 s) (h : s.canon) : (firstLight a0 s).canon := by
  unfold firstLight; simp +contextual (maxDischargeDepth := 40) [h]

@[simp] theorem stampHeld_canon (s) (h : s.canon) : (stampHeld s).canon := by
  unfold stampHeld
  refine foldl_canon _ _ _ (fun s x h => ?_) h
  split <;> rename_i e <;> have hh := canon_of_snd e (issueStamp_canon _ _ _ h) <;> simp (maxDischargeDepth := 40) [hh]

@[simp] theorem sourceReport_canon (s) (h : s.canon) : (sourceReport s).canon := by
  unfold sourceReport; simp [h]

@[simp] theorem timePhase_canon (s) (h : s.canon) : (timePhase s).canon := by
  unfold timePhase; simp (maxDischargeDepth := 40) [h]

@[simp] theorem rejectRestored_canon (a0 s) (h : s.canon) : (rejectRestored a0 s).canon := by
  unfold rejectRestored; simp +contextual (maxDischargeDepth := 40) [h]

@[simp] theorem laserPhase_canon (d r j s) (h : s.canon) : (laserPhase d r j s).canon := by
  unfold laserPhase
  dsimp only
  refine rejectRestored_canon _ _ ?_
  refine foldl_canon _ _ _ (fun s r h => maintenance_canon _ _ _ (suspectLane_canon _ _ _ h)) ?_
  refine foldl_canon _ _ _ (fun s r h => groupDown_canon _ _ h) ?_
  exact baseLinksUp_canon _ (fibreCredits_canon _ (allotAll_canon _ (installPlan_canon _ (firstLight_canon _ _ h))))

@[simp] theorem haltBoot_canon (s) (h : s.canon) : (haltBoot s).canon := by
  unfold haltBoot; simp [h]

@[simp] theorem memPhase_canon (a0 a1 s) (h : s.canon) : (memPhase a0 a1 s).canon := by
  unfold memPhase; simp +contextual (maxDischargeDepth := 40) [h]

@[simp] theorem assignPorts_canon (s) (h : s.canon) : (assignPorts s).canon := by
  unfold assignPorts
  refine foldl_canon _ _ _ (fun s k h => ?_) h
  dsimp only
  refine foldl_canon _ _ _ (fun s r h => rerouteReach_canon _ _ _ h) ?_
  split
  · exact h
  · exact updStack_canon _ _ _ h

@[simp] theorem loadRepairs_canon (s) (h : s.canon) : (loadRepairs s).canon := by
  unfold loadRepairs
  refine assignPorts_canon _ ?_
  split
  · dsimp only
    refine foldl_canon _ _ _ (fun s r h => updStack_canon _ _ _ h) ?_
    refine foldl_canon _ _ _ (fun s r h => updStack_canon _ _ _ h) ?_
    refine foldl_canon _ _ _ (fun s r h => updCore_canon _ _ _ h) ?_
    exact foldl_canon _ _ _ (fun s r h => updCore_canon _ _ _ h) h
  · exact h

@[simp] theorem pllFails_canon (a0 s) (h : s.canon) : (pllFails a0 s).canon := by
  unfold pllFails; simp [h]

@[simp] theorem emptyOff_canon (s) (h : s.canon) : (emptyOff s).canon := by
  exact h

@[simp] theorem stackPhase_canon (a0 a1 s) (h : s.canon) : (stackPhase a0 a1 s).canon := by
  unfold stackPhase; simp +contextual (maxDischargeDepth := 40) [h]

@[simp] theorem startHeld_canon (s) (h : s.canon) : (startHeld s).canon := by
  unfold startHeld
  try simp +contextual (maxDischargeDepth := 40) [h]
  repeat' (first | (split <;> try simp +contextual (maxDischargeDepth := 40) [*]) | (refine foldl_canon _ _ _ (fun _ _ _ => ?_) ?_ <;> try simp +contextual (maxDischargeDepth := 40) [*]) | (refine orRefuse_canon _ _ _ _ _ _ ?_ (fun _ _ _ => ?_) <;> try simp +contextual (maxDischargeDepth := 40) [*]))

@[simp] theorem announceReady_canon (s) (h : s.canon) : (announceReady s).canon := by
  unfold announceReady
  dsimp only
  refine startHeld_canon _ (scheduleAll_canon _ ?_)
  split
  · exact openPound_canon _ (logEvent_canon _ _ _ h)
  · exact logEvent_canon _ _ _ (openPound_canon _ (logEvent_canon _ _ _ h))

@[simp] theorem slowReport_canon (a0 a1 s) (h : s.canon) : (slowReport a0 a1 s).canon := by
  unfold slowReport; simp [h]

@[simp] theorem takeLimits_canon (s) (h : s.canon) : (takeLimits s).canon := by
  unfold takeLimits; simp +contextual (maxDischargeDepth := 40) [h]

@[simp] theorem phaseWork_canon (a0 a1 s) (h : s.canon) : (phaseWork a0 a1 s).canon := by
  unfold phaseWork
  try simp +contextual (maxDischargeDepth := 40) [h]
  repeat' (first | (split <;> try simp +contextual (maxDischargeDepth := 40) [*]) | (refine foldl_canon _ _ _ (fun _ _ _ => ?_) ?_ <;> try simp +contextual (maxDischargeDepth := 40) [*]) | (refine orRefuse_canon _ _ _ _ _ _ ?_ (fun _ _ _ => ?_) <;> try simp +contextual (maxDischargeDepth := 40) [*]) | (intro _ <;> try simp +contextual (maxDischargeDepth := 40) [*]))

@[simp] theorem phaseTime_canon (a0 a1 s) (h : s.canon) : (phaseTime a0 a1 s).canon := by
  unfold phaseTime; simp [h]

@[simp] theorem nextPhase_canon (a0 s) (h : s.canon) : (nextPhase a0 s).canon := by
  unfold nextPhase; simp (maxDischargeDepth := 40) [h]

@[simp] theorem phaseStep_canon (a0 a1 a2 s) (h : s.canon) : (phaseStep a0 a1 a2 s).canon := by
  unfold phaseStep; simp (maxDischargeDepth := 40) [h]

@[simp] theorem clearRead_canon (a0 a1 s) (h : s.canon) : (clearRead a0 a1 s).canon := by
  unfold clearRead; simp (maxDischargeDepth := 40) [h]

@[simp] theorem mailTelemetryRead_canon (a0 a1 a2 s) (h : s.canon) : (mailTelemetryRead a0 a1 a2 s).canon := by
  unfold mailTelemetryRead
  try simp +contextual (maxDischargeDepth := 40) [h]
  repeat' (first | (split <;> try simp +contextual (maxDischargeDepth := 40) [*]) | (refine foldl_canon _ _ _ (fun _ _ _ => ?_) ?_ <;> try simp +contextual (maxDischargeDepth := 40) [*]) | (refine orRefuse_canon _ _ _ _ _ _ ?_ (fun _ _ _ => ?_) <;> try simp +contextual (maxDischargeDepth := 40) [*]))

end Sys2Proof.Machine
end

