-- ==== Sys2Proof/Laws/Kernel.lean ====
section
/-!
SUPPORT. The kernel step once and for all: which op a member stands at, and what the step makes of each of the four ways an
op can answer (R131, R144).
-/

-- One proof after another: in parallel each asks for a thread and its stack.
set_option Elab.async false
set_option linter.all false

namespace Sys2Proof.Machine
open Sys2Proof.Safety

/-- The op is that of the member named. -/
theorem opAt_ref {may : Task → Member → Bool} {s : State} {m : MRef} {k : KOp} (h : opAt may s m = some k) : k.ref = m := by
  unfold opAt at h
  repeat' split at h
  all_goals first | (cases h; rfl) | cases h

theorem currentOp_ref {s : State} {m : MRef} {k : KOp} (h : currentOp s m = some k) : k.ref = m := opAt_ref h

/-- The op carries the member, its task and its graph as the state has them, and the test allows it. -/
theorem opAt_member {may : Task → Member → Bool} {s : State} {m : MRef} {k : KOp} (h : opAt may s m = some k) :
    s.member? m = some k.mem ∧ s.task? m.slot m.task = some k.t ∧ s.graph? m.slot = some k.g ∧ may k.t k.mem = true := by
  unfold opAt at h
  split at h
  · cases h
  split at h
  · cases h
  split at h
  · split at h
    · split at h
      · cases h
        simp_all [State.member?, State.task?]
      · cases h
    · cases h
  · cases h

theorem currentOp_member {s : State} {m : MRef} {k : KOp} (h : currentOp s m = some k) :
    s.member? m = some k.mem ∧ s.task? m.slot m.task = some k.t ∧ s.graph? m.slot = some k.g :=
  ⟨(opAt_member h).1, (opAt_member h).2.1, (opAt_member h).2.2.1⟩

/-- An op of no engine and no transfer counts nowhere (R479). -/
theorem noteIssue_none {k : KOp} (h : opActs k = []) (s : State) : noteIssue k s = s := by
  simp [noteIssue, h]

/-- An op that goes on is counted where it issues, and leaves the member at the next one. -/
theorem kop_next {s t : State} {m : MRef} {opc : Nat} {k : KOp} (h : StandsAt s m opc k) {body : KOp → State → KRes}
    {f : Member → Member} (hb : body k s = .next f t) : kop m opc body s = (noteIssue k t).updMember m (advanced k f) := by
  simp [kop, h.1, h.2.1, h.2.2, hb, issueOp, finishOp, currentOp_ref h.1]; rfl

/-- An op that jumps leaves it where it says. -/
theorem kop_jump {s t : State} {m : MRef} {opc : Nat} {k : KOp} (h : StandsAt s m opc k) {body : KOp → State → KRes}
    {pc : Nat} {f : Member → Member} (hb : body k s = .jump pc f t) :
    kop m opc body s = t.updMember m (jumped pc f) := by
  simp [kop, h.1, h.2.1, h.2.2, hb, issueOp, finishOp, currentOp_ref h.1]; rfl

/-- An op that waits leaves it where it is. -/
theorem kop_wait {s t : State} {m : MRef} {opc : Nat} {k : KOp} (h : StandsAt s m opc k) {body : KOp → State → KRes}
    {w : Waiting} (hb : body k s = .wait w t) : kop m opc body s = t.updMember m (waits w s.time.ft) := by
  simp [kop, h.1, h.2.1, h.2.2, hb, issueOp, finishOp, currentOp_ref h.1]; rfl

/-- An op that stops ends its gang. -/
theorem kop_stop {s t : State} {m : MRef} {opc : Nat} {k : KOp} (h : StandsAt s m opc k) {body : KOp → State → KRes}
    {st : Nat} (hb : body k s = .stop st t) : kop m opc body s = stopMember m st t := by
  simp [kop, h.1, h.2.1, h.2.2, hb, issueOp, finishOp, currentOp_ref h.1]

/-- A member that stands at another op does nothing. -/
theorem kop_other {s : State} {m : MRef} {opc : Nat} {k : KOp} (h : currentOp s m = some k) (ho : opcOf k.word ≠ opc)
    (body : KOp → State → KRes) : kop m opc body s = s := by
  simp [kop, h, ho]

/-- A member that may not run does nothing, but for the status it may meet in the core cycle in which its gang stopped. -/
theorem kop_none {s : State} {m : MRef} {opc : Nat} (h : currentOp s m = none) (body : KOp → State → KRes) :
    kop m opc body s = kopStopped m opc body s := by
  simp [kop, h]

/-- Outside that core cycle it does nothing at all. -/
theorem kopStopped_none {s : State} {m : MRef} {opc : Nat} (h : stoppedOp s m = none)
    (body : KOp → State → KRes) : kopStopped m opc body s = s := by
  simp [kopStopped, h]

end Sys2Proof.Machine
end

