-- ==== Sys2Proof/Laws/Mail.lean ====
section
/-!
SUPPORT. The mail step once and for all: what it does to a message that is accepted, to one that is refused, and to a sender
with no such message; what taking a message leaves alone; and where an answer goes (R609, R628 to R631, R629, R737).
-/

-- One proof after another: in parallel each asks for a thread and its stack.
set_option Elab.async false
set_option linter.all false

namespace Sys2Proof.Machine
open Sys2Proof.Safety

theorem takeMail_offered {s : State} {src : MailSrc} {m : Bytes} {code : Nat} (h : Offered s src code m)
    (sel : Bytes → Bool) (hs : sel m = true) :
    takeMail src (fun m => mailCode m == some code && sel m) s = some (m, dropMail src m s) := by
  simp [takeMail, h.1, h.2, hs]

/-- An accepted message runs its body on the state without it. -/
theorem mailStepSel_accepted {s : State} {src : MailSrc} {m : Bytes} {code : Nat} (h : Accepted s src code m)
    (sel : Bytes → Bool) (body : Nat → Bytes → State → State) (hs : sel m = true) :
    mailStepSel src code sel body s = checkpointStep (body (corrOf m) m (dropMail src m s)) := by
  simp [mailStepSel, takeMail_offered h.1 sel hs, h.2, corrOf]

theorem mailStep_accepted {s : State} {src : MailSrc} {m : Bytes} {code : Nat} (h : Accepted s src code m)
    (body : Nat → Bytes → State → State) :
    mailStep src code body s = checkpointStep (body (corrOf m) m (dropMail src m s)) :=
  mailStepSel_accepted h _ _ rfl

/-- A refused message is answered with the status of the first row that applies. -/
theorem mailStepSel_refused {s : State} {src : MailSrc} {m : Bytes} {code : Nat} (h : Offered s src code m)
    (sel : Bytes → Bool) (body : Nat → Bytes → State → State) (hs : sel m = true)
    (hr : mailRefusal (dropMail src m s) src code m ≠ 0) :
    mailStepSel src code sel body s =
      checkpointStep (answer src code (corrOf m) (mailRefusal (dropMail src m s) src code m) [] (dropMail src m s)) := by
  simp [mailStepSel, takeMail_offered h sel hs, hr, corrOf]

theorem mailStep_refused {s : State} {src : MailSrc} {m : Bytes} {code : Nat} (h : Offered s src code m)
    (body : Nat → Bytes → State → State) (hr : mailRefusal (dropMail src m s) src code m ≠ 0) :
    mailStep src code body s =
      checkpointStep (answer src code (corrOf m) (mailRefusal (dropMail src m s) src code m) [] (dropMail src m s)) :=
  mailStepSel_refused h _ _ rfl hr

/-- Without such a message nothing happens. -/
theorem mailStepSel_none {s : State} {src : MailSrc} {code : Nat} (sel : Bytes → Bool) (body : Nat → Bytes → State → State)
    (h : ∀ m, Offered s src code m → sel m = false) : mailStepSel src code sel body s = s := by
  unfold mailStepSel takeMail
  cases hf : frontMail s src with
  | none => simp
  | some m =>
    by_cases hc : mailCode m = some code
    · simp [hc, h m ⟨hf, hc⟩]
    · simp [hc]

theorem mailStep_none {s : State} {src : MailSrc} {code : Nat} (body : Nat → Bytes → State → State)
    (h : ∀ m, ¬ Offered s src code m) : mailStep src code body s = s :=
  mailStepSel_none _ _ fun m hm => absurd hm (h m)

/-! ### Taking a message -/

theorem dropMail_mem (src : MailSrc) (m : Bytes) (s : State) : (dropMail src m s).mem = s.mem := by cases src <;> rfl
theorem dropMail_pound (src : MailSrc) (m : Bytes) (s : State) : (dropMail src m s).pound = s.pound := by cases src <;> rfl
theorem dropMail_work (src : MailSrc) (m : Bytes) (s : State) : (dropMail src m s).work = s.work := by cases src <;> rfl
theorem dropMail_barges (src : MailSrc) (m : Bytes) (s : State) : (dropMail src m s).net.barges = s.net.barges := by
  cases src <;> rfl
theorem dropMail_bargeNo (src : MailSrc) (m : Bytes) (s : State) : (dropMail src m s).net.bargeNo = s.net.bargeNo := by
  cases src <;> rfl
theorem dropMail_time (src : MailSrc) (m : Bytes) (s : State) : (dropMail src m s).time = s.time := by cases src <;> rfl
theorem dropMail_log (src : MailSrc) (m : Bytes) (s : State) : (dropMail src m s).log = s.log := by cases src <;> rfl
theorem dropMail_stk (src : MailSrc) (m : Bytes) (s : State) : (dropMail src m s).stk = s.stk := by cases src <;> rfl
theorem dropMail_base (src : MailSrc) (m : Bytes) (s : State) : (dropMail src m s).base = s.base := by cases src <;> rfl
theorem dropMail_light (src : MailSrc) (m : Bytes) (s : State) : (dropMail src m s).light = s.light := by cases src <;> rfl
theorem dropMail_torus (src : MailSrc) (m : Bytes) (s : State) : (dropMail src m s).torus = s.torus := by cases src <;> rfl
theorem dropMail_power (src : MailSrc) (m : Bytes) (s : State) : (dropMail src m s).power = s.power := by cases src <;> rfl
theorem dropMail_lk (src : MailSrc) (m : Bytes) (s : State) : (dropMail src m s).lk = s.lk := by cases src <;> rfl
theorem dropMail_boot (src : MailSrc) (m : Bytes) (s : State) : (dropMail src m s).boot = s.boot := by cases src <;> rfl
theorem dropMail_flash (src : MailSrc) (m : Bytes) (s : State) : (dropMail src m s).flash = s.flash := by cases src <;> rfl
theorem dropMail_pins (src : MailSrc) (m : Bytes) (s : State) : (dropMail src m s).pins = s.pins := by cases src <;> rfl
theorem dropMail_freeCtr (src : MailSrc) (m : Bytes) (s : State) : (dropMail src m s).freeCtr = s.freeCtr := by
  cases src <;> rfl
theorem dropMail_fuses (src : MailSrc) (m : Bytes) (s : State) : (dropMail src m s).sec.fuses = s.sec.fuses := by
  cases src <;> rfl
theorem dropMail_vault (src : MailSrc) (m : Bytes) (s : State) : (dropMail src m s).sec.vault = s.sec.vault := by
  cases src <;> rfl
theorem dropMail_halted (src : MailSrc) (m : Bytes) (s : State) : (dropMail src m s).sec.halted = s.sec.halted := by
  cases src <;> rfl
theorem dropMail_seeds (src : MailSrc) (m : Bytes) (s : State) : (dropMail src m s).sec.seeds = s.sec.seeds := by
  cases src <;> rfl
theorem dropMail_awaitSlot0 (src : MailSrc) (m : Bytes) (s : State) :
    (dropMail src m s).sec.awaitSlot0 = s.sec.awaitSlot0 := by cases src <;> rfl

/-- Taking a message leaves the handle of its sender. -/
theorem dropMail_srcHandle (src : MailSrc) (m : Bytes) (s : State) : srcHandle (dropMail src m s) src = srcHandle s src := by
  cases src with
  | jtag => rfl
  | session i =>
    have := State.updSession_session s i (fun ss => { ss with inbox := ss.inbox.erase m })
    simp only [State.session] at this
    simp [srcHandle, sessionHandle, dropMail, State.session, this]

/-- Taking a message leaves the debug level of its sender. -/
theorem dropMail_senderLevel (src : MailSrc) (m : Bytes) (s : State) :
    senderLevel (dropMail src m s) src = senderLevel s src := by
  cases src with
  | jtag => rfl
  | session i =>
    have := State.updSession_session s i (fun ss => { ss with inbox := ss.inbox.erase m })
    simp only [State.session] at this
    simp [senderLevel, dropMail, State.session, this]

/-! ### Answers -/

/-- An answer to an open session is one more message in its outbound slots. -/
theorem answer_opened {s : State} {i : Nat} (h : (s.session i).st = .opened) (code corr st : Nat) (extra : Bytes) :
    answer (.session i) code corr st extra s = queueMail i .reply (replyHeader code corr st ++ extra) s := by
  simp [answer, sendReply, srcHandle, sessionLive, h]

/-- An answer to a session that is not open is lost (R606). -/
theorem answer_gone {s : State} {i : Nat} (h : (s.session i).st ≠ .opened) (code corr st : Nat) (extra : Bytes) :
    answer (.session i) code corr st extra s = s := by
  simp [answer, sendReply, srcHandle, sessionLive, h]

/-- An answer to JTAG fills its reply register (R783). -/
theorem answer_jtag (s : State) (code corr st : Nat) (extra : Bytes) :
    answer .jtag code corr st extra s = { s with sec.jtag.reply := replyHeader code corr st ++ extra } := rfl

theorem queueMail_session (i : Nat) (kind : OutKind) (body : Bytes) (s : State) :
    ((queueMail i kind body s).session i).outbox = (s.session i).outbox ++ [{ kind := kind, body := body }] := by
  simp [queueMail]

end Sys2Proof.Machine
end

