-- ==== Sys2Proof/Laws/Ops.lean ====
section
/-!
SUPPORT. What the shared operations can do, said once: issuing a stamp, writing the event log, raising a detected fault,
beginning and ending work whose reply comes later (R316, R317, R368, R629, R826, R889).
-/

-- One proof after another: in parallel each asks for a thread and its stack.
set_option Elab.async false
set_option linter.all false

namespace Sys2Proof.Machine

/-! ### Free values -/

theorem draw_fst (s : State) : (draw s).1 = Config.free s.freeCtr := rfl
theorem draw_snd (s : State) : (draw s).2 = { s with freeCtr := s.freeCtr + 1 } := rfl

/-! ### Stamps (R316, R317) -/

/-- A request for a stamp is served or held, and nothing else. -/
theorem issueStamp_cases (b : Nat) (h : HeldStamp) (s : State) :
    ((s.issuer b).held = [] ∧ nextSeq b (timeField s.ft) (s.issuer b) < 128 ∧ issuerDown s b = false ∧
      (issueStamp b h s).1 = some (mkStamp (timeField s.ft) b (nextSeq b (timeField s.ft) (s.issuer b))) ∧
      (issueStamp b h s).2.time.firstStamp = true) ∨
    (((s.issuer b).held ≠ [] ∨ 128 ≤ nextSeq b (timeField s.ft) (s.issuer b) ∨ issuerDown s b = true) ∧ (issueStamp b h s).1 = none ∧
      ((issueStamp b h s).2.issuer b).held = (s.issuer b).held ++ [h]) := by
  unfold issueStamp
  by_cases hc : (s.issuer b).held = [] ∧ nextSeq b (timeField s.ft) (s.issuer b) < 128 ∧ (!issuerDown s b) = true
  · left; dsimp only; rw [if_pos hc]; simp_all
  · right
    dsimp only; rw [if_neg hc]
    refine ⟨?_, rfl, by simp⟩
    by_cases h1 : (s.issuer b).held = []
    · by_cases h2 : nextSeq b (timeField s.ft) (s.issuer b) < 128
      · exact Or.inr (Or.inr (by simpa [h1, h2] using hc))
      · exact Or.inr (Or.inl (Nat.not_lt.mp h2))
    · exact Or.inl h1

/-- A request for a stamp touches only the issuer and the mark of the first stamp. -/
theorem issueStamp_time (b : Nat) (h : HeldStamp) (s : State) :
    ∃ t : TimeState, (issueStamp b h s).2 = { s with time := t } ∧ t.ft = s.time.ft ∧ t.loaded = s.time.loaded := by
  unfold issueStamp
  dsimp only
  split <;> simp [State.updIssuer]

/-- A stamp's instant, berth and SEQ are its TIME and the fields it was made from. -/
theorem mkStamp_time {t b q : Nat} (hb : b < 32) (hq : q < 128) : stampTime (mkStamp t b q) = t := by
  simp only [stampTime, mkStamp]; omega

/-! ### The event log (R826, R827) -/

/-- The entry written is the last of the log, and the sequence number moves on. -/
theorem appendEntry_last (e : LogEntry) (s : State) :
    (appendEntry e s).log.entries.getLast? = some e ∧ (appendEntry e s).log.nextLseq = e.lseq + 1 := by
  unfold appendEntry
  split
  · split <;> simp
  · simp

/-- The log never holds more than 4,096 entries. -/
theorem appendEntry_length (e : LogEntry) (s : State) (h : s.log.entries.length ≤ 4096) :
    (appendEntry e s).log.entries.length ≤ 4096 := by
  unfold appendEntry
  split
  · rename_i old rest he
    split
    · simp; omega
    · simp [he] at h ⊢; omega
  · simp

/-- Below that limit an entry only joins the log. -/
theorem appendEntry_room (e : LogEntry) (s : State) (h : s.log.entries.length < 4096) :
    appendEntry e s =
      { s with log.entries := s.log.entries ++ [e], log.nextLseq := e.lseq + 1, log.written := satInc s.log.written } := by
  unfold appendEntry
  split
  · simp [h]
  · rename_i he; simp [he]

/-- Before fabric time is loaded an entry waits for its stamp (R816). -/
theorem logEventR_unloaded (r : Bool) (code : Nat) (args : Bytes) (s : State) (h : s.time.loaded = false) :
    logEventR r code args s = appendEntry
      { lseq := s.log.nextLseq, code := code, rollback := r, heldBoot := true, unlocked := s.time.mode != 2, args := args,
        stamp := none, ft := s.ft, source := nativeAddr s, serial := s.pound.committed } s := by
  simp [logEventR, h]

/-! ### Detected faults (R368, R889) -/

/-- With no pound open, or the module stranded, a detected fault is an event alone. -/
theorem raiseFault_idle (code : Nat) (args : Bytes) (s : State) (h : poundActive s = false) :
    raiseFault code args s = logEvent code args { s with boot.faultSeen := true } := by
  have : poundActive { s with boot.faultSeen := true } = false := h
  simp [raiseFault, this]

/-! ### Work with a later reply (R629) -/

/-- Work begun stands under the next number. -/
theorem addJob_find (kind : JobKind) (src : MailSrc) (code corr : Nat) (s : State) :
    Tab.find? s.work.jobNo (addJob kind src code corr s).work.jobs =
      some { kind := kind, src := src, handle := srcHandle s src, code := code, corr := corr, since := s.ft } := by
  simp [addJob]

theorem addJob_find_ne (kind : JobKind) (src : MailSrc) (code corr n : Nat) (s : State) (h : n ≠ s.work.jobNo) :
    Tab.find? n (addJob kind src code corr s).work.jobs = Tab.find? n s.work.jobs := by
  simp [addJob, Tab.find?_put_ne _ _ _ _ h]

/-- Work ended is forgotten, and its reply goes where it was asked for. -/
theorem endJob_some {s : State} {n : Nat} {j : Job} (h : Tab.find? n s.work.jobs = some j) (st : Nat) (extra : Bytes) :
    endJob n st extra s =
      sendReply j.src j.handle (replyHeader j.code j.corr st ++ extra) { s with work.jobs := Tab.del n s.work.jobs } := by
  simp [endJob, h]

theorem endJob_none {s : State} {n : Nat} (h : Tab.find? n s.work.jobs = none) (st : Nat) (extra : Bytes) :
    endJob n st extra s = s := by
  simp [endJob, h]

end Sys2Proof.Machine
end

