-- ==== Sys2Proof/Laws/PerInstr.lean ====
section
/-!
SUPPORT. Statements made for every command: a well-formed mail command comes from JTAG or from one of the 4,096 session indices
(R587, R633).
-/

-- One proof after another: in parallel each asks for a thread and its stack.
set_option Elab.async false
set_option linter.all false

namespace Sys2Proof.Laws.Sender

/-- A well-formed command's sender names a session index of the module. -/
def Statement (i : Instr) : Prop := i.wf = true → ∀ k, i.sender = some (.session k) → k < 4096

theorem mailRefusedUnparsed (x0 : MailSrc) : Statement (.mailRefusedUnparsed x0) := by
  rintro h k ⟨⟩
  simpa [Instr.wf, srcOk] using h

theorem identify (x0 : MailSrc) : Statement (.identify x0) := by
  rintro h k ⟨⟩
  simpa [Instr.wf, srcOk] using h

theorem ftRead (x0 : MailSrc) : Statement (.ftRead x0) := by
  rintro h k ⟨⟩
  simpa [Instr.wf, srcOk] using h

theorem telemetryRead (x0 : MailSrc) : Statement (.telemetryRead x0) := by
  rintro h k ⟨⟩
  simpa [Instr.wf, srcOk] using h

theorem eventSubscribe (x0 : MailSrc) : Statement (.eventSubscribe x0) := by
  rintro h k ⟨⟩
  simpa [Instr.wf, srcOk] using h

theorem eventRead (x0 : MailSrc) : Statement (.eventRead x0) := by
  rintro h k ⟨⟩
  simpa [Instr.wf, srcOk] using h

theorem bufCreate (x0 : MailSrc) : Statement (.bufCreate x0) := by
  rintro h k ⟨⟩
  simpa [Instr.wf, srcOk] using h

theorem bufFree (x0 : MailSrc) : Statement (.bufFree x0) := by
  rintro h k ⟨⟩
  simpa [Instr.wf, srcOk] using h

theorem rbufCreate (x0 : MailSrc) : Statement (.rbufCreate x0) := by
  rintro h k ⟨⟩
  simpa [Instr.wf, srcOk] using h

theorem rbufRemoteAnswer (x0 : Nat) (x1 : Bool) (x2 : Nat) : Statement (.rbufRemoteAnswer x0 x1 x2) := by
  rintro - k ⟨⟩

theorem rbufCreateTimeout (x0 : Nat) : Statement (.rbufCreateTimeout x0) := by
  rintro - k ⟨⟩

theorem memRead (x0 : MailSrc) : Statement (.memRead x0) := by
  rintro h k ⟨⟩
  simpa [Instr.wf, srcOk] using h

theorem bargeOpen (x0 : MailSrc) : Statement (.bargeOpen x0) := by
  rintro h k ⟨⟩
  simpa [Instr.wf, srcOk] using h

theorem bargeCancel (x0 : MailSrc) : Statement (.bargeCancel x0) := by
  rintro h k ⟨⟩
  simpa [Instr.wf, srcOk] using h

theorem kernelLoad (x0 : MailSrc) : Statement (.kernelLoad x0) := by
  rintro h k ⟨⟩
  simpa [Instr.wf, srcOk] using h

theorem kernelLoweringDone (x0 : Nat) : Statement (.kernelLoweringDone x0) := by
  rintro - k ⟨⟩

theorem kernelUnload (x0 : MailSrc) : Statement (.kernelUnload x0) := by
  rintro h k ⟨⟩
  simpa [Instr.wf, srcOk] using h

theorem graphSubmit (x0 : MailSrc) : Statement (.graphSubmit x0) := by
  rintro h k ⟨⟩
  simpa [Instr.wf, srcOk] using h

theorem graphCheckDone (x0 : Nat) : Statement (.graphCheckDone x0) := by
  rintro - k ⟨⟩

theorem graphCancel (x0 : MailSrc) : Statement (.graphCancel x0) := by
  rintro h k ⟨⟩
  simpa [Instr.wf, srcOk] using h

theorem poundClose (x0 : MailSrc) : Statement (.poundClose x0) := by
  rintro h k ⟨⟩
  simpa [Instr.wf, srcOk] using h

theorem poundStatus (x0 : MailSrc) : Statement (.poundStatus x0) := by
  rintro h k ⟨⟩
  simpa [Instr.wf, srcOk] using h

theorem flatSet (x0 : MailSrc) : Statement (.flatSet x0) := by
  rintro h k ⟨⟩
  simpa [Instr.wf, srcOk] using h

theorem passageOpen (x0 : MailSrc) : Statement (.passageOpen x0) := by
  rintro h k ⟨⟩
  simpa [Instr.wf, srcOk] using h

theorem passageConfirmed (x0 : Nat) : Statement (.passageConfirmed x0) := by
  rintro - k ⟨⟩

theorem passageClose (x0 : MailSrc) : Statement (.passageClose x0) := by
  rintro h k ⟨⟩
  simpa [Instr.wf, srcOk] using h

theorem configRead (x0 : MailSrc) : Statement (.configRead x0) := by
  rintro h k ⟨⟩
  simpa [Instr.wf, srcOk] using h

theorem configWrite (x0 : MailSrc) : Statement (.configWrite x0) := by
  rintro h k ⟨⟩
  simpa [Instr.wf, srcOk] using h

theorem calibRead (x0 : MailSrc) : Statement (.calibRead x0) := by
  rintro h k ⟨⟩
  simpa [Instr.wf, srcOk] using h

theorem calibWrite (x0 : MailSrc) : Statement (.calibWrite x0) := by
  rintro h k ⟨⟩
  simpa [Instr.wf, srcOk] using h

theorem powerSet (x0 : MailSrc) : Statement (.powerSet x0) := by
  rintro h k ⟨⟩
  simpa [Instr.wf, srcOk] using h

theorem powerTransitionDone : Statement (.powerTransitionDone) := by
  rintro - k ⟨⟩

theorem resume (x0 : MailSrc) : Statement (.resume x0) := by
  rintro h k ⟨⟩
  simpa [Instr.wf, srcOk] using h

theorem moduleReset (x0 : MailSrc) : Statement (.moduleReset x0) := by
  rintro h k ⟨⟩
  simpa [Instr.wf, srcOk] using h

theorem moduleResetTimer : Statement (.moduleResetTimer) := by
  rintro - k ⟨⟩

theorem updateStage (x0 : MailSrc) : Statement (.updateStage x0) := by
  rintro h k ⟨⟩
  simpa [Instr.wf, srcOk] using h

theorem slotProgramDone : Statement (.slotProgramDone) := by
  rintro - k ⟨⟩

theorem healthConfirm (x0 : MailSrc) : Statement (.healthConfirm x0) := by
  rintro h k ⟨⟩
  simpa [Instr.wf, srcOk] using h

theorem attest (x0 : MailSrc) : Statement (.attest x0) := by
  rintro h k ⟨⟩
  simpa [Instr.wf, srcOk] using h

theorem keyInstall (x0 : MailSrc) : Statement (.keyInstall x0) := by
  rintro h k ⟨⟩
  simpa [Instr.wf, srcOk] using h

theorem lifecycleSet (x0 : MailSrc) : Statement (.lifecycleSet x0) := by
  rintro h k ⟨⟩
  simpa [Instr.wf, srcOk] using h

theorem debugOpen (x0 : MailSrc) : Statement (.debugOpen x0) := by
  rintro h k ⟨⟩
  simpa [Instr.wf, srcOk] using h

theorem debugHalt (x0 : MailSrc) : Statement (.debugHalt x0) := by
  rintro h k ⟨⟩
  simpa [Instr.wf, srcOk] using h

theorem debugStep (x0 : MailSrc) : Statement (.debugStep x0) := by
  rintro h k ⟨⟩
  simpa [Instr.wf, srcOk] using h

theorem debugRun (x0 : MailSrc) : Statement (.debugRun x0) := by
  rintro h k ⟨⟩
  simpa [Instr.wf, srcOk] using h

theorem debugRead (x0 : MailSrc) : Statement (.debugRead x0) := by
  rintro h k ⟨⟩
  simpa [Instr.wf, srcOk] using h

theorem debugClose (x0 : MailSrc) : Statement (.debugClose x0) := by
  rintro h k ⟨⟩
  simpa [Instr.wf, srcOk] using h

theorem ethFrameInvalid (x0 : PortId) (x1 : Bytes) : Statement (.ethFrameInvalid x0 x1) := by
  rintro - k ⟨⟩

theorem ethRxBufferFull (x0 : PortId) (x1 : Nat) : Statement (.ethRxBufferFull x0 x1) := by
  rintro - k ⟨⟩

theorem pfcPauseReceived (x0 : PortId) (x1 : Nat) (x2 : Nat) : Statement (.pfcPauseReceived x0 x1 x2) := by
  rintro - k ⟨⟩

theorem arpRequest (x0 : PortId) (x1 : Nat) (x2 : Nat) (x3 : Nat) : Statement (.arpRequest x0 x1 x2 x3) := by
  rintro - k ⟨⟩

theorem neighborSolicitation (x0 : PortId) (x1 : Nat) (x2 : Nat) (x3 : Nat) : Statement (.neighborSolicitation x0 x1 x2 x3) := by
  rintro - k ⟨⟩

theorem ptpMessage (x0 : PortId) (x1 : Nat) (x2 : PtpKind) : Statement (.ptpMessage x0 x1 x2) := by
  rintro - k ⟨⟩

theorem portLinkChange (x0 : PortId) (x1 : Bool) : Statement (.portLinkChange x0 x1) := by
  rintro - k ⟨⟩

theorem ecdenMalformedFrame (x0 : RxFrame) : Statement (.ecdenMalformedFrame x0) := by
  rintro - k ⟨⟩

theorem ecdenAuthFail (x0 : RxFrame) : Statement (.ecdenAuthFail x0) := by
  rintro - k ⟨⟩

theorem ecdenOpen (x0 : RxFrame) : Statement (.ecdenOpen x0) := by
  rintro - k ⟨⟩

theorem ecdenMailFrame (x0 : RxFrame) : Statement (.ecdenMailFrame x0) := by
  rintro - k ⟨⟩

theorem ecdenDataFrame (x0 : RxFrame) : Statement (.ecdenDataFrame x0) := by
  rintro - k ⟨⟩

theorem ecdenAckFrame (x0 : RxFrame) : Statement (.ecdenAckFrame x0) := by
  rintro - k ⟨⟩

theorem ecdenCloseFrame (x0 : RxFrame) : Statement (.ecdenCloseFrame x0) := by
  rintro - k ⟨⟩

theorem unknownSessionFrame (x0 : RxFrame) : Statement (.unknownSessionFrame x0) := by
  rintro - k ⟨⟩

theorem ackTimer (x0 : Nat) : Statement (.ackTimer x0) := by
  rintro - k ⟨⟩

theorem creditRiseAck (x0 : Nat) : Statement (.creditRiseAck x0) := by
  rintro - k ⟨⟩

theorem engineVisit (x0 : Nat) : Statement (.engineVisit x0) := by
  rintro - k ⟨⟩

theorem retransmitTimeout (x0 : Nat) (x1 : Nat) : Statement (.retransmitTimeout x0 x1) := by
  rintro - k ⟨⟩

theorem sessionStrand (x0 : Nat) : Statement (.sessionStrand x0) := by
  rintro - k ⟨⟩

theorem strandedIndexFree (x0 : Nat) : Statement (.strandedIndexFree x0) := by
  rintro - k ⟨⟩

theorem kNop (x0 : MRef) : Statement (.kNop x0) := by
  rintro - k ⟨⟩

theorem kEnd (x0 : MRef) : Statement (.kEnd x0) := by
  rintro - k ⟨⟩

theorem kLoop (x0 : MRef) : Statement (.kLoop x0) := by
  rintro - k ⟨⟩

theorem kEndloop (x0 : MRef) : Statement (.kEndloop x0) := by
  rintro - k ⟨⟩

theorem kTilefor (x0 : MRef) : Statement (.kTilefor x0) := by
  rintro - k ⟨⟩

theorem kIf (x0 : MRef) : Statement (.kIf x0) := by
  rintro - k ⟨⟩

theorem kElse (x0 : MRef) : Statement (.kElse x0) := by
  rintro - k ⟨⟩

theorem kEndif (x0 : MRef) : Statement (.kEndif x0) := by
  rintro - k ⟨⟩

theorem kImov (x0 : MRef) : Statement (.kImov x0) := by
  rintro - k ⟨⟩

theorem kIalu (x0 : MRef) : Statement (.kIalu x0) := by
  rintro - k ⟨⟩

theorem kQuery (x0 : MRef) : Statement (.kQuery x0) := by
  rintro - k ⟨⟩

theorem kParam (x0 : MRef) : Statement (.kParam x0) := by
  rintro - k ⟨⟩

theorem kVdim (x0 : MRef) : Statement (.kVdim x0) := by
  rintro - k ⟨⟩

theorem kVsub (x0 : MRef) : Statement (.kVsub x0) := by
  rintro - k ⟨⟩

theorem kTload (x0 : MRef) : Statement (.kTload x0) := by
  rintro - k ⟨⟩

theorem kTstore (x0 : MRef) : Statement (.kTstore x0) := by
  rintro - k ⟨⟩

theorem kTfill (x0 : MRef) : Statement (.kTfill x0) := by
  rintro - k ⟨⟩

theorem kXfer (x0 : MRef) : Statement (.kXfer x0) := by
  rintro - k ⟨⟩

theorem xferDone (x0 : MRef) (x1 : Nat) : Statement (.xferDone x0 x1) := by
  rintro - k ⟨⟩

theorem kWait (x0 : MRef) : Statement (.kWait x0) := by
  rintro - k ⟨⟩

theorem kMma (x0 : MRef) : Statement (.kMma x0) := by
  rintro - k ⟨⟩

theorem kAccmov (x0 : MRef) : Statement (.kAccmov x0) := by
  rintro - k ⟨⟩

theorem kEbin (x0 : MRef) : Statement (.kEbin x0) := by
  rintro - k ⟨⟩

theorem kEfma (x0 : MRef) : Statement (.kEfma x0) := by
  rintro - k ⟨⟩

theorem kEun (x0 : MRef) : Statement (.kEun x0) := by
  rintro - k ⟨⟩

theorem kCmp (x0 : MRef) : Statement (.kCmp x0) := by
  rintro - k ⟨⟩

theorem kSel (x0 : MRef) : Statement (.kSel x0) := by
  rintro - k ⟨⟩

theorem kRed (x0 : MRef) : Statement (.kRed x0) := by
  rintro - k ⟨⟩

theorem kTrans (x0 : MRef) : Statement (.kTrans x0) := by
  rintro - k ⟨⟩

theorem kGather (x0 : MRef) : Statement (.kGather x0) := by
  rintro - k ⟨⟩

theorem kScatter (x0 : MRef) : Statement (.kScatter x0) := by
  rintro - k ⟨⟩

theorem kSort (x0 : MRef) : Statement (.kSort x0) := by
  rintro - k ⟨⟩

theorem kCvt (x0 : MRef) : Statement (.kCvt x0) := by
  rintro - k ⟨⟩

theorem kSend (x0 : MRef) : Statement (.kSend x0) := by
  rintro - k ⟨⟩

theorem kRecv (x0 : MRef) : Statement (.kRecv x0) := by
  rintro - k ⟨⟩

theorem msgArrival (x0 : Nat) : Statement (.msgArrival x0) := by
  rintro - k ⟨⟩

theorem staleMessageHandle (x0 : Nat) : Statement (.staleMessageHandle x0) := by
  rintro - k ⟨⟩

theorem kColl (x0 : MRef) : Statement (.kColl x0) := by
  rintro - k ⟨⟩

theorem collDone (x0 : CollRef) : Statement (.collDone x0) := by
  rintro - k ⟨⟩

theorem kStamp (x0 : MRef) : Statement (.kStamp x0) := by
  rintro - k ⟨⟩

theorem kBarrier (x0 : MRef) : Statement (.kBarrier x0) := by
  rintro - k ⟨⟩

theorem barrierRelease (x0 : Nat) (x1 : Nat) : Statement (.barrierRelease x0 x1) := by
  rintro - k ⟨⟩

theorem kernelHang (x0 : Nat) (x1 : Nat) : Statement (.kernelHang x0 x1) := by
  rintro - k ⟨⟩

theorem taskTimeout (x0 : Nat) (x1 : Nat) : Statement (.taskTimeout x0 x1) := by
  rintro - k ⟨⟩

theorem admission (x0 : Nat) : Statement (.admission x0) := by
  rintro - k ⟨⟩

theorem taskRebind (x0 : Nat) (x1 : Nat) : Statement (.taskRebind x0 x1) := by
  rintro - k ⟨⟩

theorem cogroupRebind (x0 : Nat) (x1 : Nat) : Statement (.cogroupRebind x0 x1) := by
  rintro - k ⟨⟩

theorem taskRelease (x0 : Nat) : Statement (.taskRelease x0) := by
  rintro - k ⟨⟩

theorem cogroupRelease (x0 : Nat) (x1 : Nat) : Statement (.cogroupRelease x0 x1) := by
  rintro - k ⟨⟩

theorem headTaskStarve (x0 : Nat) : Statement (.headTaskStarve x0) := by
  rintro - k ⟨⟩

theorem cogroupHang (x0 : Nat) (x1 : Nat) : Statement (.cogroupHang x0 x1) := by
  rintro - k ⟨⟩

theorem taskEnd (x0 : Nat) (x1 : Nat) : Statement (.taskEnd x0 x1) := by
  rintro - k ⟨⟩

theorem scratchCycle (x0 : Nat) (x1 : ScratchReq) (x2 : ScratchReq) (x3 : List Nat) : Statement (.scratchCycle x0 x1 x2 x3) := by
  rintro - k ⟨⟩

theorem routerCycle (x0 : Nat) (x1 : List NetPacket) : Statement (.routerCycle x0 x1) := by
  rintro - k ⟨⟩

theorem reductionTableAdd (x0 : Nat) : Statement (.reductionTableAdd x0) := by
  rintro - k ⟨⟩

theorem lockChamberRead (x0 : Nat) (x1 : Nat) (x2 : Nat) : Statement (.lockChamberRead x0 x1 x2) := by
  rintro - k ⟨⟩

theorem fabricTick : Statement (.fabricTick) := by
  rintro - k ⟨⟩

theorem stampStallRelease (x0 : Nat) : Statement (.stampStallRelease x0) := by
  rintro - k ⟨⟩

theorem ftReplicaCheck (x0 : Nat) (x1 : Int) : Statement (.ftReplicaCheck x0 x1) := by
  rintro - k ⟨⟩

theorem timingFrameSend (x0 : Nat) (x1 : Nat) : Statement (.timingFrameSend x0 x1) := by
  rintro - k ⟨⟩

theorem timingFrameReceive (x0 : Nat) (x1 : Nat) (x2 : Option Nat) (x3 : Nat) (x4 : Nat) (x5 : Nat) : Statement (.timingFrameReceive x0 x1 x2 x3 x4 x5) := by
  rintro - k ⟨⟩

theorem ftRefChange (x0 : Bool) : Statement (.ftRefChange x0) := by
  rintro - k ⟨⟩

theorem stepChangeStart (x0 : Nat) : Statement (.stepChangeStart x0) := by
  rintro - k ⟨⟩

theorem avsFrameDone (x0 : AvsResult) : Statement (.avsFrameDone x0) := by
  rintro - k ⟨⟩

theorem glideEnd (x0 : Nat) : Statement (.glideEnd x0) := by
  rintro - k ⟨⟩

theorem stackPllLoss (x0 : Nat) : Statement (.stackPllLoss x0) := by
  rintro - k ⟨⟩

theorem marginMonitor (x0 : Nat) (x1 : Nat) (x2 : List Nat) : Statement (.marginMonitor x0 x1 x2) := by
  rintro - k ⟨⟩

theorem poundDeadline : Statement (.poundDeadline) := by
  rintro - k ⟨⟩

theorem poolThresholdClose : Statement (.poolThresholdClose) := by
  rintro - k ⟨⟩

theorem poundCut : Statement (.poundCut) := by
  rintro - k ⟨⟩

theorem drainEnd : Statement (.drainEnd) := by
  rintro - k ⟨⟩

theorem drainTimeout : Statement (.drainTimeout) := by
  rintro - k ⟨⟩

theorem verdict : Statement (.verdict) := by
  rintro - k ⟨⟩

theorem poundCommit : Statement (.poundCommit) := by
  rintro - k ⟨⟩

theorem versionFold (x0 : Nat) : Statement (.versionFold x0) := by
  rintro - k ⟨⟩

theorem reorderRelease (x0 : Nat) : Statement (.reorderRelease x0) := by
  rintro - k ⟨⟩

theorem memWriteArrival (x0 : Nat) : Statement (.memWriteArrival x0) := by
  rintro - k ⟨⟩

theorem shadowCopyDone (x0 : Nat) : Statement (.shadowCopyDone x0) := by
  rintro - k ⟨⟩

theorem poolWaitResume (x0 : Nat) : Statement (.poolWaitResume x0) := by
  rintro - k ⟨⟩

theorem detectedFault : Statement (.detectedFault) := by
  rintro - k ⟨⟩

theorem rollbackShadowsReturned : Statement (.rollbackShadowsReturned) := by
  rintro - k ⟨⟩

theorem replayOpen : Statement (.replayOpen) := by
  rintro - k ⟨⟩

theorem closeRequestReceive (x0 : Nat) (x1 : Nat) : Statement (.closeRequestReceive x0 x1) := by
  rintro - k ⟨⟩

theorem namedCutReceive (x0 : Nat) (x1 : Option Nat) : Statement (.namedCutReceive x0 x1) := by
  rintro - k ⟨⟩

theorem torusCommitNotice (x0 : Nat) (x1 : Nat) (x2 : Nat) : Statement (.torusCommitNotice x0 x1 x2) := by
  rintro - k ⟨⟩

theorem torusRollbackNotice (x0 : Nat) (x1 : Nat) (x2 : Nat) : Statement (.torusRollbackNotice x0 x1 x2) := by
  rintro - k ⟨⟩

theorem holdExpiry (x0 : Nat) (x1 : Nat) : Statement (.holdExpiry x0 x1) := by
  rintro - k ⟨⟩

theorem linkFrameReceive (x0 : Nat) (x1 : LinkFrame) : Statement (.linkFrameReceive x0 x1) := by
  rintro - k ⟨⟩

theorem nakResend (x0 : Nat) : Statement (.nakResend x0) := by
  rintro - k ⟨⟩

theorem baseParityError (x0 : Nat) (x1 : Nat) (x2 : Nat) : Statement (.baseParityError x0 x1 x2) := by
  rintro - k ⟨⟩

theorem grantPass (x0 : Nat) (x1 : List (Nat × Nat)) (x2 : Nat) : Statement (.grantPass x0 x1 x2) := by
  rintro - k ⟨⟩

theorem fastPortRetarget (x0 : Nat) (x1 : Nat) : Statement (.fastPortRetarget x0 x1) := by
  rintro - k ⟨⟩

theorem creditReturn (x0 : Nat) (x1 : Nat) (x2 : Nat) : Statement (.creditReturn x0 x1 x2) := by
  rintro - k ⟨⟩

theorem lockWindowStart : Statement (.lockWindowStart) := by
  rintro - k ⟨⟩

theorem lockWindowRingDeadline : Statement (.lockWindowRingDeadline) := by
  rintro - k ⟨⟩

theorem basinReduce (x0 : Nat) (x1 : BasePacket) : Statement (.basinReduce x0 x1) := by
  rintro - k ⟨⟩

theorem baseLogicReset (x0 : Nat) : Statement (.baseLogicReset x0) := by
  rintro - k ⟨⟩

theorem baseResetRelease : Statement (.baseResetRelease) := by
  rintro - k ⟨⟩

theorem basePlanReloaded (x0 : List Nat) : Statement (.basePlanReloaded x0) := by
  rintro - k ⟨⟩

theorem failComparatorTrip (x0 : LaserRef) : Statement (.failComparatorTrip x0) := by
  rintro - k ⟨⟩

theorem handoverStart (x0 : LightUnit) : Statement (.handoverStart x0) := by
  rintro - k ⟨⟩

theorem handoverDrainEnd (x0 : LightUnit) : Statement (.handoverDrainEnd x0) := by
  rintro - k ⟨⟩

theorem spareTuned (x0 : LightUnit) (x1 : Bool) : Statement (.spareTuned x0 x1) := by
  rintro - k ⟨⟩

theorem spareVerified (x0 : LightUnit) (x1 : Bool) : Statement (.spareVerified x0 x1) := by
  rintro - k ⟨⟩

theorem handoverSwitch (x0 : LightUnit) : Statement (.handoverSwitch x0) := by
  rintro - k ⟨⟩

theorem handoverLaneCheckEnd (x0 : LightUnit) (x1 : Bool) : Statement (.handoverLaneCheckEnd x0 x1) := by
  rintro - k ⟨⟩

theorem handoverMirrorStop (x0 : LightUnit) : Statement (.handoverMirrorStop x0) := by
  rintro - k ⟨⟩

theorem ringRelock (x0 : RingRef) (x1 : Bool) : Statement (.ringRelock x0 x1) := by
  rintro - k ⟨⟩

theorem calibrationStep (x0 : Nat) (x1 : Nat) (x2 : Int) (x3 : Int) : Statement (.calibrationStep x0 x1 x2 x3) := by
  rintro - k ⟨⟩

theorem governorSlot (x0 : Nat) (x1 : Nat) : Statement (.governorSlot x0 x1) := by
  rintro - k ⟨⟩

theorem memReadReq (x0 : Nat) (x1 : ParitySeen) : Statement (.memReadReq x0 x1) := by
  rintro - k ⟨⟩

theorem dramRefresh (x0 : Nat) (x1 : Nat) (x2 : Nat) : Statement (.dramRefresh x0 x1 x2) := by
  rintro - k ⟨⟩

theorem trackingStep (x0 : Nat) (x1 : Nat) (x2 : Bool) : Statement (.trackingStep x0 x1 x2) := by
  rintro - k ⟨⟩

theorem patrolRead (x0 : Nat) (x1 : Nat) (x2 : ParitySeen) : Statement (.patrolRead x0 x1 x2) := by
  rintro - k ⟨⟩

theorem fibrePacketReceive (x0 : Nat) (x1 : Nat) (x2 : TorusPacket) : Statement (.fibrePacketReceive x0 x1 x2) := by
  rintro - k ⟨⟩

theorem torusLinkTrain (x0 : Nat) (x1 : Nat) (x2 : Nat) (x3 : Nat) (x4 : Nat) : Statement (.torusLinkTrain x0 x1 x2 x3 x4) := by
  rintro - k ⟨⟩

theorem torusWriteAck (x0 : Nat) (x1 : Nat) (x2 : Nat) : Statement (.torusWriteAck x0 x1 x2) := by
  rintro - k ⟨⟩

theorem torusAckReceive (x0 : Nat) (x1 : Nat) (x2 : Nat) : Statement (.torusAckReceive x0 x1 x2) := by
  rintro - k ⟨⟩

theorem torusUnackedCheck : Statement (.torusUnackedCheck) := by
  rintro - k ⟨⟩

theorem remoteReadResend (x0 : Nat) : Statement (.remoteReadResend x0) := by
  rintro - k ⟨⟩

theorem joinSend : Statement (.joinSend) := by
  rintro - k ⟨⟩

theorem joinReceive (x0 : Nat) (x1 : Nat) : Statement (.joinReceive x0 x1) := by
  rintro - k ⟨⟩

theorem partitionLeave : Statement (.partitionLeave) := by
  rintro - k ⟨⟩

theorem partitionNoticeReceive (x0 : Nat) (x1 : Nat) (x2 : Notice) : Statement (.partitionNoticeReceive x0 x1 x2) := by
  rintro - k ⟨⟩

theorem noticeResend (x0 : Nat) : Statement (.noticeResend x0) := by
  rintro - k ⟨⟩

theorem flightRequest (x0 : Nat) (x1 : Nat) (x2 : List (List FlightAct)) : Statement (.flightRequest x0 x1 x2) := by
  rintro - k ⟨⟩

theorem masterLoss : Statement (.masterLoss) := by
  rintro - k ⟨⟩

theorem housekeepingRound (x0 : HouseRound) : Statement (.housekeepingRound x0) := by
  rintro - k ⟨⟩

theorem hkEvaluation (x0 : List (RingRef × Nat)) : Statement (.hkEvaluation x0) := by
  rintro - k ⟨⟩

theorem hkActionInstant : Statement (.hkActionInstant) := by
  rintro - k ⟨⟩

theorem thermalTrip : Statement (.thermalTrip) := by
  rintro - k ⟨⟩

theorem tripLogWritten : Statement (.tripLogWritten) := by
  rintro - k ⟨⟩

theorem miscompare (x0 : Nat) (x1 : Option LkId) (x2 : Nat) : Statement (.miscompare x0 x1 x2) := by
  rintro - k ⟨⟩

theorem lkDecision (x0 : Bool) (x1 : Bool) (x2 : Bool) : Statement (.lkDecision x0 x1 x2) := by
  rintro - k ⟨⟩

theorem checkerInjection (x0 : Bool) : Statement (.checkerInjection x0) := by
  rintro - k ⟨⟩

theorem scrubPass (x0 : ScrubResult) : Statement (.scrubPass x0) := by
  rintro - k ⟨⟩

theorem checkerSelfTest : Statement (.checkerSelfTest) := by
  rintro - k ⟨⟩

theorem checkerSelfTestDone (x0 : Bool) : Statement (.checkerSelfTestDone x0) := by
  rintro - k ⟨⟩

theorem watchdogExpiry (x0 : LkId) : Statement (.watchdogExpiry x0) := by
  rintro - k ⟨⟩

theorem retiredSelfTest (x0 : Bool) (x1 : Bool) : Statement (.retiredSelfTest x0 x1) := by
  rintro - k ⟨⟩

theorem rejoinHelm : Statement (.rejoinHelm) := by
  rintro - k ⟨⟩

theorem moduleStrand : Statement (.moduleStrand) := by
  rintro - k ⟨⟩

theorem controlVoteFail (x0 : JointRef) (x1 : Nat) (x2 : Nat) : Statement (.controlVoteFail x0 x1 x2) := by
  rintro - k ⟨⟩

theorem laneTestDone (x0 : Nat) (x1 : Nat) (x2 : List (Nat × Nat)) : Statement (.laneTestDone x0 x1 x2) := by
  rintro - k ⟨⟩

theorem laneSpareWindow (x0 : Nat) (x1 : Nat) (x2 : Option Nat) : Statement (.laneSpareWindow x0 x1 x2) := by
  rintro - k ⟨⟩

theorem baseGroupSpare (x0 : Nat) (x1 : Nat) (x2 : Bool) : Statement (.baseGroupSpare x0 x1 x2) := by
  rintro - k ⟨⟩

theorem routerFault (x0 : Nat) (x1 : RouterSymptom) : Statement (.routerFault x0 x1) := by
  rintro - k ⟨⟩

theorem routeTableWrite (x0 : Nat) : Statement (.routeTableWrite x0) := by
  rintro - k ⟨⟩

theorem tamperDetect (x0 : Nat) : Statement (.tamperDetect x0) := by
  rintro - k ⟨⟩

theorem tamperClear : Statement (.tamperClear) := by
  rintro - k ⟨⟩

theorem jtagExtest (x0 : Nat) : Statement (.jtagExtest x0) := by
  rintro - k ⟨⟩

theorem jtagIdcode : Statement (.jtagIdcode) := by
  rintro - k ⟨⟩

theorem jtagSamplePreload (x0 : Nat) : Statement (.jtagSamplePreload x0) := by
  rintro - k ⟨⟩

theorem jtagClamp : Statement (.jtagClamp) := by
  rintro - k ⟨⟩

theorem jtagHighz : Statement (.jtagHighz) := by
  rintro - k ⟨⟩

theorem dbgAuth (x0 : Nat) (x1 : Nat) (x2 : Nat) (x3 : Nat) : Statement (.dbgAuth x0 x1 x2 x3) := by
  rintro - k ⟨⟩

theorem dbgMail (x0 : Bytes) : Statement (.dbgMail x0) := by
  rintro - k ⟨⟩

theorem jtagBypass : Statement (.jtagBypass) := by
  rintro - k ⟨⟩

theorem tapReset : Statement (.tapReset) := by
  rintro - k ⟨⟩

theorem resetNAssert (x0 : Nat) : Statement (.resetNAssert x0) := by
  rintro - k ⟨⟩

theorem bootStart (x0 : Tab Int) : Statement (.bootStart x0) := by
  rintro - k ⟨⟩

theorem bootPhaseEnd (x0 : Nat) (x1 : Nat) (x2 : PhaseReport) : Statement (.bootPhaseEnd x0 x1 x2) := by
  rintro - k ⟨⟩

theorem trialExpiry : Statement (.trialExpiry) := by
  rintro - k ⟨⟩

theorem recordWriteDone : Statement (.recordWriteDone) := by
  rintro - k ⟨⟩

theorem powerLoss : Statement (.powerLoss) := by
  rintro - k ⟨⟩

theorem stackPllRelock (x0 : Nat) : Statement (.stackPllRelock x0) := by
  rintro - k ⟨⟩

theorem retunedRingsLocked (x0 : Nat × List Nat) : Statement (.retunedRingsLocked x0) := by
  rintro - k ⟨⟩

theorem lockWindowEnd : Statement (.lockWindowEnd) := by
  rintro - k ⟨⟩

theorem recordEraseDone : Statement (.recordEraseDone) := by
  rintro - k ⟨⟩

theorem remoteBufferRequest (x0 : Nat) (x1 : RemoteReq) : Statement (.remoteBufferRequest x0 x1) := by
  rintro - k ⟨⟩

end Sys2Proof.Laws.Sender
end

