-- ==== Sys2Proof/Tests/Slice0.lean ====
section
/-!
SUPPORT. The model's own tests: ill-formed terms that WellFormed refuses, a state and operands that meet the premises of each
clause of each statement, and single steps on small states whose result the manual gives.
-/

-- One proof after another: in parallel each asks for a thread and its stack.
set_option Elab.async false

namespace Sys2Proof.Tests

open Sys2Proof.Machine Sys2Proof.Safety

/-! ### Small states -/

/-- A module in service, BLANK, with session 0 open and one message of it waiting. -/
def served (m : Bytes) : State :=
  { boot.phase := 8, net.sessions := [(0, { st := .opened, inbox := [m] })] }

/-- The 8-byte request header, its length padded with zero fields. -/
def mail (code : Nat) (fields : Bytes) : Bytes := leBytes 2 code ++ leBytes 2 7 ++ leBytes 4 0 ++ fields

theorem accepted_of {s : State} {src : MailSrc} {code : Nat} {m : Bytes}
    (h : (frontMail s src == some m && mailCode m == some code && mailRefusal (dropMail src m s) src code m == 0) = true) :
    Accepted s src code m := by
  simp only [Bool.and_eq_true, beq_iff_eq] at h
  exact ⟨⟨h.1.1, h.1.2⟩, h.2⟩

/-! ### Witnesses: every clause's premises hold of some state and operands -/

/-- A wrong length, and no message at all. -/
theorem witness_RefusedMailAnswersAndChangesNothing :
    (let m := mail 0x01 [0]
     mailOf (.identify (.session 0)) = some (.session 0, 0x01, none) ∧
      (frontMail (served m) (.session 0) = some m ∧ mailCode m = some 0x01) ∧
      takesOp none m = true ∧ mailRefusal (dropMail (.session 0) m (served m)) (.session 0) 0x01 m ≠ 0) ∧
    frontMail State.reset (.session 0) = none := by decide

theorem witness_StepRunsTheFrontCommand : State.reset.pending = [] := rfl

theorem witness_FusesAreNeverCleared :
    FusesOnlyBlown {} State.reset.sec.fuses ∧ State.reset.sec.fuses.tamper ≤ 32 ∧
      step State.reset = .next State.reset :=
  ⟨⟨fun _ h => h, Nat.le_refl _, Nat.le_refl _, rfl, rfl, rfl⟩, by decide, rfl⟩

theorem witness_IdentitySurvivesEveryStep : step State.reset = .next State.reset := rfl

theorem witness_FabricTimeNeverDecreases :
    ∃ s t : State, step s = .next t ∧ s.time.firstStamp = true ∧ s.pending = [.fabricTick] :=
  ⟨{ time.firstStamp := true, pending := [.fabricTick] }, _, rfl, rfl, rfl⟩

theorem witness_MemoryStaysCanonical : Canonical State.reset = true ∧ step State.reset = .next State.reset :=
  ⟨by decide, rfl⟩

theorem witness_MailReplyReachesItsSender :
    ((served []).session 0).st = .opened ∧ (State.reset.session 0).st ≠ .opened := by decide

/-- The log entry of a served module that EVENT_READ reads. -/
def oneEntry : LogEntry :=
  { lseq := 1, code := 0, rollback := false, heldBoot := false, unlocked := false, args := [], stamp := none, ft := 0,
    source := 0, serial := 0 }

theorem witness_IdentityTimeAndEventMail :
    (let m := [1#8]; frontMail (served m) (.session 0) = some m ∧ mailCode m = none ∧ m.length < 8) ∧
    (let m := mail 0xFF []; frontMail (served m) (.session 0) = some m ∧ mailCode m = none ∧ 8 ≤ m.length) ∧
    Accepted (served (mail 0x01 [])) (.session 0) 0x01 (mail 0x01 []) ∧
    Accepted (served (mail 0x31 [])) (.session 0) 0x31 (mail 0x31 []) ∧
    (let m := mail 0x02 []
     Accepted (served m) (.session 0) 0x02 m ∧
      ∃ st t, issueStamp 30 (.reply (served m).work.jobNo) (dropMail (.session 0) m (served m)) = (some st, t)) ∧
    Accepted (served (mail 0x04 (leBytes 8 2))) (.session 0) 0x04 (mail 0x04 (leBytes 8 2)) ∧
    (let m := mail 0x05 (leBytes 4 1 ++ leBytes 2 1 ++ leBytes 2 0)
     let s : State := { served m with log.entries := [oneEntry], log.nextLseq := 2 }
     Accepted s (.session 0) 0x05 m ∧ s.log.entries = oneEntry :: [] ∧ oneEntry.lseq ≤ fullLseq s (leField m 8 4)) ∧
    (let m := mail 0x03 (leBytes 4 1 ++ leBytes 4 0 ++ leBytes 8 1)
     Accepted (served m) (.session 0) 0x03 m ∧
      ∃ sh st t, itemShape (leField m 8 4) = some sh ∧ leField m 0x0C 4 < sh.1 ∧
      let n := readCount sh (leField m 0x0C 4) (leField m 0x10 2)
      let u := (List.range n).foldl (fun s j => clearRead (leField m 8 4) (leField m 0x0C 4 + j) s)
        { dropMail (.session 0) m (served m) with freeCtr := (served m).freeCtr + n }
      issueStamp 30 (.reply u.work.jobNo) u = (some st, t)) := by
  refine ⟨by decide, by decide, accepted_of (by decide), accepted_of (by decide), ⟨accepted_of (by decide), _, _, rfl⟩,
    accepted_of (by decide), ⟨accepted_of (by decide), rfl, by decide⟩, accepted_of (by decide), _, _, _, rfl, by decide, rfl⟩

/-- The bytes of a string at an address, as the cells of a table. -/
def cellsAt (a : Nat) (b : Bytes) : Tab Byte :=
  b.zipIdx.filterMap fun p => if p.1 = 0 then none else some (a + p.2, p.1)

/-- `served` with one buffer of 8 MiB, handle 1, at address 0 of device memory, holding the bytes given. -/
def withBuffer (m : Bytes) (held : Bytes) : State :=
  { served m with
    mem.buffers := [(1, { gen := 0, page := 0, pages := 128, size := 0x800000 })], mem.base := cellsAt 0 held }

def theBuffer : Buffer := { gen := 0, page := 0, pages := 128, size := 0x800000 }

/-- A kernel image of the one op END, with its SHAKE256 digest (R220). -/
def endImage : Bytes :=
  leBytes 4 0x464B5359 ++ [0#8, 1#8] ++ leBytes 2 0 ++ leBytes 4 1 ++ leBytes 4 0 ++ leBytes 8 9 ++ leBytes 8 0 ++
  leBytes 32 18953205011713667592693874805432762749321787119201376891956948360635168145720 ++ leBytes 4 0x01000000

/-- A graph image without tasks, with the SHAKE256 digest of no bytes (R231). -/
def emptyImage : Bytes :=
  leBytes 4 0x46475359 ++ [0#8, 1#8] ++ leBytes 2 0 ++ leBytes 40 0 ++
  leBytes 32 21468664885170662639985957090336418708702569955620632736621138429888230701382 ++ leBytes 16 0

def endKernel : Kernel := { gen := 1, id := 9, opWords := [0x01000000], views := [] }

/-- A graph without tasks. -/
def bareGraph : Graph :=
  { session := some 0, sessionHandle := 0, order := 0, tag := 0, image := 1, kernels := [], views := [], tasks := [],
    edges := [], resultHandle := 0, resultOffset := 0 }

/-- A state with one job waiting, of number 1. -/
def withJob (k : JobKind) : State :=
  { boot.phase := 8, work.jobs := [(1, { kind := k, src := .session 0, handle := 0, code := 0, corr := 7, since := 0 })] }

/-- `served` in a partition of two modules in x whose port + x is up. -/
def inTwo (m : Bytes) : State :=
  { served m with
    torus.partition := 1, torus.dims := [2, 1, 1], torus.inStep := true, base.links := [(520, { state := 2 })] }

/-- `withBuffer` with a link of the memory wharf and one of each memory berth UP. -/
def reached (m : Bytes) : State :=
  { withBuffer m [] with
    base.links := (List.range 8).map (fun k => (256 + 16 * k, { state := 2 })) ++ [(480, { state := 2 })] }

theorem inr_of {α β γ δ : Type} {x : α ⊕ (β × γ × δ)} (h : x.isRight = true) : ∃ a b c, x = .inr (a, b, c) := by
  match x, h with
  | .inr (a, b, c), _ => exact ⟨a, b, c, rfl⟩

theorem reached_reads : ∀ cur ∈ [0, 1],
    let m := mail 0x13 (leBytes 4 1 ++ leBytes 4 cur ++ leBytes 8 0x7FFC20 ++ leBytes 8 992); let s := reached m
    Accepted s (.session 0) 0x13 m ∧ memReadReady (.session 0) s m = true ∧ leField m 0x0C 4 = cur ∧
      mailBuffer (sourceErrors (leField m 8 4) (leField m 0x10 8) (leField m 0x18 4) (dropMail (.session 0) m s))
        (leField m 8 4) (leField m 0x10 8) (leField m 0x18 4) true = .inr theBuffer := by
  intro cur h
  simp only [List.mem_cons, List.not_mem_nil, or_false] at h
  rcases h with rfl | rfl
  · exact ⟨accepted_of (by decide), by decide, by decide, by decide⟩
  · exact ⟨accepted_of (by decide), by decide, by decide, by decide⟩

theorem witness_BufferAndReadMail :
    (let m := mail 0x10 (leBytes 8 65536)
     Accepted (served m) (.session 0) 0x10 m ∧
      ∃ h base t, createBuffer (leField m 8 8) none (dropMail (.session 0) m (served m)) = .inr (h, base, t)) ∧
    (let m := mail 0x11 (leBytes 8 1); let s := withBuffer m []
     Accepted s (.session 0) 0x11 m ∧ bufOf s (leField m 8 4) = some theBuffer ∧
      bufferBusy s (leField m 8 4) theBuffer = false) ∧
    (let m := mail 0x13 (leBytes 8 1 ++ leBytes 8 0x7FFC20 ++ leBytes 8 992); let s := withBuffer m []
     Accepted s (.session 0) 0x13 m ∧ memReadReady (.session 0) s m = false) ∧
    (∀ cur ∈ [0, 1],
     let m := mail 0x13 (leBytes 4 1 ++ leBytes 4 cur ++ leBytes 8 0x7FFC20 ++ leBytes 8 992); let s := reached m
     Accepted s (.session 0) 0x13 m ∧ memReadReady (.session 0) s m = true ∧ leField m 0x0C 4 = cur ∧
      mailBuffer (sourceErrors (leField m 8 4) (leField m 0x10 8) (leField m 0x18 4) (dropMail (.session 0) m s))
        (leField m 8 4) (leField m 0x10 8) (leField m 0x18 4) true = .inr theBuffer) ∧
    (let m := mail 0x12 (leBytes 4 0x1000 ++ leBytes 4 1 ++ leBytes 8 64 ++ leBytes 8 0); let s := inTwo m
     Accepted s (.session 0) 0x12 m ∧ rbufCheck (dropMail (.session 0) m s) m = .inr 0x1000) ∧
    (let s := withJob (.rbuf 0x1000 1 64 0 0)
     (∃ j, Tab.find? 1 s.work.jobs = some j ∧ j.kind = .rbuf 0x1000 1 64 0 0 ∧
       j.since + 2 ^ 15 ≤ ({ s with time.ft := 2 ^ 15 } : State).time.ft) ∧
      ∃ hd bs t, createBuffer 64 (some (0x1000, 1, 0, 0)) s = .inr (hd, bs, t)) := by
  exact ⟨⟨accepted_of (by decide), inr_of (by decide +kernel)⟩, ⟨accepted_of (by decide), rfl, by decide⟩,
    ⟨accepted_of (by decide), by decide⟩, reached_reads, ⟨accepted_of (by decide), by decide⟩, ⟨_, rfl, rfl, by decide⟩,
    inr_of (by decide +kernel)⟩

theorem witness_NewBufferTakesFreePages : ∃ h base t, createBuffer 65537 none State.reset = .inr (h, base, t) :=
  inr_of (by decide +kernel)

theorem witness_BargeMail :
    (let m := mail 0x18 (leBytes 8 1 ++ leBytes 8 0 ++ leBytes 8 64); let s := withBuffer m []
     Accepted s (.session 0) 0x18 m ∧ leField m 0x18 8 ≠ 0 ∧ leField m 0x0C 1 = 0 ∧
      bargeRefusal (dropMail (.session 0) m s) (leField m 8 4) (srcHandle s (.session 0)) (leField m 0x10 8) (leField m 0x18 8)
        (leField m 0x0C 1 == 1) = .inr theBuffer ∧ Tab.freeKey 0 4096 s.net.barges = some 0) ∧
    (let m := mail 0x18 (leBytes 4 1 ++ leBytes 4 1 ++ leBytes 8 0 ++ leBytes 8 64); let s := withBuffer m []
     let u := sourceErrors (leField m 8 4) (leField m 0x10 8) (leField m 0x18 8) (dropMail (.session 0) m s)
     Accepted s (.session 0) 0x18 m ∧ leField m 0x18 8 ≠ 0 ∧ leField m 0x0C 1 = 1 ∧
      bargeRefusal u (leField m 8 4) (srcHandle s (.session 0)) (leField m 0x10 8) (leField m 0x18 8) true = .inr theBuffer ∧
      Tab.freeKey 0 4096 u.net.barges = some 0) ∧
    (let m := mail 0x19 (leBytes 8 0)
     let b : Barge := { session := 0, handle := 1, outbound := false, current := false, start := 0, length := 64,
                        serial := 0, openedNo := 0 }
     let s : State := { served m with net.barges := [(0, b)] }
     Accepted s (.session 0) 0x19 m ∧ Tab.find? (leField m 8 2) s.net.barges = some b ∧ b.session = srcHandle s (.session 0)) := by
  exact ⟨⟨accepted_of (by decide), by decide, by decide, rfl, by decide +kernel⟩,
    ⟨accepted_of (by decide), by decide, by decide, by decide, by decide +kernel⟩, accepted_of (by decide), rfl, by decide⟩

theorem witness_KernelMail :
    (let m := mail 0x20 (leBytes 4 1 ++ leBytes 4 68 ++ leBytes 8 0); let s := withBuffer m endImage
     let u := sourceErrors (leField m 8 4) (leField m 0x10 8) (leField m 0x0C 4) (dropMail (.session 0) m s)
     Accepted s (.session 0) 0x20 m ∧
      mailBuffer u (leField m 8 4) (leField m 0x10 8) (leField m 0x0C 4) true = .inr theBuffer ∧
      kernelCheck u (committedRead u (bufBase theBuffer + leField m 0x10 8) (leField m 0x0C 4)) =
        .inr { endKernel with gen := 0 }) ∧
    (let s := withJob (.lowering endKernel 1)
     lkServing s = true ∧ (∃ j, Tab.find? 1 s.work.jobs = some j ∧ j.kind = .lowering endKernel 1) ∧
      Tab.freeKey 0 4096 s.work.kernels = some 0) ∧
    (let m := mail 0x21 (leBytes 4 4096 ++ leBytes 4 0)
     let s : State := { served m with work.kernels := [(0, endKernel)] }
     Accepted s (.session 0) 0x21 m ∧ kernelAt s (leField m 8 4) = some endKernel ∧
      ∀ g ∈ s.work.graphs, g.2.kernels.contains (leField m 8 4 % 4096) = false) := by
  exact ⟨⟨accepted_of (by decide), by decide, by decide +kernel⟩, ⟨by decide, ⟨_, rfl, rfl⟩, by decide +kernel⟩,
    accepted_of (by decide), by decide, by decide⟩

theorem witness_GraphAndPoundMail :
    (let m := mail 0x28 (leBytes 8 1 ++ leBytes 8 0 ++ leBytes 8 96); let s := withBuffer m emptyImage
     let u := sourceErrors (leField m 8 4) (leField m 0x10 8) (leField m 0x18 8) (dropMail (.session 0) m s)
     Accepted s (.session 0) 0x28 m ∧
      mailBuffer u (leField m 8 4) (leField m 0x10 8) (leField m 0x18 8) true = .inr theBuffer ∧
      graphCheck u (.session 0) (leField m 8 4) (committedRead u (bufBase theBuffer + leField m 0x10 8) (leField m 0x18 8)) =
        .inr bareGraph) ∧
    (let s : State := { withJob (.graphCheck bareGraph 1 1) with
       mem.buffers := [(1, { gen := 0, page := 0, pages := 128, size := 0x800000 })] }
     lkServing s = true ∧ (∃ j, Tab.find? 1 s.work.jobs = some j ∧ j.kind = .graphCheck bareGraph 1 1) ∧
      lightLost s = false ∧ graphStillGood s bareGraph 1 = 0 ∧ Tab.freeKey 0 64 s.work.graphs = some 0) ∧
    (let m := mail 0x29 (leBytes 16 0)
     let s : State := { served m with work.graphs := [(0, bareGraph)] }
     Accepted s (.session 0) 0x29 m ∧ s.graph? (leField m 8 1) = some bareGraph ∧ bareGraph.tag = leField m 0x10 8) ∧
    Accepted (served (mail 0x30 [])) (.session 0) 0x30 (mail 0x30 []) := by
  exact ⟨⟨accepted_of (by decide), by decide, by decide +kernel⟩, ⟨by decide, ⟨_, rfl, rfl⟩, by decide, by decide, by decide⟩,
    ⟨accepted_of (by decide), rfl, by decide⟩, accepted_of (by decide)⟩

/-- A passage to the other module of `inTwo`. -/
def thePassage : Passage := { dest := 0x1000, link := 0, share := 1, pounds := 0, route := 0, opened := true }

theorem inr_pair {α β γ : Type} {x : α ⊕ (β × γ)} (h : x.isRight = true) : ∃ a b, x = .inr (a, b) := by
  match x, h with
  | .inr (a, b), _ => exact ⟨a, b, rfl⟩

theorem witness_TorusMail :
    (let m := mail 0x38 (leBytes 2 65534 ++ leBytes 2 2 ++ leBytes 4 0 ++ leBytes 8 0x8000000000001000)
     Accepted (inTwo m) (.session 0) 0x38 m ∧ leField m 8 2 + leField m 0x0A 2 ≤ 65536 ∧
      (∀ e ∈ flatEntries m, e.testBit 31 = true → addrOk (dropMail (.session 0) m (inTwo m)) (e % 2 ^ 24) = true) ∧
      ∃ e ∈ flatEntries m, e.testBit 31 = true) ∧
    (let m := mail 0x39 (leBytes 4 0x1000 ++ leBytes 1 0 ++ leBytes 1 12 ++ leBytes 2 0)
     Accepted (inTwo m) (.session 0) 0x39 m ∧ (∃ a r, passageCheck (drawBelow 3 (dropMail (.session 0) m (inTwo m))).2 0 m = .inr (a, r)) ∧
      Tab.freeKey 1 65535 (inTwo m).torus.passages = some 1) ∧
    (∃ j, Tab.find? 1 (withJob (.passage 1)).work.jobs = some j ∧ j.kind = .passage 1) ∧
    (let m := mail 0x3A (leBytes 8 1)
     let s : State := { served m with torus.passages := [(1, thePassage)] }
     Accepted s (.session 0) 0x3A m ∧ Tab.find? (leField m 8 2) s.torus.passages = some thePassage ∧ thePassage.opened = true) := by
  exact ⟨⟨accepted_of (by decide), by decide, by decide, by decide⟩,
    ⟨accepted_of (by decide), inr_pair (by decide), by decide +kernel⟩, ⟨_, rfl, rfl⟩, accepted_of (by decide), rfl, rfl⟩

theorem witness_ConfigurationAndCalibrationMail :
    (let m := mail 0x40 (leBytes 8 0x0200)
     Accepted (served m) (.session 0) 0x40 m ∧ configItems.contains (leField m 8 2) = true) ∧
    (let m := mail 0x41 (leBytes 2 0x0300 ++ leBytes 2 1 ++ leBytes 4 0 ++ [1#8])
     Accepted (served m) (.session 0) 0x41 m ∧ configItems.contains (leField m 8 2) = true ∧
      valueOk (leField m 8 2) ((m.drop 0x10).take (leField m 0x0A 2)) = true ∧
      ¬ ((leField m 8 2 = 0x0201 ∨ leField m 8 2 = 0x0300) ∧ lifeCycle (served m) = 2)) ∧
    (let m := mail 0x42 (leBytes 8 1 ++ leBytes 8 0); let s := withBuffer m []
     Accepted s (.session 0) 0x42 m ∧ mailBuffer (dropMail (.session 0) m s) (leField m 8 4) (leField m 0x10 8)
      (Config.calibSetLength % 4194241) false = .inr theBuffer) ∧
    (let m := mail 0x43 (leBytes 8 1 ++ leBytes 8 0 ++ leBytes 8 0); let s := withBuffer m []
     Accepted s (.session 0) 0x43 m ∧ leField m 0x18 8 = 0 ∧
      mailBuffer (sourceErrors (leField m 8 4) (leField m 0x10 8) 0 (dropMail (.session 0) m s)) (leField m 8 4) (leField m 0x10 8) 0 true = .inr theBuffer) ∧
    (let m := mail 0x43 (leBytes 8 1 ++ leBytes 8 0 ++ leBytes 8 4194240); let s := withBuffer m []
     Accepted s (.session 0) 0x43 m ∧ 0 < leField m 0x18 8 ∧ leField m 0x18 8 ≤ 4194240 ∧
      mailBuffer (sourceErrors (leField m 8 4) (leField m 0x10 8) (leField m 0x18 8) (dropMail (.session 0) m s)) (leField m 8 4) (leField m 0x10 8) (leField m 0x18 8) true = .inr theBuffer) := by
  refine ⟨⟨accepted_of (by decide), by decide⟩, ⟨accepted_of (by decide), by decide, by decide, by decide⟩,
    ⟨accepted_of (by decide), ?_⟩, ⟨accepted_of (by decide), by decide, by decide⟩, accepted_of (by decide), by decide,
    by decide, by decide⟩
  have h : Config.calibSetLength % 4194241 < 4194241 := Nat.mod_lt _ (by decide)
  generalize Config.calibSetLength % 4194241 = n at h ⊢
  have h2 : ¬ (0x800000 : Nat) < 0 + n := by omega
  have h3 : bufOf (dropMail (.session 0) (mail 0x42 (leBytes 8 1 ++ leBytes 8 0))
    (withBuffer (mail 0x42 (leBytes 8 1 ++ leBytes 8 0)) [])) (leField (mail 0x42 (leBytes 8 1 ++ leBytes 8 0)) 8 4) =
      some theBuffer := by decide
  have h4 : leField (mail 0x42 (leBytes 8 1 ++ leBytes 8 0)) 0x10 8 = 0 := by decide
  have h5 : theBuffer.remote = none := rfl
  have h6 : theBuffer.size = 0x800000 := rfl
  simp only [mailBuffer, h3, h4, h5, h6, h2]
  rfl

theorem witness_PowerAndResetMail :
    (let m := mail 0x48 [1#8, 11#8, 0#8, 0#8, 0#8, 0#8, 0#8, 0#8]
     Accepted (served m) (.session 0) 0x48 m ∧ powerRefusal (dropMail (.session 0) m (served m)) (leField m 8 1) = 0 ∧
      (served m).power.pstate ≠ leField m 8 1 ∧ ready (served m) = true ∧
      let s : State := { served m with boot.phase := 5 }
      Accepted s (.session 0) 0x48 m ∧ powerRefusal (dropMail (.session 0) m s) (leField m 8 1) = 0 ∧ ready s = false) ∧
    (let tr : Transition := { source := 0, target := 2, cap := 11, job := none, since := 0, cause := .host, quiesced := some 0 }
     let s : State := { power.transition := some tr }
     (quiesceCheck s).power.transition = some tr ∧ transitionOver (quiesceCheck s) tr = true ∧
      (quiesceCheck s).power.tripAt = none) ∧
    (let m := mail 0x49 []; let s : State := { served m with power.shutdown := true, power.pstate := 4 }
     Accepted s (.session 0) 0x49 m ∧ s.power.shutdown = true ∧ ∀ r, r < 29 → resumeBlocked s r = false) ∧
    Accepted (served (mail 0x4A [])) (.session 0) 0x4A (mail 0x4A []) ∧
    (let s : State := { boot.resetAt := some 0, pins.resetN := true }
     s.boot.resetAt = some 0 ∧ s.lk.stranded = none ∧ s.pins.resetN = true) := by
  exact ⟨⟨accepted_of (by decide), by decide, by decide, by decide, accepted_of (by decide), by decide, by decide⟩,
    by decide, ⟨accepted_of (by decide), by decide, by decide⟩, accepted_of (by decide), by decide⟩

theorem witness_UpdateAndKeyMail :
    (let m := mail 0x50 (leBytes 8 1 ++ leBytes 8 0 ++ leBytes 8 64); let s := withBuffer m []
     let u := sourceErrors (leField m 8 4) (leField m 0x10 8) (leField m 0x18 8) (dropMail (.session 0) m s)
     Accepted s (.session 0) 0x50 m ∧ leField m 0x18 8 ≤ 2 ^ 25 ∧
      mailBuffer u (leField m 8 4) (leField m 0x10 8) (leField m 0x18 8) true = .inr theBuffer ∧
      onTrial u = false ∧ staging u = false) ∧
    (∀ b : Bool, ∃ s : State, s.flash.queue = [.program b [] .nothing]) ∧
    (let m := mail 0x51 []
     let s : State := { served m with boot.bootRec := { slotA := .trial }, boot.force := { items := [(0x0300, [1#8])] } }
     Accepted s (.session 0) 0x51 m ∧ onTrial s = true ∧ leNat (itemBoot s 0x0300) ≠ 0) ∧
    (let m := mail 0x58 (leBytes 32 5 ++ leBytes 8 1 ++ leBytes 8 0)
     let s : State := { withBuffer m [] with sec.seeds := true }
     Accepted s (.session 0) 0x58 m ∧ s.sec.seeds = true ∧
      mailBuffer (dropMail (.session 0) m s) (leField m 0x28 4) (leField m 0x30 8) 8685 false = .inr theBuffer) ∧
    (let m := mail 0x59 (leBytes 2 255 ++ leBytes 6 0 ++ leBytes 32 3)
     Accepted (served m) (.session 0) 0x59 m ∧ (served m).sec.awaitSlot0 = false) ∧
    (let m := mail 0x5A (leBytes 8 4 ++ leBytes 8 0)
     Accepted (served m) (.session 0) 0x5A m ∧ leField m 0x10 8 = (served m).sec.fuses.unitId % 2 ^ 64 ∧
      lcPermitted (served m) (lifeCycle (served m)) (leField m 8 1) = true) := by
  exact ⟨⟨accepted_of (by decide), by decide, by decide, by decide, by decide⟩, fun b => ⟨{ flash.queue := [.program b [] .nothing] }, rfl⟩,
    ⟨accepted_of (by decide), by decide, by decide⟩, ⟨accepted_of (by decide), rfl, by decide⟩,
    ⟨accepted_of (by decide), rfl⟩, accepted_of (by decide), by decide, by decide⟩

/-- `served` with session 0 at debug level D3. -/
def atD3 (m : Bytes) : State :=
  { boot.phase := 8, net.sessions := [(0, { st := .opened, inbox := [m], level := 3 })] }

/-- DEBUG_OP of an OP, for a range. -/
def debugOp (op len a : Nat) : Bytes := mail 0x61 (leBytes 4 op ++ leBytes 4 len ++ leBytes 16 a)

theorem witness_DebugMail :
    (let m := mail 0x60 (leBytes 8 3)
     Accepted (served m) (.session 0) 0x60 m ∧ levelAllowed (dropMail (.session 0) m (served m)) (leField m 8 1) = true ∧
      (leField m 8 1 < 2 ∨ otherHolds (dropMail (.session 0) m (served m)) (.session 0) = false)) ∧
    (let m := debugOp 0 0 0
     Accepted (atD3 m) (.session 0) 0x61 m ∧ leField m 8 1 = 0 ∧ 2 ≤ senderLevel (atD3 m) (.session 0) ∧
      (atD3 m).sec.halted = none ∧ poundActive (atD3 m) = false ∧
      let s : State := { atD3 m with pound.opened := true }
      Accepted s (.session 0) 0x61 m ∧ poundActive s = true) ∧
    (let m := debugOp 1 0 0; Accepted (atD3 m) (.session 0) 0x61 m ∧ leField m 8 1 = 1 ∧ 2 ≤ senderLevel (atD3 m) (.session 0)) ∧
    (let m := debugOp 2 0 0; Accepted (atD3 m) (.session 0) 0x61 m ∧ leField m 8 1 = 2 ∧ 2 ≤ senderLevel (atD3 m) (.session 0)) ∧
    (let m := debugOp 3 4 0
     Accepted (atD3 m) (.session 0) 0x61 m ∧ leField m 8 1 = 3 ∧ 2 ≤ senderLevel (atD3 m) (.session 0) ∧
      ∀ i, i < leField m 0x0C 4 → readRefusal (dropMail (.session 0) m (atD3 m)) (senderLevel (atD3 m) (.session 0))
        (leField m 0x10 8 + i) = 0) ∧
    Accepted (atD3 (mail 0x62 [])) (.session 0) 0x62 (mail 0x62 []) := by
  exact ⟨⟨accepted_of (by decide), by decide, by decide⟩,
    ⟨accepted_of (by decide), by decide, by decide, rfl, by decide, accepted_of (by decide), by decide⟩,
    ⟨accepted_of (by decide), by decide, by decide⟩, ⟨accepted_of (by decide), by decide, by decide⟩,
    ⟨accepted_of (by decide), by decide, by decide, by decide⟩, accepted_of (by decide)⟩

/-! ### Members at an op -/

/-- An op word (R144). -/
def opw (opc next mod a b : Nat) : Nat := opc * 2 ^ 24 + next * 2 ^ 21 + mod * 2 ^ 16 + a * 2 ^ 8 + b

def rank0 : MRef := { slot := 0, task := 0, rank := 0 }

def oneTask (flags : Nat) (xs : List Member) : Task :=
  { info := { kernel := 0, gang := xs.length, affinity := none, flags := flags, priority := 0, ins := [], outs := [],
              param := 0, cogroup := 0, tag := 0, runLimit := 1 }
    phase := .running, startAt := some 0, members := xs.zipIdx.map fun p => (p.2, p.1), param := leBytes 8 5 }

/-- One running task whose kernel has the words given; its stack runs. -/
def atOp (words : List Nat) (flags : Nat) (xs : List Member) : State :=
  { work.kernels := [(0, { gen := 1, id := 0, opWords := words, views := [] })]
    work.graphs := [(0, { bareGraph with kernels := [0], tasks := [(0, oneTask flags xs)] })]
    stk.dies := [(0, { powered := true, clocked := true })] }

/-- A member on core 0 with a window of 2 × 2 bytes of scratch in view slots 0 and 8, an F32 tile and accumulator 0 of
zeros, and an I32 tile 1. -/
def one : Member :=
  let v : View := { space := 0, fmt := 8, rank := 2, base := 0x100, ext := [2, 2, 0, 0], strides := [1, 2, 0, 0] }
  { core := 0, views := [(0, v), (8, v), (9, { v with fmt := 11, strides := [1, 2, 0, 0] })]
    tiles := [(1, { isInt := true }), (2, {})] }

theorem stands_of {s : State} {m : MRef} {opc : Nat} {P : KOp → Prop} [DecidablePred P]
    (h : (match currentOp s m with
      | some k => decide (opcOf k.word = opc ∧ issueCapped s k = false ∧ P k)
      | none => false) = true) : ∃ k, StandsAt s m opc k ∧ P k := by
  split at h
  · rename_i k hk
    have := of_decide_eq_true h
    exact ⟨k, ⟨hk, this.1, this.2.1⟩, this.2.2⟩
  · cases h

/-- The accesses are allowed, and need no block of a remote buffer. -/
def clearNow (s : State) (k : KOp) (l : List Touch) : Bool :=
  touchStop (deviceErrors k l s) k l == none && hazardToken k.ref.rank k.mem (touched false l) (touched true l) == none &&
    remoteBlocks (deviceErrors k l s) l == []

theorem stands_clear {s : State} {m : MRef} {opc : Nat} {P : KOp → Prop} [DecidablePred P] (l : KOp → List Touch) (n : Nat)
    (h : (match currentOp s m with
      | some k => decide (opcOf k.word = opc ∧ issueCapped s k = false ∧ P k) && clearNow s k (l k)
      | none => false) = true) : ∃ k, StandsAt s m opc k ∧ P k ∧ Allowed s k (l k) ∧ Fetched s k n (l k) := by
  split at h
  · rename_i k hk
    simp only [Bool.and_eq_true, clearNow, beq_iff_eq] at h
    have := of_decide_eq_true h.1
    exact ⟨k, ⟨hk, this.1, this.2.1⟩, this.2.2, ⟨h.2.1.1, h.2.1.2⟩, .inl h.2.2⟩
  · cases h

theorem witness_KernelControlOps :
    (∃ k, StandsAt (atOp [opw 0 0 0 0 0] 0 [one]) rank0 0x00 k ∧ True) ∧
    (∃ k, StandsAt (atOp [opw 1 0 0 0 0] 0 [one]) rank0 0x01 k ∧ (othersInColl k = false ∧ k.mem.out = [])) ∧
    (∃ k, StandsAt (atOp [opw 1 0 0 0 0] 0 [{ one with out := [{ token := 0, order := 0, op := .xfer {} {} }] }]) rank0 0x01 k ∧
      (othersInColl k = false ∧ k.mem.out ≠ [])) ∧
    (∃ k, StandsAt (atOp [opw 2 0 0 1 0xC1, opw 3 0 0 0 0] 0 [one]) rank0 0x02 k ∧ 0 < k.index k.opb) ∧
    (∃ k, StandsAt (atOp [opw 2 0 0 1 0xC0, opw 3 0 0 0 0] 0 [one]) rank0 0x02 k ∧ k.index k.opb = 0) ∧
    (∃ k, StandsAt (atOp [opw 2 0 0 1 0xC2, opw 3 0 0 0 0] 0 [{ one with pc := 1, ctl := [.loop 1 1 1 0 2] }]) rank0 0x03 k ∧
      (k.mem.ctl = .loop 1 1 1 0 2 :: [] ∧ 0 + 1 < 2)) ∧
    (∃ k, StandsAt (atOp [opw 2 0 0 1 0xC2, opw 3 0 0 0 0] 0 [{ one with pc := 1, ctl := [.loop 1 1 1 1 2] }]) rank0 0x03 k ∧
      (k.mem.ctl = .loop 1 1 1 1 2 :: [] ∧ 2 ≤ 1 + 1)) ∧
    (∃ k, StandsAt (atOp [opw 4 0 0 1 72, opw 3 0 0 0 0] 0 [{ one with pc := 1, ctl := [.tile 1 1 1 0 33 32 false] }]) rank0 0x03 k ∧
      (k.mem.ctl = .tile 1 1 1 0 33 32 false :: [] ∧ 0 + 1 < ceilDiv 33 32 * ceilDiv 32 32)) ∧
    (∃ k, StandsAt (atOp [opw 4 0 0 1 72, opw 3 0 0 0 0] 0 [{ one with pc := 1, ctl := [.tile 1 1 1 1 33 32 false] }]) rank0 0x03 k ∧
      (k.mem.ctl = .tile 1 1 1 1 33 32 false :: [] ∧ ceilDiv 33 32 * ceilDiv 32 32 ≤ 1 + 1)) ∧
    (∃ k, StandsAt (atOp [opw 4 0 0 1 74, opw 3 0 0 0 0] 0 [one]) rank0 0x04 k ∧ (k.view k.opb).empty = true) ∧
    (∃ k, StandsAt (atOp [opw 4 0 0 1 72, opw 3 0 0 0 0] 0 [one]) rank0 0x04 k ∧ (k.view k.opb).empty = false) ∧
    (∃ k, StandsAt (atOp [opw 5 0 0 0xC0 0xC0, opw 7 0 0 0 0] 0 [one]) rank0 0x05 k ∧ ifHolds k = true) ∧
    (∃ k, StandsAt (atOp [opw 5 0 0 0xC0 0xC1, opw 7 0 0 0 0] 0 [one]) rank0 0x05 k ∧
      (ifHolds k = false ∧ closerOf k true = closerOf k false)) ∧
    (∃ k, StandsAt (atOp [opw 5 0 0 0xC0 0xC1, opw 6 0 0 0 0, opw 7 0 0 0 0] 0 [one]) rank0 0x05 k ∧
      (ifHolds k = false ∧ closerOf k true ≠ closerOf k false)) ∧
    (∃ k, StandsAt (atOp [0, opw 6 0 0 0 0, opw 7 0 0 0 0] 0 [{ one with pc := 1, ctl := [.cond 2] }]) rank0 0x06 k ∧
      k.mem.ctl = .cond 2 :: []) ∧
    (∃ k, StandsAt (atOp [0, opw 7 0 0 0 0] 0 [{ one with pc := 1, ctl := [.cond 1] }]) rank0 0x07 k ∧
      k.mem.ctl = .cond 1 :: []) := by
  exact ⟨stands_of (by decide), stands_of (by decide), stands_of (by decide), stands_of (by decide), stands_of (by decide),
    stands_of (by decide), stands_of (by decide), stands_of (by decide), stands_of (by decide), stands_of (by decide),
    stands_of (by decide), stands_of (by decide), stands_of (by decide), stands_of (by decide), stands_of (by decide),
    stands_of (by decide)⟩

theorem witness_KernelIndexAndViewOps :
    (∃ k, StandsAt (atOp [opw 0x10 1 0 1 0, 0x80000000] 0 [one]) rank0 0x10 k ∧ nextOf k.word = 1) ∧
    (∃ k, StandsAt (atOp [opw 0x10 2 0 1 0, 1, 0x80000000] 0 [one]) rank0 0x10 k ∧ nextOf k.word = 2) ∧
    (∃ k, StandsAt (atOp [opw 0x11 1 0 1 0xC1, 0xC1] 0 [one]) rank0 0x11 k ∧ True) ∧
    (∃ k, StandsAt (atOp [opw 0x12 0 1 1 0] 0 [one]) rank0 0x12 k ∧ True) ∧
    (∃ k, StandsAt (atOp [opw 0x13 1 1 1 0, 0] 0 [one]) rank0 0x13 k ∧
      ((8 : Nat) = (if k.mod % 2 = 1 then 8 else 4) ∧ k.e1 % 65536 % 8 = 0 ∧ k.e1 % 65536 + 8 ≤ k.t.param.length)) ∧
    (∃ k, StandsAt (atOp [opw 0x14 0 3 1 72] 0 [one]) rank0 0x14 k ∧ True) ∧
    (∃ k, StandsAt (atOp [opw 0x18 1 0 73 72, 4 * 256] 0 [one]) rank0 0x18 k ∧
      ((∀ d, d < 4 → 0 ≤ (k.ix (k.e1 % 256 % 64 + d)).toInt ∧ 0 ≤ (k.ix (k.e1 / 256 % 64 + d)).toInt) ∧
       isBlock (k.view k.opb).fmt = false ∧ fmtBits (k.view k.opb).fmt = 8)) ∧
    (∃ k, StandsAt (atOp [opw 0x7E 0 0 1 0] 0 [one]) rank0 0x7E k ∧
      (issueStamp k.t.stack (.stampRead rank0 k.opa) (atOp [opw 0x7E 0 0 1 0] 0 [one])).1 = some 1) := by
  exact ⟨stands_of (by decide), stands_of (by decide), stands_of (by decide), stands_of (by decide), stands_of (by decide),
    stands_of (by decide), stands_of (by decide), stands_of (by decide)⟩

theorem witness_IndexSlotZeroReadsZero :
    ∃ k, StandsAt (atOp [opw 0x10 1 0 0 0, 7] 0 [one]) rank0 0x10 k ∧ k.opa = 0 := stands_of (by decide)

/-- The access of a window of OPB's view. -/
def windowTouch (w : Bool) (k : KOp) : List Touch :=
  let r := windowOf k (k.view k.opb) k.e1
  [{ view := k.view k.opb, runs := (k.view k.opb).windowRuns r.1 r.2, write := w }]

/-- The access of the rows that a GATHER or SCATTER names in a view. -/
def rowsTouch (v : KOp → View) (w : Bool) (k : KOp) : List Touch :=
  [{ view := v k, runs := (v k).windowRuns (namedRows k (v k)) (windowAxis 0 ((v k).extAt 0)), write := w }]

/-- A member with its window in device memory as well, in view slot 10. -/
def two : Member :=
  { one with views := one.views ++
      [(10, { space := 2, fmt := 8, handle := 1, rank := 2, base := 0x100, ext := [2, 2, 0, 0], strides := [1, 2, 0, 0] })] }

/-- The page of that window belongs to a remote buffer. -/
def farWindow (s : State) : State :=
  { s with mem.buffers := [(1, { gen := 0, page := 0, pages := 1, size := 65536, remote := some (0x1000, 1, 0, 0) })] }

theorem witness_KernelLoadsAndStores :
    (let s := atOp [opw 0x20 1 0 0x80 72, 0xC0C0] 0 [one]
     ∃ k, StandsAt s rank0 0x20 k ∧ True ∧ Clear s k (windowTouch false k)) ∧
    (let s := farWindow (atOp [opw 0x20 1 0 0x80 74, 0xC0C0] 0 [two])
     ∃ k, StandsAt s rank0 0x20 k ∧
      touchStop (deviceErrors k (windowTouch false k) s) k (windowTouch false k) = none ∧
      hazardToken k.ref.rank k.mem (touched false (windowTouch false k)) (touched true (windowTouch false k)) = none ∧
      remoteBlocks (deviceErrors k (windowTouch false k) s) (windowTouch false k) ≠ [] ∧
      opReads (deviceErrors k (windowTouch false k) s) rank0 0 = []) ∧
    (let s := atOp [opw 0x21 1 0 0x80 72, 0xC0C0] 0 [one]
     ∃ k, StandsAt s rank0 0x21 k ∧ k.viewReadOnly k.opb = false ∧ Clear s k (windowTouch true k)) ∧
    (∃ k, StandsAt (atOp [opw 0x22 0 1 0x80 0xFF] 0 [one]) rank0 0x22 k ∧ True) ∧
    (let s := atOp [opw 0x59 1 0 0x80 72, 0xC281] 0 [one]
     ∃ k, StandsAt s rank0 0x59 k ∧
      (gatherStop (k.tile (k.e1 % 256)) (k.index (k.e1 / 256 % 256)) (k.view k.opb) = none ∧
       namedRows k (k.view k.opb) = [(0, 0), (1, 0)]) ∧ Clear s k (rowsTouch (fun k => k.view k.opb) false k)) ∧
    (let s := atOp [opw 0x5A 1 0 72 0x80, 0xC281] 0 [one]
     ∃ k, StandsAt s rank0 0x5A k ∧
      (k.viewReadOnly k.opa = false ∧
       gatherStop (k.tile (k.e1 % 256)) (k.index (k.e1 / 256 % 256)) (k.view k.opa) = none) ∧
      Clear s k (rowsTouch (fun k => k.view k.opa) true k)) ∧
    (let s := atOp [opw 0x60 2 0 0x80 72, 0xC0C0, 0xC000] 0 [one]
     ∃ k, StandsAt s rank0 0x60 k ∧ (k.viewReadOnly k.opb = false ∧ ruleOk (k.view k.opb).fmt (k.e2 % 4) = true) ∧
      Clear s k (windowTouch true k)) := by
  exact ⟨stands_clear _ 0 (by decide), stands_of (by decide), stands_clear _ 0 (by decide), stands_of (by decide),
    stands_clear _ 0 (by decide), stands_clear _ 0 (by decide), stands_clear _ 0 (by decide)⟩

/-- The operands of an MMA. -/
def mmaTouch (k : KOp) : List Touch :=
  [{ view := k.view k.opb, runs := (k.view k.opb).runs, write := false },
   { view := k.view (k.e1 % 256), runs := (k.view (k.e1 % 256)).runs, write := false }]

theorem witness_KernelTileOps :
    (let s := atOp [opw 0x30 1 1 0x90 72, 72] 0 [one]
     ∃ k, StandsAt s rank0 0x30 k ∧ (mmaStop (k.view k.opb) (k.view (k.e1 % 256)) = none ∧ k.mod % 2 = 1) ∧
      Clear s k (mmaTouch k)) ∧
    (let s := atOp [opw 0x30 1 0 0x81 72, 72] 0 [one]
     ∃ k, StandsAt s rank0 0x30 k ∧
      (mmaStop (k.view k.opb) (k.view (k.e1 % 256)) = none ∧ k.mod % 2 = 0 ∧
       (k.tile k.opa).isInt = pairInt (k.view k.opb).fmt (k.view (k.e1 % 256)).fmt) ∧ Clear s k (mmaTouch k)) ∧
    (∃ k, StandsAt (atOp [opw 0x31 0 0 0x80 0x90] 0 [one]) rank0 0x31 k ∧ True) ∧
    (∃ k, StandsAt (atOp [opw 0x40 1 0 0x80 0x82, 0xC1] 0 [one]) rank0 0x40 k ∧
      (elemOperand k (k.e1 % 256) (k.tile k.opb).isInt).isInt = (k.tile k.opb).isInt) ∧
    (∃ k, StandsAt (atOp [opw 0x41 1 0 0x80 0x82, 0x8282] 0 [one]) rank0 0x41 k ∧
      ((k.tile k.opb).isInt = false ∧ (elemOperand k (k.e1 % 256) false).isInt = false ∧
       (elemOperand k (k.e1 / 256 % 256) false).isInt = false)) ∧
    (∃ k, StandsAt (atOp [opw 0x42 0 1 0x80 0x81] 0 [one]) rank0 0x42 k ∧ k.mod % 16 < 2) ∧
    (∃ k, StandsAt (atOp [opw 0x42 0 2 0x80 0x82] 0 [one]) rank0 0x42 k ∧
      (k.mod % 16 ≠ 9 ∧ (k.tile k.opb).isInt = false ∧ k.mod % 16 ≠ 10)) ∧
    (∃ k, StandsAt (atOp [opw 0x42 0 9 0x80 0x81] 0 [one]) rank0 0x42 k ∧ (k.mod % 16 = 9 ∧ (k.tile k.opb).isInt = true)) ∧
    (∃ k, StandsAt (atOp [opw 0x42 0 10 0x80 0x82] 0 [one]) rank0 0x42 k ∧ (k.mod % 16 = 10 ∧ (k.tile k.opb).isInt = false)) ∧
    (∃ k, StandsAt (atOp [opw 0x48 1 0 0x80 0x81, 0x81] 0 [one]) rank0 0x48 k ∧
      (elemOperand k (k.e1 % 256) (k.tile k.opb).isInt).isInt = (k.tile k.opb).isInt) ∧
    (∃ k, StandsAt (atOp [opw 0x49 1 0 0x80 0x82, 0x8282] 0 [one]) rank0 0x49 k ∧
      (k.tile (k.e1 % 256)).isInt = (k.tile (k.e1 / 256 % 256)).isInt) ∧
    (∃ k, StandsAt (atOp [opw 0x50 1 0 0x80 0x82, 32] 0 [{ one with ix := [(32, 32)] }]) rank0 0x50 k ∧
      (k.index (k.e1 % 256) = (32 : Nat) ∧ 32 ≤ 32 ∧ k.mod / 4 % 2 = 0)) ∧
    (∃ k, StandsAt (atOp [opw 0x50 1 4 0x80 0x82, 0xC0] 0 [one]) rank0 0x50 k ∧
      (k.index (k.e1 % 256) = (0 : Nat) ∧ 0 ≤ 32 ∧ k.mod / 4 % 2 = 1)) ∧
    (∃ k, StandsAt (atOp [opw 0x58 0 0 0x80 0x82] 0 [one]) rank0 0x58 k ∧ True) ∧
    (∃ k, StandsAt (atOp [opw 0x5B 1 0 0x80 0x82, 0xC083] 0 [one]) rank0 0x5B k ∧
      (k.index (k.e1 / 256 % 256) = (0 : Nat) ∧ 0 ≤ 32)) ∧
    (∃ k, StandsAt (atOp [opw 0x5B 1 0 0x80 0x81, 0x2083] 0 [{ one with ix := [(32, 32)] }]) rank0 0x5B k ∧
      (k.index (k.e1 / 256 % 256) = (32 : Nat) ∧ 32 ≤ 32 ∧ (k.tile k.opb).isInt = true)) := by
  exact ⟨stands_clear _ 0 (by decide), stands_clear _ 0 (by decide), stands_of (by decide), stands_of (by decide),
    stands_of (by decide), stands_of (by decide), stands_of (by decide), stands_of (by decide), stands_of (by decide),
    stands_of (by decide), stands_of (by decide), stands_of (by decide), stands_of (by decide), stands_of (by decide),
    stands_of (by decide), stands_of (by decide)⟩

theorem witness_TransposeExchangesRowsAndColumns :
    ∃ k, StandsAt (atOp [opw 0x58 0 0 0x80 0x82] 0 [one]) rank0 0x58 k ∧ True := stands_of (by decide)

/-- A message from rank 0 to itself. -/
def toSelf (st : MsgStage) (gen fails : Nat) : Msg :=
  { src := rank0, dst := rank0, gen := gen, serial := 0, fails := fails, tag := 0, token := 0, order := 0, stamp := some 1,
    body := [], stage := st }

/-- The accesses of an XFER from OPB to OPA. -/
def xferTouch (k : KOp) : List Touch :=
  let dst := alignEmpty (k.declared k.opa) (k.view k.opa) (k.view k.opb)
  let src := alignEmpty (k.declared k.opb) (k.view k.opb) (k.view k.opa)
  [{ view := src, runs := src.runs, write := false }, { view := dst, runs := dst.runs, write := true }]

/-- An XFER from OPB to OPA may be issued. -/
def xferFree (k : KOp) : Bool :=
  xferStop k (alignEmpty (k.declared k.opa) (k.view k.opa) (k.view k.opb))
    (alignEmpty (k.declared k.opb) (k.view k.opb) (k.view k.opa)) == none && !withToken (k.e1 % 16) k.mem

/-- The access of an op that reads or writes the view in OPA. -/
def opaTouch (w : Bool) (k : KOp) : List Touch := [{ view := k.view k.opa, runs := (k.view k.opa).runs, write := w }]

theorem witness_KernelAsyncOps :
    (let s := atOp [opw 0x23 1 0 72 64, 0] 0 [one]
     ∃ k, StandsAt s rank0 0x23 k ∧ (xferFree k = true ∧ (k.view k.opa).space < 2 ∧ (k.view k.opb).space < 2) ∧
      Allowed s k (xferTouch k) ∧ Fetched s k 0 (xferTouch k)) ∧
    (let s := atOp [opw 0x23 1 0 72 74, 0] 0 [two]
     ∃ k, StandsAt s rank0 0x23 k ∧ (xferFree k = true ∧ (k.view k.opb).space = 2) ∧
      Allowed s k (xferTouch k) ∧ Fetched s k 0 (xferTouch k)) ∧
    (let s := atOp [opw 0x23 1 0 74 72, 0] 0 [two]
     ∃ k, StandsAt s rank0 0x23 k ∧ (xferFree k = true ∧ (k.view k.opa).space = 2 ∧ (k.view k.opb).space < 2) ∧
      Allowed s k (xferTouch k) ∧ Fetched s k 0 (xferTouch k)) ∧
    (∀ v ∈ [(({} : View), ({} : View)), ({}, { space := 2 }), ({ space := 2 }, { space := 2 }), ({ space := 2 }, {})],
     let o : Outstanding := { token := 0, order := 0, op := .xfer v.1 v.2 }
     let s := atOp [0] 0 [{ one with out := [o] }]
     s.member? rank0 = some { one with out := [o] } ∧ (accessOf s rank0).isSome = true ∧
      firstXfer { one with out := [o] } = some o ∧ xferLanded s rank0 o.token = true ∧ xferReads s rank0 o.token = []) ∧
    (∀ a v p, preImageOf (atOp [0] 0 [one]) a v p = none) ∧
    (let o : Outstanding := { token := 0, order := 0, op := .coll 0 {} {} 0 0 0, landed := true }
     let s := atOp [0] 0 [{ one with out := [o] }]
     s.member? rank0 = some { one with out := [o] } ∧ (accessOf s rank0).isSome = true ∧
      firstXfer { one with out := [o] } = none ∧ writesPending s (.xfer rank0 0) = false ∧
      (({ one with out := [o] } : Member).out.find? fun o => o.token == 0 && o.landed) = some o) ∧
    (∃ k, StandsAt (atOp [opw 0x24 0 0 0xC0 0] 0 [one]) rank0 0x24 k ∧ withToken (k.opa % 16) k.mem = false) ∧
    (∃ k, StandsAt (atOp [opw 0x24 0 0 0xC0 0] 0 [{ one with out := [{ token := 0, order := 0, op := .xfer {} {} }] }])
      rank0 0x24 k ∧ withToken (k.opa % 16) k.mem = true) ∧
    (let s := atOp [opw 0x70 1 0 72 0xC1, 0] 0 [one, one]
     ∃ k, StandsAt s rank0 0x70 k ∧ ((peerOf s k (k.index k.opb)).isRight = true ∧ withToken (k.e1 % 16) k.mem = false) ∧
      Clear s k (opaTouch false k)) ∧
    (let s := atOp [opw 0x71 1 0 72 0xC1, 0] 0 [one, one]
     ∃ k, StandsAt s rank0 0x71 k ∧
      (k.viewReadOnly k.opa = false ∧ (peerOf s k (k.index k.opb)).isRight = true ∧ withToken (k.e1 % 16) k.mem = false) ∧
      Allowed s k (opaTouch true k) ∧ Fetched s k 0 (opaTouch true k)) ∧
    (let s : State := { atOp [0] 0 [one] with time.ft := 1, work.msgs := [(1, toSelf .here 0 0), (2, toSelf .here 1 0)] }
     Tab.find? 1 s.work.msgs = some (toSelf .here 0 0) ∧ Tab.find? 2 s.work.msgs = some (toSelf .here 1 0) ∧
      stampInstant s.ft 1 < s.ft ∧ roleHeld s (toSelf .here 0 0) = true ∧ roleHeld s (toSelf .here 1 0) = false ∧
      let u : State := { s with work.graphs := [] }
      roleHeld u (toSelf .here 0 0) = false ∧ u.task? 0 0 = none) ∧
    (attemptAbandoned (atOp [0] 0 [one]) (toSelf .returned 0 1) = true ∧
      attemptAbandoned (atOp [0] 0 [one]) (toSelf .returned 0 0) = false ∧
      (senderTask (atOp [0] 0 [one]) (toSelf .returned 0 0)).isSome = true ∧
      (atOp [0] 0 [one]).task? 0 0 = some (oneTask 0 [one]) ∧ (oneTask 0 [one]).phase = .running ∧
      (atOp [0] 0 [one]).member? rank0 = some one ∧
      let t := { oneTask 0 [] with phase := .ended }
      let s : State := { work.graphs := [(0, { bareGraph with tasks := [(0, t)] })] }
      attemptAbandoned s (toSelf .returned 0 0) = false ∧ (senderTask s (toSelf .returned 0 0)).isSome = true ∧
        s.task? 0 0 = some t ∧ t.phase = .ended) := by
  refine ⟨stands_clear _ 0 (by decide), stands_clear _ 0 (by decide), stands_clear _ 0 (by decide), by decide, ?_, by decide,
    stands_of (by decide), stands_of (by decide), stands_clear _ 0 (by decide), stands_clear _ 0 (by decide), by decide, by decide⟩
  intro a v p
  unfold preImageOf
  split <;> rfl

/-- The accesses of a broadcast or reduction of the view in OPA. -/
def collTouch (k : KOp) : List Touch := collTouches k.ref.rank (k.mod % 8) (k.index k.opb) (k.view k.opa) emptyView

/-- A COLL of the view in OPA may be issued. -/
def collFree (k : KOp) : Bool :=
  collStop k (k.mod % 8) (k.view k.opa) emptyView (k.e1 / 16 % 4) (k.index k.opb) == none && decide (k.mod % 8 < 3) &&
  !seqBreaks k (collSig (k.mod % 8) (k.e1 / 16 % 4) (k.index k.opb) (k.view k.opa) emptyView) &&
  !withToken (k.e1 % 16) k.mem && decide ((collOut k.mem).length < 4)

/-- `one` with a COLL of a kind and of an empty view outstanding at place 0. -/
def inColl (kind : Nat) (begun : Bool) : Member :=
  { one with out := [{ token := 0, order := 0, op := .coll kind {} emptyView 2 0 0, begun := begun }] }

theorem witness_KernelCollectives :
    (let s := atOp [opw 0x78 1 2 73 0xC0, 0x20] 2 [one, one]
     ∃ k, StandsAt s rank0 0x78 k ∧ (collFree k = true ∧ k.t.info.gang ≠ 1) ∧
      Allowed s k (collTouch k) ∧ Fetched s k 1 (collTouch k)) ∧
    (let s := atOp [opw 0x78 1 2 73 0xC0, 0x20] 2 [one]
     ∃ k, StandsAt s rank0 0x78 k ∧ (collFree k = true ∧ k.t.info.gang = 1 ∧ k.mem.order + 1 = 1) ∧
      Allowed s k (collTouch k) ∧ Fetched s k 1 (collTouch k)) ∧
    (∀ kind ∈ [0, 2],
     let t := oneTask 2 [inColl kind false, inColl kind false]
     (atOp [0] 2 [inColl kind false, inColl kind false]).task? 0 0 = some t ∧ t.phase = .running ∧ 2 ≤ t.info.gang ∧
      collParts t 0 ≠ [] ∧ (∀ p ∈ collParts t 0, p.2.2.begun = false ∧ (collArgs p.2.2).1 = kind)) ∧
    (let t := oneTask 2 [inColl 2 true, inColl 2 true]
     (atOp [0] 2 [inColl 2 true, inColl 2 true]).task? 0 0 = some t ∧ t.phase = .running ∧ collParts t 0 ≠ [] ∧
      (∀ p ∈ collParts t 0, p.2.2.begun = true ∧ p.2.2.left = 0) ∧ collRounds (collParts t 0) = []) ∧
    (∃ k, StandsAt (atOp [opw 0x7F 0 0 0xC3 0] 2 [one]) rank0 0x7F k ∧
      (k.collective = true ∧ seqBreaks k (1, k.opa % 16, 0, 0, []) = false)) ∧
    (let x : Member := { one with waiting := some (.barrier 3 0) }
     let t := oneTask 2 [x, x]
     (atOp [0] 2 [x, x]).task? 0 0 = some t ∧ t.phase = .running ∧ t.members ≠ [] ∧ t.members.length = t.info.gang ∧
      ∀ p ∈ t.members, p.2.waiting = some (.barrier 3 0)) := by
  exact ⟨stands_clear _ 1 (by decide), stands_clear _ 1 (by decide), by decide, by decide, stands_of (by decide), by decide⟩

theorem witness_KernelStopsByStatus :
    (∃ k, StandsAt (atOp [opw 0x78 1 2 73 0xC0, 0x20] 0 [one]) rank0 0x78 k ∧ k.collective = false) ∧
    (∃ k, StandsAt (atOp [opw 0x7F 0 0 0xC0 0] 0 [one]) rank0 0x7F k ∧ k.collective = false) ∧
    (∃ k, StandsAt (atOp [opw 0x70 2 1 72 0xC0, 0, 0] 0 [one]) rank0 0x70 k ∧ (k.mod % 2 = 1 ∧ k.external = false)) ∧
    (∃ k, StandsAt (atOp [opw 0x21 1 0 0x80 71, 0xC0C0] 0 [one]) rank0 0x21 k ∧ k.viewReadOnly k.opb = true) ∧
    (∃ k, StandsAt (atOp [opw 0x50 1 0 0x80 0x82, 0xFF] 0 [one]) rank0 0x50 k ∧ k.index (k.e1 % 256) < 0) ∧
    (∃ k, StandsAt (atOp [opw 0x50 1 0 0x80 0x82, 1] 0 [{ one with ix := [(1, 33)] }]) rank0 0x50 k ∧ 32 < k.index (k.e1 % 256)) ∧
    (∃ k, StandsAt (atOp [opw 0x5B 1 0 0x80 0x82, 0xFF83] 0 [one]) rank0 0x5B k ∧ k.index (k.e1 / 256 % 256) < 0) ∧
    (∃ k, StandsAt (atOp [opw 0x02 0 0 1 0xFF, opw 3 0 0 0 0] 0 [one]) rank0 0x02 k ∧ k.index k.opb < 0) ∧
    (∃ k, StandsAt (atOp [opw 0x13 1 0 1 0, 5] 0 [one]) rank0 0x13 k ∧
      k.t.param.length < k.e1 % 65536 + (if k.mod % 2 = 1 then 8 else 4)) := by
  exact ⟨stands_of (by decide), stands_of (by decide), stands_of (by decide), stands_of (by decide), stands_of (by decide),
    stands_of (by decide), stands_of (by decide), stands_of (by decide), stands_of (by decide)⟩

theorem witness_KernelLimitsEndTheGang :
    (let x : Member := { one with waiting := some (.barrier 0 0) }
     let s : State := { atOp [opw 0x7F 0 0 0xC0 0] 2 [x] with time.ft := 2 ^ 20 }
     let t := oneTask 2 [x]
     let g : Graph := { bareGraph with kernels := [0], tasks := [(0, t)] }
     s.graph? 0 = some g ∧ s.task? 0 0 = some t ∧ t.phase = .running ∧ (∃ p ∈ t.members, p.2.ended = false) ∧
      2 ^ 20 ≤ s.ft ∧
      (∀ p ∈ t.members, p.2.waitFrom + 2 ^ 20 ≤ s.ft ∧ stillWaits p.2 = true ∧ opcodeAt s g t p.2 = some 0x7F ∧
        waitsOutside 0 s p.2 = false) ∧
      ({ s with time.ft := 2 ^ 20 - 1 } : State).ft < x.waitFrom + 2 ^ 20) ∧
    (State.reset.ft < 2 ^ 20) ∧
    (let x : Member := { one with waiting := some (.token 0), out := [{ token := 0, order := 0, op := .recv {} 0 1 0 0 0 }] }
     (atOp [0] 0 [x]).task? 0 0 = some (oneTask 0 [x]) ∧ waitsOutside 0 (atOp [0] 0 [x]) x = true) ∧
    (let s : State := { atOp [0] 0 [one] with time.ft := 4096 }
     let t := oneTask 0 [one]
     s.task? 0 0 = some t ∧ t.phase = .running ∧ t.startAt = some 0 ∧ (∃ p ∈ t.members, p.2.ended = false) ∧
      t.info.runLimit ≠ 0 ∧ 0 + t.info.runLimit * 2 ^ 12 ≤ s.ft ∧
      ({ s with time.ft := 4095 } : State).ft < 0 + t.info.runLimit * 2 ^ 12 ∧
      ∀ p ∈ (oneTask 0 [{ one with ended := true }]).members, p.2.ended = true) := by
  decide
/-! ### Scheduling, network and time -/

/-- One graph with tasks of a phase and co-start group on stack 0, which runs with all its cores, while releases are on. -/
def queued (ph : TaskPhase) (group : Nat) (n : Nat) : State :=
  { boot.phase := 8, pound.opened := true, stk.dies := [(0, { powered := true, clocked := true })]
    work.graphs := [(0, { bareGraph with tasks := (List.range n).map fun i =>
      (i, { oneTask 0 [] with phase := ph, readyAt := some 0, info := { (oneTask 0 [one]).info with cogroup := group } }) })] }

/-- The same with no stack at all. -/
def stranding (ph : TaskPhase) (group : Nat) : State :=
  { queued ph group 1 with stk.dies := [(0, { powered := false, pllOk := false })] }

def queuedTask (ph : TaskPhase) (group : Nat) : Task :=
  { oneTask 0 [] with phase := ph, readyAt := some 0, info := { (oneTask 0 [one]).info with cogroup := group } }

def queuedGraph (ph : TaskPhase) (group n : Nat) : Graph :=
  { bareGraph with tasks := (List.range n).map fun i => (i, queuedTask ph group) }

theorem witness_AdmissionAndRebinding :
    (nextAfter (admittable (queued .image 0 1)) (queued .image 0 1).work.admitTurn = some 0 ∧
      (queued .image 0 1).graph? 0 = some (queuedGraph .image 0 1) ∧
      let u := ({ queued .image 0 1 with work.admitTurn := 0 } : State).updGraph 0 fun g => { g with admitNext := 1 }
      admitDecide u 0 (queuedGraph .image 0 1) = .bind [(0, 0)]) ∧
    (nextAfter (admittable (stranding .image 0)) (stranding .image 0).work.admitTurn = some 0 ∧
      (stranding .image 0).graph? 0 = some (queuedGraph .image 0 1) ∧
      let u := ({ stranding .image 0 with work.admitTurn := 0 } : State).updGraph 0 fun g => { g with admitNext := 1 }
      admitDecide u 0 (queuedGraph .image 0 1) = .unfit) ∧
    (let s : State := { stranding .admitted 0 with stk.dies := [(1, { powered := true })] }
     s.task? 0 0 = some (queuedTask .admitted 0) ∧ (queuedTask .admitted 0).phase = .admitted ∧
      (queuedTask .admitted 0).info.cogroup = 0 ∧ stackUnfit s 0 (queuedTask .admitted 0).info.gang = true ∧
      (queuedTask .admitted 0).info.affinity = none ∧ bindTask s (queuedTask .admitted 0) = some 1) ∧
    (let s := stranding .admitted 0
     s.task? 0 0 = some (queuedTask .admitted 0) ∧ stackUnfit s 0 (queuedTask .admitted 0).info.gang = true ∧
      bindTask s (queuedTask .admitted 0) = none) ∧
    (let s : State := { stranding .admitted 1 with stk.dies := [(1, { powered := true })] }
     s.graph? 0 = some (queuedGraph .admitted 1 1) ∧ groupWaiting (queuedGraph .admitted 1 1) 1 ≠ [] ∧
      groupUnfit s (groupWaiting (queuedGraph .admitted 1 1) 1) = true ∧
      bindGroup s (groupWaiting (queuedGraph .admitted 1 1) 1) = some [(0, 1)]) ∧
    (let s := stranding .admitted 1
     s.graph? 0 = some (queuedGraph .admitted 1 1) ∧ groupUnfit s (groupWaiting (queuedGraph .admitted 1 1) 1) = true ∧
      bindGroup s (groupWaiting (queuedGraph .admitted 1 1) 1) = none) := by
  decide +kernel

/-- `queued` with the first reach of stack 0 wholly enabled. -/
def enabled (group n : Nat) : State :=
  { queued .admitted group n with
    stk.dies := [(0, { powered := true, clocked := true, reaches := [(0, { enable := 8 })] })] }

theorem witness_ReleaseAndEndOfTasks :
    (let s := enabled 0 1
     releasesOn s = true ∧ (s.stack 0).clocked = true ∧ (s.stack 0).lastRelease = none ∧
      nextRelease s 0 = some (0, 0, queuedGraph .admitted 0 1, queuedTask .admitted 0) ∧
      (queuedTask .admitted 0).info.cogroup = 0 ∧ fitTask s (queuedTask .admitted 0) = some [0] ∧ reachesReady s [0] = true) ∧
    (let s := enabled 1 2
     let l := groupLeft (queuedGraph .admitted 1 2) 1
     s.graph? 0 = some (queuedGraph .admitted 1 2) ∧ releasesOn s = true ∧ l ≠ [] ∧ groupUnfit s l = false ∧
      (∀ t ∈ l, isReady t.2 = true ∧ (s.stack t.2.stack).clocked = true ∧
        ((nextRelease s t.2.stack).map fun x => (x.1, x.2.2.2.info.cogroup)) = some (0, 1)) ∧
      placeAll s l [] [] = some [(0, [0]), (1, [1])] ∧ ∀ c ∈ [[0], [1]], reachesReady s c = true) ∧
    (let s : State := { queued .admitted 0 1 with
       time.ft := 2 ^ 15, stk.cores := (List.range 128).map fun c => (c, { heldLane := true }) }
     (readyOrder s 0).head? = some (0, 0, queuedGraph .admitted 0 1, queuedTask .admitted 0) ∧
      (queuedTask .admitted 0).readyAt = some 0 ∧ 0 + 2 ^ 15 ≤ s.time.ft ∧
      fitsNow s (0, 0, queuedGraph .admitted 0 1, queuedTask .admitted 0) = false ∧
      ∀ y ∈ readyOrder s 0, y.2.2.2.starving = false) ∧
    (let x : Member := { one with waiting := some (.barrier 0 0) }
     let t : Task := { oneTask 2 [x] with info := { (oneTask 2 [x]).info with cogroup := 1 } }
     let g : Graph := { bareGraph with kernels := [0], tasks := [(0, t)] }
     let s : State := { time.ft := 2 ^ 20, work.graphs := [(0, g)]
                        work.kernels := [(0, { endKernel with opWords := [opw 0x7F 0 0 0xC0 0] })] }
     s.graph? 0 = some g ∧ 2 ^ 20 ≤ s.ft ∧ (∃ t ∈ groupLeft g 1, runsOn t = true) ∧
      (∀ t ∈ groupLeft g 1, t.2.phase = .running) ∧
      ∀ t ∈ groupTasks g 1, ∀ p ∈ t.2.members, waitedSince s g t.2 (s.ft - 2 ^ 20) p.2 = true) ∧
    (let t := oneTask 0 [{ one with ended := true }]
     let s := atOp [0] 0 [{ one with ended := true }]
     s.task? 0 0 = some t ∧ t.phase = .running ∧ (∀ p ∈ t.members, p.2.ended = true) ∧ taskWritesDone s 0 0 = true) := by
  refine ⟨by decide +kernel, by decide +kernel, by decide +kernel, by decide +kernel, by decide +kernel⟩

/-- A packet of one flit between routers of die 0. -/
def packet (src dst vc : Nat) : NetPacket :=
  { id := 1, src := src, dst := dst, vc := vc, flits := 1, stamp := 0, rtype := 0, group := 3, word := 0, carried := 1,
    expects := 2, flush := false, elems := [1] }

def flit (p : NetPacket) : Flit := { pkt := p, idx := 0 }

/-- A die whose first three reaches have their clocks. -/
def awakeMesh : State :=
  { stk.dies := [(0, { powered := true, clocked := true, reaches := [(0, { enable := 8 }), (1, { enable := 8 })] })] }

theorem witness_ScratchPortRoutersAndReduction :
    (let s : State := { stk.dies := [(0, { powered := true, clocked := true })] }
     scratchLive s 0 = true ∧ (s.core 0).deferred = none ∧ (6143 : Nat) < 6144 ∧ (0 : Nat) ≠ 6143 ∧
      badIn (spoilWord 0 6143 [] s) 0 6143 [0, 255] = [] ∧
      badIn (spoilWord 0 6143 [255] s) 0 6143 [0, 255] = [255] ∧
      let u : State := { s with stk.cores := [(0, { deferred := some (5, [(0, 1#8)]) })] }
      scratchLive u 0 = true ∧ (u.core 0).deferred = some (5, [(0, 1#8)]) ∧
        (([(0, 1#8)] : Tab Byte).filter fun y => !Tab.has y.1 ([(1, 2#8)] : Tab Byte)) ≠ []) ∧
    (let s : State := awakeMesh
     let p := packet 2 2 0
     routerLive s 2 = true ∧ (s.router 2).queues = [] ∧ (s.router 2).worm = [] ∧ (s.core 2).outbox = [] ∧ p.load = none ∧
      p.toBase = false ∧ p.vc < 4 ∧ p.flits = 1 ∧ p.src = 2 ∧
      waypoint s 2 p.dst = none ∧ towpathFree (s.router 2) = true ∧ p.dst / 128 = 2 / 128 ∧
      (2 % 16 < (packet 2 9 3).dst % 16 ∧ hasCredit s 2 1 false 3 = true ∧ crosses 2 1 = false) ∧
      (3 % 16 < (packet 3 9 3).dst % 16 ∧ hasCredit s 3 1 false 3 = true ∧ crosses 3 1 = true)) ∧
    (let p := packet 0 0 3
     let s : State := { stk.routers := [(0, { ejected := [flit p] })] }
     let full : State := { stk.routers := [(0, { ejected := [flit p], table := (List.range 64).map fun i => (i + 64, p) })] }
     let held : State := { stk.routers := [(0, { ejected := [flit p], table := [(3, p)] })] }
     ejectedPackets (s.router 0) = [p] ∧ (s.router 0).complete.contains p.group = false ∧
      Tab.find? p.group (s.router 0).table = none ∧
      ejectedPackets (full.router 0) = [p] ∧ Tab.find? p.group (full.router 0).table = none ∧
      64 ≤ (full.router 0).table.length ∧
      ejectedPackets (held.router 0) = [p] ∧ Tab.find? p.group (held.router 0).table = some p ∧
      ¬ p.expects < p.carried + p.carried ∧ ({ p with expects := 1 } : NetPacket).expects < p.carried + p.carried) ∧
    (let p := packet 0 0 3
     let s : State := { stk.routers := [(0, { table := [(3, p)], complete := [3] })] }
     Tab.find? 3 (s.router 0).table = some p ∧ (s.router 0).complete.contains 3 = true ∧
      collOfGroup s 0 3 = none ∧
      let u : State := { s with
        work.graphs := [(0, { bareGraph with kernels := [0]
                                             tasks := [(0, { oneTask 2 [inColl 0 true, inColl 0 true] with groups := [3] })] })] }
      collOfGroup u 0 3 = some (0, 0, 0)) ∧
    (let p := packet 0 1 0
     let s : State := { stk.chambers := [(chamberOf 0 1, { entries := [(0, flit p)] })] }
     (s.chamber (chamberOf 0 1)).entries = (0, flit p) :: [] ∧ routerLive awakeMesh (neighbour 0 1) = true ∧ p.flits = 1 ∧
      Tab.find? p.id (s.chamber (chamberOf 0 1)).stamps = none ∧ 0 = (s.chamber (chamberOf 0 1)).rseq ∧
      1 ≠ (s.chamber (chamberOf 0 1)).rseq) := by
  refine ⟨by decide +kernel, by decide +kernel, by decide +kernel, by decide +kernel, by decide +kernel⟩

theorem witness_TicksStampsAndReplicas :
    (let s : State := { pins.resetN := true }
     s.pins.resetN = true ∧ s.net.ports = [] ∧ s.time.correction = 0) ∧
    (let s : State := { pins.resetN := true, time.ft := 1024, time.lastCorrAt := some 0, time.correction := 1 }
     0 < s.time.correction ∧ mayCorrect s = true ∧ s.time.mode ≠ 3 ∧ mayCorrect { s with time.ft := 1022 } = false) ∧
    (let s : State := { pins.resetN := true, time.correction := -1 }
     s.time.correction < 0 ∧ mayCorrect s = true ∧ s.time.repeated = false ∧ s.time.mode ≠ 3) ∧
    State.reset.pins.resetN = false ∧
    (let s : State := { time.ft := 1, time.issuers := [(3, { held := [.message 1] })] }
     (s.issuer 3).held = [.message 1] ∧ nextSeq 3 (timeField s.ft) (s.issuer 3) < 128 ∧
      let u : State := { time.issuers := [(3, { held := [.message 1], nextSeq := 128 })] }
      (u.issuer 3).held = [.message 1] ∧ 128 ≤ nextSeq 3 (timeField u.ft) (u.issuer 3)) ∧
    (let s : State := { stk.dies := [(15, { powered := true, clocked := true })] }
     (s.stack 15).powered = true ∧ (s.stack 15).clocked = true ∧ (s.stack 15).ftChecked / 4096 = s.ft / 4096 ∧
      (s.stack 15).ftChecked / 4096 ≠ ({ s with time.ft := 4096 } : State).ft / 4096 ∧
      copyNow s 15 0 = s.ft ∧ copyNow s 15 1 ≠ s.ft) := by
  decide

theorem witness_ticks_no_pause (s : State) (h : s.net.ports = []) : ∀ p, (s.ethPort p).pausedPrio = none := by
  intro p; simp [State.ethPort, h, Tab.getD]

theorem witness_TimeSources :
    (timingDue (inTwo []) 0 0 = true ∧ timingDue { torus.timingAt := [(0, 1)], time.ft := 4096 } 0 0 = false ∧
      linkUp (inTwo []) (512 + 16 * 0 + 8 + 0 % 8) = true ∧ linkUp State.reset (512 + 16 * 0 + 0 % 8) = false ∧
      linkUp { base.links := [(512, { state := 2 })] } (512 + 16 * 0 + 0 % 8) = true) ∧
    (let s : State := { inTwo [] with time.masterCoord := some 0x1000 }
     let u := reselect { s with torus.delays := Tab.put 0 3 s.torus.delays, time.lastTiming := some s.time.ft
                                torus.nearest := Tab.put 0 (1, 0) s.torus.nearest }
     s.time.masterCoord = some 0x1000 ∧ s.time.master = false ∧ outranks s 0x1000 = false ∧
      outranks { s with torus.eligible := true } 0x1000 = true ∧ (u.time.source = 1 ∨ u.time.source = 2) ∧ nearestPort u = some 0) ∧
    (let u : State := { time.ftrefOk := false }
     bestSource u = State.reset.time.source ∧
      let v : State := { time.source := 3 }
      bestSource { v with time.ftrefOk := false } = 0 ∧ (0 : Nat) ≠ v.time.source ∧ givesValue 0 = false ∧
      v.time.everSourced = false ∧ ({ v with time.everSourced := true } : State).time.everSourced = true ∧
      let w := inTwo []
      bestSource { w with time.ftrefOk := true } = 1 ∧ (1 : Nat) ≠ w.time.source ∧ givesValue 1 = true) := by
  decide

theorem witness_StackClocksAndMargins :
    (let c : StepChange := { target := 1, start := 0 }
     let s : State := { stk.dies := [(0, { change := some c, step := 2 })] }
     (s.stack 0).change = some c ∧ c.phase = .scheduled ∧ c.start ≤ s.time.ft ∧ partnerFirst s 0 c = false ∧
      c.target < (s.stack 0).step) ∧
    (let c : StepChange := { target := 1, start := 0 }
     let s : State := { stk.dies := [(0, { change := some c })] }
     let high : State := { s with power.volts := [(0, 900)] }
     partnerFirst s 0 c = false ∧ (s.stack 0).step ≤ c.target ∧ s.power.avsFault.contains (pairOf 0) = false ∧
      railMv s (pairOf 0) < pairMv s 0 c.target ∧ pairMv high 0 c.target ≤ railMv high (pairOf 0)) ∧
    (let f : AvsFrame := { rail := 0, cmd := 3, value := 0, tries := 2 }
     let g : AvsFrame := { rail := 0, cmd := 0, value := 0, tries := 3 }
     f.tries < 3 ∧ 3 ≤ g.tries ∧ f.cmd = 3 ∧ g.cmd = 0 ∧ changing { power.avs := [g] } g.rail .volts = none ∧
      changing { power.avs := [g] } g.rail .lowerVolts = none) ∧
    (let c : StepChange := { target := 1, start := 0, phase := .glide }
     let s : State := { stk.dies := [(0, { change := some c })] }
     (s.stack 0).change = some c ∧ c.phase = .glide ∧ (s.stack 0).step < c.target ∧
      let d : StepChange := { target := 0, start := 0, phase := .glide }
      let u : State := { stk.dies := [(0, { change := some d, step := 2 })] }
      (u.stack 0).change = some d ∧ d.phase = .glide ∧ d.target < (u.stack 0).step ∧
      ¬ d.since + (glideTicks (u.stack 0).step d.target + d.slow) ≤ u.ft ∧
      d.since + (glideTicks (u.stack 0).step d.target + d.slow) ≤ ({ u with time.ft := 2 ^ 20 } : State).ft ∧
      railMv u (pairOf 0) ≤ pairMv u 0 d.target ∧
      pairMv { u with power.volts := [(0, 2000)] } 0 d.target < railMv { u with power.volts := [(0, 2000)] } (pairOf 0)) ∧
    (let s : State := { stk.dies := [(0, { powered := true, clocked := true }), (1, { powered := true, pllOk := false })] }
     (s.stack 0).powered = true ∧ (s.stack 0).pllOk = true ∧ (s.stack 1).powered = true ∧ (s.stack 1).pllOk = false ∧
      (s.stack 0).clocked = true ∧ ∃ l ∈ [7, 3], l ≤ 7) := by
  decide

/-! ### Pounds and memory -/

/-- A stamp of tick `t` from berth 16. -/
def stampAt (t : Nat) : Nat := mkStamp t 16 0

def wr (a : Nat) (st : WriteStage) (t : Nat) : WriteReq :=
  { addr := a, data := [1#8], berth := 16, stamp := some (stampAt t), orig := .other, stage := st }

/-- One write under way to a page that a local buffer holds. -/
def writing (w : WriteReq) (now : Nat) : State :=
  { time.ft := now, mem.writes := [(1, w)], mem.buffers := [(1, { gen := 0, page := 0, pages := 1, size := 65536 })] }

theorem witness_PoundCloses :
    (let s : State := { pound.opened := true }
     s.pound.opened = true ∧ s.pound.cutAt = none ∧ s.pound.closing = none ∧ s.pound.recovery = none ∧
      s.power.pstate ≠ 3 ∧ s.pound.deadline ≤ s.time.ft ∧ s.sec.halted = none ∧ ({ s with sec.halted := some (.helm, .checker) } : State).sec.halted.isSome = true) ∧
    (let s : State := { pound.opened := true, mem.fraction := 0 }
     s.pound.opened = true ∧ poolHighNow s = true ∧ s.pound.poolLatch = false ∧ tasksRun s = false ∧
      let u : State := { atOp [0] 0 [one] with pound.opened := true, mem.fraction := 0 }
      poolHighNow u = true ∧ tasksRun u = true) ∧
    (let s : State := { pound.cutAt := some 5, time.ft := 5 }
     s.pound.cutAt = some 5 ∧ 5 ≤ s.time.ft ∧ s.pound.recovery = none ∧ s.pound.closing = none) ∧
    (let c : Closing := { serial := 1, cut := 0 }
     let s : State := { pound.closing := some c, time.ft := 1024 }
     s.pound.closing = some c ∧ c.drained = false ∧ c.cut + 32 ≤ s.time.ft ∧ s.time.ft ≤ c.cut + 1024 ∧
      countsMatch s c.serial = true ∧
      let u : State := { pound.closing := some c, time.ft := 1024, mem.berths := [(7, { issued := [(1, 1)] })] }
      c.cut + 1024 = u.time.ft ∧ countsMatch u c.serial = false ∧ u.pound.recovery = none ∧ c.cut + 1024 < 1025) ∧
    (let c : Closing := { serial := 1, cut := 0, drained := true }
     let s : State := { pound.closing := some c, time.ft := 2300 }
     s.pound.closing = some c ∧ c.drained = true ∧ c.verdict = false ∧ c.cut + 2300 ≤ s.time.ft ∧ rollsBack s c.serial = false ∧
      s.lk.test = none ∧ s.sec.halted = none ∧ stranded s = false) ∧
    (let c : Closing := { serial := 1, cut := 0, drained := true, verdict := true }
     let s : State := { pound.closing := some c, time.ft := 2500 }
     s.pound.closing = some c ∧ mayCommit s c = true) := by
  refine ⟨by decide, by decide, by decide, by decide, by decide, by decide⟩

/-- The state with a rollback of pound 1 under way and the gangs stopped. -/
def withRecovery (s : State) : State := { s with pound.recovery := some { serial := 1, faults := [], stopped := true } }

theorem witness_WritesReachTheirLines :
    (let w := wr 64 .flight 31
     let s := writing w 62
     let ripe := writing w 63
     let lost := withRecovery s
     let bad := writing (wr 0x10000 .flight 31) 62
     let b : Buffer := { gen := 0, page := 0, pages := 1, size := 65536 }
     let far : State := { s with mem.buffers := [(1, { b with remote := some (0x1000, 1, 0, 0) })] }
     Tab.find? 1 s.mem.writes = some w ∧ w.stamp = some (stampAt 31) ∧ w.stage = .flight ∧ w.parts = 0 ∧ torusWrite w = false ∧
      stampInstant s.ft (stampAt 31) = 31 ∧ 31 < s.ft ∧ 31 < ({ s with pound.lastCut := 32 } : State).pound.lastCut ∧
      31 < ({ s with pound.discardBefore := 32 } : State).pound.discardBefore ∧
      s.pound.lastCut ≤ 31 ∧ s.pound.discardBefore ≤ 31 ∧ lostInRecovery s (serialOfTime s 31) = false ∧
      lostInRecovery lost (serialOfTime lost 31) = true ∧ lost.pound.lastCut ≤ 31 ∧ lost.mem.writes = s.mem.writes ∧
      w.orig = .other ∧ addressBad bad 0x10000 = true ∧ addressBad far w.addr = false ∧
      bufAtPage far (pageOf w.addr) = some { b with remote := some (0x1000, 1, 0, 0) } ∧
      addressBad s w.addr = false ∧ bufAtPage s (pageOf w.addr) = some b ∧ b.remote = none ∧ s.ft < 31 + 32 ∧ 31 + 32 ≤ ripe.ft) ∧
    (let w : WriteReq := { wr 64 .flight 31 with orig := .torus 0x1000 1 0 7 }
     let s := writing w 62
     Tab.find? 1 s.mem.writes = some w ∧ w.stamp = some (stampAt 31) ∧ w.stage = .flight ∧ w.parts = 0 ∧
      stampInstant s.ft (stampAt 31) < s.ft ∧ addressBad s w.addr = false) ∧
    (let w := wr 64 .held 0
     (stagedAt (writing w 32) 0 fun w => w.stage == .held).head? = some (1, w) ∧ w.stamp = some (stampAt 0) ∧
      stampInstant 32 (stampAt 0) + 32 ≤ (writing w 32).ft ∧
      (stagedAt (writing w 31) 0 fun w => w.stage == .held).head? = some (1, w) ∧
      (writing w 31).ft < stampInstant 31 (stampAt 0) + 32) ∧
    (let h : Shadow := { page := 0, tag := 1, ready := false }
     let s : State := { writing (wr 64 .copying 0) 32 with mem.shadows := [h] }
     (byTag (s.mem.shadows.filter fun h => h.page = 0 ∧ !h.ready ∧ !h.discarded)).head? = some h ∧
      s.mem.writes.filter (fun x => pageOf x.2.addr == 0 && x.2.stage == .copying &&
        serialOfTime s (stampInstant s.ft (x.2.stamp.getD 0)) == h.tag) = [(1, wr 64 .copying 0)]) ∧
    (let w := wr 64 .pool 0
     (stagedAt (writing w 32) 0 fun x => x.stage == .pool && poolFits (writing w 32) x).head? = some (1, w)) ∧
    (let w := wr 64 .flight 31
     let s := writing w 63
     let h : Shadow := { page := 0, tag := 1 }
     let u : State := { s with mem.shadows := [h] }
     let late : Shadow := { page := 0, tag := 1, entries := [(1, { valid := true, full := true, stamp := stampAt 40 })] }
     let part : Shadow := { page := 0, tag := 1, entries := [(1, { valid := true, full := false, stamp := stampAt 40 })] }
     let cells := w.cells.filter fun p => p.1 / 64 = 1
     let del := fun v : State => ({ v with mem.writes := Tab.del 1 v.mem.writes } : State)
     let has := fun g : Shadow => ({ s with mem.shadows := [g] } : State)
     shadowOf s (pageOf w.addr) (serialOfTime s 31) = none ∧ poolAdmits s (serialOfTime s 31) = true ∧ w.stage ≠ .pool ∧
      shadowOf { s with mem.fraction := 0 } (pageOf w.addr) (serialOfTime { s with mem.fraction := 0 } 31) = none ∧
      poolAdmits { s with mem.fraction := 0 } (serialOfTime { s with mem.fraction := 0 } 31) = false ∧
      shadowOf (has { h with ready := false }) (pageOf w.addr) (serialOfTime s 31) = some { h with ready := false } ∧
      shadowOf u (pageOf w.addr) (serialOfTime u 31) = some h ∧ h.ready = true ∧ cellLines w.cells = [1] ∧ w.orig = .other ∧
      u.pound.closing = none ∧ testErrors (del u) h 1 cells = [] ∧ (entryOf h 1).valid = false ∧
      shadowOf (has late) (pageOf w.addr) (serialOfTime (has late) 31) = some late ∧ testErrors (del (has late)) late 1 cells = [] ∧
      (entryOf late 1).valid = true ∧ (entryOf late 1).full = true ∧ entryEarlier (stampAt 31) (entryOf late 1).stamp = true ∧
      shadowOf (has part) (pageOf w.addr) (serialOfTime (has part) 31) = some part ∧ testErrors (del (has part)) part 1 cells = [] ∧
      (entryOf part 1).valid = true ∧ (entryOf part 1).full = false ∧ entryEarlier (stampAt 31) (entryOf part 1).stamp = true) := by
  refine ⟨by decide, by decide, by decide, by decide, by decide, by decide⟩

theorem witness_FoldsChangeNoCommittedByte :
    let h : Shadow := { page := 0, tag := 1, cells := [(65535, 1#8)] }
    let s : State := { pound.committed := 1, mem.shadows := [h, { h with tag := 2 }], mem.base := [(3, 1#8)] }
    Memory.wf s.mem = true ∧
      (s.mem.shadows.filter fun h => !h.discarded).Pairwise (fun a b => a.page ≠ b.page ∨ a.tag ≠ b.tag) ∧
      ∀ h ∈ s.mem.shadows, ∀ c ∈ h.cells, c.1 < 65536 := by
  decide

theorem witness_RollbackKeepsCommittedMemory :
    (let r : Recovery := { serial := 1, faults := [] }
     let s : State := { pound.recovery := some r, mem.shadows := [{ page := 0, tag := 1 }] }
     s.pound.recovery = some r ∧ r.stopped = false ∧ s.pound.committed < r.serial) ∧
    (let r : Recovery := { serial := 1, faults := [], stopped := true }
     let s : State := { pound.recovery := some r }
     s.pound.recovery = some r ∧ r.stopped = true ∧ r.returned = false) ∧
    (let r : Recovery := { serial := 1, faults := [], stopped := true, returned := true }
     let s : State := { pound.recovery := some r }
     s.pound.recovery = some r ∧ r.returned = true ∧ r.notBefore ≤ s.time.ft ∧ s.lk.test = none ∧ stranded s = false ∧
      s.pound.closing = none ∧ s.base.reset = none) := by
  decide

/-- A state in which a CONTROL packet of module `src` stands. -/
def noticed (src : Nat) : State := { torus.control := [{ port := 0, src := src, no := 1 }] }

theorem taken_of {c : Nat} {s : State} {p : State → Prop} [DecidablePred p]
    (h : (takeNotice c s).any (fun u => decide (p u)) = true) : ∃ u, takeNotice c s = some u ∧ p u := by
  cases e : takeNotice c s with
  | none => rw [e] at h; cases h
  | some u => rw [e] at h; exact ⟨u, rfl, of_decide_eq_true h⟩

theorem witness_PartitionPounds :
    (State.reset.torus.control.find? (fun c => coordOf c.src == coordOf 0x1000) = none ∧
      let s := noticed 0x1000
      s.torus.control.find? (fun c => coordOf c.src == coordOf 0x1000) = some { port := 0, src := 0x1000, no := 1 } ∧
      (∃ u, takeNotice 0x1000 s = some u ∧ u.time.master = false) ∧
      ∃ u, takeNotice 0x1000 { s with time.master := true, torus.partition := 1 } = some u ∧ u.time.master = true ∧
        u.torus.partition ≠ 0) ∧
    (let s : State := { torus.partition := 1, torus.inStep := true, pound.opened := true, pound.deadline := 1 }
     s.torus.partition ≠ 0 ∧ inStepNow s = true ∧ s.time.ft ≤ 0 ∧ cutInForce s = none ∧ s.pound.opened = true ∧ s.pound.closing = none ∧
      s.pound.recovery = none ∧ s.pound.cutAt = none ∧ 0 ≤ s.pound.deadline ∧ s.pound.deadline < 2 ∧ s.ft ≤ 2 ∧
      cutInForce { s with torus.behindAt := some 100 } = none ∧
      deadlineCounts { s with torus.behindAt := s.torus.behindAt.map (min (2 + 2500)) } = true ∧
      inStepNow State.reset = false ∧ State.reset.torus.joining = false ∧ State.reset.torus.partition = 0) ∧
    (∃ u, takeNotice 0x1000 (noticed 0x1000) = some u) ∧
    (let w : HeldWrite := { berth := 16, sender := 0x1000, n := 1, attempt := 0, stamp := 0, addr := 0, data := [], since := 0 }
     let s : State := { torus.held := [w], time.ft := 1048576 }
     let u : State := { s with torus.partition := 1, torus.inStep := true, pound.committed := 1 }
     let young : State := { s with time.ft := 1048575 }
     let at9 : State := { u with pound.cuts := [(1, 9)] }
     inPartition u = true ∧ senderCut u 1 = some 0 ∧ u.torus.held.filter (heldOf 0x1000 1) ≠ [] ∧ 0 + 1048576 ≤ u.ft ∧
      senderCut at9 1 = some 9 ∧ inPartition at9 = true ∧ at9.ft < 9 + 1048576 ∧
      senderCut { u with pound.committed := 0 } 1 = none ∧ inPartition { u with pound.committed := 0 } = true ∧ 1048576 ≤ s.ft ∧
      (∃ w ∈ young.torus.held, heldOf 0x1000 1 w = true ∧ young.ft < w.since + 1048576) ∧
      inPartition s = false ∧ s.torus.held.filter (heldOf 0x1000 1) ≠ [] ∧
      (∀ w ∈ s.torus.held, heldOf 0x1000 1 w = true → w.since + 1048576 ≤ s.time.ft)) := by
  refine ⟨⟨by decide, by decide, taken_of (by decide), taken_of (by decide)⟩, by decide, ?_, by decide⟩
  obtain ⟨u, h, -⟩ := taken_of (c := 0x1000) (s := noticed 0x1000) (p := fun u => u.time.master = false) (by decide)
  exact ⟨u, h⟩

/-! ### The photonic base and light -/

/-- A packet of the base, 32 bytes of payload, to a berth. -/
def basePacket (tag : Nat) (dest : Nat := 0) : BasePacket :=
  { stamp := 0, addr := 0, kind := 4, vc := 1, destBerth := dest, destUnit := 0, srcBerth := 8, srcUnit := 0, len := 32, tag := tag,
    payload := List.replicate 32 0 }

/-- TX0 of berth 8 sends to RX0 of berth 0 under a grant; the frames before the next have failed `bad` times. -/
def framed (x : Link) (bad : Nat) : State :=
  { base.links := [(8, { state := 2, granted := some 128, badRun := [(128, bad)], rxSeq := [(128, 4095)] }),
                   (128, { x with state := 2, ports := [(0, 0)], txSeq := [(8, 4095)] })] }

/-- `framed`, its receiver still waiting for what it has asked TX0 to send again. -/
def renaked : State :=
  { base.links := [(8, { state := 2, granted := some 128, nak := [(128, 4095)], rxSeq := [(128, 4095)] }),
                   (128, { state := 2, ports := [(0, 0)], nak := [(8, 4095)], txSeq := [(8, 4095)] })] }

/-- What RX0 of berth 0 makes of the next frame under the bit errors given, the state after the WR wave, and the FSEQ due. -/
def nextReading (s : State) (bits : Nat) : Option (Bytes × List Nat) × State :=
  let n := nextFrame 128 8 (laneStep 128 8 s)
  (decodeFrame false (encodeFrame false n.1 ^^^ bits % 2 ^ 1360), idleWave 128 8 85 0 n.2)

/-- Bit errors in five symbols, more than the code corrects. -/
def fiveErrors : Nat := 1 + 2 ^ 10 + 2 ^ 20 + 2 ^ 30 + 2 ^ 1359

/-- The next frame comes through the code with a TYPE, in the base's epoch, with the number due. -/
def frameComes (s : State) (type : Nat) : Bool :=
  match nextReading s 0 with
  | (some (got, syms), v) =>
    let w := countDecoded 8 128 syms v
    (controlOf got).type == type && (controlOf got).epoch == w.base.epoch && (controlOf got).fseq == Tab.getD 0 128 (w.link 8).rxSeq
  | (none, _) => false

theorem witness_frames_code :
    frameComes (framed {} 0) 1 = true ∧ frameComes (framed { queue := [{ owner := .none, pkt := basePacket 0 }] } 0) 0 = true ∧
    ((nextReading (framed { trainLeft := 1 } 0) 0).1.map fun r => (controlOf r.1).type) = some 2 ∧
    (nextReading (framed {} 2) fiveErrors).1 = none ∧
    Tab.getD 0 128 ((nextReading (framed {} 2) fiveErrors).2.link 8).badRun + 1 ≠ 4 ∧
    Tab.has 128 ((nextReading (framed {} 2) fiveErrors).2.link 8).nak = false ∧
    (nextReading (framed {} 3) fiveErrors).1 = none ∧
    Tab.getD 0 128 ((nextReading (framed {} 3) fiveErrors).2.link 8).badRun + 1 = 4 ∧
    (nextReading renaked fiveErrors).1 = none ∧
    Tab.has 128 ((nextReading renaked fiveErrors).2.link 8).nak = true ∧
    Tab.has 8 ((nextReading renaked fiveErrors).2.link 128).nak = true := by
  refine ⟨by decide +kernel, by decide +kernel, by decide +kernel, by decide +kernel, by decide +kernel, by decide +kernel,
    by decide +kernel, by decide +kernel, by decide +kernel, by decide +kernel, by decide +kernel⟩

theorem witness_LinkFramesGrantsAndCredits :
    (∀ s ∈ [framed {} 0, framed { queue := [{ owner := .none, pkt := basePacket 0 }] } 0, framed { trainLeft := 1 } 0, framed {} 2,
        framed {} 3, renaked],
      linkRx 8 = true ∧ linkFibre 8 = false ∧ linkUp s 8 = true ∧ s.base.reset = none ∧ frameSender s 8 = some 128 ∧
        sendsNow s 128 8 = true) ∧
    (linkUp State.reset 8 = false ∧
      let s : State := { base.links := [(8, { state := 2 })] }
      linkUp s 8 = true ∧ s.base.reset = none ∧ frameSender s 8 = none) ∧
    (let s : State := { base.links := [(520, { state := 2 })] }
     linkRx 520 = true ∧ linkFibre 520 = true ∧ linkUp s 520 = true ∧ s.base.reset = none) ∧
    (let s : State := { base.links := [(0, { nak := [(8, 4095)] })] }
     linkRx 0 = false ∧ (s.link 0).nak ≠ [] ∧ (State.reset.link 0).nak = []) ∧
    (let s := framed { queue := [{ owner := .none, pkt := basePacket 0 }] } 0
     let free : State := { s with
       base.links := [(8, { state := 2 }), (128, { state := 2, ports := [(0, 0)], queue := [{ owner := .none, pkt := basePacket 0 }] })] }
     linkRx 8 = true ∧ linkFibre 8 = false ∧ linkUp s 8 = true ∧ grantOver s 8 = false ∧
      linkUp free 8 = true ∧ (free.link 8).paused = false ∧ grantOver free 8 = true ∧
      (({ base.links := [(8, { state := 2, paused := true })] } : State).link 8).paused = true ∧
      nextGrant (free.link 8) ([(128, 1)].filter (requestStands free 8)) = some (128, 1) ∧
      nextGrant (free.link 8) ([(24, 1)].filter (requestStands free 8)) = none) ∧
    (let s : State := { base.links := [(0, { state := 2, ports := [(1, 5)] })] }
     linkRx 0 = false ∧ linkUp s 0 = true ∧ (s.link 0).paused = false ∧ Tab.find? 1 (s.link 0).ports = some 5 ∧
      (s.link (rxLink 5 (linkBerth 0 % 8))).paused = false ∧ (s.link 0).active ≠ 1 ∧ busyPort (s.link 0) 0 = false ∧
      circuitNow (s.link 0) = none) ∧
    (let p : BasePacket := { basePacket 0 30 with kind := 3 }
     let s : State := { base.queues := [(4 * 8 + 1, [(basePacket 0, 128)]), (4 * 488 + 1, [(p, 128)])] }
     linkRx 488 = true ∧ linkFibre 488 = false ∧ Tab.getD [] (4 * 488 + 1) s.base.queues = [(p, 128)] ∧
      drains s 488 p = true ∧ Tab.getD [] (4 * 8 + 1) s.base.queues = [(basePacket 0, 128)] ∧ drains s 8 (basePacket 0) = false) := by
  refine ⟨by decide, by decide, by decide, by decide, by decide, by decide, by decide⟩

theorem witness_LockWindows :
    (let w : Window := { start := 0, links := [0, 8], acts := [] }
     let s : State := { base.windows := [w] }
     let busy : State := { s with base.links := [(0, { state := 2, nak := [(8, 0)] })] }
     s.base.windows = [w] ∧ w.started = false ∧ w.start ≤ s.ft ∧ (∀ l ∈ w.links, linkQuiet s l = true) ∧
      busy.base.windows = [w] ∧ (∃ l ∈ w.links, linkQuiet busy l = false)) ∧
    (let w : Window := { start := 0, links := [0, 8], acts := [], started := true }
     let s : State := { base.windows := [w], time.ft := 640 }
     s.base.windows = [w] ∧ w.started = true ∧ w.late = false ∧ w.start + 625 ≤ s.ft ∧ w.start + 640 ≤ s.ft ∧
      spareLeft w = false ∧ 624 < w.start + 625 ∧ ({ w with late := true } : Window).late = true) ∧
    (let w : Window := { start := 0, links := [0, 8], acts := [], started := true }
     let s : State := { base.windows := [w], time.ft := 625 }
     inWindow s 0 = true ∧ (∀ p ∈ (s.link 0).unset, p.1 ∈ [3]) ∧ inWindow { s with time.ft := 626 } 0 = false ∧
      (let t : State := { s with base.links := [(0, { unset := [(1, 4), (3, 9)] })] }
       inWindow t 0 = true ∧ (∃ p ∈ (t.link 0).unset, p.1 ∉ [3]) ∧ ∀ p ∈ (t.link 0).unset, p.1 ∈ [1, 3])) ∧
    (({ base.links := [(0, { paused := true })] } : State).link 0).paused = true ∧
    (({ base.links := [(0, { paused := true })] } : State).link 0).unset = [] ∧
    ((State.reset).link 0).paused = false ∧
    (({ base.links := [(0, { unset := [(3, 9)], paused := true })] } : State).link 0).unset = [(3, 9)] ∧
    (({ base.links := [(0, { unset := [(3, 9)], paused := true })] } : State).link 0).paused = true := by
  decide

/-- The basin entry of group 3 at address 0 of berth 0, one of two contributions carried. -/
def entry3 : BasinEntry :=
  { link := 8, units := 1, unit := 0, srcBerth := 1, sum := [], rtype := 0, flush := false, carried := 1, expects := 2, done := false }

theorem witness_BasinsAndBaseLogicReset :
    (let p := basePacket (2 * 2 ^ 32 + 1 * 2 ^ 16 + 3 * 256)
     let excess := basePacket (1 * 2 ^ 32 + 2 * 2 ^ 16 + 3 * 256)
     let holds := fun e : BasinEntry => ({ base.basins := [((0, 3, 0), e)] } : State)
     let many : State := { base.basins := (List.range 96).map fun i => ((0, i + 8, 0), entry3) }
     p.kind = 4 ∧ linkFibre 8 = false ∧ linkBerth 8 = 0 ∧ 30 ≤ linkBerth (16 * 31 + 8) ∧ linkFibre (16 * 31 + 8) = false ∧
      linkBerth (24 * 16 + 8) = 24 ∧ linkFibre 520 = true ∧ tagGroup p.tag = 3 ∧ p.addr = 0 ∧ p.srcBerth = 8 ∧
      (0, 3, 0, 8) ∈ ({ base.finished := [(0, 3, 0, 8)] } : State).base.finished ∧ (0, 3, 0, 8) ∉ State.reset.base.finished ∧
      basinFind State.reset (0, 3, 0) = none ∧ tagCarried p.tag ≤ tagExpects p.tag ∧ tagExpects excess.tag < tagCarried excess.tag ∧
      tagGroup excess.tag = 3 ∧ excess.kind = 4 ∧
      entriesAt State.reset 0 p.addr < 96 ∧ 96 ≤ entriesAt many 0 p.addr ∧ basinFind many (0, 3, 0) = none ∧ many.base.finished = [] ∧
      basinFind (holds entry3) (0, 3, 0) = some entry3 ∧ entry3.done = false ∧ entry3.carried + tagCarried p.tag ≤ entry3.expects ∧
      entry3.expects < entry3.carried + tagCarried excess.tag ∧
      basinFind (holds { entry3 with done := true }) (0, 3, 0) = some { entry3 with done := true } ∧
      (holds entry3).base.finished = []) ∧
    (let full : BasinEntry := { entry3 with done := true }
     let at' := fun (b : Nat) (e : BasinEntry) => ({ base.basins := [((b, 3, 0), e)] } : State)
     let live : State := { at' 0 full with stk.dies := [(0, { powered := true, clocked := true, reaches := [(0, { enable := 8 })] })]
                                           base.links := [(0, { state := 2, ports := [(0, 0)] })] }
     let p := fun b : Nat => ({ stamp := 0, addr := 0, kind := 0, vc := 1, destBerth := b, destUnit := 0, srcBerth := b, srcUnit := 0
                                len := 0, tag := 0, payload := [] } : BasePacket)
     basinFind (at' 0 entry3) (0, 3, 0) = some entry3 ∧ entryColl (at' 0 entry3) 3 0 entry3 = none ∧
      basinFind (at' 16 full) (16, 3, 0) = some full ∧ entryColl (at' 16 full) 3 0 full = none ∧ full.done = true ∧
      (elemBytes full.rtype full.sum).take 256 = [] ∧ basinFind live (0, 3, 0) = some full ∧ entryColl live 3 0 full = none ∧
      portFree live 0 (p 0) = true ∧ basinFind (at' 0 full) (0, 3, 0) = some full ∧ entryColl (at' 0 full) 3 0 full = none ∧
      portFree (at' 0 full) 0 (p 0) = false) ∧
    (stranded State.reset = false ∧ State.reset.sec.halted = none ∧ State.reset.base.reset = none ∧
      Tab.getD 0 3 State.reset.base.silent < 2 ∧
      let s : State := { base.silent := [(3, 2)] }
      let v : State := { s with pound.closing := some { serial := 1, cut := 0, drained := true }, time.ft := 2300 }
      2 ≤ Tab.getD 0 3 s.base.silent ∧ betweenVerdict s = false ∧ 2 ≤ Tab.getD 0 3 v.base.silent ∧ betweenVerdict v = true) ∧
    (let r : BaseReset := { start := 0 }
     let s : State := { base.reset := some r, time.ft := 125 }
     s.base.reset = some r ∧ r.released = false ∧ r.start + 125 ≤ s.ft ∧ ({ s with time.ft := 124 } : State).ft < r.start + 125 ∧
      ({ base.reset := some { r with released := true } } : State).base.reset = some { r with released := true } ∧
      ({ r with released := true } : BaseReset).released = true) := by
  refine ⟨by decide, by decide, by decide, by decide⟩

/-- A bank with a handover of lane 3 to spare 17 in a phase, begun at tick 0. -/
def handing (p : HandPhase) (now : Nat) : State :=
  { time.ft := now, light.groups := [(0, { handover := some { lane := 3, spare := 17, phase := p, since := 0 }, queue := [3] })]
    light.lasers := [(3, { lit := true, serves := 3 }), (17, { state := 5 })] }

theorem witness_HandoverOfALane :
    (let s : State := { light.groups := [(0, { queue := [3] })], light.lasers := [(16, { lit := true, serves := 16 }), (17, { state := 5 })] }
     (s.group (unitGroup (.bank 0))).handover = none ∧ s.base.reset = none ∧ nextLane s 0 = some 3 ∧ freeSpare s 0 3 = some 17 ∧
      (s.group 0).relieved ≠ some 3 ∧ (3 : Nat) ≠ 16 ∧
      (let wr : State := { s with light.groups := [(0, { queue := [16] })] }
       nextLane wr 0 = some 16 ∧ freeSpare wr 0 16 = some 17 ∧ (wr.group 0).relieved ≠ some 16) ∧
      (let r : State := { s with light.groups := [(0, { queue := [3], relieved := some 3 })] }
       nextLane r 0 = some 3 ∧ freeSpare r 0 3 = some 17 ∧ (r.group 0).relieved = some 3) ∧
      (let none' : State := { s with light.lasers := [(16, { lit := true, serves := 16 })] }
       nextLane none' 0 = some 3 ∧ freeSpare none' 0 3 = none) ∧
      nextLane State.reset 0 = none ∧ ({ base.reset := some { start := 0 } } : State).base.reset.isSome = true) ∧
    (let h : Handover := { lane := 3, spare := 17, phase := .waiting, since := 0 }
     let s := handing .waiting 0
     let up : State := { s with base.links := (groupLinks 0).map fun l => (l, { state := 2 }) }
     (s.group 0).handover = some h ∧ h.phase = .waiting ∧ (groupLinks 0).all (linkUp s) = false ∧
      (up.group 0).handover = some h ∧ up.base.reset = none ∧ (groupLinks 0).all (linkUp up) = true ∧ h.lane ≠ 16 ∧
      (up.group 0).relieved ≠ some h.lane ∧
      let r : State := { up with light.groups := [(0, { handover := some h, relieved := some 3 })] }
      (r.group 0).handover = some h ∧ (groupLinks 0).all (linkUp r) = true ∧ (r.group 0).relieved = some h.lane) ∧
    (inPhase (handing .mirrored 127) 0 .mirrored 128 = false ∧
      inPhase (handing .mirrored 65537) 0 .mirrored 65537 = true ∧ inPhase (handing .mirrored 65537) 0 .drained 0 = false ∧
      (((handing .mirrored 65537).group 0).handover.any fun h => h.tunedAt.isNone) = true ∧
      inPhase (handing .drained 65409) 0 .drained 65409 = true ∧
      (((handing .drained 65409).group 0).handover.any fun h => h.tunedAt.isNone) = true ∧
      inPhase (handing .mirrored 0) 0 .mirrored 0 = true ∧
      inPhase (handing .tuned 0) 0 .mirrored 0 = false ∧ inPhase (handing .tuned 0) 0 .drained 0 = false ∧
      (((handing .tuned 0).group 1).handover.any fun h => h.tunedAt.isNone) = false ∧
      inPhase (handing .mirrored 128) 0 .mirrored 128 = true ∧ inPhase (handing .tuned 16384) 0 .tuned 16384 = true ∧
      inPhase (handing .switched 132322) 0 .switched (1250 + 131072) = true ∧ inPhase (handing .switched 1250) 0 .switched 1250 = true ∧
      inPhase (handing .checked 127) 0 .checked 128 = false ∧ inPhase (handing .checked 128) 0 .checked 128 = true) ∧
    (let h : Handover := { lane := 3, spare := 17, phase := .drained, since := 0 }
     ((handing .drained 65408).group 0).handover = some h ∧ h.tunedAt = none ∧ h.since ≤ (handing .drained 65408).ft ∧
      (handing .drained 65408).ft < h.since + 65409 ∧
      let m : Handover := { h with phase := .mirrored }
      ((handing .mirrored 65536).group 0).handover = some m ∧ m.tunedAt = none ∧ (handing .mirrored 65536).ft < m.since + 65537) ∧
    (let h : Handover := { lane := 3, spare := 17, phase := .verified, since := 0 }
     let s := handing .verified 0
     let lasers := fun l : Tab Laser => ({ s with light.lasers := l } : State)
     (s.group 0).handover = some h ∧ servingLaser s 0 h.lane = some 3 ∧ (3 : Nat) ≠ h.spare ∧ (s.laser 3).state ≠ 6 ∧
      servingLaser (lasers [(3, { lit := true, serves := 3, state := 6 })]) 0 h.lane = some 3 ∧
      ((lasers [(3, { lit := true, serves := 3, state := 6 })]).laser 3).state = 6 ∧
      servingLaser (lasers []) 0 h.lane = none ∧
      servingLaser (lasers [(17, { lit := true, serves := 3 })]) 0 h.lane = some h.spare ∧
      ((handing .tuned 0).group 0).handover = some { h with phase := .tuned } ∧ ({ h with phase := .tuned } : Handover).phase ≠ .verified) ∧
    (let s := handing .verified 0
     let k := laserKey (.bank 0 3)
     let lasers := fun x : Laser => ({ s with light.lasers := [(k, x)] } : State)
     k = 3 ∧ (s.laser k).lit = true ∧ (s.laser k).serves ≤ 16 ∧ (s.laser k).serves ≠ 16 ∧
      (s.group (groupOfKey k)).relieved ≠ some (s.laser k).serves ∧ (s.laser k).state ≠ 6 ∧
      ((lasers {}).laser k).lit = false ∧ 16 < ((lasers { lit := true, serves := 31 }).laser k).serves ∧
      ((lasers { lit := true, serves := 16 }).laser k).serves = 16 ∧ ((lasers { lit := true, serves := 3, state := 6 }).laser k).state = 6 ∧
      let r : State := { lasers { lit := true, serves := 3 } with light.groups := [(0, { relieved := some 3 })] }
      (r.group (groupOfKey k)).relieved = some (r.laser k).serves ∧ (r.laser k).lit = true ∧ (r.laser k).serves ≤ 16) := by
  refine ⟨by decide, by decide, by decide, by decide, by decide, by decide⟩

theorem witness_RingsCalibrationAndGovernor :
    (let r : RingRef := { berth := 0, receive := true, link := 1, role := 1, lane := 2 }
     let s : State := { light.wrong := [r], light.swept := [r], base.links := [(ringLink r, { state := 2, relief := [(2, 0)] })] }
     s.light.swept.contains r = true ∧ Tab.has r.lane (s.link (ringLink r)).relief = true ∧
      State.reset.light.swept.contains r = false) ∧
    (inSlack { boot.phase := 8, time.ft := 65535 } = false ∧ inSlack { boot.phase := 8, time.ft := 65536 } = true ∧
      (let s : State := { boot.phase := 8, time.ft := 65536, light.calDue := [3], light.lasers := [(3, { lit := true })] }
       calibDue s ≠ [] ∧ 4 ∉ calibDue s ∧ 3 ∈ calibDue s ∧ inSlack s = true ∧ calibOk s 0 3 1800 600 = true) ∧
      calibDue { boot.phase := 8, time.ft := 65536 } = [] ∧ calibOk { boot.phase := 8, time.ft := 65536 } 0 0 1800 600 = true ∧
      (State.reset.base.windows.any fun w => w.acts.contains (.calib 5)) = false ∧
      (let w : Window := { start := 0, links := [0], acts := [.calib 5], started := true }
       let s : State := { base.windows := [w] }
       s.base.windows = [w] ∧ w.started = true ∧ w.acts.contains (.calib 5) = true ∧ calibOk s 1 5 2400 140 = true) ∧
      (({ base.links := [(0, { granted := some 8 })] } : State).link (5 / 32)).granted.isSome = true ∧
      (State.reset.link (5 / 32)).granted = none ∧ calibOk State.reset 2 5 0 0 = true ∧ calibOk State.reset 2 5 4001 0 = false) ∧
    (calibOk State.reset 2 0 4000 0 = true ∧ calibOk State.reset 2 0 (-4000) 0 = true) ∧
    (let die : Stack := { powered := true, clocked := true, estimate := 1000, slotAt := none }
     let s : State := { stk.dies := [(0, die)] }
     (s.stack 0).powered = true ∧ (s.stack 0).clocked = true ∧ (s.stack 0).slotAt ≠ some (s.ft / 16) ∧
      (s.stack 0).acts.foldl (fun a x => a + x.2 * Config.energy 0 x.1) (0 * Config.energy 0 10) + 384 < (s.stack 0).estimate ∧
      (State.reset.stack 0).powered = false ∧ (({ stk.dies := [(0, { powered := true })] } : State).stack 0).clocked = false ∧
      (({ stk.dies := [(0, { slotAt := some 0 })] } : State).stack 0).slotAt = some (State.reset.ft / 16)) := by
  refine ⟨by decide, by decide, by decide, ?_⟩
  refine ⟨by decide, by decide, by decide, ?_, by decide, by decide, by decide⟩
  show 0 * Config.energy 0 10 + 384 < 1000
  omega
/-! ### Reads, the torus and its notices -/

def readOf (d : ReadFor) (tries : Nat) : ReadReq := { addr := 0, len := 256, berth := 0, dest := d, tries := tries, here := true }

theorem witness_MemoryReadsRefreshAndPatrol :
    (let r := readOf .other 0
     let buf : Buffer := { gen := 0, page := 0, pages := 1, size := 65536 }
     let reads := fun (q : ReadReq) (b : Tab Buffer) => ({ mem.reads := [(1, q)], mem.buffers := b } : State)
     let far := readOf (.torus 0x1000 0) 0
     let short : ReadReq := { r with len := 224 }
     let away : Buffer := { buf with remote := some (0x1000, 1, 0, 0) }
     Tab.find? 1 State.reset.mem.reads = none ∧
      Tab.find? 1 (reads r []).mem.reads = some r ∧ r.data = none ∧ r.tries = 0 ∧ r.here = true ∧ addressBad (reads r []) r.addr = true ∧
      addressBad (reads r [(1, buf)]) r.addr = false ∧ bufAtPage (reads r [(1, buf)]) (pageOf r.addr) = some buf ∧ buf.remote = none ∧
      Tab.find? 1 (reads short [(1, away)]).mem.reads = some short ∧ short.len ≤ 224 ∧ short.data = none ∧ short.tries = 0 ∧
      short.here = true ∧ addressBad (reads short [(1, away)]) short.addr = false ∧
      bufAtPage (reads short [(1, away)]) (pageOf short.addr) = some away ∧
      ({ r with here := false } : ReadReq).here = false ∧ (readOf .other 1).tries ≠ 0 ∧
      let u := reads far [(1, buf)]
      Tab.find? 1 u.mem.reads = some far ∧ far.data = none ∧ far.tries = 0 ∧ far.here = true ∧ far.dest = .torus 0x1000 0 ∧
      addressBad u far.addr = false ∧ bufAtPage u (pageOf far.addr) = some buf ∧ u.mem.wrong = [] ∧
      rangePoisoned u far.addr far.len = false ∧ rangePoisoned { u with mem.poison := [0] } far.addr far.len = true) ∧
    ((State.reset.memBerth 7).selfRefresh = false ∧ State.reset.power.pstate ≠ 4 ∧ inSlack State.reset = true ∧
      inSlack { boot.phase := 8 } = false ∧ Tab.find? 3 (State.reset.memBerth 7).trackedIn ≠ some (State.reset.ft / 131072) ∧
      Tab.find? 3 (({ mem.berths := [(7, { trackedIn := [(3, 0)] })] } : State).memBerth 7).trackedIn = some (State.reset.ft / 131072) ∧
      storeBerth 28672 = 7 ∧ storeBerth 0 ≠ 7 ∧ (∀ a ∈ State.reset.mem.wrong, a / 32 ≠ 28672 / 32) ∧
      (({ mem.berths := [(7, { selfRefresh := true })] } : State).memBerth 7).selfRefresh = true ∧
      ({ power.pstate := 4 } : State).power.pstate = 4) := by
  refine ⟨by decide, by decide⟩

theorem witness_reads_not_torus : ∀ src tag, (readOf .other 0).dest ≠ .torus src tag := by
  intro _ _ h; cases h

theorem witness_reads_find :
    let s : State := { mem.reads := [(1, readOf .other 0)], mem.buffers := [(1, { gen := 0, page := 0, pages := 1, size := 65536 })] }
    ∀ b, bufAtPage s (pageOf (readOf .other 0).addr) = some b → b.remote = none := by
  intro s b h
  have e : bufAtPage s (pageOf (readOf .other 0).addr) = some { gen := 0, page := 0, pages := 1, size := 65536 } := by decide
  rw [e] at h; cases h; rfl

def tpacket (route hop dest : Nat) : TorusPacket :=
  { pound := 1, route := route, hop := hop, cls := 0, dest := dest, src := 0x2000, passage := 0, attempt := 0
    base := basePacket 0 }

theorem witness_TorusPacketsAndAcks :
    (let s : State := { base.links := [(520, { state := 2 }), (536, { state := 2 })]
                        base.queues := [(4 * 520 + 1, [(torusBase (tpacket 1 0 0x1000), 512)])] }
     let u := fun p : TorusPacket => countPort 0 p.base.vc 3 1 (countPort 0 p.base.vc 1 (fibreFlits p) s)
     let v := fun p : TorusPacket => fibreTake (fibreRx 0 (0 % 8)) p (u p)
     linkUp s (fibreRx 0 (0 % 8)) = true ∧ linkUp State.reset (fibreRx 0 (0 % 8)) = false ∧
      fibreHolds s (fibreRx 0 0) (tpacket 1 0 0x1000) = true ∧ fibreHolds s (fibreRx 0 0) (tpacket 6 0 0) = false ∧
      (hopCode (tpacket 1 0 0x1000).route 0 = 1 ∧ portUp (v (tpacket 1 0 0x1000)) 1 = true) ∧
      (let s3 : State := { s with base.queues := [(4 * 520 + 1, [(torusBase (tpacket 3 0 0x1000), 512)])] }
       fibreHolds s3 (fibreRx 0 0) (tpacket 3 0 0x1000) = true ∧ hopCode (tpacket 3 0 0x1000).route 0 = 3 ∧
        portUp (fibreTake (fibreRx 0 0) (tpacket 3 0 0x1000) (countPort 0 1 3 1 (countPort 0 1 1 0 s3))) 3 = false) ∧
      (let s6 := fun p : TorusPacket => ({ s with base.queues := [(4 * 520 + 1, [(torusBase p, 512)])] } : State)
       fibreHolds (s6 (tpacket 6 0 0)) (fibreRx 0 0) (tpacket 6 0 0) = true ∧ hopCode (tpacket 6 0 0).route 0 = 6 ∧
        coordOf (tpacket 6 0 0).dest = coordOf s.torus.coord ∧
        fibreHolds (s6 (tpacket 7 0 0)) (fibreRx 0 0) (tpacket 7 0 0) = true ∧ hopCode (tpacket 7 0 0).route 0 = 7 ∧
        fibreHolds (s6 (tpacket 0 0 0)) (fibreRx 0 0) (tpacket 0 0 0) = true ∧ hopCode (tpacket 0 0 0).route 0 = 0 ∧
        fibreHolds (s6 (tpacket 6 0 0x1000)) (fibreRx 0 0) (tpacket 6 0 0x1000) = true ∧
        coordOf (tpacket 6 0 0x1000).dest ≠ coordOf s.torus.coord)) ∧
    (let s : State := { torus.partition := 1, torus.dims := [2, 1, 1], light.lasers := [(84, { lit := true, serves := 0 })] }
     dimOf s (0 / 2) ≠ 1 ∧ (∃ j < 17, laneLit s (4 + 0) j = true) ∧ (s.group (4 + 0)).down = false ∧
      linkUp s (fibreRx 0 (3 % 8)) = false ∧ s.base.reset = none ∧ farOk s 0 1 0x1000 1 = true ∧ farOk s 0 1 0x1000 0 = false) ∧
    (let c : Closing := { serial := 1, cut := 0 }
     let x : SentWrites := { dest := 0x1000, n := 1, count := 2, acked := 1 }
     let s : State := { pound.closing := some c, time.ft := 2240, torus.sent := [x] }
     s.pound.closing = some c ∧ c.cut + 2240 ≤ s.time.ft ∧ c.verdict = false ∧ rollsBack s c.serial = false ∧
      (s.torus.sent.find? fun x => x.n == c.serial && decide (x.acked < x.count)) = some x ∧
      let y : SentWrites := { x with acked := 2 }
      ∀ z ∈ [y], z.n = c.serial → z.count ≤ z.acked) ∧
    (let r := readOf (.xfer rank0 0) 1
     let q := readOf (.xfer rank0 0) 4
     let s : State := { mem.reads := [(1, r), (2, q)], time.ft := 4096
                        mem.buffers := [(1, { gen := 0, page := 0, pages := 1, size := 65536, remote := some (0x1000, 1, 0, 0) })] }
     Tab.find? 1 s.mem.reads = some r ∧ r.data = none ∧ r.sentAt + 4096 ≤ s.time.ft ∧ 0 < r.tries ∧ r.tries < 4 ∧
      (bufAtPage s (pageOf r.addr)).map Buffer.remote = some (some (0x1000, 1, 0, 0)) ∧
      Tab.find? 2 s.mem.reads = some q ∧ 4 ≤ q.tries ∧ q.dest = .xfer rank0 0) := by
  refine ⟨by decide, by decide, by decide, by decide⟩

theorem witness_JoiningLeavingAndNotices :
    (let s : State := { torus.partition := 1, time.mode := 2, pound.opened := true, time.masterCoord := some 0x1000 }
     s.torus.partition ≠ 0 ∧ inStepNow s = false ∧ s.torus.joining = false ∧ s.time.mode = 2 ∧ s.power.pstate < 3 ∧
      s.pound.replay = false ∧ s.pound.recovery = none ∧ s.pound.opened = true ∧ stranded s = false ∧ s.time.master = false ∧
      s.time.masterCoord.isSome = true ∧ ({ s with time.masterCoord := none } : State).time.masterCoord = none) ∧
    ((∀ c ∈ State.reset.torus.control, coordOf c.src ≠ coordOf 0x1000) ∧
      let c : ControlIn := { port := 0, src := 0x1000, no := 1 }
      let s := noticed 0x1000
      let u := fun s : State => sendControl 6 c.no 0x1000 { s with torus.control := s.torus.control.erase c }
      (s.torus.control.find? fun c => coordOf c.src == coordOf 0x1000) = some c ∧ (u s).time.master = false ∧
        (u { s with time.master := true, torus.partition := 1 }).time.master = true ∧
        (u { s with time.master := true, torus.partition := 1 }).torus.partition ≠ 0) ∧
    (let s : State := { torus.partition := 1, time.ft := 1048576, time.lastTiming := some 0 }
     s.torus.partition ≠ 0 ∧ s.torus.left = false ∧ s.time.master = false ∧ s.time.lastTiming = some 0 ∧ 0 + 1048576 ≤ s.ft ∧
      ({ s with time.ft := 1048575 } : State).ft < 0 + 1048576 ∧ State.reset.torus.partition = 0) ∧
    (let c : ControlIn := { port := 0, src := 0x1000, no := 1 }
     let s : State := { inTwo [] with torus.seen := [5], torus.control := [c] }
     s.torus.partition ≠ 0 ∧ (s.torus.control.find? fun c => c.port == 0) = some c ∧ 5 ∈ s.torus.seen ∧ 6 ∉ s.torus.seen ∧
      ∀ c ∈ State.reset.torus.control, c.port ≠ 0) ∧
    (let x : NoticeOut := { what := .close 0, sentAt := 0 }
     Tab.find? 1 ({ torus.notices := [(1, x)] } : State).torus.notices = some x) ∧
    (let s : State := { time.master := true }
     s.time.master = true ∧ Tab.has 7 s.torus.flights = false ∧ s.torus.flights.length < 64 ∧
      1 ≤ (List.replicate 16 ([] : List FlightAct)).length ∧ (List.replicate 16 ([] : List FlightAct)).length ≤ 16 ∧
      16 < (List.replicate 17 ([] : List FlightAct)).length ∧ State.reset.time.master = false) ∧
    (let s : State := { torus.partition := 1, time.ft := 131072 }
     s.torus.partition ≠ 0 ∧ s.time.master = false ∧ s.time.lastTiming.getD 0 + 131072 ≤ s.ft ∧ s.torus.eligible = false ∧
      ({ s with torus.eligible := true } : State).torus.eligible = true ∧
      (∀ d, d < 6 → portUp { s with torus.eligible := true } d = false) ∧
      ({ s with time.ft := 131071 } : State).ft < s.time.lastTiming.getD 0 + 131072) ∧
    (bufOf (withBuffer [] []) 1 = some theBuffer ∧ theBuffer.remote = none ∧ 0x800000 ≤ theBuffer.size ∧ theBuffer.size < 0x800001) := by
  refine ⟨by decide, by decide, by decide, by decide, by decide, by decide, by decide, by decide⟩

/-! ### Housekeeping, redundancy and spares -/

theorem witness_HousekeepingAndTrips :
    (let round : HouseRound := { samples := [], silent := [3] }
     let s : State := { pins.resetN := true }
     s.pins.resetN = true ∧ s.power.phase = 0 ∧ 3 ∈ round.silent ∧ 4 ∉ round.silent ∧
      (let u : State := { pins.resetN := true, power.phase := 3, time.ft := 131072 }
       u.ft / 131072 ≠ u.power.round) ∧
      (let v : State := { pins.resetN := true, power.phase := 1 }
       v.power.phase ≠ 0 ∧ v.ft / 131072 = v.power.round) ∧ State.reset.pins.resetN = false) ∧
    (firmwareRuns State.reset = false ∧ mayTrip { power.shutdown := true } = false ∧ State.reset.power.tripAt = none ∧
      (let s : State := { pins.resetN := true }
       s.power.tripWanted = none ∧ hardwareTrip s = none) ∧
      let s : State := { pins.resetN := true, boot.phase := 3, power.phase := 1, time.ft := 49152 }
      firmwareRuns s = true ∧ s.power.phase = 1 ∧ s.power.roundAt + 49152 ≤ s.ft ∧
        isBroken { s with power.broken := [(4, 0)] } 4 = true) ∧
    (let s : State := { pins.resetN := true, boot.phase := 3, power.phase := 2, time.ft := 65536 }
     firmwareRuns s = true ∧ s.power.phase = 2 ∧ s.power.roundAt + 65536 ≤ s.ft ∧ s.power.throttled.Nodup) ∧
    (let s : State := { pins.resetN := true, power.tripWanted := some (0, 0) }
     mayTrip s = true ∧ s.pins.resetN = true ∧ s.power.tripWanted = some (0, 0) ∧ stranded s = false ∧
      let u : State := { pins.resetN := true, power.tripWanted := some (0, 0), lk.stranded := some 2 }
      mayTrip u = true ∧ stranded u = true) ∧
    (let t : Transition := { source := 0, target := 4, cap := 11, job := none, since := 0, cause := .trip }
     let s : State := { power.tripAt := some 3, power.transition := some t }
     s.power.tripAt = some 3 ∧ s.power.transition = some t) := by
  refine ⟨by decide, by decide, by decide, by decide, by decide⟩

/-- A running pair in lockstep at a tick. -/
def paired (now : Nat) : State := { pins.resetN := true, boot.phase := 8, time.ft := now }

theorem witness_LockkeeperPair :
    (pairRuns (paired 0) = true ∧ lockstep (paired 0) = true ∧ (paired 0).lk.test = none ∧ 2 ≤ 2 ∧
      (paired 0).pound.recovery = none ∧ (paired 0).lk.strandedDue = false) ∧
    (let s : State := { paired 0 with lk.test := some { start := 0 } }
     s.lk.test = some { start := 0 } ∧ s.ft < ({ start := 0 } : LkTest).start + 25000) ∧
    (let s : State := { paired 25000 with lk.test := some { start := 0 } }
     s.lk.test = some { start := 0 } ∧ pairRuns s = true ∧ ({ start := 0 } : LkTest).start + 25000 ≤ s.time.ft ∧
      s.lk.a.faulty = false ∧ s.lk.b.faulty = false ∧ s.lk.bothPassAt = none) ∧
    (comparing (paired 12500000) = true ∧ (paired 12500000).lk.injectAt + 12500000 ≤ (paired 12500000).time.ft ∧
      (paired 12500000).lk.missRun = 0 ∧ ({ paired 12500000 with lk.missRun := 1 } : State).lk.missRun = 1 ∧
      comparing (paired 0) = true ∧ (paired 0).time.ft < (paired 0).lk.injectAt + 12500000 ∧ afterCommit (paired 0) = false ∧ comparing (paired 16777216) = true ∧
      (paired 16777216).lk.scrubAt + 16777216 ≤ (paired 16777216).time.ft) ∧
    (let s : State := { paired 1250000001 with pound.lastK := 1250000000 }
     comparing s = true ∧ afterCommit s = true ∧ s.lk.testAt + 1250000000 ≤ s.time.ft ∧ s.lk.b.role = .checker ∧
      let u : State := { s with lk.a := { role := .checker }, lk.b := { role := .helm } }
      comparing u = true ∧ u.lk.a.role = .checker ∧
      let v : State := { s with lk.rejoinedA := some 5 }
      comparing v = true ∧ v.lk.rejoinedA = some 5 ∧ 5 < v.pound.lastK ∧ v.pound.lastK + 1 ≤ v.time.ft ∧ betweenVerdict v = false) ∧
    (let s : State := { paired 0 with lk.a := { role := .selfTest }, lk.pause := some (0, some 0, none, none) }
     pairRuns s = true ∧ s.lk.pause.isSome = true ∧ s.lk.a.role = .selfTest ∧ s.lk.a.faulty = false) ∧
    (pairRuns (paired 16384) = true ∧ ((paired 16384).lkOf .b).watchdogAt + 16384 ≤ (paired 16384).time.ft ∧
      ((paired 16384).lkOf .b).role ≠ .retired ∧ ready (paired 16384) = true ∧
      let s : State := { paired 16384 with boot.phase := 4 }
      pairRuns s = true ∧ ready s = false ∧ s.boot.fromPs4 = false ∧ s.boot.halted = false) ∧
    (let s : State := { paired 1250000000 with lk.b := { role := .retired, passRun := 15 }, lk.cmpRun := 15 }
     pairRuns s = true ∧ retiredOf s = some .b ∧ s.lk.retiredAt + 1250000000 ≤ s.time.ft ∧ (s.lkOf .b).passRun = 15 ∧
      s.lk.cmpRun = 15) ∧
    ({ lk.strandedDue := true } : State).lk.strandedDue = true := by
  refine ⟨by decide, by decide, by decide, by decide, by decide, by decide, by decide, by decide, rfl⟩

/-- Stack 0 with power and clock, its second reach on the clock. -/
def powered : State := { stk.dies := [(0, { powered := true, clocked := true, reaches := [(0, { enable := 8 }), (1, { enable := 8 })] })] }

theorem witness_SparesFencesAndRouters :
    (scratchLive powered 0 = true ∧ 271 < 272 ∧ (2 : Nat) < 3 ∧ (powered.core 0).voted.contains 271 = false ∧
      let s : State := { powered with stk.cores := [(0, { voted := [271] })] }
      scratchLive s 0 = true ∧ (s.core 0).voted.contains 271 = true) ∧
    (let s : State := { stk.dies := [(15, { powered := true, voted := [4] })] }
     (s.stack 15).powered = true ∧ (s.stack 15).voted.contains 4 = true ∧ (s.stack 15).voted.contains 5 = false) ∧
    (let s : State := { powered with stk.cores := [(0, { testWords := [(3, [0])] })] }
     scratchLive s 0 = true ∧ Tab.find? 3 (s.core 0).testWords = some [0] ∧
      (([0] : List Nat).flatMap byteLanes).filter (fun x => ([] : List (Nat × Nat)).contains x) = [] ∧
      (([0] : List Nat).flatMap byteLanes).filter (fun x => (byteLanes 0).contains x) ≠ [] ∧
      Tab.find? 4 (s.core 0).testWords = none) ∧
    (let s : State := { stk.cores := [(0, { toSpare := [(2, 9)] })]
                        base.windows := [{ start := 0, links := [], acts := [.laneSpare 0 2], started := true }] }
     (takeAct (.laneSpare 0 2) s).isSome = true ∧ (s.core 0).toSpare.find? (fun x => x.1 == 2) = some (2, 9)) ∧
    ((powered.stack 0).powered = true ∧ (powered.stack 0).lostPorts.contains (portOfGroup 15) = false ∧
      takeAct (.groupSpare 0 15) powered = none ∧ groupWaits 0 15 powered = false ∧
      let s : State := { powered with base.windows := [{ start := 0, links := [], acts := [.groupSpare 0 15], started := true }] }
      (takeAct (.groupSpare 0 15) s).isSome = true ∧ (s.stack 0).powered = true ∧
        (s.stack 0).lostPorts.contains (portOfGroup 15) = false) ∧
    (routerLive powered 5 = true ∧ (powered.core 5).routerBad = false ∧
      (powered.router 5).parityAt ≠ some (powered.ft / 131072) ∧
      (({ powered with stk.routers := [(5, { parityAt := some 0 })] } : State).router 5).parityAt = some (powered.ft / 131072)) ∧
    (scratchLive powered 5 = true ∧ (powered.core 5).logicAt = none ∧
      let s := fun t : Nat => ({ powered with stk.cores := [(5, { logicAt := some 0 })], time.ft := t } : State)
      scratchLive (s 0) 5 = true ∧ ((s 0).core 5).logicAt = some 0 ∧ (s 16777216).ft ≤ 0 + 16777216 ∧ 0 + 16777216 < (s 16777217).ft) ∧
    (let s : State := { powered with pound.recovery := some { serial := 1, faults := [], stopped := true } }
     stoppedForReplay s = true ∧ meshDrained s 0 = true ∧ (s.stack 0).powered = true) := by
  refine ⟨by decide, by decide, by decide, by decide, by decide, by decide, by decide, by decide⟩

/-! ### Security, reset and boot -/

theorem witness_TamperZeroesTheVault :
    (1 : Nat) < 2 ∧ lifeCycle State.reset ≠ 4 ∧ State.reset.sec.counted = false ∧ ({ sec.counted := true } : State).sec.counted = true ∧
      lifeCycle { sec.counted := true } ≠ 4 ∧ lifeCycle { sec.fuses := { lc := 8 } } = 4 ∧
      134217728 ≤ ({ sec.counted := true, sec.clearFor := 134217728 } : State).sec.clearFor := by
  decide

/-- A module with RESET_N high whose key slot 1 holds a key. -/
def keyed : State := { pins.resetN := true, boot.phase := 8, sec.vault := [(1, [5#8])] }

theorem witness_JtagPort :
    (keyed.pins.resetN = true ∧ State.reset.pins.resetN = false ∧ lifeCycle { sec.fuses := { lc := 8 } } = 4 ∧
      lifeCycle State.reset ≠ 4 ∧ lifeCycle keyed ≠ 4 ∧ keyed.boot.phase ≠ 0) ∧
    (let n := Config.free keyed.freeCtr % 2 ^ 256
     let u : State := { selectIr 0x10 n { keyed with freeCtr := keyed.freeCtr + 1 } with sec.jtag.nonce := n }
     dbgMatch u (1 % 256) (3 % 256) (0 % 65536) (dbgTag [5#8] n 0 3) n = true ∧
      dbgMatch u (2 % 256) (3 % 256) (0 % 65536) 0 n = false) ∧
    (([] : Bytes).length ≤ 1024 ∧ (List.replicate 1024 1#8).length ≤ 1024 ∧ 1024 < (List.replicate 1025 1#8).length ∧
      keyed.sec.jtag.mail = none) := by
  refine ⟨by decide, ?_, by decide +kernel⟩
  constructor
  · simp [dbgMatch, slotKey, lifeCycle, keyed, selectIr, releaseCells]
    exact beq_self_eq_true (dbgTag [5#8] _ 0 3)
  · simp [dbgMatch, slotKey, lifeCycle, keyed, selectIr, releaseCells]
    decide

theorem witness_ResetsAndPowerLoss :
    keyed.pins.resetN = true ∧
    (let s : State := { boot.trialAt := some 75000000000, boot.bootRec := { slotA := .trial } }
     (∃ n, s.boot.trialAt = some n ∧ 75000000000 ≤ n) ∧ slotState s.boot.bootRec s.boot.bootRec.running = .trial) ∧
    (State.reset.boot.phase = 0 ∧ State.reset.sec.owed = none ∧ hotAtBoot { power.samples := [(0, 2000)] } = true ∧
      hotAtBoot { power.samples := [] } = false) :=
  ⟨by decide, ⟨⟨_, rfl, by decide⟩, by decide⟩, by decide⟩

def booting (phase : Nat) (five six : Bool) : State :=
  { pins.resetN := true, boot.phase := phase, boot.phase5 := five, boot.phase6 := six }

/-- The boot state after a phase's work, in no time. -/
def afterPhase (phase : Nat) (s : State) : BootState := (slowReport phase 0 (phaseTime phase 0 (phaseWork phase .done s))).boot

theorem witness_BootPhasesAndRecords :
    ((∀ p ∈ [1, 2, 3, 4, 5, 7], phaseRuns { pins.resetN := true, boot.phase := p } p = true) ∧
      phaseRuns { pins.resetN := true, boot.phase := 5 } 6 = true) ∧
    ((afterPhase 2 (booting 2 false false)).romHalt = true ∧
      (afterPhase 1 (booting 1 false false)).romHalt = false ∧ (afterPhase 1 (booting 1 false false)).halted = false ∧
      (afterPhase 7 (booting 7 false false)).romHalt = false ∧ (afterPhase 7 (booting 7 false false)).halted = false ∧
      (afterPhase 6 (booting 5 true false)).phase5 = true ∧ (afterPhase 6 (booting 5 false false)).phase5 = false ∧
      (afterPhase 6 (booting 5 true false)).romHalt = false ∧ (afterPhase 6 (booting 5 true false)).halted = false) ∧
    (imageCheck State.reset (slotImage State.reset State.reset.boot.bootRec.running) ≠ 0 ∧
      slotState State.reset.boot.bootRec (!State.reset.boot.bootRec.running) ≠ .confirmed) ∧
    (({ flash.queue := [.write 1 (.boot {}) .nothing] } : State).flash.queue = .write 1 (.boot {}) .nothing :: [] ∧
      (1 : Nat) ≠ 5 ∧ (1 : Nat) ≠ 7) ∧
    ({ flash.queue := [.erase 1 0] } : State).flash.queue = .erase 1 0 :: [] := by
  refine ⟨by decide, ⟨by decide +kernel, by decide +kernel, by decide +kernel, by decide +kernel, by decide +kernel, by decide +kernel,
    by decide +kernel, by decide +kernel, by decide +kernel⟩, by decide, by decide, by decide⟩

/-! ### Ethernet and Ecden -/

/-- A module whose port A serves and is up, with the configuration items given. -/
def ported (items : Tab Bytes) : State :=
  { boot.phase := 8, boot.force := { items := items }, boot.config := { items := items }, net.ports := [(0, { up := true })] }

theorem witness_EthernetPorts :
    (portServes (ported []) .a = true ∧ portServes State.reset .a = false ∧ bufferFull (ported []) .a (2 ^ 24 + 1) = true ∧
      bufferFull (ported []) .a 64 = false ∧ pfcOn (ported []) .a = false ∧ (ptpItem (ported [])).testBit 0 = false ∧
      pfcOn (ported [(0x0103, [0x83#8])]) .a = true ∧
      ((1 : Nat) ≠ 0 ∧ (1 : Nat) = leNat (portItem (ported [(0x0104, leBytes 4 1)]) .a 4)) ∧
      (1 : Nat) = leNat (portItem (ported [(0x0105, leBytes 16 1)]) .a 5)) ∧
    (let s := ported [(0x0004, leBytes 4 1)]
     (ptpItem s).testBit 0 = true ∧ ptpPort s = portNum .a ∧ bitsOf (ptpItem s) 15 8 = 0 ∧ (s.ethPort (portNum .a)).up = true ∧
      let u : State := { s with time.ptp := { syncAt := some 1, master := some 2, reqAt := some 3 } }
      u.time.ptp.syncAt = some 1 ∧ u.time.ptp.master = some 2 ∧ u.time.ptp.reqAt = some 3) := by
  decide

/-- A frame from address 9 of a type, for a session handle. -/
def rx (type handle seq : Nat) (body : Bytes) : RxFrame :=
  { port := .a, mac := 1, vlan := 0, pcp := 0, ip := 9, udp := 4791
    payload := ecdenHeader type 0 handle body.length seq 0 0 1 ++ body }

/-- `served` with session 0 bound to the address of `rx`. -/
def bound (key : Option Nat) : State :=
  { boot.phase := 8, net.sessions := [(0, { st := .opened, ip := 9, udp := 4791, key := key, credit := 1 })] }

theorem witness_EcdenFrames :
    (portServes (bound none) .a = true ∧ bufferFull (bound none) .a (rx 2 0 1 []).payload.length = false ∧
      stranded (bound none) = false ∧ portServes State.reset .a = false ∧
      let s : State := { bound none with lk.stranded := some 2, time.ft := 2 ^ 17 }
      portServes s .a = true ∧ stranded s = true ∧ openNamed s (fHandle (rx 2 0 1 [])) = some 0 ∧ (s.session 0).noticeAt = none ∧
      openNamed s (fHandle (rx 2 7 1 [])) = none ∧ engineRuns s = false) ∧
    (frameMalformed (bound none) (rx 4 0 1 []) = true ∧ 8 ≤ (rx 4 0 1 []).payload.length ∧
      openNamed (bound none) (fHandle (rx 4 0 1 [])) = some 0) ∧
    (frameMalformed (bound (some 5)) (rx 2 0 1 []) = false ∧ fType (rx 2 0 1 []) ≠ 0 ∧
      openNamed (bound (some 5)) (fHandle (rx 2 0 1 [])) = some 0 ∧
      authGood ((bound (some 5)).session 0) (rx 2 0 1 []) = false ∧ ((bound (some 5)).session 0).authLogged ≠ some 0 ∧
      frameMalformed (bound none) (rx 2 0 1 []) = false ∧ authGood ((bound none).session 0) (rx 2 0 1 []) = true) ∧
    (let f := rx 0 0xFFFF 0 (leBytes 8 3 ++ leBytes 2 0xFFFF ++ leBytes 2 8192 ++ leBytes 4 64)
     let bad := rx 0 0xFFFF 0 (leBytes 8 3 ++ leBytes 2 0xFFFF ++ leBytes 2 8193 ++ leBytes 4 64)
     let keyed := rx 0 0xFFFF 0 (leBytes 8 3 ++ leBytes 2 1 ++ leBytes 2 8192 ++ leBytes 4 64)
     frameMalformed State.reset f = false ∧ fType f = 0 ∧ openRepeat State.reset f = none ∧ openOutcome State.reset f = some St.ok ∧
      ((List.range 4096).find? fun i => (State.reset.session i).st == .free) = some 0 ∧
      frameMalformed State.reset bad = false ∧ openOutcome State.reset bad = some St.openForm ∧
      frameMalformed State.reset keyed = false ∧ openOutcome { sec.vault := [(1, [])] } keyed = none ∧
      openRepeat { net.openSeen := [(9, 4791, 3, 0, [])] } f = some []) ∧
    (acceptedFor 2 (rx 2 0 1 []) (bound none) = some 0 ∧ acceptedFor 3 (rx 3 0 1 (leBytes 16 0)) (bound none) = some 0 ∧
      acceptedFor 5 (rx 5 0 1 (leBytes 4 0)) (bound none) = some 0 ∧ acceptedFor 4 (rx 4 0 0 []) (bound none) = some 0 ∧
      acceptedFor 2 (rx 3 0 1 []) (bound none) = none) ∧
    (frameMalformed State.reset (rx 2 7 1 []) = false ∧ openNamed State.reset (fHandle (rx 2 7 1 [])) = none ∧
      State.reset.net.closeSent = [] ∧ (5 : Nat) < 4 + 2 ^ 12 ∧
      Tab.find? 9 ({ net.closeSent := [(9, 4)], time.ft := 5 } : State).net.closeSent = some 4) ∧
    (seqAtOrAfter (fSeq (rx 2 0 0 [])) ((bound none).session 0).rxNext = false ∧
      seqAtOrAfter (fSeq (rx 2 0 2 [])) ((bound none).session 0).rxNext = true ∧
      ((bound none).session 0).credit ≤ (fSeq (rx 2 0 2 []) + 2 ^ 32 - ((bound none).session 0).advAck) % 2 ^ 32) := by
  refine ⟨by decide, by decide, by decide, by decide +kernel, by decide, by decide, by decide⟩

theorem witness_EcdenTimers :
    (engineRuns (bound none) = true) ∧
    (let s : State := { net.sessions := [(0, { ackDue := some 0, blocked := true })], boot.phase := 8 }
     engineRuns s = true ∧ (s.session 0).ackDue.isSome = true ∧ (s.session 0).blocked = true ∧ waitCleared s 0 = true) ∧
    (let t : TxFrame := { seq := 1, type := 2, final := false, body := [], tries := 7, sentAt := 0, sacked := false,
                          slot := none, barge := none }
     let s : State := { boot.phase := 8, time.ft := 2 ^ 30, net.sessions := [(0, { st := .opened, unacked := [t] })] }
     visitTurn s = some 0 ∧
      ((s.session 0).unacked.find? fun t => t.seq == 1 && resendDue s t && decide (t.tries < 8)) = some t ∧
      let u : State := { s with net.sessions := [(0, { st := .opened, unacked := [{ t with tries := 8 }] })] }
      giveUp u 0 = true) ∧
    (let s : State := { net.sessions := [(0, { st := .stranded })], time.ft := 2 ^ 24 }
     (s.session 0).st = .stranded ∧ (s.session 0).strandedAt + 2 ^ 24 ≤ s.time.ft ∧
      2 ^ 24 - 1 < (s.session 0).strandedAt + 2 ^ 24) := by
  refine ⟨by decide, by decide, by decide, by decide⟩

/-! ### Ill-formed commands, one for each check of WellFormed -/

def rxOf (mac vlan pcp ip udp : Nat) : RxFrame := { port := .a, mac, vlan, pcp, ip, udp, payload := [] }

theorem smoke_session_out_of_range : (Instr.identify (.session 4096)).wf = false := by decide
theorem smoke_session_in_range : (Instr.identify (.session 4095)).wf = true := by decide
theorem smoke_member_slot : (Instr.kEnd { slot := 64, task := 0, rank := 0 }).wf = false := by decide
theorem smoke_member_rank : (Instr.kEnd { slot := 0, task := 0, rank := 128 }).wf = false := by decide
theorem smoke_frame_widths :
    (Instr.ecdenOpen (rxOf (2 ^ 48) 0 0 0 0)).wf = false ∧ (Instr.ecdenOpen (rxOf 0 4096 0 0 0)).wf = false ∧
    (Instr.ecdenOpen (rxOf 0 0 8 0 0)).wf = false ∧ (Instr.ecdenOpen (rxOf 0 0 0 (2 ^ 128) 0)).wf = false ∧
    (Instr.ecdenOpen (rxOf 0 0 0 0 65536)).wf = false ∧ (Instr.ecdenOpen (rxOf 0 0 0 0 65535)).wf = true := by decide
theorem smoke_lasers :
    (Instr.failComparatorTrip (.bank 4 0)).wf = false ∧ (Instr.failComparatorTrip (.bank 0 21)).wf = false ∧
    (Instr.failComparatorTrip (.fibre 23 0 0)).wf = false ∧ (Instr.failComparatorTrip (.fibre 30 0 0)).wf = false ∧
    (Instr.failComparatorTrip (.fibre 24 2 0)).wf = false ∧ (Instr.failComparatorTrip (.fibre 24 0 17)).wf = false := by decide
theorem smoke_light_units :
    (Instr.handoverStart (.bank 4)).wf = false ∧ (Instr.handoverStart (.fibre 23)).wf = false ∧
    (Instr.handoverStart (.fibre 30)).wf = false := by decide
theorem smoke_collectives :
    (Instr.collDone (.gang 64 0 0)).wf = false ∧ (Instr.collDone (.table 2048 0)).wf = false ∧
    (Instr.collDone (.table 0 64)).wf = false ∧ (Instr.collDone (.basin 32 0 0)).wf = false ∧
    (Instr.collDone (.basin 0 256 0)).wf = false := by decide
theorem smoke_rings :
    (Instr.ringRelock { berth := 32, receive := false, link := 0, role := 0, lane := 0 } true).wf = false ∧
    (Instr.ringRelock { berth := 0, receive := false, link := 8, role := 0, lane := 0 } true).wf = false ∧
    (Instr.ringRelock { berth := 0, receive := false, link := 0, role := 3, lane := 0 } true).wf = false ∧
    (Instr.ringRelock { berth := 0, receive := false, link := 0, role := 0, lane := 17 } true).wf = false := by decide
theorem smoke_retuned_rings :
    (Instr.retunedRingsLocked (608, [])).wf = false ∧ (Instr.retunedRingsLocked (0, [3, 4])).wf = false ∧
    (Instr.retunedRingsLocked (607, [0, 3])).wf = true := by decide
theorem smoke_token : (Instr.xferDone rank0 16).wf = false := by decide
theorem smoke_priority : (Instr.pfcPauseReceived .a 8 0).wf = false := by decide
theorem smoke_domain : (Instr.ptpMessage .a 128 .silent).wf = false := by decide
theorem smoke_stack : (Instr.glideEnd 16).wf = false := by decide
theorem smoke_graph_slot : (Instr.admission 64).wf = false := by decide
theorem smoke_core_and_router :
    (Instr.scratchCycle 2048 .idle .idle []).wf = false ∧ (Instr.reductionTableAdd 2048).wf = false := by decide
theorem smoke_chamber : (Instr.lockChamberRead 8192 0 0).wf = false := by decide
theorem smoke_berths : (Instr.baseLogicReset 32).wf = false ∧ (Instr.versionFold 8).wf = false := by decide
theorem smoke_ports_and_links :
    (Instr.timingFrameSend 6 0).wf = false ∧ (Instr.timingFrameSend 0 8).wf = false ∧ (Instr.nakResend 608).wf = false ∧
    (Instr.fastPortRetarget 0 4).wf = false ∧ (Instr.creditReturn 0 4 0).wf = false := by decide
theorem smoke_reach : (Instr.marginMonitor 0 8 []).wf = false := by decide
theorem smoke_subchannel : (Instr.dramRefresh 0 48 0).wf = false := by decide
theorem smoke_calibration_class : (Instr.calibrationStep 6 0 0 0).wf = false := by decide
theorem smoke_scratch_word_and_groups :
    (Instr.laneTestDone 0 6144 []).wf = false ∧ (Instr.laneSpareWindow 0 36 none).wf = false ∧
    (Instr.baseGroupSpare 0 16 true).wf = false := by decide
theorem smoke_joint :
    (Instr.controlVoteFail (.core 2048) 0 0).wf = false ∧ (Instr.controlVoteFail (.base 16) 0 0).wf = false := by decide
theorem smoke_tamper_source : (Instr.tamperDetect 2).wf = false := by decide
theorem smoke_cells : (Instr.jtagExtest (2 ^ 25)).wf = false := by decide
theorem smoke_auth :
    (Instr.dbgAuth 256 0 0 0).wf = false ∧ (Instr.dbgAuth 0 256 0 0).wf = false ∧ (Instr.dbgAuth 0 0 65536 0).wf = false ∧
    (Instr.dbgAuth 0 0 0 (2 ^ 256)).wf = false := by decide
theorem smoke_boot_phase : (Instr.bootPhaseEnd 0 0 .done).wf = false ∧ (Instr.bootPhaseEnd 8 0 .done).wf = false := by decide

/-! ### Functions against the manual's examples and published check values -/

/-- FIPS 202: SHAKE256 of no bytes begins 46 B9 DD 2B (R219 names the function). -/
theorem test_shake256_empty :
    leNat (shake256 []) = 21468664885170662639985957090336418708702569955620632736621138429888230701382 := by
  decide +kernel

/-- IEEE 802.3: the CRC-32 of the nine digits. -/
theorem test_crc32_digits :
    crc32 [0x31#8, 0x32#8, 0x33#8, 0x34#8, 0x35#8, 0x36#8, 0x37#8, 0x38#8, 0x39#8] = 0xCBF43926 := by decide +kernel

/-- The stamp of chapter 06: 0x0000_0012_3456_7385 has TIME 0x0123_4567, BERTH 7 and SEQ 5. -/
theorem test_stamp_fields : mkStamp 0x1234567 7 5 = 0x1234567385 ∧ stampTime 0x1234567385 = 0x1234567 := by decide

/-- Chapter 07: B's stamp, of tick 5,001 and berth 9. -/
theorem test_stamp_of_B : mkStamp 5001 9 0 = 0x01389480 := by decide

/-- Chapter 10: the byte at 0x0012_3456_7890 belongs to M7; its two frames stand where the table says. -/
theorem test_locate :
    memBerthOf 0x1234567890 = 7 ∧ locate 0x76547890 = (47, 0, 20194, 0x90) ∧ locate 0x3E217890 = (45, 0, 10603, 0x90) := by decide

/-- Chapter 02: one T2 block under the MAX rule. -/
theorem test_t2_block :
    (quantBlock 10 false
      [.num false 3 (-2), .num false 0x999999 (-25), .num true 1 (-2), .num true 0x999999 (-24), .num false 0xCCCCCD (-27)]) =
      (0x7E, [1, 1, 0, 3, 0], 0) := by decide +kernel

/-- Chapter 04: a TILEFOR over 70 rows and 40 columns has six tiles; the last starts at row 64, column 32. -/
theorem test_tilefor_origins :
    (List.range 6).map (tileOrigin 70 40 false) = [(0, 0), (0, 32), (32, 0), (32, 32), (64, 0), (64, 32)] ∧
    (List.range 6).map (tileOrigin 70 40 true) = [(0, 0), (32, 0), (64, 0), (0, 32), (32, 32), (64, 32)] := by decide

/-- Chapter 03: core 1,000 is S7 with local number 104, row 6, column 8, in reach 6. -/
theorem test_core_1000 : 1000 / 128 = 7 ∧ reachOf (1000 % 128) = 6 := by decide

/-! ### Single steps -/

/-- The next state of a command, State.reset where it does not answer one. -/
def after (i : Instr) (s : State) : State :=
  match exec i s with
  | .next t => t
  | _ => State.reset

/-- A powered stack S0 whose core 0 has byte 0x11 in the word's first and last position of the example's two halves. -/
def oneWord : State :=
  { stk.dies := [(0, { powered := true, clocked := true })], stk.scratch := [(0x4_1200, 0x11#8), (0x4_1240, 0x11#8)] }

/-- Chapter 03, cycle c0: the core's write lands and the lighter's is deferred; c1: the read merges it; c3: it lands. -/
theorem test_scratch_defers :
    let s := after (.scratchCycle 0 (.write 0x412 [(0, 0x22#8)]) (.write 0x412 [(0, 0x33#8), (64, 0x33#8)]) []) oneWord
    let t := after (.scratchCycle 0 (.read 0x412 [0]) .idle []) s
    let u := after (.scratchCycle 0 .idle .idle []) t
    scratchByte s 0 0x4_1200 = 0x22#8 ∧ scratchByte s 0 0x4_1240 = 0x11#8 ∧ (t.core 0).run = 1 ∧
      Tab.getD 0 0 (t.core 0).lastRead = 0x33#8 ∧ scratchByte u 0 0x4_1200 = 0x33#8 ∧ scratchByte u 0 0x4_1240 = 0x33#8 := by
  decide +kernel

/-- R157: IALU adds modulo 2^64. -/
theorem test_ialu_wraps : ialu 0 (BitVec.ofInt 64 (2 ^ 63 - 1)) 1 = BitVec.ofInt 64 (-(2 ^ 63)) ∧ ialu 4 (-7) 2 = -1 := by decide

/-- R157 through a command: index 1 becomes the sum of two immediates, and the op pointer moves past both words. -/
theorem test_ialu_step :
    let t := after (.kIalu rank0) (atOp [opw 0x11 1 0 1 0xC5, 0xC7] 0 [one])
    (t.member? rank0).map (fun x => (Tab.getD 0 1 x.ix, x.pc)) = some (12, 2) := by decide +kernel

/-- R302: a tick raises fabric time by one, and none passes while RESET_N holds the module. -/
theorem test_tick : (after .fabricTick { pins.resetN := true, time.ft := 41 }).time.ft = 42 ∧ (after .fabricTick State.reset).time.ft = 0 := by decide +kernel

/-- Chapter 13: the first eight bytes of the reply to a MEM_READ. -/
theorem test_mem_read_reply :
    let m := leBytes 2 0x13 ++ leBytes 2 0x11 ++ leBytes 4 0 ++ leBytes 4 1 ++ leBytes 4 0 ++ leBytes 8 0x800 ++ leBytes 4 64 ++ leBytes 4 0
    let t := after (.memRead (.session 0)) (reached m)
    ((t.session 0).outbox.map fun r => (leNat (r.body.take 8), r.body.length)) = [(0x118013, 88)] := by decide +kernel

/-- R629: a code that no table names is answered with ST_COMMAND. -/
theorem test_unknown_code :
    ((after (.mailRefusedUnparsed (.session 0)) (served (mail 0x99 []))).session 0).outbox.map (fun r => leNat r.body) = [0x300078099] := by
  decide +kernel


end Sys2Proof.Tests
end

section
/-!
SUPPORT. Statements of chapter 3 on a core's asynchronous ops: transfers, messages between members, and what of each stands in the
state once it has been issued, has landed, or has come back (R91 to R93, R169 to R174, R200 to R206, R285 to R288).
-/

namespace Sys2Proof.Machine
open Sys2Proof.Safety

/-! ### Parity checks leave kernels, graphs and messages alone -/

theorem foldl_work {α : Type} {f : State → α → State} (h : ∀ s x, (f s x).work = s.work) (l : List α) (s : State) :
    (l.foldl f s).work = s.work := by
  induction l generalizing s with
  | nil => rfl
  | cons x l ih => rw [List.foldl_cons, ih, h]

@[simp] theorem issueStamp_work (b : Nat) (h : HeldStamp) (s : State) : (issueStamp b h s).2.work = s.work := by
  obtain ⟨t, ht, -⟩ := issueStamp_time b h s
  rw [ht]

@[simp] theorem appendEntry_work (e : LogEntry) (s : State) : (appendEntry e s).work = s.work := by
  unfold appendEntry
  repeat' split
  all_goals rfl

@[simp] theorem putWire_work (fr : OutFrame) (s : State) : (putWire fr s).work = s.work := by
  unfold putWire
  split <;> simp

@[simp] theorem noticeToAddress_work (body : Bytes) (s : State) : (noticeToAddress body s).work = s.work := by
  simp only [noticeToAddress, draw]
  split
  · rfl
  · simp

@[simp] theorem logEventR_work (r : Bool) (code : Nat) (args : Bytes) (s : State) :
    (logEventR r code args s).work = s.work := by
  unfold logEventR
  split
  · dsimp only
    split <;> simp
  · simp

@[simp] theorem logEvent_work (code : Nat) (args : Bytes) (s : State) : (logEvent code args s).work = s.work :=
  logEventR_work ..

@[simp] theorem raiseFault_work (code : Nat) (args : Bytes) (s : State) : (raiseFault code args s).work = s.work := by
  unfold raiseFault
  dsimp only
  repeat' split
  all_goals simp

@[simp] theorem parityReport_work (st code : Nat) (quiet : Bool) (s : State) : (parityReport st code quiet s).work = s.work := by
  unfold parityReport
  dsimp only
  split <;> simp

@[simp] theorem retireFrame_work (k f : Nat) (s : State) : (retireFrame k f s).work = s.work := by
  unfold retireFrame
  split <;> simp

@[simp] theorem tookLine_work (k : Nat) (s : State) : (tookLine k s).work = s.work := by
  unfold tookLine wornCheck
  split <;> simp

@[simp] theorem poisonLine_work (k line : Nat) (s : State) : (poisonLine k line s).work = s.work := by
  unfold poisonLine
  repeat' split
  all_goals simp

@[simp] theorem retireLater_work (k f : Nat) (s : State) : (retireLater k f s).work = s.work := rfl

@[simp] theorem heldOutcome_work (st : Nat) (v : Held) (s : State) : (heldOutcome st v s).work = s.work := by
  cases v with
  | shadow p tag => simp only [heldOutcome]; split <;> simp
  | slot p tag => simp only [heldOutcome]; split <;> simp
  | committed p => simp [heldOutcome]
  | pinned p sr => simp only [heldOutcome]; split <;> simp
  | preImage g n p => simp only [heldOutcome]; split <;> simp

@[simp] theorem byteError_work (st : Nat) (s : State) : (byteError st s).work = s.work := by
  unfold byteError
  repeat' split
  all_goals simp

@[simp] theorem readErrors_work (sees : Held → Option Nat) (a n : Nat) (s : State) : (readErrors sees a n s).work = s.work :=
  foldl_work (fun s st => byteError_work st s) _ _

@[simp] theorem deviceErrors_work (k : KOp) (l : List Touch) (s : State) : (deviceErrors k l s).work = s.work := by
  refine foldl_work (fun s a => ?_) _ _
  split
  · exact foldl_work (fun s r => readErrors_work _ _ _ s) _ _
  · rfl


/-! ### Issuing an asynchronous op (R172, R173) -/

/-- An op whose accesses are allowed works on the state whose device memory has been checked. -/
theorem issueAccess_allowed {s : State} {k : KOp} {l : List Touch} (h : Allowed s k l) (work : State → KRes) :
    issueAccess k l work s = work (deviceErrors k l s) := by
  obtain ⟨hstop, hfree⟩ := h
  simp [issueAccess, hstop, hfree]

theorem onToken_idle {k : KOp} {token : Nat} (h : withToken token k.mem = false) (work : State → KRes) (s : State) :
    onToken k token work s = work s := by
  simp [onToken, h]

/-- An op whose remote blocks are at hand does not wait for them. -/
theorem withRemote_fetched {s : State} {k : KOp} {n : Nat} {l : List Touch} (h : Fetched s k n l) (work : State → KRes) :
    withRemote k n l work (deviceErrors k l s) = work (deviceErrors k l s) := by
  unfold withRemote
  rcases h with hnone | ⟨hasked, hback⟩
  · rw [if_pos hnone]
  · have hpoison : (opReads (deviceErrors k l s) k.ref n).any ReadReq.poisoned = false :=
      List.any_eq_false.2 fun r hr => by simp [(hback r hr).1]
    have hlanded : (opReads (deviceErrors k l s) k.ref n).all ReadReq.landed = true :=
      List.all_eq_true.2 fun r hr => (hback r hr).2
    simp [hasked, hpoison, hlanded]

/-- Neither the engines nor the scratch are counted for an op that only issues or waits (R479). -/
theorem noteIssue_issueOnly {s : State} {m : MRef} {k : KOp} {opc : Nat} (h : StandsAt s m opc k)
    (ho : opc = 0x24 ∨ opc = 0x70 ∨ opc = 0x71) (t : State) : noteIssue k t = t := by
  obtain ⟨-, hop, -⟩ := h
  refine noteIssue_none ?_ t
  rcases ho with rfl | rfl | rfl <;> simp [opActs, engineOp, hop]

/-! ### XFER (R91, R92, R169) -/

/-- What an XFER from `src` to `dst` does as it issues: out of device memory it asks for its blocks, into it it sends its writes. -/
def xferIssue (k : KOp) (dst src : View) (w : State) : State :=
  if 2 ≤ src.space then coreReads k.mem.core (.xfer k.ref (k.e1 % 16)) (blocksOf src.runs) w
  else if 2 ≤ dst.space then
    let rd := viewReader k dst w
    let r := lighterFetch k.mem.core src.runs rd.2
    writeSpace k.access 2 (.xfer k.ref (k.e1 % 16)) (copyCells (fetched r.1) rd.1 src dst) r.2
  else w

theorem opXfer_issued {s : State} {k : KOp} {dst src : View}
    (hdst : dst = alignEmpty (k.declared k.opa) (k.view k.opa) (k.view k.opb))
    (hsrc : src = alignEmpty (k.declared k.opb) (k.view k.opb) (k.view k.opa))
    (hstop : xferStop k dst src = none) (htok : withToken (k.e1 % 16) k.mem = false) {l : List Touch}
    (hl : l = [{ view := src, runs := src.runs, write := false }, { view := dst, runs := dst.runs, write := true }])
    (ha : Allowed s k l) :
    opXfer k s = .next (outAdd (k.e1 % 16) (.xfer dst src)) (xferIssue k dst src (deviceErrors k l s)) := by
  subst hl
  simp only [opXfer, ← hdst, ← hsrc, hstop, onToken_idle htok, issueAccess_allowed ha]
  rfl

theorem execKXfer_issued {s : State} {m : MRef} {k : KOp} {dst src : View} (h : StandsAt s m 0x23 k)
    (hdst : dst = alignEmpty (k.declared k.opa) (k.view k.opa) (k.view k.opb))
    (hsrc : src = alignEmpty (k.declared k.opb) (k.view k.opb) (k.view k.opa))
    (hstop : xferStop k dst src = none) (htok : withToken (k.e1 % 16) k.mem = false) {l : List Touch}
    (hl : l = [{ view := src, runs := src.runs, write := false }, { view := dst, runs := dst.runs, write := true }])
    (ha : Allowed s k l) :
    exec (.kXfer m) s = .next ((noteIssue k (xferIssue k dst src (deviceErrors k l s))).updMember m
      (advanced k (outAdd (k.e1 % 16) (.xfer dst src)))) :=
  congrArg Host.Outcome.next (kop_next h (opXfer_issued hdst hsrc hstop htok hl ha))

/-- What a landed transfer writes, before its reads are forgotten and its token signals (R92, R523). -/
def xferLand (s : State) (m : MRef) (a : Access) (token : Nat) (dst src : View) : State :=
  let r := if 2 ≤ src.space then ([], s) else lighterFetch a.core src.runs s
  let rs := fun (i : Nat) =>
    if 2 ≤ src.space then
      match preImageOf r.2 a src (pageOf i) with
      | some p => Tab.getD 0 (i % 65536) p.cells
      | none => readByte (xferReads s m token) i
    else fetched r.1 i
  if dst.space < 2 then lighterWrite a.core (copyCells rs (spaceByte r.2 a dst 0) src dst) r.2 else r.2

/-- The end of a transfer: its reads are forgotten and its token signals (R172). -/
def xferEnd (m : MRef) (o : Outstanding) (t : State) : State :=
  { t with mem.reads := t.mem.reads.filter fun r => r.2.dest != ReadFor.xfer m o.token }.updMember m (outDone o.order)

theorem xferDoneStep_landed {s : State} {m : MRef} {x : Member} {a : Access} {o : Outstanding} {dst src : View}
    (hx : s.member? m = some x) (ha : accessOf s m = some a) (hf : firstXfer x = some o) (ho : o.op = .xfer dst src)
    (hl : xferLanded s m o.token = true) (hp : ∀ r ∈ xferReads s m o.token, r.poisoned = false) :
    xferDoneStep m o.token s = xferEnd m o (xferLand s m a o.token dst src) := by
  obtain ⟨token, order, op, landed, begun, piece, left⟩ := o
  subst ho
  have hpoison : (xferReads s m token).any ReadReq.poisoned = false := List.any_eq_false.2 fun r hr => by simp [hp r hr]
  simp only [xferDoneStep, hx, ha, hf, hl, hpoison, if_true, Bool.false_eq_true, if_false]
  rfl

theorem xferLand_scratch {s : State} {m : MRef} {a : Access} {token : Nat} {dst src : View} (hd : dst.space < 2)
    (hs : src.space < 2) :
    let r := lighterFetch a.core src.runs s
    xferLand s m a token dst src = lighterWrite a.core (copyCells (fetched r.1) (spaceByte r.2 a dst 0) src dst) r.2 := by
  simp [xferLand, hd, Nat.not_le.2 hs]

/-- A transfer out of device memory of a task that replays nothing of the view takes the bytes that its reads brought. -/
theorem xferLand_fromMemory {s : State} {m : MRef} {a : Access} {token : Nat} {dst src : View} (hd : dst.space < 2)
    (hs : 2 ≤ src.space) (hpre : ∀ p, preImageOf s a src p = none) :
    xferLand s m a token dst src =
      lighterWrite a.core (copyCells (readByte (xferReads s m token)) (spaceByte s a dst 0) src dst) s := by
  simp [xferLand, hd, hs, hpre]

theorem xferLand_intoMemory {s : State} {m : MRef} {a : Access} {token : Nat} {dst src : View} (hd : 2 ≤ dst.space) :
    xferLand s m a token dst src = if 2 ≤ src.space then s else (lighterFetch a.core src.runs s).2 := by
  simp only [xferLand, if_neg (Nat.not_lt.2 hd)]
  split <;> rfl

/-- The token of an op whose data went to device memory signals once its writes are applied (R172). -/
theorem xferDoneStep_other {s : State} {m : MRef} {x : Member} {a : Access} {o : Outstanding} {token : Nat}
    (hx : s.member? m = some x) (ha : accessOf s m = some a) (hf : firstXfer x = none)
    (ho : (x.out.find? fun o => o.token == token && o.landed) = some o) (hw : writesPending s (.xfer m token) = false) :
    xferDoneStep m token s = s.updMember m (outDone o.order) := by
  simp [xferDoneStep, hx, ha, hf, landedDone, ho, hw]

/-! ### WAIT, SEND and RECV (R174, R200, R202) -/

theorem execKWait_idle {s : State} {m : MRef} {k : KOp} (h : StandsAt s m 0x24 k)
    (ht : withToken (k.opa % 16) k.mem = false) : exec (.kWait m) s = .next (s.updMember m (advanced k id)) := by
  have hop : opWait k s = .next id s := by simp [opWait, ht]
  refine congrArg Host.Outcome.next ((kop_next h hop).trans ?_)
  rw [noteIssue_issueOnly h (by simp)]

theorem execKWait_busy {s : State} {m : MRef} {k : KOp} (h : StandsAt s m 0x24 k)
    (ht : withToken (k.opa % 16) k.mem = true) :
    exec (.kWait m) s = .next (s.updMember m (waits (.token (k.opa % 16)) s.ft)) := by
  have hop : opWait k s = .wait (.token (k.opa % 16)) s := by simp [opWait, ht]
  exact congrArg Host.Outcome.next (kop_wait h hop)

theorem execKSend_issued {s : State} {m : MRef} {k : KOp} {task : Nat} {t : Task} (h : StandsAt s m 0x70 k)
    (hpeer : peerOf s k (k.index k.opb) = .inr (task, t)) (htok : withToken (k.e1 % 16) k.mem = false)
    (hc : Clear s k [{ view := k.view k.opa, runs := (k.view k.opa).runs, write := false }]) :
    let l : List Touch := [{ view := k.view k.opa, runs := (k.view k.opa).runs, write := false }]
    let rd := lighterReader k.access 0 (k.view k.opa) (deviceErrors k l s)
    let u := dropOpReads m 0 rd.2
    let st := issueStamp k.t.stack (.message u.work.msgNo) u
    let dst : MRef := { slot := m.slot, task := task, rank := (k.index k.opb).toNat }
    let g : Msg :=
      { src := m, dst := dst, gen := roleGen u dst, serial := k.t.attempt, fails := k.t.replays, graph := k.g.order
        tag := tagOf k, token := k.e1 % 16, order := k.mem.order, stamp := st.1
        core := ((Tab.find? dst.rank t.members).map Member.core).getD (128 * t.stack)
        body := packCodes (fmtBits (k.view k.opa).fmt) (viewBits rd.1 (k.view k.opa)) }
    exec (.kSend m) s = .next ((launchMsg k.mem.core u.work.msgNo g { st.2 with work.msgNo := u.work.msgNo + 1 }).updMember m
      (advanced k (outAdd (k.e1 % 16) (.send (k.view k.opa) u.work.msgNo)))) := by
  obtain ⟨hallowed, hfetched⟩ := hc
  obtain rfl := currentOp_ref h.1
  intro l rd u st dst g
  have hop : opSend k s = .next (outAdd (k.e1 % 16) (.send (k.view k.opa) u.work.msgNo))
      (launchMsg k.mem.core u.work.msgNo g { st.2 with work.msgNo := u.work.msgNo + 1 }) := by
    simp only [opSend, hpeer, onToken_idle htok, issueAccess_allowed hallowed, withRemote_fetched hfetched]
    rfl
  refine congrArg Host.Outcome.next ((kop_next h hop).trans ?_)
  rw [noteIssue_issueOnly h (by simp)]

theorem opRecv_issued {s : State} {k : KOp} {task : Nat} {t : Task} (hro : k.viewReadOnly k.opa = false)
    (hpeer : peerOf s k (k.index k.opb) = .inr (task, t)) (htok : withToken (k.e1 % 16) k.mem = false)
    (ha : Allowed s k [{ view := k.view k.opa, runs := (k.view k.opa).runs, write := true }]) :
    opRecv k s = .next
      (outAdd (k.e1 % 16) (.recv (k.view k.opa) k.ref.slot task (k.index k.opb).toNat (tagOf k) k.mem.order))
      (deviceErrors k [{ view := k.view k.opa, runs := (k.view k.opa).runs, write := true }] s) := by
  simp only [opRecv, hro, hpeer, onToken_idle htok, issueAccess_allowed ha, Bool.false_eq_true, if_false]

/-- A member of a task that runs did not stop in this core cycle (R220). -/
theorem stoppedOp_running {s : State} {m : MRef} {t : Task} (h : s.task? m.slot m.task = some t) (hr : t.phase = .running) :
    stoppedOp s m = none := by
  have hnone : opAt (fun t x => stopsWith s m t && !x.ended && mayIssue (asBefore x)) s m = none := by
    refine Option.eq_none_iff_forall_ne_some.2 fun k hk => ?_
    obtain ⟨-, htask, -, hmay⟩ := opAt_member hk
    have hk : k.t.phase = .running := by
      rw [h] at htask; cases htask; exact hr
    have : stopsWith s m k.t = false := by
      unfold stopsWith
      split <;> simp [hk]
    simp [this] at hmay
  simp [stoppedOp, hnone]

theorem lateRecv_running {s : State} {m : MRef} {t : Task} (h : s.task? m.slot m.task = some t) (hr : t.phase = .running) :
    lateRecv m s = s := by
  simp [lateRecv, stoppedOp_running h hr]

/-- A member that stands at an op belongs to a task that runs. -/
theorem standsAt_task_running {s : State} {m : MRef} {opc : Nat} {k : KOp} (h : StandsAt s m opc k) :
    s.task? m.slot m.task = some k.t ∧ k.t.phase = .running := by
  obtain ⟨-, htask, -, hmay⟩ := opAt_member h.1
  simp only [runnable, Bool.and_eq_true, beq_iff_eq] at hmay
  obtain ⟨⟨⟨⟨hrun, -⟩, -⟩, -⟩, -⟩ := hmay
  exact ⟨htask, hrun⟩

/-- After a step of a member at an op that leaves tasks alone but for the member itself, its task still runs. -/
theorem updMember_task_running {s u : State} {m : MRef} {opc : Nat} {k : KOp} (h : StandsAt s m opc k)
    (hu : u.work = s.work) (f : Member → Member) :
    ∃ t, (u.updMember m f).task? m.slot m.task = some t ∧ t.phase = .running := by
  obtain ⟨htask, hrun⟩ := standsAt_task_running h
  have hsame : u.task? m.slot m.task = some k.t := by
    rw [← htask]; unfold State.task? State.graph?; rw [hu]
  refine ⟨{ k.t with members := Tab.modify m.rank f k.t.members }, ?_, hrun⟩
  unfold State.updMember
  rw [State.updTask_task?, hsame]
  rfl

theorem execKRecv_issued {s : State} {m : MRef} {k : KOp} {task : Nat} {t : Task} (h : StandsAt s m 0x71 k)
    (hro : k.viewReadOnly k.opa = false) (hpeer : peerOf s k (k.index k.opb) = .inr (task, t))
    (htok : withToken (k.e1 % 16) k.mem = false)
    (ha : Allowed s k [{ view := k.view k.opa, runs := (k.view k.opa).runs, write := true }]) :
    let u := (deviceErrors k [{ view := k.view k.opa, runs := (k.view k.opa).runs, write := true }] s).updMember m
      (advanced k (outAdd (k.e1 % 16) (.recv (k.view k.opa) m.slot task (k.index k.opb).toNat (tagOf k) k.mem.order)))
    exec (.kRecv m) s = .next (matchWaiting m u.work.msgs.length u) := by
  intro u
  obtain rfl := currentOp_ref h.1
  have hop : kop k.ref 0x71 opRecv s = u := by
    rw [kop_next h (opRecv_issued hro hpeer htok ha), noteIssue_issueOnly h (by simp)]
  obtain ⟨t', htask, hrun⟩ := updMember_task_running h (deviceErrors_work k _ s) _
  have hlate : lateRecv k.ref (kop k.ref 0x71 opRecv s) = u := by rw [hop]; exact lateRecv_running htask hrun
  show Host.Outcome.next (matchWaiting k.ref (lateRecv k.ref (kop k.ref 0x71 opRecv s)).work.msgs.length
    (lateRecv k.ref (kop k.ref 0x71 opRecv s))) = _
  rw [hlate]

/-! ### Messages that arrive and messages that come back (R285 to R288) -/

/-- A message that has reached its core later than its stamp is delivered where its role stands, else returned. -/
theorem msgArrivalStep_here {s : State} {n st : Nat} {g : Msg} (hg : Tab.find? n s.work.msgs = some g) (hh : g.stage = .here)
    (hst : g.stamp = some st) (hlate : stampInstant s.ft st < s.ft) :
    msgArrivalStep n s = if roleHeld s g then deliver n g s else returnMsg n g (lateArrival n g s) := by
  simp [msgArrivalStep, hg, hh, hst, Nat.not_le.2 hlate]

/-- A message whose task is gone meets no status of it. -/
theorem lateArrival_gone {s : State} {n : Nat} {g : Msg} (h : s.task? g.dst.slot g.dst.task = none) :
    lateArrival n g s = s := by
  simp [lateArrival, h]

theorem staleMessageStep_abandoned {s : State} {n : Nat} {g : Msg} (hg : Tab.find? n s.work.msgs = some g)
    (hr : g.stage = .returned) (ha : attemptAbandoned s g = true) :
    staleMessageStep n s = afterDrop g (dropMsg n s) := by
  simp [staleMessageStep, hg, hr, ha]

theorem staleMessageStep_ended {s : State} {n : Nat} {g : Msg} {t : Task} (hg : Tab.find? n s.work.msgs = some g)
    (hr : g.stage = .returned) (ha : attemptAbandoned s g = false) (hs : (senderTask s g).isSome = true)
    (ht : s.task? g.dst.slot g.dst.task = some t) (he : t.phase = .ended) :
    staleMessageStep n s =
      afterDrop g (dropMsg n (signalSend { s with work.discarded := satInc s.work.discarded } n g)) := by
  simp [staleMessageStep, hg, hr, ha, hs, ht, he]

theorem staleMessageStep_running {s : State} {n : Nat} {g : Msg} {t : Task} {x y : Member}
    (hg : Tab.find? n s.work.msgs = some g) (hr : g.stage = .returned) (ha : attemptAbandoned s g = false)
    (hs : (senderTask s g).isSome = true) (ht : s.task? g.dst.slot g.dst.task = some t) (hrun : t.phase = .running)
    (hx : s.member? g.dst = some x) (hy : s.member? g.src = some y) :
    staleMessageStep n s = launchMsg y.core n { g with stage := .flight, gen := roleGen s g.dst, core := x.core } s := by
  simp [staleMessageStep, hg, hr, ha, hs, ht, hrun, hx, hy]

/-- Settles O25: each clause is the lemma above of its command, read at the state in which the member stands at the op. -/
theorem kernelAsyncOps : Obligations.KernelAsyncOps := by
  unfold Obligations.KernelAsyncOps
  refine ⟨?xfer, ?landed, ?other, ?wait, ?send, ?recv, ?arrival, ?stale⟩
  case xfer =>
    intro s m k dst src h hdst hsrc hstop htok l ha w issued
    have hissue := execKXfer_issued h hdst hsrc hstop htok rfl ha
    obtain rfl := currentOp_ref h.1
    refine ⟨fun hd hs => ?_, fun hs => ?_, fun hd hs => ?_⟩
    · rw [hissue, xferIssue, if_neg (Nat.not_le.2 hs), if_neg (Nat.not_le.2 hd)]
    · rw [hissue, xferIssue, if_pos hs]
    · rw [hissue, xferIssue, if_neg (Nat.not_le.2 hs), if_pos hd]
  case landed =>
    intro s m x a o dst src hx ha hf ho hl hp done r
    have hstep : exec (.xferDone m o.token) s = .next (xferEnd m o (xferLand s m a o.token dst src)) :=
      congrArg Host.Outcome.next (xferDoneStep_landed hx ha hf ho hl hp)
    refine ⟨fun hd hs => ?_, fun hd hs hpre => ?_, fun hd hs => ?_, fun hd hs => ?_⟩
    · rw [hstep, xferLand_scratch hd hs]; rfl
    · rw [hstep, xferLand_fromMemory hd hs hpre]; rfl
    · rw [hstep, xferLand_intoMemory hd, if_pos hs]; rfl
    · rw [hstep, xferLand_intoMemory hd, if_neg (Nat.not_le.2 hs)]; rfl
  case other =>
    intro s m x a o token hx ha hf ho hw
    exact congrArg Host.Outcome.next (xferDoneStep_other hx ha hf ho hw)
  case wait => exact fun s m k h => ⟨execKWait_idle h, execKWait_busy h⟩
  case send => exact fun s m k task t h hpeer htok hc => execKSend_issued h hpeer htok hc
  case recv => exact fun s m k task t h hro hpeer htok ha => execKRecv_issued h hro hpeer htok ha
  case arrival =>
    intro s n st g hg hh hst hlate
    have hstep : exec (.msgArrival n) s = .next (if roleHeld s g then deliver n g s else returnMsg n g (lateArrival n g s)) :=
      congrArg Host.Outcome.next (msgArrivalStep_here hg hh hst hlate)
    refine ⟨fun hheld => ?_, fun hnot hgone => ?_⟩
    · rw [hstep, if_pos hheld]
    · rw [hstep, hnot, lateArrival_gone hgone]; rfl
  case stale =>
    intro s n g hg hr
    refine ⟨fun ha => congrArg Host.Outcome.next (staleMessageStep_abandoned hg hr ha), fun t ha hs ht => ⟨fun he => ?_, ?_⟩⟩
    · exact congrArg Host.Outcome.next (staleMessageStep_ended hg hr ha hs ht he)
    · exact fun x y hrun hx hy => congrArg Host.Outcome.next (staleMessageStep_running hg hr ha hs ht hrun hx hy)

end Sys2Proof.Machine
end

section
/-!
SUPPORT. Statements of chapter 3 on the scratch port, the on-die routers, the reduction table and the lock chambers: one equation
for each of their steps, and what a step leaves alone (R95 to R125, R341 to R345).
-/

namespace Sys2Proof.Machine
open Sys2Proof.Safety

/-! ### Two updates of one unit -/

/-- A later entry of a key stands in place of an earlier one. -/
theorem tab_put_put {α : Type} (k : Nat) (v w : α) (t : Tab α) : Tab.put k v (Tab.put k w t) = Tab.put k v t := by
  induction t with
  | nil => simp [Tab.put]
  | cons p t ih =>
    obtain ⟨j, x⟩ := p
    by_cases hlt : k < j
    · simp [Tab.put, hlt]
    · by_cases heq : k = j
      · simp [Tab.put, heq]
      · simp [Tab.put, hlt, heq, ih]

theorem updCore_updCore (s : State) (c : Nat) (f g : Core → Core) :
    (s.updCore c f).updCore c g = s.updCore c fun x => g (f x) := by
  have hg : g ((s.updCore c f).core c) = g (f (s.core c)) := by rw [State.updCore_core]
  show { s with stk.cores := Tab.put c (g ((s.updCore c f).core c)) (Tab.put c (f (s.core c)) s.stk.cores) } = _
  rw [hg, tab_put_put]
  rfl

theorem updCore_congr {s : State} {c : Nat} {f g : Core → Core} (h : f (s.core c) = g (s.core c)) :
    s.updCore c f = s.updCore c g := by
  unfold State.updCore
  rw [h]

theorem updRouter_congr {s : State} {r : Nat} {f g : Router → Router} (h : f (s.router r) = g (s.router r)) :
    s.updRouter r f = s.updRouter r g := by
  unfold State.updRouter
  rw [h]

theorem updCore_router (s : State) (c r : Nat) (f : Core → Core) : (s.updCore c f).router r = s.router r := rfl
theorem updRouter_chamber (s : State) (r c : Nat) (f : Router → Router) : (s.updRouter r f).chamber c = s.chamber c := rfl

/-! ### The scratch port (R96, R99, R103 to R110) -/

theorem foldl_cores {α : Type} {f : State → α → State} (h : ∀ s x, (f s x).stk.cores = s.stk.cores) (l : List α) (s : State) :
    (l.foldl f s).stk.cores = s.stk.cores := by
  induction l generalizing s with
  | nil => rfl
  | cons x l ih => rw [List.foldl_cons, ih, h]

/-- Bytes of the array that go wrong leave the port's registers. -/
@[simp] theorem spoilWord_core (c w : Nat) (l : List Nat) (s : State) (j : Nat) : (spoilWord c w l s).core j = s.core j := by
  have h : (spoilWord c w l s).stk.cores = s.stk.cores :=
    foldl_cores (f := fun s i => spoilByte c (w * 256 + i) s) (fun _ _ => rfl) l s
  unfold State.core
  rw [h]

/-- Bytes written to the array leave the port's registers. -/
@[simp] theorem landBytes_core (c w : Nat) (b : Tab Byte) (s : State) (j : Nat) : (landBytes c w b s).core j = s.core j := by
  have h : (landBytes c w b s).stk.cores = s.stk.cores :=
    foldl_cores (f := fun s (x : Nat × Byte) => putScratch c (w * 256 + x.1, x.2) s) (fun _ _ => rfl) _ s
  unfold State.core
  rw [h]

/-- The bytes, of those the array reads or writes in a cycle, that go wrong in it (R99; notes/assumptions/168.md). -/
def erringOf (er l : List Nat) : List Nat := l.filter fun b => decide (b < 256) && er.contains b

@[simp] theorem portReq_idle : portReq .idle = .idle := rfl
theorem portReq_read {w : Nat} (h : w < 6144) (e : List Nat) : portReq (.read w e) = .read w e := by simp [portReq, h]
theorem portReq_write {w : Nat} (h : w < 6144) (b : Tab Byte) : portReq (.write w b) = .write w b := by simp [portReq, h]

/-- A cycle in which the array reads a word: bytes of it may go wrong, and the read is checked. -/
theorem scratchStep_read {s : State} {c w : Nat} {req lighter : ScratchReq} {e er : List Nat} (hlive : scratchLive s c = true)
    (hread : arrayRead (s.core c).deferred.isSome (portReq req) (portReq lighter) = some (w, e)) :
    scratchStep c req lighter er s =
      let u := spoilWord c w (erringOf er e) s
      if badIn u c w e = [] then anyCycle c (portReq req) (portReq lighter) u
      else scratchError c w (badIn u c w e) (anyCycle c (portReq req) (portReq lighter) u) := by
  simp only [scratchStep, hlive, hread, if_true]
  rfl

/-- A cycle in which the array writes a word and reads none: bytes of it may go wrong. -/
theorem scratchStep_write {s : State} {c w : Nat} {req lighter : ScratchReq} {e er : List Nat} (hlive : scratchLive s c = true)
    (hread : arrayRead (s.core c).deferred.isSome (portReq req) (portReq lighter) = none)
    (hwrite : arrayWrite (s.core c).deferred (portReq req) (portReq lighter) = some (w, e)) :
    scratchStep c req lighter er s = spoilWord c w (erringOf er e) (anyCycle c (portReq req) (portReq lighter) s) := by
  simp only [scratchStep, hlive, hread, hwrite, if_true]
  rfl

theorem anyCycle_none {s : State} {c : Nat} (h : (s.core c).deferred = none) (req lighter : ScratchReq) :
    anyCycle c req lighter s = portCycle c req lighter s := by simp [anyCycle, h]

theorem anyCycle_deferred {s : State} {c dw : Nat} {d : Tab Byte} (h : (s.core c).deferred = some (dw, d))
    (req lighter : ScratchReq) : anyCycle c req lighter s = deferredCycle c dw d req s := by simp [anyCycle, h]

theorem coreRead_none {s : State} {c : Nat} (h : (s.core c).deferred = none) (w : Nat) (e : List Nat) :
    coreRead c w e s = s.updCore c fun x => { x with lastRead := wordBytes s c w e } := by
  simp [coreRead, deferredBytes, h, overBytes]

/-- A read of the word of the deferred write has its bytes merged (R106). -/
theorem coreRead_deferred {s : State} {c dw : Nat} {d : Tab Byte} (h : (s.core c).deferred = some (dw, d)) (e : List Nat) :
    coreRead c dw e s =
      s.updCore c fun x => { x with lastRead := overBytes (d.filter fun b => e.contains b.1) (wordBytes s c dw e) } := by
  simp [coreRead, deferredBytes, h]

/-- A core-side write leaves of the deferred write of its word the bytes that it does not write itself (R107). -/
theorem clearDeferred_left {x : Core} {dw : Nat} {d b : Tab Byte} (h : x.deferred = some (dw, d))
    (hleft : (d.filter fun y => !Tab.has y.1 b) ≠ []) :
    clearDeferred dw b x = { x with deferred := some (dw, d.filter fun y => !Tab.has y.1 b) } := by
  simp only [clearDeferred, h, if_true, if_neg hleft]

@[simp] theorem countRefusal_deferred (x : Core) : (countRefusal x).deferred = x.deferred := by
  unfold countRefusal
  split <;> rfl

/-- The core side is served and the lighter side idle (R104). -/
theorem anyCycle_read {s : State} {c : Nat} (h : (s.core c).deferred = none) (w : Nat) (e : List Nat) :
    anyCycle c (.read w e) .idle s = s.updCore c fun x => { x with lastRead := wordBytes s c w e, run := 0 } := by
  simp only [anyCycle_none h, portCycle, coreRead_none h, updCore_updCore]

/-- A lighter access of another word is refused and counted, and the core's read is served (R104, R109). -/
theorem anyCycle_read_refuse {s : State} {c w v : Nat} (h : (s.core c).deferred = none) (hv : v ≠ w) (e : List Nat)
    {lighter : ScratchReq} (hl : (∃ f, lighter = .read v f) ∨ ∃ d, lighter = .write v d) :
    anyCycle c (.read w e) lighter s = s.updCore c fun x => countRefusal { x with lastRead := wordBytes s c w e } := by
  rcases hl with ⟨f, rfl⟩ | ⟨d, rfl⟩ <;>
    simp only [anyCycle_none h, portCycle, if_neg (Ne.symm hv), coreRead_none h, updCore_updCore]

/-- The same of a core's write. -/
theorem anyCycle_write_refuse {s : State} {c w v : Nat} (h : (s.core c).deferred = none) (hv : v ≠ w) (d : Tab Byte)
    (f : List Nat) : anyCycle c (.write w d) (.read v f) s = (landBytes c w d s).updCore c countRefusal := by
  simp only [anyCycle_none h, portCycle, if_neg (Ne.symm hv)]

/-- Of two writes of one word the lighter's is deferred (R104, R105). -/
theorem anyCycle_write_write {s : State} {c w : Nat} (h : (s.core c).deferred = none) (b d : Tab Byte) :
    anyCycle c (.write w b) (.write w d) s =
      (landBytes c w b s).updCore c fun x => { x with deferred := some (w, d), run := 0 } := by
  simp only [anyCycle_none h, portCycle, if_true]

/-- With a write deferred a core read of its word gets its bytes merged, and the lighter side is refused (R106, R109). -/
theorem anyCycle_read_deferred {s : State} {c dw : Nat} {d : Tab Byte} (h : (s.core c).deferred = some (dw, d)) (e : List Nat)
    (lighter : ScratchReq) :
    anyCycle c (.read dw e) lighter s = s.updCore c fun x => countRefusal
      { x with lastRead := overBytes (d.filter fun b => e.contains b.1) (wordBytes s c dw e) } := by
  simp only [anyCycle_deferred h, deferredCycle, coreRead_deferred h, updCore_updCore]

/-- With a write deferred a core write of its word takes its own bytes from it (R107, R109). -/
theorem anyCycle_write_deferred {s : State} {c dw : Nat} {d b : Tab Byte} (h : (s.core c).deferred = some (dw, d))
    (hleft : (d.filter fun y => !Tab.has y.1 b) ≠ []) (lighter : ScratchReq) :
    anyCycle c (.write dw b) lighter s = (landBytes c dw b s).updCore c fun x =>
      { countRefusal x with deferred := some (dw, d.filter fun y => !Tab.has y.1 b) } := by
  simp only [anyCycle_deferred h, deferredCycle]
  exact updCore_congr (clearDeferred_left (by simpa using h) hleft)

/-- A deferred write lands in a cycle that the core side leaves idle (R105, R108). -/
theorem anyCycle_idle_deferred {s : State} {c dw : Nat} {d : Tab Byte} (h : (s.core c).deferred = some (dw, d))
    (lighter : ScratchReq) :
    anyCycle c .idle lighter s = (landBytes c dw d s).updCore c fun x => { x with deferred := none, run := 0 } := by
  simp only [anyCycle_deferred h, deferredCycle]

/-- While a write is deferred the array reads for the core side alone (R105). -/
theorem arrayRead_deferred (req lighter : ScratchReq) :
    arrayRead true req lighter = match req with
      | .read w e => some (w, e)
      | .idle | .write _ _ => none := by
  cases req <;> cases lighter <;> simp [arrayRead]

section
variable {s : State} {c w : Nat} (hlive : scratchLive s c = true) (hw : w < 6144) (hnone : (s.core c).deferred = none)
include hlive hw hnone

/-- A core read with the lighter side idle. -/
theorem scratchStep_read_idle (e er : List Nat) :
    let u := spoilWord c w (erringOf er e) s
    let got := u.updCore c fun x => { x with lastRead := wordBytes u c w e, run := 0 }
    scratchStep c (.read w e) .idle er s = if badIn u c w e = [] then got else scratchError c w (badIn u c w e) got := by
  intro u got
  have hu : (u.core c).deferred = none := by simpa [u] using hnone
  rw [scratchStep_read (w := w) (e := e) hlive (by simp [portReq_read hw, arrayRead])]
  simp only [portReq_read hw, portReq_idle]
  rw [anyCycle_read hu]

/-- A core read while the lighter side asks for another word. -/
theorem scratchStep_read_refuse {v : Nat} {e er : List Nat} {lighter : ScratchReq} (hv : v < 6144) (hne : v ≠ w)
    (hl : (∃ f, lighter = .read v f) ∨ ∃ d, lighter = .write v d)
    (hgood : badIn (spoilWord c w (erringOf er e) s) c w e = []) :
    scratchStep c (.read w e) lighter er s =
      (spoilWord c w (erringOf er e) s).updCore c fun x =>
        countRefusal { x with lastRead := wordBytes (spoilWord c w (erringOf er e) s) c w e } := by
  have hu : ((spoilWord c w (erringOf er e) s).core c).deferred = none := by simpa using hnone
  have hport : portReq lighter = lighter := by
    rcases hl with ⟨f, rfl⟩ | ⟨d, rfl⟩
    · exact portReq_read hv f
    · exact portReq_write hv d
  have hread : arrayRead (s.core c).deferred.isSome (.read w e) lighter = some (w, e) := by
    rcases hl with ⟨f, rfl⟩ | ⟨d, rfl⟩
    · simp [arrayRead, Ne.symm hne]
    · simp [arrayRead]
  rw [scratchStep_read (w := w) (e := e) hlive (by rw [portReq_read hw, hport, hread])]
  simp only [portReq_read hw, hport]
  rw [if_pos hgood, anyCycle_read_refuse hu hne e hl]

/-- A core write while the lighter side reads another word. -/
theorem scratchStep_write_refuse {v : Nat} (er : List Nat) (hv : v < 6144) (hne : v ≠ w) (d : Tab Byte) (f : List Nat) :
    scratchStep c (.write w d) (.read v f) er s =
      spoilWord c w (erringOf er d.keys) ((landBytes c w d s).updCore c countRefusal) := by
  have hread : arrayRead (s.core c).deferred.isSome (.write w d) (.read v f) = none := by simp [arrayRead, Ne.symm hne]
  rw [scratchStep_write (w := w) (e := d.keys) hlive (by rw [portReq_write hw, portReq_read hv, hread])
    (by rw [portReq_write hw, portReq_read hv]; simp only [arrayWrite, hread])]
  rw [portReq_write hw, portReq_read hv, anyCycle_write_refuse hnone hne]

/-- A core write and a lighter write of one word. -/
theorem scratchStep_write_write (er : List Nat) (b d : Tab Byte) :
    scratchStep c (.write w b) (.write w d) er s = spoilWord c w (erringOf er b.keys)
      ((landBytes c w b s).updCore c fun x => { x with deferred := some (w, d), run := 0 }) := by
  have hread : arrayRead (s.core c).deferred.isSome (.write w b) (.write w d) = none := rfl
  rw [scratchStep_write (w := w) (e := b.keys) hlive (by rw [portReq_write hw, portReq_write hw, hread])
    (by rw [portReq_write hw, portReq_write hw]; simp only [arrayWrite, hread])]
  rw [portReq_write hw, portReq_write hw, anyCycle_write_write hnone]

end

section
variable {s : State} {c dw : Nat} {d : Tab Byte} (hlive : scratchLive s c = true) (hdef : (s.core c).deferred = some (dw, d))
include hlive hdef

/-- A cycle that the core side leaves idle while a write is deferred. -/
theorem scratchStep_idle_deferred (lighter : ScratchReq) (er : List Nat) :
    scratchStep c .idle lighter er s = spoilWord c dw (erringOf er d.keys)
      ((landBytes c dw d s).updCore c fun x => { x with deferred := none, run := 0 }) := by
  have hread : arrayRead true .idle (portReq lighter) = none := arrayRead_deferred ..
  rw [scratchStep_write (req := .idle) (w := dw) (e := d.keys) hlive (by rw [hdef]; exact hread)
    (by simp only [arrayWrite, portReq_idle, hdef, Option.isSome_some, hread]),
    portReq_idle, anyCycle_idle_deferred hdef]

/-- A core read of the word of a deferred write. -/
theorem scratchStep_read_deferred (hw : dw < 6144) (lighter : ScratchReq) {e er : List Nat}
    (hgood : badIn (spoilWord c dw (erringOf er e) s) c dw e = []) :
    scratchStep c (.read dw e) lighter er s =
      (spoilWord c dw (erringOf er e) s).updCore c fun x => countRefusal
        { x with lastRead :=
            overBytes (d.filter fun b => e.contains b.1) (wordBytes (spoilWord c dw (erringOf er e) s) c dw e) } := by
  have hu : ((spoilWord c dw (erringOf er e) s).core c).deferred = some (dw, d) := by simpa using hdef
  have hread : arrayRead (s.core c).deferred.isSome (.read dw e) (portReq lighter) = some (dw, e) := by
    rw [hdef]; exact arrayRead_deferred ..
  rw [scratchStep_read (w := dw) (e := e) hlive (by rw [portReq_read hw, hread])]
  simp only [portReq_read hw]
  rw [if_pos hgood, anyCycle_read_deferred hu]

/-- A core write of the word of a deferred write that keeps bytes of its own. -/
theorem scratchStep_write_deferred (hw : dw < 6144) (lighter : ScratchReq) (er : List Nat) {b : Tab Byte}
    (hleft : (d.filter fun y => !Tab.has y.1 b) ≠ []) :
    scratchStep c (.write dw b) lighter er s = spoilWord c dw (erringOf er b.keys)
      ((landBytes c dw b s).updCore c fun x =>
        { countRefusal x with deferred := some (dw, d.filter fun y => !Tab.has y.1 b) }) := by
  have hread : arrayRead (s.core c).deferred.isSome (.write dw b) (portReq lighter) = none := by
    rw [hdef]; exact arrayRead_deferred ..
  rw [scratchStep_write (w := dw) (e := b.keys) hlive (by rw [portReq_write hw, hread])
    (by rw [portReq_write hw]; simp only [arrayWrite, hread]), portReq_write hw, anyCycle_write_deferred hdef hleft]

end

/-! ### A packet of one flit through an empty router (R113, R114, R117, R118, R341) -/

/-- A router's parts that no flit moves: its reduction table, its faults, and the packets it is in the middle of. -/
def Router.still (q : Router) : Router :=
  { q with queues := [], rr := [], ejected := [], towpathAt := none, cycle := 0, forwarded := [], packets := [], stalls := [],
           highWater := [] }

theorem Router.eq_of_still {a b : Router} (h : a.still = b.still) :
    a = { b with queues := a.queues, rr := a.rr, towpathAt := a.towpathAt, forwarded := a.forwarded, packets := a.packets
                 stalls := a.stalls, highWater := a.highWater, cycle := a.cycle, ejected := a.ejected } :=
  calc a = { a.still with queues := a.queues, rr := a.rr, towpathAt := a.towpathAt, forwarded := a.forwarded
                          packets := a.packets, stalls := a.stalls, highWater := a.highWater, cycle := a.cycle
                          ejected := a.ejected } := rfl
    _ = _ := by rw [h]; rfl

/-- The module without its meshes and cores. -/
def State.offMesh (s : State) : State := { s with stk.routers := [], stk.chambers := [], stk.cores := [] }

theorem State.eq_of_offMesh {s t : State} (h : t.offMesh = s.offMesh) :
    t = { s with stk.routers := t.stk.routers, stk.chambers := t.stk.chambers, stk.cores := t.stk.cores } :=
  calc t = { t.offMesh with stk.routers := t.stk.routers, stk.chambers := t.stk.chambers, stk.cores := t.stk.cores } := rfl
    _ = _ := by rw [h]; rfl

/-- Between `s` and `t` only flits have moved: router `r` keeps what no flit moves and its count of cycles, every core is as it was,
and nothing off the meshes has changed. -/
structure FlitsMoved (r : Nat) (s t : State) : Prop where
  still : (t.router r).still = (s.router r).still
  cycle : (t.router r).cycle = (s.router r).cycle
  cores : ∀ c, t.core c = s.core c
  off   : t.offMesh = s.offMesh

namespace FlitsMoved

variable {r : Nat} {s t u : State}

theorem trans (h : FlitsMoved r s t) (k : FlitsMoved r t u) : FlitsMoved r s u :=
  ⟨k.still.trans h.still, k.cycle.trans h.cycle, fun c => (k.cores c).trans (h.cores c), k.off.trans h.off⟩

theorem updRouter (s : State) (r j : Nat) {f : Router → Router} (hs : (f (s.router j)).still = (s.router j).still)
    (hc : (f (s.router j)).cycle = (s.router j).cycle) : FlitsMoved r s (s.updRouter j f) := by
  by_cases hj : r = j
  · subst hj
    exact ⟨by rw [State.updRouter_router, hs], by rw [State.updRouter_router, hc], fun _ => rfl, rfl⟩
  · have hr : (s.updRouter j f).router r = s.router r := State.updRouter_router_ne _ _ _ _ hj
    exact ⟨by rw [hr], by rw [hr], fun _ => rfl, rfl⟩

theorem updChamber (s : State) (r j : Nat) (f : Chamber → Chamber) : FlitsMoved r s (s.updChamber j f) :=
  ⟨rfl, rfl, fun _ => rfl, rfl⟩

theorem updCore (s : State) (r c : Nat) {f : Core → Core} (h : f (s.core c) = s.core c) : FlitsMoved r s (s.updCore c f) := by
  refine ⟨rfl, rfl, fun j => ?_, rfl⟩
  by_cases hj : j = c
  · rw [hj, State.updCore_core, h]
  · exact State.updCore_core_ne _ _ _ _ hj

end FlitsMoved

/-- Where a flit that no lighter has sent is placed: with the core, in the lock chamber, or in the next router's buffer. -/
theorem placeFlit_own {r out : Nat} {f : Flit} (s : State) (h : f.pkt.load = none) :
    placeFlit r out f s =
      if 4 ≤ out then s.updRouter r fun q => { q with ejected := q.ejected ++ [f] }
      else if crosses r out then
        s.updChamber (chamberOf r out) fun c => { c with entries := c.entries ++ [(c.wseq, f)], wseq := (c.wseq + 1) % 8 }
      else s.updRouter (neighbour r out) fun q =>
        { q with queues := Tab.put (queueKey (inputOf out) f.leg2 f.pkt.vc)
                   (Tab.getD [] (queueKey (inputOf out) f.leg2 f.pkt.vc) q.queues ++ [f]) q.queues } := by
  have hload : (if out = 4 ∧ isReduce f.pkt = true then none else f.pkt.load) = none := by rw [h]; split <;> rfl
  unfold placeFlit
  rw [hload]

theorem placeFlit_flitsMoved {r out : Nat} {f : Flit} (s : State) (h : f.pkt.load = none) :
    FlitsMoved r s (placeFlit r out f s) := by
  rw [placeFlit_own s h]
  split
  · exact FlitsMoved.updRouter _ _ _ rfl rfl
  · split
    · exact FlitsMoved.updChamber _ _ _ _
    · exact FlitsMoved.updRouter _ _ _ rfl rfl

/-- What a router's counters make of a cycle (R841). -/
def countCycle (wait : List Nat) (q : Router) : Router :=
  { q with
    cycle := q.cycle + 1
    stalls := wait.foldl (fun t vc => bumpVc vc t) q.stalls
    highWater := (List.range 4).foldl (fun t vc => Tab.put vc (max (Tab.getD 0 vc t) (depthOf q vc)) t) q.highWater }

/-- The one flit of a packet of one flit. -/
def onlyFlit (p : NetPacket) : Flit := { pkt := p, idx := 0 }

@[simp] theorem onlyFlit_pkt (p : NetPacket) : (onlyFlit p).pkt = p := rfl
@[simp] theorem onlyFlit_idx (p : NetPacket) : (onlyFlit p).idx = 0 := rfl
@[simp] theorem onlyFlit_leg2 (p : NetPacket) : (onlyFlit p).leg2 = false := rfl

theorem flitsOf_one {p : NetPacket} (h : p.flits = 1) : flitsOf p = [onlyFlit p] := by
  simp [flitsOf, h, onlyFlit]

/-- A router that was empty, with the flit of its core's packet in the core's input buffer. -/
def entered (r : Nat) (p : NetPacket) (s : State) : State :=
  (s.updCore r fun x => { x with outbox := [] }).updRouter r fun q => { q with queues := [(queueKey 4 false p.vc, [onlyFlit p])] }

theorem injectOutbox_empty {r : Nat} {s : State} (h : (s.core r).outbox = []) :
    injectOutbox r s = s.updCore r fun x => { x with outbox := [] } := by
  simp [injectOutbox, h, outboxStep]

theorem inject_entered {r : Nat} {p : NetPacket} {s : State} (ho : (s.core r).outbox = []) (hq : (s.router r).queues = [])
    (hvc : p.vc < 4) (hf : p.flits = 1) : injectAll r [p] (injectOutbox r s) = entered r p s := by
  have hq' : ((s.updCore r fun x => { x with outbox := [] }).router r).queues = [] := hq
  rw [injectOutbox_empty ho]
  simp only [injectAll, List.foldl_cons, List.foldl_nil, flitsOf_one hf, hq']
  rw [if_pos ⟨hvc, by simp [Tab.getD]⟩]
  exact updRouter_congr (by simp only [hq', Tab.getD, Tab.find?_nil, Option.getD_none, List.nil_append, Tab.put])

/-- Two packets that meet are two packets (R121). -/
theorem meets_irrefl (p : NetPacket) : meets p p = false := by simp [meets]

/-- With one flit in one buffer no two packets meet. -/
theorem meetingPairs_one {q : Router} {k : Nat} {f : Flit} (h : q.queues = [(k, [f])]) : meetingPairs q = [] := by
  have hall : ∀ x ∈ wholePackets q, x.2 = f.pkt := by
    intro x hx
    simp only [wholePackets, h, List.mem_flatMap, List.mem_filter, List.mem_map, List.mem_singleton] at hx
    obtain ⟨y, ⟨rfl, -⟩, g, ⟨hg, -⟩, rfl⟩ := hx
    rw [List.mem_singleton.1 hg]
  refine List.flatMap_eq_nil_iff.2 fun a ha => List.map_eq_nil_iff.2 (List.filter_eq_nil_iff.2 fun b hb => ?_)
  rw [hall a ha, hall b hb, meets_irrefl]
  exact Bool.false_ne_true

theorem mergeAll_none {r : Nat} {s : State} (h : meetingPairs (s.router r) = []) : ∀ n, mergeAll r n s = s
  | 0 => rfl
  | n + 1 => by simp [mergeAll, h]

/-! #### Which head leaves -/

theorem headsFor_empty {s : State} {r k : Nat} (h : (s.router r).queues = [(k, [])]) (out vc : Nat) :
    headsFor s r out vc = [] := by
  simp [headsFor, h]

theorem headsFor_one {s : State} {r k : Nat} {f : Flit} (h : (s.router r).queues = [(k, [f])]) (out vc : Nat) :
    headsFor s r out vc = if k % 5 = vc ∧ (outOf s r f).1 = out then [(k, f)] else [] := by
  by_cases hk : k % 5 = vc <;> by_cases ho : (outOf s r f).1 = out <;> simp [headsFor, h, hk, ho]

theorem pickHead_none {s : State} {r out : Nat} (h : ∀ vc, headsFor s r out vc = []) : pickHead s r out = none := by
  simp [pickHead, h]

/-- A search finds the one element that answers. -/
theorem findSome?_of_only {α β : Type} {f : α → Option β} {a : α} {y : β} {l : List α} (hy : f a = some y)
    (ho : ∀ b, b ≠ a → f b = none) (ha : a ∈ l) : l.findSome? f = some y := by
  induction l with
  | nil => cases ha
  | cons b l ih =>
    by_cases hb : b = a
    · rw [List.findSome?_cons, hb, hy]
    · rw [List.findSome?_cons, ho b hb]
      exact ih ((List.mem_cons.1 ha).resolve_left (Ne.symm hb))

/-- Every channel from VC1 to VC3 has its turn (R117). -/
theorem mem_turnOrder (turn : Nat) {vc : Nat} (h0 : vc ≠ 0) (h4 : vc < 4) :
    vc ∈ (List.range 3).map fun i => (turn + i) % 3 + 1 := by
  refine List.mem_map.2 ⟨(vc + 2 - turn % 3) % 3, List.mem_range.2 (by omega), by omega⟩

/-- The one head that goes out through an output, on whichever channel it is, leaves where it may. -/
theorem pickHead_one {s : State} {r out vc : Nat} {h : Nat × Flit} (hvc : vc < 4)
    (heads : ∀ v, headsFor s r out v = if v = vc then [h] else []) :
    pickHead s r out = if headGoes s r out vc h then some h else none := by
  have hother : ∀ v, v ≠ vc → (headsFor s r out v).find? (headGoes s r out v) = none := fun v hv => by
    rw [heads, if_neg hv]; rfl
  have hown : (headsFor s r out vc).find? (headGoes s r out vc) = if headGoes s r out vc h then some h else none := by
    rw [heads, if_pos rfl]
    by_cases hg : headGoes s r out vc h <;> simp [hg]
  unfold pickHead
  dsimp only
  by_cases hg : headGoes s r out vc h = true
  · rw [if_pos hg] at hown ⊢
    by_cases h0 : vc = 0
    · subst h0; rw [hown]; rfl
    · rw [hother 0 (Ne.symm h0), findSome?_of_only (f := fun v => (headsFor s r out v).find? (headGoes s r out v)) hown hother
        (mem_turnOrder _ h0 hvc)]; rfl
  · rw [if_neg hg] at hown ⊢
    have hnone : ∀ v, (headsFor s r out v).find? (headGoes s r out v) = none := fun v => by
      by_cases hv : v = vc
      · rw [hv, hown]
      · exact hother v hv
    rw [hnone 0, List.findSome?_eq_none_iff.2 fun v _ => hnone v]; rfl

theorem sendFlit_none {s : State} {r out : Nat} (h : pickHead s r out = none) : sendFlit r out s = s := by
  simp [sendFlit, h]

/-! #### The cycle -/

/-- A packet of one flit of the core's own, with no waypoint, meets an empty router whose towpath is free. -/
structure MeetsEmptyRouter (s : State) (r : Nat) (p : NetPacket) : Prop where
  queues  : (s.router r).queues = []
  worm    : (s.router r).worm = []
  outbox  : (s.core r).outbox = []
  towpath : towpathFree (s.router r) = true
  load    : p.load = none
  toBase  : p.toBase = false
  vc      : p.vc < 4
  flits   : p.flits = 1
  way     : waypoint s p.src p.dst = none

/-- The input and the channel of a queue of the core. -/
theorem queueKey_core_input {vc : Nat} (h : vc < 4) : queueKey 4 false vc / 10 = 4 := by simp [queueKey, bit]; omega
theorem queueKey_core_channel {vc : Nat} (h : vc < 4) : queueKey 4 false vc % 5 = vc := by simp [queueKey, bit]; omega

/-- What becomes of a router's own state when its one flit leaves through an output. -/
def flitLeaves (out : Nat) (p : NetPacket) (q : Router) : Router :=
  { q with
    queues := [(queueKey 4 false p.vc, [])]
    rr := if p.vc = 0 then q.rr else Tab.put out p.vc q.rr
    towpathAt := if p.vc = 0 then some q.cycle else q.towpathAt
    forwarded := bumpVc p.vc q.forwarded
    packets := bumpVc p.vc q.packets }

theorem dimOut_self (r : Nat) : dimOut r r = 4 := by simp [dimOut]

theorem dimOut_east {r dst : Nat} (h : r % 16 < dst % 16) : dimOut r dst = 1 := by
  simp [dimOut, h, Nat.not_lt.2 (Nat.le_of_lt h)]

theorem dimOut_le (r dst : Nat) : dimOut r dst ≤ 4 := by
  unfold dimOut
  repeat' split
  all_goals omega

/-- A flit on its way does not come back to the router that it leaves. -/
theorem neighbour_dimOut_ne (r dst : Nat) : neighbour r (dimOut r dst) ≠ r := by
  unfold dimOut
  repeat' split
  all_goals simp [neighbour]
  all_goals omega

/-- Flits placed elsewhere leave a router's buffers. -/
theorem placeFlit_queues {r out : Nat} {f : Flit} (s : State) (h : f.pkt.load = none) (hn : neighbour r out ≠ r) :
    ((placeFlit r out f s).router r).queues = (s.router r).queues := by
  rw [placeFlit_own s h]
  split
  · rw [State.updRouter_router]
  · split
    · rfl
    · rw [State.updRouter_router_ne _ _ _ _ hn.symm]

theorem foldl_eq_self {α β : Type} {f : α → β → α} {a : α} {l : List β} (h : ∀ o ∈ l, f a o = a) : l.foldl f a = a := by
  induction l with
  | nil => rfl
  | cons b l ih => rw [List.foldl_cons, h b List.mem_cons_self, ih fun o ho => h o (List.mem_cons_of_mem _ ho)]

/-- Where only one step of a list has an effect, the list has that step's. -/
theorem foldl_of_only {α β : Type} {f : α → β → α} {a : α} {d : β} {l : List β} (hd : d ∈ l) (hn : l.Nodup)
    (hbefore : ∀ o, o ≠ d → f a o = a) (hafter : ∀ o, o ≠ d → f (f a d) o = f a d) : l.foldl f a = f a d := by
  induction l with
  | nil => cases hd
  | cons b l ih =>
    obtain ⟨hb, hn⟩ := List.nodup_cons.1 hn
    by_cases hbd : b = d
    · subst hbd
      rw [List.foldl_cons]
      exact foldl_eq_self fun o ho => hafter o fun e => hb (e ▸ ho)
    · rw [List.foldl_cons, hbefore b hbd]
      exact ih ((List.mem_cons.1 hd).resolve_left (Ne.symm hbd)) hn

theorem entered_queues (s : State) (r : Nat) (p : NetPacket) :
    ((entered r p s).router r).queues = [(queueKey 4 false p.vc, [onlyFlit p])] := by
  unfold entered
  rw [State.updRouter_router]

/-- A credit eastward is one of the next router and the chamber before it. -/
theorem hasCredit_entered_east (s : State) (r : Nat) (p : NetPacket) :
    hasCredit (entered r p s) r 1 false p.vc = hasCredit s r 1 false p.vc := by
  have hnext : (entered r p s).router (neighbour r 1) = s.router (neighbour r 1) :=
    State.updRouter_router_ne _ _ _ _ (by simp [neighbour])
  simp only [hasCredit, heldNext, hnext]
  rfl

namespace MeetsEmptyRouter

variable {s : State} {r : Nat} {p : NetPacket} (h : MeetsEmptyRouter s r p)
include h

theorem entered_flitsMoved : FlitsMoved r s (entered r p s) := by
  refine (FlitsMoved.updCore s r r ?_).trans (FlitsMoved.updRouter _ r r rfl rfl)
  show { s.core r with outbox := [] } = s.core r
  rw [← h.outbox]

theorem outOf_entered : outOf (entered r p s) r (onlyFlit p) = (dimOut r p.dst, false) := by
  have hway : waypoint (entered r p s) p.src p.dst = none := h.way
  simp [outOf, hway, lastOut, h.toBase]

/-- The flit is the one head of the router, on its channel and at its output. -/
theorem headsFor_entered (out v : Nat) :
    headsFor (entered r p s) r out v =
      if v = p.vc ∧ out = dimOut r p.dst then [(queueKey 4 false p.vc, onlyFlit p)] else [] := by
  rw [headsFor_one (entered_queues s r p), h.outOf_entered, queueKey_core_channel h.vc]
  simp only [eq_comm]

/-- It leaves where a credit is held. -/
theorem headGoes_entered :
    headGoes (entered r p s) r (dimOut r p.dst) p.vc (queueKey 4 false p.vc, onlyFlit p) =
      hasCredit (entered r p s) r (dimOut r p.dst) false p.vc := by
  have hworm : ((entered r p s).router r).worm = [] := by
    unfold entered; rw [State.updRouter_router]; exact h.worm
  have htow : towpathFree ((entered r p s).router r) = true := by
    unfold entered; rw [State.updRouter_router]; exact h.towpath
  simp [headGoes, h.outOf_entered, hworm, htow]

theorem pickHead_entered :
    pickHead (entered r p s) r (dimOut r p.dst) =
      if hasCredit (entered r p s) r (dimOut r p.dst) false p.vc then some (queueKey 4 false p.vc, onlyFlit p) else none := by
  rw [pickHead_one (vc := p.vc) (h := (queueKey 4 false p.vc, onlyFlit p)) h.vc fun v => by
    rw [h.headsFor_entered]; simp, h.headGoes_entered]

/-- The flit leaves through the output of dimension order. -/
theorem sendFlit_entered (hc : hasCredit (entered r p s) r (dimOut r p.dst) false p.vc = true) :
    sendFlit r (dimOut r p.dst) (entered r p s) = placeFlit r (dimOut r p.dst) (onlyFlit p)
      ((entered r p s).updRouter r (flitLeaves (dimOut r p.dst) p)) := by
  have hpick := h.pickHead_entered
  rw [if_pos hc] at hpick
  have hworm : ((entered r p s).router r).worm = [] := by
    unfold entered; rw [State.updRouter_router]; exact h.worm
  simp only [sendFlit, hpick, h.outOf_entered]
  refine congrArg (placeFlit r (dimOut r p.dst) (onlyFlit p)) (updRouter_congr ?_)
  by_cases h0 : p.vc = 0 <;>
    simp [h0, flitLeaves, h.flits, entered_queues, hworm, queueKey_core_input, h.vc, Tab.modify, Tab.find?, Tab.put, Tab.del]

/-- After it no output has a head, and before it none but its own. -/
theorem sendFlit_others :
    (List.range 6).foldl (fun s out => sendFlit r out s) (entered r p s) =
      sendFlit r (dimOut r p.dst) (entered r p s) := by
  have hbefore : ∀ o, o ≠ dimOut r p.dst → sendFlit r o (entered r p s) = entered r p s := fun o ho =>
    sendFlit_none (pickHead_none fun v => by rw [h.headsFor_entered, if_neg fun hv => ho hv.2])
  refine foldl_of_only (f := fun s out => sendFlit r out s) (List.mem_range.2 ?_) List.nodup_range hbefore fun o ho => ?_
  · exact Nat.lt_of_le_of_lt (dimOut_le r p.dst) (by decide)
  · by_cases hc : hasCredit (entered r p s) r (dimOut r p.dst) false p.vc = true
    · rw [h.sendFlit_entered hc]
      refine sendFlit_none (pickHead_none fun v => headsFor_empty (k := queueKey 4 false p.vc) ?_ o v)
      rw [placeFlit_queues _ h.load (neighbour_dimOut_ne _ _), State.updRouter_router]
      rfl
    · have hstay : sendFlit r (dimOut r p.dst) (entered r p s) = entered r p s :=
        sendFlit_none (by rw [h.pickHead_entered, if_neg hc])
      rw [hstay]
      exact hbefore o ho

/-- The router's cycle: the flit enters, leaves where a credit is held, and the counters move. -/
theorem routerStep_eq (hlive : routerLive s r = true) :
    routerStep r [p] s = (sendFlit r (dimOut r p.dst) (entered r p s)).updRouter r
      (countCycle ((List.range 4).filter (stalled (entered r p s) r))) := by
  simp only [routerStep, hlive, if_true]
  rw [inject_entered h.outbox h.queues h.vc h.flits, mergeAll_none (meetingPairs_one (entered_queues s r p)), h.sendFlit_others]
  rfl

/-- The flit's way moves only flits. -/
theorem sendFlit_flitsMoved : FlitsMoved r s (sendFlit r (dimOut r p.dst) (entered r p s)) := by
  refine h.entered_flitsMoved.trans ?_
  by_cases hc : hasCredit (entered r p s) r (dimOut r p.dst) false p.vc = true
  · rw [h.sendFlit_entered hc]
    exact (FlitsMoved.updRouter _ r r rfl rfl).trans (placeFlit_flitsMoved _ h.load)
  · rw [sendFlit_none (by rw [h.pickHead_entered, if_neg hc])]
    exact ⟨rfl, rfl, fun _ => rfl, rfl⟩

/-- A packet for the core of the router leaves it there. -/
theorem routerStep_eject (hlive : routerLive s r = true) (hdst : p.dst = r) :
    ((routerStep r [p] s).router r).ejected = (s.router r).ejected ++ [onlyFlit p] := by
  have hout : dimOut r p.dst = 4 := by rw [hdst, dimOut_self]
  have hc : hasCredit (entered r p s) r (dimOut r p.dst) false p.vc = true := by rw [hout]; rfl
  rw [h.routerStep_eq hlive, h.sendFlit_entered hc, hout]
  simp [placeFlit_own (f := onlyFlit p) _ h.load, countCycle, flitLeaves, entered, updCore_router]

theorem routerStep_east (hlive : routerLive s r = true) (heast : r % 16 < p.dst % 16)
    (hcredit : hasCredit s r 1 false p.vc = true) :
    routerStep r [p] s = (placeFlit r 1 (onlyFlit p) ((entered r p s).updRouter r (flitLeaves 1 p))).updRouter r
      (countCycle ((List.range 4).filter (stalled (entered r p s) r))) := by
  have hout := dimOut_east heast
  have hc : hasCredit (entered r p s) r (dimOut r p.dst) false p.vc = true := by rw [hout, hasCredit_entered_east, hcredit]
  rw [h.routerStep_eq hlive, h.sendFlit_entered hc, hout]

/-- Within a reach the flit goes on into the next router's buffer. -/
theorem routerStep_next (hlive : routerLive s r = true) (heast : r % 16 < p.dst % 16)
    (hcredit : hasCredit s r 1 false p.vc = true) (hcross : crosses r 1 = false) :
    ((routerStep r [p] s).router (r + 1)).queues =
      Tab.put (queueKey 0 false p.vc) (Tab.getD [] (queueKey 0 false p.vc) (s.router (r + 1)).queues ++ [onlyFlit p])
        (s.router (r + 1)).queues := by
  have hne : r + 1 ≠ r := by omega
  rw [h.routerStep_east hlive heast hcredit, State.updRouter_router_ne _ _ _ _ hne]
  rw [placeFlit_own (f := onlyFlit p) _ h.load, if_neg (by decide), if_neg (by rw [hcross]; decide)]
  show ((State.updRouter _ (r + 1) _).router (r + 1)).queues = _
  rw [State.updRouter_router, State.updRouter_router_ne _ _ _ _ hne]
  unfold entered
  rw [State.updRouter_router_ne _ _ _ _ hne]
  rfl

/-- Across a boundary of reaches it goes into the lock chamber. -/
theorem routerStep_chamber (hlive : routerLive s r = true) (heast : r % 16 < p.dst % 16)
    (hcredit : hasCredit s r 1 false p.vc = true) (hcross : crosses r 1 = true) :
    ((routerStep r [p] s).chamber (chamberOf r 1)).entries =
      (s.chamber (chamberOf r 1)).entries ++ [((s.chamber (chamberOf r 1)).wseq, onlyFlit p)] := by
  rw [h.routerStep_east hlive heast hcredit, placeFlit_own (f := onlyFlit p) _ h.load, if_neg (by decide), if_pos hcross,
    updRouter_chamber, State.updChamber_chamber]
  rfl

/-- Whatever its output, the cycle leaves the rest of the router, every core, and all that is off the meshes. -/
theorem routerStep_frame (hlive : routerLive s r = true) :
    ((routerStep r [p] s).router r).still = (s.router r).still ∧
      ((routerStep r [p] s).router r).cycle = (s.router r).cycle + 1 ∧
      (routerStep r [p] s).offMesh = s.offMesh ∧ ∀ c, (routerStep r [p] s).core c = s.core c := by
  obtain ⟨hstill, hcycle, hcores, hoff⟩ := h.sendFlit_flitsMoved
  rw [h.routerStep_eq hlive]
  refine ⟨?_, ?_, hoff, hcores⟩
  · rw [State.updRouter_router, ← hstill]; rfl
  · rw [State.updRouter_router, ← hcycle]; rfl

end MeetsEmptyRouter

/-! ### The reduction table (R123, R124) -/

/-- A router without the flits of a packet that has left it for its core. -/
def tableTake (r : Nat) (p : NetPacket) (s : State) : State :=
  s.updRouter r fun q => { q with ejected := q.ejected.filter fun f => f.pkt.id != p.id }

/-- A packet of a stack goes back to the scheduler, and its collective ends (R124). -/
def tableOverrun (r : Nat) (p : NetPacket) (s : State) : State :=
  endCollective (r / 128) p.group St.reductionOverrun (s.updRouter r fun q => { q with overrun := q.overrun ++ [p] })

/-- An entry stands in a router's table, marked once it is complete. -/
def tableKeep (r group : Nat) (e : NetPacket) (s : State) : State :=
  s.updRouter r fun q =>
    { q with table := Tab.put group e q.table, complete := if e.expects ≤ e.carried then q.complete ++ [group] else q.complete }

theorem tableTake_table (r : Nat) (p : NetPacket) (s : State) :
    ((tableTake r p s).router r).table = (s.router r).table ∧
      ((tableTake r p s).router r).complete = (s.router r).complete := by
  unfold tableTake
  rw [State.updRouter_router]
  exact ⟨rfl, rfl⟩

/-- A packet whose op still stands is not dropped. -/
theorem load_owned {s : State} {p : NetPacket} (h : ∀ x, p.load = some x → ownerStands s x.owner = true) :
    (p.load.any fun t => !ownerStands s t.owner) = false := by
  cases hload : p.load with
  | none => rfl
  | some x => simp [h x hload]

/-- The one packet that has left a router for its core: the first of a sum takes an entry of the table, where one is free; a
later one is added to its entry, unless the entry then carries more than it expects. -/
theorem tableStep_one {s : State} {r : Nat} {p : NetPacket} (hone : ejectedPackets (s.router r) = [p])
    (hopen : (s.router r).complete.contains p.group = false)
    (howner : ∀ x, p.load = some x → ownerStands (tableTake r p s) x.owner = true) :
    (Tab.find? p.group (s.router r).table = none →
      tableStep r s = if 64 ≤ (s.router r).table.length then tableOverrun r p (tableTake r p s)
        else tableKeep r p.group p (tableTake r p s)) ∧
    ∀ e, Tab.find? p.group (s.router r).table = some e →
      tableStep r s = if e.expects < e.carried + p.carried then tableOverrun r p (tableTake r p s)
        else groupFlags (r / 128) p.group (sumPacket e p).2 (tableKeep r p.group (sumPacket e p).1 (tableTake r p s)) := by
  have hgone := load_owned howner
  obtain ⟨htable, hcomplete⟩ := tableTake_table r p s
  unfold tableTake at hgone htable hcomplete
  refine ⟨fun hfind => ?_, fun e hfind => ?_⟩ <;>
    simp only [tableStep, hone, List.length_singleton, Nat.le_refl, if_true, List.getElem?_cons_zero, hgone, hcomplete, hopen,
      htable, Bool.false_eq_true, if_false, hfind] <;> rfl

section
variable {s : State} {r group : Nat} {e : NetPacket} (he : Tab.find? group (s.router r).table = some e)
  (hc : (s.router r).complete.contains group = true)
include he hc

/-- The sum of a complete entry goes to the collective that has its group, whose next round then begins (R123). -/
theorem tableDone_coll {slot task place : Nat} :
    let u := s.updRouter r fun q => { q with table := Tab.del group q.table }
    collOfGroup u (r / 128) group = some (slot, task, place) →
      tableDone r group s = roundDone slot task place (landRound slot task place e.elems u) := by
  intro u hcoll
  simp only [u] at hcoll
  simp only [tableDone, he, hc, if_true, hcoll, u]

/-- A sum of no collective goes to the entry's word. -/
theorem tableDone_word :
    let u := s.updRouter r fun q => { q with table := Tab.del group q.table }
    collOfGroup u (r / 128) group = none →
      tableDone r group s = lighterWrite r (sumCells (e.word * 256) ((elemBytes e.rtype e.elems).take 256)) u := by
  intro u hcoll
  simp only [u] at hcoll
  simp only [tableDone, he, hc, if_true, hcoll, u]

end

/-! ### Lock chambers (R341, R342) -/

theorem chamberOf_router {out : Nat} (r : Nat) (h : out < 4) : chamberOf r out / 4 = r := by unfold chamberOf; omega
theorem chamberOf_output {out : Nat} (r : Nat) (h : out < 4) : chamberOf r out % 4 = out := by unfold chamberOf; omega

/-- A chamber's oldest flit, the only one of its packet, has gone to the next router. -/
def chamberGives (r out : Nat) (f : Flit) (rest : List (Nat × Flit)) (s : State) : State :=
  let k := queueKey (inputOf out) f.leg2 f.pkt.vc
  (s.updChamber (chamberOf r out) fun c =>
    { c with entries := rest, rseq := (c.rseq + 1) % 8, stamps := Tab.del f.pkt.id c.stamps }).updRouter
      (neighbour r out) fun q => { q with queues := Tab.put k (Tab.getD [] k q.queues ++ [f]) q.queues }

/-- A read of a chamber by a router that runs: the oldest flit goes on, and its sequence is checked. -/
theorem chamberStep_one {s : State} {r out i seqRead stampRead : Nat} {f : Flit} {rest : List (Nat × Flit)} (hout : out < 4)
    (hlive : routerLive s (neighbour r out) = true) (hentries : (s.chamber (chamberOf r out)).entries = (i, f) :: rest)
    (hflits : f.pkt.flits = 1) (hstamp : Tab.find? f.pkt.id (s.chamber (chamberOf r out)).stamps = none) :
    chamberStep (chamberOf r out) seqRead stampRead s =
      if seqRead ≠ (s.chamber (chamberOf r out)).rseq then
        raiseFault Ev.chamberError (leBytes 1 (r / 128) ++ leBytes 1 (r % 128 / 16 / 4 * 4 + r % 16 / 4) ++
          leBytes 1 (neighbour r out % 128 / 16 / 4 * 4 + neighbour r out % 16 / 4)) (chamberGives r out f rest s)
      else chamberGives r out f rest s := by
  have hlast : decide (f.pkt.flits ≤ f.idx + 1) = true := by simp [hflits]
  simp only [chamberStep, chamberOf_router r hout, chamberOf_output r hout, hlive, if_true, hentries, hstamp, hlast,
    Option.any_none, Bool.or_false, bne_iff_ne]
  rfl

/-- Settles O31: the scratch port, the router's cycle, the reduction table and the lock chamber, each by its equation above. -/
theorem scratchPortRoutersAndReduction : Obligations.ScratchPortRoutersAndReduction := by
  unfold Obligations.ScratchPortRoutersAndReduction
  refine ⟨?free, ?deferred, ?router, ?table, ?done, ?chamber⟩
  case free =>
    intro s c w e er hlive hw hnone hit u got
    have hread := congrArg (Host.Outcome.next (φ := Fault) (ρ := Refusal)) (scratchStep_read_idle hlive hw hnone e er)
    refine ⟨fun hgood => hread.trans (congrArg _ (if_pos hgood)), fun hbad => hread.trans (congrArg _ (if_neg hbad)),
      fun b d => congrArg _ (scratchStep_write_write hlive hw hnone er b d), fun v f d hv hne hgood => ⟨?_, ?_, ?_⟩⟩
    · exact congrArg _ (scratchStep_read_refuse hlive hw hnone hv hne (.inl ⟨f, rfl⟩) hgood)
    · exact congrArg _ (scratchStep_read_refuse hlive hw hnone hv hne (.inr ⟨d, rfl⟩) hgood)
    · exact congrArg _ (scratchStep_write_refuse hlive hw hnone er hv hne d f)
  case deferred =>
    intro s c dw d lighter er hlive hdef hit
    refine ⟨congrArg _ (scratchStep_idle_deferred hlive hdef lighter er), fun e hw => ?_, fun b hw hleft => ?_⟩
    · intro u hgood
      exact congrArg _ (scratchStep_read_deferred hlive hdef hw lighter hgood)
    · exact congrArg _ (scratchStep_write_deferred hlive hdef hw lighter er hleft)
  case router =>
    intro s r p hlive hqueues hworm houtbox hload hbase hvc hflits hsrc hway htow _ f
    have h : MeetsEmptyRouter s r p := ⟨hqueues, hworm, houtbox, htow, hload, hbase, hvc, hflits, by rw [hsrc]; exact hway⟩
    obtain ⟨hstill, hcycle, hoff, hcores⟩ := h.routerStep_frame hlive
    refine ⟨routerStep r [p] s, rfl, ?_, State.eq_of_offMesh hoff, hcores, h.routerStep_eject hlive, fun heast hcredit => ?_⟩
    · rw [← hcycle]; exact Router.eq_of_still hstill
    · exact ⟨h.routerStep_next hlive heast hcredit, h.routerStep_chamber hlive heast hcredit⟩
  case table =>
    intro s r p hone hopen u howner past keep
    obtain ⟨hfirst, hadd⟩ := tableStep_one hone hopen howner
    exact ⟨fun hnew => congrArg _ (hfirst hnew), fun e he => ⟨rfl, rfl, congrArg _ (hadd e he)⟩⟩
  case done =>
    intro s r group e he hc u
    exact ⟨fun slot task place hcoll => congrArg _ (tableDone_coll he hc hcoll),
      fun hcoll => congrArg _ (tableDone_word he hc hcoll)⟩
  case chamber =>
    intro s r out i seqRead stampRead f rest hout hlive hentries hflits hstamp k u
    have hstep := congrArg (Host.Outcome.next (φ := Fault) (ρ := Refusal))
      (chamberStep_one (seqRead := seqRead) (stampRead := stampRead) hout hlive hentries hflits hstamp)
    exact ⟨fun hseq => hstep.trans (congrArg _ (if_neg fun hne => hne hseq)), fun hseq => hstep.trans (congrArg _ (if_pos hseq))⟩

end Sys2Proof.Machine
end

section
/-!
SUPPORT. Statements of chapter 4 on the ops that touch only their member: control flow, index slots, parameters and views (R131 to
R133, R149 to R163, R217). One equation for each form of an op, read through the lemma on what a kernel step makes of it.
-/

namespace Sys2Proof.Machine
open Sys2Proof.Safety

/-! ### Ops the governor does not count (R479) -/

theorem noteIssue_quiet {s : State} {m : MRef} {opc : Nat} {k : KOp} (h : StandsAt s m opc k) (ho : opc < 0x20 ∨ 0x70 ≤ opc)
    (t : State) : noteIssue k t = t := by
  obtain ⟨-, hop, -⟩ := h
  refine noteIssue_none ?_ t
  have hmma : opc ≠ 0x30 := by omega
  have hengine : engineOp opc = false := by
    simp only [engineOp, List.contains_eq_mem, decide_eq_false_iff_not, List.mem_cons, List.not_mem_nil, or_false]
    omega
  have hscratch : ([0x20, 0x21, 0x23, 0x59, 0x5A] : List Nat).contains opc = false := by
    simp only [List.contains_eq_mem, decide_eq_false_iff_not, List.mem_cons, List.not_mem_nil, or_false]
    omega
  simp only [opActs, hop, if_neg hmma, hengine, hscratch, Bool.false_eq_true, if_false]

theorem kop_next_quiet {s t : State} {m : MRef} {opc : Nat} {k : KOp} (h : StandsAt s m opc k) (ho : opc < 0x20 ∨ 0x70 ≤ opc)
    {body : KOp → State → KRes} {f : Member → Member} (hb : body k s = .next f t) :
    kop m opc body s = t.updMember m (advanced k f) := by
  rw [kop_next h hb, noteIssue_quiet h ho]

/-! ### Control (R150 to R157) -/

theorem opEnd_ends {k : KOp} (s : State) (hc : othersInColl k = false) (ho : k.mem.out = []) :
    opEnd k s = .jump k.mem.pc (fun x => { x with ended := true, waitFrom := s.ft }) s := by
  simp only [opEnd, hc, ho, if_true, Bool.false_eq_true, if_false]

theorem opEnd_waits {k : KOp} (s : State) (hc : othersInColl k = false) (ho : k.mem.out ≠ []) :
    opEnd k s = .wait .ending s := by
  simp only [opEnd, hc, if_neg ho, Bool.false_eq_true, if_false]

theorem opLoop_enters {k : KOp} (s : State) (h : 0 < k.index k.opb) :
    opLoop k s = .next (fun x => setIx k.opa 0
      { x with ctl := .loop (k.mem.pc + 1 + nextOf k.word) (closerOf k false) k.opa 0 (k.index k.opb).toNat :: x.ctl }) s := by
  simp only [opLoop, if_neg (Int.not_lt.2 (Int.le_of_lt h)), if_neg (Int.ne_of_gt h)]

theorem opLoop_skips {k : KOp} (s : State) (h : k.index k.opb = 0) : opLoop k s = .jump (closerOf k false + 1) id s := by
  simp only [opLoop, h, Int.lt_irrefl, if_true, if_false]

theorem opLoop_negative {k : KOp} (s : State) (h : k.index k.opb < 0) : opLoop k s = .stop St.loopCount s := by
  simp only [opLoop, h, if_true]

theorem opEndloop_loop {k : KOp} {body close slot i n : Nat} {rest : List Ctl} (s : State)
    (h : k.mem.ctl = .loop body close slot i n :: rest) :
    opEndloop k s =
      if i + 1 < n then
        .jump body (fun x => setIx slot ((i + 1 : Nat) : Int) { x with ctl := .loop body close slot (i + 1) n :: rest }) s
      else .next (fun x => { x with ctl := rest }) s := by
  simp only [opEndloop, h]

theorem opEndloop_tile {k : KOp} {body close slot i rows cols : Nat} {cm : Bool} {rest : List Ctl} (s : State)
    (h : k.mem.ctl = .tile body close slot i rows cols cm :: rest) :
    opEndloop k s =
      if i + 1 < ceilDiv rows 32 * ceilDiv cols 32 then
        .jump body (fun x => setOrigin slot rows cols cm (i + 1)
          { x with ctl := .tile body close slot (i + 1) rows cols cm :: rest }) s
      else .next (fun x => { x with ctl := rest }) s := by
  simp only [opEndloop, h]

theorem opTilefor_skips {k : KOp} (s : State) (h : (k.view k.opb).empty = true) :
    opTilefor k s = .jump (closerOf k false + 1) id s := by
  simp only [opTilefor, h, if_true]

theorem opTilefor_enters {k : KOp} (s : State) (h : (k.view k.opb).empty = false) :
    opTilefor k s = .next (fun x => setOrigin k.opa ((k.view k.opb).extAt 1) ((k.view k.opb).extAt 0) (decide (k.mod % 2 = 1)) 0
      { x with ctl := .tile (k.mem.pc + 1 + nextOf k.word) (closerOf k false) k.opa 0 ((k.view k.opb).extAt 1)
                 ((k.view k.opb).extAt 0) (decide (k.mod % 2 = 1)) :: x.ctl }) s := by
  simp only [opTilefor, h, Bool.false_eq_true, if_false]

theorem opIf_holds {k : KOp} (s : State) (h : ifHolds k = true) :
    opIf k s = .next (fun x => { x with ctl := .cond (closerOf k false) :: x.ctl }) s := by
  simp only [opIf, h, if_true]

theorem opIf_fails {k : KOp} (s : State) (h : ifHolds k = false) :
    opIf k s =
      if closerOf k true = closerOf k false then .jump (closerOf k false + 1) id s
      else .jump (closerOf k true + 1) (fun x => { x with ctl := .cond (closerOf k false) :: x.ctl }) s := by
  simp only [opIf, h, Bool.false_eq_true, if_false]

theorem opElse_leaves {k : KOp} {fin : Nat} {rest : List Ctl} (s : State) (h : k.mem.ctl = .cond fin :: rest) :
    opElse k s = .jump (fin + 1) (fun x => { x with ctl := rest }) s := by
  simp only [opElse, h]

theorem opEndif_leaves {k : KOp} {fin : Nat} {rest : List Ctl} (s : State) (h : k.mem.ctl = .cond fin :: rest) :
    opEndif k s = .next (fun x => { x with ctl := rest }) s := by
  simp only [opEndif, h]

/-- Settles O19: each clause is the equation above of its op, read through the kernel step. -/
theorem kernelControlOps : Obligations.KernelControlOps := by
  unfold Obligations.KernelControlOps
  intro s m k
  refine ⟨?nop, ?ends, ?endWaits, ?loopEnters, ?loopSkips, ?loopCloser, ?tileCloser, ?tileSkips, ?tileEnters, ?ifHolds, ?ifPast,
    ?ifElse, ?else', ?endif⟩
  case nop => exact fun h => congrArg Host.Outcome.next (kop_next_quiet h (by decide) rfl)
  case ends => exact fun h hc ho => congrArg Host.Outcome.next (kop_jump h (opEnd_ends s hc ho))
  case endWaits => exact fun h hc ho => congrArg Host.Outcome.next (kop_wait h (opEnd_waits s hc ho))
  case loopEnters => exact fun h hn => congrArg Host.Outcome.next (kop_next_quiet h (by decide) (opLoop_enters s hn))
  case loopSkips => exact fun h hn => congrArg Host.Outcome.next (kop_jump h (opLoop_skips s hn))
  case loopCloser =>
    intro body close slot i n rest h hctl
    have hop := opEndloop_loop s hctl
    refine ⟨fun hleft => ?_, fun hlast => ?_⟩
    · exact congrArg Host.Outcome.next (kop_jump h (hop.trans (if_pos hleft)))
    · exact congrArg Host.Outcome.next (kop_next_quiet h (by decide) (hop.trans (if_neg (Nat.not_lt.2 hlast))))
  case tileCloser =>
    intro body close slot i rows cols cm rest h hctl
    have hop := opEndloop_tile s hctl
    refine ⟨fun hleft => ?_, fun hlast => ?_⟩
    · exact congrArg Host.Outcome.next (kop_jump h (hop.trans (if_pos hleft)))
    · exact congrArg Host.Outcome.next (kop_next_quiet h (by decide) (hop.trans (if_neg (Nat.not_lt.2 hlast))))
  case tileSkips => exact fun h he => congrArg Host.Outcome.next (kop_jump h (opTilefor_skips s he))
  case tileEnters => exact fun h he => congrArg Host.Outcome.next (kop_next_quiet h (by decide) (opTilefor_enters s he))
  case ifHolds => exact fun h ht => congrArg Host.Outcome.next (kop_next_quiet h (by decide) (opIf_holds s ht))
  case ifPast =>
    exact fun h hf heq => congrArg Host.Outcome.next (kop_jump h ((opIf_fails s hf).trans (if_pos heq)))
  case ifElse =>
    exact fun h hf hne => congrArg Host.Outcome.next (kop_jump h ((opIf_fails s hf).trans (if_neg hne)))
  case else' => exact fun fin rest h hctl => congrArg Host.Outcome.next (kop_jump h (opElse_leaves s hctl))
  case endif => exact fun fin rest h hctl => congrArg Host.Outcome.next (kop_next_quiet h (by decide) (opEndif_leaves s hctl))

/-! ### Index slot 0 (R133) -/

theorem ix_zero (k : KOp) : k.ix 0 = 0 := by simp only [KOp.ix, if_true]

theorem setIx_zero (v : Int) (x : Member) : setIx 0 v x = x := by simp only [setIx, if_true]

theorem opImov_toZero {k : KOp} (s : State) (h : k.opa = 0) : opImov k s = .next id s := by
  have hset : ∀ v, setIx k.opa v = id := fun v => by rw [h]; exact funext (setIx_zero v)
  simp only [opImov, hset]

/-- Settles O21: slot 0 reads as 0 and keeps no write, so an IMOV to it changes the member's place alone. -/
theorem indexSlotZeroReadsZero : Obligations.IndexSlotZeroReadsZero := by
  unfold Obligations.IndexSlotZeroReadsZero
  exact ⟨ix_zero, setIx_zero, fun s m k h ha =>
    congrArg Host.Outcome.next (kop_next_quiet h (by decide) (opImov_toZero s ha))⟩

/-! ### Index slots, parameters and stamps (R158 to R161, R217) -/

theorem opImov_short {k : KOp} (s : State) (h : nextOf k.word = 1) :
    opImov k s = .next (setIx k.opa (signedOf 32 k.e1)) s := by
  simp only [opImov, h, if_true]

theorem opImov_long {k : KOp} (s : State) (h : nextOf k.word = 2) :
    opImov k s = .next (setIx k.opa (signedOf 64 (k.e2 % 2 ^ 32 * 2 ^ 32 + k.e1 % 2 ^ 32))) s := by
  have hne : nextOf k.word ≠ 1 := by omega
  simp only [opImov, if_neg hne]

theorem opParam_inside {k : KOp} {n : Nat} (s : State) (hn : n = if k.mod % 2 = 1 then 8 else 4)
    (ha : k.e1 % 65536 % n = 0) (hin : k.e1 % 65536 + n ≤ k.t.param.length) :
    opParam k s = .next (setIx k.opa (signedOf (8 * n) (leField k.t.param (k.e1 % 65536) n))) s := by
  have hok : ¬(k.e1 % 65536 % n ≠ 0 ∨ k.t.param.length < k.e1 % 65536 + n) := by omega
  simp only [opParam, ← hn, if_neg hok]

theorem opParam_beyond {k : KOp} (s : State)
    (h : k.t.param.length < k.e1 % 65536 + (if k.mod % 2 = 1 then 8 else 4)) : opParam k s = .stop St.paramRange s := by
  simp only [opParam, h, or_true, if_true]

theorem opStamp_served {k : KOp} {st : Nat} {s t : State}
    (h : issueStamp k.t.stack (.stampRead k.ref k.opa) s = (some st, t)) :
    opStamp k s = .next (setIx k.opa (signedOf 64 st)) t := by
  simp only [opStamp, h]

/-! ### VSUB (R162 to R164) -/

/-- What VSUB makes of a view, before an empty result is given its source's place: the extents cut to the block and to the source, and
the place of the element at the origin (R162, R163). -/
def subView (v : View) (o x : Nat → Int) (readOnly : Bool) : View :=
  let off := v.offset ((List.range 4).map fun d => (o d).toNat)
  { v with
    ext := (List.range 4).map fun d => if d < v.rank then (max 0 (min (x d) ((v.extAt d : Int) - o d))).toNat else 0
    base := ((v.base : Int) + off * fmtBits v.fmt / 8).toNat, readOnly := readOnly
    scaleOff := if isBlock v.fmt then ((v.scaleOff : Int) + off / 32).toNat else v.scaleOff }

/-- An empty result keeps its source's place (R164). -/
def placed (v d : View) : View := if d.empty then { d with base := v.base, scaleOff := v.scaleOff } else d

theorem subView_extAt (v : View) (o x : Nat → Int) (ro : Bool) {d : Nat} (hd : d < v.rank) (h4 : d < 4) :
    (subView v o x ro).extAt d = (max 0 (min (x d) ((v.extAt d : Int) - o d))).toNat := by
  unfold View.extAt subView
  simp [hd, List.getD_eq_getElem?_getD, h4, View.extAt]

theorem placed_extAt (v d : View) (i : Nat) : (placed v d).extAt i = d.extAt i := by
  unfold placed
  split <;> rfl

/-- Its other fields are those of the result in any case. -/
theorem placed_fields (v d : View) : (placed v d).rank = d.rank ∧ (placed v d).fmt = d.fmt ∧ (placed v d).space = d.space ∧
    (placed v d).strides = d.strides ∧ (placed v d).readOnly = d.readOnly := by
  unfold placed
  split <;> exact ⟨rfl, rfl, rfl, rfl, rfl⟩

theorem placed_of_nonempty {v d : View} (h : (placed v d).empty = false) : placed v d = d := by
  unfold placed at h ⊢
  split
  · rename_i he
    rw [if_pos he] at h
    exact absurd (he.symm.trans h) (by decide)
  · rfl

/-- With no negative origin the offset VSUB adds up is that of the view's element at the origin (R138). -/
theorem offset_of_origin (v : View) {o : Nat → Int} (h : ∀ d, d < 4 → 0 ≤ o d) :
    (List.range 4).foldl (fun a d => a + ((List.range 4).map o).getD d 0 * v.strideAt d) 0 =
      v.offset ((List.range 4).map fun d => (o d).toNat) := by
  have h0 := Int.toNat_of_nonneg (h 0 (by decide))
  have h1 := Int.toNat_of_nonneg (h 1 (by decide))
  have h2 := Int.toNat_of_nonneg (h 2 (by decide))
  have h3 := Int.toNat_of_nonneg (h 3 (by decide))
  show 0 + o 0 * _ + o 1 * _ + o 2 * _ + o 3 * _ = 0 + ((o 0).toNat : Int) * _ + (o 1).toNat * _ + (o 2).toNat * _ + (o 3).toNat * _
  rw [h0, h1, h2, h3]

/-- The origins and extents that VSUB reads, none of them negative (R163). -/
def VsubReads (k : KOp) (o x : Nat → Int) : Prop :=
  (∀ d, o d = (k.ix (k.e1 % 256 % 64 + d)).toInt) ∧ (∀ d, x d = (k.ix (k.e1 / 256 % 64 + d)).toInt) ∧
  ∀ d, d < 4 → 0 ≤ o d ∧ 0 ≤ x d

theorem VsubReads.nonneg {k : KOp} {o x : Nat → Int} (h : VsubReads k o x) :
    ((List.range 4).map o ++ (List.range 4).map x).any (fun i => decide (i < 0)) = false := by
  obtain ⟨-, -, hpos⟩ := h
  refine List.any_eq_false.2 fun i hi => ?_
  simp only [List.mem_append, List.mem_map, List.mem_range] at hi
  rcases hi with ⟨d, hd, rfl⟩ | ⟨d, hd, rfl⟩
  · simpa using (hpos d hd).1
  · simpa using (hpos d hd).2

theorem opVsub_undeclared {k : KOp} {o x : Nat → Int} (s : State) (h : VsubReads k o x) (hd : k.declared k.opb = false) :
    opVsub k s = .next (fun y => { y with views := Tab.del (k.opa % 64) y.views }) s := by
  have hneg := h.nonneg
  obtain ⟨ho, hx, -⟩ := h
  simp only [opVsub, ← ho, ← hx, hneg, hd, Bool.not_false, Bool.false_eq_true, if_true, if_false]

theorem opVsub_declared {k : KOp} {o x : Nat → Int} (s : State) (h : VsubReads k o x) (hd : k.declared k.opb = true)
    (hblock : isBlock (k.view k.opb).fmt = true → o 0 % 32 = 0)
    (hbyte : isBlock (k.view k.opb).fmt = false → fmtBits (k.view k.opb).fmt < 8 →
      (k.view k.opb).offset ((List.range 4).map fun d => (o d).toNat) * fmtBits (k.view k.opb).fmt % 8 = 0) :
    opVsub k s =
      .next (setView k.opa (placed (k.view k.opb) (subView (k.view k.opb) o x (k.viewReadOnly k.opb)))) s := by
  have hneg := h.nonneg
  obtain ⟨ho, hx, hpos⟩ := h
  have hoff := offset_of_origin (k.view k.opb) fun d hd => (hpos d hd).1
  have hblockOk : (isBlock (k.view k.opb).fmt && decide (((List.range 4).map o).getD 0 0 % 32 ≠ 0)) = false := by
    cases hb : isBlock (k.view k.opb).fmt with
    | false => rfl
    | true => simpa using hblock hb
  have hbyteOk : ¬((!(subView (k.view k.opb) o x (k.viewReadOnly k.opb)).empty && !isBlock (k.view k.opb).fmt &&
      decide (fmtBits (k.view k.opb).fmt < 8) && decide ((k.view k.opb).offset ((List.range 4).map fun d => (o d).toNat) *
        fmtBits (k.view k.opb).fmt % 8 ≠ 0)) = true) := by
    simp only [Bool.and_eq_true, Bool.not_eq_true', decide_eq_true_eq]
    rintro ⟨⟨⟨-, hb⟩, hw⟩, hne⟩
    exact hne (hbyte hb hw)
  simp only [opVsub, ← ho, ← hx, hneg, hd, hblockOk, hoff, Bool.not_true, Bool.false_eq_true, if_false]
  exact if_neg hbyteOk

/-- Settles O20: each clause is the equation above of its op; VSUB's is that of the view it makes. -/
theorem kernelIndexAndViewOps : Obligations.KernelIndexAndViewOps := by
  unfold Obligations.KernelIndexAndViewOps
  intro s m k
  refine ⟨?imovShort, ?imovLong, ?ialu, ?query, ?param, ?vdim, ?vsubEmpty, ?vsub, ?stamp⟩
  case imovShort => exact fun h hn => congrArg Host.Outcome.next (kop_next_quiet h (by decide) (opImov_short s hn))
  case imovLong => exact fun h hn => congrArg Host.Outcome.next (kop_next_quiet h (by decide) (opImov_long s hn))
  case ialu => exact fun h => congrArg Host.Outcome.next (kop_next_quiet h (by decide) rfl)
  case query => exact fun h => congrArg Host.Outcome.next (kop_next_quiet h (by decide) rfl)
  case param =>
    exact fun n h hn ha hin => congrArg Host.Outcome.next (kop_next_quiet h (by decide) (opParam_inside s hn ha hin))
  case vdim => exact fun h => congrArg Host.Outcome.next (kop_next_quiet h (by decide) rfl)
  case vsubEmpty =>
    intro h hd hpos
    exact congrArg Host.Outcome.next
      (kop_next_quiet h (by decide) (opVsub_undeclared s ⟨fun _ => rfl, fun _ => rfl, hpos⟩ hd))
  case vsub =>
    intro o x h hd ho hx hpos hblock hbyte
    have hop := opVsub_declared s ⟨ho, hx, hpos⟩ hd hblock hbyte
    obtain ⟨hrank, hfmt, hspace, hstrides, hro⟩ :=
      placed_fields (k.view k.opb) (subView (k.view k.opb) o x (k.viewReadOnly k.opb))
    refine ⟨_, congrArg Host.Outcome.next (kop_next_quiet h (by decide) hop), hrank, hfmt, hspace, hstrides, hro,
      fun d hr h4 => ?_, fun he => ?_⟩
    · rw [placed_extAt, subView_extAt _ _ _ _ (hrank ▸ hr) h4]
    · rw [placed_of_nonempty he]; rfl
  case stamp =>
    intro st t h hst
    obtain rfl := currentOp_ref h.1
    exact congrArg Host.Outcome.next (kop_next_quiet h (by decide) (opStamp_served hst))

end Sys2Proof.Machine
end

section
/-!
SUPPORT. Statements of chapters 4 and 5 on how a gang ends early: the status an op meets, the limits on waiting and on running, and
what stands of the gang afterwards (R143, R150, R160, R185, R196, R216, R219, R274, R275, R282).
-/

namespace Sys2Proof.Machine
open Sys2Proof.Safety

/-! ### A gang that stops (R219) -/

/-- The task of a gang that has stopped with a status. -/
def stoppedTask (st : Nat) (t : Task) : Task :=
  { t with phase := .stopping, status := st, members := t.members.mapVals fun _ x => abandonMember x }

theorem abandonMember_stopped (x : Member) : (abandonMember x).stopped = true ∧ (abandonMember x).out = [] := by
  unfold abandonMember
  split
  · rename_i h; exact ⟨h, rfl⟩
  · exact ⟨rfl, rfl⟩

theorem stoppedTask_members (st : Nat) (t : Task) : ∀ p ∈ (stoppedTask st t).members, p.2.stopped = true ∧ p.2.out = [] := by
  intro p hp
  obtain ⟨q, -, rfl⟩ := List.mem_map.1 hp
  exact abandonMember_stopped q.2

@[simp] theorem dropReads_task? (slot task i j : Nat) (s : State) : (dropReads slot task s).task? i j = s.task? i j := rfl

theorem endGang_task? {s : State} {slot task : Nat} {t : Task} (h : s.task? slot task = some t) (st : Nat) :
    (endGang slot task st s).task? slot task = some (stoppedTask st t) := by
  simp only [endGang, dropReads_task?, State.updTask_task?, h, Option.map_some, stoppedTask]

theorem stopMember_task? {s : State} {m : MRef} {t : Task} (h : s.task? m.slot m.task = some t) (st : Nat) :
    (stopMember m st s).task? m.slot m.task = some { stoppedTask st t with stopBy := some (m.rank, s.ft) } := by
  simp only [stopMember, State.updTask_task?, endGang_task? h, Option.map_some]

/-- A member's ending status stops its gang, and no memory, scratch, session or event changes. -/
theorem stopMember_stops {s : State} {m : MRef} {opc : Nat} {k : KOp} (h : StandsAt s m opc k) (st : Nat) :
    ∃ t, (stopMember m st s).task? m.slot m.task = some t ∧ t.phase = .stopping ∧ t.status = st ∧
      (∀ p ∈ t.members, p.2.stopped = true ∧ p.2.out = []) ∧
      (stopMember m st s).stk = s.stk ∧ (stopMember m st s).net = s.net ∧
      (stopMember m st s).log = s.log ∧ (stopMember m st s).mem.shadows = s.mem.shadows ∧
      (stopMember m st s).mem.writes = s.mem.writes := by
  obtain ⟨-, htask, -⟩ := currentOp_member h.1
  exact ⟨_, stopMember_task? htask st, rfl, rfl, stoppedTask_members st k.t, rfl, rfl, rfl, rfl, rfl⟩

/-- A member with nothing outstanding has no COLL that could begin. -/
theorem beginColls_nothingOut {s : State} {m : MRef} (h : ∀ x, s.member? m = some x → x.out = []) : beginColls m s = s := by
  unfold beginColls
  split
  · rfl
  · rename_i x hx
    simp only [collOut, h x hx, List.filter_nil, List.foldl_nil]

theorem beginColls_stopMember {s : State} {m : MRef} {opc : Nat} {k : KOp} (h : StandsAt s m opc k) (st : Nat) :
    beginColls m (stopMember m st s) = stopMember m st s := by
  obtain ⟨t, htask, -, -, hmembers, -⟩ := stopMember_stops h st
  refine beginColls_nothingOut fun x hx => ?_
  rw [State.member?, htask] at hx
  exact (hmembers _ (Tab.find?_mem hx)).2

/-! ### Ops that stop their gang -/

theorem opColl_notCollective {k : KOp} (s : State) (h : k.collective = false) : opColl k s = .stop St.notCollective s := by
  simp only [opColl, collStop, h, Bool.not_false, if_true]

theorem opBarrier_notCollective {k : KOp} (s : State) (h : k.collective = false) : opBarrier k s = .stop St.notCollective s := by
  simp only [opBarrier, h, Bool.not_false, if_true]

theorem opSend_notExternal {k : KOp} (s : State) (hm : k.mod % 2 = 1) (h : k.external = false) :
    opSend k s = .stop St.external s := by
  have hodd : ¬ k.mod % 2 = 0 := by omega
  have hpeer : peerOf s k (k.index k.opb) = .inl St.external := by
    simp only [peerOf, if_neg hodd, h, Bool.not_false, if_true]
  simp only [opSend, hpeer]

theorem opTstore_readOnly {k : KOp} (s : State) (h : k.viewReadOnly k.opb = true) : opTstore k s = .stop St.viewAccess s := by
  simp only [opTstore, h, if_true]

theorem opRed_outside {k : KOp} (s : State) (h : k.index (k.e1 % 256) < 0 ∨ 32 < k.index (k.e1 % 256)) :
    opRed k s = .stop St.indexRange s := by
  simp only [opRed, if_pos h]

theorem opSort_outside {k : KOp} (s : State) (h : k.index (k.e1 / 256 % 256) < 0 ∨ 32 < k.index (k.e1 / 256 % 256)) :
    opSort k s = .stop St.indexRange s := by
  simp only [opSort, if_pos h]

/-- Settles O27: each op answers its status before it touches anything, and a status stops the gang. -/
theorem kernelStopsByStatus : Obligations.KernelStopsByStatus := by
  unfold Obligations.KernelStopsByStatus
  intro s m k stops
  refine ⟨fun h hc => ⟨?_, stopMember_stops h _⟩, fun h hc => ⟨?_, stopMember_stops h _⟩, fun h hm hx => ⟨?_, stopMember_stops h _⟩,
    fun h hro => ⟨?_, stopMember_stops h _⟩, fun h hn => ⟨?_, stopMember_stops h _⟩, fun h hn => ⟨?_, stopMember_stops h _⟩,
    fun h hn => ⟨?_, stopMember_stops h _⟩, fun h hn => ⟨?_, stopMember_stops h _⟩⟩
  · have hop : beginColls m (kop m 0x78 opColl s) = stopMember m St.notCollective s := by
      rw [kop_stop h (opColl_notCollective s hc), beginColls_stopMember h]
    exact congrArg Host.Outcome.next hop
  · exact congrArg Host.Outcome.next (kop_stop h (opBarrier_notCollective s hc))
  · exact congrArg Host.Outcome.next (kop_stop h (opSend_notExternal s hm hx))
  · exact congrArg Host.Outcome.next (kop_stop h (opTstore_readOnly s hro))
  · exact congrArg Host.Outcome.next (kop_stop h (opRed_outside s hn))
  · exact congrArg Host.Outcome.next (kop_stop h (opSort_outside s hn))
  · exact congrArg Host.Outcome.next (kop_stop h (opLoop_negative s hn))
  · exact congrArg Host.Outcome.next (kop_stop h (opParam_beyond s hn))

/-! ### The limits on waiting and on running (R216, R274) -/

/-- A member counts as waiting since an instant if it ended by then, or has stood since then at an op that waits for what has not come
(R216; notes/assumptions/43.md). -/
theorem waitedSince_of {s : State} {g : Graph} {t : Task} {since : Nat} {x : Member} (hfrom : x.waitFrom ≤ since)
    (h : x.ended = true ∨ (stillWaits x = true ∧ (opcodeAt s g t x = some 0x7F ∨ opcodeAt s g t x = some 0x78 ∨
      opcodeAt s g t x = some 0x70 ∨ opcodeAt s g t x = some 0x71 ∨ opcodeAt s g t x = some 0x24))) :
    waitedSince s g t since x = true := by
  rcases h with hended | ⟨hwaits, hop⟩
  · simp only [waitedSince, hfrom, hended, decide_true, Bool.true_or, Bool.and_true]
  · rcases hop with hop | hop | hop | hop | hop <;> simp [waitedSince, hfrom, hwaits, hop]

theorem waitedSince_late {s : State} {g : Graph} {t : Task} {since : Nat} {x : Member} (h : since < x.waitFrom) :
    waitedSince s g t since x = false := by
  simp only [waitedSince, decide_eq_false (Nat.not_le.2 h), Bool.false_and]

theorem kernelHangStep_hung {s : State} {slot task : Nat} {g : Graph} {t : Task} (hg : s.graph? slot = some g)
    (ht : s.task? slot task = some t) (hrun : t.phase = .running) (hleft : ∃ p ∈ t.members, p.2.ended = false)
    (hft : 2 ^ 20 ≤ s.ft)
    (hwait : ∀ p ∈ t.members, waitedSince s g t (s.ft - 2 ^ 20) p.2 = true ∧ waitsOutside task s p.2 = false) :
    kernelHangStep slot task s = endGang slot task St.kernelHang s := by
  have hany : t.members.any (fun p => !p.2.ended) = true := by
    obtain ⟨p, hp, he⟩ := hleft
    exact List.any_eq_true.2 ⟨p, hp, by simp [he]⟩
  have hall : t.members.all (fun p => waitedSince s g t (s.ft - 2 ^ 20) p.2 && !waitsOutside task s p.2) = true :=
    List.all_eq_true.2 fun p hp => by rw [(hwait p hp).1, (hwait p hp).2]; rfl
  simp only [kernelHangStep, hg, ht, hrun, hany, hall, decide_eq_true hft, beq_self_eq_true, Bool.and_self, if_true]

theorem kernelHangStep_early {s : State} {slot task : Nat} (h : s.ft < 2 ^ 20) : kernelHangStep slot task s = s := by
  unfold kernelHangStep
  split
  · simp only [decide_eq_false (Nat.not_le.2 h), Bool.and_false, Bool.false_eq_true, if_false]
  · rfl

/-- A member that waits on another task, or not long enough, keeps its gang. -/
theorem kernelHangStep_kept {s : State} {slot task : Nat} {t : Task} {p : Nat × Member} (ht : s.task? slot task = some t)
    (hp : p ∈ t.members) (h : waitsOutside task s p.2 = true ∨ s.ft < p.2.waitFrom + 2 ^ 20) :
    kernelHangStep slot task s = s := by
  by_cases hft : s.ft < 2 ^ 20
  · exact kernelHangStep_early hft
  unfold kernelHangStep
  split
  · rename_i g t' hg ht'
    obtain rfl : t = t' := Option.some.inj (ht.symm.trans ht')
    have hone : (waitedSince s g t (s.ft - 2 ^ 20) p.2 && !waitsOutside task s p.2) = false := by
      rcases h with hout | hlate
      · simp [hout]
      · have hsince : s.ft - 2 ^ 20 < p.2.waitFrom := by omega
        rw [waitedSince_late hsince, Bool.false_and]
    have hall : t.members.all (fun p => waitedSince s g t (s.ft - 2 ^ 20) p.2 && !waitsOutside task s p.2) = false :=
      List.all_eq_false.2 ⟨p, hp, ne_true_of_eq_false hone⟩
    simp only [hall, Bool.and_false, Bool.false_and, Bool.false_eq_true, if_false]
  · rfl

theorem taskTimeoutStep_due {s : State} {slot task x : Nat} {t : Task} (ht : s.task? slot task = some t)
    (hrun : t.phase = .running) (hx : t.startAt = some x) (hleft : ∃ p ∈ t.members, p.2.ended = false)
    (hlimit : t.info.runLimit ≠ 0) (hdue : x + t.info.runLimit * 2 ^ 12 ≤ s.ft) :
    taskTimeoutStep slot task s = endGang slot task St.taskTimeout s := by
  have hany : t.members.any (fun p => !p.2.ended) = true := by
    obtain ⟨p, hp, he⟩ := hleft
    exact List.any_eq_true.2 ⟨p, hp, by simp [he]⟩
  simp only [taskTimeoutStep, ht, hx, hrun, hany, bne_iff_ne.2 hlimit, decide_eq_true hdue, beq_self_eq_true, Bool.and_self, if_true]

theorem taskTimeoutStep_kept {s : State} {slot task x : Nat} {t : Task} (ht : s.task? slot task = some t)
    (hx : t.startAt = some x) (h : s.ft < x + t.info.runLimit * 2 ^ 12 ∨ ∀ p ∈ t.members, p.2.ended = true) :
    taskTimeoutStep slot task s = s := by
  rcases h with hearly | hended
  · simp only [taskTimeoutStep, ht, hx, decide_eq_false (Nat.not_le.2 hearly), Bool.and_false, Bool.false_eq_true, if_false]
  · have hany : t.members.any (fun p => !p.2.ended) = false := List.any_eq_false.2 fun p hp => by simp [hended p hp]
    simp only [taskTimeoutStep, ht, hx, hany, Bool.and_false, Bool.false_and, Bool.false_eq_true, if_false]

/-- Settles O28: each limit's step is the end of the gang where its condition holds, and nothing where it does not. -/
theorem kernelLimitsEndTheGang : Obligations.KernelLimitsEndTheGang := by
  unfold Obligations.KernelLimitsEndTheGang
  intro ends
  refine ⟨?hung, ?early, ?kept, ?due, ?notDue⟩
  case hung =>
    intro s slot task g t hg ht hrun hleft hft hwait
    refine ⟨congrArg Host.Outcome.next (kernelHangStep_hung hg ht hrun hleft hft fun p hp => ?_), stoppedTask _ t,
      endGang_task? ht _, rfl, rfl, stoppedTask_members _ t⟩
    obtain ⟨hfrom, hwaits, hinside⟩ := hwait p hp
    exact ⟨waitedSince_of (by omega) hwaits, hinside⟩
  case early => exact fun s slot task h => congrArg Host.Outcome.next (kernelHangStep_early h)
  case kept => exact fun s slot task t p ht hp h => congrArg Host.Outcome.next (kernelHangStep_kept ht hp h)
  case due =>
    intro s slot task x t ht hrun hx hleft hlimit hdue
    exact ⟨congrArg Host.Outcome.next (taskTimeoutStep_due ht hrun hx hleft hlimit hdue), stoppedTask _ t, endGang_task? ht _,
      rfl, rfl, stoppedTask_members _ t⟩
  case notDue => exact fun s slot task x t ht hx h => congrArg Host.Outcome.next (taskTimeoutStep_kept ht hx h)

end Sys2Proof.Machine
end

section
/-!
SUPPORT. Statements of chapter 5 on the release of tasks and co-start groups, on a head that starves, on a group that hangs and on
the end of a task (R157, R259, R268 to R273, R278, R283).
-/

namespace Sys2Proof.Machine
open Sys2Proof.Safety

/-! ### Release (R268 to R273, R278) -/

theorem taskReleaseStep_next {s : State} {k slot task : Nat} {g : Graph} {t : Task} {cores : List Nat} (hon : releasesOn s = true)
    (hclock : (s.stack k).clocked = true) (hpace : ∀ x, (s.stack k).lastRelease = some x → x + 125 ≤ s.ft)
    (hnext : nextRelease s k = some (slot, task, g, t)) (halone : t.info.cogroup = 0) (hfit : fitTask s t = some cores)
    (hready : reachesReady s cores = true) :
    taskReleaseStep k s = poolTrigger (startTask slot task cores s) := by
  cases hlast : (s.stack k).lastRelease with
  | none => simp only [taskReleaseStep, hon, hclock, hlast, Bool.and_self, hnext, halone, hfit, hready, if_true]
  | some x =>
    have hpaced := decide_eq_true (hpace x hlast)
    simp only [taskReleaseStep, hon, hclock, hlast, hpaced, Bool.and_self, hnext, halone, hfit, hready, if_true]

theorem fitGroup_placed {s : State} {g : Graph} {n : Nat} {p : List (Nat × List Nat)} (hleft : groupLeft g n ≠ [])
    (hready : ∀ t ∈ groupLeft g n, isReady t.2 = true ∧ (s.stack t.2.stack).clocked = true)
    (hfits : groupUnfit s (groupLeft g n) = false) (hp : placeAll s (groupLeft g n) [] [] = some p) :
    fitGroup s g n = some p := by
  have hall : (groupLeft g n).all (fun t => isReady t.2 && (s.stack t.2.stack).clocked) = true :=
    List.all_eq_true.2 fun t ht => by rw [(hready t ht).1, (hready t ht).2]; rfl
  simp only [fitGroup, hleft, hall, hfits, hp, ne_eq, not_false_eq_true, decide_true, Bool.not_false, Bool.and_self, if_true]

theorem groupNext_of {s : State} {slot n k : Nat} {x : Nat × Nat × Graph × Task} (h : nextRelease s k = some x) (hs : x.1 = slot)
    (hn : x.2.2.2.info.cogroup = n) : groupNext s slot n k = true := by
  simp only [groupNext, h, hs, hn, beq_self_eq_true, Bool.and_self]

theorem cogroupReleaseStep_next {s : State} {slot n : Nat} {g : Graph} {p : List (Nat × List Nat)} (hg : s.graph? slot = some g)
    (hon : releasesOn s = true) (hn : n ≠ 0) (hnext : ∀ t ∈ groupLeft g n, groupNext s slot n t.2.stack = true)
    (hfit : fitGroup s g n = some p) (hready : ∀ x ∈ p, reachesReady s x.2 = true) :
    cogroupReleaseStep slot n s = poolTrigger (p.foldl (fun s x => startTask slot x.1 x.2 s) s) := by
  have hallNext : (groupLeft g n).all (fun t => groupNext s slot n t.2.stack) = true := List.all_eq_true.2 hnext
  have hallReady : p.all (fun x => reachesReady s x.2) = true := List.all_eq_true.2 hready
  simp only [cogroupReleaseStep, hg, hon, hn, ne_eq, not_false_eq_true, decide_true, hallNext, hfit,
    hallReady, Bool.and_self, if_true]

theorem headStarveStep_starves {s : State} {k slot task r : Nat} {g : Graph} {t : Task}
    (hhead : (readyOrder s k).head? = some (slot, task, g, t)) (hr : t.readyAt = some r) (hlate : r + 2 ^ 15 ≤ s.ft)
    (hfit : fitsNow s (slot, task, g, t) = false) (hnone : ∀ y ∈ readyOrder s k, y.2.2.2.starving = false) :
    headStarveStep k s = s.updTask slot task fun t => { t with starving := true } := by
  have hany : (readyOrder s k).any (fun y => y.2.2.2.starving) = false :=
    List.any_eq_false.2 fun y hy => ne_true_of_eq_false (hnone y hy)
  simp only [headStarveStep, hhead, hr, Option.getD_some, decide_eq_true hlate, hfit, hany, Bool.not_false, Bool.and_self, if_true]

/-! ### A group that hangs, a task that has run (R157, R259, R273, R283) -/

theorem cogroupHangStep_hung {s : State} {slot n : Nat} {g : Graph} (hg : s.graph? slot = some g) (hn : n ≠ 0) (hft : 2 ^ 20 ≤ s.ft)
    (hleft : ∃ t ∈ groupLeft g n, runsOn t = true) (hrun : ∀ t ∈ groupLeft g n, t.2.phase = .running)
    (hwait : ∀ t ∈ groupTasks g n, ∀ p ∈ t.2.members, waitedSince s g t.2 (s.ft - 2 ^ 20) p.2 = true) :
    cogroupHangStep slot n s = ((groupLeft g n).filter runsOn).foldl (fun s t => endGang slot t.1 St.kernelHang s) s := by
  have hany : (groupLeft g n).any runsOn = true := List.any_eq_true.2 hleft
  have hne : groupLeft g n ≠ [] := by
    obtain ⟨t, ht, -⟩ := hleft
    exact List.ne_nil_of_mem ht
  have hallRun : (groupLeft g n).all (fun t => t.2.phase == .running) = true :=
    List.all_eq_true.2 fun t ht => beq_iff_eq.2 (hrun t ht)
  have hallWait : (groupTasks g n).all
      (fun t => t.2.members.all fun m => waitedSince s g t.2 (s.ft - 2 ^ 20) m.2) = true :=
    List.all_eq_true.2 fun t ht => List.all_eq_true.2 (hwait t ht)
  simp only [cogroupHangStep, hg, hn, hne, ne_eq, not_false_eq_true, decide_true, decide_eq_true hft, hallRun, hallWait, hany,
    Bool.and_self, if_true]

theorem taskEndStep_finished {s : State} {slot task : Nat} {t : Task} (ht : s.task? slot task = some t) (hrun : t.phase = .running)
    (hended : ∀ p ∈ t.members, p.2.ended = true) (hwrites : taskWritesDone s slot task = true) :
    taskEndStep slot task s = quiesceCheck (settle (endTask slot task St.ok s)) := by
  have hall : t.members.all (fun m => m.2.ended) = true := List.all_eq_true.2 hended
  have hstop : (TaskPhase.running == TaskPhase.stopping) = false := rfl
  simp only [taskEndStep, ht, hrun, hall, hwrites, hstop, beq_self_eq_true, Bool.false_or, Bool.and_self, Bool.false_eq_true, if_true,
    if_false]

/-- Settles O30: each step does its work where the conditions of its rule hold. -/
theorem releaseAndEndOfTasks : Obligations.ReleaseAndEndOfTasks := by
  unfold Obligations.ReleaseAndEndOfTasks
  refine ⟨?task, ?group, ?starve, ?hang, ?done⟩
  case task =>
    exact fun s k slot task g t cores hon hclock hpace hnext halone hfit hready =>
      congrArg Host.Outcome.next (taskReleaseStep_next hon hclock hpace hnext halone hfit hready)
  case group =>
    intro s slot n g p hg hon hn hleft hfits heach hp hready
    have hfit := fitGroup_placed hleft (fun t ht => ⟨(heach t ht).1, (heach t ht).2.1⟩) hfits hp
    refine congrArg Host.Outcome.next (cogroupReleaseStep_next hg hon hn (fun t ht => ?_) hfit hready)
    obtain ⟨-, -, x, hx, hslot, hgroup⟩ := heach t ht
    exact groupNext_of hx hslot hgroup
  case starve =>
    exact fun s k slot task r g t hhead hr hlate hfit hnone =>
      congrArg Host.Outcome.next (headStarveStep_starves hhead hr hlate hfit hnone)
  case hang =>
    exact fun s slot n g hg hn hft hleft hrun hwait =>
      congrArg Host.Outcome.next (cogroupHangStep_hung hg hn hft hleft hrun hwait)
  case done =>
    exact fun s slot task t ht hrun hended hwrites =>
      congrArg Host.Outcome.next (taskEndStep_finished ht hrun hended hwrites)

end Sys2Proof.Machine
end

section
/-!
SUPPORT. Statements of chapters 4 and 13 on the mail that loads and unloads kernels, and on the end of lowering (R224, R225, R254,
R649, R650).
-/

namespace Sys2Proof.Machine
open Sys2Proof.Safety

/-! ### Replies leave the kernels alone -/

@[simp] theorem sendReply_work (src : MailSrc) (handle : Nat) (body : Bytes) (s : State) :
    (sendReply src handle body s).work = s.work := by
  unfold sendReply
  cases src with
  | session i =>
    dsimp only
    split <;> rfl
  | jtag => rfl

theorem endJob_kernels (n st : Nat) (extra : Bytes) (s : State) : (endJob n st extra s).work.kernels = s.work.kernels := by
  unfold endJob
  split
  · rfl
  · rw [sendReply_work]

theorem kernelAt_congr {s t : State} (h : t.work.kernels = s.work.kernels) (handle : Nat) : kernelAt t handle = kernelAt s handle := by
  unfold kernelAt
  rw [h]

/-! ### Handles of kernels (R649) -/

/-- The generation an index takes next; it is never 0 (R649). -/
def nextGen (gen : Nat) : Nat := if (gen + 1) % 2 ^ 20 = 0 then 1 else (gen + 1) % 2 ^ 20

theorem nextGen_ne_zero (gen : Nat) : nextGen gen ≠ 0 := by
  unfold nextGen
  split <;> omega

theorem nextGen_lt (gen : Nat) : nextGen gen < 2 ^ 20 := by
  unfold nextGen
  split <;> omega

/-- A handle finds the kernel that stands at its index with its generation. -/
theorem kernelAt_handle {s : State} {idx : Nat} {k : Kernel} (hidx : idx < 4096) (h : Tab.find? idx s.work.kernels = some k) :
    kernelAt s (kernelHandle idx k.gen) = some k := by
  have hmod : (idx + k.gen * 4096) % 4096 = idx := by omega
  have hdiv : (idx + k.gen * 4096) / 4096 = k.gen := by omega
  simp only [kernelAt, kernelHandle, hmod, hdiv, h, Option.filter_some, beq_self_eq_true, if_true]

/-! ### The commands -/

theorem mailKernelLoad_good {s : State} {src : MailSrc} {corr : Nat} {m : Bytes} {b : Buffer} {k : Kernel}
    (hb : mailBuffer (sourceErrors (leField m 8 4) (leField m 0x10 8) (leField m 0x0C 4) s) (leField m 8 4) (leField m 0x10 8)
      (leField m 0x0C 4) true = .inr b)
    (hk : kernelCheck (sourceErrors (leField m 8 4) (leField m 0x10 8) (leField m 0x0C 4) s)
      (committedRead (sourceErrors (leField m 8 4) (leField m 0x10 8) (leField m 0x0C 4) s) (bufBase b + leField m 0x10 8)
        (leField m 0x0C 4)) = .inr k) :
    mailKernelLoad src corr m s = addJob (.lowering k (loweredUnits k.opWords.length)) src 0x20 corr
      (sourceErrors (leField m 8 4) (leField m 0x10 8) (leField m 0x0C 4) s) := by
  simp only [mailKernelLoad, hb, hk, orRefuse]

/-- The state in which a lowered kernel stands at an index (R649). -/
def withKernel (idx gen : Nat) (k : Kernel) (s : State) : State :=
  { s with work.kernels := Tab.put idx { k with gen := gen } s.work.kernels, work.kgens := Tab.put idx gen s.work.kgens }

theorem loweringDone_placed {s : State} {job idx units : Nat} {j : Job} {k : Kernel} (hj : Tab.find? job s.work.jobs = some j)
    (hkind : j.kind = .lowering k units) (hidx : Tab.freeKey 0 4096 s.work.kernels = some idx) :
    loweringDone job s = endJob job St.ok
      (leBytes 4 (kernelHandle idx (nextGen (Tab.getD 0 idx s.work.kgens))) ++ leBytes 4 0 ++ leBytes 8 k.id)
      (withKernel idx (nextGen (Tab.getD 0 idx s.work.kgens)) k s) := by
  obtain ⟨kind, src, handle, code, corr, since⟩ := j
  subst hkind
  simp only [loweringDone, hj, hidx]
  rfl

theorem mailKernelUnload_free {s : State} {src : MailSrc} {corr : Nat} {m : Bytes} {k : Kernel}
    (hk : kernelAt s (leField m 8 4) = some k)
    (hfree : ∀ g ∈ s.work.graphs, g.2.kernels.contains (leField m 8 4 % 4096) = false) :
    mailKernelUnload src corr m s =
      answer src 0x21 corr St.ok [] { s with work.kernels := Tab.del (leField m 8 4 % 4096) s.work.kernels } := by
  have hany : s.work.graphs.any (fun g => g.2.kernels.contains (leField m 8 4 % 4096)) = false :=
    List.any_eq_false.2 fun g hg => ne_true_of_eq_false (hfree g hg)
  simp only [mailKernelUnload, hk, hany, Bool.false_eq_true, if_false]

/-- Settles O12: the mail step runs the body of each message, and the end of lowering gives the handle that finds the kernel. -/
theorem kernelMail : Obligations.KernelMail := by
  unfold Obligations.KernelMail
  refine ⟨?load, ?lowered, ?unload⟩
  case load =>
    intro src m s b k hacc u hb hk
    refine congrArg Host.Outcome.next ((mailStep_accepted hacc (mailKernelLoad src)).trans ?_)
    rw [mailKernelLoad_good hb hk]
  case lowered =>
    intro s job idx units j k hserving hj hkind hidx
    have hlt : idx < 4096 := by
      obtain ⟨-, -, hlt, -⟩ := Tab.freeKey_some hidx
      omega
    have hstep : exec (.kernelLoweringDone job) s = .next (loweringDone job s) := congrArg Host.Outcome.next (if_pos hserving)
    refine ⟨nextGen (Tab.getD 0 idx s.work.kgens), _, nextGen_ne_zero _, nextGen_lt _, hstep, loweringDone_placed hj hkind hidx, ?_⟩
    rw [loweringDone_placed hj hkind hidx, kernelAt_congr (endJob_kernels ..)]
    exact kernelAt_handle (k := { k with gen := nextGen (Tab.getD 0 idx s.work.kgens) }) hlt (Tab.find?_put ..)
  case unload =>
    intro src m s k hacc hk hfree
    have hwork := dropMail_work src m s
    have hkernels : (dropMail src m s).work.kernels = s.work.kernels := congrArg WorkState.kernels hwork
    have hk' : kernelAt (dropMail src m s) (leField m 8 4) = some k := (kernelAt_congr hkernels _).trans hk
    have hfree' : ∀ g ∈ (dropMail src m s).work.graphs, g.2.kernels.contains (leField m 8 4 % 4096) = false := by
      rw [hwork]; exact hfree
    refine congrArg Host.Outcome.next ((mailStep_accepted hacc (mailKernelUnload src)).trans ?_)
    rw [mailKernelUnload_free hk' hfree', hkernels]

end Sys2Proof.Machine
end

section
/-!
SUPPORT. Statements of chapter 4 on the ops that load and store tiles: what an op whose accesses are allowed works on, and one equation
for each op (R143, R165 to R167, R173, R190 to R192, R197, R198).
-/

namespace Sys2Proof.Machine
open Sys2Proof.Safety

/-! ### Accesses that are allowed (R97, R98, R173) -/

/-- An op whose accesses are clear works on the state whose parity has been looked at. -/
theorem withAccess_clear {s : State} {k : KOp} {l : List Touch} (h : Clear s k l) (work : State → KRes) :
    withAccess k l work s = work (looked s k l) := by
  obtain ⟨hallowed, hfetched⟩ := h
  rw [withAccess, issueAccess_allowed hallowed, withRemote_fetched hfetched]
  rfl

/-- An op that reads a remote buffer and has asked for nothing yet asks for its blocks and waits (R548). -/
theorem withAccess_asks {s : State} {k : KOp} {l : List Touch} (h : Allowed s k l)
    (hblocks : remoteBlocks (deviceErrors k l s) l ≠ []) (hnone : opReads (deviceErrors k l s) k.ref 0 = [])
    (work : State → KRes) :
    withAccess k l work s =
      .wait .read (coreReads k.mem.core (.op k.ref 0) (remoteBlocks (deviceErrors k l s) l) (deviceErrors k l s)) := by
  rw [withAccess, issueAccess_allowed h, withRemote, if_neg hblocks]
  exact if_pos hnone

/-! ### Loads (R165, R166, R190) -/

/-- What an op that loads rows of a view into a tile comes to: the tile, its flags, and its reads forgotten. -/
def loadResult (k : KOp) (v : View) (rows cols : List (Nat × Nat)) (w : State) : KRes :=
  .next (fun x => addFlags (loadTile (loadReader k v w) v k.flush rows cols).2
    (setTile k.opa (loadTile (loadReader k v w) v k.flush rows cols).1 x)) (dropOpReads k.ref 0 w)

theorem opTload_eq {k : KOp} {rows cols : List (Nat × Nat)} (s : State) (hw : windowOf k (k.view k.opb) k.e1 = (rows, cols)) :
    opTload k s = withAccess k (loadTouch (k.view k.opb) rows cols) (loadResult k (k.view k.opb) rows cols) s := by
  simp only [opTload, hw]
  rfl

theorem opGather_eq {k : KOp} (s : State)
    (h : gatherStop (k.tile (k.e1 % 256)) (k.index (k.e1 / 256 % 256)) (k.view k.opb) = none) :
    opGather k s = withAccess k (loadTouch (k.view k.opb) (namedRows k (k.view k.opb)) (windowAxis 0 ((k.view k.opb).extAt 0)))
      (loadResult k (k.view k.opb) (namedRows k (k.view k.opb)) (windowAxis 0 ((k.view k.opb).extAt 0))) s := by
  simp only [opGather, h]
  rfl

theorem kop_loads {s : State} {m : MRef} {opc : Nat} {k : KOp} (h : StandsAt s m opc k) {body : KOp → State → KRes} {v : View}
    {rows cols : List (Nat × Nat)} (hc : Clear s k (loadTouch v rows cols))
    (hb : body k s = withAccess k (loadTouch v rows cols) (loadResult k v rows cols) s) :
    kop m opc body s = loaded s k v rows cols := by
  obtain rfl := currentOp_ref h.1
  exact kop_next h (hb.trans (withAccess_clear hc _))

/-! ### Stores (R167, R168, R191, R197) -/

/-- What an op that stores rows of a tile into a view comes to: the bytes written under the member's access, and its flags. -/
def storeResult (k : KOp) (v : View) (t : Tile) (rule : StoreRule) (rows cols : List (Nat × Nat)) (w : State) : KRes :=
  let u := viewReader k v w
  let acc := rows.foldl (fun acc r => storeRow u.1 v t rule r.1 r.2 cols acc) {}
  .next (fun x => countStoch v.fmt (addFlags acc.flags x)) (writeSpace k.access v.space (.task k.ref.slot k.ref.task) acc.cells u.2)

theorem storeTile_eq (k : KOp) (v : View) (t : Tile) (rule : StoreRule) (rows cols : List (Nat × Nat)) (s : State) :
    storeTile k v t rule rows cols s = withAccess k (storeTouch v rows cols) (storeResult k v t rule rows cols) s := rfl

theorem kop_stores {s : State} {m : MRef} {opc : Nat} {k : KOp} (h : StandsAt s m opc k) {body : KOp → State → KRes} {v : View}
    {t : Tile} {rule : StoreRule} {rows cols : List (Nat × Nat)} (hc : Clear s k (storeTouch v rows cols))
    (hb : body k s = storeTile k v t rule rows cols s) : kop m opc body s = stored s k v t rule rows cols := by
  obtain rfl := currentOp_ref h.1
  exact kop_next h ((hb.trans (storeTile_eq ..)).trans (withAccess_clear hc _))

theorem opTstore_eq {k : KOp} {rows cols : List (Nat × Nat)} (s : State) (hro : k.viewReadOnly k.opb = false)
    (hw : windowOf k (k.view k.opb) k.e1 = (rows, cols)) :
    opTstore k s = storeTile k (k.view k.opb) (k.tile k.opa) (storeRule k false 0x3F800000) rows cols s := by
  simp only [opTstore, hro, hw, Bool.false_eq_true, if_false]

theorem opScatter_eq {k : KOp} (s : State) (hro : k.viewReadOnly k.opa = false)
    (h : gatherStop (k.tile (k.e1 % 256)) (k.index (k.e1 / 256 % 256)) (k.view k.opa) = none) :
    opScatter k s = storeTile k (k.view k.opa) (k.tile k.opb) (storeRule k false 0x3F800000) (namedRows k (k.view k.opa))
      (windowAxis 0 ((k.view k.opa).extAt 0)) s := by
  simp only [opScatter, hro, h, Bool.false_eq_true, if_false]
  rfl

theorem opCvt_eq {k : KOp} {rows cols : List (Nat × Nat)} (s : State) (hro : k.viewReadOnly k.opb = false)
    (hrule : ruleOk (k.view k.opb).fmt (k.e2 % 4) = true) (hw : windowOf k (k.view k.opb) k.e1 = (rows, cols)) :
    opCvt k s = storeTile k (k.view k.opb) (k.tile k.opa) (storeRule k (k.e2 % 4 == 2) (cvtMult k (k.e2 / 256 % 256))) rows cols s := by
  simp only [opCvt, hro, hrule, hw, Bool.not_true, Bool.false_eq_true, if_false]

/-- Settles O22: loads and stores are each one shared form, read at the window or the rows that the op names. -/
theorem kernelLoadsAndStores : Obligations.KernelLoadsAndStores := by
  unfold Obligations.KernelLoadsAndStores
  intro s m k
  refine ⟨fun rows cols h hw => ⟨fun hc => ?load, ?asks⟩, ?store, ?fill, ?gather, ?scatter, ?cvt⟩
  case load => exact congrArg Host.Outcome.next (kop_loads h hc (opTload_eq s hw))
  case asks =>
    intro u blocks ha hblocks hnone
    obtain rfl := currentOp_ref h.1
    exact congrArg Host.Outcome.next (kop_wait h ((opTload_eq s hw).trans (withAccess_asks ha hblocks hnone _)))
  case store => exact fun rows cols h hro hw hc => congrArg Host.Outcome.next (kop_stores h hc (opTstore_eq s hro hw))
  case fill => exact fun h => congrArg Host.Outcome.next (kop_next h rfl)
  case gather => exact fun h hg hc => congrArg Host.Outcome.next (kop_loads h hc (opGather_eq s hg))
  case scatter => exact fun h hro hg hc => congrArg Host.Outcome.next (kop_stores h hc (opScatter_eq s hro hg))
  case cvt =>
    exact fun rows cols h hro hrule hw hc => congrArg Host.Outcome.next (kop_stores h hc (opCvt_eq s hro hrule hw))

end Sys2Proof.Machine
end

section
/-!
SUPPORT. Statements of chapter 4 on the ops that compute tiles: what stands at each place of a tile made by rows and columns, the
matrix engine, the element-wise ops, reductions, transposition and sorting (R134, R175 to R188, R194, R195).
-/

namespace Sys2Proof.Machine
open Sys2Proof.Safety

/-! ### Elements of a tile (R134) -/

/-- A table that lists a function's values but its zeros reads as the function where the function was listed, and as 0 elsewhere. -/
theorem getD_nonzero (h : Nat → BitVec 32) (e : Nat) (l : List Nat) :
    Tab.getD 0 e (l.filterMap fun k => if h k = 0 then none else some (k, h k)) = if e ∈ l then h e else 0 := by
  induction l with
  | nil => rfl
  | cons x l ih =>
    by_cases hx : h x = 0
    · have hskip : (if e ∈ x :: l then h e else 0) = if e ∈ l then h e else 0 := by
        by_cases hex : e = x
        · subst hex; simp [hx]
        · simp [hex]
      simp only [List.filterMap_cons, hx, if_true, ih, hskip]
    · simp only [List.filterMap_cons, if_neg hx]
      by_cases hex : e = x
      · subst hex; simp [Tab.getD, Tab.find?]
      · have hne : x ≠ e := fun h => hex h.symm
        simpa [Tab.getD, Tab.find?, hne, hex] using ih

theorem tileOf_isInt (isInt : Bool) (f : Nat → Nat → BitVec 32) : (tileOf isInt f).isInt = isInt := rfl

theorem tileOf_at (isInt : Bool) (f : Nat → Nat → BitVec 32) {i j : Nat} (hi : i < 32) (hj : j < 32) :
    (tileOf isInt f).at i j = f i j := by
  have hrow : (i * 32 + j) / 32 = i := by omega
  have hcol : (i * 32 + j) % 32 = j := by omega
  have hin : i * 32 + j ∈ List.range 1024 := List.mem_range.2 (by omega)
  have hread := getD_nonzero (fun k => f (k / 32) (k % 32)) (i * 32 + j) (List.range 1024)
  rw [if_pos hin] at hread
  rw [hrow, hcol] at hread
  rw [Tile.at, tileOf, ← hread]

theorem getD_map_range {α : Type} (f : Nat → α) (d : α) {n e : Nat} (h : e < n) : ((List.range n).map f).getD e d = f e := by
  simp [List.getD_eq_getElem?_getD, h]

theorem mapTile_isInt (isInt : Bool) (f : Nat → Nat → Nat × Nat) : (mapTile isInt f).1.isInt = isInt := by
  simp only [mapTile, tileOf_isInt]

theorem mapTile_at (isInt : Bool) (f : Nat → Nat → Nat × Nat) {i j : Nat} (hi : i < 32) (hj : j < 32) :
    (mapTile isInt f).1.at i j = BitVec.ofNat 32 (f i j).1 := by
  have hrow : (i * 32 + j) / 32 = i := by omega
  have hcol : (i * 32 + j) % 32 = j := by omega
  rw [mapTile, tileOf_at isInt _ hi hj, getD_map_range _ _ (by omega), hrow, hcol]

/-! ### TRANS (R188) -/

/-- The governor's count of an op touches the stacks alone (R479). -/
theorem noteIssue_eq (k : KOp) (s : State) : ∃ dies, noteIssue k s = { s with stk.dies := dies } := by
  unfold noteIssue
  dsimp only
  split
  · exact ⟨s.stk.dies, rfl⟩
  · exact ⟨_, rfl⟩

/-- What TRANS makes of its source. -/
def transposed (a : Tile) : Tile := tileOf a.isInt fun r c => a.at c r

theorem transposed_at (a : Tile) {i j : Nat} (hi : i < 32) (hj : j < 32) : (transposed a).at i j = a.at j i := tileOf_at _ _ hi hj

theorem execKTrans_eq {s : State} {m : MRef} {k : KOp} (h : StandsAt s m 0x58 k) :
    exec (.kTrans m) s = .next ((noteIssue k s).updMember m (advanced k (setTile k.opa (transposed (k.tile k.opb))))) :=
  congrArg Host.Outcome.next (kop_next h rfl)

/-- Settles O24: the member's destination slot holds the transposed tile, and only the member and the governor's count change. -/
theorem transposeExchangesRowsAndColumns : Obligations.TransposeExchangesRowsAndColumns := by
  unfold Obligations.TransposeExchangesRowsAndColumns
  intro s m k h
  obtain ⟨hmem, -, -⟩ := currentOp_member h.1
  obtain ⟨dies, hnote⟩ := noteIssue_eq k s
  have hexec := execKTrans_eq h
  rw [hnote] at hexec
  refine ⟨_, advanced k (setTile k.opa (transposed (k.tile k.opb))) k.mem, hexec, ?_, rfl, rfl, rfl, fun i j hi hj => ?_,
    fun b hb => ?_, rfl, rfl, rfl, rfl, rfl⟩
  · rw [State.updMember_member?]
    exact congrArg (Option.map _) hmem
  · rw [← transposed_at _ hi hj]
    exact congrArg (fun t => Tile.at t i j) (Tab.getD_put ..)
  · exact Tab.find?_put_ne _ _ _ _ hb

/-! ### Element-wise ops (R179 to R183) -/

/-- An op that makes a tile of its operands leaves it, with its flags, at the member. -/
theorem kop_tileResult {s : State} {m : MRef} {opc : Nat} {k : KOp} (h : StandsAt s m opc k) {body : KOp → State → KRes}
    {r : Tile × Nat} (hb : body k s = tileResult k r s) :
    kop m opc body s = (noteIssue k s).updMember m (advanced k fun x => addFlags r.2 (setTile k.opa r.1 x)) := kop_next h hb

theorem opEbin_eq {k : KOp} (s : State) (h : (elemOperand k (k.e1 % 256) (k.tile k.opb).isInt).isInt = (k.tile k.opb).isInt) :
    opEbin k s = tileResult k (mapTile (k.tile k.opb).isInt fun i j =>
      if (k.tile k.opb).isInt then
        (ebinI32 (k.mod % 8) ((k.tile k.opb).at i j).toNat
          ((elemOperand k (k.e1 % 256) (k.tile k.opb).isInt).at i j).toNat, 0)
      else ebinF32 (k.mod % 8) k.flush ((k.tile k.opb).at i j).toNat
        ((elemOperand k (k.e1 % 256) (k.tile k.opb).isInt).at i j).toNat) s := by
  simp only [opEbin, h, bne_self_eq_false, Bool.false_eq_true, if_false]

theorem opEfma_eq {k : KOp} (s : State) (ha : (k.tile k.opb).isInt = false) (hb : (elemOperand k (k.e1 % 256) false).isInt = false)
    (hd : (elemOperand k (k.e1 / 256 % 256) false).isInt = false) :
    opEfma k s = tileResult k (mapTile false fun i j => efmaF32 k.flush ((k.tile k.opb).at i j).toNat
      ((elemOperand k (k.e1 % 256) false).at i j).toNat ((elemOperand k (k.e1 / 256 % 256) false).at i j).toNat) s := by
  simp only [opEfma, ha, hb, hd, Bool.or_self, Bool.false_eq_true, if_false]

/-- EUN's function suits the type of its operand (R180, R181). -/
def eunSuits (fn : Nat) (isInt : Bool) : Prop :=
  fn < 2 ∨ (fn ≠ 9 ∧ isInt = false ∧ fn ≠ 10) ∨ (fn = 9 ∧ isInt = true) ∨ (fn = 10 ∧ isInt = false)

theorem opEun_eq {k : KOp} (s : State) (h : eunSuits (k.mod % 16) (k.tile k.opb).isInt) :
    opEun k s = tileResult k (mapTile (if k.mod % 16 < 2 then (k.tile k.opb).isInt else k.mod % 16 == 10) fun i j =>
      eunElem (k.mod % 16) k.flush (k.tile k.opb).isInt ((k.tile k.opb).at i j)) s := by
  have hgo : ¬((2 ≤ k.mod % 16 ∧ k.mod % 16 ≤ 8 ∧ (k.tile k.opb).isInt = true) ∨
      (k.mod % 16 = 9 ∧ (!(k.tile k.opb).isInt) = true) ∨ (k.mod % 16 = 10 ∧ (k.tile k.opb).isInt = true)) := by
    rintro (⟨hlo, hhi, hint⟩ | ⟨hfn, hint⟩ | ⟨hfn, hint⟩)
    · simp only [eunSuits, hint, reduceCtorEq, false_and, and_false, and_true, or_false, false_or] at h
      omega
    · rw [Bool.not_eq_true'] at hint
      simp [eunSuits, hfn, hint] at h
    · simp [eunSuits, hfn, hint] at h
  simp only [opEun, if_neg hgo]

theorem opCmp_eq {k : KOp} (s : State) (h : (elemOperand k (k.e1 % 256) (k.tile k.opb).isInt).isInt = (k.tile k.opb).isInt) :
    opCmp k s = tileResult k (mapTile (k.tile k.opb).isInt fun i j =>
      (if (cmpElem (k.mod % 8) k.flush (k.tile k.opb).isInt ((k.tile k.opb).at i j)
          ((elemOperand k (k.e1 % 256) (k.tile k.opb).isInt).at i j)).1 then (if (k.tile k.opb).isInt then 1 else 0x3F800000) else 0,
       (cmpElem (k.mod % 8) k.flush (k.tile k.opb).isInt ((k.tile k.opb).at i j)
          ((elemOperand k (k.e1 % 256) (k.tile k.opb).isInt).at i j)).2)) s := by
  simp only [opCmp, h, bne_self_eq_false, Bool.false_eq_true, if_false]

/-- One element of SEL and its flags: of the two inputs the one that the mask names (R183). -/
def selElem (k : KOp) (i j : Nat) : Nat × Nat :=
  let mask := maskHolds (k.tile k.opb) k.flush i j
  let x := selInput (k.tile (k.e1 % 256)) k.flush i j
  let y := selInput (k.tile (k.e1 / 256 % 256)) k.flush i j
  (if mask.1 then x.1 else y.1, mask.2 ||| x.2 ||| y.2)

theorem opSel_eq {k : KOp} (s : State) (h : (k.tile (k.e1 % 256)).isInt = (k.tile (k.e1 / 256 % 256)).isInt) :
    opSel k s = tileResult k (mapTile (k.tile (k.e1 % 256)).isInt (selElem k)) s := by
  simp only [opSel, h, bne_self_eq_false, Bool.false_eq_true, if_false]
  rfl

/-! ### The matrix engine (R175 to R178) -/

/-- One element of MMA's result and its flags, by its number: the sum where both operands have its row, else the accumulator's. -/
def mmaOut (k : KOp) (acc : Tile) (rd : Nat → Byte) (ctr e : Nat) : BitVec 32 × Nat :=
  let a := k.view k.opb
  let b := k.view (k.e1 % 256)
  match ((List.range (a.extAt 1)).map (mmaRow rd a k.flush))[e / 32]?, ((List.range (b.extAt 1)).map (mmaRow rd b k.flush))[e % 32]? with
  | some x, some y => mmaElem k a.fmt b.fmt (acc.at (e / 32) (e % 32)) x y (ctr + e)
  | _, _ => (acc.at (e / 32) (e % 32), 0)

theorem mmaOut_inside {k : KOp} (acc : Tile) (rd : Nat → Byte) (ctr : Nat) {e : Nat} (hi : e / 32 < (k.view k.opb).extAt 1)
    (hj : e % 32 < (k.view (k.e1 % 256)).extAt 1) :
    mmaOut k acc rd ctr e = mmaElem k (k.view k.opb).fmt (k.view (k.e1 % 256)).fmt (acc.at (e / 32) (e % 32))
      (mmaRow rd (k.view k.opb) k.flush (e / 32)) (mmaRow rd (k.view (k.e1 % 256)) k.flush (e % 32)) (ctr + e) := by
  simp only [mmaOut, List.getElem?_map, List.getElem?_range hi, List.getElem?_range hj, Option.map_some]

/-- MMA's result tile. -/
def mmaTile (k : KOp) (acc : Tile) (rd : Nat → Byte) (ctr : Nat) : Tile :=
  tileOf (pairInt (k.view k.opb).fmt (k.view (k.e1 % 256)).fmt) fun r c =>
    (((List.range 1024).map (mmaOut k acc rd ctr)).getD (r * 32 + c) (0, 0)).1

theorem mmaTile_at {k : KOp} (acc : Tile) (rd : Nat → Byte) (ctr : Nat) {i j : Nat} (hi : i < (k.view k.opb).extAt 1) (hi32 : i < 32)
    (hj : j < (k.view (k.e1 % 256)).extAt 1) (hj32 : j < 32) :
    (mmaTile k acc rd ctr).at i j = (mmaElem k (k.view k.opb).fmt (k.view (k.e1 % 256)).fmt (acc.at i j)
      (mmaRow rd (k.view k.opb) k.flush i) (mmaRow rd (k.view (k.e1 % 256)) k.flush j) (ctr + (i * 32 + j))).1 := by
  have hrow : (i * 32 + j) / 32 = i := by omega
  have hcol : (i * 32 + j) % 32 = j := by omega
  rw [mmaTile, tileOf_at _ _ hi32 hj32, getD_map_range _ _ (by omega),
    mmaOut_inside acc rd ctr (hrow.symm ▸ hi) (hcol.symm ▸ hj), hrow, hcol]

/-- Views that MMA accepts have at most 32 rows. -/
theorem mmaStop_rows {a b : View} (h : mmaStop a b = none) : a.extAt 1 ≤ 32 ∧ b.extAt 1 ≤ 32 := by
  unfold mmaStop at h
  split at h
  · cases h
  split at h
  · cases h
  split at h
  · cases h
  · rename_i hsize
    omega

/-- MMA works on the core's operand buffers and draws its free choices of order (R88, R175). -/
def mmaState (k : KOp) (w : State) : State :=
  let rd := spaceByte w k.access (k.view k.opb) 0
  let u := w.updCore k.mem.core fun c =>
    { c with operandA := fillBuffers rd (k.view k.opb) c.operandA, operandB := fillBuffers rd (k.view (k.e1 % 256)) c.operandB }
  { u with freeCtr := w.freeCtr + 1024 }

theorem opMma_eq {s : State} {k : KOp} {acc : Tile} {l : List Touch} (hstop : mmaStop (k.view k.opb) (k.view (k.e1 % 256)) = none)
    (hacc : acc = (if k.mod % 2 = 1 then { isInt := pairInt (k.view k.opb).fmt (k.view (k.e1 % 256)).fmt } else k.tile k.opa))
    (htype : k.mod % 2 = 1 ∨ (k.tile k.opa).isInt = pairInt (k.view k.opb).fmt (k.view (k.e1 % 256)).fmt)
    (hl : l = [{ view := k.view k.opb, runs := (k.view k.opb).runs, write := false },
      { view := k.view (k.e1 % 256), runs := (k.view (k.e1 % 256)).runs, write := false }]) (hc : Clear s k l) :
    ∃ fl, opMma k s = .next (fun x => addFlags fl (setTile k.opa (mmaTile k acc
      (spaceByte (looked s k l) k.access (k.view k.opb) 0) (looked s k l).freeCtr) x)) (mmaState k (looked s k l)) := by
  subst hl hacc
  have hgo : (!decide (k.mod % 2 = 1) && (k.tile k.opa).isInt != pairInt (k.view k.opb).fmt (k.view (k.e1 % 256)).fmt) = false := by
    rcases htype with hpast | hsame
    · simp [hpast]
    · simp [hsame]
  simp only [opMma, hstop, hgo, Bool.false_eq_true, if_false, withAccess_clear hc]
  exact ⟨_, rfl⟩

/-! ### Reductions (R184 to R187) -/

/-- The elements that RED's result `i` takes: the first `n` of a row, or of a column. -/
def redLine (k : KOp) (n i : Nat) : List (BitVec 32) :=
  (List.range n).map fun j => if k.mod / 4 % 2 = 1 then (k.tile k.opb).at j i else (k.tile k.opb).at i j

/-- RED's results, from a counter of free choices on. -/
def redOut (k : KOp) (n ctr i : Nat) : Nat × Nat :=
  redElem (k.mod % 4) k.flush (k.tile k.opb).isInt (redLine k n i) (Config.free (ctr + i))

/-- RED's result tile: its first column, or its first row. -/
def redTile (k : KOp) (n ctr : Nat) : Tile :=
  tileOf ((k.tile k.opb).isInt || k.mod % 4 == 3) fun r c =>
    if k.mod / 4 % 2 = 1 then (if r = 0 then BitVec.ofNat 32 (((List.range 32).map (redOut k n ctr)).getD c (0, 0)).1 else 0)
    else (if c = 0 then BitVec.ofNat 32 (((List.range 32).map (redOut k n ctr)).getD r (0, 0)).1 else 0)

theorem redTile_row {k : KOp} (n ctr : Nat) {i j : Nat} (hi : i < 32) (hj : j < 32) (h : k.mod / 4 % 2 = 0) :
    (redTile k n ctr).at i j = if j = 0 then BitVec.ofNat 32 (redElem (k.mod % 4) k.flush (k.tile k.opb).isInt
      ((List.range n).map fun c => (k.tile k.opb).at i c) (Config.free (ctr + i))).1 else 0 := by
  have hrow : ¬ k.mod / 4 % 2 = 1 := by omega
  rw [redTile, tileOf_at _ _ hi hj, if_neg hrow, getD_map_range _ _ hi]
  simp only [redOut, redLine, if_neg hrow]

theorem redTile_column {k : KOp} (n ctr : Nat) {i j : Nat} (hi : i < 32) (hj : j < 32) (h : k.mod / 4 % 2 = 1) :
    (redTile k n ctr).at i j = if i = 0 then BitVec.ofNat 32 (redElem (k.mod % 4) k.flush (k.tile k.opb).isInt
      ((List.range n).map fun r => (k.tile k.opb).at r j) (Config.free (ctr + j))).1 else 0 := by
  rw [redTile, tileOf_at _ _ hi hj, if_pos h, getD_map_range _ _ hj]
  simp only [redOut, redLine, if_pos h]

theorem opRed_eq {k : KOp} {n : Nat} (s : State) (hn : k.index (k.e1 % 256) = n) (hle : n ≤ 32) :
    ∃ fl, opRed k s = .next (fun x => addFlags fl (setTile k.opa (redTile k n s.freeCtr) x)) { s with freeCtr := s.freeCtr + 32 } := by
  have hgo : ¬((n : Int) < 0 ∨ 32 < (n : Int)) := by omega
  simp only [opRed, hn, if_neg hgo, Int.toNat_natCast]
  exact ⟨_, rfl⟩

/-! ### Sorting (R194 to R196) -/

theorem mem_of_mem_sortInsert {desc : Bool} {x p : Fv × Nat} {l : List (Fv × Nat)} (h : p ∈ sortInsert desc x l) : p = x ∨ p ∈ l := by
  induction l with
  | nil => exact .inl (List.mem_singleton.1 h)
  | cons y t ih =>
    unfold sortInsert at h
    split at h
    · rcases List.mem_cons.1 h with rfl | h
      · exact .inr List.mem_cons_self
      · exact (ih h).imp_right (List.mem_cons_of_mem _)
    · exact List.mem_cons.1 h

theorem mem_of_mem_sorted {desc : Bool} {p : Fv × Nat} {l : List (Fv × Nat)} (h : p ∈ l.foldr (sortInsert desc) []) : p ∈ l := by
  induction l with
  | nil => exact h
  | cons x t ih =>
    rcases mem_of_mem_sortInsert h with rfl | h
    · exact List.mem_cons_self
    · exact List.mem_cons_of_mem _ (ih h)

/-- SORT's order names places of the row alone. -/
theorem lt_of_mem_sortOrder {desc : Bool} {l : List Fv} {i : Nat} (h : i ∈ sortOrder desc l) : i < l.length := by
  obtain ⟨p, hp, rfl⟩ := List.mem_map.1 h
  simpa using List.snd_lt_of_mem_zipIdx (mem_of_mem_sorted hp)

/-- The values SORT compares, with their flags, row by row. -/
def sortRows (k : KOp) (n : Nat) : List (List (Fv × Nat)) :=
  (List.range 32).map fun r => (List.range n).map fun c => tileValue (k.tile k.opb) k.flush r c

/-- The column that SORT's place takes its element from. -/
def sortSrc (k : KOp) (n r c : Nat) : Nat :=
  if c < n then (((sortRows k n).map fun row => sortOrder (decide (k.mod % 2 = 1)) (row.map Prod.fst)).getD r []).getD c c else c

theorem sortSrc_beyond {k : KOp} {n c : Nat} (r : Nat) (h : n ≤ c) : sortSrc k n r c = c := if_neg (Nat.not_lt.2 h)

theorem sortSrc_sorted {k : KOp} {n r c : Nat} (hr : r < 32) (h : c < n) :
    sortSrc k n r c = (sortOrder (decide (k.mod % 2 = 1))
      ((List.range n).map fun c => (tileValue (k.tile k.opb) k.flush r c).1)).getD c c := by
  rw [sortSrc, if_pos h, sortRows, List.map_map, getD_map_range _ _ hr]
  simp only [Function.comp_apply, List.map_map]
  rfl

theorem sortSrc_lt {k : KOp} {n r c : Nat} (hr : r < 32) (hc : c < 32) (hn : n ≤ 32) : sortSrc k n r c < 32 := by
  by_cases h : c < n
  · rw [sortSrc_sorted hr h, List.getD_eq_getElem?_getD]
    cases hget : (sortOrder (decide (k.mod % 2 = 1)) ((List.range n).map fun c => (tileValue (k.tile k.opb) k.flush r c).1))[c]? with
    | none => exact hc
    | some i =>
      have hi := lt_of_mem_sortOrder (List.mem_of_getElem? hget)
      rw [List.length_map, List.length_range] at hi
      exact Nat.lt_of_lt_of_le hi hn
  · rw [sortSrc_beyond r (Nat.not_lt.1 h)]; exact hc

/-- SORT's destination: the elements in their order, those moved taken as inputs. -/
def sortTile (k : KOp) (n : Nat) : Tile :=
  tileOf (k.tile k.opb).isInt fun r c =>
    if (k.tile k.opb).isInt || n ≤ c then (k.tile k.opb).at r (sortSrc k n r c)
    else BitVec.ofNat 32 (flushIn k.flush fmtF32 ((k.tile k.opb).at r (sortSrc k n r c)).toNat).1

/-- SORT's index output. -/
def sortIndex (k : KOp) (n : Nat) : Tile := tileOf true fun r c => BitVec.ofNat 32 (sortSrc k n r c)

theorem sortIndex_at {k : KOp} (n : Nat) {i j : Nat} (hi : i < 32) (hj : j < 32) :
    (sortIndex k n).at i j = BitVec.ofNat 32 (sortSrc k n i j) := tileOf_at _ _ hi hj

theorem sortIndex_toNat {k : KOp} {n i j : Nat} (hi : i < 32) (hj : j < 32) (hn : n ≤ 32) :
    ((sortIndex k n).at i j).toNat = sortSrc k n i j := by
  have hlt : sortSrc k n i j < 32 := sortSrc_lt hi hj hn
  rw [sortIndex_at n hi hj, BitVec.toNat_ofNat, Nat.mod_eq_of_lt (by omega)]

theorem sortTile_beyond {k : KOp} {n i j : Nat} (hi : i < 32) (hj : j < 32) (h : n ≤ j) :
    (sortTile k n).at i j = (k.tile k.opb).at i j := by
  rw [sortTile, tileOf_at _ _ hi hj, sortSrc_beyond i h]
  simp [h]

theorem sortTile_int {k : KOp} {n i j : Nat} (hi : i < 32) (hj : j < 32) (h : (k.tile k.opb).isInt = true) :
    (sortTile k n).at i j = (k.tile k.opb).at i (sortSrc k n i j) := by
  rw [sortTile, tileOf_at _ _ hi hj]
  simp [h]

theorem sortTile_float {k : KOp} {n i j : Nat} (hi : i < 32) (hj : j < 32) (hn : j < n) (h : (k.tile k.opb).isInt = false) :
    (sortTile k n).at i j =
      BitVec.ofNat 32 (flushIn k.flush fmtF32 ((k.tile k.opb).at i (sortSrc k n i j)).toNat).1 := by
  rw [sortTile, tileOf_at _ _ hi hj]
  simp [h, Nat.not_le.2 hn]

theorem opSort_eq {k : KOp} {n : Nat} (s : State) (hn : k.index (k.e1 / 256 % 256) = n) (hle : n ≤ 32) :
    ∃ fl, opSort k s = .next (fun x =>
      if isTileArg (k.e1 % 256) then setTile (k.e1 % 256) (sortIndex k n) (addFlags fl (setTile k.opa (sortTile k n) x))
      else addFlags fl (setTile k.opa (sortTile k n) x)) s := by
  have hgo : ¬((n : Int) < 0 ∨ 32 < (n : Int)) := by omega
  simp only [opSort, hn, if_neg hgo, Int.toNat_natCast]
  exact ⟨_, rfl⟩

/-- Settles O23: each op's equation gives the tile it leaves at the member, and the lemmas on elements say what stands in it. -/
theorem kernelTileOps : Obligations.KernelTileOps := by
  unfold Obligations.KernelTileOps
  intro s m k
  refine ⟨?mma, ?accmov, ?ebin, ?efma, ?eun, ?cmp, ?sel, ?red, ?trans, ?sort⟩
  case mma =>
    intro acc h hstop hacc htype l hc w u
    obtain ⟨fl, hop⟩ := opMma_eq hstop hacc htype rfl hc
    obtain ⟨hrowsA, hrowsB⟩ := mmaStop_rows hstop
    refine ⟨_, fl, congrArg Host.Outcome.next (kop_next h hop), tileOf_isInt _ _, fun i j hi hj => ?_⟩
    exact mmaTile_at acc _ _ hi (by omega) hj (by omega)
  case accmov => exact fun h => congrArg Host.Outcome.next (kop_next h rfl)
  case ebin => exact fun h ht => congrArg Host.Outcome.next (kop_tileResult h (opEbin_eq s ht))
  case efma => exact fun h ha hb hd => congrArg Host.Outcome.next (kop_tileResult h (opEfma_eq s ha hb hd))
  case eun => exact fun h ht => congrArg Host.Outcome.next (kop_tileResult h (opEun_eq s ht))
  case cmp => exact fun h ht => congrArg Host.Outcome.next (kop_tileResult h (opCmp_eq s ht))
  case sel =>
    intro h ht
    exact ⟨_, congrArg Host.Outcome.next (kop_tileResult h (opSel_eq s ht)), mapTile_isInt _ _, fun i j hi hj => mapTile_at _ _ hi hj⟩
  case red =>
    intro n h hn hle
    obtain ⟨fl, hop⟩ := opRed_eq s hn hle
    exact ⟨_, fl, congrArg Host.Outcome.next (kop_next h hop), tileOf_isInt _ _,
      fun i j hi hj => ⟨redTile_row n s.freeCtr hi hj, redTile_column n s.freeCtr hi hj⟩⟩
  case trans => exact fun h => ⟨_, execKTrans_eq h, tileOf_isInt _ _, fun i j hi hj => transposed_at _ hi hj⟩
  case sort =>
    intro n h hn hle
    obtain ⟨fl, hop⟩ := opSort_eq s hn hle
    refine ⟨sortTile k n, sortIndex k n, fl, congrArg Host.Outcome.next (kop_next h hop), tileOf_isInt _ _, tileOf_isInt _ _, fun i j hi hj =>
      ⟨fun hbeyond => ⟨sortTile_beyond hi hj hbeyond, ?_⟩, fun hin => ⟨?_, fun hint => ?_, fun hfloat => ?_⟩⟩⟩
    · rw [sortIndex_at n hi hj, sortSrc_beyond i hbeyond]
    · rw [sortIndex_at n hi hj, sortSrc_sorted hi hin]
    · rw [sortIndex_toNat hi hj hle, sortTile_int hi hj hint]
    · rw [sortIndex_toNat hi hj hle, sortTile_float hi hj hin hfloat]

end Sys2Proof.Machine
end

section
/-!
SUPPORT. Statements of chapter 4 on collectives and barriers: how a COLL becomes outstanding, when it begins, when it is over, and how
the members at a barrier go on together (R207 to R215).
-/

namespace Sys2Proof.Machine
open Sys2Proof.Safety

/-! ### Issuing a COLL (R208 to R212) -/

/-- What a COLL that is issued comes to: noted in the member's sequence and outstanding, or, in a gang of one, done at once. -/
def collIssued (k : KOp) (p q : View) (w : State) : KRes :=
  let sig := collSig (k.mod % 8) (k.e1 / 16 % 4) (k.index k.opb) p q
  if k.t.info.gang = 1 then
    .next (fun x => seqAdd sig (singleOut k (k.e1 % 16) (k.mod % 8) p q (k.e1 / 16 % 4) (k.index k.opb).toNat x))
      (collSingle k (k.e1 % 16) (k.mod % 8) p q w)
  else
    .next (fun x => seqAdd sig (outAdd (k.e1 % 16) (.coll (k.mod % 8) p q (k.e1 / 16 % 4) (k.index k.opb).toNat x.place) x)) w

theorem opColl_issued {s : State} {k : KOp} {p q : View} (hp : p = k.view k.opa)
    (hq : q = (if 3 ≤ k.mod % 8 then k.view (k.e2 % 256) else emptyView))
    (hstop : collStop k (k.mod % 8) p q (k.e1 / 16 % 4) (k.index k.opb) = none)
    (hseq : seqBreaks k (collSig (k.mod % 8) (k.e1 / 16 % 4) (k.index k.opb) p q) = false)
    (htok : withToken (k.e1 % 16) k.mem = false) (hfew : (collOut k.mem).length < 4) {l : List Touch}
    (hl : l = collTouches k.ref.rank (k.mod % 8) (k.index k.opb) p q) (ha : Allowed s k l) (hf : Fetched s k (k.mem.order + 1) l) :
    opColl k s = collIssued k p q (deviceErrors k l s) := by
  subst hl
  simp only [opColl, ← hp, ← hq, hstop, hseq, onToken_idle htok, if_neg (Nat.not_le.2 hfew), issueAccess_allowed ha,
    withRemote_fetched hf, Bool.false_eq_true, if_false]
  rfl

/-- A member that issues a COLL may make it complete: it then begins (R213). -/
theorem execKColl_next {s w : State} {m : MRef} {k : KOp} {f : Member → Member} (h : StandsAt s m 0x78 k)
    (hop : opColl k s = .next f w) : exec (.kColl m) s = .next (beginColls m (w.updMember m (advanced k f))) :=
  congrArg Host.Outcome.next (congrArg (beginColls m) (kop_next_quiet h (by decide) hop))

/-! ### A COLL begins (R207, R213) -/

theorem beginColl_begins {s : State} {slot task place : Nat} {t : Task} (ht : s.task? slot task = some t) (hrun : t.phase = .running)
    (hgang : 2 ≤ t.info.gang) (hparts : collParts t place ≠ []) (hnew : ∀ p ∈ collParts t place, p.2.2.begun = false) :
    beginColl slot task place s =
      let u := (collParts t place).foldl (fun s p =>
        s.updMember (partAccess slot task t p).ref (outUpd p.2.2.order fun o => { o with begun := true })) s
      if (collParts t place).any fun p => (collArgs p.2.2).1 = 2 ∨ (collArgs p.2.2).1 = 3 then sendShares slot task place u
      else sendRound slot task place u := by
  have hany : (collParts t place).any (fun p => p.2.2.begun) = false :=
    List.any_eq_false.2 fun p hp => ne_true_of_eq_false (hnew p hp)
  have hgo : ¬(t.phase ≠ .running ∨ t.info.gang < 2 ∨ collParts t place = [] ∨
      (collParts t place).any (fun p => p.2.2.begun) = true) := by
    simp [hrun, hparts, hany, Nat.not_lt.2 hgang]
  simp only [beginColl, ht, if_neg hgo]

/-! ### A COLL is over (R207, R213) -/

theorem collDoneGang_over {s : State} {slot task place : Nat} {t : Task} (ht : s.task? slot task = some t) (hrun : t.phase = .running)
    (hlanded : ∀ p ∈ collParts t place, p.2.2.begun = true ∧ p.2.2.left = 0) (hrounds : collRounds (collParts t place) = []) :
    collDoneGang slot task place s = signalColl slot task place s := by
  have hall : (collParts t place).all (fun p => p.2.2.begun && p.2.2.left == 0) = true :=
    List.all_eq_true.2 fun p hp => by rw [(hlanded p hp).1, (hlanded p hp).2]; rfl
  simp only [collDoneGang, ht, hrun, hall, hrounds, and_self, if_true]

theorem signalColl_task {s : State} {slot task : Nat} {t : Task} (ht : s.task? slot task = some t) (place : Nat) :
    signalColl slot task place s = (collParts t place).foldl (fun s p =>
      (dropOpReads (partAccess slot task t p).ref (p.2.2.order + 1) s).updMember (partAccess slot task t p).ref
        (outLanded (((collDest p).map View.space).getD 0) p.2.2.order)) s := by
  simp only [signalColl, ht]

/-! ### Barriers (R215) -/

theorem opBarrier_waits {k : KOp} (s : State) (hc : k.collective = true) (hseq : seqBreaks k (1, k.opa % 16, 0, 0, []) = false) :
    opBarrier k s = .wait (.barrier (k.opa % 16) k.mem.place) (s.updMember k.ref (seqAdd (1, k.opa % 16, 0, 0, []))) := by
  simp only [opBarrier, hc, hseq, Bool.not_true, Bool.false_eq_true, if_false]

theorem barrierReleaseStep_all {s : State} {slot task id place : Nat} {t : Task} (ht : s.task? slot task = some t)
    (hrun : t.phase = .running) (hne : t.members ≠ []) (hlen : t.members.length = t.info.gang)
    (hwait : ∀ p ∈ t.members, p.2.waiting = some (.barrier id place)) :
    barrierReleaseStep slot task s = s.updTask slot task fun t =>
      { t with members := t.members.mapVals fun _ x => { x with waiting := none, pc := x.pc + 1 } } := by
  have hfirst : (t.members.head?.map fun p => p.2.waiting).getD none = some (.barrier id place) := by
    cases hm : t.members with
    | nil => exact absurd hm hne
    | cons p rest =>
      have hp : p ∈ t.members := by rw [hm]; exact List.mem_cons_self
      exact hwait p hp
  have hall : t.members.all (fun p => p.2.waiting == some (.barrier id place)) = true :=
    List.all_eq_true.2 fun p hp => beq_iff_eq.2 (hwait p hp)
  simp only [barrierReleaseStep, ht, hfirst, hall, hrun, hlen, beq_self_eq_true, Bool.and_self, if_true]

/-- Settles O26: a COLL is issued, begins and is over by the equations above, and a barrier holds its members until all wait. -/
theorem kernelCollectives : Obligations.KernelCollectives := by
  unfold Obligations.KernelCollectives
  refine ⟨?issue, ?begins, ?ended, ?barrier, ?released⟩
  case issue =>
    intro s m k p q h hp hq hstop hseq htok hfew l ha hf w
    have hop := opColl_issued hp hq hstop hseq htok hfew rfl ha hf
    exact ⟨fun hmany => execKColl_next h (hop.trans (if_neg hmany)), fun hone => execKColl_next h (hop.trans (if_pos hone))⟩
  case begins =>
    intro s slot task place t ht hrun hgang hparts hnew u
    have hbegin := beginColl_begins ht hrun hgang hparts hnew
    refine ⟨fun hshares => ?_, fun hsum => ?_⟩
    · obtain ⟨p, hp, hkind⟩ := hshares
      exact hbegin.trans (if_pos (List.any_eq_true.2 ⟨p, hp, decide_eq_true hkind⟩))
    · refine hbegin.trans (if_neg ?_)
      rw [List.any_eq_true]
      rintro ⟨p, hp, hkind⟩
      obtain ⟨h2, h3⟩ := hsum p hp
      exact (of_decide_eq_true hkind).elim h2 h3
  case ended =>
    intro s slot task place t ht hrun hlanded hrounds
    exact congrArg Host.Outcome.next ((collDoneGang_over ht hrun hlanded hrounds).trans (signalColl_task ht place))
  case barrier =>
    intro s m k h hc hseq
    obtain rfl := currentOp_ref h.1
    exact congrArg Host.Outcome.next (kop_wait h (opBarrier_waits s hc hseq))
  case released =>
    exact fun s slot task id place t ht hrun hne hlen hwait =>
      congrArg Host.Outcome.next (barrierReleaseStep_all ht hrun hne hlen hwait)

end Sys2Proof.Machine
end

section
/-!
SUPPORT. Statements of chapters 5 and 13 on the mail that submits and cancels graphs and closes a pound, and on the reply to a graph
that was checked (R251 to R253, R294, R296, R355, R651, R653, R655).
-/

namespace Sys2Proof.Machine
open Sys2Proof.Safety

/-! ### The bodies of the messages -/

@[simp] theorem dropMail_graph? (src : MailSrc) (m : Bytes) (s : State) (slot : Nat) :
    (dropMail src m s).graph? slot = s.graph? slot := by
  simp only [State.graph?, dropMail_work]

theorem dropMail_ft (src : MailSrc) (m : Bytes) (s : State) : (dropMail src m s).ft = s.ft := by
  simp only [State.ft, dropMail_time]

theorem mailGraphSubmit_good {s : State} {src : MailSrc} {corr : Nat} {m : Bytes} {b : Buffer} {g : Graph}
    (hb : mailBuffer (sourceErrors (leField m 8 4) (leField m 0x10 8) (leField m 0x18 8) s) (leField m 8 4) (leField m 0x10 8)
      (leField m 0x18 8) true = .inr b)
    (hg : graphCheck (sourceErrors (leField m 8 4) (leField m 0x10 8) (leField m 0x18 8) s) src (leField m 8 4)
      (committedRead (sourceErrors (leField m 8 4) (leField m 0x10 8) (leField m 0x18 8) s) (bufBase b + leField m 0x10 8)
        (leField m 0x18 8)) = .inr g) :
    mailGraphSubmit src corr m s = addJob (.graphCheck
        { g with imageAt := bufBase b + leField m 0x10 8, imageLen := leField m 0x18 8 } St.ok (leField m 8 4)) src 0x28 corr
      (sourceErrors (leField m 8 4) (leField m 0x10 8) (leField m 0x18 8) s) := by
  simp only [mailGraphSubmit, hb, hg, orRefuse]

theorem mailGraphCancel_tagged {s : State} {src : MailSrc} {corr : Nat} {m : Bytes} {g : Graph}
    (hg : s.graph? (leField m 8 1) = some g) (htag : g.tag = leField m 0x10 8) :
    mailGraphCancel src corr m s = answer src 0x29 corr St.ok [] (cancelGraph (leField m 8 1) s) := by
  simp only [mailGraphCancel, hg, htag, if_true]

/-! ### The reply to a checked graph (R252, R253, R296) -/

/-- The state in which a checked graph stands in a slot with the next order number; an empty one has ended (R253, R296). -/
def withGraph (slot : Nat) (g : Graph) (s : State) : State :=
  { s with work.graphs := Tab.put slot { g with order := s.work.graphNo, ended := g.tasks = [] } s.work.graphs
           work.graphNo := s.work.graphNo + 1 }

theorem graphCheckDone_resident {s : State} {job slot st image : Nat} {j : Job} {g : Graph}
    (hj : Tab.find? job s.work.jobs = some j) (hkind : j.kind = .graphCheck g st image) (hlight : lightLost s = false)
    (hgood : graphStillGood s g image = 0) (hslot : Tab.freeKey 0 64 s.work.graphs = some slot) :
    graphCheckDone job s = settle (endJob job St.ok (leBytes 1 slot ++ leBytes 7 0) (withGraph slot g s)) := by
  obtain ⟨kind, src, handle, code, corr, since⟩ := j
  subst hkind
  simp only [graphCheckDone, hj, hlight, hgood, hslot, Bool.false_eq_true, ne_eq, not_true_eq_false, if_false]
  rfl

/-- Settles O13: the mail step runs the body of each message, and the end of the check puts the graph into the free slot. -/
theorem graphAndPoundMail : Obligations.GraphAndPoundMail := by
  unfold Obligations.GraphAndPoundMail
  refine ⟨?submit, ?checked, ?cancel, ?close⟩
  case submit =>
    intro src m s b g hacc u hb hg
    refine congrArg Host.Outcome.next ((mailStep_accepted hacc (mailGraphSubmit src)).trans ?_)
    rw [mailGraphSubmit_good hb hg]
  case checked =>
    intro s job slot st image j g hserving hj hkind hlight hgood hslot
    have hstep : exec (.graphCheckDone job) s = .next (graphCheckDone job s) := congrArg Host.Outcome.next (if_pos hserving)
    exact hstep.trans (congrArg Host.Outcome.next (graphCheckDone_resident hj hkind hlight hgood hslot))
  case cancel =>
    intro src m s g hacc hg htag
    refine congrArg Host.Outcome.next ((mailStep_accepted hacc (mailGraphCancel src)).trans ?_)
    rw [mailGraphCancel_tagged ((dropMail_graph? ..).trans hg) htag]
  case close =>
    intro src m s hacc
    refine congrArg Host.Outcome.next ((mailStep_accepted hacc (mailPoundClose src)).trans ?_)
    rw [mailPoundClose, dropMail_ft]

end Sys2Proof.Machine
end

section
/-!
SUPPORT. Statements of chapter 5 on admission into the windows of the stacks, and on tasks and co-start groups that are bound anew
(R261 to R266, R279, R280, R888).
-/

namespace Sys2Proof.Machine
open Sys2Proof.Safety

/-! ### Admission (R261 to R266, R279) -/

/-- The task index after a graph's next unit, at which admission goes on (R261). -/
def afterUnit (g : Graph) : Nat := ((admissionUnit g).getLast?.map Prod.fst).getD g.admitNext + 1

/-- The state in which a graph has taken its turn and has moved past its next unit (R261). -/
def turnTaken (slot : Nat) (g : Graph) (s : State) : State :=
  ({ s with work.admitTurn := slot } : State).updGraph slot fun x => { x with admitNext := afterUnit g }

theorem admissionStep_bind {s : State} {slot : Nat} {g : Graph} {l : List (Nat × Nat)}
    (hturn : nextAfter (admittable s) s.work.admitTurn = some slot) (hg : s.graph? slot = some g)
    (hbind : admitDecide (turnTaken slot g s) slot g = .bind l) :
    admissionStep slot s = markReady (l.foldl (fun s x => admitTask slot x s) (turnTaken slot g s)) := by
  unfold turnTaken afterUnit at hbind ⊢
  simp only [admissionStep, hturn, hg, hbind, ne_eq, not_true_eq_false, if_false]

theorem admissionStep_unfit {s : State} {slot : Nat} {g : Graph}
    (hturn : nextAfter (admittable s) s.work.admitTurn = some slot) (hg : s.graph? slot = some g)
    (hunfit : admitDecide (turnTaken slot g s) slot g = .unfit) :
    admissionStep slot s = settle (((admissionUnit g).filter fun t => t.2.phase = .image).foldl
      (fun s t => endTask slot t.1 St.gangFit s) (turnTaken slot g s)) := by
  unfold turnTaken afterUnit at hunfit ⊢
  simp only [admissionStep, hturn, hg, hunfit, ne_eq, not_true_eq_false, if_false]

/-! ### Binding anew (R280, R888) -/

theorem taskRebindStep_binds {s : State} {slot task k : Nat} {t : Task} (ht : s.task? slot task = some t)
    (hphase : t.phase = .admitted) (halone : t.info.cogroup = 0) (hunfit : stackUnfit s t.stack t.info.gang = true)
    (hfree : t.info.affinity = none) (hk : bindTask s t = some k) :
    taskRebindStep slot task s = s.updTask slot task fun t => { t with stack := k, starving := false } := by
  simp only [taskRebindStep, ht, hphase, halone, hunfit, hfree, hk, beq_self_eq_true, Bool.and_self, Option.isSome_none,
    Bool.false_eq_true, if_true, if_false]

theorem taskRebindStep_ends {s : State} {slot task : Nat} {t : Task} (ht : s.task? slot task = some t)
    (hphase : t.phase = .admitted) (halone : t.info.cogroup = 0) (hunfit : stackUnfit s t.stack t.info.gang = true)
    (hnone : t.info.affinity ≠ none ∨ bindTask s t = none) :
    taskRebindStep slot task s = settle (endTask slot task St.gangFit s) := by
  have hstack : (if t.info.affinity.isSome then none else bindTask s t) = none := by
    split
    case isTrue => rfl
    case isFalse hfree => exact hnone.resolve_left fun hbound => hfree (Option.isSome_iff_ne_none.2 hbound)
  simp only [taskRebindStep, ht, hphase, halone, hunfit, hstack, beq_self_eq_true, Bool.and_self, if_true]

theorem cogroupRebindStep_binds {s : State} {slot n : Nat} {g : Graph} {b : List (Nat × Nat)} (hg : s.graph? slot = some g)
    (hn : n ≠ 0) (hwait : groupWaiting g n ≠ []) (hunfit : groupUnfit s (groupWaiting g n) = true)
    (hb : bindGroup s (groupWaiting g n) = some b) :
    cogroupRebindStep slot n s =
      b.foldl (fun s x => s.updTask slot x.1 fun t => { t with stack := x.2, starving := false }) s := by
  simp only [cogroupRebindStep, hg, hn, hwait, hunfit, hb, ne_eq, not_false_eq_true, decide_true, Bool.and_self, if_true]

theorem cogroupRebindStep_ends {s : State} {slot n : Nat} {g : Graph} (hg : s.graph? slot = some g) (hn : n ≠ 0)
    (hwait : groupWaiting g n ≠ []) (hunfit : groupUnfit s (groupWaiting g n) = true)
    (hnone : bindGroup s (groupWaiting g n) = none) :
    cogroupRebindStep slot n s = settle ((groupWaiting g n).foldl (fun s t => endTask slot t.1 St.gangFit s) s) := by
  simp only [cogroupRebindStep, hg, hn, hwait, hunfit, hnone, ne_eq, not_false_eq_true, decide_true, Bool.and_self, if_true]

/-- Settles O29: a graph whose turn it is moves past its unit, and what has lost its stacks takes new ones or ends. -/
theorem admissionAndRebinding : Obligations.AdmissionAndRebinding := by
  unfold Obligations.AdmissionAndRebinding
  refine ⟨?admission, ?task, ?group⟩
  case admission =>
    exact fun s slot g l hturn hg =>
      ⟨fun hbind => congrArg Host.Outcome.next (admissionStep_bind hturn hg hbind),
        fun hunfit => congrArg Host.Outcome.next (admissionStep_unfit hturn hg hunfit)⟩
  case task =>
    exact fun s slot task t ht hphase halone hunfit =>
      ⟨fun k hfree hk => congrArg Host.Outcome.next (taskRebindStep_binds ht hphase halone hunfit hfree hk),
        fun hnone => congrArg Host.Outcome.next (taskRebindStep_ends ht hphase halone hunfit hnone)⟩
  case group =>
    exact fun s slot n g hg hn hwait hunfit =>
      ⟨fun b hb => congrArg Host.Outcome.next (cogroupRebindStep_binds hg hn hwait hunfit hb),
        fun hnone => congrArg Host.Outcome.next (cogroupRebindStep_ends hg hn hwait hunfit hnone)⟩

end Sys2Proof.Machine
end

section
/-!
SUPPORT. Fabric time over one step (R302, R307): what each command leaves of the counter and of the mark that the first stamp has
been issued. A command keeps both, ends in a reset or a power loss, or is FABRIC_TICK.
-/

namespace Sys2Proof.Machine
open Sys2Proof.Safety

/-! ### The clock kept, or started over -/

/-- The first stamp stands issued, and fabric time is what it was. -/
structure KeepsClock (s t : State) : Prop where
  begun : t.begun
  ft : t.time.ft = s.time.ft

/-- The clock is kept, or the module has been reset or has lost power and its clock starts over. -/
def KeepsOrRestarts (s t : State) : Prop := t.time = {} ∨ KeepsClock s t

theorem keepsOrRestarts_of_fixed {s t : State} (hb : t.begun) (h : t.fixed = s.fixed) : KeepsOrRestarts s t :=
  .inr ⟨hb, ft_of h⟩

theorem keepsOrRestarts_of_older {s t : State} (hb : t.begun) (h : Older s t) : KeepsOrRestarts s t := .inr ⟨hb, h.ft⟩

/-- After a clock is kept, a function that does nothing or resets the module leaves it kept or started over. -/
theorem KeepsOrRestarts.self_or_reset {s t u : State} (h : KeepsOrRestarts s t) (hu : u = t ∨ Reset t u) :
    KeepsOrRestarts s u := by
  obtain rfl | hreset := hu
  · exact h
  · exact .inl hreset.tm

/-! ### Resets and timers of the standby controller (R664, R765, R774, R808, R814) -/

theorem resetNStep_clock {s : State} (ns : Nat) (hs : s.begun) : KeepsOrRestarts s (resetNStep ns s) := by
  unfold resetNStep
  split
  case isTrue => exact keepsOrRestarts_of_fixed hs rfl
  case isFalse =>
    split
    case isTrue => exact .inl (reset_resetModule 1 false s).tm
    case isFalse =>
      split
      case isTrue => exact keepsOrRestarts_of_fixed (drawBelow_begun 2 s hs) (drawBelow_fixed 2 s)
      case isFalse => exact .inl (reset_resetModule 1 false _).tm

theorem watchdogStep_clock {s : State} (w : LkId) (hs : s.begun) : KeepsOrRestarts s (watchdogStep w s) := by
  unfold watchdogStep
  split
  case isFalse => exact keepsOrRestarts_of_fixed hs rfl
  case isTrue =>
    dsimp only
    split
    case isTrue => exact keepsOrRestarts_of_fixed (by simp [hs]) (by simp)
    case isFalse => exact (keepsOrRestarts_of_fixed (updLk_begun _ _ _ hs) (updLk_fixed _ _ _)).self_or_reset (reset_self 5 _)

theorem timersDue_clock {s t : State} (h : KeepsOrRestarts s t) : KeepsOrRestarts s (timersDue t) :=
  (h.self_or_reset (or_timerReset t)).self_or_reset (or_trial (timerReset t))

/-! ### Tamper sources: a fuse is blown, and time goes on (R774, R775) -/

theorem tamperNow_ft (k : Nat) (s : State) : (tamperNow k s).time.ft = s.time.ft := by
  have hwipe : (freeKeyed (lowerAllDebug 0 5 (zeroVault (wipeSecure s)))).time.ft = s.time.ft := ft_of (by simp)
  have hblow (t : State) : (blowTamper t).time.ft = t.time.ft := rfl
  have hevent (t : State) : (tamperEvent k t).time.ft = t.time.ft := ft_of (tamperEvent_fixed k t)
  unfold tamperNow
  dsimp only
  split
  case isTrue => rw [ft_of (flashAdd_fixed _ _), hevent, hblow, hwipe]
  case isFalse => rw [hevent, hblow, hwipe]

theorem tamperStep_ft (k : Nat) (s : State) : (tamperStep k s).time.ft = s.time.ft := by
  unfold tamperStep
  split
  case isTrue => rfl
  case isFalse =>
    dsimp only
    split
    case isTrue => rfl
    case isFalse =>
      split
      case isTrue => exact tamperNow_ft k _
      case isFalse => rfl

/-! ### Sources of time: once begun, an offset is corrected by ticks and not loaded (R302, R311) -/

theorem applyOffset_reselect_fixed (off : Int) {s : State} (hs : s.begun) : (applyOffset off (reselect s)).fixed = s.fixed :=
  (applyOffset_fixed off _ (reselect_begun s hs)).trans (reselect_fixed s)

theorem timingReceive_fixed {s : State} (hs : s.begun) (port link : Nat) (master : Option Nat) (senderFt hops roundTrip : Nat) :
    (timingReceive port link master senderFt hops roundTrip s).fixed = s.fixed := by
  unfold timingReceive
  split
  case isFalse => rfl
  case isTrue =>
    dsimp only
    split
    case h_1 => rfl
    case h_2 c =>
      generalize hu : ite (outranks _ c = true) (becomeMaster _) (learnMaster c _) = u
      have hfixed : u.fixed = s.fixed := by rw [← hu]; simp
      have hbegun : u.begun := by
        rw [← hu]; exact ite_begun _ _ _ (becomeMaster_begun _ hs) (learnMaster_begun c _ hs)
      split
      case isFalse => exact hfixed
      case isTrue =>
        split
        case isTrue =>
          rw [applyOffset_fixed _ _ (by simp [hbegun])]
          simpa using hfixed
        case isFalse => simpa using hfixed

theorem ptpStep_fixed {s : State} (hs : s.begun) (port : PortId) (domain : Nat) (kind : PtpKind) :
    (ptpStep port domain kind s).fixed = s.fixed := by
  unfold ptpStep
  split
  case isTrue => rfl
  case isFalse =>
    split
    case h_1 | h_2 | h_3 => split <;> rfl
    case h_5 => exact reselect_fixed _
    case h_4 =>
      split
      case h_2 => rfl
      case h_1 =>
        dsimp only
        split
        case isTrue =>
          refine (applyOffset_reselect_fixed _ ?_).trans rfl
          exact hs
        case isFalse => exact reselect_fixed _

/-! ### One command -/

/-- Every command but FABRIC_TICK. Those named reset the module, blow a fuse or show an offset to the timekeeper; each of the others
runs a function which the two frames, `fixed` and `begun`, speak of. -/
theorem exec_clock {s : State} {c : Instr} (hs : s.begun) (hc : c ≠ .fabricTick) :
    ∃ t, exec c s = .next t ∧ KeepsOrRestarts s t := by
  cases c
  case fabricTick => exact absurd rfl hc
  case moduleResetTimer => exact ⟨_, rfl, (keepsOrRestarts_of_fixed hs rfl).self_or_reset (or_timerReset s)⟩
  case trialExpiry => exact ⟨_, rfl, (keepsOrRestarts_of_fixed hs rfl).self_or_reset (or_trial s)⟩
  case resetNAssert ns => exact ⟨_, rfl, resetNStep_clock ns hs⟩
  case watchdogExpiry w => exact ⟨_, rfl, watchdogStep_clock w hs⟩
  case powerLoss => exact ⟨_, rfl, .inl rfl⟩
  case tamperDetect k => exact ⟨_, rfl, .inr ⟨tamperStep_begun k s hs, tamperStep_ft k s⟩⟩
  case lifecycleSet src =>
    exact ⟨_, rfl, keepsOrRestarts_of_older (by simp +contextual [hs]) (older_mailStepSel _ _ _ _ _ (older_lifecycleSet src))⟩
  case bootPhaseEnd p ms r => exact ⟨_, rfl, keepsOrRestarts_of_older (phaseStep_begun p ms r s hs) (older_phaseStep p ms r s)⟩
  case recordWriteDone => exact ⟨_, rfl, keepsOrRestarts_of_older (writeDone_begun s hs) (older_writeDone s)⟩
  case recordEraseDone => exact ⟨_, rfl, keepsOrRestarts_of_older (eraseDone_begun s hs) (older_eraseDone s)⟩
  case timingFrameReceive =>
    exact ⟨_, rfl, keepsOrRestarts_of_fixed (timingReceive_begun _ _ _ _ _ _ s hs) (timingReceive_fixed hs _ _ _ _ _ _)⟩
  case ptpMessage => exact ⟨_, rfl, keepsOrRestarts_of_fixed (ptpStep_begun _ _ _ s hs) (ptpStep_fixed hs _ _ _)⟩
  case kRecv m =>
    have hop : (lateRecv m (kop m 0x71 opRecv s)).begun := lateRecv_begun m _ (kop_begun m _ _ s hs opRecv_begun)
    exact ⟨_, rfl, keepsOrRestarts_of_fixed (matchWaiting_begun m _ _ hop) (by simp)⟩
  case kColl m =>
    exact ⟨_, rfl, keepsOrRestarts_of_fixed (beginColls_begun m _ (kop_begun m _ _ s hs opColl_begun)) (by simp)⟩
  all_goals exact ⟨_, rfl, keepsOrRestarts_of_fixed (by simp +contextual [hs]) (by simp)⟩

/-! ### FABRIC_TICK -/

/-- The counter's move at a tick of `s`: by one, by two to gain, or held to lose or in reset (R302, R774). -/
def TickOf (s : State) (ft : Nat) : Prop :=
  ft = (s.ft + 1) % 2 ^ 64 ∨ (ft = (s.ft + 2) % 2 ^ 64 ∧ 0 < s.time.correction) ∨
    (ft = s.ft ∧ (s.time.correction < 0 ∨ s.pins.resetN = false))

theorem TickOf.le {s : State} {ft : Nat} (h : TickOf s ft) (hs : s.ft + 2 < 2 ^ 64) : s.ft ≤ ft := by
  obtain h | ⟨h, -⟩ | ⟨h, -⟩ := h <;> omega

/-- What is due at the instant reached moves the counter no further, and a timer that ends resets the module. -/
theorem execFabricTick_clock {s : State} (hs : s.begun) :
    ∃ t, execFabricTick s = .next t ∧ (t.time = {} ∨ (t.begun ∧ TickOf s t.time.ft)) := by
  have htick : (tickStep s).begun := tickStep_begun s hs
  have hmove : TickOf s (tickStep s).time.ft := tick_ft s
  refine ⟨_, rfl, ?_⟩
  split
  case isFalse => exact .inr ⟨htick, hmove⟩
  case isTrue =>
    have hdue : KeepsOrRestarts (tickStep s) (dueStep (tickStep s)) :=
      keepsOrRestarts_of_fixed (dueStep_begun _ htick) (dueStep_fixed _)
    obtain hreset | hkept := timersDue_clock hdue
    · exact .inl hreset
    · exact .inr ⟨hkept.begun, by rw [hkept.ft]; exact hmove⟩

/-- Settles O60: a queue that rests keeps all, FABRIC_TICK moves the counter as `TickOf` says, and every other command keeps it. -/
theorem fabricTimeNeverDecreases : Obligations.FabricTimeNeverDecreases := by
  intro s t hstep hs
  unfold step at hstep
  split at hstep
  case h_1 hempty =>
    cases hstep
    exact .inr ⟨hs, fun _ => rfl, fun rest hfront => by simp [hempty] at hfront⟩
  case h_2 c rest hfront =>
    have hbegun : State.begun { s with pending := rest } := hs
    by_cases hc : c = .fabricTick
    case pos =>
      subst hc
      obtain ⟨u, hu, hclock⟩ := execFabricTick_clock hbegun
      obtain rfl : u = t := by simpa using hu.symm.trans hstep
      exact hclock.imp_right fun ⟨hmark, hmove⟩ =>
        ⟨hmark, fun hnot => absurd hfront (hnot rest), fun _ _ => ⟨hmove, hmove.le⟩⟩
    case neg =>
      obtain ⟨u, hu, hclock⟩ := exec_clock hbegun hc
      obtain rfl : u = t := by simpa using hu.symm.trans hstep
      refine hclock.imp_right fun hkept => ⟨hkept.begun, fun _ => hkept.ft, fun rest' htick => ?_⟩
      rw [hfront] at htick
      exact absurd (List.cons.inj htick).1 hc

end Sys2Proof.Machine
end

section
/-!
SUPPORT. Statements of chapter 6 on the counter, the stamps and the dies' copies of fabric time (R301 to R305, R315 to R317).
-/

namespace Sys2Proof.Machine
open Sys2Proof.Safety

/-! ### The counter's three moves (R302, R303) -/

theorem lockIfClose_of_mode_ne {s : State} (h : s.time.mode ≠ 3) : lockIfClose s = s := if_neg fun hm => h hm.1

theorem countTick_advances {s : State} {ft : Nat} (h : s.time.correction = 0 ∨ mayCorrect s = false)
    (hft : (s.ft + 1) % 2 ^ 64 = ft) : countTick s = { s with time.ft := ft, time.repeated := false } := by
  subst hft
  unfold countTick
  obtain h | h := h <;> simp [h]

theorem countTick_skips {s : State} {ft : Nat} (hgain : 0 < s.time.correction) (hmay : mayCorrect s = true)
    (hmode : s.time.mode ≠ 3) (hft : (s.ft + 2) % 2 ^ 64 = ft) :
    countTick s = { s with time.ft := ft, time.lastCorrAt := some ft, time.correction := s.time.correction - 1
                           time.offset16 := s.time.offset16 - 16, time.repeated := false } := by
  subst hft
  unfold countTick
  rw [if_pos (by simp [hgain, hmay])]
  exact lockIfClose_of_mode_ne hmode

theorem countTick_holds {s : State} (hlose : s.time.correction < 0) (hmay : mayCorrect s = true)
    (honce : s.time.repeated = false) (hmode : s.time.mode ≠ 3) :
    countTick s = { s with time.lastCorrAt := some s.ft, time.correction := s.time.correction + 1
                           time.offset16 := s.time.offset16 + 16, time.repeated := true } := by
  unfold countTick
  rw [if_neg (by simp [Int.lt_asymm hlose]), if_pos (by simp [hlose, hmay, honce])]
  exact lockIfClose_of_mode_ne hmode

/-! ### The tick (R301, R324, R579) -/

theorem pausesEnd_of_none {s : State} (h : ∀ p, (s.ethPort p).pausedPrio = none) : pausesEnd s = s := by
  simp [pausesEnd, h]

/-- How far a tick that does not overflow has moved the counter, as the dies' copies are told. -/
theorem ticksMoved_of_lt {ft d : Nat} (h : ft + d < 2 ^ 64) : (ft + d + 2 ^ 64 - ft) % 2 ^ 64 = d := by omega

/-- With RESET_N high and no port paused a tick is the counter's move `u`, by `d`, and all that is due at the instant reached. -/
theorem execFabricTick_moves {s u : State} {d : Nat} (hreset : s.pins.resetN = true)
    (hports : ∀ p, (s.ethPort p).pausedPrio = none) (hu : countTick (timersTick s) = u) (hnet : u.net = s.net)
    (hd : (u.ft + 2 ^ 64 - s.ft) % 2 ^ 64 = d) :
    exec .fabricTick s = .next (timersDue (dueStep (copiesTick d u))) := by
  have hfree : ∀ p, ((copiesTick d u).ethPort p).pausedPrio = none := fun p => by
    have hsame : (copiesTick d u).ethPort p = s.ethPort p :=
      congrArg (fun n : NetState => Tab.getD ({} : EthPort) p n.ports) hnet
    rw [hsame, hports]
  have htick : tickStep s = copiesTick d u := by
    unfold tickStep
    rw [if_neg (by simp [hreset])]
    have hmove : fabricTick (timersTick s) = copiesTick d u := by
      unfold fabricTick
      rw [hu]
      exact congrArg (copiesTick · u) hd
    rw [hmove, pausesEnd_of_none hfree]
  show Host.Outcome.next (if s.pins.resetN then timersDue (dueStep (tickStep s)) else tickStep s) = _
  rw [if_pos hreset, htick]

theorem execFabricTick_inReset {s : State} (h : s.pins.resetN = false) :
    exec .fabricTick s = .next { s with sec.clearFor := s.sec.clearFor + 1 } := by
  have htick : tickStep s = { s with sec.clearFor := s.sec.clearFor + 1 } := if_pos (by simp [h])
  show Host.Outcome.next (if s.pins.resetN then timersDue (dueStep (tickStep s)) else tickStep s) = _
  rw [if_neg (by simp [h]), htick]

/-! ### Held stamps (R317) -/

theorem releaseHeld_nil {s : State} {b : Nat} (fuel : Nat) (h : (s.issuer b).held = []) : releaseHeld b fuel s = s := by
  cases fuel with
  | zero => rfl
  | succ fuel => simp only [releaseHeld, h]

theorem releaseHeld_exhausted {s : State} {b : Nat} (fuel : Nat) (h : 128 ≤ nextSeq b (timeField s.ft) (s.issuer b)) :
    releaseHeld b fuel s = s := by
  cases fuel with
  | zero => rfl
  | succ fuel =>
    have hfull : ¬ nextSeq b (timeField s.ft) (s.issuer b) < 128 := Nat.not_lt.2 h
    simp only [releaseHeld, hfull, decide_false, Bool.false_and, Bool.false_eq_true, if_false]
    split <;> rfl

theorem releaseHeld_message {s : State} {b n fuel q : Nat} (hheld : (s.issuer b).held = [.message n])
    (hup : issuerDown s b = false) (hq : nextSeq b (timeField s.ft) (s.issuer b) = q) (hlt : q < 128) :
    releaseHeld b (fuel + 1) s =
      { s.updIssuer b (fun i => { i with time := timeField s.ft, nextSeq := q + 1, held := [] }) with
        time.firstStamp := true
        work.msgs := Tab.modify n (fun g => { g with stamp := some (mkStamp (timeField s.ft) b q) }) s.work.msgs } := by
  simp only [releaseHeld, hheld, hq, hlt, hup, decide_true, Bool.not_false, Bool.and_self, if_true, giveStamp]
  refine releaseHeld_nil fuel ?_
  exact congrArg Issuer.held
    (State.updIssuer_issuer s b fun i => { i with time := timeField s.ft, nextSeq := q + 1, held := [] })

/-! ### The dies' copies (R305) -/

theorem replicaStep_due {s : State} {k : Nat} (slip : Int) (hp : (s.stack k).powered = true) (hc : (s.stack k).clocked = true)
    (h : (s.stack k).ftChecked / 4096 ≠ s.ft / 4096) :
    replicaStep k slip s =
      if copyNow s k slip = s.ft then s.updStack k fun x => { x with ftCopy := s.ft, ftChecked := s.ft }
      else raiseFault Ev.ftReplica (leBytes 1 k) (s.updStack k fun x => { x with ftCopy := s.ft, ftChecked := s.ft }) :=
  if_pos (by simp [hp, hc, h])

theorem replicaStep_soon {s : State} {k : Nat} (slip : Int) (h : (s.stack k).ftChecked / 4096 = s.ft / 4096) :
    replicaStep k slip s = s := if_neg (by simp [h])

/-- Settles O32: the counter's three moves, the release of one held message, and the check of a die's copy. -/
theorem ticksStampsAndReplicas : Obligations.TicksStampsAndReplicas := by
  unfold Obligations.TicksStampsAndReplicas
  refine ⟨?tick, ?inReset, ?stamp, ?replica⟩
  case tick =>
    intro s hreset hports
    refine ⟨?one, ?wrap, ?skip, ?hold⟩
    case one =>
      exact fun hnone hlt =>
        execFabricTick_moves hreset hports (countTick_advances hnone (Nat.mod_eq_of_lt hlt)) rfl (ticksMoved_of_lt hlt)
    case wrap =>
      refine fun hnone hlast => execFabricTick_moves hreset hports (countTick_advances hnone ?_) rfl ?_
      · show (s.ft + 1) % 2 ^ 64 = 0
        omega
      · show (0 + 2 ^ 64 - s.ft) % 2 ^ 64 = 1
        omega
    case skip =>
      exact fun hgain hmay hmode hlt =>
        execFabricTick_moves hreset hports (countTick_skips hgain hmay hmode (Nat.mod_eq_of_lt hlt)) rfl (ticksMoved_of_lt hlt)
    case hold =>
      exact fun hlose hmay honce hmode hlt =>
        execFabricTick_moves hreset hports (countTick_holds hlose hmay honce hmode) rfl (ticksMoved_of_lt (d := 0) hlt)
  case inReset => exact fun s => execFabricTick_inReset
  case stamp =>
    exact fun s b n hheld hup =>
      ⟨fun hq => congrArg Host.Outcome.next (releaseHeld_message hheld hup rfl hq),
        fun hfull => congrArg Host.Outcome.next (releaseHeld_exhausted 128 hfull)⟩
  case replica =>
    exact fun s k slip hp hc =>
      ⟨fun hdue => congrArg Host.Outcome.next (replicaStep_due slip hp hc hdue),
        fun hsoon => congrArg Host.Outcome.next (replicaStep_soon slip hsoon)⟩

end Sys2Proof.Machine
end

section
/-!
SUPPORT. Statements of chapters 6 and 11 on the sources of fabric time: timing frames, the time-master and the reference
oscillator (R306, R308, R311, R567 to R569).
-/

namespace Sys2Proof.Machine
open Sys2Proof.Safety

/-! ### What leaves the mark of the time-master alone: stamps, events and packets sent (R306) -/

theorem foldl_master {α : Type} {f : State → α → State} (h : ∀ s x, (f s x).time.master = s.time.master) (l : List α)
    (s : State) : (l.foldl f s).time.master = s.time.master := by
  induction l generalizing s with
  | nil => rfl
  | cons x l ih => rw [List.foldl_cons, ih, h]

@[simp] theorem issueStamp_master (b : Nat) (h : HeldStamp) (s : State) : (issueStamp b h s).2.time.master = s.time.master := by
  unfold issueStamp
  dsimp only
  split <;> rfl

@[simp] theorem appendEntry_master (e : LogEntry) (s : State) : (appendEntry e s).time.master = s.time.master := by
  rw [appendEntry_time]

@[simp] theorem putWire_master (fr : OutFrame) (s : State) : (putWire fr s).time.master = s.time.master := by
  unfold putWire
  split <;> rfl

@[simp] theorem noticeToAddress_master (body : Bytes) (s : State) : (noticeToAddress body s).time.master = s.time.master := by
  unfold noticeToAddress
  dsimp only
  split
  case isTrue => rfl
  case isFalse => rw [putWire_master]; rfl

@[simp] theorem logEvent_master (code : Nat) (args : Bytes) (s : State) : (logEvent code args s).time.master = s.time.master := by
  unfold logEvent logEventR
  split
  case isTrue =>
    dsimp only
    split <;> simp
  case isFalse => simp

@[simp] theorem setTimeMode_master (mode : Nat) (s : State) : (setTimeMode mode s).time.master = s.time.master := by
  unfold setTimeMode
  split
  case isTrue => rfl
  case isFalse => exact logEvent_master _ _ _

@[simp] theorem reselect_master (s : State) : (reselect s).time.master = s.time.master := by
  unfold reselect
  dsimp only
  split
  case isTrue => rfl
  case isFalse => exact setTimeMode_master _ _

@[simp] theorem stampWrite_master (id : Nat) (s : State) : (stampWrite id s).time.master = s.time.master := by
  unfold stampWrite
  split
  case h_1 => rfl
  case h_2 w hw =>
    dsimp only
    split
    case isFalse => rfl
    case isTrue =>
      split
      case isTrue => rfl
      case isFalse => split <;> exact issueStamp_master _ _ s

@[simp] theorem grantStamp_master (o : Owner) (s : State) : (grantStamp o s).time.master = s.time.master := by
  cases o with
  | write id => exact stampWrite_master id s
  | msg id => rfl
  | part m gen order => rfl
  | none => rfl

@[simp] theorem installPort_master (b dest : Nat) (s : State) : (installPort b dest s).time.master = s.time.master := by
  unfold installPort
  split
  case isTrue => rfl
  case isFalse => split <;> rfl

theorem admitList_master (b : Nat) (l : List BerthWait) (held : List Nat) (s : State) :
    (admitList b l held s).2.time.master = s.time.master := by
  induction l generalizing held s with
  | nil => rfl
  | cons w l ih =>
    unfold admitList
    dsimp only
    split
    case isTrue => exact ih held s
    case isFalse =>
      split
      case isTrue => exact ih held s
      case isFalse =>
        split
        case h_1 t => exact (ih held _).trans (grantStamp_master w.tx.owner s)
        case h_2 => exact (ih _ _).trans (installPort_master b _ s)

@[simp] theorem sendNeighbour_master (d no : Nat) (s : State) : (sendNeighbour d no s).time.master = s.time.master :=
  admitList_master _ _ _ _

@[simp] theorem floodNotice_master (except : Option Nat) (id : Nat) (n : Notice) (s : State) :
    (floodNotice except id n s).time.master = s.time.master := by
  unfold floodNotice
  dsimp only
  refine (foldl_master (fun s d => ?_) _ _).trans rfl
  exact sendNeighbour_master d _ _

@[simp] theorem announce_master (n : Notice) (s : State) : (announce n s).time.master = s.time.master :=
  floodNotice_master _ _ _ _

/-! ### Timing frames (R308, R567, R568) -/

/-- The state in which a frame with this round trip has come on a link (R308). -/
def delayMeasured (port link roundTrip : Nat) (s : State) : State :=
  { s with torus.delays := Tab.put (8 * port + link % 8) (roundTrip / 2) s.torus.delays }

theorem timingSend_due {s : State} {port link : Nat} (hup : linkUp s (512 + 16 * port + link % 8) = true)
    (hdue : timingDue s port link = true) :
    timingSend port link s = { s with
      torus.timingAt := Tab.put (8 * port + link % 8) s.ft s.torus.timingAt
      torus.out := s.torus.out ++
        [.timing port link (if s.time.master then some s.torus.coord else s.time.masterCoord) s.ft s.time.hops] } :=
  if_pos (by rw [hup, hdue]; rfl)

theorem timingSend_not {s : State} {port link : Nat}
    (h : linkUp s (512 + 16 * port + link % 8) = false ∨ timingDue s port link = false) : timingSend port link s = s :=
  if_neg (by obtain h | h := h <;> simp [h])

theorem becomeMaster_isMaster (s : State) : (becomeMaster s).time.master = true := by
  unfold becomeMaster
  rw [announce_master, reselect_master, logEvent_master]

/-- A slave that knows the master a frame names learns nothing from it (R567). -/
theorem learnMaster_known {s : State} {c : Nat} (hmaster : s.time.masterCoord = some c) (hslave : s.time.master = false) :
    learnMaster c s = s := by
  unfold learnMaster
  rw [if_neg (by simp [hslave]), if_neg (by simp [hmaster])]

section
variable {s : State} {port link : Nat} (hup : linkUp s (512 + 16 * port + 8 + link % 8) = true)
include hup

theorem timingReceive_unnamed (senderFt hops roundTrip : Nat) :
    timingReceive port link none senderFt hops roundTrip s = delayMeasured port link roundTrip s := by
  rw [timingReceive, if_pos hup]
  rfl

theorem timingReceive_outranked {c : Nat} (hc : outranks s c = true) (senderFt hops roundTrip : Nat) :
    timingReceive port link (some c) senderFt hops roundTrip s = becomeMaster (delayMeasured port link roundTrip s) := by
  have hc' : outranks (delayMeasured port link roundTrip s) c = true := hc
  rw [timingReceive, if_pos hup]
  dsimp only
  generalize hu : ite (outranks _ c = true) (becomeMaster _) (learnMaster c _) = u
  obtain rfl : becomeMaster (delayMeasured port link roundTrip s) = u := (if_pos hc').symm.trans hu
  exact if_neg fun h => by simp [becomeMaster_isMaster] at h

theorem timingReceive_disciplines {c senderFt hops roundTrip : Nat} {u : State} (hmaster : s.time.masterCoord = some c)
    (hslave : s.time.master = false) (hc : outranks s c = false)
    (hu : reselect { delayMeasured port link roundTrip s with
      time.lastTiming := some s.ft, torus.nearest := Tab.put port (hops, link) s.torus.nearest } = u)
    (hsource : u.time.source = 1 ∨ u.time.source = 2) (hnear : nearestPort u = some port) :
    timingReceive port link (some c) senderFt hops roundTrip s =
      applyOffset ((senderFt : Int) * 16 + ((roundTrip / 2 : Nat) : Int) - (u.time.ft : Int) * 16)
        { u with time.hops := hops + 1 } := by
  have hc' : ¬ outranks (delayMeasured port link roundTrip s) c = true := by
    show ¬ outranks s c = true
    simp [hc]
  rw [timingReceive, if_pos hup]
  dsimp only
  generalize hv : ite (outranks _ c = true) (becomeMaster _) (learnMaster c _) = v
  have hlearn : learnMaster c (delayMeasured port link roundTrip s) = delayMeasured port link roundTrip s :=
    learnMaster_known hmaster hslave
  obtain rfl : delayMeasured port link roundTrip s = v := hlearn.symm.trans ((if_neg hc').symm.trans hv)
  have hslave' : (delayMeasured port link roundTrip s).time.master = false := hslave
  have hused : ((u.time.source == 1 || u.time.source == 2) && nearestPort u == some port) = true := by simp [hsource, hnear]
  rw [if_pos ⟨hmaster, by rw [hslave']; rfl⟩]
  subst hu
  exact if_pos hused
end

/-! ### Selection of the source (R306, R311) -/

theorem reselect_same {s : State} (h : bestSource s = s.time.source) : reselect s = s := if_pos h

theorem reselect_new {s : State} {c mode : Nat} (hc : bestSource s = c) (hnew : c ≠ s.time.source)
    (hmode : (if givesValue c then 1 else if s.time.everSourced then 4 else 0) = mode) :
    reselect s = setTimeMode mode { s with time.source := c, time.correction := 0 } := by
  subst hc hmode
  exact if_neg hnew

/-- Settles O33: a timing frame sent and received, and the source taken when the oscillator's pin changes. -/
theorem timeSources : Obligations.TimeSources := by
  unfold Obligations.TimeSources
  refine ⟨?sends, ?silent, ?receives, ?pin⟩
  case sends => exact fun s port link hup hdue => congrArg Host.Outcome.next (timingSend_due hup hdue)
  case silent => exact fun s port link h => congrArg Host.Outcome.next (timingSend_not h)
  case receives =>
    exact fun s port link senderFt hops roundTrip hup =>
      ⟨congrArg Host.Outcome.next (timingReceive_unnamed hup senderFt hops roundTrip),
        fun c hc => congrArg Host.Outcome.next (timingReceive_outranked hup hc senderFt hops roundTrip),
        fun c hmaster hslave hc hsource hnear =>
          congrArg Host.Outcome.next (timingReceive_disciplines hup hmaster hslave hc rfl hsource hnear)⟩
  case pin =>
    exact fun s ok =>
      ⟨fun hsame => congrArg Host.Outcome.next (reselect_same hsame),
        fun c hc hnew =>
          ⟨fun hgives => congrArg Host.Outcome.next (reselect_new hc hnew (if_pos hgives)),
            fun hnone hever => congrArg Host.Outcome.next (reselect_new hc hnew (by simp [hnone, hever])),
            fun hnone hnever => congrArg Host.Outcome.next (reselect_new hc hnew (by simp [hnone, hnever]))⟩⟩

end Sys2Proof.Machine
end

section
/-!
SUPPORT. Statements of chapter 6 on the clocks and margins of the compute dies: step changes, AVSBus frames, a lost PLL and the margin
monitors (R329 to R337, R676 to R683).
-/

namespace Sys2Proof.Machine
open Sys2Proof.Safety

/-! ### The start of a step change (R332, R333, R677) -/

section
variable {s : State} {k : Nat} {c : StepChange} (hchange : (s.stack k).change = some c) (hphase : c.phase = .scheduled)
  (hdue : c.start ≤ s.ft) (hfirst : partnerFirst s k c = false)
include hchange hphase hdue hfirst

theorem stepStart_lowers (hlower : c.target < (s.stack k).step) : stepStart k s = setChange k .glide s := by
  unfold stepStart
  simp only [hchange]
  rw [if_pos ⟨hphase, hdue, by simp [hfirst]⟩, if_pos hlower]

theorem stepStart_raises (hraise : (s.stack k).step ≤ c.target) (hbus : s.power.avsFault.contains (pairOf k) = false) :
    stepStart k s = if pairMv s k c.target ≤ railMv s (pairOf k) then setChange k .glide s
      else setChange k .volts (sendAvs (pairOf k) 0 (pairMv s k c.target) s) := by
  unfold stepStart
  simp only [hchange]
  rw [if_pos ⟨hphase, hdue, by simp [hfirst]⟩, if_neg (Nat.not_lt.2 hraise), hbus, if_neg Bool.false_ne_true]
end

/-! ### AVSBus frames (R678 to R683) -/

theorem alertPin_changing (s : State) (rail : Nat) (p : ChangePhase) : changing (alertPin s) rail p = changing s rail p := rfl

/-- A status read with no change of the pair waiting for it clears the bus fault and sets the alert pin anew. -/
theorem statusRead_idle {s : State} {rail : Nat} (v : Nat) (hsettling : changing s rail .settling = none)
    (hlower : changing s rail .lowerVolts = none) :
    statusRead rail v s = alertPin { s with power.avsFault := s.power.avsFault.filter (· ≠ rail) } := by
  generalize hu : alertPin { s with power.avsFault := s.power.avsFault.filter (· ≠ rail) } = u
  have hsettling' : changing u rail .settling = none := hu ▸ hsettling
  have hlower' : changing u rail .lowerVolts = none := hu ▸ hlower
  unfold statusRead
  simp only [hu, hsettling', hlower', Option.isSome_none, Bool.or_self, Bool.false_eq_true, if_false, ite_self]

/-- A voltage write with no change of the pair waiting for it sets the output alone. -/
theorem wroteVolts_idle {s : State} {rail : Nat} (v : Nat) (hvolts : changing s rail .volts = none)
    (hlower : changing s rail .lowerVolts = none) :
    wroteVolts rail v s = { s with power.volts := Tab.put rail v s.power.volts } := by
  have hvolts' : changing { s with power.volts := Tab.put rail v s.power.volts } rail .volts = none := hvolts
  have hlower' : changing { s with power.volts := Tab.put rail v s.power.volts } rail .lowerVolts = none := hlower
  unfold wroteVolts
  simp only [hvolts', hlower', Option.isSome_none, Bool.false_eq_true, if_false]

section
variable {s : State} {f : AvsFrame} {rest : List AvsFrame} (hfront : s.power.avs = f :: rest)
include hfront

theorem avsDone_failed : avsDone .failed s = if f.tries < 3
    then { s with power.avs := { f with tries := f.tries + 1 } :: rest } else avsFailed f { s with power.avs := rest } := by
  simp only [avsDone, hfront]

theorem avsDone_current (v : Nat) (hcmd : f.cmd = 3) : avsDone (.ok v) s = if 29000 < v
    then { s with power.avs := rest, power.overCurrent := (s.power.overCurrent ++ [f.rail]).eraseDups }
    else { s with power.avs := rest } := by
  simp [avsDone, hfront, hcmd]

theorem avsDone_temperature (v : Nat) (hcmd : f.cmd = 4) : avsDone (.ok v) s =
    { s with power.avs := rest, power.regTemp := some (max v (s.power.regTemp.getD 0)) } := by
  simp [avsDone, hfront, hcmd]

theorem avsDone_status (v : Nat) (hcmd : f.cmd = 2) : avsDone (.ok v) s = statusRead f.rail v { s with power.avs := rest } := by
  simp [avsDone, hfront, hcmd]

theorem avsDone_write (v : Nat) (hcmd : f.cmd = 0) : avsDone (.ok v) s = wroteVolts f.rail f.value { s with power.avs := rest } := by
  simp [avsDone, hfront, hcmd]
end

/-! ### The end of a glide (R331 to R333, R677) -/

theorem changeDone_eq {s : State} {k : Nat} {c : StepChange} (hchange : (s.stack k).change = some c) :
    changeDone k s = scheduleStep k (s.updStack k fun x => { x with step := c.target, change := none }) := by
  simp only [changeDone, hchange]

section
variable {s : State} {k : Nat} {c : StepChange} (hchange : (s.stack k).change = some c) (hphase : c.phase = .glide)
include hchange hphase

theorem glideStep_early (h : ¬ c.since + (glideTicks (s.stack k).step c.target + c.slow) ≤ s.ft) : glideStep k s = s := by
  simp [glideStep, hchange, hphase, h]

theorem glideStep_raised (h : c.since + (glideTicks (s.stack k).step c.target + c.slow) ≤ s.ft)
    (hraise : (s.stack k).step < c.target) :
    glideStep k s = scheduleStep k (s.updStack k fun x => { x with step := c.target, change := none }) := by
  rw [← changeDone_eq hchange]
  simp [glideStep, hchange, hphase, h, hraise]

theorem glideStep_lowered (h : c.since + (glideTicks (s.stack k).step c.target + c.slow) ≤ s.ft)
    (hlower : c.target < (s.stack k).step) :
    glideStep k s = if railMv s (pairOf k) ≤ pairMv s k c.target ∨ s.power.avsFault.contains (pairOf k) = true
      then scheduleStep k (s.updStack k fun x => { x with step := c.target, change := none })
      else setChange k .lowerVolts (sendAvs (pairOf k) 0 (pairMv s k c.target) s) := by
  rw [← changeDone_eq hchange]
  simp [glideStep, hchange, hphase, h, Nat.lt_asymm hlower]
end

/-! ### A lost PLL (R334) -/

theorem pllLoss_locked {s : State} {k : Nat} (hpower : (s.stack k).powered = true) (hok : (s.stack k).pllOk = true) :
    pllLoss k s = raiseFault Ev.stackClock (leBytes 1 k) (s.updStack k fun x =>
      { x with pllOk := false, clocked := false, change := none, estimate := 0
               reaches := x.reaches.mapVals fun _ r => { r with enable := 0 } }) :=
  if_pos (by rw [hpower, hok]; rfl)

theorem pllRelock_lost {s : State} {k : Nat} (hpower : (s.stack k).powered = true) (hlost : (s.stack k).pllOk = false) :
    pllRelock k s =
      scheduleStep k (s.updStack k fun x => { x with pllOk := true, clocked := true, step := 0, ftCopy := s.ft }) :=
  if_pos (by rw [hpower, hlost]; rfl)

/-! ### Margin monitors (R335, R336) -/

/-- The lowest level that a reach's monitors report, no more than 7. -/
theorem foldl_min_levels {levels : List Nat} (h : ∃ l ∈ levels, l ≤ 7) :
    levels.foldl min 7 ∈ levels ∧ ∀ l ∈ levels, levels.foldl min 7 ≤ l := by
  obtain ⟨l, hl, hle⟩ := h
  have hne : levels ≠ [] := List.ne_nil_of_mem hl
  have hleast : levels.foldl min 7 = levels.min hne := by
    rw [List.foldl_min_eq_min hne]
    exact Nat.min_eq_right (Nat.le_trans (List.min_le_of_mem hl) hle)
  rw [hleast]
  exact ⟨List.min_mem hne, fun j hj => List.min_le_of_mem hj⟩

theorem marginStep_running {s : State} {k reach : Nat} (levels : List Nat) (hpower : (s.stack k).powered = true)
    (hclock : (s.stack k).clocked = true) (hreach : reach < 8) :
    marginStep k reach levels s = s.updStack k fun x =>
      { x with reaches := Tab.put reach (marginReach (levels.foldl min 7) (Tab.getD {} reach x.reaches)) x.reaches } := by
  unfold marginStep
  rw [if_pos (by rw [hpower, hclock]; rfl), Nat.mod_eq_of_lt hreach]

theorem marginStep_reaches {s : State} {k reach : Nat} (levels : List Nat) (hpower : (s.stack k).powered = true)
    (hclock : (s.stack k).clocked = true) (hreach : reach < 8) :
    ((marginStep k reach levels s).stack k).reaches = Tab.put reach
      (marginReach (levels.foldl min 7) (Tab.getD {} reach (s.stack k).reaches)) (s.stack k).reaches := by
  rw [marginStep_running levels hpower hclock hreach, State.updStack_stack]

/-- Settles O34: each command of a die's clock or bus by the equation above of its step. -/
theorem stackClocksAndMargins : Obligations.StackClocksAndMargins := by
  unfold Obligations.StackClocksAndMargins
  refine ⟨?start, ?bus, ?raised, ?lowered, ?pll, ?margin⟩
  case start =>
    exact fun s k c hchange hphase hdue hfirst =>
      ⟨fun hlower => congrArg Host.Outcome.next (stepStart_lowers hchange hphase hdue hfirst hlower),
        fun hraise hbus =>
          have hstart := congrArg (Host.Outcome.next (φ := Fault) (ρ := Refusal))
            (stepStart_raises hchange hphase hdue hfirst hraise hbus)
          ⟨fun hstands => hstart.trans (congrArg _ (if_pos hstands)),
            fun hbelow => hstart.trans (congrArg _ (if_neg (Nat.not_le.2 hbelow)))⟩⟩
  case bus =>
    intro s f rest hfront
    have hfailed := congrArg (Host.Outcome.next (φ := Fault) (ρ := Refusal)) (avsDone_failed hfront)
    refine ⟨fun hfew => hfailed.trans (congrArg _ (if_pos hfew)),
      fun hmany => hfailed.trans (congrArg _ (if_neg (Nat.not_lt.2 hmany))), fun v => ⟨?_, ?_, ?_, ?_⟩⟩
    · exact fun hcmd => congrArg Host.Outcome.next (avsDone_current hfront v hcmd)
    · exact fun hcmd => congrArg Host.Outcome.next (avsDone_temperature hfront v hcmd)
    · exact fun hcmd hsettling hlower =>
        congrArg Host.Outcome.next ((avsDone_status hfront v hcmd).trans (statusRead_idle v hsettling hlower))
    · exact fun hcmd hvolts hlower =>
        congrArg Host.Outcome.next ((avsDone_write hfront v hcmd).trans (wroteVolts_idle f.value hvolts hlower))
  case raised =>
    intro s k c hchange hphase hraise
    refine congrArg Host.Outcome.next ?_
    split
    case isTrue hpast => exact glideStep_raised hchange hphase hpast hraise
    case isFalse hearly => exact glideStep_early hchange hphase hearly
  case lowered =>
    exact fun s k c hchange hphase hlower =>
      ⟨fun hearly => congrArg Host.Outcome.next (glideStep_early hchange hphase hearly),
        fun hpast hends =>
          congrArg Host.Outcome.next ((glideStep_lowered hchange hphase hpast hlower).trans (if_pos hends)),
        fun hpast habove hbus => congrArg Host.Outcome.next
          ((glideStep_lowered hchange hphase hpast hlower).trans (if_neg (by simpa [habove] using hbus)))⟩
  case pll =>
    exact fun s k hpower =>
      ⟨fun hok => congrArg Host.Outcome.next (pllLoss_locked hpower hok),
        fun hlost => congrArg Host.Outcome.next (pllRelock_lost hpower hlost)⟩
  case margin =>
    intro s k reach levels hpower hclock hreach hlevels
    obtain ⟨hmem, hleast⟩ := foldl_min_levels hlevels
    have hreaches := marginStep_reaches levels hpower hclock hreach
    have hlevel : (Tab.getD {} reach ((marginStep k reach levels s).stack k).reaches).level = levels.foldl min 7 := by
      rw [hreaches, Tab.getD_put]; rfl
    refine ⟨marginStep k reach levels s, rfl, ?_, ?_, ?_, ?_⟩
    · rw [hreaches, marginStep_running levels hpower hclock hreach]
      rfl
    · rwa [hlevel]
    · rwa [hlevel]
    · intro j hj
      rw [hreaches, Tab.getD_put_ne _ _ _ _ _ hj]

end Sys2Proof.Machine
end

section
/-!
SUPPORT. Statements of chapter 12 on the Ethernet ports below Ecden, and of chapter 6 on the slave clock of IEEE 1588 (R309, R310,
R579 to R582, R625).
-/

namespace Sys2Proof.Machine
open Sys2Proof.Safety

/-! ### A port that serves (R579, R580, R582) -/

section
variable {s : State} {p : PortId} (hserves : portServes s p = true)
include hserves

theorem invalidStep_serving (fr : Bytes) :
    invalidStep p fr s = if frameGood s p fr then s
      else s.updEth (portNum p) fun x => { x with discards := satInc x.discards } := by
  unfold invalidStep
  cases frameGood s p fr <;> simp [hserves]

theorem bufferFullStep_full {n : Nat} (hfull : bufferFull s p n = true) :
    bufferFullStep p n s = pauseCheck p (s.updEth (portNum p) fun x => { x with fullDrops := satInc x.fullDrops }) :=
  if_pos (by rw [hserves, hfull]; rfl)

theorem pfcStep_pauses {prio quanta : Nat} (hon : pfcOn s p = true) (hprio : prio = pfcPriority s p) :
    pfcStep p prio quanta s =
      let u := s.updEth (portNum p) fun x => { x with pauseRecv := satInc x.pauseRecv }
      if quanta = 0 then unpause (portNum p) u
      else u.updEth (portNum p) fun x => { x with pausedPrio := some prio, pauseUntil := s.ft + pauseTicks s p quanta } := by
  unfold pfcStep
  rw [if_neg (by simp [hserves]), if_pos (by simp [hon, hprio])]
  rfl

theorem pfcStep_discards {prio quanta : Nat} (h : pfcOn s p = false ∨ prio ≠ pfcPriority s p) :
    pfcStep p prio quanta s = s.updEth (portNum p) fun x => { x with discards := satInc x.discards } := by
  unfold pfcStep
  rw [if_neg (by simp [hserves]), if_neg (by obtain h | h := h <;> simp [h])]

theorem arpStep_answers {mac ip target : Nat} (hset : target ≠ 0) (hmine : target = leNat (portItem s p 4)) :
    arpStep p mac ip target s = { s with net.portOut := s.net.portOut ++ [.arpReply p mac ip target] } :=
  if_pos (by simp [hserves, hset, ← hmine])

theorem neighborStep_answers {mac ip target : Nat} (hset : target ≠ 0) (hmine : target = leNat (portItem s p 5)) :
    neighborStep p mac ip target s = { s with net.portOut := s.net.portOut ++ [.neighborAdvert p mac ip target] } :=
  if_pos (by simp [hserves, hset, ← hmine])
end

theorem bufferFullStep_room {s : State} {p : PortId} {n : Nat} (h : bufferFull s p n = false) : bufferFullStep p n s = s :=
  if_neg (by simp [h])

/-- An ARP request for no address, or for another's, is dropped without a count (notes/assumptions/55.md). -/
theorem arpStep_drops {s : State} {p : PortId} {mac ip target : Nat} (h : target = 0 ∨ target ≠ leNat (portItem s p 4)) :
    arpStep p mac ip target s = s :=
  if_neg (by obtain h | h := h <;> simp [h])

/-- So is a neighbor solicitation. -/
theorem neighborStep_drops {s : State} {p : PortId} {mac ip target : Nat} (h : target = 0 ∨ target ≠ leNat (portItem s p 5)) :
    neighborStep p mac ip target s = s :=
  if_neg (by obtain h | h := h <;> simp [h])

/-- Any of the five commands of a port does nothing where the port does not serve. -/
theorem exec_notServing {s : State} {p : PortId} (h : portServes s p = false) {c : Instr} {fr : Bytes}
    {n prio quanta mac ip target : Nat} (hc : c ∈ [Instr.ethFrameInvalid p fr, .ethRxBufferFull p n,
      .pfcPauseReceived p prio quanta, .arpRequest p mac ip target, .neighborSolicitation p mac ip target]) :
    exec c s = .next s := by
  simp only [List.mem_cons, List.not_mem_nil, or_false] at hc
  obtain rfl | rfl | rfl | rfl | rfl := hc
  · exact congrArg Host.Outcome.next (if_neg (by simp [h]))
  · exact congrArg Host.Outcome.next (if_neg (by simp [h]))
  · exact congrArg Host.Outcome.next (if_pos (by simp [h]))
  · exact congrArg Host.Outcome.next (if_neg (by simp [h]))
  · exact congrArg Host.Outcome.next (if_neg (by simp [h]))

/-! ### The slave clock (R309, R310) -/

/-- A PTP message counts: IEEE 1588 is enabled, the port and domain are the configured ones, and the link is up. -/
def PtpHeard (s : State) (p : PortId) (domain : Nat) : Prop :=
  (ptpItem s).testBit 0 = true ∧ ptpPort s = portNum p ∧ bitsOf (ptpItem s) 15 8 = domain ∧ (s.ethPort (portNum p)).up = true

theorem ptpStep_unheard {s : State} {p : PortId} {domain : Nat} (kind : PtpKind) (h : (ptpItem s).testBit 0 = false ∨
    ptpPort s ≠ portNum p ∨ bitsOf (ptpItem s) 15 8 ≠ domain ∨ (s.ethPort (portNum p)).up = false) :
    ptpStep p domain kind s = s :=
  if_pos (by obtain h | h | h | h := h <;> simp [h])

section
variable {s : State} {p : PortId} {domain : Nat} (hheard : PtpHeard s p domain)
include hheard

theorem ptpStep_sync : ptpStep p domain (.sync true) s =
    { s with time.ptp := { s.time.ptp with syncAt := some s.ft, master := none, reqAt := none } } := by
  obtain ⟨hon, hport, hdomain, hup⟩ := hheard
  exact if_neg (by simp [hon, hport, hdomain, hup])

theorem ptpStep_followUp {ns : Nat} (hsync : s.time.ptp.syncAt.isSome = true) :
    ptpStep p domain (.followUp ns) s = { s with time.ptp := { s.time.ptp with master := some ns } } := by
  obtain ⟨hon, hport, hdomain, hup⟩ := hheard
  exact (if_neg (by simp [hon, hport, hdomain, hup])).trans (if_pos hsync)

theorem ptpStep_delayReqSent (hmaster : s.time.ptp.master.isSome = true) :
    ptpStep p domain .delayReqSent s =
      { s with time.ptp := { s.time.ptp with reqAt := some s.ft }, net.portOut := s.net.portOut ++ [.delayReq p] } := by
  obtain ⟨hon, hport, hdomain, hup⟩ := hheard
  exact (if_neg (by simp [hon, hport, hdomain, hup])).trans (if_pos hmaster)

/-- The four instants give the offset ((t1 − t2) + (t4 − t3)) / 2, where the port is then the source (R310). -/
theorem ptpStep_delayResp {ns t1 t2 t3 : Nat} (hsync : s.time.ptp.syncAt = some t2) (hmaster : s.time.ptp.master = some t1)
    (hreq : s.time.ptp.reqAt = some t3) :
    ptpStep p domain (.delayResp ns) s =
      let u := reselect { s with time.ptp := { s.time.ptp with inSync := true, reqAt := none } }
      if u.time.source = 3 + portNum p then
        applyOffset (Int.tdiv (2 * (t1 : Int) - 16 * (t2 : Int) + (2 * (ns : Int) - 16 * (t3 : Int))) 2) u else u := by
  obtain ⟨hon, hport, hdomain, hup⟩ := hheard
  rw [ptpStep, if_neg (by simp [hon, hport, hdomain, hup])]
  simp only [hsync, hmaster, hreq]

theorem ptpStep_silent : ptpStep p domain .silent s = reselect { s with time.ptp := {} } := by
  obtain ⟨hon, hport, hdomain, hup⟩ := hheard
  exact if_neg (by simp [hon, hport, hdomain, hup])
end

/-- Settles O57: a port that serves handles each frame by the equation above of its command, and one that does not ignores it; the
slave clock moves on with each message that counts. -/
theorem ethernetPorts : Obligations.EthernetPorts := by
  unfold Obligations.EthernetPorts
  refine ⟨?serving, ?notServing, ?unheard, ?heard, ?link⟩
  case serving =>
    intro s p hserves
    refine ⟨?invalid, ?full, ?pauses, ?discards, ?room, ?noArp, ?noNeighbor, ?answers⟩
    case invalid => exact fun fr => congrArg Host.Outcome.next (invalidStep_serving hserves fr)
    case full => exact fun n hfull => congrArg Host.Outcome.next (bufferFullStep_full hserves hfull)
    case pauses => exact fun quanta hon => congrArg Host.Outcome.next (pfcStep_pauses hserves hon rfl)
    case discards => exact fun prio quanta h => congrArg Host.Outcome.next (pfcStep_discards hserves h)
    case room => exact fun n hroom => congrArg Host.Outcome.next (bufferFullStep_room hroom)
    case noArp => exact fun mac ip target h => congrArg Host.Outcome.next (arpStep_drops h)
    case noNeighbor => exact fun mac ip target h => congrArg Host.Outcome.next (neighborStep_drops h)
    case answers =>
      exact fun mac ip target hset =>
        ⟨fun hmine => congrArg Host.Outcome.next (arpStep_answers hserves hset hmine),
          fun hmine => congrArg Host.Outcome.next (neighborStep_answers hserves hset hmine)⟩
  case notServing => exact fun s p c fr n prio quanta mac ip target h hc => exec_notServing h hc
  case unheard => exact fun s p domain kind h => congrArg Host.Outcome.next (ptpStep_unheard kind h)
  case heard =>
    intro s p domain hon hport hdomain hup
    have hheard : PtpHeard s p domain := ⟨hon, hport, hdomain, hup⟩
    exact ⟨congrArg Host.Outcome.next (ptpStep_sync hheard),
      fun ns hsync => congrArg Host.Outcome.next (ptpStep_followUp hheard hsync),
      fun hmaster => congrArg Host.Outcome.next (ptpStep_delayReqSent hheard hmaster),
      fun ns t1 t2 t3 hsync hmaster hreq => congrArg Host.Outcome.next (ptpStep_delayResp hheard hsync hmaster hreq),
      congrArg Host.Outcome.next (ptpStep_silent hheard)⟩
  case link => exact fun s p up => rfl

end Sys2Proof.Machine
end

section
/-!
SUPPORT. Statements of chapter 9 on the handover of a light group's lane: its start, its drain, its spare, the switch, the end of
the mirror, and a laser that fails (R456, R460 to R466, R470).
-/

namespace Sys2Proof.Machine

/-! ### An update reads its own unit alone -/

theorem updGroup_congr {s : State} {g : Nat} {f f' : LightGroup → LightGroup} (h : f (s.group g) = f' (s.group g)) :
    s.updGroup g f = s.updGroup g f' := by
  unfold State.updGroup
  rw [h]

theorem updLaser_congr {s : State} {k : Nat} {f f' : Laser → Laser} (h : f (s.laser k) = f' (s.laser k)) :
    s.updLaser k f = s.updLaser k f' := by
  unfold State.updLaser
  rw [h]

/-! ### The start (R460, R464 to R466, R470) -/

section
variable {s : State} {g : Nat}

theorem handStart_baseReset (hreset : s.base.reset.isSome = true) : handStart g s = s := if_pos hreset

theorem handStart_noLane (hreset : s.base.reset = none) (hidle : (s.group g).handover = none) (hlane : nextLane s g = none) :
    handStart g s = s := by
  simp [handStart, hreset, hidle, hlane]

theorem handStart_noSpare {lane : Nat} (hreset : s.base.reset = none) (hidle : (s.group g).handover = none)
    (hlane : nextLane s g = some lane) (hspare : freeSpare s g lane = none) : handStart g s = noSpare g lane s := by
  simp [handStart, hreset, hidle, hlane, hspare]

/-- A lane that WR carries already starts past the drain; any other data lane is named in the relief map (R460, R470). -/
theorem handStart_begins {lane k : Nat} (hreset : s.base.reset = none) (hidle : (s.group g).handover = none)
    (hlane : nextLane s g = some lane) (hspare : freeSpare s g lane = some k) :
    handStart g s =
      let u := s.updGroup g fun x =>
        { x with handover := some { lane := lane, spare := k, since := s.ft
                                    phase := if (s.group g).relieved = some lane then .drained else .mirrored } }
      if lane = 16 ∨ (s.group g).relieved = some lane then u else relieve g lane u := by
  simp only [handStart, hreset, hidle, hlane, hspare]
  rfl

theorem handStart_again {h : Handover} (hreset : s.base.reset = none) (hheld : (s.group g).handover = some h)
    (hphase : h.phase = .waiting) (hup : (groupLinks g).all (linkUp s) = true) :
    handStart g s =
      setPhase g .mirrored (if h.lane = 16 ∨ (s.group g).relieved = some h.lane then s else relieve g h.lane s) := by
  simp [handStart, hreset, hheld, hphase, hup]

theorem handStart_linkDown {h : Handover} (hheld : (s.group g).handover = some h)
    (hdown : (groupLinks g).all (linkUp s) = false) : handStart g s = s := by
  cases hreset : s.base.reset with
  | some r => exact handStart_baseReset (by rw [hreset]; rfl)
  | none =>
    simp [handStart, hreset, hheld, hdown]

/-! ### How long a phase has stood -/

theorem inPhase_iff {p : HandPhase} {n : Nat} :
    inPhase s g p n = true ↔ ∃ h, (s.group g).handover = some h ∧ h.phase = p ∧ h.since + n ≤ s.ft := by
  simp [inPhase, Option.any_eq_true]

theorem inPhase_eq_false_of_phase {h : Handover} {p : HandPhase} (hh : (s.group g).handover = some h) (hp : h.phase ≠ p)
    (n : Nat) : inPhase s g p n = false := by
  simp [inPhase, hh, hp]

theorem inPhase_eq_false_of_early {h : Handover} {n : Nat} (hh : (s.group g).handover = some h) (hn : s.ft < h.since + n)
    (p : HandPhase) : inPhase s g p n = false := by
  simp [inPhase, hh, hn]

theorem inPhase_of_le {p : HandPhase} {m n : Nat} (hmn : m ≤ n) (hn : inPhase s g p n = true) : inPhase s g p m = true := by
  obtain ⟨h, hh, hp, hsince⟩ := inPhase_iff.1 hn
  exact inPhase_iff.2 ⟨h, hh, hp, by omega⟩

/-! ### The drain and the spare's tuning (R460, R463) -/

theorem handDrain_ends {h : Handover} (hh : (s.group g).handover = some h) (hends : inPhase s g .mirrored 128 = true) :
    handDrain g s = s.updGroup g fun x => { x with
      handover := some (match h.tunedAt with
        | some t => { h with phase := .tuned, since := max t h.since }
        | none => { h with phase := .drained, since := s.ft }) } :=
  (if_pos hends).trans (updGroup_congr (by rw [hh]; rfl))

theorem spareTunedStep_none
    (h : (inPhase s g .mirrored 0 = false ∧ inPhase s g .drained 0 = false) ∨
      ((s.group g).handover.any fun h => h.tunedAt.isNone) = false) (ok : Bool) : spareTunedStep g ok s = s := by
  refine if_pos ?_
  rcases h with ⟨hmirrored, hdrained⟩ | htuned
  · simp [hmirrored, hdrained]
  · simp [htuned]

section
variable (hstands : inPhase s g .mirrored 0 = true ∨ inPhase s g .drained 0 = true)
  (huntuned : ((s.group g).handover.any fun h => h.tunedAt.isNone) = true)
include hstands huntuned

/-- While a spare tunes, the step hangs on its result and on its time alone. -/
theorem spareTunedStep_tunes (ok : Bool) :
    spareTunedStep g ok s =
      if ok && !inPhase s g .drained 65409 && !inPhase s g .mirrored 65537 then spareTuned g s else spareReject g s :=
  if_neg (by rcases hstands with h | h <;> simp [h, huntuned])

theorem spareTunedStep_fails : spareTunedStep g false s = spareReject g s := spareTunedStep_tunes hstands huntuned false

theorem spareTunedStep_late (hlate : inPhase s g .drained 65409 = true ∨ inPhase s g .mirrored 65537 = true) :
    spareTunedStep g true s = spareReject g s :=
  (spareTunedStep_tunes hstands huntuned true).trans (if_neg (by rcases hlate with h | h <;> simp [h]))

theorem spareTunedStep_inTime (hdrained : inPhase s g .drained 65409 = false)
    (hmirrored : inPhase s g .mirrored 65537 = false) : spareTunedStep g true s = spareTuned g s :=
  (spareTunedStep_tunes hstands huntuned true).trans (if_pos (by simp [hdrained, hmirrored]))
end

section
variable {h : Handover} (hh : (s.group g).handover = some h) (huntuned : h.tunedAt = none) (hbegun : h.since ≤ s.ft)
include hh huntuned hbegun

theorem spareTunedStep_drained (hphase : h.phase = .drained) (hearly : s.ft < h.since + 65409) :
    spareTunedStep g true s = (s.updLaser h.spare fun x => { x with drive := 196 }).updGroup g fun x =>
      { x with handover := some { h with phase := .tuned, since := s.ft, tunedAt := some s.ft } } := by
  rw [spareTunedStep_inTime (.inr (inPhase_iff.2 ⟨h, hh, hphase, hbegun⟩)) (by simp [hh, huntuned])
    (inPhase_eq_false_of_early hh hearly _) (inPhase_eq_false_of_phase hh (by simp [hphase]) _)]
  simp only [spareTuned, hh, hphase]
  rfl

/-- A spare tuned during the drain stays in it, with its own instant kept. -/
theorem spareTunedStep_mirrored (hphase : h.phase = .mirrored) (hearly : s.ft < h.since + 65537) :
    spareTunedStep g true s = (s.updLaser h.spare fun x => { x with drive := 196 }).updGroup g fun x =>
      { x with handover := some { h with tunedAt := some s.ft } } := by
  rw [spareTunedStep_inTime (.inl (inPhase_iff.2 ⟨h, hh, hphase, hbegun⟩)) (by simp [hh, huntuned])
    (inPhase_eq_false_of_phase hh (by simp [hphase]) _) (inPhase_eq_false_of_early hh hearly _)]
  simp only [spareTuned, hh, hphase]
  rfl
end

/-! ### The switch (R460, R465) -/

/-- The laser that lit a lane before the switch: a spare is rejected and serves no lane, the lane's own keeps its lane (R460). -/
def goneDark (x : Laser) : Laser :=
  { x with lit := false, drive := 0, state := if x.state = 6 then 7 else 4, serves := if x.state = 6 then 31 else x.serves }

/-- A spare that lights a lane from the switch on. -/
def litFor (lane : Nat) (x : Laser) : Laser :=
  { x with lit := true, state := 6, serves := lane, fade := 0, level := 0, quiet := 0, drive := 196 }

section
variable {h : Handover} (hh : (s.group g).handover = some h)
include hh

theorem handSwitch_unverified (hphase : h.phase ≠ .verified) : handSwitch g s = s := by
  simp only [handSwitch, hh]
  exact if_neg hphase

variable (hphase : h.phase = .verified)
include hphase

theorem handSwitch_alone (hold : servingLaser s g h.lane = none ∨ servingLaser s g h.lane = some h.spare) :
    handSwitch g s = setPhase g .switched (s.updLaser h.spare (litFor h.lane)) := by
  simp only [handSwitch, hh, hphase, if_true]
  rcases hold with hold | hold
  · simp only [hold]
    rfl
  · simp only [hold, if_true]
    rfl

theorem handSwitch_old {k : Nat} {f : Laser → Laser} (hold : servingLaser s g h.lane = some k) (hk : k ≠ h.spare)
    (hf : f (s.laser k) = goneDark (s.laser k)) :
    handSwitch g s = setPhase g .switched ((s.updLaser k f).updLaser h.spare (litFor h.lane)) := by
  rw [updLaser_congr hf]
  simp only [handSwitch, hh, hphase, hold, if_true, if_neg hk]
  rfl
end

/-! ### The end of the mirror (R460, R467) -/

/-- A group as the mirror of a lane stops: the lane leaves WR, and one that the links ran without takes its place. -/
def mirrorStopped (lane : Nat) (x : LightGroup) : LightGroup :=
  let kept := if x.relieved = some lane then none else x.relieved
  { x with
    handover := none, queue := x.queue.erase lane, handovers := satInc x.handovers, permanent := false
    relieved := kept.or x.dropped
    relievedAt := if kept.isNone then x.droppedAt else x.relievedAt
    dropped := if kept.isNone then none else x.dropped }

theorem mirrorStopped_relieved {x : LightGroup} {lane : Nat} (h : x.relieved = some lane) :
    (mirrorStopped lane x).relieved = x.dropped ∧ (mirrorStopped lane x).dropped = none := by
  simp [mirrorStopped, h]

theorem handStop_early {h : Handover} (hh : (s.group g).handover = some h) (hearly : inPhase s g .checked 128 = false) :
    handStop g s = s := by
  simp only [handStop, hh]
  exact if_neg (by simp [hearly])

theorem handStop_ends {h : Handover} (hh : (s.group g).handover = some h) (hends : inPhase s g .checked 128 = true) :
    handStop g s =
      logEvent Ev.laserSpared (leBytes 1 (groupCode g) ++ leBytes 1 h.lane ++ leBytes 1 (spareCode h.spare))
        (s.updGroup g (mirrorStopped h.lane)) := by
  simp only [handStop, hh]
  exact if_pos hends
end

/-! ### A laser that fails (R456, R470) -/

section
variable {s : State} {r : LaserRef}

theorem failTrip_none (h : (s.laser (laserKey r)).lit = false ∨ 16 < (s.laser (laserKey r)).serves) : failTrip r s = s := by
  refine if_neg ?_
  rcases h with hdark | hother
  · simp [hdark]
  · simp [hother]

variable (hlit : (s.laser (laserKey r)).lit = true) (hserves : (s.laser (laserKey r)).serves ≤ 16)
include hlit hserves

theorem failTrip_sudden (hwr : (s.laser (laserKey r)).serves ≠ 16)
    (hlane : (s.group (groupOfKey (laserKey r))).relieved ≠ some (s.laser (laserKey r)).serves)
    (hspare : (s.laser (laserKey r)).state ≠ 6) :
    failTrip r s =
      laserFail (laserKey r) (s.updGroup (groupOfKey (laserKey r)) fun x => { x with fails := satInc x.fails }) :=
  (if_pos (by simp [hlit, hserves])).trans (congrArg _ (if_pos (by simp [hwr, hlane, hspare])))

theorem failTrip_relieved
    (h : (s.laser (laserKey r)).serves = 16 ∨
      (s.group (groupOfKey (laserKey r))).relieved = some (s.laser (laserKey r)).serves ∨ (s.laser (laserKey r)).state = 6) :
    failTrip r s = laserFail (laserKey r) s := by
  refine (if_pos (by simp [hlit, hserves])).trans (congrArg _ (if_neg ?_))
  rcases h with hwr | hlane | hspare
  · simp [hwr]
  · simp [hlane]
  · simp [hspare]
end

/-- Settles O45: each command of a handover by the equation above of its step, at the group's phase. -/
theorem handoverOfALane : Obligations.HandoverOfALane := by
  unfold Obligations.HandoverOfALane
  refine ⟨?starts, ?again, fun s u hreset => congrArg Host.Outcome.next (handStart_baseReset hreset), ?steps, ?trips⟩
  case starts =>
    intro s u hidle hreset
    refine ⟨fun hlane => congrArg Host.Outcome.next (handStart_noLane hreset hidle hlane), fun lane hlane =>
      ⟨fun k hspare => ?_, fun hspare => congrArg Host.Outcome.next (handStart_noSpare hreset hidle hlane hspare)⟩⟩
    have hbegins := congrArg (Host.Outcome.next (φ := Fault) (ρ := Refusal)) (handStart_begins hreset hidle hlane hspare)
    refine ⟨fun honWr => hbegins.trans ?_, fun hoff => ⟨fun hwr => hbegins.trans ?_, fun hdata => hbegins.trans ?_⟩⟩
    · simp [honWr]
    · simp only [if_neg hoff, if_pos (Or.inl hwr : lane = 16 ∨ _)]
    · simp only [if_neg hoff, if_neg (not_or.2 ⟨hdata, hoff⟩)]
      rfl
  case again =>
    intro s u h hheld hphase
    refine ⟨fun hreset hup => ?_, fun hdown => congrArg Host.Outcome.next (handStart_linkDown hheld hdown)⟩
    have hagain := congrArg (Host.Outcome.next (φ := Fault) (ρ := Refusal)) (handStart_again hreset hheld hphase hup)
    exact ⟨fun honWr => hagain.trans (by rw [if_pos honWr]),
      fun hdata hoff => hagain.trans (by rw [if_neg (not_or.2 ⟨hdata, hoff⟩)]; rfl)⟩
  case steps =>
    intro s u
    refine ⟨fun hearly => congrArg Host.Outcome.next (if_neg (by simp [hearly])), ?late, ?lateDrained, ?fails, ?none,
      rfl, rfl, rfl, rfl, fun h hh => ?held⟩
    case late =>
      exact fun hlate _ huntuned => congrArg Host.Outcome.next
        (spareTunedStep_late (.inl (inPhase_of_le (Nat.zero_le _) hlate)) huntuned (.inr hlate))
    case lateDrained =>
      exact fun hlate huntuned => congrArg Host.Outcome.next
        (spareTunedStep_late (.inr (inPhase_of_le (Nat.zero_le _) hlate)) huntuned (.inl hlate))
    case fails => exact fun hstands huntuned => congrArg Host.Outcome.next (spareTunedStep_fails hstands huntuned)
    case none => exact fun ok h => congrArg Host.Outcome.next (spareTunedStep_none h ok)
    case held =>
      refine ⟨?drain, ?drained, ?mirrored, ?switch, ?unverified, ?mirrors, ?stops⟩
      case drain => exact fun hends => congrArg Host.Outcome.next (handDrain_ends hh hends)
      case drained =>
        exact fun huntuned hphase hbegun hearly =>
          congrArg Host.Outcome.next (spareTunedStep_drained hh huntuned hbegun hphase hearly)
      case mirrored =>
        exact fun huntuned hphase hbegun hearly =>
          congrArg Host.Outcome.next (spareTunedStep_mirrored hh huntuned hbegun hphase hearly)
      case switch =>
        exact fun hphase =>
          ⟨fun hold => congrArg Host.Outcome.next (handSwitch_alone hh hphase (.inl hold)),
            fun hold => congrArg Host.Outcome.next (handSwitch_alone hh hphase (.inr hold)),
            fun k hold hk =>
              ⟨fun hstate => congrArg Host.Outcome.next (handSwitch_old hh hphase hold hk (by simp [goneDark, hstate])),
                fun hstate => congrArg Host.Outcome.next (handSwitch_old hh hphase hold hk (by simp [goneDark, hstate]))⟩⟩
      case unverified => exact fun hphase => congrArg Host.Outcome.next (handSwitch_unverified hh hphase)
      case mirrors => exact fun hearly => congrArg Host.Outcome.next (handStop_early hh hearly)
      case stops =>
        exact fun hends =>
          ⟨mirrorStopped h.lane, congrArg Host.Outcome.next (handStop_ends hh hends), rfl, rfl, mirrorStopped_relieved⟩
  case trips =>
    exact fun s r =>
      ⟨fun hdark => congrArg Host.Outcome.next (failTrip_none (.inl hdark)),
        fun hother => congrArg Host.Outcome.next (failTrip_none (.inr hother)),
        fun hlit hserves =>
          ⟨fun hwr hlane hspare => congrArg Host.Outcome.next (failTrip_sudden hlit hserves hwr hlane hspare),
            fun h => congrArg Host.Outcome.next (failTrip_relieved hlit hserves h)⟩⟩

end Sys2Proof.Machine
end

section
/-!
SUPPORT. Statements of chapter 10 on a new buffer's pages and handle, and on device memory at reset (R499, R504 to R507).
-/

namespace Sys2Proof.Machine
open Sys2Proof.Safety

/-! ### A new buffer (R504 to R506) -/

/-- A fold that answers what it had or the element it meets answers what it began with or an element of the list. -/
theorem foldl_option_mem {α : Type} {f : Option α → α → Option α} (hf : ∀ a x p, f a x = some p → a = some p ∨ p = x) {l : List α}
    {a : Option α} {p : α} (h : l.foldl f a = some p) : a = some p ∨ p ∈ l := by
  induction l generalizing a with
  | nil => exact .inl h
  | cons x l ih =>
    rcases ih h with hx | hmem
    · rcases hf a x p hx with hbegan | rfl
      · exact .inl hbegan
      · exact .inr List.mem_cons_self
    · exact .inr (List.mem_cons_of_mem _ hmem)

/-- The run found ends within the buffer window's pages and meets no run in use (R506). -/
theorem findRun_some {s : State} {n p : Nat} (h : findRun s n = some p) :
    p + n ≤ bufferCapacity s / 65536 ∧ ∀ u ∈ usedRuns s, p + n ≤ u.1 ∨ u.1 + u.2 ≤ p := by
  have hmem := (foldl_option_mem (by
    rintro (_ | y) x q hq
    · exact .inr (Option.some.inj hq).symm
    · have hchoice : min x y = x ∨ min x y = y := by omega
      rcases hchoice with hmin | hmin
      · exact .inr (Option.some.inj (hq.symm.trans (congrArg some hmin)))
      · exact .inl ((congrArg some hmin).symm.trans hq)) h).resolve_left nofun
  simpa using (List.mem_filter.1 hmem).2

theorem le_ceilDiv_mul (a : Nat) {b : Nat} (hb : 0 < b) : a ≤ ceilDiv a b * b := by
  have := Nat.lt_div_mul_add (a := a + b - 1) hb
  unfold ceilDiv
  omega

/-- The state after the buffer table lists a buffer at an index, whose next generation is one higher (R505). -/
def buffered (idx : Nat) (b : Buffer) (s : State) : State :=
  { s with mem.buffers := Tab.put idx b s.mem.buffers, mem.gens := Tab.put idx ((b.gen + 1) % 2 ^ 14) s.mem.gens }

/-- A handle of an index the table can hold names the buffer listed there with its generation (R504, R505). -/
theorem bufOf_buffered {idx : Nat} (h0 : idx ≠ 0) (hlt : idx < 2 ^ 18) (b : Buffer) (s : State) :
    bufOf (buffered idx b s) (bufHandle idx b.gen) = some b := by
  have hidx : bufHandle idx b.gen % 2 ^ 18 = idx := by unfold bufHandle; omega
  have hgen : bufHandle idx b.gen / 2 ^ 18 = b.gen := by unfold bufHandle; omega
  rw [bufOf, hidx, hgen, if_neg h0]
  simp [buffered]

/-- A creation that is not refused lists a buffer of the size asked for at a free index, on the pages of a free run (R506). -/
theorem createBuffer_inr {size : Nat} {r : Option (Nat × Nat × Nat × Nat)} {s t : State} {h base : Nat}
    (hc : createBuffer size r s = .inr (h, base, t)) :
    ∃ (idx : Nat) (b : Buffer), Tab.freeKey 1 262143 s.mem.buffers = some idx ∧ findRun s b.pages = some b.page ∧ b.size = size ∧
      b.pages = ceilDiv size 65536 ∧ b.remote = r ∧ h = bufHandle idx b.gen ∧ base = bufBase b ∧ t = buffered idx b s := by
  unfold createBuffer at hc
  dsimp only at hc
  split at hc
  · cases hc
  · split at hc
    · cases hc
    · next idx hidx =>
      split at hc
      · cases hc
      · split at hc
        · cases hc
        · next p hp =>
          cases hc
          exact ⟨idx, ⟨Tab.getD 0 idx s.mem.gens, p, ceilDiv size 65536, size, 0, r⟩, hidx, hp, rfl, rfl, rfl, rfl, rfl, rfl⟩

/-- Settles O10, by the run of pages and the index that a creation finds free. -/
theorem newBufferTakesFreePages : Obligations.NewBufferTakesFreePages := by
  intro size r s t h base hc
  obtain ⟨idx, b, hidx, hrun, hsize, hpages, hremote, rfl, hbase, rfl⟩ := createBuffer_inr hc
  obtain ⟨-, hge, hlt, -⟩ := Tab.freeKey_some hidx
  obtain ⟨hfit, hfree⟩ := findRun_some hrun
  refine ⟨b, bufOf_buffered (by omega) (by omega) b s, hsize, hremote, hbase, ?covers, ?fits, hfree, rfl⟩
  case covers => exact hpages ▸ le_ceilDiv_mul size (by decide)
  case fits => omega

/-! ### Reset -/

/-- Settles O39: every table that the canonical form speaks of is empty at reset. -/
theorem resetIsCanonical : Obligations.ResetIsCanonical := by
  have hmem : canonicalBytes State.reset.mem.base = true ∧ ShadowsOk State.reset.mem.shadows ∧ PinsOk State.reset.mem.pins ∧
      PresOk State.reset.mem.preImages := ⟨canonicalBytes_nil, shadowsOk_nil, pinsOk_nil, presOk_nil⟩
  exact ⟨(canonical_iff _).2 ⟨hmem, canonicalBytes_nil, graphsOk_nil, jobsOk_nil⟩, rfl, rfl, rfl⟩

end Sys2Proof.Machine
end

section
/-!
SUPPORT. Statements of chapter 10 on the fold of a committed version: the byte a committed read returns, written as the shadows of its
page laid over the page's entry one after another, and what a berth's fold of its share leaves of it (R359, R510, R511).
-/

namespace Sys2Proof.Tab

variable {α : Type}

theorem find?_filter_key (q : Nat → Bool) (k : Nat) (t : Tab α) :
    find? k (List.filter (fun c => q c.1) t) = if q k then find? k t else none := by
  induction t with
  | nil => simp
  | cons c t ih =>
    by_cases hk : c.1 = k
    · subst hk
      by_cases hq : q c.1 <;> simp [hq, find?, ih]
    · by_cases hq : q c.1 <;> simp [hq, find?, ih, hk]

/-- What laying entries one by one at the keys `f` gives them leaves at such a key. -/
theorem find?_lay {f : Nat → Nat} (hf : Function.Injective f) (k : Nat) (l : Tab α) (hl : sorted l = true) (t : Tab α) :
    find? (f k) (l.foldl (fun t c => put (f c.1) c.2 t) t) = (find? k l).or (find? (f k) t) := by
  induction l generalizing t with
  | nil => simp
  | cons c l ih =>
    obtain ⟨hlt, hsorted⟩ := (sorted_cons c l).1 hl
    rw [List.foldl_cons, ih hsorted]
    by_cases hk : c.1 = k
    · subst hk
      simp [find?, find?_none_of_lt hlt]
    · simp [find?, hk, find?_put_ne (f c.1) (f k) c.2 t fun e => hk (hf e).symm]

theorem find?_lay_ne {f : Nat → Nat} {a : Nat} {l : Tab α} (h : ∀ c ∈ l, a ≠ f c.1) (t : Tab α) :
    find? a (l.foldl (fun t c => put (f c.1) c.2 t) t) = find? a t := by
  induction l generalizing t with
  | nil => rfl
  | cons c l ih =>
    rw [List.foldl_cons, ih fun x hx => h x (List.mem_cons_of_mem _ hx), find?_put_ne _ _ _ _ (h c List.mem_cons_self)]

end Sys2Proof.Tab

namespace Sys2Proof.Machine
open Sys2Proof.Safety

/-! ### Shadows in rising order of tag -/

theorem insertShadow_of_le {h : Shadow} {l : List Shadow} (hl : ∀ x ∈ l, h.tag ≤ x.tag) : insertShadow h l = h :: l := by
  cases l with
  | nil => rfl
  | cons x l => exact if_pos (hl x List.mem_cons_self)

theorem insertShadow_perm (h : Shadow) (l : List Shadow) : (insertShadow h l).Perm (h :: l) := by
  induction l with
  | nil => exact .refl _
  | cons x l ih =>
    unfold insertShadow
    split
    · exact .refl _
    · exact (ih.cons x).trans (.swap h x l)

theorem byTag_perm (l : List Shadow) : (byTag l).Perm l := by
  induction l with
  | nil => exact .refl _
  | cons h l ih => exact (insertShadow_perm h (byTag l)).trans (ih.cons h)

theorem insertShadow_rising (h : Shadow) {l : List Shadow} (hl : l.Pairwise (·.tag ≤ ·.tag)) :
    (insertShadow h l).Pairwise (·.tag ≤ ·.tag) := by
  induction l with
  | nil => exact List.pairwise_singleton _ _
  | cons x l ih =>
    obtain ⟨hx, hrest⟩ := List.pairwise_cons.1 hl
    unfold insertShadow
    split
    · next hle =>
      refine List.pairwise_cons.2 ⟨fun y hy => ?_, hl⟩
      rcases List.mem_cons.1 hy with rfl | hy
      · exact hle
      · exact Nat.le_trans hle (hx y hy)
    · next hgt =>
      refine List.pairwise_cons.2 ⟨fun y hy => ?_, ih hrest⟩
      rcases (mem_insertShadow y h l).1 hy with rfl | hy
      · exact Nat.le_of_not_le hgt
      · exact hx y hy

theorem byTag_rising (l : List Shadow) : (byTag l).Pairwise (·.tag ≤ ·.tag) := by
  induction l with
  | nil => exact .nil
  | cons h l ih => exact insertShadow_rising h ih

theorem insertShadow_map {g : Shadow → Shadow} (hg : ∀ x, (g x).tag = x.tag) (h : Shadow) (l : List Shadow) :
    insertShadow (g h) (l.map g) = (insertShadow h l).map g := by
  induction l with
  | nil => rfl
  | cons x l ih =>
    simp only [insertShadow, List.map_cons, hg, ih]
    split <;> rfl

theorem byTag_map {g : Shadow → Shadow} (hg : ∀ x, (g x).tag = x.tag) (l : List Shadow) : byTag (l.map g) = (byTag l).map g := by
  induction l with
  | nil => rfl
  | cons h l ih =>
    rw [List.map_cons, show byTag (g h :: l.map g) = insertShadow (g h) (byTag (l.map g)) from rfl, ih, insertShadow_map hg]
    rfl

theorem filter_insertShadow (q : Shadow → Bool) (h : Shadow) {l : List Shadow} (hl : l.Pairwise (·.tag ≤ ·.tag)) :
    (insertShadow h l).filter q = if q h then insertShadow h (l.filter q) else l.filter q := by
  induction l with
  | nil => simp [insertShadow, List.filter_cons]
  | cons x l ih =>
    obtain ⟨hx, hrest⟩ := List.pairwise_cons.1 hl
    by_cases hle : h.tag ≤ x.tag
    · have hall : ∀ y ∈ (x :: l).filter q, h.tag ≤ y.tag := by
        intro y hy
        rcases List.mem_cons.1 (List.mem_filter.1 hy).1 with rfl | hy
        · exact hle
        · exact Nat.le_trans hle (hx y hy)
      rw [insertShadow_of_le hall, insertShadow, if_pos hle, List.filter_cons]
    · rw [insertShadow, if_neg hle, List.filter_cons, List.filter_cons, ih hrest]
      by_cases hqx : q x <;> by_cases hqh : q h <;> simp [hqx, hqh, insertShadow, hle]

theorem byTag_filter (q : Shadow → Bool) (l : List Shadow) : byTag (l.filter q) = (byTag l).filter q := by
  induction l with
  | nil => rfl
  | cons h l ih =>
    rw [List.filter_cons, show byTag (h :: l) = insertShadow h (byTag l) from rfl, filter_insertShadow q h (byTag_rising l), ← ih]
    split <;> rfl

/-! ### A committed byte as shadows laid over a page's entry (R359, R510) -/

/-- The byte at offset `o` of a page after a shadow is laid over it: the shadow's, in a share that is not folded. -/
def overByte (o : Nat) (b : Byte) (h : Shadow) : Byte := if h.unfolded.contains (memBerthOf o) then Tab.getD 0 o h.cells else b

/-- The byte at address `a` after those of the shadows that are of its page are laid over it in turn. -/
def laidByte (a : Nat) (l : List Shadow) (b : Byte) : Byte :=
  (l.filter fun h => h.page = pageOf a).foldl (overByte (a % 65536)) b

/-- The committed shadows of all pages in rising order of tag. -/
def committedShadows (s : State) : List Shadow := byTag (s.mem.shadows.filter (isCommitted s))

theorem laidByte_append (a : Nat) (l m : List Shadow) (b : Byte) : laidByte a (l ++ m) b = laidByte a m (laidByte a l b) := by
  simp [laidByte]

theorem laidByte_singleton (a : Nat) (h : Shadow) (b : Byte) :
    laidByte a [h] b = if h.page = pageOf a then overByte (a % 65536) b h else b := by
  by_cases hp : h.page = pageOf a <;> simp [laidByte, hp]

theorem laidByte_of_folded {a k : Nat} {l : List Shadow} (hk : memBerthOf (a % 65536) = k) (hl : ∀ x ∈ l, x.unfolded.contains k = false)
    (b : Byte) : laidByte a l b = b :=
  foldl_eq_self fun x hx => by
    rw [overByte, hk, hl x (List.mem_filter.1 hx).1]
    rfl

theorem getD_overlayShares {upper : Tab Byte} (hu : canonicalBytes upper = true) (shares : List Nat) (under : Tab Byte) (o : Nat) :
    Tab.getD 0 o (overlayShares shares under upper) =
      if shares.contains (memBerthOf o) then Tab.getD 0 o upper else Tab.getD 0 o under := by
  have hsorted := Tab.sorted_filter (fun c => shares.contains (memBerthOf c.1)) upper ((canonicalBytes_iff upper).1 hu).1
  have hlay := Tab.find?_lay Function.injective_id o _ hsorted (List.filter (fun c => !shares.contains (memBerthOf c.1)) under)
  rw [Tab.find?_filter_key (fun i => shares.contains (memBerthOf i)), id,
    Tab.find?_filter_key (fun i => !shares.contains (memBerthOf i))] at hlay
  unfold Tab.getD overlayShares
  refine (congrArg (Option.getD · 0) hlay).trans ?_
  by_cases hc : shares.contains (memBerthOf o) <;> simp only [hc] <;> simp

theorem getD_foldedCells (s : State) (p : Nat) {o : Nat} (ho : o < 65536) :
    Tab.getD 0 o (foldedCells s p) = Tab.getD 0 (p * 65536 + o) s.mem.base := by
  unfold foldedCells Tab.getD
  congr 1
  induction s.mem.base with
  | nil => rfl
  | cons c t ih =>
    by_cases hp : pageOf c.1 = p
    · have hkey : c.1 % 65536 = o ↔ c.1 = p * 65536 + o := by unfold pageOf at hp; omega
      simp only [List.filter_cons, hp, decide_true, if_true, List.map_cons, Tab.find?, ih, beq_iff_eq, hkey]
    · have hkey : c.1 ≠ p * 65536 + o := by unfold pageOf at hp; omega
      simp only [List.filter_cons, hp, decide_false, Bool.false_eq_true, if_false, Tab.find?, ih, beq_iff_eq, hkey]

theorem getD_overlays {l : List Shadow} (hl : ShadowsOk l) (o : Nat) (t : Tab Byte) :
    Tab.getD 0 o (l.foldl (fun t h => overlayShares h.unfolded t h.cells) t) = l.foldl (overByte o) (Tab.getD 0 o t) := by
  induction l generalizing t with
  | nil => rfl
  | cons h l ih =>
    rw [List.foldl_cons, List.foldl_cons, ih fun x hx => hl x (List.mem_cons_of_mem _ hx),
      getD_overlayShares (hl h List.mem_cons_self)]
    rfl

theorem committedByte_eq_laidByte {s : State} (hs : ShadowsOk s.mem.shadows) (a : Nat) :
    committedByte s a = laidByte a (committedShadows s) (Tab.getD 0 a s.mem.base) := by
  have hpage : byTag (s.mem.shadows.filter fun h => h.page = pageOf a ∧ isCommitted s h) =
      (committedShadows s).filter fun h => h.page = pageOf a := by
    rw [committedShadows, ← byTag_filter, List.filter_filter]
    congr 2
    funext h
    simp
  have hok : ShadowsOk ((committedShadows s).filter fun h => h.page = pageOf a) := fun x hx =>
    hs x (List.mem_filter.1 ((mem_byTag x _).1 (List.mem_filter.1 hx).1)).1
  have hsplit : pageOf a * 65536 + a % 65536 = a := by unfold pageOf; omega
  rw [committedByte, committedCells, hpage, getD_overlays hok, getD_foldedCells s _ (Nat.mod_lt _ (by decide)), hsplit]
  rfl

/-! ### What a fold changes (R511) -/

/-- The folded versions after berth `k` has folded its share of a shadow. -/
def foldedBase (k : Nat) (h : Shadow) (base : Tab Byte) : Tab Byte :=
  (h.cells.filter fun c => memBerthOf c.1 == k).foldl (fun t c => Tab.put (h.page * 65536 + c.1) c.2 t)
    (base.filter fun c => !(pageOf c.1 == h.page && memBerthOf (c.1 % 65536) == k))

/-- A shadow whose share of berth `k` is folded. -/
def shareFolded (k : Nat) (h : Shadow) : Shadow := { h with unfolded := h.unfolded.filter (· ≠ k) }

/-- The shadows that stand after the fold: one with no share left goes. -/
def foldedShadows (k : Nat) (h : Shadow) (l : List Shadow) : List Shadow :=
  if (shareFolded k h).unfolded = [] then l.filter fun x => !(x.page == h.page && x.tag == h.tag && !x.discarded)
  else setShadow (shareFolded k h) l

/-- One place of a list in which a shadow is replaced. -/
def setOne (h x : Shadow) : Shadow := if x.page = h.page ∧ x.tag = h.tag ∧ !x.discarded then h else x

theorem setShadow_eq_map (h : Shadow) (l : List Shadow) : setShadow h l = l.map (setOne h) := rfl

/-- What the fold leaves of the shadow itself. -/
def shareLeft (k : Nat) (h : Shadow) : List Shadow := if (shareFolded k h).unfolded = [] then [] else [shareFolded k h]

theorem foldedShadows_last {k : Nat} {h : Shadow} (hnone : (shareFolded k h).unfolded = []) (l : List Shadow) :
    foldedShadows k h l = l.filter fun x => !(x.page == h.page && x.tag == h.tag && !x.discarded) := if_pos hnone

theorem foldedShadows_set {k : Nat} {h : Shadow} (hsome : (shareFolded k h).unfolded ≠ []) (l : List Shadow) :
    foldedShadows k h l = setShadow (shareFolded k h) l := if_neg hsome

theorem retireFrame_eq (k f : Nat) (s : State) :
    ∃ b r g, retireFrame k f s = { s with mem.berths := b, mem.retired := r, mem.retiring := g } := by
  unfold retireFrame
  split
  · exact ⟨_, _, _, rfl⟩
  · exact ⟨_, _, _, rfl⟩

theorem releaseFrames_eq (l : List Nat) (s : State) :
    ∃ b w r g, releaseFrames l s = { s with mem.berths := b, mem.wrong := w, mem.retired := r, mem.retiring := g } := by
  unfold releaseFrames
  generalize l.filter (fun f => !(framesInUse s).contains f) = l
  induction l generalizing s with
  | nil => exact ⟨_, _, _, _, rfl⟩
  | cons f l ih =>
    rw [List.foldl_cons]
    split
    · next k _ =>
      obtain ⟨b, r, g, hretire⟩ := retireFrame_eq k f s
      obtain ⟨b', w', r', g', hrest⟩ := ih (retireFrame k f s)
      exact ⟨b', w', r', g', by rw [hrest, hretire]⟩
    · obtain ⟨b, w, r, g, hrest⟩ := ih { s with mem.wrong := s.mem.wrong.filter fun a => a / 65536 != f }
      exact ⟨b, w, r, g, by rw [hrest]⟩

/-- A fold moves the share into the folded versions, and else writes only the table of frames, what it holds of frames, and the
berth's page table. -/
theorem foldShare_eq (k : Nat) (h : Shadow) (s : State) :
    ∃ b f w r g, foldShare k h s =
      { s with mem.base := foldedBase k h s.mem.base, mem.shadows := foldedShadows k h s.mem.shadows
               mem.berths := b, mem.frames := f, mem.wrong := w, mem.retired := r, mem.retiring := g } := by
  unfold foldShare
  dsimp only
  split
  · next hnone =>
    rw [foldedShadows_last hnone]
    obtain ⟨b, w, r, g, hrelease⟩ := releaseFrames_eq (Tab.find? h.page s.mem.frames).toList
      { s with
        mem.base := foldedBase k h s.mem.base
        mem.shadows := s.mem.shadows.filter fun x => !(x.page == h.page && x.tag == h.tag && !x.discarded)
        mem.frames := Tab.put h.page h.frame s.mem.frames }
    exact ⟨_, _, w, r, g, (congrArg (tableUpdate k) hrelease).trans rfl⟩
  · next hsome =>
    rw [foldedShadows_set hsome]
    exact ⟨_, _, _, _, _, rfl⟩

theorem getD_foldedBase {h : Shadow} (hcells : canonicalBytes h.cells = true) (hoff : ∀ c ∈ h.cells, c.1 < 65536) (k : Nat)
    (base : Tab Byte) (a : Nat) :
    Tab.getD 0 a (foldedBase k h base) =
      if h.page = pageOf a ∧ memBerthOf (a % 65536) = k then Tab.getD 0 (a % 65536) h.cells else Tab.getD 0 a base := by
  have hkept := Tab.find?_filter_key (fun i => !(pageOf i == h.page && memBerthOf (i % 65536) == k)) a base
  unfold foldedBase Tab.getD
  by_cases hp : h.page = pageOf a
  · have hsplit : h.page * 65536 + a % 65536 = a := by unfold pageOf at hp; omega
    have hsorted := Tab.sorted_filter (fun c => memBerthOf c.1 == k) h.cells ((canonicalBytes_iff _).1 hcells).1
    have hlay := Tab.find?_lay (f := (h.page * 65536 + ·)) (fun _ _ e => Nat.add_left_cancel e) (a % 65536) _ hsorted
      (List.filter (fun c => !(pageOf c.1 == h.page && memBerthOf (c.1 % 65536) == k)) base)
    rw [Tab.find?_filter_key (fun i => memBerthOf i == k)] at hlay
    simp only [hsplit, hkept] at hlay
    rw [hlay]
    by_cases hk : memBerthOf (a % 65536) = k <;> simp [hp, hk]
  · have hne : ∀ c ∈ h.cells.filter (fun c => memBerthOf c.1 == k), a ≠ h.page * 65536 + c.1 := by
      intro c hc
      have := hoff c (List.mem_filter.1 hc).1
      unfold pageOf at hp
      omega
    rw [Tab.find?_lay_ne hne, hkept]
    simp [hp, Ne.symm hp]

/-! ### The fold of the oldest committed shadow -/

section
variable {s : State} {k : Nat} {h : Shadow} {older newer : List Shadow}

theorem nextFold_mem (hnext : nextFold s k (fun _ => true) = some h) : h ∈ s.mem.shadows :=
  (List.mem_filter.1 ((mem_byTag h _).1 (List.mem_of_mem_head? hnext))).1

theorem foldedShadows_ok {l : List Shadow} (hcells : canonicalBytes h.cells = true) (hl : ShadowsOk l) :
    ShadowsOk (foldedShadows k h l) := by
  unfold foldedShadows
  split
  · exact shadowsOk_filter _ l hl
  · exact shadowsOk_set _ l hl hcells

/-- The shadow a berth folds next is committed, holds its share, and is the oldest that does. -/
theorem nextFold_split (hnext : nextFold s k (fun _ => true) = some h) :
    isCommitted s h = true ∧ h.unfolded.contains k = true ∧ ∃ older newer, committedShadows s = older ++ h :: newer ∧
      ∀ x ∈ older, x.unfolded.contains k = false := by
  have hfind : (committedShadows s).find? (fun x => x.unfolded.contains k) = some h := by
    rw [← List.head?_filter, committedShadows, ← byTag_filter, List.filter_filter, ← hnext, nextFold]
    congr 3
    funext x
    simp [Bool.and_comm]
  obtain ⟨hk, older, newer, hsplit, holder⟩ := List.find?_eq_some_iff_append.1 hfind
  have hmem : h ∈ committedShadows s := List.mem_of_find?_eq_some hfind
  exact ⟨(List.mem_filter.1 ((mem_byTag h _).1 hmem)).2, hk, older, newer, hsplit, fun x hx => by simpa using holder x hx⟩

/-- No other committed shadow has the page and the pound of the one that is folded. -/
theorem committedShadows_others
    (hdistinct : (s.mem.shadows.filter fun h => !h.discarded).Pairwise (fun a b => a.page ≠ b.page ∨ a.tag ≠ b.tag))
    (hsplit : committedShadows s = older ++ h :: newer) : ∀ x, x ∈ older ∨ x ∈ newer → ¬ (x.page = h.page ∧ x.tag = h.tag) := by
  have hcommitted := hdistinct.filter fun x => x.tag ≤ s.pound.committed
  rw [List.filter_filter] at hcommitted
  have hpair : (older ++ h :: newer).Pairwise (fun a b => a.page ≠ b.page ∨ a.tag ≠ b.tag) :=
    hsplit ▸ ((byTag_perm _).pairwise_iff fun h => h.imp Ne.symm Ne.symm).2 hcommitted
  obtain ⟨-, hnewer, holder⟩ := List.pairwise_append.1 hpair
  rintro x (hx | hx) ⟨hp, ht⟩
  · exact (holder x hx h List.mem_cons_self).elim (· hp) (· ht)
  · exact ((List.pairwise_cons.1 hnewer).1 x hx).elim (· hp.symm) (· ht.symm)

theorem not_discarded_of_isCommitted (hcom : isCommitted s h = true) : h.discarded = false := by
  simpa using (Bool.and_eq_true_iff.1 hcom).2

theorem setOne_tag (h x : Shadow) : (setOne (shareFolded k h) x).tag = x.tag := by
  unfold setOne
  split
  · next hx => exact hx.2.1.symm
  · rfl

theorem isCommitted_setOne (hcom : isCommitted s h = true) (x : Shadow) :
    isCommitted s (setOne (shareFolded k h) x) = isCommitted s x := by
  have hstands := not_discarded_of_isCommitted hcom
  unfold setOne
  split
  · next hx =>
    obtain ⟨-, ht, hd⟩ := hx
    simp only [isCommitted, hd, ht, shareFolded, hstands, Bool.not_false]
  · rfl

theorem filter_others {l : List Shadow} (hl : ∀ x ∈ l, ¬ (x.page = h.page ∧ x.tag = h.tag)) :
    l.filter (fun x => !(x.page == h.page && x.tag == h.tag && !x.discarded)) = l :=
  List.filter_eq_self.2 fun x hx => by
    have hne := hl x hx
    simp only [Bool.not_eq_true', Bool.and_eq_false_iff, beq_eq_false_iff_ne]
    exact .inl (Classical.not_and_iff_not_or_not.1 hne)

theorem map_setOne_others {l : List Shadow} (hl : ∀ x ∈ l, ¬ (x.page = h.page ∧ x.tag = h.tag)) :
    l.map (setOne (shareFolded k h)) = l :=
  (List.map_congr_left fun x hx => if_neg fun e => hl x hx ⟨e.1, e.2.1⟩).trans (List.map_id l)

theorem filter_swap (p q : Shadow → Bool) (l : List Shadow) : (l.filter q).filter p = (l.filter p).filter q := by
  rw [List.filter_filter, List.filter_filter]
  congr 1
  funext x
  exact Bool.and_comm _ _

/-- The fold leaves the other committed shadows as they are, in their order. -/
theorem byTag_foldedShadows (hcom : isCommitted s h = true) (hsplit : committedShadows s = older ++ h :: newer)
    (hothers : ∀ x, x ∈ older ∨ x ∈ newer → ¬ (x.page = h.page ∧ x.tag = h.tag)) :
    byTag ((foldedShadows k h s.mem.shadows).filter (isCommitted s)) = older ++ shareLeft k h ++ newer := by
  have hstands := not_discarded_of_isCommitted hcom
  have holder := fun x hx => hothers x (.inl hx)
  have hnewer := fun x hx => hothers x (.inr hx)
  by_cases hnone : (shareFolded k h).unfolded = []
  · rw [foldedShadows_last hnone, filter_swap, byTag_filter, ← committedShadows, hsplit, List.filter_append, List.filter_cons,
      filter_others holder, filter_others hnewer]
    simp [hstands, shareLeft, hnone]
  · have hcommitted : isCommitted s ∘ setOne (shareFolded k h) = isCommitted s := funext (isCommitted_setOne hcom)
    have hself : setOne (shareFolded k h) h = shareFolded k h := if_pos ⟨rfl, rfl, by simp [hstands]⟩
    rw [foldedShadows_set hnone, setShadow_eq_map, List.filter_map, hcommitted, byTag_map (setOne_tag h), ← committedShadows, hsplit,
      List.map_append, List.map_cons, map_setOne_others holder, map_setOne_others hnewer, hself]
    simp [shareLeft, hnone]

/-- What the fold leaves of the shadow lays nothing over a byte of the folded share, and the shadow's own byte over any other. -/
theorem laidByte_shareLeft (a k : Nat) (h : Shadow) (b : Byte) :
    laidByte a (shareLeft k h) b = if memBerthOf (a % 65536) = k then b else laidByte a [h] b := by
  have hcontains : (shareFolded k h).unfolded.contains (memBerthOf (a % 65536)) =
      (h.unfolded.contains (memBerthOf (a % 65536)) && decide (memBerthOf (a % 65536) ≠ k)) := by
    rw [Bool.eq_iff_iff]
    simp [shareFolded]
  have hover : overByte (a % 65536) b (shareFolded k h) = if memBerthOf (a % 65536) = k then b else overByte (a % 65536) b h := by
    unfold overByte
    rw [hcontains]
    by_cases hk : memBerthOf (a % 65536) = k <;> simp [hk, shareFolded]
  have hsingle : laidByte a [shareFolded k h] b = if memBerthOf (a % 65536) = k then b else laidByte a [h] b := by
    rw [laidByte_singleton, laidByte_singleton, hover]
    by_cases hp : h.page = pageOf a <;> simp [hp, shareFolded]
  rw [← hsingle]
  unfold shareLeft
  split
  · next hnone =>
    rw [laidByte_singleton]
    simp [overByte, hnone, laidByte]
  · rfl

/-- A byte of the folded share reads as the shadow's own byte, which no older shadow gives any more; every other byte reads through
the same shadows as before. -/
theorem laidByte_folded (hcells : canonicalBytes h.cells = true) (hoff : ∀ c ∈ h.cells, c.1 < 65536)
    (hk : h.unfolded.contains k = true) (holder : ∀ x ∈ older, x.unfolded.contains k = false) (a : Nat) (base : Tab Byte) :
    laidByte a (older ++ shareLeft k h ++ newer) (Tab.getD 0 a (foldedBase k h base)) =
      laidByte a (older ++ h :: newer) (Tab.getD 0 a base) := by
  rw [List.append_cons older, laidByte_append, laidByte_append, laidByte_append, laidByte_append, laidByte_shareLeft,
    getD_foldedBase hcells hoff]
  congr 1
  by_cases hmine : h.page = pageOf a ∧ memBerthOf (a % 65536) = k
  · obtain ⟨hpage, hshare⟩ := hmine
    have hown : overByte (a % 65536) (Tab.getD 0 a base) h = Tab.getD 0 (a % 65536) h.cells := by
      rw [overByte, hshare, hk, if_pos rfl]
    rw [if_pos hshare, if_pos ⟨hpage, hshare⟩, laidByte_of_folded hshare holder, laidByte_of_folded hshare holder,
      laidByte_singleton, if_pos hpage, hown]
  · rw [if_neg hmine]
    split
    · next hshare =>
      rw [laidByte_singleton, if_neg fun hpage => hmine ⟨hpage, hshare⟩]
    · rfl

/-- A berth's fold of the oldest committed shadow whose share it holds changes no committed byte. -/
theorem committedByte_foldShare (hwf : Memory.wf s.mem = true)
    (hdistinct : (s.mem.shadows.filter fun h => !h.discarded).Pairwise (fun a b => a.page ≠ b.page ∨ a.tag ≠ b.tag))
    (hoff : ∀ h ∈ s.mem.shadows, ∀ c ∈ h.cells, c.1 < 65536) (hnext : nextFold s k (fun _ => true) = some h) (a : Nat) :
    committedByte (foldShare k h s) a = committedByte s a := by
  obtain ⟨-, hok, -, -⟩ := (memory_wf_iff s.mem).1 hwf
  obtain ⟨hcom, hk, older, newer, hsplit, holder⟩ := nextFold_split hnext
  have hmem : h ∈ s.mem.shadows := nextFold_mem hnext
  have hbyTag := byTag_foldedShadows (k := k) hcom hsplit (committedShadows_others hdistinct hsplit)
  obtain ⟨b, f, w, r, g, hfold⟩ := foldShare_eq k h s
  have hleft : committedShadows (foldShare k h s) = older ++ shareLeft k h ++ newer := by
    rw [hfold]
    exact hbyTag
  have hbase : (foldShare k h s).mem.base = foldedBase k h s.mem.base := by rw [hfold]
  have hok' : ShadowsOk (foldShare k h s).mem.shadows := by
    rw [hfold]
    exact foldedShadows_ok (hok h hmem) hok
  rw [committedByte_eq_laidByte hok', committedByte_eq_laidByte hok, hleft, hbase, hsplit]
  exact laidByte_folded (hok h hmem) (hoff h hmem) hk holder a s.mem.base

end

/-- Settles O37, by the shadows laid over a byte before and after the fold of the oldest that holds the berth's share. -/
theorem foldsChangeNoCommittedByte : Obligations.FoldsChangeNoCommittedByte := by
  intro s k hwf hdistinct hoff
  refine ⟨foldStep k s, rfl, ?_⟩
  unfold foldStep
  split
  · next h hnext =>
    refine ⟨committedByte_foldShare hwf hdistinct hoff hnext, ?_⟩
    obtain ⟨b, f, w, r, g, hfold⟩ := foldShare_eq k h s
    rw [hfold]
  · exact ⟨fun _ => rfl, rfl⟩

end Sys2Proof.Machine
end

section
/-!
SUPPORT. Statements of chapters 11 and 13 on the mail that writes the identifier table and opens and closes passages, and on a
passage's confirmation (R534, R554, R556, R656 to R658, R822).
-/

namespace Sys2Proof.Machine
open Sys2Proof.Safety

/-! ### The identifier table (R534, R656, R822) -/

theorem dropMail_latestConfig (src : MailSrc) (m : Bytes) (s : State) : latestConfig (dropMail src m s) = latestConfig s := by
  simp only [latestConfig, dropMail_flash, dropMail_boot]

theorem dropMail_passages (src : MailSrc) (m : Bytes) (s : State) : (dropMail src m s).torus.passages = s.torus.passages := by
  rw [dropMail_torus]

@[simp] theorem flatEntries_length (m : Bytes) : (flatEntries m).length = leField m 0x0A 2 := by
  simp only [flatEntries, List.length_map, List.length_range]

theorem mailFlatSet_good {s : State} {src : MailSrc} {corr : Nat} {m : Bytes} (hrange : leField m 8 2 + leField m 0x0A 2 ≤ 65536)
    (hin : ∀ e ∈ flatEntries m, e.testBit 31 = true → addrOk s (e % 2 ^ 24) = true) :
    mailFlatSet src corr m s = flashWrite src 0x38 corr 7
      (.config { latestConfig s with
        flat := (flatEntries m).zipIdx.foldl (fun t e => Tab.putD 0 (leField m 8 2 + e.2) e.1 t) (latestConfig s).flat }) s := by
  have hfits : ¬ 65536 < leField m 8 2 + (flatEntries m).length := by
    rw [flatEntries_length]
    exact Nat.not_lt.2 hrange
  have hroutes : ((flatEntries m).any fun e => e.testBit 31 && !addrOk s (e % 2 ^ 24)) = false := by
    refine List.any_eq_false.2 fun e he => ?_
    cases hvalid : e.testBit 31 with
    | false => exact Bool.false_ne_true
    | true => rw [hin e he hvalid]; exact Bool.false_ne_true
  simp only [mailFlatSet, hfits, hroutes, Bool.false_eq_true, if_false]

/-! ### Passages (R554, R556, R657, R658) -/

/-- What the other modules say of a passage matters only once this module has found nothing against it (R657). -/
theorem passageCheck_far {s : State} {m : Bytes} {x : Nat × List Nat} (h : passageCheck s 0 m = .inr x) {far : Nat} (hfar : far < 3) :
    passageCheck s far m = if far = 0 then .inr x else .inl (if far = 1 then St.circuitLimit else St.passageLimit) := by
  unfold passageCheck at h ⊢
  cases hdest : endpointAddr s (leField m 8 4) with
  | inl st => simp [hdest] at h
  | inr a =>
    simp only [hdest] at h ⊢
    split at h
    · cases h
    split at h
    · cases h
    split at h
    · cases h
    split at h
    · cases h
    rename_i houtside hshare hheld hlocal
    have hroom : circuitFull s (((routeAway s a).getD []).head?.getD 0) (leField m 0x0C 1) (leField m 0x0D 1) = false := by
      simpa [hlocal] using hshare
    have hfew : ¬ 256 ≤ (heldPassages s).length := fun h => hheld (.inl h)
    obtain rfl | rfl | rfl : far = 0 ∨ far = 1 ∨ far = 2 := by omega
    · simpa [houtside, hlocal, hroom, hfew] using h
    · simp [houtside, hlocal]
    · simp [houtside, hlocal, hroom]

theorem mailPassageOpen_asks {s : State} {src : MailSrc} {corr a id : Nat} {m : Bytes} {r : List Nat}
    (hcheck : passageCheck (drawBelow 3 s).2 0 m = .inr (a, r))
    (hid : Tab.freeKey 1 65535 s.torus.passages = some id) :
    let far := (drawBelow 3 s).1
    let u := (drawBelow 3 s).2
    let p : Passage :=
      { dest := a, link := leField m 0x0C 1, share := leField m 0x0D 1, pounds := leField m 0x0E 2, route := routeField r }
    mailPassageOpen src corr m s =
      if far = 0 then
        torusSend (.flightAsk (flightId u id false) [passageActs u p fun c l port => .setCircuit c l port p.share (passageKey u id)])
          (addJob (.passage id) src 0x39 corr { u with torus.passages := Tab.put id p s.torus.passages })
      else answer src 0x39 corr (if far = 1 then St.circuitLimit else St.passageLimit) [] u := by
  intro far u p
  have hfar : far < 3 := Nat.mod_lt _ (by decide)
  have hopen := passageCheck_far hcheck hfar
  by_cases hclear : far = 0
  · rw [if_pos hclear] at hopen ⊢
    simp only [mailPassageOpen, orRefuse]
    rw [hopen]
    have hfree : Tab.freeKey 1 65535 (drawBelow 3 s).2.torus.passages = some id := hid
    simp only [hfree]
    rfl
  · rw [if_neg hclear] at hopen ⊢
    simp only [mailPassageOpen, orRefuse]
    rw [hopen]

theorem passageConfirmed_opens {s : State} {job id : Nat} {j : Job} (hj : Tab.find? job s.work.jobs = some j)
    (hkind : j.kind = .passage id) :
    passageConfirmed job s = endJob job St.ok (leBytes 2 id ++ leBytes 6 0)
      { s with torus.passages := Tab.modify id (fun p => { p with opened := true }) s.torus.passages } := by
  simp only [passageConfirmed, hj, Option.map_some, hkind]

theorem mailPassageClose_open {s : State} {src : MailSrc} {corr : Nat} {m : Bytes} {p : Passage}
    (hp : Tab.find? (leField m 8 2) s.torus.passages = some p) (hopened : p.opened = true) :
    mailPassageClose src corr m s = answer src 0x3A corr St.ok []
      { s with torus.passages := Tab.modify (leField m 8 2) (fun p => { p with closing := true }) s.torus.passages } := by
  simp only [mailPassageClose, hp, Option.any_some, hopened, if_true]

/-- Settles O14: the mail step runs the body of each message, and a passage's confirmation ends the job that its opening kept. -/
theorem torusMail : Obligations.TorusMail := by
  unfold Obligations.TorusMail
  refine ⟨?flat, ?opens, ?confirmed, ?closes⟩
  case flat =>
    intro src m s hacc hrange hin c
    refine congrArg Host.Outcome.next ((mailStep_accepted hacc (mailFlatSet src)).trans ?_)
    rw [mailFlatSet_good hrange hin, dropMail_latestConfig]
  case opens =>
    intro src m s a id r hacc far u hcheck hid p
    refine congrArg Host.Outcome.next ((mailStep_accepted hacc (mailPassageOpen src)).trans ?_)
    rw [mailPassageOpen_asks hcheck (by rwa [dropMail_passages]), dropMail_passages]
  case confirmed =>
    exact fun s job id j hj hkind => congrArg Host.Outcome.next (passageConfirmed_opens hj hkind)
  case closes =>
    intro src m s p hacc hp hopened
    refine congrArg Host.Outcome.next ((mailStep_accepted hacc (mailPassageClose src)).trans ?_)
    rw [mailPassageClose_open (by rwa [dropMail_passages]) hopened, dropMail_passages]

end Sys2Proof.Machine
end

section
/-!
SUPPORT. Statements of chapter 11 on packets from a fibre, the training of fibre links, and writes and reads that wait for an answer of
another module (R532, R533, R538, R540, R541, R543, R550, R551, R553, R572).
-/

namespace Sys2Proof.Machine
open Sys2Proof.Safety

/-! ### Packets from a fibre (R540, R541, R543) -/

theorem fibreStep_absent {s : State} {port link : Nat} {p : TorusPacket}
    (h : linkUp s (fibreRx port (link % 8)) = false ∨ fibreHolds s (fibreRx port (link % 8)) p = false) :
    fibreStep port link p s = s := by
  refine if_pos ?_
  rcases h with hdown | habsent
  · simp [hdown]
  · simp [habsent]

/-- The state in which a torus berth has counted a packet and taken it out of the link's basin (R408, R543, R576). -/
def fibreTaken (port link : Nat) (p : TorusPacket) (s : State) : State :=
  fibreTake (fibreRx port (link % 8)) p (countPort port p.base.vc 3 1 (countPort port p.base.vc 1 (fibreFlits p) s))

@[simp] theorem fibreTaken_coord (port link : Nat) (p : TorusPacket) (s : State) :
    (fibreTaken port link p s).torus.coord = s.torus.coord := rfl

section
variable {s : State} {port link : Nat} {p : TorusPacket} (hup : linkUp s (fibreRx port (link % 8)) = true)
  (hholds : fibreHolds s (fibreRx port (link % 8)) p = true)
include hup hholds

/-- A packet that is taken goes where its next hop code says (R540, R541). -/
theorem fibreStep_taken :
    fibreStep port link p s =
      if hopCode p.route p.hop < 6 ∧ hopCode p.route p.hop ≠ port then
        if portUp (fibreTaken port link p s) (hopCode p.route p.hop) then
          torusHop .none (24 + port) (24 + hopCode p.route p.hop) 0
            { p with hop := p.hop + 1, cls := classFor (fibreTaken port link p s) port (hopCode p.route p.hop) p.cls }
            (countPort port p.base.vc 4 1 (fibreTaken port link p s))
        else countPort (hopCode p.route p.hop) p.base.vc 8 1 (fibreTaken port link p s)
      else if hopCode p.route p.hop = 6 ∧ coordOf p.dest = coordOf s.torus.coord then
        deliverPacket port p (fibreTaken port link p s)
      else routeError port p (fibreTaken port link p s) :=
  if_neg (by simp [hup, hholds])

theorem fibreStep_hops (hcode : hopCode p.route p.hop < 6) (hother : hopCode p.route p.hop ≠ port)
    (hport : portUp (fibreTaken port link p s) (hopCode p.route p.hop) = true) :
    fibreStep port link p s =
      torusHop .none (24 + port) (24 + hopCode p.route p.hop) 0
        { p with hop := p.hop + 1, cls := classFor (fibreTaken port link p s) port (hopCode p.route p.hop) p.cls }
        (countPort port p.base.vc 4 1 (fibreTaken port link p s)) := by
  rw [fibreStep_taken hup hholds, if_pos ⟨hcode, hother⟩, if_pos hport]

theorem fibreStep_portDown (hcode : hopCode p.route p.hop < 6) (hother : hopCode p.route p.hop ≠ port)
    (hport : portUp (fibreTaken port link p s) (hopCode p.route p.hop) = false) :
    fibreStep port link p s = countPort (hopCode p.route p.hop) p.base.vc 8 1 (fibreTaken port link p s) := by
  rw [fibreStep_taken hup hholds, if_pos ⟨hcode, hother⟩, if_neg (ne_true_of_eq_false hport)]

theorem fibreStep_local (hcode : hopCode p.route p.hop = 6) (hdest : coordOf p.dest = coordOf s.torus.coord) :
    fibreStep port link p s = deliverPacket port p (fibreTaken port link p s) := by
  rw [fibreStep_taken hup hholds, if_neg (by omega), if_pos ⟨hcode, hdest⟩]

theorem fibreStep_routeError (hport : port < 6)
    (h : hopCode p.route p.hop = 7 ∨ hopCode p.route p.hop = port ∨
      (hopCode p.route p.hop = 6 ∧ coordOf p.dest ≠ coordOf s.torus.coord)) :
    fibreStep port link p s = routeError port p (fibreTaken port link p s) := by
  have hlocal : ¬ (hopCode p.route p.hop = 6 ∧ coordOf p.dest = coordOf s.torus.coord) := by
    rintro ⟨hcode, hdest⟩
    rcases h with hnone | hback | ⟨-, hfar⟩
    · omega
    · omega
    · exact hfar hdest
  rw [fibreStep_taken hup hholds, if_neg (by omega), if_neg hlocal]
end

/-! ### Training of fibre links (R532, R533) -/

/-- The state in which a port has noted the identity of a link's far end and sends its own (R532). -/
def identified (port link partition coord dir : Nat) (s : State) : State :=
  torusSend (.train (fibreTx port (link % 8)) s.torus.partition s.torus.coord port)
    (s.updTport port fun t =>
      { t with far := Tab.put (link % 8) (partition, coord, dir) t.far, farPort := dir, farCoord := coordOf coord })

theorem trainStep_identified {s : State} {port link partition coord dir : Nat} (hdim : dimOf s (port / 2) ≠ 1)
    (hlit : ∃ j < 17, laneLit s (4 + port) j = true) (hgroup : (s.group (4 + port)).down = false)
    (hlink : linkUp s (fibreRx port (link % 8)) = false) (hreset : s.base.reset = none) :
    trainStep port link partition coord dir s =
      if farOk s port partition coord dir then
        setLinks [fibreTx port (link % 8), fibreRx port (link % 8)] 2 (identified port link partition coord dir s)
      else
        logEvent Ev.torusMiscable (leBytes 1 port ++ leBytes 2 partition ++ leBytes 3 coord ++ leBytes 1 dir)
          (setLinks [fibreTx port (link % 8), fibreRx port (link % 8)] 1 (identified port link partition coord dir s)) := by
  obtain ⟨j, hj, hlane⟩ := hlit
  have hany : ((List.range 17).any fun j => laneLit s (4 + port) j) = true := List.any_eq_true.2 ⟨j, List.mem_range.2 hj, hlane⟩
  exact if_neg (by simp [hdim, hany, hgroup, hlink, hreset])

/-! ### Writes not acknowledged (R551) -/

section
variable {s : State} {c : Closing} (hclosing : s.pound.closing = some c) (hdue : c.cut + 2240 ≤ s.ft) (hverdict : c.verdict = false)
  (hkept : rollsBack s c.serial = false)
include hclosing hdue hverdict hkept

theorem unackedStep_fault {x : SentWrites}
    (hx : (s.torus.sent.find? fun x => x.n == c.serial && decide (x.acked < x.count)) = some x) :
    unackedStep s = raiseFault Ev.torusUnacked (leBytes 3 x.dest ++ leBytes 8 c.serial) s := by
  simp [unackedStep, hclosing, Nat.not_lt.2 hdue, hverdict, hkept, hx]

theorem unackedStep_acked (h : ∀ x ∈ s.torus.sent, x.n = c.serial → x.count ≤ x.acked) : unackedStep s = s := by
  have hnone : (s.torus.sent.find? fun x => x.n == c.serial && decide (x.acked < x.count)) = none := by
    refine List.find?_eq_none.2 fun x hx => ?_
    simpa using h x hx
  simp [unackedStep, hclosing, Nat.not_lt.2 hdue, hverdict, hkept, hnone]
end

/-! ### Reads not answered (R553) -/

section
variable {s : State} {req : Nat} {r : ReadReq} (hr : Tab.find? req s.mem.reads = some r) (hdata : r.data = none)
  (hdue : r.sentAt + 4096 ≤ s.ft)
include hr hdata hdue

theorem readResend_again {b : Buffer} {f : Nat × Nat × Nat × Nat} (hsent : 0 < r.tries) (hleft : r.tries < 4)
    (hb : bufAtPage s (pageOf r.addr) = some b) (hremote : b.remote = some f) :
    readResend req s = sendRead req r b f
      { s with mem.reads := Tab.put req { r with sentAt := s.ft, tries := r.tries + 1 } s.mem.reads } := by
  simp [readResend, hr, hdata, Nat.not_lt.2 hdue, Nat.ne_of_gt hsent, hleft, hb, hremote]

theorem readResend_unreachable (hspent : 4 ≤ r.tries) {m : MRef} {token : Nat} (hdest : r.dest = .xfer m token ∨ r.dest = .op m token) :
    readResend req s = endGang m.slot m.task St.torusUnreachable { s with mem.reads := Tab.del req s.mem.reads } := by
  have hsent : r.tries ≠ 0 := by omega
  rcases hdest with hxfer | hop
  · simp [readResend, hr, hdata, Nat.not_lt.2 hdue, hsent, Nat.not_lt.2 hspent, hxfer]
  · simp [readResend, hr, hdata, Nat.not_lt.2 hdue, hsent, Nat.not_lt.2 hspent, hop]
end

/-- Settles O48: each clause is the equation above of its command's step; an acknowledgement's is the step itself. -/
theorem torusPacketsAndAcks : Obligations.TorusPacketsAndAcks := by
  unfold Obligations.TorusPacketsAndAcks
  refine ⟨?absent, ?taken, ?train, fun _ _ _ _ => rfl, fun _ _ _ _ => rfl, ?unacked, ?reads⟩
  case absent => exact fun s port link p h => congrArg Host.Outcome.next (fibreStep_absent h)
  case taken =>
    intro s port link p hup hholds u h
    exact ⟨fun hcode hother hport => congrArg Host.Outcome.next (fibreStep_hops hup hholds hcode hother hport),
      fun hcode hother hport => congrArg Host.Outcome.next (fibreStep_portDown hup hholds hcode hother hport),
      fun hcode hdest => congrArg Host.Outcome.next (fibreStep_local hup hholds hcode hdest),
      fun herror hport => congrArg Host.Outcome.next (fibreStep_routeError hup hholds hport herror)⟩
  case train =>
    intro s port link partition coord dir hdim hlit hgroup hlink hreset pair far
    have htrain := congrArg (Host.Outcome.next (φ := Fault) (ρ := Refusal))
      (trainStep_identified (partition := partition) (coord := coord) (dir := dir) hdim hlit hgroup hlink hreset)
    exact ⟨fun hok => htrain.trans (congrArg _ (if_pos hok)),
      fun hwrong => htrain.trans (congrArg _ (if_neg (ne_true_of_eq_false hwrong)))⟩
  case unacked =>
    exact fun s c hclosing hdue hverdict hkept =>
      ⟨fun x hx => congrArg Host.Outcome.next (unackedStep_fault hclosing hdue hverdict hkept hx),
        fun h => congrArg Host.Outcome.next (unackedStep_acked hclosing hdue hverdict hkept h)⟩
  case reads =>
    exact fun s req r hr hdata hdue =>
      ⟨fun hsent hleft b f hb hremote => congrArg Host.Outcome.next (readResend_again hr hdata hdue hsent hleft hb hremote),
        fun hspent m token hdest => congrArg Host.Outcome.next (readResend_unreachable hr hdata hdue hspent hdest)⟩

end Sys2Proof.Machine
end

section
/-!
SUPPORT. Statements of chapters 12 and 13 on where a reply goes, and on the mail that opens and cancels barges (R606, R609, R612,
R613, R626, R627, R646, R647).
-/

namespace Sys2Proof.Machine
open Sys2Proof.Safety

/-! ### Replies (R606, R609, R626, R627) -/

theorem queueMail_session_ne {i j : Nat} (h : j ≠ i) (kind : OutKind) (body : Bytes) (s : State) :
    (queueMail i kind body s).session j = s.session j :=
  State.updSession_session_ne s i j _ h

theorem lastReply_queueMail (i : Nat) (kind : OutKind) (body : Bytes) (s : State) :
    lastReply (queueMail i kind body s) (.session i) = some body := by
  simp only [lastReply, queueMail_session, List.getLast?_concat, Option.map_some]

/-- Settles O7: an open session's reply is queued as its last outbound message, JTAG's fills its register, and any other is lost. -/
theorem mailReplyReachesItsSender : Obligations.MailReplyReachesItsSender := by
  unfold Obligations.MailReplyReachesItsSender
  refine ⟨?opened, fun i code corr st extra s hgone => answer_gone hgone code corr st extra,
    fun code corr st extra s => answer_jtag s code corr st extra⟩
  case opened =>
    intro i code corr st extra s hopened t
    have ht : t = queueMail i .reply (replyHeader code corr st ++ extra) s := answer_opened hopened code corr st extra
    rw [ht]
    refine ⟨lastReply_queueMail _ _ _ _, ?_, fun j hj => queueMail_session_ne hj _ _ _, rfl⟩
    rw [queueMail_session, List.length_append, List.length_singleton]

/-! ### Barges (R612, R613, R646, R647) -/

/-- The serial that a barge opened by message `m` reads: the committed one where it is outbound and pinned. -/
def mailedSerial (s : State) (m : Bytes) : Nat :=
  if leField m 0x0C 1 = 1 ∧ leField m 0x0D 1 ≠ 1 then s.pound.committed else 0

/-- The module once the range that an outbound barge reads has been checked for parity. -/
def bargeSource (m : Bytes) (s : State) : State :=
  if leField m 0x0C 1 = 1 then sourceErrors (leField m 8 4) (leField m 0x10 8) (leField m 0x18 8) s else s

/-- The barge that message `m` of `src` opens in `s`. -/
def mailedBarge (src : MailSrc) (m : Bytes) (s : State) : Barge :=
  { session := srcHandle s src, handle := leField m 8 4, outbound := leField m 0x0C 1 == 1
    current := leField m 0x0D 1 == 1, start := leField m 0x10 8, length := leField m 0x18 8, serial := mailedSerial s m
    openedNo := (bargeSource m s).net.bargeNo, lastSerial := mailedSerial s m }

theorem mailedSerial_dropMail (src : MailSrc) (m : Bytes) (s : State) : mailedSerial (dropMail src m s) m = mailedSerial s m := by
  simp only [mailedSerial, dropMail_pound]

theorem mailBargeOpen_opens {s : State} {src : MailSrc} {m : Bytes} {b : Buffer} {n : Nat} (corr : Nat) (hlen : leField m 0x18 8 ≠ 0)
    (hroom : bargeRefusal (bargeSource m s) (leField m 8 4) (srcHandle s src) (leField m 0x10 8) (leField m 0x18 8)
      (leField m 0x0C 1 == 1) = .inr b)
    (hfree : Tab.freeKey 0 4096 (bargeSource m s).net.barges = some n) :
    let u := bargeSource m s
    mailBargeOpen src corr m s = answer src 0x18 corr St.ok (leBytes 2 n ++ leBytes 6 0 ++ leBytes 8 (mailedSerial s m))
      { u with net.barges := Tab.put n (mailedBarge src m s) u.net.barges, net.bargeNo := u.net.bargeNo + 1 } := by
  unfold mailBargeOpen
  change orRefuse _ _ _ (bargeRefusal (bargeSource m s) _ _ _ _ (leField m 0x0C 1 == 1)) _ (bargeSource m s) = _
  rw [hroom, orRefuse, if_neg hlen, hfree]
  rfl

theorem mailBargeCancel_own {s : State} {src : MailSrc} {m : Bytes} {b : Barge} (corr : Nat)
    (hb : Tab.find? (leField m 8 2) s.net.barges = some b) (hown : b.session = srcHandle s src) :
    mailBargeCancel src corr m s = endBarge (leField m 8 2) St.cancelled (answer src 0x19 corr St.ok [] s) := by
  simp only [mailBargeCancel, hb, hown, if_true]

/-- Settles O11: the mail step runs the body of each message. -/
theorem bargeMail : Obligations.BargeMail := by
  unfold Obligations.BargeMail
  refine ⟨?opens, ?cancels⟩
  case opens =>
    intro src m s b n hacc hlen u hroom hfree serial g
    refine congrArg Host.Outcome.next ((mailStep_accepted hacc (mailBargeOpen src)).trans ?_)
    have hbarge : g = mailedBarge src m (dropMail src m s) := by
      simp only [mailedBarge, mailedSerial_dropMail, dropMail_srcHandle]
      rfl
    rw [mailBargeOpen_opens (corrOf m) hlen (by rwa [dropMail_srcHandle]) hfree, mailedSerial_dropMail, ← hbarge]
    rfl
  case cancels =>
    intro src m s b hacc hb hown
    refine congrArg Host.Outcome.next ((mailStep_accepted hacc (mailBargeCancel src)).trans ?_)
    have hfound : Tab.find? (leField m 8 2) (dropMail src m s).net.barges = some b := by rwa [dropMail_barges]
    exact congrArg checkpointStep (mailBargeCancel_own (corrOf m) hfound (by rwa [dropMail_srcHandle]))

end Sys2Proof.Machine
end

section
/-!
SUPPORT. Statements of chapter 12 on Ecden frames as they arrive: those that are discarded, the OPEN, the frames of open sessions, and
those of none (R582, R586, R589 to R595, R598, R599, R604, R621).
-/

namespace Sys2Proof.Machine
open Sys2Proof.Safety

/-! ### Every frame (R582, R621) -/

/-- Each command of a frame does its own work only behind the engine's test of every frame. -/
theorem exec_onFrame {f : RxFrame} {c : Instr} (hc : c ∈ [Instr.ecdenMalformedFrame f, .ecdenAuthFail f, .ecdenOpen f,
      .ecdenMailFrame f, .ecdenDataFrame f, .ecdenAckFrame f, .ecdenCloseFrame f, .unknownSessionFrame f]) :
    ∃ k, ∀ s, exec c s = .next (onFrame f k s) := by
  simp only [List.mem_cons, List.not_mem_nil, or_false] at hc
  obtain rfl | rfl | rfl | rfl | rfl | rfl | rfl | rfl := hc <;> exact ⟨_, fun _ => rfl⟩

section
variable {s : State} {f : RxFrame} (k : State → State)

theorem onFrame_notServing (hdead : portServes s f.port = false) : onFrame f k s = s := if_pos (by simp [hdead])

section
variable (hserves : portServes s f.port = true)
include hserves

theorem onFrame_full (hfull : bufferFull s f.port f.payload.length = true) :
    onFrame f k s = pauseCheck f.port (s.updEth (portNum f.port) fun x => { x with fullDrops := satInc x.fullDrops }) := by
  rw [onFrame, if_neg (by simp [hserves]), if_pos hfull, bufferFullStep_full hserves hfull]

variable (hroom : bufferFull s f.port f.payload.length = false)
include hroom

theorem onFrame_stranded (hstranded : stranded s = true) : onFrame f k s = strandedAnswer f s := by
  rw [onFrame, if_neg (by simp [hserves]), if_neg (by simp [hroom]), if_pos hstranded]

theorem onFrame_taken (hup : stranded s = false) : onFrame f k s = k s := by
  rw [onFrame, if_neg (by simp [hserves]), if_neg (by simp [hroom]), if_neg (by simp [hup])]
end
end

/-- A stranded module is silent to a frame that names no open session (notes/assumptions/54.md). -/
theorem strandedAnswer_unnamed {s : State} {f : RxFrame} (hnone : openNamed s (fHandle f) = none) : strandedAnswer f s = s := by
  simp only [strandedAnswer, hnone]

section
variable {s : State} {f : RxFrame} {i : Nat} (hi : openNamed s (fHandle f) = some i)
include hi

theorem strandedAnswer_due (hdue : ∀ t, (s.session i).noticeAt = some t → t + 2 ^ 17 ≤ s.ft) :
    strandedAnswer f s = strandedNotice i s := by
  simp only [strandedAnswer, hi]
  exact if_pos (Option.all_eq_true _ _ |>.2 fun t ht => decide_eq_true (hdue t ht))

theorem strandedAnswer_early {t : Nat} (ht : (s.session i).noticeAt = some t) (hearly : s.ft < t + 2 ^ 17) :
    strandedAnswer f s = s := by
  simp only [strandedAnswer, hi, ht, Option.all_some]
  exact if_neg (by simpa using hearly)
end

/-! ### Frames that are discarded (R586, R589) -/

theorem malformedStep_ignores {s : State} {f : RxFrame}
    (h : frameMalformed s f = false ∨ f.payload.length < 8 ∨ openNamed s (fHandle f) = none) : malformedStep f s = s := by
  obtain h | h | h := h <;> simp [malformedStep, h]

theorem malformedStep_counts {s : State} {f : RxFrame} {i : Nat} (hbad : frameMalformed s f = true)
    (hlen : 8 ≤ f.payload.length) (hi : openNamed s (fHandle f) = some i) :
    malformedStep f s = s.updSession i fun ss => { ss with malformed := satInc ss.malformed } := by
  simp only [malformedStep, hbad, Nat.not_lt.2 hlen, hi, Bool.not_true, Bool.false_eq_true, if_false]

theorem authFailStep_ignores {s : State} {f : RxFrame}
    (h : frameMalformed s f = true ∨ fType f = 0 ∨ openNamed s (fHandle f) = none) : authFailStep f s = s := by
  obtain h | h | h := h <;> simp [authFailStep, h]

theorem authFailStep_matches {s : State} {f : RxFrame} {i : Nat} (hi : openNamed s (fHandle f) = some i)
    (hauth : authGood (s.session i) f = true) : authFailStep f s = s := by
  simp [authFailStep, hi, hauth]

theorem authFailStep_fails {s : State} {f : RxFrame} {i : Nat} (hgood : frameMalformed s f = false) (htype : fType f ≠ 0)
    (hi : openNamed s (fHandle f) = some i) (hauth : authGood (s.session i) f = false) :
    let u := s.updSession i fun ss => { ss with authFails := satInc ss.authFails, authLogged := some s.power.round }
    authFailStep f s = if (s.session i).authLogged = some s.power.round then u
      else logEvent Ev.authFail (leBytes 2 (fHandle f) ++ leBytes 16 f.ip ++ leBytes 2 f.udp) u := by
  simp [authFailStep, hgood, htype, hi, hauth]

/-! ### OPEN (R590 to R593) -/

@[simp] theorem putWire_sessions (fr : OutFrame) (s : State) : (putWire fr s).net.sessions = s.net.sessions := by
  unfold putWire
  split <;> rfl

@[simp] theorem putWire_opens (fr : OutFrame) (s : State) : (putWire fr s).net.opens = s.net.opens := by
  unfold putWire
  split <;> rfl

/-- The answer to an OPEN leaves every session as it is. -/
theorem answerOpen_session (f : RxFrame) (payload : Bytes) (s : State) (j : Nat) :
    (answerOpen f payload s).session j = s.session j := by
  simp only [State.session, answerOpen, sendOpenReply, putWire_sessions]

theorem answerOpen_opens (f : RxFrame) (payload : Bytes) (s : State) : (answerOpen f payload s).net.opens = s.net.opens := by
  simp only [answerOpen, sendOpenReply, putWire_opens]

/-- A count of opened sessions leaves the sessions themselves. -/
theorem session_of_opens (s : State) (n j : Nat) : ({ s with net.opens := n } : State).session j = s.session j := rfl

theorem openSession_opens (f : RxFrame) (i : Nat) (s : State) : (openSession f i s).net.opens = s.net.opens + 1 := by
  simp only [openSession, answerOpen_opens]
  rfl

theorem openSession_session (f : RxFrame) (i : Nat) (s : State) :
    ((openSession f i s).session i).st = .opened ∧ ((openSession f i s).session i).ip = f.ip ∧
      ((openSession f i s).session i).udp = f.udp ∧ ((openSession f i s).session i).gen = ((s.session i).gen + 1) % 15 ∧
      ((openSession f i s).session i).pnonce = openPnonce f := by
  simp only [openSession, answerOpen_session, session_of_opens, State.updSession_session, true_and, and_true]
  exact ⟨rfl, rfl⟩

theorem openSession_session_ne (f : RxFrame) {i j : Nat} (hj : j ≠ i) (s : State) :
    (openSession f i s).session j = s.session j := by
  simp only [openSession, answerOpen_session, session_of_opens, State.updSession_session_ne _ _ _ _ hj]
  rfl

theorem openStep_ignores {s : State} {f : RxFrame} (h : frameMalformed s f = true ∨ fType f ≠ 0) : openStep f s = s :=
  if_pos (by obtain h | h := h <;> simp [h])

theorem openStep_dropped {s : State} {f : RxFrame} (hnew : openRepeat s f = none) (hout : openOutcome s f = none) :
    openStep f s = s := by
  simp only [openStep, hnew, hout, ite_self]

/-- A repeated OPEN counts as a duplicate of the session that its first answer named, where that is still open. -/
def countRepeat (payload : Bytes) (s : State) : State :=
  match openNamed s (leField payload 4 2) with
  | some i => s.updSession i fun ss => { ss with dups := satInc ss.dups }
  | none => s

section
variable {s : State} {f : RxFrame} (hgood : frameMalformed s f = false) (htype : fType f = 0)
include hgood htype

theorem openStep_repeated {payload : Bytes} (hrep : openRepeat s f = some payload) :
    openStep f s = answerOpen f payload (countRepeat payload s) := by
  unfold openStep
  rw [if_neg (by simp [hgood, htype]), hrep]
  rfl

variable (hnew : openRepeat s f = none)
include hnew

/-- The index opened is the lowest free one (notes/assumptions/13.md). -/
theorem openStep_opens {i : Nat} (hok : openOutcome s f = some St.ok)
    (hi : ((List.range 4096).find? fun i => (s.session i).st == .free) = some i) : openStep f s = openSession f i s := by
  simp only [openStep, hgood, htype, hnew, hok, hi, bne_self_eq_false, Bool.or_self, Bool.false_eq_true, if_false, if_true]

theorem openStep_refused {st : Nat} (hst : openOutcome s f = some st) (hbad : st ≠ St.ok) :
    ∃ key, openStep f s = answerOpen f (openReplyBytes key (openPnonce f) 0 st 0xFFFF 0) s := by
  simp only [openStep, hgood, htype, hnew, hst, hbad, bne_self_eq_false, Bool.or_self, Bool.false_eq_true, if_false]
  exact ⟨_, rfl⟩
end

/-! ### Frames of open sessions (R594, R595, R598, R604) -/

theorem sequencedStep_none {type : Nat} {s : State} {f : RxFrame} (h : acceptedFor type f s = none) : sequencedStep type f s = s := by
  unfold sequencedStep
  rw [h]

theorem sequencedStep_accepted {type i : Nat} {s : State} {f : RxFrame} (h : acceptedFor type f s = some i) :
    let u := takeAck i (fAck f) (fSack f) (fCredit f) (rebind i f s)
    sequencedStep type f s = if openNamed u (fHandle f) = some i then deliverNew i (fSeq f) (acceptSeq i f u) else u := by
  unfold sequencedStep
  rw [h]

theorem ackFrameStep_none {s : State} {f : RxFrame} (h : acceptedFor 4 f s = none) : ackFrameStep f s = s := by
  unfold ackFrameStep
  rw [h]

theorem ackFrameStep_accepted {i : Nat} {s : State} {f : RxFrame} (h : acceptedFor 4 f s = some i) :
    ackFrameStep f s = takeAck i (fAck f) (fSack f) (fCredit f) (rebind i f s) := by
  unfold ackFrameStep
  rw [h]

theorem acceptSeq_duplicate {s : State} {i : Nat} {f : RxFrame} (hold : seqAtOrAfter (fSeq f) (s.session i).rxNext = false) :
    acceptSeq i f s = ackSoon i (s.updSession i fun ss => { ss with dups := satInc ss.dups }) :=
  if_pos (by simp [hold])

theorem acceptSeq_overCredit {s : State} {i : Nat} {f : RxFrame} (hnew : seqAtOrAfter (fSeq f) (s.session i).rxNext = true)
    (hover : (s.session i).credit ≤ (fSeq f + 2 ^ 32 - (s.session i).advAck) % 2 ^ 32) :
    acceptSeq i f s = ackSoon i (s.updSession i fun ss => { ss with overCredit := satInc ss.overCredit }) :=
  (if_neg (by simp [hnew])).trans (if_pos hover)

/-! ### Frames of no open session (R599) -/

/-- The CLOSE that answers such a frame: it says whether the handle names a session that has stranded. -/
def unknownClose (f : RxFrame) (s : State) : OutFrame :=
  { port := f.port, mac := f.mac, vlan := f.vlan, pcp := f.pcp, ip := f.ip, udp := f.udp
    payload := ecdenHeader 5 0 (fHandle f) 4 0 0 0 0 ++ leBytes 2 (if (s.session (fHandle f % 4096)).st = .stranded ∧
      sessionHandle s (fHandle f % 4096) = fHandle f then St.sessionStranded else St.sessionUnknown) ++ leBytes 2 0 }

theorem unknownStep_ignores {s : State} {f : RxFrame}
    (h : frameMalformed s f = true ∨ fType f = 0 ∨ (openNamed s (fHandle f)).isSome = true) : unknownStep f s = s :=
  if_pos (by obtain h | h | h := h <;> simp [h])

theorem unknownStep_early {s : State} {f : RxFrame} {t : Nat} (ht : Tab.find? f.ip s.net.closeSent = some t)
    (hearly : s.ft < t + 2 ^ 12) : unknownStep f s = s := by
  have hwaits : (!(Tab.find? f.ip s.net.closeSent).all fun t => decide (t + 2 ^ 12 ≤ s.ft)) = true := by
    simpa [ht] using hearly
  simp only [unknownStep, hwaits, if_true, ite_self]

theorem unknownStep_closes {s : State} {f : RxFrame} (hgood : frameMalformed s f = false) (htype : fType f ≠ 0)
    (hnone : openNamed s (fHandle f) = none) (hdue : ∀ t, Tab.find? f.ip s.net.closeSent = some t → t + 2 ^ 12 ≤ s.ft) :
    unknownStep f s = putWire (unknownClose f s) { s with net.closeSent := Tab.put f.ip s.ft s.net.closeSent } := by
  have hall : ((Tab.find? f.ip s.net.closeSent).all fun t => decide (t + 2 ^ 12 ≤ s.ft)) = true :=
    Option.all_eq_true _ _ |>.2 fun t ht => decide_eq_true (hdue t ht)
  rw [unknownStep, if_neg (by simp [hgood, htype, hnone]), if_neg (by rw [hall]; exact Bool.false_ne_true)]
  rfl

/-- Settles O58: the engine's test of every frame, then the equation above of each command's step. -/
theorem ecdenFrames : Obligations.EcdenFrames := by
  unfold Obligations.EcdenFrames
  refine ⟨?every, ?taken, fun s i f => ⟨acceptSeq_duplicate, acceptSeq_overCredit⟩⟩
  case every =>
    intro s f c hc
    obtain ⟨k, hk⟩ := exec_onFrame hc
    refine ⟨fun hdead => ?_, fun hserves hfull => ?_, fun hserves hroom hstranded => ?_⟩
    · rw [hk, onFrame_notServing k hdead]
    · rw [hk, onFrame_full k hserves hfull]
    · rw [hk, onFrame_stranded k hserves hroom hstranded]
      exact ⟨fun hnone => congrArg _ (strandedAnswer_unnamed hnone), fun i hi =>
        ⟨fun hdue => congrArg _ (strandedAnswer_due hi hdue), fun t ht hearly => congrArg _ (strandedAnswer_early hi ht hearly)⟩⟩
  case taken =>
    intro s f hserves hroom hup
    have does {k : State → State} {u : State} (hk : k s = u) :
        (Host.Outcome.next (onFrame f k s) : Host.Outcome State Fault Refusal) = .next u :=
      congrArg _ ((onFrame_taken k hserves hroom hup).trans hk)
    refine ⟨fun h => does (malformedStep_ignores h), fun i hbad hlen hi => does (malformedStep_counts hbad hlen hi),
      fun h => does (authFailStep_ignores h), ?auth, fun h => does (openStep_ignores h), ?opens,
      fun payload hgood htype hrep => does (openStep_repeated hgood htype hrep), fun h => does (sequencedStep_none h),
      fun h => does (sequencedStep_none h), fun h => does (sequencedStep_none h), fun h => does (ackFrameStep_none h), ?accepted,
      fun h => does (unknownStep_ignores h), fun t _ _ _ ht hearly => does (unknownStep_early ht hearly),
      fun hgood htype hnone hdue => does (unknownStep_closes hgood htype hnone hdue)⟩
    case auth =>
      exact fun i hgood htype hi => ⟨fun hauth => does (authFailStep_matches hi hauth),
        fun hauth => does (authFailStep_fails hgood htype hi hauth)⟩
    case opens =>
      intro hgood htype hnew
      refine ⟨fun hok i hi => ?_, fun st hst hbad => ?_, fun hout => does (openStep_dropped hnew hout)⟩
      · obtain ⟨hst, hip, hudp, hgen, hnonce⟩ := openSession_session f i s
        exact ⟨_, does (openStep_opens hgood htype hnew hok hi), hst, hip, hudp, hgen, hnonce, openSession_opens f i s,
          fun j hj => openSession_session_ne f hj s⟩
      · obtain ⟨key, hkey⟩ := openStep_refused hgood htype hnew hst hbad
        exact ⟨key, does hkey⟩
    case accepted =>
      exact fun i => ⟨fun h => does (sequencedStep_accepted h), fun h => does (sequencedStep_accepted h),
        fun h => does (sequencedStep_accepted h), fun h => does (ackFrameStep_accepted h)⟩

end Sys2Proof.Machine
end

section
/-!
SUPPORT. Statements of chapter 12 on the engine's timers: acknowledgements, the rise of CREDIT, visits, retransmission, and the index
of a stranded session (R601 to R607).
-/

namespace Sys2Proof.Machine
open Sys2Proof.Safety

/-! ### The engine's commands -/

/-- Any command of the engine does nothing while the engine does not run. -/
theorem exec_engineIdle {s : State} (hidle : engineRuns s = false) {i seq : Nat} {c : Instr}
    (hc : c ∈ [Instr.ackTimer i, .creditRiseAck i, .engineVisit i, .retransmitTimeout i seq, .sessionStrand i]) :
    exec c s = .next s := by
  simp only [List.mem_cons, List.not_mem_nil, or_false] at hc
  obtain rfl | rfl | rfl | rfl | rfl := hc
  · exact congrArg Host.Outcome.next (if_neg (by simp [hidle]))
  · exact congrArg Host.Outcome.next (if_neg (by simp [hidle]))
  · exact congrArg Host.Outcome.next (if_neg (by simp [hidle]))
  · exact congrArg Host.Outcome.next (if_pos (by simp [hidle]))
  · exact congrArg Host.Outcome.next (if_neg (by simp [hidle]))

section
variable {s : State} (hruns : engineRuns s = true) (i : Nat)
include hruns

theorem ackTimerStep_running : ackTimerStep i s = if (s.session i).ackDue.isSome then sendAck i s else s := by
  rw [ackTimerStep, hruns, Bool.true_and]

theorem creditRiseStep_running :
    creditRiseStep i s = if (s.session i).blocked = true ∧ waitCleared s i = true then unblock i s else s := by
  simp only [creditRiseStep, hruns, Bool.true_and, Bool.and_eq_true]

theorem visitStep_running : visitStep i s = if visitTurn s = some i then visit i { s with net.lastVisit := i } else s := by
  simp only [visitStep, hruns, Bool.true_and, beq_iff_eq]

theorem retransmitStep_due {seq : Nat} {t : TxFrame}
    (hdue : ((s.session i).unacked.find? fun t => t.seq == seq && resendDue s t && decide (t.tries < 8)) = some t) :
    retransmitStep i seq s = resend i t s := by
  simp only [retransmitStep, hruns, hdue, Bool.not_true, Bool.false_eq_true, if_false]

theorem strandStep_running : strandStep i s = if giveUp s i = true then strandSession i s else s := by
  rw [strandStep, hruns, Bool.true_and]
end

theorem retransmitStep_spent {s : State} {i seq : Nat}
    (hspent : ∀ t ∈ (s.session i).unacked, t.seq = seq → resendDue s t = true → 8 ≤ t.tries) : retransmitStep i seq s = s := by
  have hnone : ((s.session i).unacked.find? fun t => t.seq == seq && resendDue s t && decide (t.tries < 8)) = none := by
    refine List.find?_eq_none.2 fun t ht hdue => ?_
    simp only [Bool.and_eq_true, beq_iff_eq, decide_eq_true_eq] at hdue
    obtain ⟨⟨hseq, hpast⟩, hleft⟩ := hdue
    exact absurd (hspent t ht hseq hpast) (Nat.not_le.2 hleft)
  simp only [retransmitStep, hnone, ite_self]

/-! ### The index of a stranded session (R606) -/

/-- The index keeps its generation and its counters (notes/assumptions/56.md). -/
theorem indexFreeStep_due {s : State} {i : Nat} (hstranded : (s.session i).st = .stranded)
    (hdue : (s.session i).strandedAt + 2 ^ 24 ≤ s.ft) :
    indexFreeStep i s = s.updSession i fun ss => blankSession ss .free := if_pos ⟨hstranded, hdue⟩

theorem indexFreeStep_stays {s : State} {i : Nat} (h : (s.session i).st ≠ .stranded ∨ s.ft < (s.session i).strandedAt + 2 ^ 24) :
    indexFreeStep i s = s :=
  if_neg fun ⟨hstranded, hdue⟩ => h.elim (· hstranded) (Nat.not_lt.2 hdue)

/-- Settles O59: each clause is the equation above of its command's step. -/
theorem ecdenTimers : Obligations.EcdenTimers := by
  unfold Obligations.EcdenTimers
  refine ⟨fun s i seq c hc hidle => exec_engineIdle hidle hc, ?running, fun s i => ⟨?free, ?stays⟩⟩
  case running =>
    exact fun s i hruns => ⟨congrArg Host.Outcome.next (ackTimerStep_running hruns i),
      congrArg Host.Outcome.next (creditRiseStep_running hruns i), congrArg Host.Outcome.next (visitStep_running hruns i),
      fun seq t hdue => congrArg Host.Outcome.next (retransmitStep_due hruns i hdue),
      fun seq hspent => congrArg Host.Outcome.next (retransmitStep_spent hspent),
      congrArg Host.Outcome.next (strandStep_running hruns i)⟩
  case free =>
    intro hstranded hdue
    have hblank : (s.updSession i fun ss => blankSession ss .free).session i = blankSession (s.session i) .free :=
      State.updSession_session s i _
    refine ⟨_, congrArg Host.Outcome.next (indexFreeStep_due hstranded hdue), ?_, hblank⟩
    rw [hblank]
    rfl
  case stays => exact fun h => congrArg Host.Outcome.next (indexFreeStep_stays h)

end Sys2Proof.Machine
end

section
/-!
SUPPORT. Statements of chapter 13 on refused mail: what taking a message leaves of the module, so that firmware's refusals are the same
before and after, and every mail command as one mail step (R609, R628 to R631, R768, R769, R890).
-/

namespace Sys2Proof.Machine
open Sys2Proof.Safety

/-! ### What a refusal looks at stands when the message is taken (R628 to R631, R768, R769) -/

theorem dropMail_session (i : Nat) (m : Bytes) (s : State) :
    (dropMail (.session i) m s).session i = { s.session i with inbox := (s.session i).inbox.erase m } :=
  State.updSession_session s i fun ss => { ss with inbox := ss.inbox.erase m }

theorem dropMail_lifeCycle (src : MailSrc) (m : Bytes) (s : State) : lifeCycle (dropMail src m s) = lifeCycle s := by
  simp only [lifeCycle, dropMail_fuses]

theorem dropMail_ready (src : MailSrc) (m : Bytes) (s : State) : ready (dropMail src m s) = ready s := by
  simp only [ready, dropMail_boot]

theorem dropMail_lightLost (src : MailSrc) (m : Bytes) (s : State) : lightLost (dropMail src m s) = lightLost s := by
  simp only [lightLost, State.group, dropMail_light]

theorem dropMail_listFull (src : MailSrc) (m : Bytes) (s : State) (k : Nat) : listFull (dropMail src m s) k = listFull s k := by
  simp only [listFull, dropMail_mem]

theorem dropMail_poisonFull (src : MailSrc) (m : Bytes) (s : State) : poisonFull (dropMail src m s) = poisonFull s := by
  simp only [poisonFull, funext (dropMail_listFull src m s)]

theorem dropMail_jtagLevel (src : MailSrc) (m : Bytes) (s : State) :
    (dropMail src m s).sec.jtag.level = s.sec.jtag.level := by cases src <;> rfl

theorem dropMail_senderClass (src : MailSrc) (m : Bytes) (s : State) : senderClass (dropMail src m s) src = senderClass s src := by
  cases src with
  | jtag => rfl
  | session i => simp only [senderClass, dropMail_session]

theorem mailAuthority_dropMail (src : MailSrc) (code : Nat) (m : Bytes) (s : State) :
    mailAuthority (dropMail src m s) src code m = mailAuthority s src code m := by
  simp only [mailAuthority, dropMail_lifeCycle, dropMail_jtagLevel, dropMail_senderClass]

theorem mailClassGate_dropMail (src : MailSrc) (code : Nat) (m : Bytes) (s : State) :
    mailClassGate (dropMail src m s) code = mailClassGate s code := by
  simp only [mailClassGate, dropMail_ready, dropMail_power, dropMail_lightLost, dropMail_poisonFull]

theorem mailRefusal_dropMail (src : MailSrc) (code : Nat) (m : Bytes) (s : State) :
    mailRefusal (dropMail src m s) src code m = mailRefusal s src code m := by
  simp only [mailRefusal, mailAuthority_dropMail, mailClassGate_dropMail]

/-! ### Every mail command is one mail step (R609, R629) -/

/-- A MEM_READ may wait for a path to its bytes (R27); any other mail command takes each message of its code and OP. -/
theorem exec_mail {c : Instr} {src : MailSrc} {code : Nat} {op : Option Nat} (s : State) (hc : mailOf c = some (src, code, op))
    (hread : c ≠ .memRead src) : ∃ body, exec c s = .next (mailStepSel src code (takesOp op) body s) := by
  unfold mailOf at hc
  split at hc <;> cases hc
  case h_9 => exact absurd rfl hread
  all_goals exact ⟨_, rfl⟩

/-- A MEM_READ that is refused does not wait (R27, R628). -/
theorem memReadReady_refused {s : State} {src : MailSrc} {m : Bytes} (hr : mailRefusal s src 0x13 m ≠ 0) :
    memReadReady src s m = true := by
  rw [memReadReady, bne_iff_ne.2 hr, Bool.true_or]

/-- Settles O6: every mail command is one mail step, which a refusal ends before the message's body, and MEM_READ does not wait
where it is refused. -/
theorem refusedMailAnswersAndChangesNothing : Obligations.RefusedMailAnswersAndChangesNothing := by
  unfold Obligations.RefusedMailAnswersAndChangesNothing
  intro c src code op s hc
  by_cases hread : c = .memRead src
  · subst hread
    cases hc
    refine ⟨fun m hoff _ hr => congrArg Host.Outcome.next (mailStepSel_refused hoff _ _ (memReadReady_refused ?_) hr),
      fun hnone => congrArg Host.Outcome.next (mailStepSel_none _ _ fun m hoff => (Bool.eq_false_iff.1 (hnone m hoff) rfl).elim)⟩
    rwa [mailRefusal_dropMail] at hr
  · obtain ⟨body, hexec⟩ := exec_mail s hc hread
    rw [hexec]
    exact ⟨fun m hoff hop hr => congrArg Host.Outcome.next (mailStepSel_refused hoff _ _ hop hr),
      fun hnone => congrArg Host.Outcome.next (mailStepSel_none _ _ hnone)⟩

end Sys2Proof.Machine
end

section
/-!
SUPPORT. Statements of chapter 13 on accepted mail: each message's body, read at the premises of its clause, and the mail step that
runs it (R628, R637 to R641, R659 to R664, R690, R709, R710).
-/

namespace Sys2Proof.Machine
open Sys2Proof.Safety

/-! ### An accepted message's command (R629) -/

theorem next_mailStepSel {s t : State} {src : MailSrc} {m : Bytes} {code : Nat} {sel : Bytes → Bool}
    {body : Nat → Bytes → State → State} (hacc : Accepted s src code m) (hsel : sel m = true)
    (hbody : body (corrOf m) m (dropMail src m s) = t) :
    (.next (mailStepSel src code sel body s) : Host.Outcome State Fault Refusal) = .next (checkpointStep t) := by
  rw [mailStepSel_accepted hacc sel body hsel, hbody]

theorem next_mailStep {s t : State} {src : MailSrc} {m : Bytes} {code : Nat} {body : Nat → Bytes → State → State}
    (hacc : Accepted s src code m) (hbody : body (corrOf m) m (dropMail src m s) = t) :
    (.next (mailStep src code body s) : Host.Outcome State Fault Refusal) = .next (checkpointStep t) :=
  next_mailStepSel hacc rfl hbody

/-! ### Identity, time and events (R628, R637 to R641, R832, R838) -/

theorem refuseUnparsed_front {s : State} {src : MailSrc} {m : Bytes} (hfront : frontMail s src = some m) (hcode : mailCode m = none) :
    refuseUnparsed src s = checkpointStep
      (if m.length < 8 then answer src 0 0 St.length [] (dropMail src m s)
       else answer src (leField m 0 2) (corrOf m) St.command [] (dropMail src m s)) := by
  simp only [refuseUnparsed, takeMail, hfront, hcode, Option.isNone_none, if_true, corrOf]

theorem answerStamped_issued {s t : State} {st : Nat} (hst : issueStamp 30 (.reply s.work.jobNo) s = (some st, t)) (src : MailSrc)
    (code corr : Nat) (pre post : Bytes) :
    answerStamped src code corr pre post s = answer src code corr St.ok (pre ++ leBytes 8 st ++ post) t := by
  simp only [answerStamped, hst]

theorem dropMail_ftStatus (src : MailSrc) (m : Bytes) (s : State) : ftStatus (dropMail src m s) = ftStatus s := by
  simp only [ftStatus, dropMail_time]

theorem dropMail_fullLseq (src : MailSrc) (m : Bytes) (s : State) (first : Nat) :
    fullLseq (dropMail src m s) first = fullLseq s first := by
  simp only [fullLseq, dropMail_log]

theorem dropMail_eventsFrom (src : MailSrc) (m : Bytes) (s : State) (first count : Nat) :
    eventsFrom (dropMail src m s) first count = eventsFrom s first count := by
  simp only [eventsFrom, dropMail_fullLseq, dropMail_log]

/-- Where the log still holds FIRST the reply begins with it. -/
theorem mailEventRead_held {s : State} {m : Bytes} {e : LogEntry} {l : List LogEntry} (hlog : s.log.entries = e :: l)
    (hheld : e.lseq ≤ fullLseq s (leField m 8 4)) (src : MailSrc) (corr : Nat) :
    mailEventRead src corr m s = answer src 0x05 corr St.ok
      (leBytes 4 (leField m 8 4) ++ leBytes 2 (eventsFrom s (leField m 8 4) (leField m 0x0C 2)).length ++ leBytes 2 0 ++
        (eventsFrom s (leField m 8 4) (leField m 0x0C 2)).flatMap entryBytes) s := by
  simp only [mailEventRead, hlog, Nat.not_lt.2 hheld, if_false]

theorem mailTelemetryRead_inRange {s : State} {m : Bytes} {sh : Nat × Nat} (hshape : itemShape (leField m 8 4) = some sh)
    (hindex : leField m 0x0C 4 < sh.1) (src : MailSrc) (corr : Nat) :
    let n := readCount sh (leField m 0x0C 4) (leField m 0x10 2)
    mailTelemetryRead src corr m s = answerStamped src 0x03 corr (leBytes 4 (leField m 8 4) ++ leBytes 2 n ++ leBytes 2 sh.2)
      ((List.range n).flatMap fun j => leBytes sh.2 (itemValue s (leField m 8 4) (leField m 0x0C 4 + j) j))
      ((List.range n).foldl (fun s j => clearRead (leField m 8 4) (leField m 0x0C 4 + j) s) { s with freeCtr := s.freeCtr + n }) := by
  simp only [mailTelemetryRead, hshape, Nat.not_le.2 hindex, if_false]

/-- Settles O8: the mail step runs the body of each message, which answers what the state without the message holds. -/
theorem identityTimeAndEventMail : Obligations.IdentityTimeAndEventMail := by
  unfold Obligations.IdentityTimeAndEventMail
  intro src m s
  refine ⟨?short, ?unknown, fun hacc => next_mailStep hacc rfl, ?pound, ?time, ?subscribe, ?events, ?telemetry⟩
  case short =>
    intro hfront hcode hlen
    exact congrArg Host.Outcome.next ((refuseUnparsed_front hfront hcode).trans (by rw [if_pos hlen]))
  case unknown =>
    intro hfront hcode hlen
    exact congrArg Host.Outcome.next ((refuseUnparsed_front hfront hcode).trans (by rw [if_neg (Nat.not_lt.2 hlen)]))
  case pound =>
    intro hacc
    refine next_mailStep hacc ?_
    rw [mailPoundStatus, dropMail_pound]
  case time =>
    intro st t hacc hst
    refine next_mailStep hacc ?_
    rw [mailFtRead, dropMail_ft, dropMail_ftStatus]
    rw [← dropMail_work src m s] at hst
    exact answerStamped_issued hst src 0x02 (corrOf m) _ _
  case subscribe =>
    rintro i rfl hacc
    exact next_mailStep hacc rfl
  case events =>
    intro e l hlog hheld hacc
    refine next_mailStep hacc ?_
    rw [mailEventRead_held (by rwa [dropMail_log]) (by rwa [dropMail_fullLseq]), dropMail_eventsFrom]
  case telemetry =>
    intro sh st t hacc hshape hindex n u hst
    refine next_mailStep hacc ?_
    rw [mailTelemetryRead_inRange hshape hindex, dropMail_freeCtr]
    exact answerStamped_issued hst src 0x03 (corrOf m) _ _

/-! ### Configuration and calibration sets (R659 to R661, R821, R822) -/

theorem dropMail_itemStored (src : MailSrc) (m : Bytes) (s : State) (item : Nat) :
    itemStored (dropMail src m s) item = itemStored s item := by
  simp only [itemStored, dropMail_boot]

theorem mailConfigRead_item {m : Bytes} (hitem : configItems.contains (leField m 8 2) = true) (src : MailSrc) (corr : Nat) (s : State) :
    mailConfigRead src corr m s = answer src 0x40 corr St.ok
      (leBytes 2 (leField m 8 2) ++ leBytes 2 (itemStored s (leField m 8 2)).length ++ leBytes 4 0 ++ itemStored s (leField m 8 2)) s :=
  if_pos hitem

theorem mailConfigWrite_permitted {s : State} {m : Bytes} (hitem : configItems.contains (leField m 8 2) = true)
    (hvalue : valueOk (leField m 8 2) ((m.drop 0x10).take (leField m 0x0A 2)) = true)
    (hcycle : ¬ ((leField m 8 2 = 0x0201 ∨ leField m 8 2 = 0x0300) ∧ lifeCycle s = 2)) (src : MailSrc) (corr : Nat) :
    mailConfigWrite src corr m s = flashWrite src 0x41 corr 7
      (.config { latestConfig s with
        items := Tab.putD (configDefault (leField m 8 2)) (leField m 8 2) ((m.drop 0x10).take (leField m 0x0A 2))
          (latestConfig s).items }) s := by
  simp only [mailConfigWrite, hitem, hvalue, hcycle, Bool.not_true, Bool.false_eq_true, if_false]

theorem mailCalibRead_inr {s : State} {m : Bytes} {b : Buffer}
    (hb : mailBuffer s (leField m 8 4) (leField m 0x10 8) (Config.calibSetLength % 4194241) false = .inr b) (src : MailSrc) (corr : Nat) :
    let u := (calibBytes s).2
    let d := (calibBytes s).1
    mailCalibRead src corr m s = sendWrites 30 (bufBase b + leField m 0x10 8) d (.mail u.work.jobNo)
      (addJob (.atCommit (openSerial u) (leBytes 8 d.length) (bufBase b + leField m 0x10 8) d) src 0x42 corr u) := by
  simp only [mailCalibRead, hb, orRefuse]

section
variable {s : State} {m : Bytes} {b : Buffer}

theorem mailCalibWrite_erases (hlen : leField m 0x18 8 = 0)
    (hb : mailBuffer (sourceErrors (leField m 8 4) (leField m 0x10 8) 0 s) (leField m 8 4) (leField m 0x10 8) 0 true = .inr b)
    (src : MailSrc) (corr : Nat) :
    let u := sourceErrors (leField m 8 4) (leField m 0x10 8) 0 s
    mailCalibWrite src corr m s = flashAdd (.eraseRecord 8 (.reply u.work.jobNo)) (addJob .flash src 0x43 corr u) := by
  simp only [mailCalibWrite, hlen, hb, orRefuse, if_true]

theorem mailCalibWrite_stores (hpos : 0 < leField m 0x18 8) (hfits : leField m 0x18 8 ≤ 4194240)
    (hb : mailBuffer (sourceErrors (leField m 8 4) (leField m 0x10 8) (leField m 0x18 8) s) (leField m 8 4) (leField m 0x10 8)
      (leField m 0x18 8) true = .inr b) (src : MailSrc) (corr : Nat) :
    let u := sourceErrors (leField m 8 4) (leField m 0x10 8) (leField m 0x18 8) s
    let d := committedRead u (bufBase b + leField m 0x10 8) (leField m 0x18 8)
    mailCalibWrite src corr m s =
      if Config.calibUnitOk d = false then answer src 0x43 corr St.calibUnit [] u
      else if Config.calibFormOk d = false then answer src 0x43 corr St.calibForm [] u
      else flashWrite src 0x43 corr 8 (.calib d) u := by
  simp only [mailCalibWrite, hb, orRefuse, Nat.ne_of_gt hpos, Nat.not_lt.2 hfits, Bool.not_eq_true', if_false]
end

/-- Settles O15: the mail step runs the body of each message, at what its premises say of the item, the range and the set. -/
theorem configurationAndCalibrationMail : Obligations.ConfigurationAndCalibrationMail := by
  unfold Obligations.ConfigurationAndCalibrationMail
  refine ⟨?configRead, ?configWrite, fun src m s b hacc hb => next_mailStep hacc (mailCalibRead_inr hb src _),
    fun src m s b hacc hlen hb => next_mailStep hacc (mailCalibWrite_erases hlen hb src _),
    fun src m s b hacc hpos hfits hb => next_mailStep hacc (mailCalibWrite_stores hpos hfits hb src _)⟩
  case configRead =>
    intro src m s hacc hitem
    refine next_mailStep hacc ?_
    rw [mailConfigRead_item hitem, dropMail_itemStored]
  case configWrite =>
    intro src m s hacc hitem hvalue hcycle
    refine next_mailStep hacc ?_
    rw [mailConfigWrite_permitted hitem hvalue (by rwa [dropMail_lifeCycle]), dropMail_latestConfig]

/-! ### Power and reset (R662 to R664, R690, R709, R710) -/

theorem addJob_ready (kind : JobKind) (src : MailSrc) (code corr : Nat) (s : State) :
    ready (addJob kind src code corr s) = ready s := rfl

theorem mailPowerSet_permitted {s : State} {m : Bytes} (hpermitted : powerRefusal s (leField m 8 1) = 0)
    (hmoves : s.power.pstate ≠ leField m 8 1) (src : MailSrc) (corr : Nat) :
    let u := addJob .power src 0x48 corr s
    mailPowerSet src corr m s =
      if ready s = false ∧ s.power.pstate ≠ 4 ∧ leField m 8 1 ≠ 4 then
        { u with power.heldReq := some { target := leField m 8 1, cap := leField m 9 1, job := s.work.jobNo } }
      else startTransition (leField m 8 1) (leField m 9 1) (some s.work.jobNo) .host u := by
  simp only [mailPowerSet, hpermitted, hmoves, addJob_ready, ne_eq, not_true, false_and, if_false, Bool.and_eq_true, Bool.not_eq_true',
    bne_iff_ne, and_assoc]
  rfl

theorem transitionStep_over {s : State} {tr : Transition} (hmoves : (quiesceCheck s).power.transition = some tr)
    (hover : transitionOver (quiesceCheck s) tr = true) (htrip : (quiesceCheck s).power.tripAt = none) :
    transitionStep s = finishTransition tr (quiesceCheck s) := by
  simp only [transitionStep, hmoves, hover, htrip, Option.isNone_none, Bool.and_self, if_true]

theorem dropMail_isBroken (src : MailSrc) (m : Bytes) (s : State) (c : Nat) : isBroken (dropMail src m s) c = isBroken s c := by
  simp only [isBroken, dropMail_power]

theorem dropMail_resumeBlocked (src : MailSrc) (m : Bytes) (s : State) (r : Nat) :
    resumeBlocked (dropMail src m s) r = resumeBlocked s r := by
  rw [resumeBlocked, brokenIn, funext (dropMail_isBroken src m s), dropMail_power]
  rfl

theorem mailResume_cool {s : State} (hdown : s.power.shutdown = true) (hcool : ∀ r, r < 29 → resumeBlocked s r = false) (src : MailSrc)
    (corr : Nat) (m : Bytes) :
    mailResume src corr m s = startTransition 0 11 (some s.work.jobNo) .host
      { addJob .power src 0x49 corr s with power.shutdown := false, pins.thermtripN := true } := by
  have hclear : (List.range 29).any (resumeBlocked s) = false :=
    List.any_eq_false.2 fun r hr => Bool.eq_false_iff.1 (hcool r (List.mem_range.1 hr))
  simp only [mailResume, hdown, hclear, Bool.not_true, Bool.false_eq_true, if_false]

theorem timerReset_due {s : State} (hdue : s.boot.resetAt = some 0) (hup : s.lk.stranded = none) (hpin : s.pins.resetN = true) :
    timerReset s = resetModule s.boot.resetCause true s := by
  simp only [timerReset, hdue, selfReset, stranded, hup, hpin, Option.isSome_none, Bool.not_true, Bool.or_self, Bool.false_eq_true,
    if_true, if_false]

/-- Settles O16: the mail step runs the body of each message; a transition that is over ends, and a timer that has run out resets. -/
theorem powerAndResetMail : Obligations.PowerAndResetMail := by
  unfold Obligations.PowerAndResetMail
  refine ⟨?set, fun s tr hmoves hover htrip => congrArg Host.Outcome.next (transitionStep_over hmoves hover htrip), ?resume,
    fun src m s hacc => next_mailStep hacc rfl,
    fun s hdue hup hpin => congrArg Host.Outcome.next (timerReset_due hdue hup hpin)⟩
  case set =>
    intro src m s hacc hpermitted hmoves u
    refine next_mailStep hacc ?_
    rw [mailPowerSet_permitted hpermitted (by rwa [dropMail_power]), dropMail_ready, dropMail_power, dropMail_work]
  case resume =>
    intro src m s hacc hdown hcool
    refine next_mailStep hacc ?_
    rw [mailResume_cool (by rwa [dropMail_power]) (fun r hr => (dropMail_resumeBlocked src m s r).trans (hcool r hr)), dropMail_work]

end Sys2Proof.Machine
end

section
/-!
SUPPORT. Statements of chapter 13 on the mail of firmware update, attestation, keys, life cycle and debug (R665 to R673, R763, R764,
R776, R784 to R787, R806, R809).
-/

namespace Sys2Proof.Machine
open Sys2Proof.Safety

/-! ### Firmware update (R665, R666, R806, R809) -/

theorem mailUpdateStage_stages {s : State} {m : Bytes} {b : Buffer} (hfits : leField m 0x18 8 ≤ 2 ^ 25)
    (hb : mailBuffer (sourceErrors (leField m 8 4) (leField m 0x10 8) (leField m 0x18 8) s) (leField m 8 4) (leField m 0x10 8)
      (leField m 0x18 8) true = .inr b)
    (htrial : onTrial (sourceErrors (leField m 8 4) (leField m 0x10 8) (leField m 0x18 8) s) = false)
    (hstage : staging (sourceErrors (leField m 8 4) (leField m 0x10 8) (leField m 0x18 8) s) = false) (src : MailSrc) (corr : Nat) :
    let u := sourceErrors (leField m 8 4) (leField m 0x10 8) (leField m 0x18 8) s
    mailUpdateStage src corr m s = flashAdd
      (.write 1 (.boot (setSlot (latestBoot u) (!u.boot.bootRec.running) .empty))
        (.stage (!u.boot.bootRec.running) (committedRead u (bufBase b + leField m 0x10 8) (leField m 0x18 8)) u.work.jobNo))
      (addJob .flash src 0x50 corr u) := by
  simp only [mailUpdateStage, hb, htrial, hstage, orRefuse, Nat.not_lt.2 hfits, Bool.false_eq_true, if_false]

/-- The module once an image stands in a slot of the flash, `rest` still queued. -/
def imageStored (slotB : Bool) (img : Bytes) (rest : List FlashOp) (s : State) : State :=
  if slotB then { s with flash.imageB := img, flash.queue := rest } else { s with flash.imageA := img, flash.queue := rest }

/-- The boot state that makes the slot PENDING is taken from the writes still queued, so it is the same whichever image is stored. -/
theorem programDone_programmed {s : State} {slotB : Bool} {img : Bytes} {next : FlashThen} {rest : List FlashOp}
    (hfront : s.flash.queue = .program slotB img next :: rest) :
    programDone s = flashAdd (.write 1 (.boot (setSlot (latestBoot { s with flash.queue := rest }) slotB .pending)) next)
      (imageStored slotB img rest s) := by
  unfold programDone
  rw [hfront]
  cases slotB <;> rfl

theorem dropMail_onTrial (src : MailSrc) (m : Bytes) (s : State) : onTrial (dropMail src m s) = onTrial s := by
  simp only [onTrial, dropMail_boot]

theorem dropMail_itemBoot (src : MailSrc) (m : Bytes) (s : State) (item : Nat) :
    itemBoot (dropMail src m s) item = itemBoot s item := by
  simp only [itemBoot, dropMail_boot]

theorem mailHealthConfirm_trial {s : State} (htrial : onTrial s = true) (hhost : leNat (itemBoot s 0x0300) ≠ 0) (src : MailSrc)
    (corr : Nat) (m : Bytes) :
    mailHealthConfirm src corr m s = confirmImage (some s.work.jobNo) (addJob .flash src 0x51 corr s) := by
  simp only [mailHealthConfirm, htrial, beq_false_of_ne hhost, Bool.not_true, Bool.or_self, Bool.false_eq_true, if_false]

/-! ### Attestation, keys and the life cycle (R667 to R670, R763, R764, R776) -/

theorem mailAttest_begins {s : State} {m : Bytes} {b : Buffer} (hseeds : s.sec.seeds = true)
    (hb : mailBuffer s (leField m 0x28 4) (leField m 0x30 8) 8685 false = .inr b) (src : MailSrc) (corr : Nat) :
    mailAttest src corr m s = attestSign s.work.jobNo
      (addJob (.attestWrite ((m.drop 8).take 32) (leField m 0x28 4) (leField m 0x30 8)) src 0x58 corr s) := by
  simp only [mailAttest, hseeds, hb, orRefuse, Bool.not_true, Bool.false_eq_true, if_false]

/-- The vault once a KEY_INSTALL has written or erased its slot (R668). -/
def installed (m : Bytes) (vault : Tab Bytes) : Tab Bytes :=
  if leField m 0x0A 1 = 0 then Tab.put (leField m 8 2) ((m.drop 0x10).take 32) vault else Tab.del (leField m 8 2) vault

theorem mailKeyInstall_installs {s : State} (hserves : s.sec.awaitSlot0 = false) (src : MailSrc) (corr : Nat) (m : Bytes) :
    let v : State := { s with sec.vault := installed m s.sec.vault }
    mailKeyInstall src corr m s = closeSessions (fun _ ss => ss.key == some (leField m 8 2)) St.sessionClosed
      (answer src 0x59 corr St.ok []
        (logEvent Ev.key (leBytes 1 (leField m 8 2) ++ leBytes 1 (leField m 0x0A 1)) (if leField m 8 2 = 0 then v else writeKeys v))) := by
  simp only [mailKeyInstall, hserves, Bool.false_eq_true, if_false, installed]

theorem dropMail_lcPermitted (src : MailSrc) (m : Bytes) (s : State) (a b : Nat) :
    lcPermitted (dropMail src m s) a b = lcPermitted s a b := by
  simp only [lcPermitted, dropMail_vault]

theorem mailLifecycleSet_moves {s : State} {m : Bytes} (hunit : leField m 0x10 8 = s.sec.fuses.unitId % 2 ^ 64)
    (hpermitted : lcPermitted s (lifeCycle s) (leField m 8 1) = true) (src : MailSrc) (corr : Nat) :
    mailLifecycleSet src corr m s = lcMove (leField m 8 1) s.work.jobNo (addJob .lifecycle src 0x5A corr s) := by
  simp only [mailLifecycleSet, hunit, hpermitted, ne_eq, not_true, Bool.not_true, Bool.false_eq_true, if_false]

/-- Settles O17: the mail step runs the body of each message, and the end of a programming leaves its image in the slot. -/
theorem updateAndKeyMail : Obligations.UpdateAndKeyMail := by
  unfold Obligations.UpdateAndKeyMail
  refine ⟨fun src m s b hacc hfits hb htrial hstage => next_mailStep hacc (mailUpdateStage_stages hfits hb htrial hstage src _),
    fun s img next rest hfront => congrArg Host.Outcome.next (programDone_programmed hfront),
    fun s img next rest hfront => congrArg Host.Outcome.next (programDone_programmed hfront), ?confirm, ?attest, ?key, ?cycle⟩
  case confirm =>
    intro src m s hacc htrial hhost
    refine next_mailStep hacc ?_
    rw [mailHealthConfirm_trial (by rwa [dropMail_onTrial]) (by rwa [dropMail_itemBoot]), dropMail_work]
  case attest =>
    intro src m s b hacc hseeds hb
    refine next_mailStep hacc ?_
    rw [mailAttest_begins (by rwa [dropMail_seeds]) hb, dropMail_work]
  case key =>
    intro src m s hacc hserves u vault v
    refine next_mailStep hacc ?_
    rw [mailKeyInstall_installs (by rwa [dropMail_awaitSlot0]), dropMail_vault]
    rfl
  case cycle =>
    intro src m s hacc hunit hpermitted
    refine next_mailStep hacc ?_
    rw [mailLifecycleSet_moves (by rwa [dropMail_fuses]) (by rwa [dropMail_lcPermitted, dropMail_lifeCycle]), dropMail_work]

/-! ### Debug (R671 to R673, R784 to R787) -/

theorem mailDebugOpen_opens {s : State} {m : Bytes} {src : MailSrc} (hallowed : levelAllowed s (leField m 8 1) = true)
    (hfree : leField m 8 1 < 2 ∨ otherHolds s src = false) (corr : Nat) :
    mailDebugOpen src corr m s = answer src 0x60 corr St.ok (leBytes 1 (leField m 8 1) ++ leBytes 7 0) (openLevel src (leField m 8 1) s) := by
  have hclear : ¬ (2 ≤ leField m 8 1 ∧ otherHolds s src = true) := fun ⟨hdeep, hheld⟩ =>
    hfree.elim (Nat.not_lt.2 hdeep) (Bool.eq_false_iff.1 · hheld)
  simp only [mailDebugOpen, hallowed, hclear, Bool.not_true, Bool.false_eq_true, if_false]

theorem debugOpIs_of_op {m : Bytes} {op : Nat} (hop : leField m 8 1 = op) (hle : op ≤ 3) : debugOpIs op m = true := by
  rw [debugOpIs, hop, Nat.min_eq_left hle]
  exact beq_self_eq_true op

theorem dropMail_poundActive (src : MailSrc) (m : Bytes) (s : State) : poundActive (dropMail src m s) = poundActive s := by
  simp only [poundActive, stranded, dropMail_pound, dropMail_lk]

section
variable {s : State} {m : Bytes} {src : MailSrc}

theorem debugOp_deep (hlevel : 2 ≤ senderLevel s src) (corr : Nat) (k : State → State) : debugOp src corr k s = k s :=
  if_neg (Nat.not_lt.2 hlevel)

theorem mailDebugHalt_noPound (hlevel : 2 ≤ senderLevel s src) (hruns : s.sec.halted = none) (hpound : poundActive s = false)
    (corr : Nat) : mailDebugHalt src corr m s = answer src 0x61 corr St.ok [] (haltPair s) := by
  rw [mailDebugHalt, debugOp_deep hlevel]
  simp only [hruns, hpound, Option.isSome_none, Bool.not_false, Bool.false_eq_true, if_true, if_false]

theorem mailDebugHalt_pound (hlevel : 2 ≤ senderLevel s src) (hruns : s.sec.halted = none) (hpound : poundActive s = true)
    (corr : Nat) : mailDebugHalt src corr m s = askClose (s.ft + 1) .debug (addJob .halt src 0x61 corr s) := by
  rw [mailDebugHalt, debugOp_deep hlevel]
  simp only [hruns, hpound, Option.isSome_none, Bool.not_true, Bool.false_eq_true, if_false]

theorem mailDebugRead_allowed (hlevel : 2 ≤ senderLevel s src)
    (hrange : ∀ i, i < leField m 0x0C 4 → readRefusal s (senderLevel s src) (leField m 0x10 8 + i) = 0) (corr : Nat) :
    mailDebugRead src corr m s = answer src 0x61 corr St.ok
      (leBytes 4 (leField m 0x0C 4) ++ leBytes 4 0 ++
        (List.range (leField m 0x0C 4)).map fun i => debugByte s s.freeCtr (leField m 0x10 8 + i) i)
      { s with freeCtr := s.freeCtr + 1 } := by
  have hnone : (((List.range (leField m 0x0C 4)).map fun i => readRefusal s (senderLevel s src) (leField m 0x10 8 + i)).find?
      (· ≠ 0)) = none := by
    refine List.find?_eq_none.2 fun st hst => ?_
    obtain ⟨i, hi, rfl⟩ := List.mem_map.1 hst
    rw [hrange i (List.mem_range.1 hi)]
    exact of_decide_eq_false rfl
  rw [mailDebugRead, debugOp_deep hlevel]
  simp only [hnone]
end

/-- Settles O18: each OP's message is the one its command takes, and the mail step runs its body at the level the sender holds. -/
theorem debugMail : Obligations.DebugMail := by
  unfold Obligations.DebugMail
  refine ⟨fun src m s hacc hallowed hfree => next_mailStep hacc (mailDebugOpen_opens hallowed hfree _), ?halt, ?step, ?run, ?read,
    fun src m s hacc => next_mailStep hacc rfl⟩
  case halt =>
    intro src m s hacc hop hlevel hruns
    rw [← dropMail_senderLevel src m s] at hlevel
    rw [← dropMail_halted src m s] at hruns
    have hsel := debugOpIs_of_op hop (by decide)
    refine ⟨fun hpound => next_mailStepSel hacc hsel ?_, fun hpound => next_mailStepSel hacc hsel ?_⟩
    · exact mailDebugHalt_noPound hlevel hruns (by rwa [dropMail_poundActive]) _
    · rw [mailDebugHalt_pound hlevel hruns (by rwa [dropMail_poundActive]), dropMail_ft]
  case step =>
    intro src m s hacc hop hlevel
    exact next_mailStepSel hacc (debugOpIs_of_op hop (by decide)) (debugOp_deep (by rwa [dropMail_senderLevel]) _ _)
  case run =>
    intro src m s hacc hop hlevel
    exact next_mailStepSel hacc (debugOpIs_of_op hop (by decide)) (debugOp_deep (by rwa [dropMail_senderLevel]) _ _)
  case read =>
    intro src m s hacc hop hlevel hrange
    refine next_mailStepSel hacc (debugOpIs_of_op hop (by decide)) ?_
    rw [mailDebugRead_allowed (by rwa [dropMail_senderLevel]) (by rwa [dropMail_senderLevel]), dropMail_freeCtr]

end Sys2Proof.Machine
end

section
/-!
SUPPORT. Statements of chapters 1 and 16 on one step: which command it runs, that every command goes on and leaves the queue of
waiting commands alone, that fuses are blown and never cleared, that what the factory wrote survives, and that device memory
stays in its canonical form (R755 to R758, notes/assumptions/1.md, notes/assumptions/3.md).
-/

namespace Sys2Proof.Machine
open Sys2Proof.Safety

/-! ### The front command (notes/assumptions/1.md) -/

theorem step_of_empty {s : State} (h : s.pending = []) : step s = .next s := by
  unfold step
  rw [h]

theorem step_of_front (c : Instr) (rest : List Instr) (s : State) :
    step { s with pending := c :: rest } = exec c { s with pending := rest } := rfl

/-- What one step does: with nothing waiting the state stands, and otherwise the front command runs. -/
theorem step_cases {s t : State} (h : step s = .next t) :
    t = s ∨ ∃ c rest, s.pending = c :: rest ∧ exec c { s with pending := rest } = .next t := by
  unfold step at h
  split at h
  case h_1 => cases h; exact .inl rfl
  case h_2 c rest hfront => exact .inr ⟨c, rest, hfront, h⟩

/-- Settles O1: `step` is a match on the queue. -/
theorem stepRunsTheFrontCommand : Obligations.StepRunsTheFrontCommand :=
  ⟨step_of_front, fun _ => step_of_empty⟩

/-! ### What every command keeps of the queue and the fuses (R755 to R758) -/

/-- The queue stands, so do UNIT_ID and DEVICE_SECRET, and of a TAMPER count within its 32 bits no fuse is cleared. -/
structure Ages (s t : State) : Prop where
  queue : t.pending = s.pending
  unitId : t.sec.fuses.unitId = s.sec.fuses.unitId
  secret : t.sec.fuses.secret = s.sec.fuses.secret
  blown : s.sec.fuses.tamper ≤ 32 → FusesOnlyBlown s.sec.fuses t.sec.fuses ∧ t.sec.fuses.tamper ≤ 32

theorem Ages.of_queue_fuses {s t : State} (hq : t.pending = s.pending) (hf : t.sec.fuses = s.sec.fuses) : Ages s t :=
  ⟨hq, by rw [hf], by rw [hf], fun h => by rw [hf]; exact ⟨blown_refl _, h⟩⟩

theorem Ages.of_fixed {s t : State} (h : t.fixed = s.fixed) : Ages s t :=
  .of_queue_fuses (congrArg (·.1) h) (congrArg (·.2.1) h)

theorem Ages.of_still {s t : State} (h : t.still = s.still) : Ages s t :=
  .of_queue_fuses (congrArg (·.1) h) (congrArg (·.2) h)

theorem Ages.of_reset {s t : State} (h : Reset s t) : Ages s t := .of_queue_fuses h.pend h.fus

theorem Ages.of_older {s t : State} (h : Older s t) : Ages s t :=
  have ⟨_, _, _, _, hsecret, hunit⟩ := h.fus
  ⟨h.pend, hunit, hsecret, fun hs => ⟨h.fus, h.tam hs⟩⟩

theorem Ages.refl (s : State) : Ages s s := .of_queue_fuses rfl rfl

theorem Ages.trans {s t u : State} (h : Ages s t) (k : Ages t u) : Ages s u :=
  ⟨k.queue.trans h.queue, k.unitId.trans h.unitId, k.secret.trans h.secret, fun hs =>
    have ⟨hblown, htamper⟩ := h.blown hs
    have ⟨kblown, ktamper⟩ := k.blown htamper
    ⟨blown_trans hblown kblown, ktamper⟩⟩

theorem Ages.self_or_reset {s t u : State} (h : Ages s t) (hu : u = t ∨ Reset t u) : Ages s u := by
  obtain rfl | hreset := hu
  · exact h
  · exact h.trans (.of_reset hreset)

/-! ### Commands that reset the module, blow a fuse or move the counter -/

theorem blowTamper_ages (s : State) : Ages s (blowTamper s) :=
  ⟨rfl, rfl, rfl, fun h => have k := older_blowTamper s h; ⟨k.fus, k.tam h⟩⟩

theorem tamperNow_ages (k : Nat) (s : State) : Ages s (tamperNow k s) := by
  have hwipe : Ages s (freeKeyed (lowerAllDebug 0 5 (zeroVault (wipeSecure s)))) := .of_fixed (by simp)
  have hevent := (hwipe.trans (blowTamper_ages _)).trans (.of_fixed (tamperEvent_fixed k _))
  unfold tamperNow
  dsimp only
  split
  case isTrue => exact hevent.trans (.of_fixed (flashAdd_fixed _ _))
  case isFalse => exact hevent

theorem tamperStep_ages (k : Nat) (s : State) : Ages s (tamperStep k s) := by
  unfold tamperStep
  split
  case isTrue => exact .refl s
  case isFalse =>
    dsimp only
    split
    case isTrue => exact .of_fixed rfl
    case isFalse =>
      split
      case isTrue =>
        refine Ages.trans ?_ (tamperNow_ages k _)
        exact .of_fixed rfl
      case isFalse =>
        obtain ⟨hqueue, hunit, hsecret, hblown⟩ := blowTamper_ages s
        exact ⟨hqueue, hunit, hsecret, hblown⟩

theorem resetNStep_ages (ns : Nat) (s : State) : Ages s (resetNStep ns s) := by
  unfold resetNStep
  split
  case isTrue => exact .refl s
  case isFalse =>
    split
    case isTrue => exact .of_reset (reset_resetModule 1 false s)
    case isFalse =>
      have hdraw : Ages s (drawBelow 2 s).2 := .of_fixed (drawBelow_fixed 2 s)
      split
      case isTrue => exact hdraw
      case isFalse => exact hdraw.trans (.of_reset (reset_resetModule 1 false _))

theorem watchdogStep_ages (w : LkId) (s : State) : Ages s (watchdogStep w s) := by
  unfold watchdogStep
  split
  case isFalse => exact .refl s
  case isTrue =>
    dsimp only
    split
    case isTrue => exact .of_fixed (by simp)
    case isFalse => exact (Ages.of_fixed (updLk_fixed _ _ _)).self_or_reset (reset_self 5 _)

theorem execFabricTick_ages (s : State) : ∃ t, execFabricTick s = .next t ∧ Ages s t := by
  have htick : Ages s (tickStep s) := .of_still (tick_still s)
  refine ⟨_, rfl, ?_⟩
  split
  case isFalse => exact htick
  case isTrue =>
    have hdue := htick.trans (.of_fixed (dueStep_fixed _))
    exact (hdue.self_or_reset (or_timerReset _)).self_or_reset (or_trial _)

theorem timingReceive_still (port link : Nat) (master : Option Nat) (senderFt hops roundTrip : Nat) (s : State) :
    (timingReceive port link master senderFt hops roundTrip s).still = s.still := by
  unfold timingReceive
  split
  case isFalse => rfl
  case isTrue =>
    dsimp only
    split
    case h_1 => rfl
    case h_2 c =>
      generalize hu : ite (outranks _ c = true) (becomeMaster _) (learnMaster c _) = u
      have hfixed : u.fixed = s.fixed := by rw [← hu]; simp
      split
      case isFalse => exact still_of hfixed
      case isTrue =>
        split
        case isTrue => exact (applyOffset_still _ _).trans (still_of (by simpa using hfixed))
        case isFalse => exact still_of (by simpa using hfixed)

theorem ptpStep_still (port : PortId) (domain : Nat) (kind : PtpKind) (s : State) :
    (ptpStep port domain kind s).still = s.still := by
  unfold ptpStep
  split
  case isTrue => rfl
  case isFalse =>
    split
    case h_1 | h_2 | h_3 => split <;> rfl
    case h_5 => exact still_of (reselect_fixed _)
    case h_4 =>
      split
      case h_2 => rfl
      case h_1 =>
        dsimp only
        split
        case isTrue => exact (applyOffset_still _ _).trans (still_of (reselect_fixed _))
        case isFalse => exact still_of (reselect_fixed _)

/-- Every command goes on. Those named reset the module, blow a fuse, show an offset to the timekeeper or move the counter; each
of the others runs a function that keeps the queue and the fuses. -/
theorem exec_ages (c : Instr) (s : State) : ∃ t, exec c s = .next t ∧ Ages s t := by
  cases c
  case fabricTick => exact execFabricTick_ages s
  case moduleResetTimer => exact ⟨_, rfl, (Ages.refl s).self_or_reset (or_timerReset s)⟩
  case trialExpiry => exact ⟨_, rfl, (Ages.refl s).self_or_reset (or_trial s)⟩
  case resetNAssert ns => exact ⟨_, rfl, resetNStep_ages ns s⟩
  case watchdogExpiry w => exact ⟨_, rfl, watchdogStep_ages w s⟩
  case powerLoss => exact ⟨_, rfl, .of_queue_fuses rfl rfl⟩
  case tamperDetect k => exact ⟨_, rfl, tamperStep_ages k s⟩
  case lifecycleSet src => exact ⟨_, rfl, .of_older (older_mailStepSel _ _ _ _ _ (older_lifecycleSet src))⟩
  case bootPhaseEnd p ms r => exact ⟨_, rfl, .of_older (older_phaseStep p ms r s)⟩
  case recordWriteDone => exact ⟨_, rfl, .of_older (older_writeDone s)⟩
  case recordEraseDone => exact ⟨_, rfl, .of_older (older_eraseDone s)⟩
  case timingFrameReceive => exact ⟨_, rfl, .of_still (timingReceive_still _ _ _ _ _ _ s)⟩
  case ptpMessage => exact ⟨_, rfl, .of_still (ptpStep_still _ _ _ s)⟩
  all_goals exact ⟨_, rfl, .of_fixed (by simp)⟩

/-- Settles O2: every command ages the state it runs in. -/
theorem everyCommandGoesOn : Obligations.EveryCommandGoesOn := fun c s =>
  have ⟨t, hexec, hages⟩ := exec_ages c s
  ⟨t, hexec, hages.queue⟩

/-! ### The fuses over one step -/

/-- A step leaves UNIT_ID and DEVICE_SECRET alone, and clears no fuse of a TAMPER count within its 32 bits. -/
theorem step_keeps_fuses {s t : State} (h : step s = .next t) :
    (t.sec.fuses.unitId = s.sec.fuses.unitId ∧ t.sec.fuses.secret = s.sec.fuses.secret) ∧
      (s.sec.fuses.tamper ≤ 32 → FusesOnlyBlown s.sec.fuses t.sec.fuses ∧ t.sec.fuses.tamper ≤ 32) := by
  obtain rfl | ⟨c, rest, -, hexec⟩ := step_cases h
  · exact ⟨⟨rfl, rfl⟩, fun htamper => ⟨blown_refl _, htamper⟩⟩
  · obtain ⟨u, hu, hages⟩ := exec_ages c { s with pending := rest }
    obtain rfl : u = t := by simpa using hu.symm.trans hexec
    exact ⟨⟨hages.unitId, hages.secret⟩, hages.blown⟩

/-- The life-cycle code is that of the highest bit blown, so more bits give no lower code (R757). -/
theorem lifeCycle_mono {s t : State} (h : FusesOnlyBlown s.sec.fuses t.sec.fuses) : lifeCycle s ≤ lifeCycle t := by
  obtain ⟨hlc, -⟩ := h
  have h0 := hlc 0
  have h1 := hlc 1
  have h2 := hlc 2
  have h3 := hlc 3
  simp only [lifeCycle]
  grind

/-- Settles O3: bits blown since `f` and bits blown by the step together. -/
theorem fusesAreNeverCleared : Obligations.FusesAreNeverCleared := fun _ _ _ hsince htamper hstep =>
  have ⟨hblown, htamper'⟩ := (step_keeps_fuses hstep).2 htamper
  ⟨blown_trans hsince hblown, htamper', lifeCycle_mono hblown⟩

/-- Settles O4: no command writes either, whatever it does to the rest of the module. -/
theorem identitySurvivesEveryStep : Obligations.IdentitySurvivesEveryStep := fun _ _ hstep => (step_keeps_fuses hstep).1

/-! ### The canonical form of device memory over one step -/

/-- Every command runs a function that keeps the canonical form. -/
theorem exec_canon (c : Instr) {s : State} (hs : s.canon) :
    ∃ t, exec c s = .next t ∧ t.canon := by
  cases c
  case kRecv m =>
    exact ⟨_, rfl, matchWaiting_canon m _ _ (lateRecv_canon m _ (kop_canon m _ _ s hs opRecv_canon))⟩
  case kColl m => exact ⟨_, rfl, beginColls_canon m _ (kop_canon m _ _ s hs opColl_canon)⟩
  case fabricTick =>
    have htick : (tickStep s).canon := tickStep_canon s hs
    exact ⟨_, rfl, ite_canon _ _ _ (timersDue_canon _ (dueStep_canon _ htick)) htick⟩
  all_goals exact ⟨_, rfl, by simp +contextual [hs]⟩

/-- Settles O38: each command keeps the canonical form. -/
theorem memoryStaysCanonical : Obligations.MemoryStaysCanonical := by
  intro s t hs hstep
  rw [canonical_iff] at hs ⊢
  obtain rfl | ⟨c, rest, -, hexec⟩ := step_cases hstep
  · exact hs
  · obtain ⟨u, hu, hcanon⟩ := exec_canon c (s := { s with pending := rest }) hs
    obtain rfl : u = t := by simpa using hu.symm.trans hexec
    exact hcanon

end Sys2Proof.Machine
end

section
/-!
SUPPORT. What events and detected faults leave alone: an event writes the log, asks an issuer for a stamp and may put a notice on
the wire; a detected fault marks besides that one has been seen, and begins or restarts a recovery (R316, R368, R622, R826).
-/

namespace Sys2Proof.Machine

theorem appendEntry_frame (e : LogEntry) (s : State) : ∃ lo ne, appendEntry e s = { s with log := lo, net := ne } := by
  unfold appendEntry
  split
  case h_1 => split <;> exact ⟨_, _, rfl⟩
  case h_2 => exact ⟨_, _, rfl⟩

theorem putWire_frame (fr : OutFrame) (s : State) : ∃ ne, putWire fr s = { s with net := ne } := by
  unfold putWire
  split <;> exact ⟨_, rfl⟩

theorem noticeToAddress_frame (body : Bytes) (s : State) :
    ∃ fc ne, noticeToAddress body s = { s with freeCtr := fc, net := ne } := by
  unfold noticeToAddress
  dsimp only [draw]
  split
  case isTrue => exact ⟨_, _, rfl⟩
  case isFalse =>
    obtain ⟨ne, hput⟩ := putWire_frame _ { s with freeCtr := s.freeCtr + 1 }
    exact ⟨_, ne, hput⟩

/-- An event changes the log, the issuers, what leaves by Ethernet and the free values drawn, and nothing else. -/
theorem logEventR_frame (r : Bool) (code : Nat) (args : Bytes) (s : State) :
    ∃ fc ti lo ne, logEventR r code args s = { s with freeCtr := fc, time := ti, log := lo, net := ne } := by
  unfold logEventR
  dsimp only
  split
  case isFalse =>
    obtain ⟨lo, ne, happend⟩ := appendEntry_frame _ s
    exact ⟨_, _, lo, ne, happend⟩
  case isTrue =>
    obtain ⟨ti, hstamp, -⟩ := issueStamp_time 30 (.event s.log.nextLseq) s
    rw [hstamp]
    generalize LogEntry.mk _ _ _ _ _ _ _ _ _ _ = e
    obtain ⟨lo, ne, happend⟩ := appendEntry_frame e { s with time := ti }
    rw [happend]
    split
    case isFalse => exact ⟨_, _, _, _, rfl⟩
    case isTrue =>
      obtain ⟨fc, ne', hnotice⟩ := noticeToAddress_frame (entryBytes e) { s with time := ti, log := lo, net := ne }
      exact ⟨fc, ti, lo, ne', hnotice⟩

theorem logEvent_frame (code : Nat) (args : Bytes) (s : State) :
    ∃ fc ti lo ne, logEvent code args s = { s with freeCtr := fc, time := ti, log := lo, net := ne } :=
  logEventR_frame false code args s

/-- A detected fault is an event and, besides, the mark that one has been seen and the state of the recovery. -/
theorem raiseFault_frame (code : Nat) (args : Bytes) (s : State) :
    ∃ fc ti lo ne rc, raiseFault code args s =
      { s with freeCtr := fc, time := ti, log := lo, net := ne, pound.recovery := rc, boot.faultSeen := true } := by
  unfold raiseFault
  dsimp only
  split
  case isFalse =>
    obtain ⟨fc, ti, lo, ne, hlog⟩ := logEvent_frame code args { s with boot.faultSeen := true }
    exact ⟨fc, ti, lo, ne, _, hlog⟩
  case isTrue =>
    obtain ⟨fc, ti, lo, ne, hlog⟩ := logEventR_frame true code args { s with boot.faultSeen := true }
    rw [hlog]
    dsimp only
    split <;> exact ⟨_, _, _, _, _, rfl⟩

/-- What each step of a fold leaves alone, the fold does. -/
theorem foldl_keeps {α β : Type} (g : State → β) {f : State → α → State} (h : ∀ s x, g (f s x) = g s) (l : List α) (s : State) :
    g (l.foldl f s) = g s := by
  induction l generalizing s with
  | nil => rfl
  | cons x l ih => rw [List.foldl_cons, ih, h]

/-! ### Field by field -/

@[simp] theorem issueStamp_lk (b : Nat) (h : HeldStamp) (s : State) : (issueStamp b h s).2.lk = s.lk := by
  obtain ⟨t, ht, -⟩ := issueStamp_time b h s
  rw [ht]

@[simp] theorem logEvent_lk (code : Nat) (args : Bytes) (s : State) : (logEvent code args s).lk = s.lk := by
  obtain ⟨_, _, _, _, h⟩ := logEvent_frame code args s
  rw [h]

@[simp] theorem logEvent_sec (code : Nat) (args : Bytes) (s : State) : (logEvent code args s).sec = s.sec := by
  obtain ⟨_, _, _, _, h⟩ := logEvent_frame code args s
  rw [h]

@[simp] theorem raiseFault_lk (code : Nat) (args : Bytes) (s : State) : (raiseFault code args s).lk = s.lk := by
  obtain ⟨_, _, _, _, _, h⟩ := raiseFault_frame code args s
  rw [h]

@[simp] theorem raiseFault_sec (code : Nat) (args : Bytes) (s : State) : (raiseFault code args s).sec = s.sec := by
  obtain ⟨_, _, _, _, _, h⟩ := raiseFault_frame code args s
  rw [h]

@[simp] theorem raiseFault_stk (code : Nat) (args : Bytes) (s : State) : (raiseFault code args s).stk = s.stk := by
  obtain ⟨_, _, _, _, _, h⟩ := raiseFault_frame code args s
  rw [h]

@[simp] theorem raiseFault_ft (code : Nat) (args : Bytes) (s : State) : (raiseFault code args s).ft = s.ft :=
  ft_of (raiseFault_fixed code args s)

end Sys2Proof.Machine
end

section
/-!
SUPPORT. Statements of chapter 15 on the lockkeeper pair: miscompares and faults, the decision at D, the proofs of the checker, the
watchdogs, the return to the pair and the stranded module (R738 to R749).
-/

namespace Sys2Proof.Machine
open Sys2Proof.Safety

/-! ### Roles in lockstep -/

theorem lockstep_iff (s : State) : lockstep s = true ↔
    (s.lk.a.role = .helm ∧ s.lk.b.role = .checker) ∨ (s.lk.a.role = .checker ∧ s.lk.b.role = .helm) := by
  simp [lockstep]

/-- In lockstep each lockkeeper is the helm holder or the checker. -/
theorem role_of_lockstep {s : State} (h : lockstep s = true) (w : LkId) :
    (s.lkOf w).role = .helm ∨ (s.lkOf w).role = .checker := by
  obtain ⟨ha, hb⟩ | ⟨ha, hb⟩ := (lockstep_iff s).1 h <;> cases w <;> simp [State.lkOf, ha, hb]

/-- In lockstep no lockkeeper is retired (R744). -/
theorem solo_of_lockstep {s : State} (h : lockstep s = true) : solo s = false := by
  obtain ⟨ha, hb⟩ | ⟨ha, hb⟩ := (lockstep_iff s).1 h <;> simp [solo, retiredOf, ha, hb]

theorem comparing_iff (s : State) :
    comparing s = true ↔ pairRuns s = true ∧ lockstep s = true ∧ s.lk.test = none := by
  simp [comparing, and_assoc]

theorem stranded_of_pairRuns {s : State} (h : pairRuns s = true) : s.lk.stranded = none := by
  simp only [pairRuns, stranded, Bool.and_eq_true, Bool.not_eq_true', Option.isSome_eq_false_iff, Option.isNone_iff_eq_none] at h
  exact h.2

theorem role_of_retiredOf {s : State} {w : LkId} (h : retiredOf s = some w) : (s.lkOf w).role = .retired := by
  unfold retiredOf at h
  split at h
  case isTrue ha => cases h; exact ha
  case isFalse =>
    split at h
    case isTrue hb => cases h; exact hb
    case isFalse => cases h

/-! ### The end of a check pause (R741) -/

@[simp] theorem pauseEvent_lk (start stop : Nat) (first last : Option Nat) (s : State) :
    (pauseEvent start stop first last s).lk = s.lk := by
  simp only [pauseEvent, logEvent_lk]
  unfold pauseSerials
  split <;> rfl

/-- With a pause in progress its end clears it and brings a checker away for its self-test back. -/
theorem endPause_lk {s : State} (h : s.lk.pause.isSome = true) : (endPause s).lk = { s.lk with
    pause := none, pauses := satInc s.lk.pauses
    a.role := if s.lk.a.role = .selfTest then .checker else s.lk.a.role
    b.role := if s.lk.b.role = .selfTest then .checker else s.lk.b.role } := by
  obtain ⟨⟨_, start, first, last⟩, hpause⟩ := Option.isSome_iff_exists.1 h
  unfold endPause
  rw [hpause]
  dsimp only
  split <;> simp

theorem endPause_miscompares (s : State) : (endPause s).lk.miscompares = s.lk.miscompares := by
  cases hpause : s.lk.pause with
  | none => simp [endPause, hpause]
  | some p => rw [endPause_lk (by simp [hpause])]

/-! ### Miscompares and faults (R742, R743, R746) -/

theorem beginTest_lk (who : Option LkId) (mech out : Nat) (s : State) :
    (beginTest who mech out s).lk.test = some { start := s.ft } ∧
      (beginTest who mech out s).lk.miscompares = satInc s.lk.miscompares := by
  constructor
  · show some (LkTest.mk (raiseFault _ _ (endPause s)).ft) = _
    rw [raiseFault_ft, show (endPause s).ft = s.ft from ft_of (endPause_fixed s)]
  · simp [beginTest, endPause_miscompares]

/-- A mechanism that compares the two begins the self-test where the pair is in lockstep. -/
theorem lkFault_none {s : State} (hruns : pairRuns s = true) (hstep : lockstep s = true) (htest : s.lk.test = none)
    (mech out : Nat) : lkFault none mech out s = beginTest none mech out s := by
  simp [lkFault, hruns, hstep, htest]

/-- So does a lockkeeper's own fault, with no recovery in progress. -/
theorem lkFault_own {s : State} (hruns : pairRuns s = true) (hstep : lockstep s = true) (htest : s.lk.test = none)
    (hrec : s.pound.recovery = none) (w : LkId) (mech out : Nat) :
    lkFault (some w) mech out s = beginTest (some w) mech 0 s := by
  obtain hrole | hrole := role_of_lockstep hstep w <;>
    simp [lkFault, ownFault, hruns, htest, hrec, hrole, solo_of_lockstep hstep]

theorem miscompareStep_pair (mech out : Nat) (lk : Option LkId) (s : State) (h : mech ≤ 2) :
    miscompareStep mech lk out s = lkFault none mech (if mech = 0 then out else 0) s := by
  by_cases h0 : mech = 0
  · simp [miscompareStep, h0]
  · simp [miscompareStep, h0, h]

theorem miscompareStep_named (mech out : Nat) (w : LkId) (s : State) (h : mech = 3 ∨ mech = 4) :
    miscompareStep mech (some w) out s = lkFault (some w) mech 0 s :=
  (if_neg (by omega)).trans ((if_neg (by omega)).trans (if_pos (by omega)))

theorem miscompareStep_unnamed (mech out : Nat) (s : State) (h : mech = 3 ∨ mech = 4) : miscompareStep mech none out s = s :=
  (if_neg (by omega)).trans ((if_neg (by omega)).trans (if_pos (by omega)))

theorem miscompareStep_unknown (mech out : Nat) (lk : Option LkId) (s : State) (h : 4 < mech) :
    miscompareStep mech lk out s = s := by
  unfold miscompareStep
  rw [if_neg (by omega), if_neg (by omega), if_neg (by omega)]

/-! ### Retirement and the helm (R743, R744) -/

/-- A role, a test in progress and a stranding: what the decision at D speaks of. -/
theorem retireLk_lk (w : LkId) (s : State) :
    ((retireLk w s).lkOf w).role = .retired ∧ (retireLk w s).lkOf (otherLk w) = s.lkOf (otherLk w) ∧
      (retireLk w s).lk.test = s.lk.test ∧ (retireLk w s).lk.stranded = s.lk.stranded ∧
      (retireLk w s).lk.pause = s.lk.pause := by
  cases w <;> simp [retireLk, draw_snd, State.lkOf, State.updLk, otherLk]

/-- The helm goes to `w`; the other stays what it was where it does not hold the helm. -/
theorem takeHelm_lk {w : LkId} {s : State} (hother : (s.lkOf (otherLk w)).role ≠ .helm) :
    ((takeHelm w s).lkOf w).role = .helm ∧ (takeHelm w s).lkOf (otherLk w) = s.lkOf (otherLk w) ∧
      (takeHelm w s).lk.test = s.lk.test ∧ (takeHelm w s).lk.stranded = s.lk.stranded := by
  unfold takeHelm
  split
  case isTrue h => exact ⟨h, rfl, rfl, rfl⟩
  case isFalse => cases w <;> simp_all [draw_snd, State.lkOf, State.updLk, otherLk]

/-- Failing over gives `w` the helm and retires the other. -/
theorem failOver_lk (w : LkId) (s : State) :
    ((failOver w s).lkOf w).role = .helm ∧ ((failOver w s).lkOf (otherLk w)).role = .retired ∧
      (failOver w s).lk.test = s.lk.test ∧ (failOver w s).lk.stranded = s.lk.stranded := by
  obtain ⟨hretired, -, htest, hstranded, -⟩ := retireLk_lk (otherLk w) s
  obtain ⟨hhelm, hkept, htest', hstranded'⟩ := takeHelm_lk (w := w) (s := retireLk (otherLk w) s) (by rw [hretired]; decide)
  exact ⟨hhelm, by rw [failOver, hkept, hretired], htest'.trans htest, hstranded'.trans hstranded⟩

/-! ### The decision at D (R743) -/

/-- The state in which the table of R743 is read: both self-tests have ended. -/
def decided (pa pb cmpPass : Bool) (s : State) : State :=
  tested .b pb (tested .a pa { s with lk.test := none, lk.cmpOk := cmpPass })

theorem decided_lk (pa pb c : Bool) (s : State) :
    (decided pa pb c s).lk.test = none ∧ (decided pa pb c s).lk.stranded = s.lk.stranded ∧
      (decided pa pb c s).lk.a.role = s.lk.a.role ∧ (decided pa pb c s).lk.b.role = s.lk.b.role ∧
      (decided pa pb c s).lk.bothPassAt = s.lk.bothPassAt ∧ (decided pa pb c s).ft = s.ft :=
  ⟨rfl, rfl, rfl, rfl, rfl, rfl⟩

/-- The rows of R743 where one lockkeeper passes at least. -/
def verdictOf (pa pb cmpPass : Bool) (s : State) : State :=
  if !cmpPass then failOver (if pa then .a else .b) s
  else if !pa then failOver .b s
  else if !pb then failOver .a s
  else bothPassed s

theorem decisionStep_due {s : State} {d : LkTest} (htest : s.lk.test = some d) (hruns : pairRuns s = true)
    (hdue : d.start + 25000 ≤ s.ft) (a b c : Bool) :
    decisionStep a b c s =
      let pa := a && !s.lk.a.faulty
      let pb := b && !s.lk.b.faulty
      if !pa && !pb then strandNow 2 (decided pa pb c s)
      else
        let t := verdictOf pa pb c (decided pa pb c s)
        { t with lk.named := if t.pound.recovery.isSome then helmOf t else none } := by
  unfold decisionStep
  rw [htest]
  dsimp only
  rw [if_pos (by simp [hruns, hdue])]
  rfl

theorem decisionStep_early {s : State} {d : LkTest} (htest : s.lk.test = some d) (hearly : s.ft < d.start + 25000)
    (a b c : Bool) : decisionStep a b c s = s := by
  unfold decisionStep
  rw [htest]
  dsimp only
  rw [if_neg (by simp; omega)]

theorem strandNow_lk (cause : Nat) (s : State) :
    (strandNow cause s).lk.test = none ∧ (strandNow cause s).lk.stranded = some cause := ⟨rfl, rfl⟩

/-- Two passes with no recent one before them change no role. -/
theorem bothPassed_lk {s : State} (h : ∀ x, s.lk.bothPassAt = some x → x + 2 ^ 24 < s.ft) :
    (bothPassed s).lk = { s.lk with bothPass := satInc s.lk.bothPass, bothPassAt := some s.ft } := by
  have hfirst : (s.lk.bothPassAt.any fun t => decide (s.ft ≤ t + 2 ^ 24)) = false := by
    cases hat : s.lk.bothPassAt with
    | none => rfl
    | some x => simpa using h x hat
  unfold bothPassed
  rw [hfirst]

theorem bothPassed_test (s : State) : (bothPassed s).lk.test = s.lk.test := by
  unfold bothPassed
  dsimp only
  split
  case h_1 w _ _ =>
    obtain ⟨-, -, htest, -⟩ := retireLk_lk (otherLk w) { s with lk.bothPass := satInc s.lk.bothPass, lk.bothPassAt := some s.ft }
    exact htest
  case h_2 => rfl

theorem verdictOf_test (pa pb c : Bool) (s : State) : (verdictOf pa pb c s).lk.test = s.lk.test := by
  have hfail (w : LkId) : (failOver w s).lk.test = s.lk.test := (failOver_lk w s).2.2.1
  unfold verdictOf
  split
  · exact hfail _
  · split
    · exact hfail _
    · split
      · exact hfail _
      · exact bothPassed_test s

theorem verdictOf_a_alone (c : Bool) (s : State) : verdictOf true false c s = failOver .a s := by cases c <;> rfl

theorem verdictOf_b_alone (c : Bool) (s : State) : verdictOf false true c s = failOver .b s := by cases c <;> rfl

/-- The decision at D, row by row. -/
theorem decisionStep_lk {s : State} {d : LkTest} (htest : s.lk.test = some d) (hruns : pairRuns s = true)
    (hdue : d.start + 25000 ≤ s.ft) (a b c : Bool) :
    let pa := a && !s.lk.a.faulty
    let pb := b && !s.lk.b.faulty
    let t := decisionStep a b c s
    t.lk.test = none ∧
      (pa = false → pb = false → t.lk.stranded = some 2) ∧
      (pa = true → pb = false → t.lk.a.role = .helm ∧ t.lk.b.role = .retired ∧ t.lk.stranded = none) ∧
      (pa = false → pb = true → t.lk.b.role = .helm ∧ t.lk.a.role = .retired ∧ t.lk.stranded = none) ∧
      (pa = true → pb = true → c = false → t.lk.a.role = .helm ∧ t.lk.b.role = .retired) ∧
      (pa = true → pb = true → c = true → (∀ x, s.lk.bothPassAt = some x → x + 2 ^ 24 < s.ft) →
        t.lk.a.role = s.lk.a.role ∧ t.lk.b.role = s.lk.b.role ∧ t.lk.stranded = none) := by
  rw [decisionStep_due htest hruns hdue]
  dsimp only
  generalize (a && !s.lk.a.faulty) = pa
  generalize (b && !s.lk.b.faulty) = pb
  obtain ⟨hended, hkept, ha, hb, hpassed, hft⟩ := decided_lk pa pb c s
  have hlive : (decided pa pb c s).lk.stranded = none := hkept.trans (stranded_of_pairRuns hruns)
  generalize decided pa pb c s = u at *
  have hfail := fun w => failOver_lk w u
  refine ⟨?_, ?_, ?_, ?_, ?_, ?_⟩
  · split
    · exact (strandNow_lk 2 u).1
    · exact (verdictOf_test pa pb c u).trans hended
  · rintro rfl rfl
    exact (strandNow_lk 2 u).2
  · rintro rfl rfl
    obtain ⟨hhelm, hretired, -, hstranded⟩ := hfail .a
    simpa [verdictOf_a_alone] using ⟨hhelm, hretired, hstranded.trans hlive⟩
  · rintro rfl rfl
    obtain ⟨hhelm, hretired, -, hstranded⟩ := hfail .b
    simpa [verdictOf_b_alone] using ⟨hhelm, hretired, hstranded.trans hlive⟩
  · rintro rfl rfl rfl
    obtain ⟨hhelm, hretired, -⟩ := hfail .a
    exact ⟨hhelm, hretired⟩
  · rintro rfl rfl rfl hfirst
    have hboth := bothPassed_lk (s := u) (by rw [hpassed, hft]; exact hfirst)
    have hverdict : verdictOf true true true u = bothPassed u := rfl
    simp [hverdict, hboth, ha, hb, hlive]

/-! ### The checker's self-test and the watchdog (R738, R741, R814) -/

@[simp] theorem selfConfirm_lk (s : State) : (selfConfirm s).lk = s.lk := by
  unfold selfConfirm
  split <;> rfl

/-- The end of the pause brings A back from its self-test. -/
theorem endPause_back {s : State} (hpause : s.lk.pause.isSome = true) (hrole : s.lk.a.role = .selfTest) :
    (endPause s).lk.pause = none ∧ (endPause s).lk.a.role = .checker := by
  rw [endPause_lk hpause]
  exact ⟨rfl, if_pos hrole⟩

/-- A checker away for its self-test rejoins where it passes, and is retired where it does not. -/
theorem checkerDone_lk {s : State} (pass : Bool) (hruns : pairRuns s = true) (hpause : s.lk.pause.isSome = true)
    (hrole : s.lk.a.role = .selfTest) (hsound : s.lk.a.faulty = false) :
    (checkerDone pass s).lk.pause = none ∧ (checkerDone pass s).lk.a.role = if pass then .checker else .retired := by
  have hdone : checkerDone pass s =
      if pass then selfConfirm (endPause (tested .a pass s)) else retireLk .a (endPause (tested .a pass s)) := by
    simp [checkerDone, hruns, hpause, hrole, State.lkOf, hsound]
  obtain ⟨hended, hback⟩ := endPause_back (s := tested .a pass s) hpause hrole
  rw [hdone]
  cases pass with
  | true => exact ⟨by simpa using hended, by simpa using hback⟩
  | false =>
    obtain ⟨hretired, -, -, -, hkept⟩ := retireLk_lk .a (endPause (tested .a false s))
    exact ⟨hkept.trans hended, hretired⟩

theorem watchdogStep_due {s : State} {w : LkId} (hruns : pairRuns s = true) (hdue : (s.lkOf w).watchdogAt + 16384 ≤ s.ft)
    (hrole : (s.lkOf w).role ≠ .retired) :
    watchdogStep w s =
      let u := s.updLk w fun x => { x with watchdogs := satInc x.watchdogs, watchdogAt := s.ft }
      if ready s || s.boot.fromPs4 || s.boot.halted then lkFault (some w) 3 0 u else selfReset 5 u := by
  unfold watchdogStep
  rw [if_pos (by simp [hruns, hdue, hrole])]
  simp [ready]

/-! ### The return of a retired lockkeeper (R747, R748) -/

/-- A self-test of the retired lockkeeper has ended, and its passes and the comparator's are counted. -/
def passesCounted (w : LkId) (pass cmpPass : Bool) (s : State) : State :=
  (tested w pass { s with
    lk.retiredAt := s.ft, lk.cmpOk := cmpPass, lk.cmpRun := if pass && cmpPass then s.lk.cmpRun + 1 else 0 }).updLk w
      fun x => { x with passRun := if pass then min 16 (x.passRun + 1) else 0 }

/-- It rejoins as checker. -/
def rejoined (w : LkId) (s : State) : State :=
  logEvent Ev.lockkeeperRejoin (leBytes 1 (lkNum w)) { s.updLk w (fun x => { x with role := .checker }) with
    pins.faultN := !s.boot.halted, lk.rejoinedA := if w = .a then some s.ft else none }

theorem retiredStep_due {s : State} {w : LkId} (hretired : retiredOf s = some w) (hruns : pairRuns s = true)
    (hdue : s.lk.retiredAt + 1250000000 ≤ s.ft) (pass c : Bool) :
    retiredStep pass c s =
      let u := passesCounted w pass c s
      let v := if 16 ≤ (u.lkOf w).passRun ∧ 16 ≤ u.lk.cmpRun then rejoined w u else u
      if pass then selfConfirm v else v := by
  unfold retiredStep
  rw [hretired]
  dsimp only
  rw [if_pos (by simp [hruns, hdue])]
  rfl

theorem passesCounted_lk (w : LkId) (pass c : Bool) (s : State) :
    ((passesCounted w pass c s).lkOf w).passRun = (if pass then min 16 ((s.lkOf w).passRun + 1) else 0) ∧
      ((passesCounted w pass c s).lkOf w).role = (s.lkOf w).role ∧
      (passesCounted w pass c s).lk.cmpRun = if pass && c then s.lk.cmpRun + 1 else 0 := by
  cases w <;> exact ⟨rfl, rfl, rfl⟩

theorem rejoined_role (w : LkId) (s : State) : ((rejoined w s).lkOf w).role = .checker := by
  cases w <;> simp [rejoined, State.lkOf, State.updLk]

theorem selfConfirm_lkOf (w : LkId) (s : State) : (selfConfirm s).lkOf w = s.lkOf w := by
  cases w <;> simp [State.lkOf]

/-! ### The stranded module (R749) -/

theorem putWire_updSession_frame (fr : OutFrame) (i : Nat) (f : Session → Session) (s : State) :
    ∃ ne, (putWire fr s).updSession i f = { s with net := ne } := by
  obtain ⟨ne, hput⟩ := putWire_frame fr s
  rw [hput]
  exact ⟨_, rfl⟩

theorem sendFrame_frame (i type flags seq : Nat) (body : Bytes) (s : State) :
    ∃ ne, sendFrame i type flags seq body s = { s with net := ne } := by
  unfold sendFrame
  exact putWire_updSession_frame _ _ _ s

theorem strandedNotice_frame (i : Nat) (s : State) : ∃ ne, strandedNotice i s = { s with net := ne } := by
  obtain ⟨ne, hsend⟩ := sendFrame_frame i 6 0 0 (entryBytes (strandedEntry s)) s
  rw [strandedNotice, hsend]
  exact ⟨_, rfl⟩

/-- What MODULE_STRAND sets: FAULT_N, and the mark that its notices are still due. -/
def strandMarks (s : State) : Bool × Bool := (s.pins.faultN, s.lk.strandedDue)

theorem strandedNotice_marks (i : Nat) (s : State) : strandMarks (strandedNotice i s) = strandMarks s := by
  obtain ⟨ne, hframe⟩ := strandedNotice_frame i s
  rw [hframe]
  rfl

theorem noticeToAddress_marks (body : Bytes) (s : State) : strandMarks (noticeToAddress body s) = strandMarks s := by
  obtain ⟨fc, ne, hframe⟩ := noticeToAddress_frame body s
  rw [hframe]
  rfl

/-- The notices go out by Ethernet, and FAULT_N stays asserted. -/
theorem strandStepModule_due {s : State} (h : s.lk.strandedDue = true) :
    (strandStepModule s).pins.faultN = false ∧ (strandStepModule s).lk.strandedDue = false := by
  have hmarks : strandMarks (strandStepModule s) = (false, false) := by
    unfold strandStepModule
    rw [if_pos h]
    exact (noticeToAddress_marks _ _).trans (foldl_keeps strandMarks (fun u i => strandedNotice_marks i u) _ _)
  exact Prod.mk.inj hmarks

/-! ### Proving the checker (R739 to R741, R748) -/

section
variable {s : State} (hcmp : comparing s = true)
include hcmp

/-- A pair that compares, and whose own times alone change, begins the self-test at a mechanism that compares the two. -/
theorem lkFault_comparing (mech out : Nat) : lkFault none mech out s = beginTest none mech out s := by
  obtain ⟨hruns, hstep, htest⟩ := (comparing_iff s).1 hcmp
  exact lkFault_none hruns hstep htest mech out

theorem injectStep_due (hdue : s.lk.injectAt + 12500000 ≤ s.ft) (tripped : Bool) : injectStep tripped s =
    if tripped then { s with lk.injectAt := s.ft, lk.injectOk := true, lk.missRun := 0 }
    else if 2 ≤ s.lk.missRun + 1 then beginTest none 2 0 { s with
      lk.injectAt := s.ft, lk.injectOk := false, lk.missed := satInc s.lk.missed, lk.missRun := 0 }
    else { s with
      lk.injectAt := s.ft, lk.injectOk := false, lk.missed := satInc s.lk.missed, lk.missRun := s.lk.missRun + 1 } := by
  unfold injectStep
  rw [if_pos (by simp [hcmp, hdue])]
  cases tripped with
  | true => rfl
  | false =>
    have hfault := lkFault_comparing (s := { s with
      lk.injectAt := s.ft, lk.injectOk := false, lk.missed := satInc s.lk.missed, lk.missRun := 0 }) hcmp 2 0
    dsimp only
    rw [hfault]
    rfl

theorem scrubStep_due (hdue : s.lk.scrubAt + 16777216 ≤ s.ft) (r : ScrubResult) : scrubStep r s =
    match r with
    | .same => { s with lk.scrubAt := s.ft }
    | .differs => beginTest none 1 0 { s with lk.scrubAt := s.ft }
    | .parity w => lkFault (some w) 4 0 { s with lk.scrubAt := s.ft } := by
  unfold scrubStep
  rw [if_pos (by simp [hcmp, hdue])]
  cases r with
  | same => rfl
  | parity w => rfl
  | differs => exact lkFault_comparing (s := { s with lk.scrubAt := s.ft }) hcmp 1 0

/-- The checker, and it alone, leaves for its self-test. -/
theorem leaveStepChecker_due (hafter : afterCommit s = true) (hdue : s.lk.testAt + 1250000000 ≤ s.ft) :
    (leaveStepChecker s).lk.pause.isSome = true ∧
      (s.lk.a.role = .checker → (leaveStepChecker s).lk.a.role = .selfTest) ∧
      (s.lk.b.role = .checker → (leaveStepChecker s).lk.b.role = .selfTest) := by
  obtain ⟨-, hstep, -⟩ := (comparing_iff s).1 hcmp
  unfold leaveStepChecker
  rw [if_pos (by simp [hcmp, hafter, hdue])]
  obtain ⟨ha, hb⟩ | ⟨ha, hb⟩ := (lockstep_iff s).1 hstep <;> simp [ha, hb, State.updLk]

theorem rejoinStep_due {r : Nat} (hrejoined : s.lk.rejoinedA = some r) (hlater : r < s.pound.lastK)
    (hnow : s.pound.lastK + 1 ≤ s.ft) (hbetween : betweenVerdict s = false) :
    rejoinStep s = takeHelm .a { s with lk.rejoinedA := none } := by
  unfold rejoinStep
  rw [hrejoined]
  dsimp only
  rw [if_pos (by simp [hcmp, hlater, hnow, hbetween])]

end

theorem injectStep_early {s : State} (h : s.ft < s.lk.injectAt + 12500000) (tripped : Bool) : injectStep tripped s = s :=
  if_neg (by simp; omega)

theorem scrubStep_early {s : State} (h : s.ft < s.lk.scrubAt + 16777216) (r : ScrubResult) : scrubStep r s = s :=
  if_neg (by simp; omega)

theorem leaveStepChecker_early {s : State} (h : afterCommit s = false ∨ s.ft < s.lk.testAt + 1250000000) :
    leaveStepChecker s = s :=
  if_neg (by obtain h | h := h <;> simp [h])

/-! ### The pair -/

/-- Settles O51: one clause for each kind of event of the pair, each by the equation of its command. -/
theorem lockkeeperPair : Obligations.LockkeeperPair := by
  refine ⟨fun s mech out lk hruns hstep htest hmech => ?_, fun s mech out w hruns hstep htest hrec => ⟨fun hown => ?_, ?_⟩,
    fun s d a b c htest hearly => ?_, fun s d a b c htest hruns hdue => ?_, fun s hcmp => ?_,
    fun s pass hruns hpause hrole hsound => ⟨_, rfl, checkerDone_lk pass hruns hpause hrole hsound⟩,
    fun s w hruns hdue hrole => ?_, fun s w c hruns hretired hdue => ⟨?_, fun hpasses hcmp => ?_⟩,
    fun s hdue => ?_, fun s hdue => ⟨_, rfl, strandStepModule_due hdue⟩⟩
  case refine_1 =>
    refine ⟨_, rfl, ?_⟩
    rw [miscompareStep_pair mech out lk s hmech, lkFault_none hruns hstep htest]
    exact ⟨rfl, beginTest_lk none mech _ s⟩
  case refine_2 =>
    exact ⟨congrArg Host.Outcome.next ((miscompareStep_named mech out w s hown).trans (lkFault_own hruns hstep htest hrec w mech 0)),
      congrArg Host.Outcome.next (miscompareStep_unnamed mech out s hown)⟩
  case refine_3 => exact fun hmech lk => congrArg Host.Outcome.next (miscompareStep_unknown mech out lk s hmech)
  case refine_4 => exact congrArg Host.Outcome.next (decisionStep_early htest hearly a b c)
  case refine_5 => exact ⟨_, rfl, decisionStep_lk htest hruns hdue a b c⟩
  case refine_6 =>
    refine ⟨fun hdue => ⟨?_, fun hmiss => ?_, fun hmiss => ?_⟩, fun hearly x => ?_, fun hearly x => ?_, fun hearly => ?_,
      fun hdue => ⟨?_, fun w => ?_, ?_⟩, fun hafter hdue => ⟨_, rfl, leaveStepChecker_due hcmp hafter hdue⟩,
      fun r hrejoined hlater hnow hbetween =>
        congrArg Host.Outcome.next (rejoinStep_due hcmp hrejoined hlater hnow hbetween)⟩
    · exact congrArg Host.Outcome.next (injectStep_due hcmp hdue true)
    · exact congrArg Host.Outcome.next ((injectStep_due hcmp hdue false).trans (by simp [hmiss]))
    · exact congrArg Host.Outcome.next ((injectStep_due hcmp hdue false).trans (by simp [hmiss]))
    · exact congrArg Host.Outcome.next (injectStep_early hearly x)
    · exact congrArg Host.Outcome.next (scrubStep_early hearly x)
    · exact congrArg Host.Outcome.next (leaveStepChecker_early hearly)
    · exact congrArg Host.Outcome.next (scrubStep_due hcmp hdue .same)
    · exact congrArg Host.Outcome.next (scrubStep_due hcmp hdue (.parity w))
    · exact congrArg Host.Outcome.next (scrubStep_due hcmp hdue .differs)
  case refine_7 =>
    refine ⟨fun hlate => ?_, fun hready hps4 hhalted => ?_⟩ <;>
      refine congrArg Host.Outcome.next ((watchdogStep_due hruns hdue hrole).trans ?_)
    · exact if_pos (by obtain h | h | h := hlate <;> simp [h])
    · exact if_neg (by simp [hready, hps4, hhalted])
  case refine_8 =>
    obtain ⟨hruns0, hrole, -⟩ := passesCounted_lk w false c s
    refine ⟨_, rfl, ?_⟩
    rw [retiredStep_due hretired hruns hdue]
    simp [hruns0, hrole, role_of_retiredOf hretired]
  case refine_9 =>
    obtain ⟨hrun, -, hcmprun⟩ := passesCounted_lk w true true s
    refine ⟨_, rfl, ?_⟩
    rw [retiredStep_due hretired hruns hdue]
    simp [hrun, hcmprun, hpasses, hcmp, selfConfirm_lkOf, rejoined_role]
  case refine_10 => exact congrArg Host.Outcome.next (if_neg (by simp [hdue]))

end Sys2Proof.Machine
end

section
/-!
SUPPORT. Statements of chapter 15 on the joints of the stacks: control triples, vertical lanes, base groups, faulty routers and the
waypoints of a stack (R717 to R733).
-/

namespace Sys2Proof.Machine
open Sys2Proof.Safety

/-! ### Fences (R726) -/

theorem scratchLive_iff (s : State) (c : Nat) : scratchLive s c = true ↔
    (s.stack (c / 128)).powered = true ∧ (s.stack (c / 128)).clocked = true ∧ (s.core c).fence = 0 := by
  simp [scratchLive, and_assoc]

/-- A core not fenced stands fenced afterwards, for the cause given. -/
theorem fenceCore_fence {s : State} {c : Nat} (h : (s.core c).fence = 0) (cause : Nat) :
    ((fenceCore c cause s).core c).fence = cause := by
  have hflash (o : FlashOp) (t : State) : (flashAdd o t).stk = t.stk := rfl
  have hstk {t u : State} (h : t.stk = u.stk) : t.core c = u.core c := congrArg (fun k => Tab.getD ({} : Core) c (StackState.cores k)) h
  unfold fenceCore
  rw [if_neg (by simp [h])]
  dsimp only [writeRepairs]
  rw [hstk ((hflash _ _).trans (raiseFault_stk _ _ _))]
  simp [forgetScratch, State.core, State.updCore, State.updStack, fencedCore]

/-! ### Control triples (R720) -/

section
variable {s : State} {c triple bump : Nat} (hlive : scratchLive s c = true) (htriple : triple < 272) (hbump : bump < 3)
include hlive htriple hbump

theorem coreVote_first (hnew : (s.core c).voted.contains triple = false) :
    coreVote c triple bump s = voteEvent (c / 128) (c % 128) triple
      (s.updCore c fun x => { x with voted := x.voted ++ [triple], votedBump := Tab.put triple bump x.votedBump }) := by
  unfold coreVote
  dsimp only
  rw [if_neg (by simp [hlive]; omega), if_neg (ne_true_of_eq_false hnew)]

theorem coreVote_again (hmarked : (s.core c).voted.contains triple = true) : coreVote c triple bump s = fenceCore c 2 s := by
  unfold coreVote
  dsimp only
  rw [if_neg (by simp [hlive]; omega), if_pos hmarked]

end

theorem baseVote_again {s : State} {k triple : Nat} (hpowered : (s.stack k).powered = true) (hk : k < 16)
    (hmarked : (s.stack k).voted.contains triple = true) :
    baseVote k triple s = (stackCores k).foldl (fun s c => fenceCore c 2 s) s := by
  unfold baseVote
  rw [if_neg (by simp [hpowered]; omega), if_pos hmarked]

theorem baseVote_first {s : State} {k triple : Nat} (hpowered : (s.stack k).powered = true) (hk : k < 16)
    (hnew : (s.stack k).voted.contains triple = false) :
    baseVote k triple s =
      voteEvent k (draw s).1 triple ((draw s).2.updStack k fun x => { x with voted := x.voted ++ [triple] }) := by
  unfold baseVote
  rw [if_neg (by simp [hpowered]; omega), if_neg (ne_true_of_eq_false hnew)]

/-! ### Lane tests and spares (R717, R721, R723) -/

/-- The test has ended: the word is tested no more, and the stack counts the test. -/
def laneTested (c w : Nat) (s : State) : State :=
  (s.updCore c fun x => { x with testWords := Tab.del w x.testWords }).updStack (c / 128) fun x =>
    { x with laneTests := satInc x.laneTests }

theorem laneTest_due {s : State} {c w : Nat} {bytes : List Nat} (hlive : scratchLive s c = true)
    (hword : Tab.find? w (s.core c).testWords = some bytes) (failed : List (Nat × Nat)) :
    laneTest c w failed s =
      let bad := (bytes.flatMap byteLanes).filter fun x => failed.contains x
      if bad = [] then wordFails c w (laneTested c w s)
      else bad.foldl (fun s x => laneFails c x.1 x.2 s) (laneTested c w s) := by
  unfold laneTest
  rw [hword]
  dsimp only
  rw [if_pos hlive]
  rfl

theorem laneTest_none {s : State} {c w : Nat} (hword : Tab.find? w (s.core c).testWords = none) (failed : List (Nat × Nat)) :
    laneTest c w failed s = s := by
  unfold laneTest
  rw [hword]

/-- The group's repair register names the bump (R723). -/
def bumpNamed (c g b : Nat) (s : State) : State :=
  s.updCore c fun x =>
    { x with repairs := Tab.put g (Tab.getD [] g x.repairs ++ [b]) x.repairs, toSpare := x.toSpare.erase (g, b) }

section
variable {s u : State} {c g b : Nat} (htake : takeAct (.laneSpare c g) s = some u)
  (hspare : (s.core c).toSpare.find? (fun x => x.1 == g) = some (g, b))
include htake hspare

theorem laneWindow_fails (l : Nat) : laneWindow c g (some l) s = laneFails c g l (bumpNamed c g b u) := by
  simp only [laneWindow, htake, hspare, bumpNamed]

theorem laneWindow_spares : laneWindow c g none s =
    spared (c / 128) (c % 128) g b ((bumpNamed c g b u).updCore c fun x => { x with heldLane := x.toSpare != [] }) := by
  simp only [laneWindow, htake, hspare, bumpNamed]

end

/-! ### Base groups (R724, R725) -/

section
variable {s : State} {k g : Nat} (hk : k < 16) (hg : g < 16) (hpowered : (s.stack k).powered = true)
  (hport : (s.stack k).lostPorts.contains (portOfGroup g) = false)
include hk hg hpowered hport

theorem groupStep_closed (htake : takeAct (.groupSpare k g) s = none) (hwaits : groupWaits k g s = false) (again : Bool) :
    groupStep k g again s = groupFails k g s := by
  unfold groupStep
  rw [if_neg (by rw [hpowered, hport]; simp [hk, hg]), htake]
  dsimp only
  rw [if_neg (by simp [hwaits])]

theorem groupStep_open {u : State} (htake : takeAct (.groupSpare k g) s = some u) (again : Bool) :
    groupStep k g again s =
      let v := u.updStack k fun x => { x with spareGroups := x.spareGroups - 1, failedGroups := x.failedGroups ++ [g] }
      if again then groupFails k g v else spared k (portOfGroup g) g (draw v).1 (draw v).2 := by
  unfold groupStep
  rw [if_neg (by rw [hpowered, hport]; simp [hk, hg]), htake]

end

/-! ### Routers and waypoints (R726, R729 to R733) -/

theorem routerFaultStep_stall {s : State} {c : Nat} (hlive : routerLive s c = true) (hsound : (s.core c).routerBad = false) :
    routerFaultStep c .creditStall s = routerFaulty c s :=
  if_neg (by simp [hlive, hsound])

theorem routerFaultStep_parity {s : State} {c : Nat} (hlive : routerLive s c = true) (hsound : (s.core c).routerBad = false) :
    routerFaultStep c .parity s =
      if (s.router c).parityAt = some (s.ft / 131072) then routerFaulty c s
      else s.updRouter c fun q => { q with parityAt := some (s.ft / 131072) } :=
  if_neg (by simp [hlive, hsound])

theorem logicFault_live {s : State} {c : Nat} (hlive : scratchLive s c = true) :
    logicFault c s = if ((s.core c).logicAt.any fun t => decide (s.ft ≤ t + 16777216)) = true then fenceCore c 6 s
      else s.updCore c fun x => { x with logicAt := some s.ft } :=
  if_neg (by simp [hlive])

/-- A parity error of a core's logic stands to fence it for 2^24 ticks. -/
theorem logicAt_recent {s : State} {c at' : Nat} (hat : (s.core c).logicAt = some at') :
    ((s.core c).logicAt.any fun t => decide (s.ft ≤ t + 16777216)) = decide (s.ft ≤ at' + 16777216) := by
  rw [hat]
  rfl

theorem logicAt_stale {s : State} {c : Nat} (h : ∀ at', (s.core c).logicAt = some at' → at' + 16777216 < s.ft) :
    ((s.core c).logicAt.any fun t => decide (s.ft ≤ t + 16777216)) = false := by
  cases hat : (s.core c).logicAt with
  | none => rfl
  | some at' => simpa using h at' hat

theorem routeStep_drained {s : State} {k : Nat} (hstop : stoppedForReplay s = true) (hdrained : meshDrained s k = true)
    (hpowered : (s.stack k).powered = true) (hk : k < 16) :
    routeStep k s =
      let u := s.updStack k fun x => { x with routes := routeTable (badRouters s k) (stackCores k) }
      (isolatedCores (badRouters s k) (stackCores k) 128 (unfenced u k)).foldl (fun s c => fenceCore c 5 s) u :=
  if_pos (by simp [hstop, hdrained, hpowered, hk])

/-- Settles O52: one clause for each symptom, each by the equation of its command. -/
theorem sparesFencesAndRouters : Obligations.SparesFencesAndRouters := by
  refine ⟨fun s c triple bump hlive htriple hbump => ⟨fun hnew => ?_, fun hmarked => ?_⟩,
    fun s k triple bump hpowered hk => ⟨fun hmarked => ?_, fun hnew => ?_⟩,
    fun s c w bytes failed hlive hword => ⟨fun hnone => ?_, fun hsome => ?_, fun v hv => ?_⟩,
    fun s u c g b htake hspare => ⟨fun l => ?_, ?_⟩,
    fun s k g hk hg hpowered hport htake hwaits b => ?_,
    fun s u k g hk hg hpowered hport htake => ⟨?_, ?_⟩,
    fun s c hlive hsound => ⟨?_, fun hround => ?_, fun hround => ?_⟩,
    fun s c hlive => ⟨fun at' hat hrecent => ?_, fun hstale => ?_⟩,
    fun s k hstop hdrained hpowered hk => congrArg Host.Outcome.next (routeStep_drained hstop hdrained hpowered hk)⟩
  · exact congrArg Host.Outcome.next (coreVote_first hlive htriple hbump hnew)
  · have hfence := coreVote_again hlive htriple hbump hmarked
    obtain ⟨-, -, hopen⟩ := (scratchLive_iff s c).1 hlive
    exact ⟨_, rfl, hfence, (congrArg (fun t => (State.core t c).fence) hfence).trans (fenceCore_fence hopen 2)⟩
  · exact congrArg Host.Outcome.next (baseVote_again hpowered hk hmarked)
  · exact congrArg Host.Outcome.next (baseVote_first hpowered hk hnew)
  · exact congrArg Host.Outcome.next ((laneTest_due hlive hword failed).trans (if_pos hnone))
  · exact congrArg Host.Outcome.next ((laneTest_due hlive hword failed).trans (if_neg hsome))
  · exact congrArg Host.Outcome.next (laneTest_none hv failed)
  · exact congrArg Host.Outcome.next (laneWindow_fails htake hspare l)
  · exact congrArg Host.Outcome.next (laneWindow_spares htake hspare)
  · exact congrArg Host.Outcome.next (groupStep_closed hk hg hpowered hport htake hwaits b)
  · exact congrArg Host.Outcome.next (groupStep_open hk hg hpowered hport htake true)
  · exact congrArg Host.Outcome.next (groupStep_open hk hg hpowered hport htake false)
  · exact congrArg Host.Outcome.next (routerFaultStep_stall hlive hsound)
  · exact congrArg Host.Outcome.next ((routerFaultStep_parity hlive hsound).trans (if_pos hround))
  · exact congrArg Host.Outcome.next ((routerFaultStep_parity hlive hsound).trans (if_neg hround))
  · refine congrArg Host.Outcome.next ((logicFault_live hlive).trans (if_pos ?_))
    rw [logicAt_recent hat]
    exact decide_eq_true hrecent
  · refine congrArg Host.Outcome.next ((logicFault_live hlive).trans (if_neg ?_))
    rw [logicAt_stale hstale]
    decide

end Sys2Proof.Machine
end

section
/-!
SUPPORT. What the close of a pound and the end of a session leave of the security block: cuts named, notices sent over the torus
and pins released leave all of it, and a debug level that ends leaves the vault and the tamper watch (R355, R595, R673, R787).
-/

namespace Sys2Proof.Machine

/-! ### Packets sent over the torus -/

@[simp] theorem issueStamp_sec (b : Nat) (h : HeldStamp) (s : State) : (issueStamp b h s).2.sec = s.sec := by
  obtain ⟨t, ht, -⟩ := issueStamp_time b h s
  rw [ht]

@[simp] theorem stampWrite_sec (id : Nat) (s : State) : (stampWrite id s).sec = s.sec := by
  unfold stampWrite
  split
  case h_1 => rfl
  case h_2 w hw =>
    dsimp only
    split
    case isFalse => rfl
    case isTrue =>
      split
      case isTrue => rfl
      case isFalse => split <;> exact issueStamp_sec _ _ s

@[simp] theorem grantStamp_sec (o : Owner) (s : State) : (grantStamp o s).sec = s.sec := by
  cases o with
  | write id => exact stampWrite_sec id s
  | msg id => rfl
  | part m gen order => rfl
  | none => rfl

@[simp] theorem installPort_sec (b dest : Nat) (s : State) : (installPort b dest s).sec = s.sec := by
  unfold installPort
  split
  case isTrue => rfl
  case isFalse => split <;> rfl

theorem admitList_sec (b : Nat) (l : List BerthWait) (held : List Nat) (s : State) :
    (admitList b l held s).2.sec = s.sec := by
  induction l generalizing held s with
  | nil => rfl
  | cons w l ih =>
    unfold admitList
    dsimp only
    split
    case isTrue => exact ih held s
    case isFalse =>
      split
      case isTrue => exact ih held s
      case isFalse =>
        split
        case h_1 t => exact (ih held _).trans (grantStamp_sec w.tx.owner s)
        case h_2 => exact (ih _ _).trans (installPort_sec b _ s)

@[simp] theorem torusHop_sec (o : Owner) (b dest unit : Nat) (p : TorusPacket) (s : State) :
    (torusHop o b dest unit p s).sec = s.sec :=
  admitList_sec _ _ _ _

@[simp] theorem sendNeighbour_sec (d no : Nat) (s : State) : (sendNeighbour d no s).sec = s.sec := torusHop_sec _ _ _ _ _ s

@[simp] theorem sendControl_sec (kind no coord : Nat) (s : State) : (sendControl kind no coord s).sec = s.sec := by
  unfold sendControl sendTorusPacket
  dsimp only
  split
  case h_1 => exact torusHop_sec _ _ _ _ _ s
  case h_2 => rfl

@[simp] theorem announce_sec (n : Notice) (s : State) : (announce n s).sec = s.sec := by
  unfold announce floodNotice
  exact (foldl_keeps State.sec (fun u d => sendNeighbour_sec d _ (torusSend _ u)) _ _).trans rfl

@[simp] theorem sendNotice_sec (n : SentNotice) (s : State) : (sendNotice n s).sec = s.sec := by
  unfold sendNotice routeNotice
  dsimp only
  split
  case h_1 =>
    split
    case isTrue => rfl
    case isFalse => exact sendControl_sec _ _ _ _
  case h_2 => rfl

/-! ### Cuts (R355) -/

theorem recount_sec (was s : State) : (recount was s).sec = s.sec := by
  unfold recount
  refine Eq.trans (b := (List.foldl _ s s.mem.writes).sec) rfl (foldl_keeps State.sec (fun u w => ?_) _ _)
  dsimp only
  split
  case h_1 => rfl
  case h_2 => split <;> rfl

@[simp] theorem nameCut_sec (c : Nat) (cause : Trigger) (s : State) : (nameCut c cause s).sec = s.sec := by
  unfold nameCut
  split
  case isFalse => rfl
  case isTrue =>
    split
    case h_1 => split <;> rfl
    case h_2 =>
      split
      case isTrue => rfl
      case isFalse => exact recount_sec _ _

@[simp] theorem joinCut_sec (c serial : Nat) (cause : Trigger) (s : State) : (joinCut c serial cause s).sec = s.sec := by
  unfold joinCut
  generalize (cutInForce s).or _ = bound
  dsimp only
  split
  case isTrue => exact recount_sec _ _
  case isFalse => rfl

@[simp] theorem takeCut_sec (c : Nat) (serial : Option Nat) (cause : Trigger) (s : State) :
    (takeCut c serial cause s).sec = s.sec := by
  unfold takeCut
  split
  case isTrue => rfl
  case isFalse =>
    dsimp only
    split
    case h_1 => exact joinCut_sec _ _ _ _
    case h_2 => exact nameCut_sec _ _ _

@[simp] theorem answerJoiners_sec (c serial : Nat) (s : State) : (answerJoiners c serial s).sec = s.sec := by
  refine foldl_keeps State.sec (fun u j => ?_) _ _
  split <;> rfl

@[simp] theorem joinSerial_sec (s : State) : (joinSerial s).2.sec = s.sec := by
  unfold joinSerial
  cases inStepNow s <;> rfl

@[simp] theorem nameMasterCut_sec (issued : Nat) (cause : Trigger) (s : State) : (nameMasterCut issued cause s).sec = s.sec := by
  have hcut : (masterCut issued s).2.sec = s.sec := rfl
  unfold nameMasterCut
  dsimp only
  split
  case isTrue => rfl
  case isFalse => split <;> simp [hcut]

/-! ### The vault and the tamper watch -/

/-- What a tamper event clears, and the watch that counts it. -/
def SecState.secrets (x : SecState) : Tab Bytes × Bool × Bool × Bool × Option Nat × Bool × Nat :=
  (x.vault, x.keyLoaded, x.seeds, x.awaitSlot0, x.jtag.auth, x.counted, x.clearFor)

theorem askClose_secrets (c : Nat) (cause : Trigger) (s : State) : (askClose c cause s).sec.secrets = s.sec.secrets := by
  unfold askClose
  split
  case isTrue => rfl
  case isFalse =>
    split
    case isTrue => split <;> simp
    case isFalse => simp

theorem releaseTrigger_secrets (s : State) : (releaseTrigger s).sec.secrets = s.sec.secrets := by
  unfold releaseTrigger
  split
  case h_1 => rfl
  case h_2 => rw [nameCut_sec]; rfl
  case h_3 => rw [askClose_secrets]; rfl

theorem runAgain_secrets (s : State) : (runAgain s).sec.secrets = s.sec.secrets := by
  unfold runAgain
  split
  case h_1 => rfl
  case h_2 => rw [releaseTrigger_secrets]; rfl

theorem sendReply_secrets (src : MailSrc) (handle : Nat) (body : Bytes) (s : State) :
    (sendReply src handle body s).sec.secrets = s.sec.secrets := by
  unfold sendReply
  split
  case h_1 => split <;> rfl
  case h_2 => rfl

theorem endJob_secrets (n status : Nat) (extra : Bytes) (s : State) : (endJob n status extra s).sec.secrets = s.sec.secrets := by
  unfold endJob
  split
  case h_1 => rfl
  case h_2 => exact sendReply_secrets _ _ _ _

theorem dropHalts_secrets (s : State) : (dropHalts s).sec.secrets = s.sec.secrets := by
  refine foldl_keeps (fun u => u.sec.secrets) (fun u j => ?_) _ _
  exact endJob_secrets _ _ _ u

theorem setLevel_secrets (chan : MailSrc) (level : Nat) (s : State) : (setLevel chan level s).sec.secrets = s.sec.secrets := by
  cases chan <;> rfl

/-- A debug level that ends leaves the vault and the tamper watch. -/
theorem lowerDebug_secrets (chan : MailSrc) (level cause : Nat) (s : State) :
    (lowerDebug chan level cause s).sec.secrets = s.sec.secrets := by
  unfold lowerDebug
  dsimp only
  split
  case isTrue => rfl
  case isFalse =>
    have hlower := setLevel_secrets chan level s
    split
    case isTrue => simpa using hlower
    case isFalse =>
      rw [runAgain_secrets, dropHalts_secrets]
      simpa using hlower

theorem lowerAllDebug_secrets (level cause : Nat) (s : State) : (lowerAllDebug level cause s).sec.secrets = s.sec.secrets :=
  (lowerDebug_secrets _ _ _ _).trans
    (foldl_keeps (fun u => u.sec.secrets) (fun u i => lowerDebug_secrets (.session i) level cause u) _ _)

/-! ### Sessions that end (R595) -/

theorem releaseFrames_sec (l : List Nat) (s : State) : (releaseFrames l s).sec = s.sec := by
  refine foldl_keeps State.sec (fun u f => ?_) _ _
  dsimp only
  split
  case h_1 => unfold retireFrame; split <;> rfl
  case h_2 => rfl

theorem tablesUpdate_sec (s : State) : (tablesUpdate s).sec = s.sec := by
  refine foldl_keeps State.sec (fun _ _ => ?_) _ _
  rfl

theorem releasePins_sec (o : PinOwner) (s : State) : (releasePins o s).sec = s.sec := by
  unfold releasePins
  dsimp only
  split
  case isTrue => rfl
  case isFalse => rw [tablesUpdate_sec, releaseFrames_sec]

theorem endBarge_sec (n status : Nat) (s : State) : (endBarge n status s).sec = s.sec := by
  unfold endBarge
  split
  case h_1 => rfl
  case h_2 =>
    dsimp only
    split <;> exact releasePins_sec _ _

theorem bufferGive_sec (p : PortId) (n : Nat) (s : State) : (bufferGive p n s).sec = s.sec := by
  unfold bufferGive pauseCheck
  dsimp only
  split
  case isTrue => rfl
  case isFalse => split <;> rfl

theorem endBarges_sec (p : Barge → Bool) (status : Nat) (s : State) : (endBarges p status s).sec = s.sec :=
  foldl_keeps State.sec (fun u (x : Nat × Barge) => endBarge_sec x.1 status u) _ _

theorem freeSession_secrets (i : Nat) (s : State) : (freeSession i s).sec.secrets = s.sec.secrets := by
  unfold freeSession dropSession
  dsimp only
  rw [endBarges_sec, foldl_keeps State.sec (fun u x => bufferGive_sec _ _ u)]
  exact lowerDebug_secrets _ _ _ s

end Sys2Proof.Machine
end

section
/-!
SUPPORT. Statements of chapter 16 on tamper: the event of a source seen for the first time, a source seen again, and the clear that
follows (R774 to R777).
-/

namespace Sys2Proof.Machine
open Sys2Proof.Safety

theorem freeKeyed_secrets (s : State) : (freeKeyed s).sec.secrets = s.sec.secrets :=
  foldl_keeps (fun u => u.sec.secrets) (fun u i => freeSession_secrets i u) _ _

/-- A source is noted, and the clear count starts over (R775). -/
def tamperNoted (source : Nat) (s : State) : State :=
  { s with
    sec.asserted := if s.sec.asserted.contains source then s.sec.asserted else s.sec.asserted ++ [source]
    sec.clearFor := 0, sec.counted := true, pins.tamperN := s.pins.tamperN && source != 0 }

theorem tamperStep_counted {s : State} {source : Nat} (hlc : lifeCycle s ≠ 4) (hsource : source < 2)
    (hcounted : s.sec.counted = true) : tamperStep source s = tamperNoted source s := by
  unfold tamperStep
  rw [if_neg (by simp [hlc, hsource])]
  exact if_pos hcounted

theorem tamperStep_new {s : State} {source : Nat} (hlc : lifeCycle s ≠ 4) (hsource : source < 2)
    (hcounted : s.sec.counted = false) :
    tamperStep source s =
      if (s.pins.resetN && decide (1 ≤ s.boot.phase)) = true then tamperNow source (tamperNoted source s)
      else { blowTamper (zeroVault (tamperNoted source s)) with sec.owed := some source } := by
  unfold tamperStep
  rw [if_neg (by simp [hlc, hsource])]
  exact if_neg (by simp [hcounted])

theorem tamperStep_ignored {s : State} {source : Nat} (h : lifeCycle s = 4 ∨ 2 ≤ source) : tamperStep source s = s :=
  if_pos (by simpa using h)

theorem tamperNow_sec (source : Nat) (s : State) :
    (tamperNow source s).sec = (blowTamper (freeKeyed (lowerAllDebug 0 5 (zeroVault (wipeSecure s))))).sec := by
  have hflash (o : FlashOp) (u : State) : (flashAdd o u).sec = u.sec := rfl
  unfold tamperNow
  dsimp only
  split
  case isTrue => rw [hflash, tamperEvent, raiseFault_sec]
  case isFalse => rw [tamperEvent, raiseFault_sec]

/-- The vault and what a tamper event clears with it, and the watch that has counted it. -/
theorem tamperNow_secrets (source : Nat) (s : State) :
    (tamperNow source s).sec.secrets = ([], false, false, true, none, s.sec.counted, s.sec.clearFor) := by
  have hblow (u : State) : (blowTamper u).sec.secrets = u.sec.secrets := rfl
  rw [tamperNow_sec, hblow, freeKeyed_secrets, lowerAllDebug_secrets]
  rfl

/-- One more TAMPER bit is blown, and no other fuse. -/
theorem tamperNow_fuses (source : Nat) (s : State) :
    (tamperNow source s).sec.fuses = { s.sec.fuses with tamper := min 32 (s.sec.fuses.tamper + 1) } := by
  have hblow (u : State) : (blowTamper u).sec.fuses = { u.sec.fuses with tamper := min 32 (u.sec.fuses.tamper + 1) } := rfl
  have hwipe : (freeKeyed (lowerAllDebug 0 5 (zeroVault (wipeSecure s)))).sec.fuses = s.sec.fuses :=
    congrArg (·.2) (still_of (by simp : State.fixed _ = s.fixed))
  rw [tamperNow_sec, hblow, hwipe]

/-- Settles O53: a source not yet counted, one seen again, one that is ignored, and the clear. -/
theorem tamperZeroesTheVault : Obligations.TamperZeroesTheVault := by
  refine ⟨fun s source hlc hsource => ⟨fun hcounted => ?_, fun hcounted => ?_⟩,
    fun s source hignored => congrArg Host.Outcome.next (tamperStep_ignored hignored), fun s hcounted => ?_⟩
  · refine ⟨_, rfl, ?_⟩
    rw [tamperStep_new hlc hsource hcounted]
    split
    case isTrue =>
      have hsecrets := tamperNow_secrets source (tamperNoted source s)
      have hfuses := tamperNow_fuses source (tamperNoted source s)
      simp only [SecState.secrets, Prod.mk.injEq] at hsecrets
      obtain ⟨hvault, hkey, hseeds, hslot0, hauth, hcounts, hclear⟩ := hsecrets
      exact ⟨hvault, hkey, hseeds, hslot0, hauth, hcounts, hclear, hfuses⟩
    case isFalse => exact ⟨rfl, rfl, rfl, rfl, rfl, rfl, rfl, rfl⟩
  · refine congrArg Host.Outcome.next ((tamperStep_counted hlc hsource hcounted).trans ?_)
    rw [tamperNoted, ← hcounted]
  · refine congrArg Host.Outcome.next ?_
    unfold tamperClearStep
    simp [hcounted]

end Sys2Proof.Machine
end

section
/-!
SUPPORT. Statements of chapters 16 and 19 on the JTAG port: the instructions that select a register, boundary scan, authentication
and the mail register (R781 to R783, R787, R874, R875).
-/

namespace Sys2Proof.Machine
open Sys2Proof.Safety

/-! ### What selecting an instruction leaves alone (R781) -/

theorem releaseCells_frame (s : State) : ∃ pi, releaseCells s = { s with pins := pi } ∧ pi.resetN = s.pins.resetN := by
  unfold releaseCells
  split <;> exact ⟨_, rfl, rfl⟩

theorem selectIr_resetN (ir dr : Nat) (s : State) : (selectIr ir dr s).pins.resetN = s.pins.resetN := by
  obtain ⟨pi, hrelease, hreset⟩ := releaseCells_frame s
  rw [selectIr, hrelease]
  exact hreset

theorem selectIr_boot (ir dr : Nat) (s : State) : (selectIr ir dr s).boot = s.boot := by
  obtain ⟨pi, hrelease, -⟩ := releaseCells_frame s
  rw [selectIr, hrelease]

theorem selectIr_mail (ir dr : Nat) (s : State) : (selectIr ir dr s).sec.jtag.mail = s.sec.jtag.mail := by
  obtain ⟨pi, hrelease, -⟩ := releaseCells_frame s
  rw [selectIr, hrelease]

/-! ### Authentication and mail (R782, R783) -/

/-- The state in which DBG_AUTH has captured its nonce. -/
def nonceTaken (s : State) : State :=
  { selectIr 0x10 (Config.free s.freeCtr % 2 ^ 256) { s with freeCtr := s.freeCtr + 1 } with
    sec.jtag.nonce := Config.free s.freeCtr % 2 ^ 256 }

theorem authStep_open {s : State} (hlc : lifeCycle s ≠ 4) (slot level reserved tag : Nat) :
    authStep slot level reserved tag s =
      if s.pins.resetN = false ∨ s.boot.phase = 0 then nonceTaken s
      else if dbgMatch (nonceTaken s) (slot % 256) (level % 256) (reserved % 65536) tag (Config.free s.freeCtr % 2 ^ 256) = true then
        authLevel (level % 256) { nonceTaken s with sec.jtag.auth := some (slotClass (slot % 256)) }
      else logEvent Ev.debugDenied (leBytes 1 slot ++ leBytes 1 level) (nonceTaken s) := by
  have hreset : (nonceTaken s).pins.resetN = s.pins.resetN :=
    selectIr_resetN 0x10 (Config.free s.freeCtr % 2 ^ 256) { s with freeCtr := s.freeCtr + 1 }
  have hboot : (nonceTaken s).boot = s.boot :=
    selectIr_boot 0x10 (Config.free s.freeCtr % 2 ^ 256) { s with freeCtr := s.freeCtr + 1 }
  have hguard : (!(nonceTaken s).pins.resetN || decide ((nonceTaken s).boot.phase = 0)) = true ↔
      s.pins.resetN = false ∨ s.boot.phase = 0 := by
    rw [hreset, hboot]
    simp
  unfold authStep
  rw [if_neg hlc]
  exact ite_congr (propext hguard) (fun _ => rfl) fun _ => rfl

theorem mailRegister_open {s : State} (hlc : lifeCycle s ≠ 4) (m : Bytes) :
    mailRegister m s =
      let u := selectIr 0x11 (leNat (leBytes 4 s.sec.jtag.reply.length ++ s.sec.jtag.reply)) s
      if s.pins.resetN = false ∨ 1024 < m.length ∨ s.sec.jtag.mail ≠ none then u
      else { u with sec.jtag.mail := some m, sec.jtag.reply := [] } := by
  unfold mailRegister
  rw [if_neg hlc]
  dsimp only
  rw [selectIr_resetN, selectIr_mail]
  refine ite_congr (propext ?_) (fun _ => rfl) fun _ => rfl
  simp only [Bool.or_eq_true, Bool.not_eq_true', decide_eq_true_eq, Option.isSome_iff_ne_none]
  exact or_comm

/-- Settles O54: each instruction by the test of RESET_N, of VOID or of the registers that it makes. -/
theorem jtagPort : Obligations.JtagPort := by
  refine ⟨fun s => ⟨rfl, rfl⟩, fun s hreset => ⟨fun cells => ?_, ?_, ?_⟩, fun s cells => ⟨rfl, fun hreset => ?_⟩,
    fun s hreset => ⟨?_, ?_⟩, fun s cells => rfl, fun s slot level reserved tag m hvoid => ⟨?_, ?_⟩,
    fun s slot level reserved tag hlc => ⟨fun hheld => ?_, fun hreset hphase => ⟨fun hmatch => ?_, fun hmatch => ?_⟩⟩,
    fun s m hlc => ⟨fun hreset hlen hmail => ?_, fun hbusy => ?_⟩, fun s => ⟨_, rfl, rfl, rfl, rfl, rfl, rfl⟩⟩
  · exact congrArg Host.Outcome.next (if_pos hreset)
  · exact congrArg Host.Outcome.next (if_pos hreset)
  · exact congrArg Host.Outcome.next (if_pos hreset)
  · exact congrArg Host.Outcome.next (if_neg (by simp [hreset]))
  · exact congrArg Host.Outcome.next (if_neg (by simp [hreset]))
  · exact congrArg Host.Outcome.next (if_neg (by simp [hreset]))
  · exact congrArg Host.Outcome.next (if_pos hvoid)
  · exact congrArg Host.Outcome.next (if_pos hvoid)
  · exact congrArg Host.Outcome.next ((authStep_open hlc slot level reserved tag).trans (if_pos hheld))
  · refine congrArg Host.Outcome.next ((authStep_open hlc slot level reserved tag).trans ?_)
    rw [if_neg (by simp [hreset, hphase])]
    exact if_pos hmatch
  · refine congrArg Host.Outcome.next ((authStep_open hlc slot level reserved tag).trans ?_)
    rw [if_neg (by simp [hreset, hphase])]
    exact if_neg (ne_true_of_eq_false hmatch)
  · exact congrArg Host.Outcome.next ((mailRegister_open hlc m).trans (if_neg (by simp [hreset, hmail, hlen])))
  · exact congrArg Host.Outcome.next ((mailRegister_open hlc m).trans (if_pos hbusy))

end Sys2Proof.Machine
end

section
/-!
SUPPORT. Statements of chapters 17 and 19 on resets, the loss of power, the expiry of a trial and the start of a boot (R808, R867 to
R873).
-/

namespace Sys2Proof.Machine
open Sys2Proof.Safety

/-! ### What a reset leaves (R664, R787, R870) -/

/-- Before fabric time is loaded, and with no session, an event goes to the log alone. -/
theorem logEvent_unloaded (code : Nat) (args : Bytes) {s : State} (hloaded : s.time.loaded = false)
    (hsessions : s.net.sessions = []) : ∃ lo, logEvent code args s = { s with log := lo } := by
  have hnet (f : Nat → Session → Session) : { s.net with sessions := s.net.sessions.mapVals f } = s.net := by
    rw [hsessions, Tab.mapVals, List.map_nil, ← hsessions]
  rw [logEvent, logEventR_unloaded _ _ _ _ hloaded]
  unfold appendEntry
  split
  case h_2 => exact ⟨_, rfl⟩
  case h_1 =>
    split
    case isTrue => exact ⟨_, rfl⟩
    case isFalse => exact ⟨_, congrArg (fun ne => ({ s with log := _, net := ne } : State)) (hnet _)⟩

theorem logEvents_unloaded {α : Type} (code : Nat) (args : α → Bytes) (l : List α) {s : State} (hloaded : s.time.loaded = false)
    (hsessions : s.net.sessions = []) :
    ∃ lo, l.foldl (fun s x => logEvent code (args x) s) s = { s with log := lo } := by
  induction l generalizing s with
  | nil => exact ⟨_, rfl⟩
  | cons x l ih =>
    obtain ⟨lo, hlog⟩ := logEvent_unloaded code (args x) hloaded hsessions
    obtain ⟨lo', hrest⟩ := ih (s := { s with log := lo }) hloaded hsessions
    exact ⟨lo', by rw [List.foldl_cons, hlog, hrest]⟩

/-- The levels that a reset ends stand in the new log, and all else is cleared. -/
theorem resetModule_eq (cause : Nat) (low : Bool) (s : State) :
    ∃ lo, resetModule cause low s = { clearedState cause low s with log := lo } :=
  logEvents_unloaded Ev.debugEnd (fun x : Nat × Nat => leBytes 2 x.1 ++ leBytes 1 x.2 ++ leBytes 1 3) (openLevels s) rfl rfl

theorem tear_imageA (o : FlashOp) (s : State) : (tear o s).flash.imageA = s.flash.imageA := by
  cases o <;> rfl

/-- An interruption of the flash leaves the images of the slots. -/
theorem flashCut_imageA (s : State) : (flashCut s).flash.imageA = s.flash.imageA := by
  have hfront : (match s.flash.queue with
      | o :: _ => tear o s
      | [] => s).flash.imageA = s.flash.imageA := by
    split
    · exact tear_imageA _ _
    · rfl
  unfold flashCut
  dsimp only
  split
  · exact (tear_imageA _ _).trans hfront
  · exact hfront

/-! ### RESET_N and the trial (R808, R870) -/

theorem resetNStep_glitch {ns : Nat} (h : ns < 100) (s : State) : resetNStep ns s = s := if_pos (by simp [h])

theorem resetNStep_long {s : State} {ns : Nat} (hhigh : s.pins.resetN = true) (h : 1000 ≤ ns) :
    resetNStep ns s = resetModule 1 false s := by
  unfold resetNStep
  rw [if_neg (by simp [hhigh]; omega), if_pos h]

/-- Between 100 ns and 1 µs a free value decides. -/
theorem resetNStep_between {s : State} {ns : Nat} (hhigh : s.pins.resetN = true) (hlo : 100 ≤ ns) (hhi : ns < 1000) :
    resetNStep ns s = { s with freeCtr := s.freeCtr + 1 } ∨
      resetNStep ns s = resetModule 1 false { s with freeCtr := s.freeCtr + 1 } := by
  unfold resetNStep
  rw [if_neg (by simp [hhigh]; omega), if_neg (by omega)]
  split
  case isTrue => exact .inl rfl
  case isFalse => exact .inr rfl

theorem trialStep_expired {s : State} {n : Nat} (hat : s.boot.trialAt = some n) (hlong : 75000000000 ≤ n)
    (htrial : slotState s.boot.bootRec s.boot.bootRec.running = .trial) :
    trialStep s = if stranded s = true ∨ s.pins.resetN = false then s else resetModule 4 true s := by
  unfold trialStep selfReset
  rw [if_pos (by simp [hat, hlong, htrial])]
  simp only [Bool.or_eq_true, Bool.not_eq_true']

/-! ### The start of a boot (R867, R869) -/

theorem hotAtBoot_samples {s t : State} (h : t.power.samples = s.power.samples) : hotAtBoot t = hotAtBoot s := by
  unfold hotAtBoot sampleOf
  rw [h]

/-- The module as a boot begins, with the region samples that the boot ROM reads. -/
def bootBegun (samples : Tab Int) (s : State) : State :=
  let s := releaseCells s
  { s with
    pins.resetN := true, pins.vrReady := true, sec.jtag.clamp := false, sec.jtag.highz := false, sec.seeds := true
    boot.phase := 1, boot.cause := if s.boot.poweredOnce then s.boot.resetCause else 0, boot.poweredOnce := true
    boot.trialAt := some 0, power.samples := samples, lk.a.watchdogAt := s.ft, lk.b.watchdogAt := s.ft }

theorem bootBegun_romHalt (samples : Tab Int) (s : State) : (bootBegun samples s).boot.romHalt = s.boot.romHalt := by
  obtain ⟨pi, hrelease, -⟩ := releaseCells_frame s
  rw [bootBegun, hrelease]

theorem bootBegun_owed (samples : Tab Int) (s : State) : (bootBegun samples s).sec.owed = s.sec.owed := by
  obtain ⟨pi, hrelease, -⟩ := releaseCells_frame s
  rw [bootBegun, hrelease]

theorem owedTamper_none {s : State} (h : s.sec.owed = none) : owedTamper s = s := by
  rw [owedTamper, h]

/-- With no tamper event owed, a region at its trip threshold alone halts the module in the boot ROM. -/
theorem bootStep_begins {s : State} (samples : Tab Int) (hphase : s.boot.phase = 0) (howed : s.sec.owed = none) :
    bootStep samples s = if hotAtBoot { s with power.samples := samples } = true then
      { bootBegun samples s with pins.thermtripN := false, pins.faultN := false, boot.romHalt := true }
      else bootBegun samples s := by
  have hbegun : bootStep samples s =
      let u := owedTamper (bootBegun samples s)
      if hotAtBoot u = true then { u with pins.thermtripN := false, pins.faultN := false, boot.romHalt := true } else u :=
    if_neg (by simp [hphase])
  have hhot : hotAtBoot (bootBegun samples s) = hotAtBoot { s with power.samples := samples } := hotAtBoot_samples rfl
  rw [hbegun, owedTamper_none ((bootBegun_owed samples s).trans howed)]
  dsimp only
  rw [hhot]

/-- Settles O55: RESET_N by its width, the state after a reset, the trial, the loss of power and the start of a boot. -/
theorem resetsAndPowerLoss : Obligations.ResetsAndPowerLoss := by
  refine ⟨fun s ns hhigh => ⟨fun h => ?_, fun h => ?_, fun hlo hhi => ?_⟩, fun s cause low => ?_,
    fun s hexpired htrial => ?_, fun s => rfl, fun s samples hphase howed => ?_⟩
  · exact congrArg Host.Outcome.next (resetNStep_glitch h s)
  · exact congrArg Host.Outcome.next (resetNStep_long hhigh h)
  · exact (resetNStep_between hhigh hlo hhi).imp (congrArg Host.Outcome.next) (congrArg Host.Outcome.next)
  · obtain ⟨lo, hreset⟩ := resetModule_eq cause low s
    dsimp only
    rw [hreset]
    exact ⟨rfl, rfl, rfl, rfl, rfl, rfl, rfl, rfl, rfl, rfl, flashCut_imageA s⟩
  · obtain ⟨n, hat, hlong⟩ := hexpired
    exact congrArg Host.Outcome.next (trialStep_expired hat hlong htrial)
  · refine ⟨_, rfl, ?_⟩
    rw [bootStep_begins samples hphase howed]
    split
    case isTrue hhot => exact ⟨rfl, rfl, rfl, fun _ => ⟨rfl, rfl, rfl⟩, fun hcool => absurd hhot (ne_true_of_eq_false hcool)⟩
    case isFalse hcool => exact ⟨rfl, rfl, rfl, fun hhot => absurd hhot hcool, fun _ => bootBegun_romHalt samples s⟩

end Sys2Proof.Machine
end

section
/-!
SUPPORT. Statements of chapter 17 on boot and the flash: the phases and what each gives way to, the verification of the image, and the
two copies of a record (R796, R797, R804 to R818).
-/

namespace Sys2Proof.Machine
open Sys2Proof.Safety

/-! ### The copies of a record (R796, R797) -/

@[simp] theorem copyState_setCopy (r : Record) (i : Nat) (c : CopyState) : copyState (setCopy r i c) i = c := by
  unfold copyState setCopy
  split <;> rfl

@[simp] theorem copyState_dropLost (r : Record) (i : Nat) : copyState (dropLost r) i = copyState r i := by
  unfold dropLost
  split <;> rfl

/-- A write never programs the copy that stands. -/
theorem winner_ne_writeCopy (r : Record) : winner r ≠ some (writeCopy r) := by
  unfold writeCopy
  split
  case isTrue h => rw [h]; decide
  case isFalse h => exact h

@[simp] theorem updRecord_record (kind : Nat) (f : Record → Record) (s : State) :
    (updRecord kind f s).record kind = f (s.record kind) := by
  simp [updRecord, State.record]

theorem recordForce_flash (d : RecordData) (s : State) : (recordForce d s).flash = s.flash := by
  cases d <;> rfl

/-- A completed write stands in the copy it programmed. -/
theorem storeRecord_record (kind : Nat) (d : RecordData) (s : State) :
    (storeRecord kind d s).2.record kind =
      { setCopy (s.record kind) (writeCopy (s.record kind)) (.valid (writeSeq (s.record kind))) with data := some d } := by
  have hflash {t u : State} (h : t.flash = u.flash) : t.record kind = u.record kind :=
    congrArg (fun f => Tab.getD ({} : Record) kind (FlashState.records f)) h
  exact (hflash (recordForce_flash d _)).trans (updRecord_record kind _ s)

/-- The former winner of the record is erased next. -/
theorem writeDone_front {s : State} {kind : Nat} {d : RecordData} {rest : List FlashOp}
    (hqueue : s.flash.queue = .write kind d .nothing :: rest) (htrips : kind ≠ 5) (hconfig : kind ≠ 7) :
    writeDone s = { (storeRecord kind d s).2 with flash.queue :=
      (match (storeRecord kind d s).1 with
        | some c => [FlashOp.erase kind c]
        | none => []) ++ rest } := by
  unfold writeDone
  rw [hqueue]
  dsimp only
  rw [if_neg htrips, if_neg hconfig]
  rfl

theorem eraseDone_front {s : State} {kind copy : Nat} {rest : List FlashOp}
    (hqueue : s.flash.queue = .erase kind copy :: rest) :
    eraseDone s = { eraseCopy kind copy s with flash.queue := rest } := by
  unfold eraseDone
  rw [hqueue]

/-! ### The phases (R812, R818) -/

/-- A phase's work, time and report. -/
def phaseDone (phase ms : Nat) (r : PhaseReport) (s : State) : State :=
  slowReport phase ms (phaseTime phase ms (phaseWork phase r s))

theorem phaseStep_runs {s : State} {phase : Nat} (h : phaseRuns s phase = true) (ms : Nat) (r : PhaseReport) :
    phaseStep phase ms r s = nextPhase phase (phaseDone phase ms r s) := if_pos h

theorem nextPhase_halted {u : State} (phase : Nat) (h : u.boot.romHalt = true ∨ u.boot.halted = true) : nextPhase phase u = u :=
  if_pos (by simpa using h)

/-- What comes after a phase, where nothing halts boot. -/
theorem nextPhase_goesOn {u : State} (phase : Nat) (hrom : u.boot.romHalt = false) (hhalted : u.boot.halted = false) :
    (phase ≤ 4 → nextPhase phase u =
      { u with boot.phase := phase + 1, boot.parMs := 0, boot.phase5 := false, boot.phase6 := false }) ∧
    (phase = 5 → u.boot.phase6 = true → nextPhase phase u =
      { u with boot.phase5 := true, boot.phase := 7, boot.elapsedMs := u.boot.elapsedMs + u.boot.parMs }) ∧
    (phase = 5 → u.boot.phase6 = false → nextPhase phase u = { u with boot.phase5 := true }) ∧
    (phase = 6 → u.boot.phase5 = true → nextPhase phase u =
      { u with boot.phase6 := true, boot.phase := 7, boot.elapsedMs := u.boot.elapsedMs + u.boot.parMs }) ∧
    (phase = 6 → u.boot.phase5 = false → nextPhase phase u = { u with boot.phase6 := true }) ∧
    (phase = 7 → nextPhase phase u = announceReady u) := by
  unfold nextPhase
  rw [if_neg (by simp [hrom, hhalted])]
  refine ⟨fun h => if_pos h, ?_, ?_, ?_, ?_, ?_⟩
  · rintro rfl h; simp [h]
  · rintro rfl h; simp [h]
  · rintro rfl h; simp [h]
  · rintro rfl h; simp [h]
  · rintro rfl; simp

/-! ### Verification of the image (R804, R810) -/

theorem imagePhase_verified {s : State} (h : imageCheck s (slotImage s s.boot.bootRec.running) = 0) : imagePhase s = s := if_pos h

/-- With no image that verifies and no other slot confirmed, no slot boots. -/
theorem imagePhase_none {s : State} (hbad : imageCheck s (slotImage s s.boot.bootRec.running) ≠ 0)
    (hother : slotState s.boot.bootRec (!s.boot.bootRec.running) ≠ .confirmed) : ∃ u, imagePhase s = noImage u := by
  unfold imagePhase
  dsimp only
  rw [if_neg hbad, if_neg (fun h => hother h.1)]
  exact ⟨_, rfl⟩

theorem trialTimer_frame (s : State) : ∃ at', trialTimer s = { s with boot.trialAt := at' } := by
  unfold trialTimer
  split <;> exact ⟨_, rfl⟩

theorem takeLimits_boot (s : State) : (takeLimits s).boot = s.boot := by
  unfold takeLimits
  refine foldl_keeps State.boot (fun _ _ => ?_) _ _
  rfl

theorem takeLimits_pins (s : State) : (takeLimits s).pins = s.pins := by
  unfold takeLimits
  refine foldl_keeps State.pins (fun _ _ => ?_) _ _
  rfl

/-- What phase 2 adds leaves the halt of the boot ROM and the pins. -/
theorem limits_halt (s : State) :
    (takeLimits (trialTimer s)).boot.romHalt = s.boot.romHalt ∧ (takeLimits (trialTimer s)).pins = s.pins := by
  obtain ⟨at', htimer⟩ := trialTimer_frame s
  rw [takeLimits_boot, takeLimits_pins, htimer]
  exact ⟨rfl, rfl⟩

/-- Settles O56: the phases, the verification of the image, and the copies of a record. -/
theorem bootPhasesAndRecords : Obligations.BootPhasesAndRecords := by
  refine ⟨fun s phase ms r hruns => ?_, fun s r => ?_, fun s kind d rest hqueue htrips hconfig => ?_,
    fun s kind copy rest hqueue => ⟨congrArg Host.Outcome.next (eraseDone_front hqueue), by simp [eraseCopy]⟩⟩
  · have hexec : exec (.bootPhaseEnd phase ms r) s = .next (nextPhase phase (phaseDone phase ms r s)) :=
      congrArg Host.Outcome.next (phaseStep_runs hruns ms r)
    rw [hexec]
    refine ⟨fun h => congrArg Host.Outcome.next (nextPhase_halted phase h), fun hrom hhalted => ?_⟩
    obtain ⟨hearly, hseven5, hfive, hseven6, hsix, hready⟩ := nextPhase_goesOn phase hrom hhalted
    exact ⟨fun h => congrArg Host.Outcome.next (hearly h), fun h k => congrArg Host.Outcome.next (hseven5 h k),
      fun h k => congrArg Host.Outcome.next (hfive h k), fun h k => congrArg Host.Outcome.next (hseven6 h k),
      fun h k => congrArg Host.Outcome.next (hsix h k), fun h => congrArg Host.Outcome.next (hready h)⟩
  · have hwork : phaseWork 2 r s = takeLimits (trialTimer (imagePhase s)) := rfl
    rw [hwork]
    split
    case isTrue hgood => rw [imagePhase_verified hgood]
    case isFalse hbad =>
      intro hother
      obtain ⟨u, hnone⟩ := imagePhase_none hbad hother
      obtain ⟨hrom, hpins⟩ := limits_halt (noImage u)
      rw [hnone]
      exact ⟨hrom, by rw [hpins]; rfl⟩
  · have hstored := storeRecord_record kind d s
    refine ⟨congrArg Host.Outcome.next (writeDone_front hqueue htrips hconfig), rfl, by rw [hstored], ?_, winner_ne_writeCopy _⟩
    rw [hstored]
    exact copyState_setCopy _ _ _

end Sys2Proof.Machine
end

section
/-!
SUPPORT. The module at reset: what it holds before anything is sent to it (R346, R507, R827, R870).
-/

namespace Sys2Proof.Machine
open Sys2Proof.Safety

/-- With no version of any page, every committed byte is 0 (R507). -/
theorem committedByte_no_versions {s : State} (hbase : s.mem.base = []) (hshadows : s.mem.shadows = []) (a : Nat) :
    committedByte s a = 0 := by
  simp [committedByte, committedCells, foldedCells, byTag, hbase, hshadows, Tab.getD]

/-- Settles O5: every table is empty at reset, so a page has no version. -/
theorem resetLeavesAnEmptyModule : Obligations.ResetLeavesAnEmptyModule := by
  unfold Obligations.ResetLeavesAnEmptyModule
  exact ⟨rfl, rfl, rfl, rfl, rfl, rfl, rfl, rfl, rfl, rfl, rfl, rfl, committedByte_no_versions rfl rfl, fun _ => rfl, rfl, rfl, rfl,
    Nat.zero_le 32, blown_refl _⟩

end Sys2Proof.Machine
end

section
/-!
SUPPORT. Mail on buffers and reads of chapter 13: the bodies of BUF_CREATE, BUF_FREE, MEM_READ and RBUF_CREATE, and the end of the
work that RBUF_CREATE begins (R383, R386, R506 to R508, R642 to R645).
-/

namespace Sys2Proof.Machine
open Sys2Proof.Safety

/-! ### The bodies of the messages -/

theorem mailBufCreate_fits {src : MailSrc} {corr h base : Nat} {m : Bytes} {s t : State}
    (hfits : createBuffer (leField m 8 8) none s = .inr (h, base, t)) :
    mailBufCreate src corr m s = answer src 0x10 corr St.ok (leBytes 4 h ++ leBytes 4 0 ++ leBytes 8 base) t := by
  simp only [mailBufCreate, hfits]

theorem dropMail_bufOf (src : MailSrc) (m : Bytes) (s : State) (h : Nat) : bufOf (dropMail src m s) h = bufOf s h := by
  simp only [bufOf, dropMail_mem]

theorem dropMail_bufferBusy (src : MailSrc) (m : Bytes) (s : State) (h : Nat) (b : Buffer) :
    bufferBusy (dropMail src m s) h b = bufferBusy s h b := by
  simp only [bufferBusy, dropMail_work, dropMail_barges]

theorem mailBufFree_unnamed {src : MailSrc} {corr : Nat} {m : Bytes} {s : State} {b : Buffer} (hb : bufOf s (leField m 8 4) = some b)
    (hfree : bufferBusy s (leField m 8 4) b = false) :
    mailBufFree src corr m s = answer src 0x11 corr St.ok [] (freeBuffer (leField m 8 4) b s) := by
  simp only [mailBufFree, hb, hfree, Bool.false_eq_true, if_false]

/-- A MEM_READ of a range that may be read, after its parity has been looked at (R383, R386, R645). -/
theorem mailMemRead_buffer {src : MailSrc} {corr : Nat} {m : Bytes} {s : State} {b : Buffer}
    (hb : mailBuffer (sourceErrors (leField m 8 4) (leField m 0x10 8) (leField m 0x18 4) s) (leField m 8 4) (leField m 0x10 8)
      (leField m 0x18 4) true = .inr b) :
    let u := sourceErrors (leField m 8 4) (leField m 0x10 8) (leField m 0x18 4) s
    let a := bufBase b + leField m 0x10 8
    (leField m 0x0C 4 = 0 → mailMemRead src corr m s = answer src 0x13 corr St.ok
      (leBytes 8 u.pound.committed ++ leBytes 4 (leField m 0x18 4) ++ leBytes 4 0 ++ committedRead u a (leField m 0x18 4)) u) ∧
    (leField m 0x0C 4 = 1 → mailMemRead src corr m s = answer src 0x13 corr St.ok
      (leBytes 8 0 ++ leBytes 4 (leField m 0x18 4) ++ leBytes 4 0 ++ (liveRead a (leField m 0x18 4) u).1)
      (liveRead a (leField m 0x18 4) u).2) := by
  constructor <;> intro hmode <;> simp [mailMemRead, hb, orRefuse, hmode]

theorem mailRbufCreate_asks {src : MailSrc} {corr c : Nat} {m : Bytes} {s : State} (hc : rbufCheck s m = .inr c) :
    mailRbufCreate src corr m s = torusSend (.ask c (leField m 0x0C 4) (leField m 0x10 8))
      (addJob (.rbuf c (leField m 0x0C 4) (leField m 0x10 8) (leField m 0x18 2) 0) src 0x12 corr s) := by
  simp only [mailRbufCreate, hc, orRefuse]

/-! ### Messages that wait -/

/-- A MEM_READ whose bytes no path reaches stays where it is (R27). -/
theorem memReadStep_waits {s : State} {src : MailSrc} {m : Bytes} (hacc : Accepted s src 0x13 m)
    (hwaits : memReadReady src s m = false) : mailStepSel src 0x13 (memReadReady src s) (mailMemRead src) s = s :=
  mailStepSel_none _ _ fun _ hoff => Option.some.inj (hacc.1.1.symm.trans hoff.1) ▸ hwaits

/-! ### The end of the work (R644) -/

section
variable {s t : State} {job : Nat} {j : Job} {c h size p b base : Nat} (hjob : Tab.find? job s.work.jobs = some j)
  (hkind : j.kind = .rbuf c h size p b)
include hjob hkind

theorem rbufAnswer_confirmed {hd bs : Nat} (hfits : createBuffer size (some (c, h, base, p)) s = .inr (hd, bs, t)) :
    rbufAnswer job true base s = endJob job St.ok (leBytes 4 hd ++ leBytes 4 0 ++ leBytes 8 bs) t := by
  simp [rbufAnswer, hjob, hkind, hfits]

theorem rbufAnswer_refused : rbufAnswer job false base s = endJob job St.bufferHandle [] s := by
  simp [rbufAnswer, hjob, hkind]

theorem rbufTimeout_over (hlate : j.since + 2 ^ 15 ≤ s.ft) : rbufTimeout job s = endJob job St.torusUnreachable [] s := by
  obtain ⟨⟩ := j
  cases hkind
  simp only [rbufTimeout, hjob]
  exact if_pos hlate

end

/-- Settles O9: the mail step runs the body of each message, and the answer or its absence ends the job that RBUF_CREATE kept. -/
theorem bufferAndReadMail : Obligations.BufferAndReadMail := by
  unfold Obligations.BufferAndReadMail
  refine ⟨?create, ?free, ?waits, ?read, ?remote, ?confirmed, ?refused, ?timeout⟩
  case create => exact fun src m s h base t hacc hfits => next_mailStep hacc (mailBufCreate_fits hfits)
  case free =>
    exact fun src m s b hacc hb hfree =>
      next_mailStep hacc (mailBufFree_unnamed (by rw [dropMail_bufOf, hb]) (by rw [dropMail_bufferBusy, hfree]))
  case waits => exact fun src m s hacc hwaits => congrArg Host.Outcome.next (memReadStep_waits hacc hwaits)
  case read =>
    exact fun src m s b hacc hready hb =>
      ⟨fun hmode => next_mailStepSel hacc hready ((mailMemRead_buffer hb).1 hmode),
        fun hmode => next_mailStepSel hacc hready ((mailMemRead_buffer hb).2 hmode)⟩
  case remote => exact fun src m s c hacc hc => next_mailStep hacc (mailRbufCreate_asks hc)
  case confirmed =>
    exact fun s job j c h size p b base hd bs t hjob hkind hfits =>
      congrArg Host.Outcome.next (rbufAnswer_confirmed hjob hkind hfits)
  case refused => exact fun s job base j c h size p b hjob hkind => congrArg Host.Outcome.next (rbufAnswer_refused hjob hkind)
  case timeout =>
    exact fun s job j c h size p b hjob hkind hlate => congrArg Host.Outcome.next (rbufTimeout_over hjob hkind hlate)

end Sys2Proof.Machine
end

section
/-!
SUPPORT. Tables changed value by value, and what a fold over a list of keys brings about at each of them.
-/

namespace Sys2Proof.Machine

theorem find?_mapVals {α β : Type} (f : Nat → α → β) (k : Nat) (t : Tab α) : Tab.find? k (Tab.mapVals f t) = (Tab.find? k t).map (f k) := by
  induction t with
  | nil => rfl
  | cons p t ih =>
    simp only [Tab.mapVals, List.map_cons, Tab.find?]
    split
    case isTrue he => rw [eq_of_beq he]; rfl
    case isFalse => exact ih

/-- A table whose values at a list of keys are changed, each once. -/
theorem getD_foldl_change {α : Type} (d : α) (g : Nat → α → α) {l : List Nat} (hl : l.Nodup) (t : Tab α) (k : Nat) :
    Tab.getD d k (l.foldl (fun t r => Tab.put r (g r (Tab.getD d r t)) t) t) =
      if k ∈ l then g k (Tab.getD d k t) else Tab.getD d k t := by
  induction l generalizing t with
  | nil => rfl
  | cons r l ih =>
    obtain ⟨hr, hl⟩ := List.nodup_cons.mp hl
    rw [List.foldl_cons, ih hl]
    by_cases hk : k = r
    · subst hk
      simp [hr]
    · simp [hk, Tab.getD_put_ne d r k _ t hk]

/-- What the step of one element brings about, and every step keeps, holds after the fold. -/
theorem foldl_establishes {α β : Type} {P : β → Prop} {f : β → α → β} {x : α} {l : List α} (hx : x ∈ l) (hset : ∀ s, P (f s x))
    (hkeep : ∀ s, ∀ y ∈ l, P s → P (f s y)) (s : β) : P (l.foldl f s) := by
  induction l generalizing s with
  | nil => cases hx
  | cons y l ih =>
    have hrest : ∀ s, ∀ z ∈ l, P s → P (f s z) := fun s z hz => hkeep s z (List.mem_cons_of_mem y hz)
    rcases List.mem_cons.mp hx with rfl | hmem
    · exact List.foldlRecOn l f (hset s) fun s hs z hz => hrest s z hz hs
    · exact ih hmem hrest _

end Sys2Proof.Machine
end

section
/-!
SUPPORT. What sending, stamping and logging leave alone: everything but the issuers, the log, what leaves by Ethernet and over the
torus, the base's links and waiting packets, and the writes under way (R317, R361, R398, R536, R564, R565, R826).
-/

namespace Sys2Proof.Machine

/-- The module without what sending, stamping and logging change. -/
def State.atRest (s : State) : State :=
  { s with
    freeCtr := 0, time := {}, log := {}, net := {}, base := {}
    mem.writes := [], mem.writeNo := 0, mem.berths := []
    torus.out := [], torus.notices := [], torus.noticeNo := 0, torus.seen := [], torus.passages := [] }

theorem pound_of_rest {s t : State} (h : t.atRest = s.atRest) : t.pound = s.pound := congrArg (fun s => s.pound) h

/-- The pound machine, and the versions of device memory's pages. -/
def State.versions (s : State) : PoundState × List Shadow × Tab Byte := (s.pound, s.mem.shadows, s.mem.base)

theorem shadows_of_versions {s t : State} (h : t.versions = s.versions) : t.mem.shadows = s.mem.shadows :=
  congrArg (fun x => x.2.1) h

theorem versions_of_rest {s t : State} (h : t.atRest = s.atRest) : t.versions = s.versions :=
  congrArg (fun s => (s.pound, s.mem.shadows, s.mem.base)) h

/-! ### Stamps and events -/

@[simp] theorem issueStamp_rest (b : Nat) (h : HeldStamp) (s : State) : (issueStamp b h s).2.atRest = s.atRest := by
  obtain ⟨t, ht, -⟩ := issueStamp_time b h s
  rw [ht]
  rfl

@[simp] theorem logEventR_rest (r : Bool) (code : Nat) (args : Bytes) (s : State) : (logEventR r code args s).atRest = s.atRest := by
  obtain ⟨_, _, _, _, h⟩ := logEventR_frame r code args s
  rw [h]
  rfl

@[simp] theorem logEvent_rest (code : Nat) (args : Bytes) (s : State) : (logEvent code args s).atRest = s.atRest :=
  logEventR_rest false code args s

@[simp] theorem stampWrite_rest (id : Nat) (s : State) : (stampWrite id s).atRest = s.atRest := by
  unfold stampWrite
  split
  case h_1 => rfl
  case h_2 w hw =>
    dsimp only
    split
    case isFalse => rfl
    case isTrue =>
      split
      case isTrue => rfl
      case isFalse => split <;> exact issueStamp_rest _ _ s

/-! ### Packets that wait in a berth -/

@[simp] theorem grantStamp_rest (o : Owner) (s : State) : (grantStamp o s).atRest = s.atRest := by
  cases o with
  | write id => exact stampWrite_rest id s
  | msg id => rfl
  | part m gen order => rfl
  | none => rfl

@[simp] theorem installPort_rest (b dest : Nat) (s : State) : (installPort b dest s).atRest = s.atRest := by
  unfold installPort
  split
  case isTrue => rfl
  case isFalse => split <;> rfl

theorem admitList_rest (b : Nat) (l : List BerthWait) (held : List Nat) (s : State) :
    (admitList b l held s).2.atRest = s.atRest := by
  induction l generalizing held s with
  | nil => rfl
  | cons w l ih =>
    unfold admitList
    dsimp only
    split
    case isTrue => exact ih held s
    case isFalse =>
      split
      case isTrue => exact ih held s
      case isFalse =>
        split
        case h_1 t => exact (ih held _).trans (grantStamp_rest w.tx.owner s)
        case h_2 => exact (ih _ _).trans (installPort_rest b _ s)

@[simp] theorem enterBerth_rest (b : Nat) (port : Option Nat) (l : List TxPacket) (s : State) :
    (enterBerth b port l s).atRest = s.atRest :=
  admitList_rest _ _ _ _

@[simp] theorem sendWrite_rest (w : WriteReq) (s : State) : (sendWrite w s).atRest = s.atRest := by
  unfold sendWrite
  split
  case isTrue => exact stampWrite_rest _ _
  case isFalse => exact enterBerth_rest _ _ _ _

@[simp] theorem sendWrites_rest (berth a : Nat) (d : Bytes) (orig : WriteFrom) (s : State) :
    (sendWrites berth a d orig s).atRest = s.atRest :=
  foldl_keeps State.atRest (fun u _ => sendWrite_rest _ u) _ _

@[simp] theorem stampedWrite_rest (berth stamp a : Nat) (d : Bytes) (orig : WriteFrom) (s : State) :
    (stampedWrite berth stamp a d orig s).atRest = s.atRest := by
  refine foldl_keeps State.atRest (fun u c => ?_) _ _
  exact sendWrite_rest _ (countIssued _ _ u)

/-! ### Notices -/

@[simp] theorem sendNeighbour_rest (d no : Nat) (s : State) : (sendNeighbour d no s).atRest = s.atRest := enterBerth_rest _ _ _ s

@[simp] theorem sendControl_rest (kind no coord : Nat) (s : State) : (sendControl kind no coord s).atRest = s.atRest := by
  unfold sendControl sendTorusPacket
  dsimp only
  split
  case h_1 => exact enterBerth_rest _ _ _ s
  case h_2 => rfl

@[simp] theorem announce_rest (n : Notice) (s : State) : (announce n s).atRest = s.atRest := by
  unfold announce floodNotice
  exact (foldl_keeps State.atRest (fun u d => sendNeighbour_rest d _ (torusSend _ u)) _ _).trans rfl

@[simp] theorem sendNotice_rest (n : SentNotice) (s : State) : (sendNotice n s).atRest = s.atRest := by
  unfold sendNotice routeNotice
  dsimp only
  split
  case h_1 =>
    split
    case isTrue => rfl
    case isFalse => exact sendControl_rest _ _ _ _
  case h_2 => rfl

/-! ### Passages at a cut (R556, R658) -/

theorem passagesAtCut_rest (s : State) : (passagesAtCut s).atRest = s.atRest := by
  refine foldl_keeps State.atRest (fun u x => ?_) _ _
  dsimp only
  split
  case isTrue => rfl
  case isFalse =>
    split
    case isTrue => rfl
    case isFalse =>
      split
      case isTrue => rfl
      case isFalse => split <;> rfl

end Sys2Proof.Machine
end

section
/-!
SUPPORT. What cuts named, tasks and graphs that end, reports and replies leave alone: light, power, the lockkeepers, flash, boot, the
pins, and of the pound machine all but the cuts and triggers that wait, the pool's mark, the task set and the stamp of the last commit
(R265, R276, R289, R295, R347, R355, R388, R561).
-/

namespace Sys2Proof.Machine

/-- The module without what cuts named, tasks that end and replies change. -/
def State.course (s : State) : State :=
  { s with
    freeCtr := 0, time := {}, log := {}, net := {}, mem := {}, work := {}, stk := {}, base := {}, torus := {}, sec := {}
    pound.cutAt := none, pound.cutCause := none, pound.cutSerial := none, pound.nextCut := none, pound.nextJoin := none
    pound.poolHigh := false, pound.taskSet := [], pound.kstamp := 0 }

theorem course_of_rest {s t : State} (h : t.atRest = s.atRest) : t.course = s.course := (congrArg State.course h :)

/-- The module without what sending, replies and links that change state alter: the dies, light, power, flash, boot, the pins and the
pound machine are left. -/
def State.plant (s : State) : State :=
  { s with freeCtr := 0, time := {}, log := {}, net := {}, mem := {}, work := {}, base := {}, torus := {}, sec := {} }

theorem plant_of_rest {s t : State} (h : t.atRest = s.atRest) : t.plant = s.plant := (congrArg State.plant h :)

theorem course_of_plant {s t : State} (h : t.plant = s.plant) : t.course = s.course := (congrArg State.course h :)

theorem foldl_course {α : Type} {f : State → α → State} (h : ∀ s x, (f s x).course = s.course) (l : List α) (s : State) :
    (l.foldl f s).course = s.course :=
  foldl_keeps State.course h l s

/-! ### Cuts named (R347, R355, R388, R561) -/

theorem recount_course (was s : State) : (recount was s).course = s.course := by
  refine Eq.trans (b := (List.foldl _ s s.mem.writes).course) rfl (foldl_course (fun u w => ?_) _ _)
  dsimp only
  split
  case h_1 => rfl
  case h_2 => split <;> rfl

@[simp] theorem nameCut_course (c : Nat) (cause : Trigger) (s : State) : (nameCut c cause s).course = s.course := by
  unfold nameCut
  split
  case isFalse => rfl
  case isTrue =>
    split
    case h_1 => split <;> rfl
    case h_2 =>
      split
      case isTrue => rfl
      case isFalse => exact (recount_course _ _).trans rfl

@[simp] theorem joinCut_course (c serial : Nat) (cause : Trigger) (s : State) : (joinCut c serial cause s).course = s.course := by
  unfold joinCut
  generalize (cutInForce s).or _ = bound
  dsimp only
  split
  case isTrue => exact (recount_course _ _).trans rfl
  case isFalse => rfl

@[simp] theorem takeCut_course (c : Nat) (serial : Option Nat) (cause : Trigger) (s : State) :
    (takeCut c serial cause s).course = s.course := by
  unfold takeCut
  split
  case isTrue => rfl
  case isFalse =>
    dsimp only
    split
    case h_1 => exact joinCut_course _ _ _ _
    case h_2 => exact nameCut_course _ _ _

@[simp] theorem answerJoiners_course (c serial : Nat) (s : State) : (answerJoiners c serial s).course = s.course := by
  refine foldl_course (fun u j => ?_) _ _
  split <;> rfl

@[simp] theorem joinSerial_course (s : State) : (joinSerial s).2.course = s.course := by
  unfold joinSerial
  cases inStepNow s <;> rfl

@[simp] theorem nameMasterCut_course (issued : Nat) (cause : Trigger) (s : State) : (nameMasterCut issued cause s).course = s.course := by
  unfold nameMasterCut
  dsimp only
  split
  case isTrue => rfl
  case isFalse =>
    split
    case isTrue =>
      exact (course_of_rest (announce_rest _ _)).trans
        ((takeCut_course _ _ _ _).trans ((answerJoiners_course _ _ _).trans (joinSerial_course (masterCut issued s).2)))
    case isFalse =>
      exact (course_of_rest (announce_rest _ _)).trans
        ((takeCut_course _ _ _ _).trans (answerJoiners_course _ _ (masterCut issued s).2))

@[simp] theorem askClose_course (c : Nat) (cause : Trigger) (s : State) : (askClose c cause s).course = s.course := by
  unfold askClose
  split
  case isTrue => rfl
  case isFalse =>
    split
    case isFalse => exact nameCut_course _ _ _
    case isTrue =>
      split
      case isTrue => exact nameMasterCut_course _ _ _
      case isFalse => exact course_of_rest (sendNotice_rest _ _)

@[simp] theorem poolTrigger_course (s : State) : (poolTrigger s).course = s.course := by
  unfold poolTrigger
  split
  case isTrue => exact askClose_course _ _ _
  case isFalse => rfl

@[simp] theorem takeNextJoin_course (opens c serial : Nat) (s : State) : (takeNextJoin opens c serial s).course = s.course := by
  unfold takeNextJoin
  split
  case isTrue => rfl
  case isFalse => exact joinCut_course _ _ _ _

@[simp] theorem takeNextCut_course (opens : Nat) (s : State) : (takeNextCut opens s).course = s.course := by
  have hcut : ∀ u : State, (match u.pound.nextCut with
      | some c => nameCut (max c.1 (opens + 1)) c.2 { u with pound.nextCut := none }
      | none => u).course = u.course := by
    intro u
    split
    case h_1 => exact nameCut_course _ _ _
    case h_2 => rfl
  unfold takeNextCut
  dsimp only
  split
  case h_1 => exact (takeNextJoin_course _ _ _ _).trans (hcut s)
  case h_2 => exact hcut s

/-! ### Replies, reports and barges that end -/

theorem sendReply_plant (src : MailSrc) (handle : Nat) (body : Bytes) (s : State) : (sendReply src handle body s).plant = s.plant := by
  cases src with
  | jtag => rfl
  | session i =>
    unfold sendReply
    dsimp only
    split <;> rfl

theorem endJob_plant (n status : Nat) (extra : Bytes) (s : State) : (endJob n status extra s).plant = s.plant := by
  unfold endJob
  split
  case h_1 => rfl
  case h_2 => exact sendReply_plant _ _ _ _

theorem endJob_course (n status : Nat) (extra : Bytes) (s : State) : (endJob n status extra s).course = s.course :=
  course_of_plant (endJob_plant n status extra s)

/-- Frames released and page tables written touch device memory alone, and neither its shadows nor its folded versions. -/
def State.unpaged (s : State) : State × List Shadow × Tab Byte := ({ s with mem := {} }, s.mem.shadows, s.mem.base)

theorem releaseFrames_unpaged (l : List Nat) (s : State) : (releaseFrames l s).unpaged = s.unpaged := by
  refine foldl_keeps State.unpaged (fun u f => ?_) _ _
  split
  case h_1 => unfold retireFrame; split <;> rfl
  case h_2 => rfl

theorem tablesUpdate_unpaged (s : State) : (tablesUpdate s).unpaged = s.unpaged :=
  foldl_keeps State.unpaged (f := fun s k => tableUpdate k s) (fun _ _ => rfl) _ _

theorem versions_of_unpaged {s t : State} (h : t.unpaged = s.unpaged) : t.versions = s.versions :=
  congrArg (fun x => (x.1.pound, x.2.1, x.2.2)) h

theorem course_of_unpaged {s t : State} (h : t.unpaged = s.unpaged) : t.course = s.course :=
  (congrArg (fun x => x.1.course) h :)

/-- Frames that go back, or none. -/
theorem framesBack_unpaged (l : List Nat) (s : State) :
    (if l = [] then s else tablesUpdate (releaseFrames l s)).unpaged = s.unpaged := by
  split
  case isTrue => rfl
  case isFalse => exact (tablesUpdate_unpaged _).trans (releaseFrames_unpaged _ _)

theorem releasePins_course (o : PinOwner) (s : State) : (releasePins o s).course = s.course := by
  unfold releasePins
  dsimp only
  split
  case isTrue => rfl
  case isFalse => exact course_of_unpaged ((tablesUpdate_unpaged _).trans (releaseFrames_unpaged _ _))

theorem endBarge_course (n status : Nat) (s : State) : (endBarge n status s).course = s.course := by
  unfold endBarge
  split
  case h_1 => rfl
  case h_2 =>
    dsimp only
    split <;> exact releasePins_course _ _

theorem endBarges_course (p : Barge → Bool) (status : Nat) (s : State) : (endBarges p status s).course = s.course :=
  foldl_course (f := fun s (x : Nat × Barge) => endBarge x.1 status s) (fun u x => endBarge_course x.1 status u) _ _

/-- A graph reported leaves the task set of a close, too. -/
theorem reportGraph_course (slot serial : Nat) (s : State) : ∃ q, (reportGraph slot serial s).course =
    { s.course with pound.closingSet := s.pound.closingSet.filter q } := by
  have hlog : ∀ a, (logEvent Ev.graphDone a s).course = s.course := fun a => course_of_rest (logEvent_rest _ _ _)
  unfold reportGraph
  split
  case h_1 => exact ⟨fun _ => true, by rw [List.filter_true]; rfl⟩
  case h_2 g hg =>
    refine ⟨fun p => p.1 ≠ slot, (releasePins_course _ _).trans ((course_of_unpaged (framesBack_unpaged _ _)).trans ?_)⟩
    have hset : ∀ a, (logEvent Ev.graphDone a s).pound.closingSet = s.pound.closingSet := fun a =>
      congrArg (fun p => p.closingSet) (pound_of_rest (logEvent_rest _ _ _))
    have hlaid : ∀ u : State, u.course = s.course → u.pound.closingSet = s.pound.closingSet →
        ({ u with
          work.graphs := Tab.del slot u.work.graphs, mem.preImages := u.mem.preImages.filter fun p => p.slot ≠ slot
          pound.taskSet := u.pound.taskSet.filter fun p => p.1 ≠ slot
          pound.closingSet := u.pound.closingSet.filter fun p => p.1 ≠ slot } : State).course =
        { s.course with pound.closingSet := s.pound.closingSet.filter fun p => p.1 ≠ slot } := by
      intro u hu hsets
      rw [← hu, ← hsets]
      rfl
    dsimp only
    split
    case h_2 => exact hlaid _ (hlog _) (hset _)
    case h_1 =>
      split
      case isTrue => exact hlaid (queueMail _ _ _ _) (hlog _) (hset _)
      case isFalse => exact hlaid _ (hlog _) (hset _)

/-! ### Tasks that end (R265, R273, R276, R289, R290, R295) -/

theorem closeEntry_frame (k : Nat × Nat × Nat) (e : BasinEntry) (s : State) : ∃ ba, closeEntry k e s = { s with base := ba } := by
  unfold closeEntry
  dsimp only
  split
  case h_1 =>
    unfold backTo
    split <;> exact ⟨_, rfl⟩
  case h_2 => exact ⟨_, rfl⟩

/-- Reduction groups that go back touch the stacks and the base alone. -/
theorem freeGroupsOf_blind {α : Type} (f : State → α) (hf : ∀ (s : State) st ba, f { s with stk := st, base := ba } = f s) (t : Task)
    (s : State) : f (freeGroupsOf t s) = f s := by
  refine (foldl_keeps f (fun u e => ?_) _ _).trans (hf s _ _)
  obtain ⟨ba, hu⟩ := closeEntry_frame e.1 e.2 u
  rw [hu]
  exact hf u _ _

theorem freeGroupsOf_course (t : Task) (s : State) : (freeGroupsOf t s).course = s.course :=
  freeGroupsOf_blind State.course (fun _ _ _ => rfl) t s

theorem freeGroupsOf_versions (t : Task) (s : State) : (freeGroupsOf t s).versions = s.versions :=
  freeGroupsOf_blind State.versions (fun _ _ _ => rfl) t s

theorem returnParked_course (slot task : Nat) (s : State) : (returnParked slot task s).course = s.course :=
  foldl_course (f := fun s (p : Nat × Msg) => returnMsg p.1 p.2 s) (fun _ _ => rfl) _ _

theorem recordEnd_course (slot task stamp : Nat) (s : State) : (recordEnd slot task stamp s).course = s.course := by
  have hwrite : ∀ a d u, (stampedWrite 30 stamp a d .other u).course = u.course := fun a d u =>
    course_of_rest (stampedWrite_rest _ _ _ _ _ _)
  have hlog : ∀ a u, (logEvent Ev.taskError a u).course = u.course := fun a u => course_of_rest (logEvent_rest _ _ _)
  unfold recordEnd
  split
  case h_2 => rfl
  case h_1 =>
    dsimp only
    split
    case h_1 =>
      refine (hwrite _ _ _).trans ?_
      split
      case isTrue => exact hlog _ _
      case isFalse => rfl
    case h_2 =>
      split
      case isTrue => exact hlog _ _
      case isFalse => rfl

@[simp] theorem endTask_course (slot task status : Nat) (s : State) : (endTask slot task status s).course = s.course := by
  unfold endTask
  split
  case h_1 => rfl
  case h_2 t ht =>
    have hasked : ∀ u : State, (issueStamp 30 (.taskEnd slot task) (returnParked slot task u)).2.course = u.course := fun u =>
      (course_of_rest (issueStamp_rest _ _ _)).trans (returnParked_course _ _ _)
    have hgroups : (freeGroupsOf t s).course = s.course := freeGroupsOf_course _ _
    dsimp only
    split
    case h_1 st u hu =>
      exact (poolTrigger_course _).trans ((recordEnd_course _ _ _ _).trans
        (((congrArg (fun x => x.2.course) hu).symm.trans (hasked _)).trans hgroups))
    case h_2 u hu =>
      exact (poolTrigger_course _).trans (((congrArg (fun x => x.2.course) hu).symm.trans (hasked _)).trans hgroups)

@[simp] theorem skipAll_course (fuel : Nat) (s : State) : (skipAll fuel s).course = s.course := by
  induction fuel generalizing s with
  | zero => rfl
  | succ fuel ih =>
    unfold skipAll
    split
    case h_1 => rfl
    case h_2 => exact (ih _).trans (endTask_course _ _ _ _)

@[simp] theorem graphEnd_course (slot : Nat) (s : State) : (graphEnd slot s).course = s.course := by
  unfold graphEnd
  split
  case h_1 => rfl
  case h_2 =>
    split
    case isTrue => rfl
    case isFalse => exact askClose_course _ _ _

theorem markReady_course (s : State) : (markReady s).course = s.course := by
  refine foldl_course (fun u x => ?_) _ _
  split <;> rfl

theorem settle_course (s : State) : (settle s).course = s.course :=
  (markReady_course _).trans ((foldl_course (fun u g => graphEnd_course g u) _ _).trans (skipAll_course _ _))

end Sys2Proof.Machine
end

section
/-!
SUPPORT. What links that change state, passages lost, replies, tasks and graphs ended at once, and light that fails leave alone
(R416, R455, R467, R469, R558, R572, R621).
-/

namespace Sys2Proof.Machine

theorem foldl_plant {α : Type} {f : State → α → State} (h : ∀ s x, (f s x).plant = s.plant) (l : List α) (s : State) :
    (l.foldl f s).plant = s.plant :=
  foldl_keeps State.plant h l s

theorem logEvent_plant (code : Nat) (args : Bytes) (s : State) : (logEvent code args s).plant = s.plant :=
  plant_of_rest (logEvent_rest code args s)

theorem setTimeMode_plant (mode : Nat) (s : State) : (setTimeMode mode s).plant = s.plant := by
  unfold setTimeMode
  split
  case isTrue => rfl
  case isFalse => exact logEvent_plant _ _ _

theorem reselect_plant (s : State) : (reselect s).plant = s.plant := by
  unfold reselect
  dsimp only
  split
  case isTrue => rfl
  case isFalse => exact setTimeMode_plant _ _

/-! ### Links that change state, and the passages and ports they carry (R416, R558, R572) -/

theorem losePassage_plant (id : Nat) (s : State) : (losePassage id s).plant = s.plant := by
  unfold losePassage
  split
  case h_1 => rfl
  case h_2 =>
    dsimp only
    exact (foldl_plant (f := fun s (j : Nat × Job) => endJob j.1 St.torusUnreachable [] s) (fun u j => endJob_plant _ _ _ u) _ _).trans
      (logEvent_plant _ _ _)

theorem losePassages_plant (f : Passage → Bool) (s : State) : (losePassages f s).plant = s.plant :=
  foldl_plant (f := fun s (x : Nat × Passage) => losePassage x.1 s) (fun u x => losePassage_plant x.1 u) _ _

theorem announce_plant (n : Notice) (s : State) : (announce n s).plant = s.plant := plant_of_rest (announce_rest n s)

theorem portsDown_plant (was : List Nat) (s : State) : (portsDown was s).plant = s.plant := by
  unfold portsDown
  refine foldl_plant (fun u d => ?_) _ _
  rw [announce_plant, logEvent_plant]
  rfl

theorem setLinks_plant (links : List Nat) (st : Nat) (s : State) : (setLinks links st s).plant = s.plant := by
  have hset : ∀ u : State, (links.foldl (fun s l => s.updLink l fun x => { x with state := st }) u).plant = u.plant :=
    foldl_plant (f := fun (s : State) l => s.updLink l fun x => { x with state := st }) (fun _ _ => rfl) links
  have hports : ∀ (u : State) (l : List Nat), (l.foldl (fun s d => announce (.linkState s.torus.coord d true)
      { s with torus.linkDown := s.torus.linkDown.erase (coordOf s.torus.coord, d) }) u).plant = u.plant := fun u l =>
    foldl_plant (fun v d => by rw [announce_plant]; rfl) l u
  unfold setLinks
  dsimp only
  rw [reselect_plant, hports, portsDown_plant, losePassages_plant, hset]

end Sys2Proof.Machine
end

section
/-!
SUPPORT. Statements of chapter 7 on the close of a pound: its triggers, the cut, the drain, the verdict and the commit (R355 to R359,
R372, R373, R673).
-/

namespace Sys2Proof.Machine
open Sys2Proof.Safety

/-! ### Triggers (R355, R673) -/

section
variable {s : State} (hopened : s.pound.opened = true) (hcut : s.pound.cutAt = none) (hclosing : s.pound.closing = none)
  (hrecovery : s.pound.recovery = none) (hps : s.power.pstate ≠ 3) (hdue : s.pound.deadline ≤ s.ft)
include hopened hcut hclosing hrecovery hps hdue

theorem deadlineStep_due : deadlineStep s = if s.sec.halted.isSome then askClose s.ft .deadline s
    else { s with pound.cutAt := some s.pound.deadline, pound.cutCause := some .deadline } :=
  if_pos (by simp [hopened, hcut, hclosing, hrecovery, hps, hdue])

theorem deadlineStep_runs (hruns : s.sec.halted = none) :
    deadlineStep s = { s with pound.cutAt := some s.pound.deadline, pound.cutCause := some .deadline } := by
  rw [deadlineStep_due hopened hcut hclosing hrecovery hps hdue, if_neg (by simp [hruns])]

theorem deadlineStep_halted (hhalted : s.sec.halted.isSome = true) :
    deadlineStep s = { s with sec.heldTrigger := s.sec.heldTrigger.or (some .deadline) } := by
  rw [deadlineStep_due hopened hcut hclosing hrecovery hps hdue, if_pos hhalted]
  exact if_pos (by simp [hhalted])

end

theorem thresholdStep_high {s : State} (hopened : s.pound.opened = true) (hhigh : poolHighNow s = true)
    (hlatch : s.pound.poolLatch = false) :
    thresholdStep s = if tasksRun s then { s with pound.poolLatch := true, pound.poolHigh := true }
      else askClose s.ft .pool { s with pound.poolLatch := true } :=
  if_pos (by simp [hopened, hhigh, hlatch])

/-! ### The cut (R357, R372) -/

theorem cutStep_due {s : State} {c : Nat} (hcut : s.pound.cutAt = some c) (hdue : c ≤ s.ft) (hrecovery : s.pound.recovery = none)
    (hclosing : s.pound.closing = none) : (cutStep s).pound = { s.pound with
      closing := some { serial := s.pound.committed + 1, cut := c, commitAs := s.pound.cutSerial }, cutAt := none
      cutSerial := none, closingSet := s.pound.taskSet, taskSet := runningSet s ++ endedAfterCut s, poolHigh := false
      poolLatch := poolHighNow s } := by
  have hrest := passagesAtCut_rest s
  have hpound := pound_of_rest hrest
  have hruns : runningSet (passagesAtCut s) = runningSet s := (congrArg runningSet hrest :)
  have hended : endedAfterCut (passagesAtCut s) = endedAfterCut s := (congrArg endedAfterCut hrest :)
  have hpool : poolHighNow (passagesAtCut s) = poolHighNow s := (congrArg poolHighNow hrest :)
  unfold cutStep
  rw [hcut]
  dsimp only
  rw [if_pos (by simp [hdue, hrecovery, hclosing])]
  dsimp only
  rw [hpound, hruns, hended, hpool]

/-! ### The drain and the verdict (R357, R358, R741) -/

section
variable {s : State} {c : Closing} (hclosing : s.pound.closing = some c)
include hclosing

theorem drainStep_ends (hopen : c.drained = false) (hfrom : c.cut + 32 ≤ s.ft) (hto : s.ft ≤ c.cut + 1024)
    (hcounts : countsMatch s c.serial = true) : drainStep s = { s with pound.closing := some { c with drained := true } } := by
  simp [drainStep, hclosing, hopen, hfrom, hto, hcounts]

theorem drainLateStep_late (hopen : c.drained = false)
    (hlate : c.cut + 1024 < s.ft ∨ (c.cut + 1024 = s.ft ∧ countsMatch s c.serial = false)) (hrecovery : s.pound.recovery = none) :
    drainLateStep s = raiseFault Ev.drainTimeout (leBytes 8 c.serial ++
      leBytes 1 (((List.range 8).find? fun k => unmatched s c.serial k).getD 0)) s := by
  have hover : (decide (c.cut + 1024 < s.ft) || (decide (c.cut + 1024 ≤ s.ft) && !countsMatch s c.serial)) = true := by
    obtain hpast | ⟨hnow, hcounts⟩ := hlate
    · simp [hpast]
    · simp [hnow, hcounts]
  simp only [drainLateStep, hclosing, hopen, hover, hrecovery, Bool.not_false, Bool.true_and, Option.isNone_none, if_true]

theorem verdictStep_due (hdrained : c.drained = true) (hnone : c.verdict = false) (hdue : c.cut + 2300 ≤ s.ft)
    (hrolls : rollsBack s c.serial = false) (htest : s.lk.test = none) (hruns : s.sec.halted = none) (hstands : stranded s = false) :
    verdictStep s = { s with pound.closing := some { c with verdict := true }
                             lk.pause := s.lk.pause.map fun p =>
                               (p.1, p.2.1, p.2.2.1.or (some (c.commitAs.getD c.serial)), some (c.commitAs.getD c.serial)) } := by
  simp [verdictStep, hclosing, hdrained, hnone, hdue, hrolls, htest, hruns, hstands]

end

/-! ### The commit (R357, R359, R373) -/

/-- What the reports and notices of a commit leave of the pound machine: the committed serial, the close, its task set, the last cut
and commit, and whether the open pound is a replay. -/
def State.closed (s : State) : Nat × Option Closing × List (Nat × Nat) × Nat × Nat × Bool :=
  (s.pound.committed, s.pound.closing, s.pound.closingSet, s.pound.lastCut, s.pound.lastK, s.pound.replay)

theorem closed_of_course {s t : State} (h : t.course = s.course) : t.closed = s.closed := (congrArg State.closed h :)

theorem closed_of_rest {s t : State} (h : t.atRest = s.atRest) : t.closed = s.closed := closed_of_course (course_of_rest h)

theorem openNext_closed (k : Nat) (s : State) : (openNext k s).closed = s.closed := by
  unfold openNext
  dsimp only
  split
  case isTrue => rfl
  case isFalse =>
    split
    case isTrue =>
      exact (closed_of_course (nameMasterCut_course _ _ _)).trans ((closed_of_course (takeNextCut_course _ _)).trans rfl)
    case isFalse => exact (closed_of_course (takeNextCut_course _ _)).trans rfl

theorem reportGraph_closed (slot m : Nat) {s : State} (hset : s.pound.closingSet = []) :
    (reportGraph slot m s).closed = s.closed := by
  obtain ⟨q, hq⟩ := reportGraph_course slot m s
  have hnone : s.pound.closingSet.filter q = s.pound.closingSet := by rw [hset, List.filter_nil]
  rw [hnone] at hq
  exact closed_of_course hq

/-- Reports leave a closing set that is empty as it is. -/
theorem reportGraphs_closed (m : Nat) (l : List (Nat × Graph)) {s : State} (hset : s.pound.closingSet = []) :
    (l.foldl (fun s g => reportGraph g.1 m s) s).closed = s.closed := by
  induction l generalizing s with
  | nil => rfl
  | cons g l ih =>
    have hone := reportGraph_closed g.1 m hset
    exact (ih ((congrArg (fun x => x.2.2.1) hone).trans hset)).trans hone

theorem commitReport_closed (m stamp : Nat) {s : State} (hset : s.pound.closingSet = []) :
    (commitReport m stamp s).closed = s.closed := by
  have hlog : ∀ a, (logEvent Ev.poundCommit a s).closed = s.closed := fun a => closed_of_rest (logEvent_rest _ _ _)
  have hreports : ∀ {u : State} (l : List (Nat × Graph)), u.closed = s.closed →
      (l.foldl (fun s g => reportGraph g.1 m s) u).closed = s.closed := fun l hu =>
    (reportGraphs_closed m l ((congrArg (fun x => x.2.2.1) hu).trans hset)).trans hu
  refine hreports _ ?_
  refine (foldl_keeps State.closed (fun u j => ?_) _ _).trans
    ((foldl_keeps State.closed (f := fun s (j : Nat × Job) => endJob j.1 St.ok (leBytes 8 m ++ leBytes 8 stamp) s)
      (fun u j => closed_of_course (endJob_course _ _ _ u)) _ _).trans (hlog _))
  split
  case h_1 => exact closed_of_course (endJob_course _ _ _ _)
  case h_2 => rfl

/-- The reports of a commit, under its stamp. -/
theorem commitReport_at {m stamp n cut k : Nat} {c : Option Closing} {replay : Bool} {s : State}
    (h : s.closed = (n, c, [], cut, k, replay)) :
    (commitReport m stamp { s with pound.kstamp := stamp }).closed = (n, c, [], cut, k, replay) :=
  (commitReport_closed m stamp (congrArg (fun x => x.2.2.1) h)).trans h

/-- The next pound opens, and the commit asks for its stamp. -/
theorem stampOpened_closed (b k : Nat) (h : HeldStamp) (s : State) : (issueStamp b h (openNext k s)).2.closed = s.closed :=
  (closed_of_rest (issueStamp_rest _ _ _)).trans (openNext_closed _ _)

theorem checkpointStep_closed (s : State) : (checkpointStep s).closed = s.closed := rfl

theorem bargesAfter_closed (n m : Nat) (s : State) : (bargesAfter n m s).closed = s.closed :=
  (foldl_keeps State.closed (f := fun s (x : Nat × Barge) => endBarge x.1 St.ok s)
    (fun u _ => closed_of_course (endBarge_course _ _ u)) _ _).trans rfl

theorem torusAfter_closed (n : Nat) (s : State) : (torusAfter n s).closed = s.closed := by
  have hsent := foldl_keeps State.closed
    (f := fun s (x : Nat × Nat) => sendNotice (.commit x.1 x.2 (Tab.getD 0 x.2 s.pound.attempts % 256)) s)
    (fun u x => closed_of_rest (sendNotice_rest _ u)) (sentTo s fun x => x.n ≤ n) s
  exact hsent

theorem joinAfter_closed (c : Closing) (m : Nat) (s : State) : (joinAfter c m s).closed = s.closed := by
  have hstep : (inStepAfter c s).closed = s.closed := by
    unfold inStepAfter
    split
    case h_1 => split <;> rfl
    case h_2 => rfl
  unfold joinAfter
  dsimp only
  split
  case isFalse => exact hstep
  case isTrue =>
    split
    case isTrue => exact (closed_of_rest (logEvent_rest _ _ _)).trans hstep
    case isFalse => exact hstep

theorem haltAfter_closed (s : State) : (haltAfter s).closed = s.closed := by
  unfold haltAfter
  dsimp only
  split
  case isTrue => rfl
  case isFalse => exact (foldl_keeps State.closed (fun u j => closed_of_course (endJob_course _ _ _ u)) _ _).trans rfl

theorem tablesUpdate_pound (s : State) : (tablesUpdate s).pound = s.pound :=
  congrArg Prod.fst (versions_of_unpaged (tablesUpdate_unpaged s))

theorem commitStep_commits {s : State} {c : Closing} (hclosing : s.pound.closing = some c) (hmay : mayCommit s c = true) :
    (commitStep s).closed = (c.commitAs.getD c.serial, none, [], c.cut, c.cut + 2500, false) := by
  unfold commitStep
  rw [hclosing]
  dsimp only
  rw [if_pos hmay]
  refine (haltAfter_closed _).trans ((joinAfter_closed _ _ _).trans ((torusAfter_closed _ _).trans
    ((bargesAfter_closed _ _ _).trans ((checkpointStep_closed _).trans ?_))))
  split
  case h_1 =>
    refine commitReport_at ((stampOpened_closed _ _ _ _).trans ?_)
    simp only [State.closed, tablesUpdate_pound, advance]
  case h_2 =>
    refine (stampOpened_closed _ _ _ _).trans ?_
    simp only [State.closed, tablesUpdate_pound, advance]

/-- Settles O35: each command by the equation above of its step. -/
theorem poundCloses : Obligations.PoundCloses := by
  unfold Obligations.PoundCloses
  refine ⟨?deadline, ?pool, ?cut, ?drain, ?verdict, ?commit⟩
  case deadline =>
    exact fun s hopened hcut hclosing hrecovery hps hdue =>
      ⟨fun hruns => congrArg Host.Outcome.next (deadlineStep_runs hopened hcut hclosing hrecovery hps hdue hruns),
        fun hhalted => congrArg Host.Outcome.next (deadlineStep_halted hopened hcut hclosing hrecovery hps hdue hhalted)⟩
  case pool =>
    exact fun s hopened hhigh hlatch =>
      ⟨fun hrun => congrArg Host.Outcome.next ((thresholdStep_high hopened hhigh hlatch).trans (if_pos hrun)),
        fun hnone => congrArg Host.Outcome.next ((thresholdStep_high hopened hhigh hlatch).trans (if_neg (Bool.eq_false_iff.1 hnone)))⟩
  case cut =>
    exact fun s c hcut hdue hrecovery hclosing => ⟨cutStep s, rfl, cutStep_due hcut hdue hrecovery hclosing⟩
  case drain =>
    exact fun s c hclosing hopen =>
      ⟨fun hfrom hto hcounts => congrArg Host.Outcome.next (drainStep_ends hclosing hopen hfrom hto hcounts),
        fun hlate hrecovery => congrArg Host.Outcome.next (drainLateStep_late hclosing hopen hlate hrecovery)⟩
  case verdict =>
    exact fun s c hclosing hdrained hnone hdue hrolls htest hruns hstands =>
      congrArg Host.Outcome.next (verdictStep_due hclosing hdrained hnone hdue hrolls htest hruns hstands)
  case commit =>
    intro s c hclosing hmay
    obtain ⟨h1, h2, h3, h4, h5, h6⟩ : _ := by simpa [State.closed] using commitStep_commits hclosing hmay
    exact ⟨commitStep s, rfl, h1, h2, h3, h4, h5, h6⟩

end Sys2Proof.Machine
end

section
/-!
PROOF of O36: the steps of a write at its memory berth, one equation for each place where it may end (R362, R364, R371, R396, R498, R548).
-/

namespace Sys2Proof.Machine

section
variable {s : State} {id : Nat} {w : WriteReq} {st : Nat}

/-! ### Arrival -/

/-- A write of this module that has arrived whole, later than its stamp, goes to its memory berth once it is counted where it is late. -/
theorem writeArrival_own (hw : Tab.find? id s.mem.writes = some w) (hst : w.stamp = some st) (hstage : w.stage = .flight)
    (hparts : w.parts = 0) (hown : torusWrite w = false) (hlater : stampInstant s.ft st < s.ft) :
    writeArrival id s = berthArrival id w st (stampInstant s.ft st) (countLate (memBerthOf w.addr) (stampInstant s.ft st) s) := by
  unfold writeArrival
  rw [hw]
  dsimp only
  rw [hst]
  dsimp only
  rw [if_neg (by simp [hstage, hparts, hlater])]
  unfold torusWrite at hown
  split
  case h_1 h => simp [h] at hown
  case h_2 => rfl

theorem writeArrival_torus {sender n attempt first : Nat} (hw : Tab.find? id s.mem.writes = some w) (hst : w.stamp = some st)
    (hstage : w.stage = .flight) (hparts : w.parts = 0) (horig : w.orig = .torus sender n attempt first)
    (hlater : stampInstant s.ft st < s.ft) : writeArrival id s = torusArrival id w sender n attempt first s := by
  unfold writeArrival
  rw [hw]
  dsimp only
  rw [hst]
  dsimp only
  rw [if_neg (by simp [hstage, hparts, hlater]), horig]

/-- The count of late writes changes the counts of the berths alone. -/
theorem countLate_frame (k t : Nat) (s : State) : ∃ l, countLate k t s = { s with mem.berths := l } := by
  unfold countLate
  split
  case isTrue => exact ⟨_, rfl⟩
  case isFalse => exact ⟨s.mem.berths, rfl⟩

@[simp] theorem countLate_pound (k t : Nat) (s : State) : (countLate k t s).pound = s.pound := by
  obtain ⟨_, h⟩ := countLate_frame k t s
  rw [h]

@[simp] theorem countLate_ft (k t : Nat) (s : State) : (countLate k t s).ft = s.ft := by
  obtain ⟨_, h⟩ := countLate_frame k t s
  rw [h]
  rfl

@[simp] theorem serialOfTime_countLate (k t : Nat) (s : State) (t' : Nat) : serialOfTime (countLate k t s) t' = serialOfTime s t' := by
  obtain ⟨_, h⟩ := countLate_frame k t s
  rw [h]
  rfl

@[simp] theorem lostInRecovery_countLate (k t : Nat) (s : State) (n : Nat) : lostInRecovery (countLate k t s) n = lostInRecovery s n := by
  unfold lostInRecovery
  rw [countLate_pound]

@[simp] theorem bufAtPage_countLate (k t : Nat) (s : State) (p : Nat) : bufAtPage (countLate k t s) p = bufAtPage s p := by
  obtain ⟨_, h⟩ := countLate_frame k t s
  rw [h]
  rfl

@[simp] theorem addressBad_countLate (k t : Nat) (s : State) (a : Nat) : addressBad (countLate k t s) a = addressBad s a := by
  obtain ⟨_, h⟩ := countLate_frame k t s
  rw [h]
  rfl

/-! ### What becomes of it there -/

theorem berthArrival_stale {t : Nat} (h : t < s.pound.lastCut ∨ t < s.pound.discardBefore) : berthArrival id w st t s =
    (dropWrite id s).updMemBerth (memBerthOf w.addr) fun b => { b with stale := satInc b.stale } := by
  unfold berthArrival
  exact if_pos h

theorem berthArrival_lost {t : Nat} (hcut : s.pound.lastCut ≤ t) (hbefore : s.pound.discardBefore ≤ t)
    (hlost : lostInRecovery s (serialOfTime s t) = true) (horig : ∀ n, w.orig ≠ .barge n) :
    berthArrival id w st t s = dropWrite id s := by
  unfold berthArrival
  dsimp only
  rw [if_neg (by omega), if_pos hlost]
  split
  case h_1 n h => exact absurd h (horig n)
  case h_2 => rfl

section
variable {t : Nat} (hcut : s.pound.lastCut ≤ t) (hbefore : s.pound.discardBefore ≤ t)
  (hkept : lostInRecovery s (serialOfTime s t) = false)
include hcut hbefore hkept

theorem berthArrival_bad (hbad : addressBad s w.addr = true) : berthArrival id w st t s =
    raiseFault Ev.memAddress (leBytes 1 w.berth ++ leBytes 8 w.addr)
      (countDone (memBerthOf w.addr) (serialOfTime s t) (dropWrite id s)) := by
  unfold berthArrival
  dsimp only
  rw [if_neg (by omega), if_neg (by simp [hkept]), if_pos hbad]

theorem berthArrival_remote {b : Buffer} {r : Nat × Nat × Nat × Nat} (hgood : addressBad s w.addr = false)
    (hbuf : bufAtPage s (pageOf w.addr) = some b) (hremote : b.remote = some r) : berthArrival id w st t s =
      forwardWrite w st (serialOfTime s t) b r (countDone (memBerthOf w.addr) (serialOfTime s t) (dropWrite id s)) := by
  unfold berthArrival
  dsimp only
  rw [if_neg (by omega), if_neg (by simp [hkept]), if_neg (by simp [hgood]), hbuf]
  simp [hremote]

theorem berthArrival_local {b : Buffer} (hgood : addressBad s w.addr = false) (hbuf : bufAtPage s (pageOf w.addr) = some b)
    (hremote : b.remote = none) : berthArrival id w st t s = if t + 32 ≤ s.ft then applyWrite id s else holdWrite id w s := by
  unfold berthArrival
  dsimp only
  rw [if_neg (by omega), if_neg (by simp [hkept]), if_neg (by simp [hgood]), hbuf]
  simp [hremote]

end

/-! ### Released, copied, admitted -/

theorem reorderStep_head {k : Nat} (hhead : (stagedAt s k fun w => w.stage == .held).head? = some (id, w)) (hst : w.stamp = some st) :
    reorderStep k s = if stampInstant s.ft st + 32 ≤ s.ft then applyWrite id s else s := by
  unfold reorderStep
  rw [hhead]
  simp [hst]

theorem copyStep_oldest {page : Nat} {h : Shadow}
    (holdest : (byTag (s.mem.shadows.filter fun h => h.page = page ∧ !h.ready ∧ !h.discarded)).head? = some h) :
    copyStep page s = (stampOrder (s.mem.writes.filter fun x => pageOf x.2.addr == page && x.2.stage == .copying &&
      serialOfTime s (stampInstant s.ft (x.2.stamp.getD 0)) == h.tag)).foldl (fun s x => applyWrite x.1 s)
        { s with mem.shadows := setShadow { h with ready := true } s.mem.shadows } := by
  unfold copyStep
  rw [holdest]
  rfl

theorem poolResumeStep_head {k : Nat} (hhead : (stagedAt s k fun w => w.stage == .pool && poolFits s w).head? = some (id, w)) :
    poolResumeStep k s = applyWrite id s := by
  unfold poolResumeStep
  rw [hhead]

/-! ### Applied (R349, R353, R354, R364) -/

section
variable (hw : Tab.find? id s.mem.writes = some w) (hst : w.stamp = some st)
include hw hst

/-- Where its pound has no shadow of the page, a write takes one or waits for the pool. -/
theorem applyWrite_unshadowed (hnone : shadowOf s (pageOf w.addr) (serialOfTime s (stampInstant s.ft st)) = none) :
    applyWrite id s =
      if poolAdmits s (serialOfTime s (stampInstant s.ft st)) then
        let u := addShadow (pageOf w.addr) (serialOfTime s (stampInstant s.ft st)) (foldFull (pageOf w.addr) s)
        { u with mem.writes := Tab.put id { w with stage := .copying } u.mem.writes }
      else
        let u := s.updMemBerth (memBerthOf w.addr) fun b => if w.stage = .pool then b else { b with poolWait := satInc b.poolWait }
        { u with mem.writes := Tab.put id { w with stage := .pool } u.mem.writes } := by
  unfold applyWrite
  rw [hw]
  dsimp only
  rw [hst]
  dsimp only
  rw [hnone]

theorem applyWrite_shadowed {h : Shadow} (hsome : shadowOf s (pageOf w.addr) (serialOfTime s (stampInstant s.ft st)) = some h) :
    applyWrite id s =
      if h.ready then linesTest id w st (serialOfTime s (stampInstant s.ft st)) s
      else { s with mem.writes := Tab.put id { w with stage := .copying } s.mem.writes } := by
  unfold applyWrite
  rw [hw]
  dsimp only
  rw [hst]
  dsimp only
  rw [hsome]

end

/-- A write of one line is tested there, and counted; one of no barge, job or torus write notes nothing. -/
theorem linesTest_one {l serial : Nat} (horig : w.orig = .other) (hlines : cellLines w.cells = [l]) :
    linesTest id w st serial s = countDone (memBerthOf w.addr) serial
      (lineTest (memBerthOf w.addr) st serial (pageOf w.addr) l (w.cells.filter fun p => p.1 / 64 = l)
        (w.bad.map (w.addr % 65536 + ·)) { s with mem.writes := Tab.del id s.mem.writes }) := by
  unfold linesTest noteBargeWrite
  rw [horig, hlines]
  rfl

section
variable {k serial page line : Nat} {c : Tab Byte} {bad : List Nat} {h : Shadow} (hshadow : shadowOf s page serial = some h)
  (hclean : testErrors s h line c = [])
include hshadow hclean

/-- A part later than the line's entry, or the first there, is laid over the shadow; with no close in progress nowhere else. -/
theorem lineTest_later (hlater : (entryOf h line).valid = false ∨ entryEarlier st (entryOf h line).stamp = false)
    (hclosing : s.pound.closing = none) : lineTest k st serial page line c bad s =
      storeParity h.frame c bad { s with mem.shadows := setShadow (applyToShadow h line c st) s.mem.shadows } := by
  unfold lineTest
  rw [hshadow]
  dsimp only
  rw [hclean, List.foldl_nil, if_neg (by rcases hlater with h | h <;> simp [h])]
  unfold secondShadow
  split
  case h_1 h => exact absurd (hclosing.symm.trans h) nofun
  case h_2 => rfl

theorem lineTest_earlier (hvalid : (entryOf h line).valid = true) (hearlier : entryEarlier st (entryOf h line).stamp = true) :
    lineTest k st serial page line c bad s =
      if (entryOf h line).full then s.updMemBerth k fun b => { b with stale := satInc b.stale }
      else raiseFault Ev.lateWrite
        (leBytes 1 k ++ leBytes 8 ((page * 1024 + line) * 64) ++ leBytes 8 st ++ leBytes 8 (entryOf h line).stamp)
        (s.updMemBerth k fun b => { b with stale := satInc b.stale }) := by
  unfold lineTest
  rw [hshadow]
  dsimp only
  rw [hclean, List.foldl_nil, if_pos (by simp [hvalid, hearlier])]

end

end

/-- Settles O36: the equations above, place by place. -/
theorem writesReachTheirLines : Obligations.WritesReachTheirLines := by
  unfold Obligations.WritesReachTheirLines
  refine ⟨?arrival, ?torus, ?reorder, ?copied, ?resumed, ?applied⟩
  case arrival =>
    intro s id w st hw hst hstage hparts hown hlater t k v u
    have hv : countLate k t s = v := rfl
    have hu : dropWrite id v = u := rfl
    clear_value u v
    subst hv hu
    have hexec : ∀ x, berthArrival id w st t (countLate k t s) = x → exec (.memWriteArrival id) s = .next x := fun x h =>
      congrArg Host.Outcome.next ((writeArrival_own hw hst hstage hparts hown hlater).trans h)
    have hpound := countLate_pound k t s
    refine ⟨fun hstale => hexec _ (berthArrival_stale (hpound ▸ hstale)), fun hcut hbefore hlost horig =>
      hexec _ (berthArrival_lost (hpound ▸ hcut) (hpound ▸ hbefore) (by simpa using hlost) horig), fun hcut hbefore hkept => ?_⟩
    have hcut : (countLate k t s).pound.lastCut ≤ t := hpound ▸ hcut
    have hbefore : (countLate k t s).pound.discardBefore ≤ t := hpound ▸ hbefore
    have hkept : lostInRecovery (countLate k t s) (serialOfTime (countLate k t s) t) = false := by simpa using hkept
    have hserial := serialOfTime_countLate k t s t
    have hbad := addressBad_countLate k t s w.addr
    have hat := bufAtPage_countLate k t s (pageOf w.addr)
    refine ⟨fun h => hexec _ ?_, fun b r hgood hbuf hremote => hexec _ ?_, fun b hgood hbuf hremote => ?_⟩
    · rw [berthArrival_bad hcut hbefore hkept (hbad.trans h), hserial]
    · rw [berthArrival_remote hcut hbefore hkept (hbad.trans hgood) (hat.trans hbuf) hremote, hserial]
    · have hlocal := berthArrival_local (st := st) (id := id) hcut hbefore hkept (hbad.trans hgood) (hat.trans hbuf) hremote
      rw [countLate_ft] at hlocal
      refine ⟨fun hlate => hexec _ (hlocal.trans (if_pos hlate)), fun hearly => hexec _ (hlocal.trans ((if_neg (by omega)).trans ?_))⟩
      rw [show countLate k t s = s from if_neg (by omega)]
      rfl
  case torus =>
    intro s id w st sender n attempt first hw hst hstage hparts horig hlater hgood
    refine congrArg Host.Outcome.next ((writeArrival_torus hw hst hstage hparts horig hlater).trans ?_)
    unfold torusArrival
    rw [if_neg (by simp [hgood])]
    rfl
  case reorder =>
    intro s k id w st hhead hst
    have hstep := reorderStep_head hhead hst
    exact ⟨fun hdue => congrArg Host.Outcome.next (hstep.trans (if_pos hdue)),
      fun hearly => congrArg Host.Outcome.next (hstep.trans (if_neg (by omega)))⟩
  case copied => exact fun s page h holdest => congrArg Host.Outcome.next (copyStep_oldest holdest)
  case resumed => exact fun s k id w hhead => congrArg Host.Outcome.next (poolResumeStep_head hhead)
  case applied =>
    intro s id w st hw hst serial k waits
    refine ⟨fun hnone hadmits => (applyWrite_unshadowed hw hst hnone).trans (if_pos hadmits), fun hnone hfull hstage => ?_, ?_⟩
    · refine (applyWrite_unshadowed hw hst hnone).trans ((if_neg (by simp [hfull, serial])).trans ?_)
      simp only [if_neg hstage]
      rfl
    · intro h l hsome
      have happly := applyWrite_shadowed hw hst hsome
      refine ⟨fun hcopying => happly.trans (if_neg (by simp [hcopying])), ?_⟩
      intro hready horig hclosing hlines cells u hclean e
      have hline := happly.trans ((if_pos hready).trans (linesTest_one horig hlines))
      have hu : shadowOf u (pageOf w.addr) serial = some h := hsome
      refine ⟨fun hlater => ?_, fun hvalid hearlier hwhole => ?_, fun hvalid hearlier hpart => ?_⟩
      · rw [hline, lineTest_later hu hclean hlater hclosing]
      · rw [hline, lineTest_earlier hu hclean hvalid hearlier, if_pos hwhole]
      · rw [hline, lineTest_earlier hu hclean hvalid hearlier, if_neg (by simp [e, hpart])]

end Sys2Proof.Machine
end

section
/-!
SUPPORT. Statements of chapter 7 on the recovery from a detected fault: the stop, the return of the discarded shadows, and the opening
of the replay (R359, R370, R371, R376, R381).
-/

namespace Sys2Proof.Machine
open Sys2Proof.Safety

/-! ### Discarded shadows (R359, R370) -/

/-- A shadow of a pound that is rolled back is discarded. -/
def discardFrom (m : Nat) (h : Shadow) : Shadow := if m ≤ h.tag then { h with discarded := true } else h

theorem discardFrom_below {m : Nat} {h : Shadow} (hlt : h.tag < m) : discardFrom m h = h := if_neg (Nat.not_le.2 hlt)

/-- Discarding leaves what stands of the pounds before. -/
theorem filter_discardFrom {m : Nat} {q r : Shadow → Bool} (hr : ∀ h, r h = true → h.tag < m)
    (hbelow : ∀ h, h.tag < m → q h = r h) (hfrom : ∀ h, m ≤ h.tag → q (discardFrom m h) = false) (l : List Shadow) :
    (l.map (discardFrom m)).filter q = l.filter r := by
  induction l with
  | nil => rfl
  | cons h l ih =>
    rw [List.map_cons, List.filter_cons, List.filter_cons, ih]
    by_cases hlt : h.tag < m
    · rw [discardFrom_below hlt, hbelow h hlt]
    · rw [hfrom h (Nat.le_of_not_lt hlt), Bool.eq_false_iff.2 fun h' => hlt (hr h h')]
      simp

/-- Discarding the shadows of uncommitted pounds leaves every committed version. -/
theorem committedByte_discard {s t : State} {m : Nat} (hm : s.pound.committed < m) (hpound : t.pound.committed = s.pound.committed)
    (hbase : t.mem.base = s.mem.base) (hshadows : t.mem.shadows = s.mem.shadows.map (discardFrom m)) (a : Nat) :
    committedByte t a = committedByte s a := by
  have hkept := filter_discardFrom (m := m) (q := fun h => h.page = pageOf a ∧ isCommitted t h)
    (r := fun h => h.page = pageOf a ∧ isCommitted s h)
    (fun h hr => by simp [isCommitted] at hr; omega)
    (fun h _ => by simp [isCommitted, hpound])
    (fun h hle => by simp [discardFrom, isCommitted, hle]) s.mem.shadows
  rw [committedByte, committedByte, committedCells, committedCells, foldedCells, foldedCells, hshadows, hbase, hkept]

/-! ### The stop (R370) -/

theorem rollTorus_versions (m : Nat) (s : State) : (rollTorus m s).versions = s.versions := by
  have hsent := foldl_keeps State.versions
    (f := fun s (x : Nat × Nat) => sendNotice (.rollback x.1 x.2 (Tab.getD 0 x.2 s.pound.attempts % 256)) s)
    (fun u x => versions_of_rest (sendNotice_rest _ u)) (sentTo s fun x => m ≤ x.n) s
  exact hsent

theorem rollTask_versions (x : Nat × Nat) (s : State) : (rollTask x s).versions = s.versions := by
  unfold rollTask
  split
  case h_1 => rfl
  case h_2 t ht =>
    split
    case isTrue => rfl
    case isFalse => exact freeGroupsOf_versions t s

theorem faultGraphs_versions (m : Nat) (set : List (Nat × Nat)) (s : State) : (faultGraphs m set s).versions = s.versions :=
  (foldl_keeps State.versions (f := fun s slot => s.updGraph slot _) (fun _ _ => rfl) _ _ :)

theorem unready_versions (s : State) : (unready s).versions = s.versions := by
  refine foldl_keeps State.versions (fun u x => ?_) _ _
  split <;> rfl

/-- A step that is taken or not keeps what the step keeps. -/
theorem ite_versions {c : Prop} [Decidable c] {f : State → State} (hf : ∀ u, (f u).versions = u.versions) (u : State) :
    (if c then f u else u).versions = u.versions := by
  split
  case isTrue => exact hf u
  case isFalse => rfl

theorem rollSet_versions (set : List (Nat × Nat)) (s : State) :
    (rollMessages set (set.foldl (fun s x => rollTask x s) s)).versions = s.versions :=
  foldl_keeps State.versions (fun u x => rollTask_versions x u) _ _

theorem faultStep_stops {s : State} {r : Recovery} (hr : s.pound.recovery = some r) (hgoes : r.stopped = false) :
    ∃ p, (faultStep s).versions = (p, s.mem.shadows.map (discardFrom r.serial), s.mem.base) ∧
      (∃ q, p.recovery = some q ∧ q.stopped = true ∧ q.serial = r.serial) ∧ p.cutAt = none ∧ p.committed = s.pound.committed := by
  have hrolled : ∀ u, u.versions = s.versions → (rollTorus r.serial (rollWrites r.serial (rollBarges r.serial u))).versions = s.versions :=
    fun u hu => (rollTorus_versions _ _).trans hu
  have hstart : ∀ b covered, (if b = true then fallBehind covered s else s).versions = s.versions := by
    intro b covered
    split <;> rfl
  unfold faultStep
  rw [hr]
  dsimp only
  rw [if_neg (by simp [hgoes])]
  have hv := hrolled _ (hstart (decide (r.count = 0) && s.torus.inStep) (rollsBack s ((s.pound.closing.map Closing.serial).getD 0)))
  revert hv
  generalize rollTorus _ _ = v
  intro hv
  have hpound : v.pound = s.pound := congrArg Prod.fst hv
  have hshadows : v.mem.shadows = s.mem.shadows := shadows_of_versions hv
  have hbase : v.mem.base = s.mem.base := congrArg (fun x => x.2.2) hv
  refine ⟨?p, (unready_versions _).trans ((ite_versions (faultGraphs_versions _ _) _).trans
    ((ite_versions (rollSet_versions _) _).trans ?stands)), ?fields⟩
  case stands =>
    rw [← hshadows, ← hbase]
    rfl
  case fields => exact ⟨⟨_, rfl, rfl, rfl⟩, rfl, (congrArg (fun p => p.committed) hpound :)⟩

/-- Once the recovery is stopped its discarded shadows go back, and every fault has been sent (R370, R381). -/
theorem returnStep_returns {s : State} {r : Recovery} (hr : s.pound.recovery = some r) (hstopped : r.stopped = true)
    (hnone : r.returned = false) : (returnStep s).mem.shadows = s.mem.shadows.filter (fun h => !h.discarded) ∧
      (returnStep s).pound.recovery = some { r with returned := true, faults := r.faults.map fun f => { f with sent := true } } := by
  have hlogs := versions_of_rest (foldl_keeps State.atRest (f := fun s (f : FaultRec) =>
    logEvent Ev.poundRollback (leBytes 8 r.serial ++ leBytes 1 r.count ++ leBytes 2 f.code) s) (fun u f => logEvent_rest _ _ u)
    (r.faults.filter fun f => !f.sent) s)
  have hshadows := shadows_of_versions hlogs
  unfold returnStep
  rw [hr]
  dsimp only
  rw [if_pos (by simp [hstopped, hnone])]
  refine ⟨?_, rfl⟩
  dsimp only
  refine (shadows_of_versions (versions_of_unpaged ((tablesUpdate_unpaged _).trans (releaseFrames_unpaged _ _)))).trans ?_
  exact congrArg (List.filter _) hshadows

/-! ### The replay opens (R370, R371, R376) -/

theorem rewindBarges_rest (s : State) : (rewindBarges s).atRest = s.atRest := by
  refine foldl_keeps State.atRest (fun u x => ?_) _ _
  exact logEvent_rest _ _ (u.updBarge x.1 _)

theorem rewrites_course (m : Nat) (s : State) : (rewrites m s).course = s.course := by
  have hreleased := course_of_rest (foldl_keeps State.atRest
    (f := fun s (x : Nat × _ × Nat) => sendWrites x.2.1.berth x.2.1.addr x.2.1.data (.released x.1) s)
    (fun u x => sendWrites_rest _ _ _ _ u) (s.torus.released.filter fun x => m ≤ x.2.2)
    { s with torus.released := s.torus.released.mapVals fun _ x => if m ≤ x.2 then (x.1, m) else x })
  refine (foldl_course (fun u j => ?_) _ _).trans hreleased
  split
  case h_1 =>
    split
    case isTrue => rfl
    case isFalse => exact course_of_rest (sendWrites_rest _ _ _ _ _)
  case h_2 => rfl

theorem reRecord_course (s : State) : (reRecord s).course = s.course := by
  refine foldl_course (fun u x => ?_) _ _
  have hasked : (issueStamp 30 (.taskEnd x.1 x.2.1) u).2.course = u.course := course_of_rest (issueStamp_rest _ _ _)
  split
  case h_1 st v hv => exact (recordEnd_course _ _ _ _).trans ((congrArg (fun x => x.2.course) hv).symm.trans hasked)
  case h_2 v hv => exact (congrArg (fun x => x.2.course) hv).symm.trans hasked

theorem replayStep_opens {s : State} {r : Recovery} (hr : s.pound.recovery = some r) (hreturned : r.returned = true)
    (hdue : r.notBefore ≤ s.ft) (htest : s.lk.test = none) (hstands : stranded s = false) (hclosing : s.pound.closing = none)
    (hbase : s.base.reset = none) : (replayStep s).course.pound = { s.course.pound with
      recovery := none, replay := decide (r.count < 4), fails := r.count % 4
      deadline := s.ft + s.pound.length, discardBefore := s.ft, poolLatch := false } := by
  have hpound : (rewindBarges { s with lk.named := none }).pound = s.pound :=
    (pound_of_rest (rewindBarges_rest { s with lk.named := none }) :)
  have hft : (rewindBarges { s with lk.named := none }).ft = s.ft := ft_of (rewindBarges_fixed { s with lk.named := none })
  have hopens : ∀ n u, (settle (reRecord (rewrites r.serial (takeNextCut n u)))).course = u.course := fun n u =>
    (settle_course _).trans ((reRecord_course _).trans ((rewrites_course _ _).trans (takeNextCut_course n u)))
  unfold replayStep
  rw [hr]
  dsimp only
  rw [if_pos (by simp [hreturned, hdue, htest, hstands, hclosing, hbase])]
  refine (congrArg (fun u => u.pound) (hopens _ _)).trans ?_
  simp only [State.course, hpound, hft]

/-- Settles O40: the stop, the return and the replay's opening by the equations above; what is discarded was never committed. -/
theorem rollbackKeepsCommittedMemory : Obligations.RollbackKeepsCommittedMemory := by
  unfold Obligations.RollbackKeepsCommittedMemory
  refine ⟨?stop, ?returned, ?opens⟩
  case stop =>
    intro s r hr hgoes hserial
    obtain ⟨p, hversions, ⟨q, hq, hstopped, hkept⟩, hcut, hcommitted⟩ := faultStep_stops hr hgoes
    have hp : (faultStep s).pound = p := congrArg Prod.fst hversions
    have hshadows : (faultStep s).mem.shadows = s.mem.shadows.map (discardFrom r.serial) := congrArg (fun x => x.2.1) hversions
    have hbase : (faultStep s).mem.base = s.mem.base := congrArg (fun x => x.2.2) hversions
    subst hp
    exact ⟨faultStep s, q, rfl, hq, hstopped, hkept, hshadows, hcut, committedByte_discard hserial hcommitted hbase hshadows⟩
  case returned =>
    exact fun s r hr hstopped hnone =>
      ⟨returnStep s, rfl, (returnStep_returns hr hstopped hnone).1, (returnStep_returns hr hstopped hnone).2⟩
  case opens =>
    intro s r hr hreturned hdue htest hstands hclosing hbase
    have hopens := replayStep_opens hr hreturned hdue htest hstands hclosing hbase
    exact ⟨replayStep s, rfl, congrArg (fun p => p.recovery) hopens, congrArg (fun p => p.deadline) hopens,
      congrArg (fun p => p.replay) hopens, congrArg (fun p => p.discardBefore) hopens⟩

end Sys2Proof.Machine
end

section
/-!
PROOF of O41: requests, named cuts and notices, one equation for each, and the instant until which a held write stands (R388 to R393,
R560, R563, R565).
-/

namespace Sys2Proof.Machine

/-! ### Notices and requests (R388, R565) -/

theorem takeNotice_none {s : State} {coord : Nat} (h : s.torus.control.find? (fun c => coordOf c.src == coordOf coord) = none) :
    takeNotice coord s = none := by
  simp [takeNotice, takeControl, h]

theorem takeNotice_some {s : State} {coord : Nat} {c : ControlIn}
    (h : s.torus.control.find? (fun c => coordOf c.src == coordOf coord) = some c) :
    takeNotice coord s = some (sendControl 6 c.no coord { s with torus.control := s.torus.control.erase c }) := by
  simp [takeNotice, takeControl, h]

theorem closeRequest_taken {s u : State} {coord : Nat} (issued : Nat) (h : takeNotice coord s = some u) :
    closeRequest coord issued s = if u.time.master && u.torus.partition != 0 then nameMasterCut issued .named u else u := by
  simp [closeRequest, h]

/-! ### Named cuts (R388, R560) -/

/-- A named cut that lies ahead, at a member in step with no cut in force. -/
theorem namedCut_ahead {s : State} {c : Nat} (hpartition : s.torus.partition ≠ 0) (hstep : inStepNow s = true) (hahead : s.ft ≤ c) :
    namedCut c none s = nameCut c .named { s with torus.behindAt := s.torus.behindAt.map (min (c + 2500)) } := by
  unfold namedCut takeCut
  rw [if_neg (by simp [hpartition, hstep]), if_neg (Nat.not_lt.mpr hahead), if_neg (by simp [hpartition, hstep]), max_eq_left hahead]

theorem namedCut_outside {s : State} {c : Nat} {serial : Option Nat}
    (h : s.torus.partition = 0 ∨ (inStepNow s = false ∧ s.torus.joining = false)) : namedCut c serial s = s := by
  unfold namedCut
  refine if_pos (h.imp id fun ⟨hstep, hjoining⟩ => ?_)
  simp [hstep, hjoining]

/-- A cut named where an open pound has none is taken, or lies past the deadline and waits for the next pound. -/
theorem nameCut_open {s : State} {c : Nat} {cause : Trigger} (hopened : s.pound.opened = true) (hclosing : s.pound.closing = none)
    (hrecovery : s.pound.recovery = none) (hcut : cutInForce s = none) : nameCut c cause s =
      if deadlineCounts s && decide (s.pound.deadline < c) then deferCut c cause s
      else recount s { s with pound.cutAt := some c, pound.cutCause := some cause } := by
  unfold nameCut
  rw [if_pos (by simp [hopened, hclosing, hrecovery]), hcut]

/-! ### Writes held too long (R393) -/

/-- The instant from which a sender's writes have been held since their arrival and its cut. -/
def heldSince (l : List HeldWrite) (c : Nat) : Nat := l.foldl (fun a w => max a w.since) c

theorem heldSince_le {l : List HeldWrite} {c n : Nat} : heldSince l c ≤ n ↔ c ≤ n ∧ ∀ w ∈ l, w.since ≤ n := by
  unfold heldSince
  induction l generalizing c with
  | nil => simp
  | cons w l ih =>
    rw [List.foldl_cons, ih, Nat.max_le, List.forall_mem_cons, and_assoc]

/-- The cut that a module takes a sender's pound to have, by two free values. -/
def cutTaken (s : State) (n alike x : Nat) : Option Nat :=
  if inPartition s && alike == 1 then senderCut s n else if x = 0 then some 0 else none

/-- The state after the two free values. -/
def drawnTwice (s : State) : State := (drawBelow 2 (drawBelow 2 s).2).2

/-- The writes of a sender's pound go, with an event. -/
def dropHeld (sender n : Nat) (s : State) : State :=
  logEvent Ev.holdExpired (leBytes 3 (coordOf sender) ++ leBytes 8 n)
    { s with torus.held := s.torus.held.filter fun w => !heldOf sender n w }

theorem holdStep_uncut {s : State} {sender n : Nat}
    (h : cutTaken s n (drawBelow 2 s).1 (drawBelow 2 (drawBelow 2 s).2).1 = none) : holdStep sender n s = drawnTwice s := by
  have h' : cutTaken (drawnTwice s) n (drawBelow 2 s).1 (drawBelow 2 (drawBelow 2 s).2).1 = none := h
  unfold cutTaken at h'
  unfold holdStep
  dsimp only
  unfold drawnTwice at h' ⊢
  rw [h']

theorem holdStep_cut {s : State} {sender n c : Nat}
    (h : cutTaken s n (drawBelow 2 s).1 (drawBelow 2 (drawBelow 2 s).2).1 = some c) : holdStep sender n s =
      if s.torus.held.filter (heldOf sender n) = [] ∨ s.ft < heldSince (s.torus.held.filter (heldOf sender n)) c + 1048576 then drawnTwice s
      else dropHeld sender n (drawnTwice s) := by
  have h' : cutTaken (drawnTwice s) n (drawBelow 2 s).1 (drawBelow 2 (drawBelow 2 s).2).1 = some c := h
  unfold cutTaken at h'
  unfold holdStep
  dsimp only
  unfold drawnTwice at h' ⊢
  rw [h']
  rfl

/-- While one of the sender's writes has been held for less than 2^20 ticks, all of them stand. -/
theorem holdStep_recent {s : State} {sender n : Nat} (h : ∃ w ∈ s.torus.held, heldOf sender n w = true ∧ s.ft < w.since + 1048576) :
    holdStep sender n s = drawnTwice s := by
  obtain ⟨w, hw, hheld, hrecent⟩ := h
  cases hcut : cutTaken s n (drawBelow 2 s).1 (drawBelow 2 (drawBelow 2 s).2).1 with
  | none => exact holdStep_uncut hcut
  | some c =>
    have hsince := (heldSince_le.mp (Nat.le_refl (heldSince (s.torus.held.filter (heldOf sender n)) c))).2 w
      (List.mem_filter.mpr ⟨hw, hheld⟩)
    exact (holdStep_cut hcut).trans (if_pos (Or.inr (by omega)))

section
variable {s : State} {sender n c : Nat} (hsome : s.torus.held.filter (heldOf sender n) ≠ [])
  (hold : ∀ w ∈ s.torus.held, heldOf sender n w = true → w.since + 1048576 ≤ s.ft)
  (hcut : cutTaken s n (drawBelow 2 s).1 (drawBelow 2 (drawBelow 2 s).2).1 = some c)
include hsome hold hcut

/-- Writes held for long enough go where their sender's cut lies far enough back, too. -/
theorem holdStep_expired (hback : c + 1048576 ≤ s.ft) : holdStep sender n s = dropHeld sender n (drawnTwice s) := by
  have hsince : heldSince (s.torus.held.filter (heldOf sender n)) c ≤ s.ft - 1048576 := by
    refine heldSince_le.mpr ⟨by omega, fun w hw => ?_⟩
    have := hold w (List.mem_of_mem_filter hw) (List.of_mem_filter hw)
    omega
  exact (holdStep_cut hcut).trans (if_neg (by simp only [hsome, false_or]; omega))

omit hsome hold in
theorem holdStep_ahead (hback : s.ft < c + 1048576) : holdStep sender n s = drawnTwice s := by
  have hsince := (heldSince_le.mp (Nat.le_refl (heldSince (s.torus.held.filter (heldOf sender n)) c))).1
  exact (holdStep_cut hcut).trans (if_pos (Or.inr (by omega)))

end

/-- Where the partition's cut is not taken, the free value alone says whether the writes go. -/
theorem holdStep_unknown {s : State} {sender n : Nat} (hsome : s.torus.held.filter (heldOf sender n) ≠ [])
    (hold : ∀ w ∈ s.torus.held, heldOf sender n w = true → w.since + 1048576 ≤ s.ft) (hlong : 1048576 ≤ s.ft)
    (hunknown : (inPartition s && (drawBelow 2 s).1 == 1) = false) : holdStep sender n s =
      if (drawBelow 2 (drawBelow 2 s).2).1 = 0 then dropHeld sender n (drawnTwice s) else drawnTwice s := by
  have hcut : cutTaken s n (drawBelow 2 s).1 (drawBelow 2 (drawBelow 2 s).2).1 =
      if (drawBelow 2 (drawBelow 2 s).2).1 = 0 then some 0 else none := if_neg (by simp [hunknown])
  split
  case isTrue hx => exact holdStep_expired hsome hold (hcut.trans (if_pos hx)) (by omega)
  case isFalse hx => exact holdStep_uncut (hcut.trans (if_neg hx))

/-- Settles O41: requests and named cuts by their equations, the notices by the one they take, and the expiry by the cut it knows. -/
theorem partitionPounds : Obligations.PartitionPounds := by
  unfold Obligations.PartitionPounds
  refine ⟨?request, ?named, ?notices, ?expiry⟩
  case request =>
    intro s coord issued
    refine ⟨fun hnone => ?_, fun c hsome => takeNotice_some hsome, fun u hu => ?_⟩
    · refine congrArg Host.Outcome.next ?_
      unfold closeRequest
      rw [takeNotice_none hnone]
    · have hstep := closeRequest_taken issued hu
      refine ⟨fun h => congrArg Host.Outcome.next (hstep.trans (if_neg ?_)),
        fun hmaster hpartition => congrArg Host.Outcome.next (hstep.trans (if_pos (by simp [hmaster, hpartition])))⟩
      rcases h with h | h <;> simp [h]
  case named =>
    intro s c serial
    refine ⟨?_, fun h => congrArg Host.Outcome.next (namedCut_outside h)⟩
    intro hpartition hstep hahead hopened hclosing hrecovery _ hcut hserial u
    subst hserial
    have hnamed := (namedCut_ahead hpartition hstep hahead).trans (nameCut_open (s := u) hopened hclosing hrecovery hcut)
    refine ⟨fun hin => congrArg Host.Outcome.next (hnamed.trans (if_neg ?_)),
      fun hpast hcounts => congrArg Host.Outcome.next (hnamed.trans (if_pos ?_))⟩
    · simpa [u] using fun _ => hin
    · simpa [hcounts, u] using hpast
  case notices =>
    intro s sender n attempt u hu
    refine ⟨congrArg Host.Outcome.next ?_, congrArg Host.Outcome.next ?_⟩
    · unfold commitNotice
      rw [hu]
    · unfold rollbackNotice
      rw [hu]
  case expiry =>
    intro s sender n alike x u drop
    refine ⟨fun h => congrArg Host.Outcome.next (holdStep_recent h), fun hsome hold hlong =>
      ⟨fun c hpartition hcut => ⟨fun hback => congrArg Host.Outcome.next ?_, fun hahead => congrArg Host.Outcome.next ?_⟩,
        fun hpartition hcut => congrArg Host.Outcome.next ?_, fun hpartition => congrArg Host.Outcome.next ?_⟩⟩
    · by_cases halike : alike = 1
      · have htaken : cutTaken s n alike x = some c := (if_pos (by simp [hpartition, halike])).trans hcut
        exact (holdStep_expired hsome hold htaken hback).trans (if_pos (Or.inl halike)).symm
      · refine (holdStep_unknown hsome hold hlong (by simp [hpartition]; exact halike)).trans ?_
        simp only [halike, false_or]
        rfl
    · by_cases halike : alike = 1
      · have htaken : cutTaken s n alike x = some c := (if_pos (by simp [hpartition, halike])).trans hcut
        exact (holdStep_ahead htaken hahead).trans (if_neg fun h => h.1 halike).symm
      · refine (holdStep_unknown hsome hold hlong (by simp [hpartition]; exact halike)).trans ?_
        simp only [ne_eq, halike, not_false_eq_true, true_and]
        rfl
    · by_cases halike : alike = 1
      · have htaken : cutTaken s n alike x = none := (if_pos (by simp [hpartition, halike])).trans hcut
        exact (holdStep_uncut htaken).trans (if_neg fun h => h.1 halike).symm
      · refine (holdStep_unknown hsome hold hlong (by simp [hpartition]; exact halike)).trans ?_
        simp only [ne_eq, halike, not_false_eq_true, true_and]
        rfl
    · exact holdStep_unknown hsome hold hlong (by simp [hpartition])

end Sys2Proof.Machine
end

section
/-!
PROOF of O42: a frame's way from its sender of the moment to the receiver's basin, and the steps of grants, ports, NAKs and credits, one
equation for each place where a step may end (R403 to R435, R445).
-/

namespace Sys2Proof.Machine

/-! ### Frames of the base (R403, R414 to R416, R419, R445) -/

section
variable {s : State} {l : Nat}

theorem seqKey_base (t : Nat) (hbase : linkFibre l = false) : seqKey l t = t := if_neg (by simp [hbase])

/-- A base receive link that is up takes the next frame of its sender of the moment. -/
theorem frameReceive_sender {t : Nat} {f : LinkFrame} {content : Bytes} {u : State} (hrx : linkRx l = true) (hbase : linkFibre l = false)
    (hup : linkUp s l = true) (hreset : s.base.reset = none) (hsender : frameSender s l = some t) (hsends : sendsNow s t l = true)
    (hnext : nextFrame t l (laneStep t l s) = (content, u)) : frameReceive l f s = passCycle l (some t) (countFrame t l
      (takeFrame l t (encodeFrame false content ^^^ f.bits % 2 ^ 1360) false (idleWave t l 85 f.wr u))) := by
  have hfilter : (frameSender s l).filter (fun t => sendsNow s t l) = some t := by simp [hsender, hsends]
  unfold frameReceive
  rw [if_neg (by simp [hrx, hup, hreset]), if_neg (by simp [hbase])]
  dsimp only
  rw [hfilter]
  dsimp only
  rw [hnext]

/-- With no sender that may send, no frame passes. -/
theorem frameReceive_silent {f : LinkFrame} (hrx : linkRx l = true) (hbase : linkFibre l = false) (hup : linkUp s l = true)
    (hreset : s.base.reset = none) (hsilent : ∀ t, frameSender s l = some t → sendsNow s t l = false) :
    frameReceive l f s = passCycle l none s := by
  have hfilter : (frameSender s l).filter (fun t => sendsNow s t l) = none := by
    rw [Option.filter_eq_none_iff]
    exact fun t ht => by simp [hsilent t ht]
  unfold frameReceive
  rw [if_neg (by simp [hrx, hup, hreset]), if_neg (by simp [hbase])]
  dsimp only
  rw [hfilter]

theorem frameReceive_closed {f : LinkFrame} (h : linkRx l = false ∨ linkUp s l = false ∨ s.base.reset.isSome = true) :
    frameReceive l f s = s := by
  unfold frameReceive
  exact if_pos (by rcases h with h | h | h <;> simp [h])

theorem frameReceive_fibre {f : LinkFrame} (hrx : linkRx l = true) (hfibre : linkFibre l = true) (hup : linkUp s l = true)
    (hreset : s.base.reset = none) : frameReceive l f s = fibreFrame l f s := by
  unfold frameReceive
  rw [if_neg (by simp [hrx, hup, hreset]), if_pos hfibre]

variable {t bits : Nat} (hbase : linkFibre l = false)
include hbase

theorem takeFrame_bad (hbad : decodeFrame false bits = none) : takeFrame l t bits false s = badFrame l t false s := by
  unfold takeFrame
  rw [hbase, hbad]

theorem nakStands_base : nakStands l t false s = (Tab.has t (s.link l).nak && Tab.has l (s.link t).nak) := by
  unfold nakStands
  rw [seqKey_base t hbase, if_neg (by simp [hbase])]

theorem askAgain_base (fseq : Nat) : askAgain l t fseq s = s.updLink t fun x => { x with nak := Tab.put l fseq x.nak } :=
  if_neg (by simp [hbase])

theorem badFrame_standing (hhere : Tab.has t (s.link l).nak = true) (hthere : Tab.has l (s.link t).nak = true) :
    badFrame l t false s = s.updLink l fun x => { x with suspectRun := [] } := by
  unfold badFrame
  rw [if_pos (by simp [nakStands_base hbase, hhere, hthere])]

theorem badFrame_asked (hnew : Tab.has t (s.link l).nak = false ∨ Tab.has l (s.link t).nak = false) :
    let due := Tab.getD 0 t (s.link l).rxSeq
    let run := Tab.getD 0 t (s.link l).badRun + 1
    let w := (s.updLink l fun x =>
      { x with uncorrectable := satInc x.uncorrectable, nak := Tab.put t due x.nak, badRun := Tab.put t run x.badRun
               suspectRun := [] }).updLink t fun x => { x with nak := Tab.put l due x.nak }
    badFrame l t false s = if run = 4 then unrecovered l due w else w := by
  unfold badFrame
  dsimp only
  rw [if_neg (by rcases hnew with h | h <;> simp [nakStands_base hbase, h]), seqKey_base t hbase, askAgain_base hbase]

variable {got : Bytes} {syms : List Nat} (hgood : decodeFrame false bits = some (got, syms))
include hgood

theorem takeFrame_discarded (hother : (controlOf got).type = 2 ∨ 4 ≤ (controlOf got).type ∨
      (controlOf got).epoch ≠ (countDecoded l t syms s).base.epoch ∨
      (controlOf got).fseq ≠ Tab.getD 0 t ((countDecoded l t syms s).link l).rxSeq) :
    takeFrame l t bits false s = countDecoded l t syms s := by
  unfold takeFrame
  rw [hbase, hgood]
  dsimp only
  rw [seqKey_base t hbase, if_pos (by rcases hother with h | h | h | h <;> simp [h])]

theorem takeFrame_accepted (hdata : (controlOf got).type = 0 ∨ (controlOf got).type = 1)
    (hepoch : (controlOf got).epoch = (countDecoded l t syms s).base.epoch)
    (hseq : (controlOf got).fseq = Tab.getD 0 t ((countDecoded l t syms s).link l).rxSeq) :
    takeFrame l t bits false s = acceptFrame l t (controlOf got) got (countDecoded l t syms s) := by
  unfold takeFrame
  rw [hbase, hgood]
  dsimp only
  rw [seqKey_base t hbase, if_neg (by rcases hdata with h | h <;> simp [h, hepoch, hseq]), if_neg (by simp)]

end

/-- A frame taken in order moves the number due on; the packets of a DATA frame enter the basin. -/
theorem acceptFrame_base {l : Nat} (t : Nat) (c : Control) (got : Bytes) (s : State) (hbase : linkFibre l = false) :
    acceptFrame l t c got s =
      let r := readStream false (Tab.getD [] t (s.link l).rxPart) c got
      let u := s.updLink l fun x =>
        { x with rxSeq := Tab.put t ((c.fseq + 1) % 4096) x.rxSeq, nak := Tab.del t x.nak, badRun := Tab.del t x.badRun
                 rxPart := if c.type = 0 then Tab.putD [] t r.2 x.rxPart else x.rxPart }
      if c.type = 0 then r.1.foldl (fun s p => arrivePacket l t p s) u else u := by
  unfold acceptFrame
  rw [seqKey_base t hbase, hbase]

/-! ### Frames of another module (R408, R543) -/

theorem fibreFrame_eq (l : Nat) (f : LinkFrame) (s : State) :
    let got := prbsErrors 170 (s.link l).prbs f.wr
    let u := (s.updLink l fun x =>
      { x with prbs := got.2
               wrErrs := if f.mirror.isSome || wrMasked s (l - 8) then x.wrErrs else satAdd x.wrErrs got.1
               lanes := Tab.put l { mirror := f.mirror, missing := f.missing } x.lanes
               dealt := if f.missing = (laneUse s l l).missing then x.dealt else 0 }).updLink (l - 8) fun x => { x with farHigh := f.weir }
    let v := (takeFrame l 0 f.bits f.again u).updLink l fun x => { x with dealt := if f.missing.isSome then (x.dealt + 16) % 15 else 0 }
    let w := if (v.link l).nak = [] ∧ linkUp v l = true then v.updLink (l - 8) fun x => { x with ackDue := max x.ackDue 1 } else v
    fibreFrame l f s = fibreEnter ((l - 512) / 16) [] (fibreSend (l - 8) 16 w) := by
  have hdealt : ∀ a b : Nat, (if f.missing != (laneUse s l l).missing then a else b) = if f.missing = (laneUse s l l).missing then b else a := by
    intro a b
    by_cases h : f.missing = (laneUse s l l).missing <;> simp [h]
  unfold fibreFrame
  simp only [hdealt]

/-! ### NAKs, grants, retargets (R414, R419, R420) -/

section
variable {s : State} {l : Nat}

theorem nakStep_asked (htx : linkRx l = false) (hnak : (s.link l).nak ≠ []) :
    nakStep l s =
      let u := s.updLink l fun x =>
        { x with nak := [], resend := (s.link l).nak.foldl (fun t r => Tab.put r.1 r.2 t) x.resend
                 replays := satAdd x.replays (s.link l).nak.length }
      if linkFibre l then fibreSend l 512 u else u := by
  unfold nakStep
  dsimp only
  rw [if_neg (by simp [htx, hnak])]

theorem nakStep_none (hnak : (s.link l).nak = []) : nakStep l s = s := by
  unfold nakStep
  exact if_pos (by simp [hnak])

/-- The cycles that requests have waited are counted, where a request stands. -/
def countWaits (l waited : Nat) (requests : List (Nat × Nat)) (s : State) : State :=
  s.updLink l fun x =>
    { x with grantWaits := if requests.filter (requestStands s l) = [] then x.grantWaits else satAdd x.grantWaits waited }

section
variable {waited : Nat} {requests : List (Nat × Nat)} (hrx : linkRx l = true) (hbase : linkFibre l = false) (hup : linkUp s l = true)
include hrx hbase hup

theorem grantStep_kept (hkept : ((countWaits l waited requests s).link l).paused = true ∨
      grantOver (countWaits l waited requests s) l = false) :
    grantStep l requests waited s = countWaits l waited requests s := by
  unfold grantStep
  rw [if_pos (by simp [hrx, hbase, hup])]
  refine if_pos ?_
  change (((countWaits l waited requests s).link l).paused || !grantOver (countWaits l waited requests s) l) = true
  rcases hkept with h | h <;> simp [h]

variable (hfree : ((countWaits l waited requests s).link l).paused = false) (hover : grantOver (countWaits l waited requests s) l = true)
include hfree hover

theorem grantStep_ended
    (hnone : nextGrant ((countWaits l waited requests s).link l) (requests.filter (requestStands s l)) = none) :
    grantStep l requests waited s = (countWaits l waited requests s).updLink l fun x => { x with granted := none, grantFrames := 0 } := by
  unfold countWaits at *
  unfold grantStep
  rw [if_pos (by simp [hrx, hbase, hup])]
  dsimp only
  rw [if_neg (by simp only [hfree, hover]; decide), hnone]

theorem grantStep_passed {t vc : Nat}
    (hsome : nextGrant ((countWaits l waited requests s).link l) (requests.filter (requestStands s l)) = some (t, vc)) :
    grantStep l requests waited s = (countWaits l waited requests s).updLink l fun x =>
      { x with granted := some t, grantFrames := 0, grantCap := grantFor (countWaits l waited requests s) l vc } := by
  unfold countWaits at *
  unfold grantStep
  rw [if_pos (by simp [hrx, hbase, hup])]
  dsimp only
  rw [if_neg (by simp only [hfree, hover]; decide), hsome]

end

end

/-! ### Credits (R433, R435) -/

theorem packetUnits_pos (p : BasePacket) : 0 < packetUnits p := by
  unfold packetUnits ceilDiv
  omega

/-- No packet fits in no units. -/
theorem drainQueue_empty (l vc fuel : Nat) (s : State) : drainQueue l vc fuel 0 s = s := by
  cases fuel with
  | zero => rfl
  | succ fuel =>
    unfold drainQueue
    split
    case h_1 => rfl
    case h_2 p _ _ _ =>
      have := packetUnits_pos p
      exact if_neg (by simp; omega)

section
variable {s : State} {l vc t : Nat} {p : BasePacket} {rest : List (BasePacket × Nat)} (hrx : linkRx l = true) (hbase : linkFibre l = false)
  (hvc : vc < 4) (hqueue : Tab.getD [] (4 * l + vc) s.base.queues = (p, t) :: rest)
include hrx hbase hvc

theorem creditStep_base (units : Nat) : creditStep l vc units s = admitAll (drainQueue l vc units units s) := by
  unfold creditStep
  rw [if_neg (by simp [hrx, hbase]), Nat.mod_eq_of_lt hvc]

include hqueue

/-- The packet at the front leaves, where it can, with its units. -/
theorem creditStep_drains (hdrains : drains s l p = true) : creditStep l vc (packetUnits p) s = admitAll (deliverBase l p
    (backTo t (4 * l + vc) (packetUnits p)
      (basinGive l vc (packetUnits p) { s with base.queues := Tab.put (4 * l + vc) rest s.base.queues }))) := by
  rw [creditStep_base hrx hbase hvc]
  obtain ⟨n, hn⟩ := Nat.exists_eq_succ_of_ne_zero (packetUnits_pos p).ne'
  rw [show drainQueue l vc (packetUnits p) (packetUnits p) s = drainQueue l vc (n + 1) (packetUnits p) s from
    congrArg (fun k => drainQueue l vc k (packetUnits p) s) hn]
  unfold drainQueue
  rw [hqueue]
  dsimp only
  rw [if_pos (by simp [hdrains]), Nat.sub_self, drainQueue_empty]

theorem creditStep_waits (hwaits : drains s l p = false) : creditStep l vc (packetUnits p) s = admitAll s := by
  rw [creditStep_base hrx hbase hvc]
  refine congrArg admitAll ?_
  generalize packetUnits p = units
  cases units with
  | zero => rfl
  | succ n =>
    unfold drainQueue
    rw [hqueue]
    exact if_neg (by simp [hwaits])

end

/-- Settles O42: the equations above, step by step. -/
theorem linkFramesGrantsAndCredits : Obligations.LinkFramesGrantsAndCredits := by
  unfold Obligations.LinkFramesGrantsAndCredits
  refine ⟨?frames, ?closed, ?silent, ?fibre, ?nak, ?parity, ?grant, ?retarget, ?credit⟩
  case frames =>
    intro s l t f content u hrx hbase hup hreset hsender hsends hnext v wire due run ends
    have hends : ∀ w, takeFrame l t wire false v = w → ends w := fun w h =>
      congrArg Host.Outcome.next ((frameReceive_sender hrx hbase hup hreset hsender hsends hnext).trans
        (congrArg (fun w => passCycle l (some t) (countFrame t l w)) h))
    refine ⟨fun hbad => ?_, ?_⟩
    · have htaken := takeFrame_bad (t := t) (s := v) hbase hbad
      refine ⟨fun hhere hthere => hends _ (htaken.trans (badFrame_standing hbase hhere hthere)), fun hnew => hends _ ?_⟩
      exact htaken.trans (badFrame_asked hbase hnew)
    · intro got syms hgood c w at' r
      refine ⟨fun hother => hends _ (takeFrame_discarded hbase hgood hother), fun hepoch hseq => ⟨fun hidle => hends _ ?_, fun hdata => hends _ ?_⟩⟩
      · rw [takeFrame_accepted hbase hgood (Or.inr hidle) hepoch hseq, acceptFrame_base t _ _ _ hbase]
        simp only [if_neg (show ¬(controlOf got).type = 0 from fun h => by simp [c, h] at hidle)]
        rfl
      · rw [takeFrame_accepted hbase hgood (Or.inl hdata) hepoch hseq, acceptFrame_base t _ _ _ hbase]
        simp only [if_pos (show (controlOf got).type = 0 from hdata)]
        rfl
  case closed => exact fun s l f h => congrArg Host.Outcome.next (frameReceive_closed h)
  case silent =>
    exact fun s l f hrx hbase hup hreset hsilent => congrArg Host.Outcome.next (frameReceive_silent hrx hbase hup hreset hsilent)
  case fibre =>
    exact fun s l f hrx hfibre hup hreset =>
      congrArg Host.Outcome.next ((frameReceive_fibre hrx hfibre hup hreset).trans (fibreFrame_eq l f s))
  case nak =>
    exact fun s l htx => ⟨fun hnak => congrArg Host.Outcome.next (nakStep_asked htx hnak),
      fun hnak => congrArg Host.Outcome.next (nakStep_none hnak)⟩
  case parity => exact fun s b n l => rfl
  case grant =>
    intro s l waited requests hrx hbase hup stand u
    exact ⟨fun hkept => congrArg Host.Outcome.next (grantStep_kept hrx hbase hup hkept),
      fun hfree hover hnone => congrArg Host.Outcome.next (grantStep_ended hrx hbase hup hfree hover hnone),
      fun t vc hfree hover hsome => congrArg Host.Outcome.next (grantStep_passed hrx hbase hup hfree hover hsome)⟩
  case retarget =>
    intro s l port d htx hup hfree hport hother hnew hbusy hcircuit
    refine congrArg Host.Outcome.next ?_
    unfold retargetStep
    dsimp only
    rw [hport]
    exact if_neg (by simp [htx, hup, hfree, hother, hnew, hbusy, hcircuit])
  case credit =>
    exact fun s l vc t p rest hrx hbase hvc hqueue =>
      ⟨fun hdrains => congrArg Host.Outcome.next (creditStep_drains hrx hbase hvc hqueue hdrains),
        fun hwaits => congrArg Host.Outcome.next (creditStep_waits hrx hbase hvc hqueue hwaits)⟩

end Sys2Proof.Machine
end

section
/-!
PROOF of O43: a lone window's start, deadline and end, and the rings of its links, by the steps' own equations (R422 to R425).
-/

namespace Sys2Proof.Machine

/-! ### A lone window (R422, R424, R427) -/

theorem windowDue_iff {s : State} {w : Window} :
    windowDue s w = true ↔ w.started = false ∧ w.start ≤ s.ft ∧ ∀ l ∈ w.links, linkQuiet s l = true := by
  simp [windowDue, and_assoc]

section
variable {s : State} {w : Window} (hw : s.base.windows = [w])
include hw

theorem windows_same : ({ s with base.windows := [w] } : State) = s := by
  rw [← hw]

theorem windowStart_due (hdue : windowDue s w = true) : windowStart s =
    reallot w.links s (w.acts.foldl (fun s a => startAct a s)
      (w.links.foldl (fun s l => holdLink l s) (takeBackAll w.links { s with base.windows := [{ w with started := true }] }))) := by
  unfold windowStart
  simp only [hw, List.filter_singleton, List.map_singleton, hdue, if_true, cond_true, List.foldl_cons, List.foldl_nil,
    List.flatMap_singleton]

theorem windowStart_early (hearly : windowDue s w = false) : windowStart s = s := by
  unfold windowStart
  simp only [hw, List.filter_singleton, List.map_singleton, hearly, cond_false, List.foldl_nil, List.flatMap_nil]
  exact windows_same hw

theorem windowDeadline_due (hstarted : w.started = true) (hlate : w.late = false) (hdue : w.start + 625 ≤ s.ft) :
    windowDeadline s = w.links.foldl (fun s l => linkDeadline l s) { s with base.windows := [{ w with late := true }] } := by
  unfold windowDeadline
  simp only [hw, List.filter_singleton, List.map_singleton, hstarted, hlate, hdue, decide_true, Bool.not_false, Bool.and_self, if_true,
    cond_true, List.foldl_cons, List.foldl_nil]

theorem windowDeadline_over (hover : w.late = true ∨ s.ft < w.start + 625) : windowDeadline s = s := by
  have hpast : (w.started && !w.late && decide (w.start + 625 ≤ s.ft)) = false := by
    rcases hover with h | h
    · simp [h]
    · simp [Nat.not_le.mpr h]
  unfold windowDeadline
  simp only [hw, List.filter_singleton, List.map_singleton, hpast, cond_false, List.foldl_nil]
  exact windows_same hw

theorem windowEnd_due (hstarted : w.started = true) (hdue : w.start + 640 ≤ s.ft) (hspare : spareLeft w = false) :
    let t := w.acts.foldl (fun s a => endAct a s)
      (w.links.foldl (fun s l => linkDeadline l s) { s with base.windows := [] })
    let flies := fun f : Nat × List FlightWindow =>
      f.2.any (fun w => decide (t.ft < w.start + 640)) || t.base.windows.any fun w => w.flight == some f.1
    windowEnd s = admitAll { t with torus.flights := t.torus.flights.filter flies } := by
  unfold windowEnd
  simp only [hw, List.filter_singleton, hstarted, hdue, hspare, decide_true, Bool.not_false, Bool.not_true, Bool.and_self, cond_true,
    cond_false, List.foldl_cons, List.foldl_nil]

end

/-! ### The rings of a link (R423, R425) -/

section
variable {s : State} {l : Nat} {ports : List Nat}

theorem ringsLocked_outside (hout : inWindow s l = false) : ringsLocked (l, ports) s = s := by
  unfold ringsLocked
  exact if_pos (by simp [hout])

theorem ringsLocked_all (hin : inWindow s l = true) (hall : ∀ p ∈ (s.link l).unset, p.1 ∈ ports) :
    ringsLocked (l, ports) s = resume l (s.link l).unset s := by
  unfold ringsLocked
  dsimp only
  rw [if_neg (by simp [hin]), if_pos (by simpa using hall)]

theorem ringsLocked_some (hin : inWindow s l = true) (hleft : ∃ p ∈ (s.link l).unset, p.1 ∉ ports) :
    ringsLocked (l, ports) s = lockPorts l ((s.link l).unset.filter fun p => ports.contains p.1)
      ((s.link l).unset.filter fun p => !ports.contains p.1) s := by
  unfold ringsLocked
  dsimp only
  rw [if_neg (by simp [hin]), if_neg (by simpa using hleft)]

theorem linkDeadline_free (hfree : (s.link l).paused = false) : linkDeadline l s = s := if_neg (by simp [hfree])

theorem linkDeadline_held (hheld : (s.link l).paused = true) :
    linkDeadline l s = (s.link l).unset.foldl (portUnset l) (resume l [] s) := if_pos hheld

end

/-- Settles O43: the window's three instants, the rings, and a link at its deadline. -/
theorem lockWindows : Obligations.LockWindows := by
  unfold Obligations.LockWindows
  refine ⟨?start, ?deadline, ?rings, ?held⟩
  case start =>
    intro s w hw
    refine ⟨fun hnew hinstant hquiet => congrArg Host.Outcome.next
      (windowStart_due hw (windowDue_iff.mpr ⟨hnew, hinstant, hquiet⟩)), fun h => congrArg Host.Outcome.next (windowStart_early hw ?_)⟩
    rw [← Bool.not_eq_true, windowDue_iff]
    rintro ⟨hnew, hinstant, hquiet⟩
    rcases h with h | h | ⟨l, hl, h⟩
    · simp [h] at hnew
    · omega
    · simp [hquiet l hl] at h
  case deadline =>
    exact fun s w hw hstarted => ⟨fun hlate hdue => congrArg Host.Outcome.next (windowDeadline_due hw hstarted hlate hdue),
      fun hover => congrArg Host.Outcome.next (windowDeadline_over hw hover),
      fun hdue hspare => congrArg Host.Outcome.next (windowEnd_due hw hstarted hdue hspare)⟩
  case rings =>
    exact fun s l ports => ⟨fun hin hall => congrArg Host.Outcome.next (ringsLocked_all hin hall),
      fun hin hleft => congrArg Host.Outcome.next (ringsLocked_some hin hleft),
      fun hout => congrArg Host.Outcome.next (ringsLocked_outside hout)⟩
  case held =>
    refine fun s l => ⟨linkDeadline_free, fun hheld hset => ?_, fun port dest hheld hunset => ?_⟩
    · rw [linkDeadline_held hheld, hset]
      rfl
    · rw [linkDeadline_held hheld, hunset]
      rfl

end Sys2Proof.Machine
end

section
/-!
PROOF of O44: a contribution at its basin and a complete entry's sum, one equation for each place where they may end; what a base logic
reset leaves of the base, of the page-table copies and of the port plan, key by key (R421, R436 to R444, R512).
-/

namespace Sys2Proof.Machine

/-! ### Contributions (R436 to R440) -/

section
variable {s : State} {l : Nat} {p : BasePacket}

/-- A contribution goes back with a status: its group ends, and its place in the basin is free. -/
def giveBack (l : Nat) (p : BasePacket) (status : Nat) (s : State) : State :=
  endCollective p.srcBerth (tagGroup p.tag) status
    { unqueue p (whereQueued s (linkBerth l) p) s with
      base.returned := s.base.returned ++ [(linkBerth l, tagGroup p.tag, p.addr)] }

theorem basinStep_other (h : p.kind ≠ 4 ∨ linkFibre l = true ∨ (24 ≤ linkBerth l ∧ linkBerth l < 30)) : basinStep l p s = s := by
  unfold basinStep
  refine if_pos ?_
  rcases h with h | h | h <;> simp [h]

variable (hkind : p.kind = 4) (hbase : linkFibre l = false)
include hkind hbase

theorem basinStep_target (hberth : 30 ≤ linkBerth l) : basinStep l p s = giveBack l p St.reductionTarget s := by
  unfold basinStep
  dsimp only
  rw [if_neg (by simp [hkind, hbase]; omega), if_pos hberth]
  rfl

variable (hberth : linkBerth l < 24)
include hberth

theorem basinStep_finished (hdone : (linkBerth l, tagGroup p.tag, p.addr, p.srcBerth) ∈ s.base.finished) :
    basinStep l p s = giveBack l p St.reductionOverrun s := by
  unfold basinStep
  dsimp only
  rw [if_neg (by simp [hkind, hbase]; omega), if_neg (by omega), if_pos (by simpa using hdone)]
  rfl

variable (hnew : (linkBerth l, tagGroup p.tag, p.addr, p.srcBerth) ∉ s.base.finished)
include hnew

/-- Where no entry of its group and address stands, a contribution opens one. -/
theorem basinStep_opens (hnone : basinFind s (linkBerth l, tagGroup p.tag, p.addr) = none) : basinStep l p s =
    if tagExpects p.tag < tagCarried p.tag then giveBack l p St.reductionOverrun s
    else if 96 ≤ entriesAt s (linkBerth l) p.addr then s
    else occupy (homeLink (linkBerth l) p.addr) 3 (packetUnits p) (basinPut (linkBerth l, tagGroup p.tag, p.addr)
      { link := homeLink (linkBerth l) p.addr, sender := whereQueued s (linkBerth l) p, units := packetUnits p, unit := p.destUnit
        srcBerth := p.srcBerth, sum := bytesElems (tagType p.tag) (fromTorus p).payload
        rtype := tagType p.tag, flush := tagFlush p.tag, carried := tagCarried p.tag, expects := tagExpects p.tag
        done := decide (tagExpects p.tag ≤ tagCarried p.tag) }
      (unqueueKept p (whereQueued s (linkBerth l) p) s)) := by
  unfold basinStep
  dsimp only
  rw [if_neg (by simp [hkind, hbase]; omega), if_neg (by omega), if_neg (by simpa using hnew), hnone]
  rfl

/-- Where one stands, it is added to it, or goes back. -/
theorem basinStep_adds {e : BasinEntry} (hsome : basinFind s (linkBerth l, tagGroup p.tag, p.addr) = some e) :
    let sum := reduceElems e.rtype e.flush e.sum (bytesElems (tagType p.tag) (fromTorus p).payload)
    basinStep l p s =
      if e.done || e.expects < e.carried + tagCarried p.tag then giveBack l p St.reductionOverrun s
      else groupFlags p.srcBerth (tagGroup p.tag) sum.2 (basinPut (linkBerth l, tagGroup p.tag, p.addr)
        { e with sum := sum.1, carried := e.carried + tagCarried p.tag, done := decide (e.expects ≤ e.carried + tagCarried p.tag) }
        (unqueue p (whereQueued s (linkBerth l) p) s)) := by
  unfold basinStep
  dsimp only
  rw [if_neg (by simp [hkind, hbase]; omega), if_neg (by omega), if_neg (by simpa using hnew), hsome]
  rfl

end

/-! ### A complete entry's sum (R366, R439) -/

section
variable {s : State} {b group addr : Nat} {e : BasinEntry} (hfind : basinFind s (b, group, addr) = some e)
include hfind

theorem basinDone_open (hopen : e.done = false) : basinDone b group addr s = s := by
  unfold basinDone
  dsimp only
  rw [hfind]
  exact if_neg (by simp [hopen])

variable (hcoll : entryColl s group addr e = none) (hdone : e.done = true)
include hcoll hdone

theorem basinDone_write (hberth : 16 ≤ b) : basinDone b group addr s =
    berthWrite { addr := addr, data := (elemBytes e.rtype e.sum).take 256, berth := b, stamp := none, orig := .basin b }
      (finishEntry (b, group, addr) e s) := by
  unfold basinDone
  dsimp only
  rw [hfind]
  dsimp only
  rw [if_pos hdone, if_pos hberth, hcoll]

theorem basinDone_port (hberth : b < 16) :
    let d := (elemBytes e.rtype e.sum).take 256
    let p : BasePacket :=
      { stamp := 0, addr := addr, kind := 0, vc := 1, destBerth := b, destUnit := e.unit, srcBerth := b, srcUnit := 0
        len := d.length, tag := 0, payload := d }
    basinDone b group addr s = if portFree s b p then portEnter b .none p (finishEntry (b, group, addr) e s) else s := by
  unfold basinDone
  dsimp only
  rw [hfind]
  dsimp only
  rw [if_pos hdone, if_neg (by omega), hcoll]

end

/-! ### The reset (R442 to R444) -/

section
variable {s : State} {b : Nat} (hstands : stranded s = false) (hruns : s.sec.halted = none) (hreset : s.base.reset = none)

theorem baseReset_answered (hfew : Tab.getD 0 b s.base.silent < 2) : baseReset b s = s := by
  unfold baseReset
  exact if_pos (by simp [hfew])

include hstands hruns hreset

theorem baseReset_silent (hsilent : 2 ≤ Tab.getD 0 b s.base.silent) : baseReset b s =
    if betweenVerdict s then { s with base.resetWanted := s.base.resetWanted.or (some b) } else resetBase b s := by
  unfold baseReset
  exact if_neg (by simp [hstands, hruns, hreset]; omega)

end

/-- The base holds no packet, entry or waiting packet after a reset, and no link, listed or not, a port, a packet or the state UP. -/
theorem dropBase_empty (s : State) : (dropBase s).base.queues = [] ∧ (dropBase s).base.basins = [] ∧ (dropBase s).base.waiting = [] ∧
    ∀ l, ((dropBase s).link l).ports = [] ∧ ((dropBase s).link l).queue = [] ∧ ((dropBase s).link l).state < 2 := by
  refine ⟨rfl, rfl, rfl, fun l => ?_⟩
  unfold State.link Tab.getD dropBase
  dsimp only
  rw [find?_mapVals]
  cases Tab.find? l s.base.links with
  | none => exact ⟨rfl, rfl, by decide⟩
  | some x => exact ⟨rfl, rfl, Nat.lt_succ_of_le (Nat.min_le_right _ _)⟩

/-! ### The page-table copies (R512) -/

/-- One berth's copies are compared, and where they differ left alike. -/
def mendTable (s : State) (k : Nat) : State :=
  let (x, s) := drawBelow 3 s
  let b := s.memBerth k
  if b.tableA = b.tableB then s
  else
    let s := if x = 1 then s.updMemBerth k fun b => { tablesAlike { b with tableA := b.tableB } with repairs := satInc b.repairs }
      else if x = 2 then s.updMemBerth k fun b => { tablesAlike b with repairs := satInc b.repairs }
      else s
    (tableUpdate k s).updMemBerth k tablesAlike

theorem mendTables_eq (s : State) : mendTables s = (List.range 8).foldl mendTable s := rfl

theorem mendTable_base (s : State) (k : Nat) : (mendTable s k).base = s.base := by
  unfold mendTable
  dsimp only
  split
  case isTrue => rfl
  case isFalse =>
    split
    case isTrue => rfl
    case isFalse => split <;> rfl

theorem mendTable_alike (s : State) (k : Nat) : ((mendTable s k).memBerth k).tableB = ((mendTable s k).memBerth k).tableA := by
  unfold mendTable
  dsimp only
  split
  case isTrue h => exact h.symm
  case isFalse => rw [State.updMemBerth_memBerth]; rfl

theorem mendTable_other (s : State) {k j : Nat} (h : j ≠ k) : (mendTable s k).memBerth j = s.memBerth j := by
  unfold mendTable
  dsimp only
  split
  case isTrue => rfl
  case isFalse =>
    rw [State.updMemBerth_memBerth_ne _ _ _ _ h]
    unfold tableUpdate
    rw [State.updMemBerth_memBerth_ne _ _ _ _ h]
    split
    case isTrue => exact State.updMemBerth_memBerth_ne _ _ _ _ h
    case isFalse =>
      split
      case isTrue => exact State.updMemBerth_memBerth_ne _ _ _ _ h
      case isFalse => rfl

theorem mendTables_base (s : State) : (mendTables s).base = s.base := by
  rw [mendTables_eq]
  exact foldl_keeps (fun u => u.base) mendTable_base _ s

theorem mendTables_alike (s : State) {k : Nat} (hk : k < 8) : ((mendTables s).memBerth k).tableB = ((mendTables s).memBerth k).tableA := by
  rw [mendTables_eq]
  refine foldl_establishes (P := fun u : State => (u.memBerth k).tableB = (u.memBerth k).tableA) (f := mendTable) (List.mem_range.mpr hk)
    (fun u => mendTable_alike u k) (fun u j _ h => ?_) s
  by_cases hj : k = j
  · exact hj ▸ mendTable_alike u k
  · rw [mendTable_other u hj]
    exact h

/-! ### The default plan (R421) -/

/-- One transmit link takes its default ports. -/
def planLink (s : State) (x : Nat × Nat) : State :=
  s.updLink (txLink x.1 x.2) fun y => { y with ports := planPorts x.1 x.2, unset := [], active := 0 }

/-- The transmit links of the base, by berth and number. -/
def planned : List (Nat × Nat) := (List.range 32).flatMap fun b => (List.range 8).map fun r => (b, r)

theorem mem_planned {x : Nat × Nat} : x ∈ planned ↔ x.1 < 32 ∧ x.2 < 8 := by
  simp [planned, Prod.ext_iff]

theorem installPlan_eq (s : State) : installPlan s = planned.foldl planLink s := by
  unfold installPlan planned
  rw [List.foldl_flatMap]
  simp only [List.foldl_map]
  rfl

theorem installPlan_ports (s : State) {b k : Nat} (hb : b < 32) (hk : k < 8) :
    ((installPlan s).link (txLink b k)).ports = planPorts b k := by
  rw [installPlan_eq]
  refine foldl_establishes (P := fun u : State => (u.link (txLink b k)).ports = planPorts b k) (f := planLink) (x := (b, k))
    (mem_planned.mpr ⟨hb, hk⟩) (fun u => ?_) (fun u y hy h => ?_) s
  · unfold planLink
    rw [State.updLink_link]
  · obtain ⟨hyb, hyk⟩ := mem_planned.mp hy
    unfold planLink
    by_cases he : txLink b k = txLink y.1 y.2
    · have hsame : b = y.1 ∧ k = y.2 := by unfold txLink at he; omega
      rw [he, State.updLink_link, hsame.1, hsame.2]
    · rw [State.updLink_link_ne _ _ _ _ he]
      exact h

/-! ### The release and the reload (R444) -/

section
variable {s : State} {r : BaseReset} (hreset : s.base.reset = some r)
include hreset

theorem baseRelease_early (hnew : r.released = false) (hearly : s.ft < r.start + 125) : baseRelease s = s := by
  unfold baseRelease
  rw [hreset]
  exact if_neg (by simp [hnew]; omega)

theorem baseRelease_due (hnew : r.released = false) (hdue : r.start + 125 ≤ s.ft) : baseRelease s =
    mendTables { s with base.reset := some { r with released := true }, base.epoch := (s.base.epoch + 1) % 256 } := by
  unfold baseRelease
  rw [hreset]
  exact if_pos (by simp [hnew, hdue])

theorem planReloaded_early {down : List Nat} (hnew : r.released = false) : planReloaded down s = s := by
  unfold planReloaded
  rw [hreset]
  exact if_neg (by simp [hnew])

theorem planReloaded_released (down : List Nat) (hreleased : r.released = true) :
    let u := fibreCredits (allotAll (s.base.kept.foldl (fun s k => restoreCircuit k s)
      (installPlan { s with base.reset := none, base.kept := [] })))
    let works := fun l : Nat => !down.contains l && !(darkLinks u).contains l &&
      (!linkFibre l || ((u.link l).state == 1 && trainedRight u ((l - 512) / 16) l))
    planReloaded down s = ((down.map fun l => (linkPair l).getD 1 l).eraseDups).foldl (fun s l =>
      logEvent Ev.linkUnrecovered (leBytes 1 (linkBerth l) ++ leBytes 1 (linkIdx l) ++ leBytes 2 0) s)
        (setLinks ((trainable u).filter works) 2 u) := by
  unfold planReloaded
  rw [hreset]
  exact if_pos hreleased

end

/-- Settles O44: contributions and sums by their equations, the reset by what it leaves, key by key. -/
theorem basinsAndBaseLogicReset : Obligations.BasinsAndBaseLogicReset := by
  unfold Obligations.BasinsAndBaseLogicReset
  refine ⟨?reduce, ?sum, ?reset, dropBase_empty, ?release, ?reload⟩
  case reduce =>
    intro s l p b k carried vals place back
    refine ⟨fun h => congrArg Host.Outcome.next (basinStep_other h),
      fun hkind hbase hberth => congrArg Host.Outcome.next (basinStep_target hkind hbase hberth),
      fun hkind hbase hberth hdone => congrArg Host.Outcome.next (basinStep_finished hkind hbase hberth hdone),
      fun hkind hbase hberth hnew hnone => ?_, fun e hkind hbase hberth hnew hsome => ?_⟩
    · have hopens := basinStep_opens hkind hbase hberth hnew hnone
      exact ⟨fun hmore => congrArg Host.Outcome.next (hopens.trans (if_pos hmore)),
        fun hfits hfull => congrArg Host.Outcome.next (hopens.trans ((if_neg (Nat.not_lt.mpr hfits)).trans (if_pos hfull))),
        fun hfits hroom => congrArg Host.Outcome.next
          (hopens.trans ((if_neg (Nat.not_lt.mpr hfits)).trans (if_neg (Nat.not_le.mpr hroom))))⟩
    · have hadds := basinStep_adds hkind hbase hberth hnew hsome
      refine ⟨fun hopen hfits => congrArg Host.Outcome.next (hadds.trans (if_neg ?_)),
        fun hover => congrArg Host.Outcome.next (hadds.trans (if_pos ?_))⟩
      · simpa [hopen] using hfits
      · simpa using hover
  case sum =>
    intro s b group addr e hfind hcoll d u p
    exact ⟨fun hopen => congrArg Host.Outcome.next (basinDone_open hfind hopen),
      fun hdone hberth => congrArg Host.Outcome.next (basinDone_write hfind hcoll hdone hberth),
      fun hdone hberth hfree => congrArg Host.Outcome.next ((basinDone_port hfind hcoll hdone hberth).trans (if_pos hfree)),
      fun hdone hberth hfull => congrArg Host.Outcome.next
        ((basinDone_port hfind hcoll hdone hberth).trans (if_neg (ne_true_of_eq_false hfull)))⟩
  case reset =>
    intro s b hstands hruns hreset
    refine ⟨fun hfew => congrArg Host.Outcome.next (baseReset_answered hfew), fun hsilent hbetween => congrArg Host.Outcome.next ?_,
      fun hsilent hbetween => congrArg Host.Outcome.next ?_⟩
    · exact (baseReset_silent hstands hruns hreset hsilent).trans (if_pos hbetween)
    · exact (baseReset_silent hstands hruns hreset hsilent).trans (if_neg (by simp [hbetween]))
  case release =>
    intro s r hreset hnew
    refine ⟨fun hearly => congrArg Host.Outcome.next (baseRelease_early hreset hnew hearly), fun hdue => ?_⟩
    refine ⟨_, congrArg Host.Outcome.next (baseRelease_due hreset hnew hdue), ?_, ?_, fun k hk => mendTables_alike _ hk⟩
    · rw [mendTables_base]
    · rw [mendTables_base]
  case reload =>
    intro s r down hreset
    exact ⟨fun hnew => congrArg Host.Outcome.next (planReloaded_early hreset hnew),
      fun hreleased => congrArg Host.Outcome.next (planReloaded_released hreset down hreleased),
      fun b k hb hk => installPlan_ports s hb hk⟩

end Sys2Proof.Machine
end

section
/-!
PROOF of O46: a ring that its window has swept, a calibration step in and out of its gap, and a slot of the governor (R426, R475 to R482).
-/

namespace Sys2Proof.Machine

/-! ### Rings (R475, R476) -/

section
variable {s : State} {r : RingRef}

theorem relockStep_unswept (own : Bool) (h : s.light.swept.contains r = false) : relockStep r own s = s := by
  unfold relockStep
  exact if_pos (by simpa using h)

variable (hswept : s.light.swept.contains r = true)
include hswept

theorem relockStep_own (hrelief : Tab.has r.lane (s.link (ringLink r)).relief = true) : relockStep r true s =
    { s.updLink (ringLink r) (fun x =>
        { x with relief := Tab.del r.lane x.relief, leaving := Tab.put r.lane (s.ft + 128) x.leaving }) with
      light.wrong := s.light.wrong.erase r, light.suspects := s.light.suspects.erase (ringLink r, r.lane)
      light.swept := s.light.swept.erase r } := by
  unfold relockStep returnLane State.updLink
  dsimp only
  rw [if_neg (by simpa using hswept), if_pos rfl, if_pos hrelief]

theorem relockStep_other : relockStep r false s =
    maintenance [ringLink r] [.relock r] { s with light.swept := s.light.swept.erase r } := by
  unfold relockStep
  dsimp only
  rw [if_neg (by simpa using hswept), if_neg (by decide)]

end

/-! ### Calibration (R426, R477, R478) -/

section
variable {s u : State} {cls item : Nat} {value aux : Int}

theorem calibStep_gap (hcls : cls < 5) (hgap : calibGap cls item s = (u, true)) :
    calibStep cls item value aux s = calibRun cls item value aux u := by
  unfold calibStep
  rw [if_neg (by omega), hgap]
  rfl

theorem calibStep_closed (hcls : cls < 5) (hgap : calibGap cls item s = (u, false)) : calibStep cls item value aux s = u := by
  unfold calibStep
  rw [if_neg (by omega), hgap]
  rfl

theorem calibStep_beyond (hcls : 5 ≤ cls) : calibStep cls item value aux s = s := if_pos hcls

theorem calibGap_laser : calibGap 0 item s = (s, inSlack s && (calibDue s == [] || (calibDue s).contains item)) := rfl

theorem calibGap_ring : calibGap 1 item s = ringGap item s := rfl

theorem calibGap_receiver : calibGap 2 item s = (s, (s.link (item / 32)).granted.isNone) := rfl

theorem calibGap_slack (hcls : cls = 3 ∨ cls = 4) : calibGap cls item s = (s, inSlack s) := by
  rcases hcls with rfl | rfl <;> rfl

/-- A ring in no window is given one. -/
theorem ringGap_unplaced (hnone : (s.base.windows.any fun w => w.acts.contains (.calib item)) = false) :
    ringGap item s = (maintenance [item / 32] [.calib item] s, false) := by
  have hstarted : (s.base.windows.any fun w => w.acts.contains (.calib item) && w.started) = false := by
    rw [List.any_eq_false] at hnone ⊢
    exact fun w hw h => hnone w hw (Bool.and_eq_true_iff.mp h).1
  unfold ringGap
  dsimp only
  rw [if_neg (by simp only [hstarted]; decide), if_neg (by simp only [hnone]; decide)]

/-- In its window, once begun, the ring's step is taken. -/
theorem ringGap_begun {w : Window} (hw : s.base.windows = [w]) (hstarted : w.started = true) (hact : w.acts.contains (.calib item) = true) :
    ringGap item s = ({ s with base.windows := [{ w with acts := w.acts.erase (.calib item) }] }, true) := by
  unfold ringGap
  dsimp only
  simp only [hw, List.any_cons, List.any_nil, hact, hstarted, Bool.and_self, Bool.or_false, if_true, List.map_cons, List.map_nil]

theorem calibRun_laser (hok : calibOk s 0 item value aux = true) : calibRun 0 item value aux s =
    laserCalibrated item value aux { calibCount 0 item true s with
      light.calDue := (calibCount 0 item true s).light.calDue.filter (· ≠ item) } := by
  unfold calibRun
  dsimp only
  rw [hok]
  rfl

theorem calibRun_ring (hok : calibOk s 1 item value aux = true) : calibRun 1 item value aux s =
    let v := calibCount 1 item true s
    { v with light.ringValue := Tab.put item value v.light.ringValue, light.ringCoef := Tab.put item aux v.light.ringCoef
             light.ringRejects := Tab.put item 0 v.light.ringRejects } := by
  unfold calibRun
  dsimp only
  rw [hok]
  rfl

theorem calibRun_receiver : calibRun 2 item value aux s =
    if calibOk s 2 item value aux then
      { calibCount 2 item true s with light.rxOffset := Tab.put item value (calibCount 2 item true s).light.rxOffset }
    else calibCount 2 item false s := by
  unfold calibRun
  dsimp only
  cases calibOk s 2 item value aux <;> rfl

theorem calibRun_counted (hcls : cls = 3 ∨ cls = 4) : calibRun cls item value aux s = calibCount cls item true s := by
  rcases hcls with rfl | rfl <;> rfl

end

theorem calibOk_receiver_limits {s : State} {value : Int} (h : value < -4000 ∨ 4000 < value) (item : Nat) (aux : Int) :
    calibOk s 2 item value aux = false := by
  have hout : decide (-4000 ≤ value ∧ value ≤ 4000) = false := decide_eq_false (by omega)
  unfold calibOk
  simp [hout]

/-! ### The governor (R479 to R482) -/

/-- The reaches of a stack after a slot. -/
def slotReaches (work limited : Bool) (n : Nat) (t : Tab Reach) : Tab Reach :=
  (List.range 8).foldl (fun t r =>
    Tab.put r (reachSlot work (if limited then some (Config.free (n + r)) else none) (Tab.getD {} r t)) t) t

theorem slotReaches_enable (work limited : Bool) (n : Nat) (t : Tab Reach) {r : Nat} (hr : r < 8) :
    (Tab.getD {} r (slotReaches work limited n t)).enable = if work then min 8 ((Tab.getD {} r t).enable + 1) else 0 := by
  unfold slotReaches
  rw [getD_foldl_change {} (fun r => reachSlot work (if limited then some (Config.free (n + r)) else none)) List.nodup_range,
    if_pos (List.mem_range.mpr hr)]
  rfl

/-- The estimate keeps the slot's mark, counts and reaches. -/
theorem slotEstimate_keeps (demand : Nat) (stop : Bool) (x : Stack) : (slotEstimate demand stop x).slotAt = x.slotAt ∧
    (slotEstimate demand stop x).acts = x.acts ∧ (slotEstimate demand stop x).reaches = x.reaches := by
  unfold slotEstimate
  split
  case isTrue => exact ⟨rfl, rfl, rfl⟩
  case isFalse => split <;> exact ⟨rfl, rfl, rfl⟩

theorem slotEstimate_estimate (demand : Nat) (stop : Bool) (x : Stack) : (slotEstimate demand stop x).estimate =
    if x.estimate + 384 < demand then x.estimate + 384 else if demand + 384 < x.estimate then x.estimate - 384 else demand := by
  unfold slotEstimate
  split
  case isTrue => rfl
  case isFalse => split <;> rfl

theorem slotEstimate_ballast {demand : Nat} (stop : Bool) {x : Stack} (h : demand + 384 < x.estimate) :
    (slotEstimate demand stop x).ballastEnergy = x.ballastEnergy + (x.estimate - 384 - demand) := by
  unfold slotEstimate
  rw [if_neg (by omega), if_pos h]

theorem governStep_idle {s : State} {k : Nat} (periods : Nat)
    (h : (s.stack k).powered = false ∨ (s.stack k).clocked = false ∨ (s.stack k).slotAt = some (s.ft / 16)) : governStep k periods s = s := by
  unfold governStep
  exact if_neg (by rcases h with h | h | h <;> simp [h])

/-- A slot that runs draws the issues left where the rise is limited, and changes its stack alone. -/
theorem governStep_slot {s : State} {k : Nat} (periods : Nat) (hpowered : (s.stack k).powered = true)
    (hclocked : (s.stack k).clocked = true) (hslot : (s.stack k).slotAt ≠ some (s.ft / 16)) : ∃ fc limited,
      governStep k periods s = ({ s with freeCtr := fc } : State).updStack k fun x =>
        slotEstimate (slotPower k periods (s.stack k).acts) (meshesStop s)
          { x with reaches := slotReaches (!meshesStop s && stackWork s k) limited s.freeCtr (s.stack k).reaches
                   slotAt := some (s.ft / 16), acts := [] } := by
  unfold governStep
  rw [if_pos (by simp [hpowered, hclocked, hslot])]
  exact ⟨_, _, rfl⟩

/-- Settles O46: rings and calibration gap by gap, and the slot by what its estimate keeps. -/
theorem ringsCalibrationAndGovernor : Obligations.RingsCalibrationAndGovernor := by
  unfold Obligations.RingsCalibrationAndGovernor
  refine ⟨?rings, ?calibration, ?limits, ?idle, ?slot⟩
  case rings =>
    exact fun s r => ⟨fun h own => congrArg Host.Outcome.next (relockStep_unswept own h),
      fun hswept hrelief => congrArg Host.Outcome.next (relockStep_own hswept hrelief),
      fun hswept => congrArg Host.Outcome.next (relockStep_other hswept)⟩
  case calibration =>
    intro s item value aux
    refine ⟨fun hslack => congrArg Host.Outcome.next (calibStep_closed (by decide) ?_),
      fun hslack hothers => congrArg Host.Outcome.next (calibStep_closed (by decide) ?_),
      fun hslack hdue hok => congrArg Host.Outcome.next ((calibStep_gap (by decide) ?_).trans (calibRun_laser hok)),
      fun hnone => congrArg Host.Outcome.next (calibStep_closed (by decide) (calibGap_ring.trans (ringGap_unplaced hnone))),
      ?_, fun hgranted => congrArg Host.Outcome.next (calibStep_closed (by decide) ?_), fun hfree => ?_, fun cls => ?_⟩
    · simp [calibGap_laser, hslack]
    · simp [calibGap_laser, hothers.1, hothers.2]
    · rcases hdue with h | h <;> simp [calibGap_laser, hslack, h]
    · intro w hw hstarted hact u hok
      exact congrArg Host.Outcome.next
        ((calibStep_gap (by decide) (calibGap_ring.trans (ringGap_begun hw hstarted hact))).trans (calibRun_ring hok))
    · simpa [calibGap_receiver] using hgranted
    · have hruns := (calibStep_gap (value := value) (aux := aux) (by decide)
        (show calibGap 2 item s = (s, true) by simp [calibGap_receiver, hfree])).trans calibRun_receiver
      exact ⟨fun hok => congrArg Host.Outcome.next (hruns.trans (if_pos hok)),
        fun hbad => congrArg Host.Outcome.next (hruns.trans (if_neg (by simp [hbad])))⟩
    · refine ⟨fun hcls hslack => congrArg Host.Outcome.next ((calibStep_gap (by omega) ?_).trans (calibRun_counted hcls)),
        fun hcls hslack => congrArg Host.Outcome.next (calibStep_closed (by omega) ?_),
        fun hcls => congrArg Host.Outcome.next (calibStep_beyond hcls)⟩
      · rw [calibGap_slack hcls, hslack]
      · rw [calibGap_slack hcls, hslack]
  case limits => exact fun s value h item aux => calibOk_receiver_limits h item aux
  case idle => exact fun s k periods h => congrArg Host.Outcome.next (governStep_idle periods h)
  case slot =>
    intro s k periods hpowered hclocked hslot demand
    obtain ⟨fc, limited, hstep⟩ := governStep_slot periods hpowered hclocked hslot
    generalize hx : ({ s.stack k with
      reaches := slotReaches (!meshesStop s && stackWork s k) limited s.freeCtr (s.stack k).reaches
      slotAt := some (s.ft / 16), acts := [] } : Stack) = x
    have hstack : (governStep k periods s).stack k = slotEstimate demand (meshesStop s) x := by
      rw [hstep, ← hx]
      exact State.updStack_stack _ _ _
    obtain ⟨hat, hacts, hreaches⟩ := slotEstimate_keeps demand (meshesStop s) x
    refine ⟨governStep k periods s, rfl, ?_, ?_, ?_, fun r hr => ?_, ?_, fun hfall => ?_⟩
    · rw [hstack, ← hx, hstep]
      rfl
    · rw [hstack, hat, ← hx]
    · rw [hstack, hacts, ← hx]
    · rw [hstack, hreaches, ← hx, slotReaches_enable _ _ _ _ hr]
      simp
    · rw [hstack, slotEstimate_estimate, ← hx]
    · rw [hstack, slotEstimate_ballast _ (by rw [← hx]; exact hfall), ← hx]

end Sys2Proof.Machine
end

section
/-!
PROOF of O47: a read at its memory berth, one equation for each way in which it is answered, and the three steps of a memory that is awake
(R367, R498, R513, R519, R526, R548, R552).
-/

namespace Sys2Proof.Machine

/-! ### Reads (R498, R500, R548, R552) -/

/-- What a read of a memory berth has found wrong before it is answered. -/
def readChecked (r : ReadReq) (p : ParitySeen) (sees : Held → Option Nat) (s : State) : State :=
  readErrors sees r.addr r.len (paritySeen (memBerthOf r.addr) p s)

section
variable {s : State} {id : Nat} {r : ReadReq} {p : ParitySeen}

theorem readStep_none (h : Tab.find? id s.mem.reads = none) : readStep id p s = s := by
  unfold readStep
  rw [h]

theorem readAnswer_own (hdest : ∀ src tag, r.dest ≠ .torus src tag) (d : Bytes) (bad : List Nat) (poisoned : Bool) (u : State) :
    readAnswer id r d bad poisoned u =
      let t := readPacket id 2 (16 + memBerthOf r.addr) (r.core / 128) (r.core % 128) r.addr d 0
      enterBerth (16 + memBerthOf r.addr) none [{ t with pkt := { t.pkt with bad := bad } }]
        { u with mem.reads := Tab.put id { r with data := some d, poisoned := poisoned } u.mem.reads } := by
  unfold readAnswer
  split
  case h_1 src tag h => exact absurd h (hdest src tag)
  all_goals rfl

theorem readAnswer_torus {src tag : Nat} (hdest : r.dest = .torus src tag) (d : Bytes) (bad : List Nat) (poisoned : Bool) (u : State) :
    readAnswer id r d bad poisoned u = answerTorusRead r src tag d bad { u with mem.reads := Tab.del id u.mem.reads } := by
  unfold readAnswer
  rw [hdest]

theorem serveRead_own (hdest : ∀ src tag, r.dest ≠ .torus src tag) (u : State) : serveRead id r u =
    readAnswer id r (newestRead u r.addr r.len) (badOffsets u (seesNewest u) r.addr r.len)
      ((linesOf r.addr r.len).any (newestPoison u)) u := by
  unfold serveRead
  split
  case h_1 src tag h => exact absurd h (hdest src tag)
  all_goals rfl

theorem serveRead_torus {src tag : Nat} (hdest : r.dest = .torus src tag) (u : State) : serveRead id r u =
    if rangePoisoned u r.addr r.len then readAnswer id r [] [] true u
    else readAnswer id r (committedRead u r.addr r.len) (badOffsets u seesCommitted r.addr r.len) false u := by
  unfold serveRead
  rw [hdest]

theorem remote_none (hlocal : ∀ b, bufAtPage s (pageOf r.addr) = some b → b.remote = none) :
    ((bufAtPage s (pageOf r.addr)).bind fun b => b.remote.map fun f => (b, f)) = none := by
  rw [Option.bind_eq_none_iff]
  exact fun b hb => by rw [hlocal b hb]; rfl

variable (hr : Tab.find? id s.mem.reads = some r)
include hr

theorem readStep_left (h : r.data ≠ none ∨ r.tries ≠ 0 ∨ r.here = false) : readStep id p s = s := by
  unfold readStep
  rw [hr]
  exact if_pos (by rcases h with h | h | h <;> simp [h, Option.isSome_iff_ne_none])

variable (hdata : r.data = none) (htries : r.tries = 0) (hhere : r.here = true)
include hdata htries hhere

theorem readStep_bad (hbad : addressBad s r.addr = true) : readStep id p s =
    logEvent Ev.memAddress (leBytes 1 r.berth ++ leBytes 8 r.addr) (readAnswer id r (List.replicate r.len 0) [] false s) := by
  unfold readStep
  rw [hr]
  dsimp only
  rw [if_neg (by simp [hdata, htries, hhere]), if_pos hbad]

variable (hgood : addressBad s r.addr = false)
include hgood

theorem readStep_remote {b : Buffer} {f : Nat × Nat × Nat × Nat} (hbuf : bufAtPage s (pageOf r.addr) = some b)
    (hremote : b.remote = some f) : readStep id p s = forwardRead id r b f s := by
  unfold readStep
  rw [hr]
  dsimp only
  rw [if_neg (by simp [hdata, htries, hhere]), if_neg (by simp [hgood]), hbuf, Option.bind_some, hremote]
  rfl

variable (hlocal : ∀ b, bufAtPage s (pageOf r.addr) = some b → b.remote = none)
include hlocal

theorem readStep_own (hdest : ∀ src tag, r.dest ≠ .torus src tag) :
    readStep id p s = serveRead id r (readChecked r p (seesNewest s) s) := by
  unfold readStep
  rw [hr]
  dsimp only
  rw [if_neg (by simp [hdata, htries, hhere]), if_neg (by simp [hgood]), remote_none hlocal]
  dsimp only
  split
  case h_1 src tag h => exact absurd h (hdest src tag)
  case h_2 => rfl

theorem readStep_torus {src tag : Nat} (hdest : r.dest = .torus src tag) :
    readStep id p s = serveRead id r (readChecked r p seesCommitted s) := by
  unfold readStep
  rw [hr]
  dsimp only
  rw [if_neg (by simp [hdata, htries, hhere]), if_neg (by simp [hgood]), remote_none hlocal, hdest]
  rfl

end

/-- A read of one packet goes to the module of its page. -/
theorem forwardRead_short {r : ReadReq} (id : Nat) (b : Buffer) (f : Nat × Nat × Nat × Nat) (s : State) (hshort : r.len ≤ 224) :
    let first : ReadReq := { r with sentAt := s.ft, tries := 1 }
    forwardRead id r b f s = sendRead id first b f { s with mem.reads := Tab.put id first s.mem.reads } := by
  unfold forwardRead
  dsimp only
  rw [if_neg (Nat.not_lt.mpr hshort), if_neg (Nat.not_lt.mpr hshort)]

/-! ### Refresh, tracking, patrol (R513, R519, R526) -/

section
variable {s : State} {k : Nat}

theorem memAwake_iff : memAwake s k = true ↔ (s.memBerth k).selfRefresh = false ∧ s.power.pstate ≠ 4 := by
  simp [memAwake]

theorem refreshStep_awake (sub bank : Nat) (h : memAwake s k = true) : refreshStep k sub bank s =
    (drawBelow 2 s).2.updMemBerth k fun b =>
      { b with refreshed := Tab.put (sub * 16 + bank) s.ft b.refreshed, rfm := if (drawBelow 2 s).1 = 1 then satInc b.rfm else b.rfm } := by
  unfold refreshStep
  exact if_neg (by simp [h])

theorem refreshStep_asleep (sub bank : Nat) (h : memAwake s k = false) : refreshStep k sub bank s = s := if_pos (by simp [h])

theorem trackStep_left (sub : Nat) (ok : Bool)
    (h : memAwake s k = false ∨ inSlack s = false ∨ Tab.find? sub (s.memBerth k).trackedIn = some (s.ft / 131072)) :
    trackStep k sub ok s = s := by
  unfold trackStep
  exact if_pos (by rcases h with h | h | h <;> simp [h])

theorem trackStep_runs (sub : Nat) (ok : Bool) (h : memAwake s k = true) (hslack : inSlack s = true)
    (hround : Tab.find? sub (s.memBerth k).trackedIn ≠ some (s.ft / 131072)) : trackStep k sub ok s =
      calibCount 5 (48 * k + sub) ok ({ s with freeCtr := s.freeCtr + 1 }.updMemBerth k fun b =>
        { b with tracked := b.tracked + 1, trackedIn := Tab.put sub (s.ft / 131072) b.trackedIn
                 values := if ok then Tab.put sub (Config.trained s.freeCtr (48 * k + sub)) b.values else b.values }) := by
  unfold trackStep
  exact if_neg (by simp [h, hslack, hround])

theorem patrolStep_left (addr : Nat) (p : ParitySeen) (h : memAwake s k = false ∨ storeBerth addr ≠ k) : patrolStep k addr p s = s := by
  unfold patrolStep
  exact if_pos (by rcases h with h | h <;> simp [h])

theorem patrolStep_runs (addr : Nat) (p : ParitySeen) (h : memAwake s k = true) (hberth : storeBerth addr = k) :
    let v := paritySeen k p (s.updMemBerth k fun b => { b with patrolled := b.patrolled + 1 })
    patrolStep k addr p s = (lineHeads (v.mem.wrong.filter fun a => a / 32 == addr / 32)).foldl (fun s a => byteError a s) v := by
  unfold patrolStep
  exact if_neg (by simp [h, hberth])

end

/-- Settles O47: reads by how they are answered, and the three steps awake and asleep. -/
theorem memoryReadsRefreshAndPatrol : Obligations.MemoryReadsRefreshAndPatrol := by
  unfold Obligations.MemoryReadsRefreshAndPatrol
  refine ⟨fun s id p h => congrArg Host.Outcome.next (readStep_none h), ?reads, ?refresh, ?tracking, ?patrol, ?asleep⟩
  case reads =>
    intro s id r p hr k reply seen read
    have hread : ∀ sees, read sees = readChecked r p sees s := fun sees => by cases p <;> rfl
    refine ⟨fun h => congrArg Host.Outcome.next (readStep_left hr h), fun hdata htries hhere => ⟨fun hdest => ⟨fun hbad => ?_, ?_⟩,
      fun b f hgood hbuf hremote hshort => ?_, ?_⟩⟩
    · refine congrArg Host.Outcome.next ((readStep_bad hr hdata htries hhere hbad).trans ?_)
      rw [readAnswer_own hdest]
    · intro hgood hlocal u
      have hu : u = readChecked r p (seesNewest s) s := hread _
      refine congrArg Host.Outcome.next ((readStep_own hr hdata htries hhere hgood hlocal hdest).trans ?_)
      rw [← hu, serveRead_own hdest, readAnswer_own hdest]
    · exact congrArg Host.Outcome.next
        ((readStep_remote hr hdata htries hhere hgood hbuf hremote).trans (forwardRead_short id b f s hshort))
    · intro src tag hdest hgood hlocal u v
      have hu : u = readChecked r p seesCommitted s := hread _
      have hstep := (readStep_torus (p := p) hr hdata htries hhere hgood hlocal hdest).trans (serveRead_torus hdest _)
      rw [← hu] at hstep
      exact ⟨fun hclean => congrArg Host.Outcome.next
          (hstep.trans ((if_neg (by simp [hclean])).trans (readAnswer_torus hdest _ _ _ _))),
        fun hpoisoned => congrArg Host.Outcome.next (hstep.trans ((if_pos hpoisoned).trans (readAnswer_torus hdest _ _ _ _)))⟩
  case refresh =>
    exact fun s k sub bank hawake hpower =>
      congrArg Host.Outcome.next (refreshStep_awake sub bank (memAwake_iff.mpr ⟨hawake, hpower⟩))
  case tracking =>
    exact fun s k sub ok hawake hpower => ⟨fun h => congrArg Host.Outcome.next (trackStep_left sub ok (Or.inr h)),
      fun hslack hround => congrArg Host.Outcome.next (trackStep_runs sub ok (memAwake_iff.mpr ⟨hawake, hpower⟩) hslack hround)⟩
  case patrol =>
    intro s k addr p hawake hpower
    refine ⟨fun hother => congrArg Host.Outcome.next (patrolStep_left addr p (Or.inr hother)), ?_⟩
    intro hberth u v
    have hv : v = paritySeen k p u := by cases p <;> rfl
    have hstep := patrolStep_runs addr p (memAwake_iff.mpr ⟨hawake, hpower⟩) hberth
    clear_value v
    subst hv
    refine ⟨fun hclean => congrArg Host.Outcome.next (hstep.trans ?_), congrArg Host.Outcome.next hstep⟩
    rw [List.filter_eq_nil_iff.mpr fun a ha => by simpa using hclean a ha]
    rfl
  case asleep =>
    intro s k sub bank addr ok p h
    have hasleep : memAwake s k = false := by
      rw [← Bool.not_eq_true, memAwake_iff]
      rintro ⟨hawake, hpower⟩
      rcases h with h | h
      · simp [hawake] at h
      · exact hpower h
    exact ⟨congrArg Host.Outcome.next (refreshStep_asleep sub bank hasleep),
      congrArg Host.Outcome.next (trackStep_left sub ok (Or.inl hasleep)),
      congrArg Host.Outcome.next (patrolStep_left addr p (Or.inl hasleep))⟩

end Sys2Proof.Machine
end

section
/-!
PROOF of O49: joins, notices, flights and remote buffers by the steps' own equations; and the role of time-master, which what announces it
leaves alone (R427, R547, R559 to R569).
-/

namespace Sys2Proof.Machine

/-! ### Joins, and leaving (R559 to R562) -/

theorem takeNotice_absent {s : State} {coord : Nat} (h : ∀ c ∈ s.torus.control, coordOf c.src ≠ coordOf coord) :
    takeNotice coord s = none :=
  takeNotice_none (List.find?_eq_none.mpr fun c hc => by simpa using h c hc)

/-- A module that may join, and is not the time-master, asks for it where it knows the master. -/
theorem joinStep_asks {s : State} (hpartition : s.torus.partition ≠ 0) (hout : inStepNow s = false) (hjoining : s.torus.joining = false)
    (hlocked : s.time.mode = 2) (hpower : s.power.pstate < 3) (hreplay : s.pound.replay = false) (hrecovery : s.pound.recovery = none)
    (hopened : s.pound.opened = true) (hstands : stranded s = false) (hmaster : s.time.master = false) : joinStep s =
      if s.time.masterCoord.isSome then sendNotice (.join s.pound.committed) { s with torus.joining := true, torus.left := false }
      else { s with torus.joining := false, torus.left := false } := by
  unfold joinStep
  dsimp only
  rw [if_neg (by simp [hpartition, hout, hjoining, hlocked, hpower, hreplay, hrecovery, hopened, hstands]), if_neg (by simp [hmaster])]

theorem joinReceive_absent {s : State} {coord serial : Nat} (h : takeNotice coord s = none) : joinReceive coord serial s = s := by
  unfold joinReceive
  rw [h]

theorem joinReceive_taken {s u : State} {coord : Nat} (serial : Nat) (h : takeNotice coord s = some u) : joinReceive coord serial s =
    if u.time.master && u.torus.partition != 0 then
      nameMasterCut u.ft .named { u with torus.joiners := u.torus.joiners ++ [(coordOf coord, serial)] }
    else u := by
  unfold joinReceive
  rw [h]

section
variable {s : State} {at' : Nat}

theorem leaves_iff (hpartition : s.torus.partition ≠ 0) (hleft : s.torus.left = false) (hmaster : s.time.master = false)
    (hlast : s.time.lastTiming = some at') : (s.torus.partition != 0 && !s.torus.left && !s.time.master &&
      s.time.lastTiming.any fun t => decide (t + 1048576 ≤ s.ft)) = true ↔ at' + 1048576 ≤ s.ft := by
  rw [hlast, Option.any_some, hleft, hmaster, bne_iff_ne.mpr hpartition]
  simp only [Bool.not_false, Bool.true_and, decide_eq_true_iff]

theorem leaveStep_other (h : s.torus.partition = 0 ∨ s.torus.left = true ∨ s.time.master = true ∨ s.time.lastTiming = none) :
    leaveStep s = s := by
  unfold leaveStep
  refine if_neg ?_
  rcases h with h | h | h | h
  · simp [h]
  · simp [h]
  · simp [h]
  · simp [h]

end

/-! ### Notices (R564 to R566) -/

/-- What a notice of each kind does where it is taken. -/
def actOnNotice (n : Notice) (s : State) : State :=
  match n with
  | .cut c serial => namedCut c serial s
  | .flight f ws => takeFlight f ws s
  | .linkState c d up => takeLinkState c d up s
  | .master c => takeMaster c s

section
variable {s : State} {port id : Nat} {c : ControlIn}

theorem noticeReceive_absent (n : Notice) (h : ∀ c ∈ s.torus.control, c.port ≠ port) : noticeReceive port id n s = s := by
  have hfind : s.torus.control.find? (fun c => c.port == port) = none := List.find?_eq_none.mpr fun c hc => by simpa using h c hc
  unfold noticeReceive takeControl
  rw [hfind]
  rfl

variable (hc : (s.torus.control.find? fun c => c.port == port) = some c)
include hc

theorem noticeReceive_seen (n : Notice) (h : s.torus.partition = 0 ∨ id ∈ s.torus.seen) :
    noticeReceive port id n s = { s with torus.control := s.torus.control.erase c } := by
  unfold noticeReceive takeControl
  rw [hc, Option.map_some]
  dsimp only
  exact if_pos (by rcases h with h | h <;> simp [h])

/-- One unseen is passed on, and acted upon by its kind. -/
theorem noticeReceive_new (n : Notice) (hpartition : s.torus.partition ≠ 0) (hnew : id ∉ s.torus.seen) :
    noticeReceive port id n s =
      actOnNotice n (floodNotice (some port) id n { s with torus.control := s.torus.control.erase c }) := by
  unfold noticeReceive takeControl
  rw [hc, Option.map_some]
  dsimp only
  rw [if_neg (by simp [hpartition, hnew])]
  cases n <;> rfl

end

theorem noticeStep_some {s : State} {id : Nat} {x : NoticeOut} (h : Tab.find? id s.torus.notices = some x) : noticeStep id s =
    if s.ft < x.sentAt + 4096 then s
    else if 9 ≤ x.tries then { s with torus.notices := Tab.del id s.torus.notices }
    else routeNotice id x.what { s with torus.notices := Tab.put id { x with sentAt := s.ft, tries := x.tries + 1 } s.torus.notices } := by
  unfold noticeStep
  rw [h]

section
variable {s : State} {id : Nat} {ws : List (List FlightAct)}

theorem flightStep_placed (hmaster : s.time.master = true) (hnew : Tab.has id s.torus.flights = false) (hroom : s.torus.flights.length < 64)
    (hsome : 1 ≤ ws.length) (hfew : ws.length ≤ 16) : flightStep id ws s = placeFlight id ws s := by
  unfold flightStep
  exact if_pos (by simp [hmaster, hnew, hroom, hfew, List.length_pos_iff.mp hsome])

theorem flightStep_refused (h : s.time.master = false ∨ ws.length = 0 ∨ 16 < ws.length ∨ 64 ≤ s.torus.flights.length) :
    flightStep id ws s = s := by
  unfold flightStep
  refine if_neg ?_
  rcases h with h | h | h | h
  · simp [h]
  · simp [List.length_eq_zero_iff.mp h]
  · simp; omega
  · simp; omega

end

/-! ### The time-master's role (R567, R569) -/

@[simp] theorem issueStamp_masterCoord (b : Nat) (h : HeldStamp) (s : State) : (issueStamp b h s).2.time.masterCoord = s.time.masterCoord := by
  unfold issueStamp
  dsimp only
  split <;> rfl

theorem logEvent_masterCoord (code : Nat) (args : Bytes) (s : State) : (logEvent code args s).time.masterCoord = s.time.masterCoord := by
  have happend : ∀ (e : LogEntry) (u : State), (appendEntry e u).time.masterCoord = u.time.masterCoord := fun e u =>
    congrArg TimeState.masterCoord (appendEntry_time e u)
  have hnotice : ∀ (b : Bytes) (u : State), (noticeToAddress b u).time.masterCoord = u.time.masterCoord := by
    intro b u
    obtain ⟨_, _, h⟩ := noticeToAddress_frame b u
    rw [h]
  unfold logEvent logEventR
  split
  case isTrue =>
    dsimp only
    split
    case isTrue => rw [hnotice, happend, issueStamp_masterCoord]
    case isFalse => rw [happend, issueStamp_masterCoord]
  case isFalse => exact happend _ _

/-- A change of the timekeeper's mode is an event, and leaves the links, the torus and the master known as they are. -/
theorem setTimeMode_frame (mode : Nat) (s : State) : ∃ fc ti lo ne, setTimeMode mode s =
    { s with freeCtr := fc, time := ti, log := lo, net := ne } ∧ ti.masterCoord = s.time.masterCoord := by
  unfold setTimeMode
  split
  case isTrue => exact ⟨_, _, _, _, rfl, rfl⟩
  case isFalse =>
    dsimp only
    generalize hu : logEvent _ _ _ = u
    have hcoord : u.time.masterCoord = s.time.masterCoord := hu ▸ logEvent_masterCoord _ _ _
    obtain ⟨fc, ti, lo, ne, hlog⟩ := logEvent_frame Ev.ftState (leBytes 1 s.time.mode ++ leBytes 1 mode ++ leBytes 1 s.time.source)
      { s with time.mode := mode, time.offsetLogged := s.time.offsetLogged && mode == 3 }
    rw [hlog] at hu
    subst hu
    exact ⟨fc, ti, lo, ne, rfl, hcoord⟩

theorem reselect_masterCoord (s : State) : (reselect s).time.masterCoord = s.time.masterCoord := by
  unfold reselect
  dsimp only
  split
  case isTrue => rfl
  case isFalse =>
    obtain ⟨_, _, _, _, h, hcoord⟩ := setTimeMode_frame (if givesValue (bestSource s) then 1 else if s.time.everSourced then 4 else 0)
      { s with time.source := bestSource s, time.correction := 0 }
    rw [h]
    exact hcoord

/-! Packets and notices that leave know no master. -/

theorem stampWrite_masterCoord (id : Nat) (s : State) : (stampWrite id s).time.masterCoord = s.time.masterCoord := by
  unfold stampWrite
  split
  case h_1 => rfl
  case h_2 w hw =>
    dsimp only
    split
    case isFalse => rfl
    case isTrue =>
      split
      case isTrue => rfl
      case isFalse => split <;> exact issueStamp_masterCoord _ _ s

theorem grantStamp_masterCoord (o : Owner) (s : State) : (grantStamp o s).time.masterCoord = s.time.masterCoord := by
  cases o with
  | write id => exact stampWrite_masterCoord id s
  | msg id => rfl
  | part m gen order => rfl
  | none => rfl

theorem installPort_masterCoord (b dest : Nat) (s : State) : (installPort b dest s).time.masterCoord = s.time.masterCoord := by
  unfold installPort
  split
  case isTrue => rfl
  case isFalse => split <;> rfl

theorem admitList_masterCoord (b : Nat) (l : List BerthWait) (held : List Nat) (s : State) :
    (admitList b l held s).2.time.masterCoord = s.time.masterCoord := by
  induction l generalizing held s with
  | nil => rfl
  | cons w l ih =>
    unfold admitList
    dsimp only
    split
    case isTrue => exact ih held s
    case isFalse =>
      split
      case isTrue => exact ih held s
      case isFalse =>
        split
        case h_1 t => exact (ih held _).trans (grantStamp_masterCoord w.tx.owner s)
        case h_2 => exact (ih _ _).trans (installPort_masterCoord b _ s)

theorem announce_masterCoord (n : Notice) (s : State) : (announce n s).time.masterCoord = s.time.masterCoord := by
  have hsent : ∀ (d no : Nat) (u : State), (sendNeighbour d no u).time.masterCoord = u.time.masterCoord := fun d no u =>
    admitList_masterCoord _ _ _ _
  unfold announce floodNotice
  dsimp only
  refine (foldl_keeps (fun u => u.time.masterCoord) (fun u d => ?_) _ _).trans rfl
  exact hsent d _ _

theorem becomeMaster_masterCoord (s : State) : (becomeMaster s).time.masterCoord = some s.torus.coord := by
  unfold becomeMaster
  rw [announce_masterCoord, reselect_masterCoord, logEvent_masterCoord]

section
variable {s : State}

theorem masterLost_idle (h : s.torus.partition = 0 ∨ s.time.master = true ∨ s.ft < s.time.lastTiming.getD 0 + 131072) : masterLost s = s := by
  unfold masterLost
  refine if_pos ?_
  rcases h with h | h | h
  · simp [h]
  · simp [h]
  · simp [h]

/-- A free value, and the state in which it is drawn: no master is known, and the mode is changed where one had supplied a value. -/
def masterLoss (s : State) : Nat × State :=
  drawBelow 2 { (if s.time.masterCoord.isSome && s.time.mode != 0 then setTimeMode 4 { s with time.correction := 0 } else s) with
    time.masterCoord := none, torus.nearest := [] }

theorem masterLoss_frame (s : State) : ∃ fc ti lo ne ne', (masterLoss s).2 =
    { s with freeCtr := fc, time := ti, log := lo, net := ne, torus.nearest := ne' } ∧ ti.master = s.time.master ∧ ti.masterCoord = none := by
  unfold masterLoss
  split
  case isFalse => exact ⟨_, _, _, _, _, rfl, rfl, rfl⟩
  case isTrue =>
    obtain ⟨fc, ti, lo, ne, h, -⟩ := setTimeMode_frame 4 { s with time.correction := 0 }
    have hmaster := setTimeMode_master 4 { s with time.correction := 0 }
    rw [h] at hmaster ⊢
    exact ⟨_, _, _, _, _, rfl, hmaster, rfl⟩

/-- A loss due leaves the role to an eligible module that stands alone, or, with an UP port, by the free value. -/
theorem masterLost_due (hpartition : s.torus.partition ≠ 0) (hmaster : s.time.master = false)
    (hdue : s.time.lastTiming.getD 0 + 131072 ≤ s.ft) : masterLost s =
      if (masterLoss s).2.torus.eligible && ((masterLoss s).1 == 1 || !(List.range 6).any (portUp (masterLoss s).2)) then
        becomeMaster (masterLoss s).2
      else (masterLoss s).2 := by
  unfold masterLost
  refine (if_neg ?_).trans rfl
  simp only [hpartition, hmaster, decide_false, Bool.false_or, Bool.or_false, decide_eq_true_eq]
  exact Nat.not_lt.mpr hdue

/-- One that is not eligible has no master then. -/
theorem masterLost_ineligible (hpartition : s.torus.partition ≠ 0) (hmaster : s.time.master = false)
    (hdue : s.time.lastTiming.getD 0 + 131072 ≤ s.ft) (heligible : s.torus.eligible = false) :
    (masterLost s).time.master = false ∧ (masterLost s).time.masterCoord = none := by
  obtain ⟨_, _, _, _, _, hloss, hstays, hnone⟩ := masterLoss_frame s
  have hlost := masterLost_due hpartition hmaster hdue
  rw [hloss, if_neg (by simp [heligible])] at hlost
  rw [hlost]
  exact ⟨hstays.trans hmaster, hnone⟩

/-- An eligible one with no UP port takes the role. -/
theorem masterLost_alone (hpartition : s.torus.partition ≠ 0) (hmaster : s.time.master = false)
    (hdue : s.time.lastTiming.getD 0 + 131072 ≤ s.ft) (heligible : s.torus.eligible = true)
    (hports : ∀ d, d < 6 → portUp s d = false) :
    (masterLost s).time.master = true ∧ (masterLost s).time.masterCoord = some s.torus.coord := by
  obtain ⟨fc, ti, lo, ne, ne', hloss, -⟩ := masterLoss_frame s
  have hdown : (List.range 6).any (portUp (masterLoss s).2) = false := by
    rw [List.any_eq_false, hloss]
    exact fun d hd => ne_true_of_eq_false (hports d (List.mem_range.mp hd))
  have hcoord : (masterLoss s).2.torus.coord = s.torus.coord := by rw [hloss]
  have heligible' : (masterLoss s).2.torus.eligible = true := by rw [hloss]; exact heligible
  have hlost := masterLost_due hpartition hmaster hdue
  rw [hdown, heligible', if_pos (by simp)] at hlost
  rw [hlost]
  exact ⟨becomeMaster_isMaster _, (becomeMaster_masterCoord _).trans (congrArg some hcoord)⟩

end

/-! ### Buffers that other modules name (R547) -/

theorem remoteRequest_confirm {s : State} {h : Nat} {b : Buffer} (coord size : Nat) (hb : bufOf s h = some b) :
    remoteRequest coord (.confirm h size) s =
      if b.remote.isNone && decide (size ≤ b.size) then
        torusSend (.answer coord true (bufBase b))
          { s with mem.buffers := Tab.put (h % 2 ^ 18) { b with marks := b.marks + 1 } s.mem.buffers }
      else torusSend (.answer coord false 0) s := by
  unfold remoteRequest
  dsimp only
  rw [hb]

/-- Settles O49: each step by its equation, the loss of the master by what it leaves. -/
theorem joiningLeavingAndNotices : Obligations.JoiningLeavingAndNotices := by
  unfold Obligations.JoiningLeavingAndNotices
  refine ⟨?join, ?joins, ?leave, ?member, ?notice, ?absent, ?resent, ?flight, ?refused, ?lost, ?kept, ?buffers⟩
  case join =>
    intro s hpartition hout hjoining hlocked hpower hreplay hrecovery hopened hstands hmaster
    have hasks := joinStep_asks hpartition hout hjoining hlocked hpower hreplay hrecovery hopened hstands hmaster
    exact ⟨fun hknown => congrArg Host.Outcome.next (hasks.trans (if_pos hknown)),
      fun hnone => congrArg Host.Outcome.next (hasks.trans (if_neg (by simp [hnone])))⟩
  case joins =>
    intro s coord serial
    refine ⟨fun h => congrArg Host.Outcome.next (joinReceive_absent (takeNotice_absent h)), ?_⟩
    intro c hc u
    have htaken : takeNotice coord s = some u := takeNotice_some hc
    have hjoins := joinReceive_taken serial htaken
    exact ⟨fun hslave => congrArg Host.Outcome.next (hjoins.trans (if_neg (by simp [hslave]))),
      fun hmaster hpartition => congrArg Host.Outcome.next (hjoins.trans (if_pos (by simp [hmaster, hpartition])))⟩
  case leave =>
    intro s at' hpartition hleft hmaster hlast
    have hleaves := leaves_iff hpartition hleft hmaster hlast
    exact ⟨fun hlong => congrArg Host.Outcome.next (if_pos (hleaves.mpr hlong)),
      fun hshort => congrArg Host.Outcome.next (if_neg fun h => absurd (hleaves.mp h) (Nat.not_le.mpr hshort))⟩
  case member => exact fun s h => congrArg Host.Outcome.next (leaveStep_other h)
  case notice =>
    intro s port id n c hc v
    refine ⟨fun h => congrArg Host.Outcome.next (noticeReceive_seen hc n h), fun hpartition hnew => ?_⟩
    have hacts := noticeReceive_new hc n hpartition hnew
    refine ⟨?_, ?_, ?_, ?_⟩
    · rintro c rfl
      exact congrArg Host.Outcome.next hacts
    · rintro c sr rfl
      exact congrArg Host.Outcome.next hacts
    · rintro f ws rfl
      exact congrArg Host.Outcome.next hacts
    · rintro c d up rfl
      exact congrArg Host.Outcome.next hacts
  case absent => exact fun s port id n h => congrArg Host.Outcome.next (noticeReceive_absent n h)
  case resent => exact fun s id x h => congrArg Host.Outcome.next (noticeStep_some h)
  case flight =>
    exact fun s coord id ws hmaster hnew hroom hsome hfew =>
      congrArg Host.Outcome.next (flightStep_placed hmaster hnew hroom hsome hfew)
  case refused => exact fun s coord id ws h => congrArg Host.Outcome.next (flightStep_refused h)
  case lost =>
    exact fun s hpartition hmaster hdue => ⟨masterLost s, rfl, masterLost_ineligible hpartition hmaster hdue,
      masterLost_alone hpartition hmaster hdue⟩
  case kept => exact fun s h => congrArg Host.Outcome.next (masterLost_idle h)
  case buffers =>
    intro s coord h b hb
    refine ⟨fun size hlocal hfits => congrArg Host.Outcome.next ((remoteRequest_confirm coord size hb).trans (if_pos ?_)),
      fun size hlarge => congrArg Host.Outcome.next ((remoteRequest_confirm coord size hb).trans (if_neg ?_)),
      congrArg Host.Outcome.next ?_⟩
    · simp [hlocal, hfits]
    · simp [Nat.not_le.mpr hlarge]
    · unfold remoteRequest
      dsimp only
      rw [hb]

end Sys2Proof.Machine
end

section
/-!
PROOF of O50. Light that fails, wrong locks, events and graphs ended leave the power state and the pins alone, so an evaluation and an
action instant change of it what they write themselves; standby leaves the discarded pound, and its stacks, as it put them (R696, R700,
R703, R707, R749).
-/

namespace Sys2Proof.Machine

/-! ### Tables -/

/-- A table into which the values of a function are put for a list of keys. -/
theorem getD_foldl_put {α : Type} (d : α) (f : Nat → α) (l : List Nat) (t : Tab α) (k : Nat) :
    Tab.getD d k (l.foldl (fun t b => Tab.put b (f b) t) t) = if k ∈ l then f k else Tab.getD d k t := by
  induction l generalizing t with
  | nil => rfl
  | cons b l ih =>
    rw [List.foldl_cons, ih]
    by_cases hb : k = b
    · subst hb; simp
    · simp [hb, Tab.getD_put_ne d b k _ t hb]

theorem has_foldl_put {α : Type} (l : List (Nat × α)) (t : Tab α) (k : Nat) (h : Tab.has k t = true) :
    Tab.has k (l.foldl (fun t x => Tab.put x.1 x.2 t) t) = true := by
  induction l generalizing t with
  | nil => exact h
  | cons x l ih =>
    refine ih _ ?_
    unfold Tab.has at h ⊢
    rw [Tab.find?_put_eq]
    split
    case isTrue => rfl
    case isFalse => exact h

/-! ### A round (R443, R696) -/

theorem roundReads_avs (s : State) : ∃ l, roundReads s = { s with power.avs := l } := by
  have hreads : ∀ l : List (Nat × Nat), ∀ u : State, ∃ a, l.foldl (fun s x =>
      if s.power.avs.any fun f => f.rail == x.1 && f.cmd == x.2 then s else sendAvs x.1 x.2 0 s) u = { u with power.avs := a } := by
    intro l
    induction l with
    | nil => exact fun u => ⟨u.power.avs, rfl⟩
    | cons x l ih =>
      intro u
      rw [List.foldl_cons]
      split
      case isTrue => exact ih u
      case isFalse => exact (ih _).imp fun _ h => h
  exact hreads _ s

/-! ### What leaves the power state and the pins alone -/

/-- The power state and the pins. -/
def State.supply (s : State) : PowerState × Pins := (s.power, s.pins)

theorem supply_of_course {s t : State} (h : t.course = s.course) : t.supply = s.supply :=
  (congrArg (fun s => (s.power, s.pins)) h :)

theorem supply_of_plant {s t : State} (h : t.plant = s.plant) : t.supply = s.supply := supply_of_course (course_of_plant h)

theorem power_of_supply {s t : State} (h : t.supply = s.supply) : t.power = s.power := congrArg Prod.fst h

theorem pins_of_supply {s t : State} (h : t.supply = s.supply) : t.pins = s.pins := congrArg Prod.snd h

theorem foldl_supply {α : Type} {f : State → α → State} (h : ∀ s x, (f s x).supply = s.supply) (l : List α) (s : State) :
    (l.foldl f s).supply = s.supply :=
  foldl_keeps State.supply h l s

@[simp] theorem logEvent_supply (code : Nat) (args : Bytes) (s : State) : (logEvent code args s).supply = s.supply :=
  supply_of_plant (logEvent_plant code args s)

@[simp] theorem setLinks_supply (links : List Nat) (st : Nat) (s : State) : (setLinks links st s).supply = s.supply :=
  supply_of_plant (setLinks_plant links st s)

@[simp] theorem endBarges_supply (p : Barge → Bool) (status : Nat) (s : State) : (endBarges p status s).supply = s.supply :=
  supply_of_course (endBarges_course p status s)

@[simp] theorem raiseFault_supply (code : Nat) (args : Bytes) (s : State) : (raiseFault code args s).supply = s.supply := by
  obtain ⟨_, _, _, _, _, h⟩ := raiseFault_frame code args s
  rw [h]
  rfl

theorem killedReport_supply (slot : Nat) (s : State) : (killedReport slot s).supply = s.supply := by
  unfold killedReport
  split
  case h_1 => rfl
  case h_2 =>
    split
    case isFalse => rfl
    case isTrue =>
      obtain ⟨q, h⟩ := reportGraph_course slot s.pound.committed s
      exact (congrArg (fun u => (u.power, u.pins)) h :)

theorem killGraph_supply (status slot : Nat) (s : State) : (killGraph status slot s).supply = s.supply := by
  unfold killGraph
  split
  case h_1 => rfl
  case h_2 =>
    refine (killedReport_supply _ _).trans ((foldl_supply
      (f := fun s (t : Nat × Task) => endTask slot t.1 status (dropReads slot t.1 s)) (fun u t => ?_) _ s :))
    exact supply_of_course (endTask_course _ _ _ _)

@[simp] theorem killGraphs_supply (status : Nat) (s : State) : (killGraphs status s).supply = s.supply :=
  foldl_supply (f := fun s g => killGraph status g s) (fun u g => killGraph_supply status g u) _ _

/-! ### Light that fails (R455, R457, R467, R469) -/

@[simp] theorem enqueue_supply (g lane : Nat) (s : State) : (enqueue g lane s).supply = s.supply := rfl

@[simp] theorem relieve_supply (g lane : Nat) (s : State) : (relieve g lane s).supply = s.supply := rfl

@[simp] theorem dropLane_supply (g lane : Nat) (s : State) : (dropLane g lane s).supply = s.supply := rfl

@[simp] theorem updLaser_supply (k : Nat) (f : Laser → Laser) (s : State) : (s.updLaser k f).supply = s.supply := rfl

@[simp] theorem updGroup_supply (g : Nat) (f : LightGroup → LightGroup) (s : State) : (s.updGroup g f).supply = s.supply := rfl

@[simp] theorem groupDown_supply (g : Nat) (s : State) : (groupDown g s).supply = s.supply := by
  unfold groupDown
  split
  case isTrue => rfl
  case isFalse => dsimp only; split <;> simp

@[simp] theorem relieveFail_supply (g lane : Nat) (s : State) : (relieveFail g lane s).supply = s.supply := by
  unfold relieveFail
  dsimp only
  split
  case isTrue => rfl
  case isFalse =>
    split
    case isTrue => rfl
    case isFalse => split <;> simp

@[simp] theorem wrFail_supply (g : Nat) (s : State) : (wrFail g s).supply = s.supply := by
  have hread : ∀ (u : State) (i : Nat), u.supply = s.supply →
      (if laneLit u g i then u else if (s.group g).dropped.isSome then groupDown g u else dropLane g i u).supply = s.supply := by
    intro u i hu
    split
    case isTrue => exact hu
    case isFalse => split <;> simpa using hu
  unfold wrFail
  dsimp only
  rw [enqueue_supply]
  split
  case h_1 => rfl
  case h_2 => exact hread _ _ rfl

@[simp] theorem laserFail_supply (k : Nat) (s : State) : (laserFail k s).supply = s.supply := by
  unfold laserFail
  dsimp only
  split
  case isTrue => simp
  case isFalse => split <;> simp

@[simp] theorem laserMigrate_supply (k : Nat) (s : State) : (laserMigrate k s).supply = s.supply := by
  unfold laserMigrate
  dsimp only
  rw [enqueue_supply]
  split <;> simp

@[simp] theorem fadeStep_supply (k : Nat) (s : State) : (fadeStep k s).supply = s.supply := by
  unfold fadeStep
  split
  case h_1 => rfl
  case h_2 =>
    split
    case isTrue => rfl
    case isFalse =>
      dsimp only
      generalize hv : (draw s).2.updLaser k _ = v
      have hdrawn : v.supply = s.supply := hv ▸ rfl
      split
      case isTrue => rw [laserFail_supply, hdrawn]
      case isFalse =>
        split
        case isTrue => rw [laserMigrate_supply, updLaser_supply, hdrawn]
        case isFalse =>
          split
          case isTrue => rw [logEvent_supply, ← hdrawn]; rfl
          case isFalse => split <;> simp [hdrawn]

/-! ### An evaluation (R474, R475, R695, R702, R703) -/

@[simp] theorem wrongLock_supply (r : RingRef) (s : State) : (wrongLock r s).supply = s.supply := by
  unfold wrongLock
  split
  case isTrue => rfl
  case isFalse => exact (logEvent_supply _ _ _).trans rfl

@[simp] theorem suspectCause_supply (x : Nat × Nat) (s : State) : (suspectCause x s).supply = s.supply := by
  unfold suspectCause
  dsimp only
  split
  case isTrue => rfl
  case isFalse =>
    split
    case isTrue => rfl
    case isFalse => split <;> rfl

theorem railCheck_broken (s : State) : (railCheck s).power.broken = s.power.broken := by
  have hlogged : ∀ (u : State) (i : Nat) (c : Prop) [Decidable c],
      (if c then logRail i { u with power.railAt := Tab.put (tapRail i) u.power.round u.power.railAt } else u).power.broken =
        u.power.broken := by
    intro u i c _
    split
    case isTrue => exact congrArg (fun p => p.broken) (power_of_supply (logEvent_supply _ _ _))
    case isFalse => rfl
  unfold railCheck
  refine foldl_keeps (fun u => u.power.broken) (fun u i => ?_) _ _
  exact hlogged u i _

theorem isBroken_markBroken {s : State} {c : Nat} (h : isBroken s c = true) : isBroken (markBroken s) c = true :=
  has_foldl_put (newBroken s) s.power.broken c h

/-- An evaluation due moves the round on, and a sensor broken before it is broken after it. -/
theorem evaluate_due {s : State} (tones : List (RingRef × Nat)) (hruns : firmwareRuns s = true) (hphase : s.power.phase = 1)
    (hdue : s.power.roundAt + 49152 ≤ s.ft) :
    (evaluate tones s).power.phase = 2 ∧ ∀ c, isBroken s c = true → isBroken (evaluate tones s) c = true := by
  have hfades : ((List.range 288).foldl (fun s k => fadeStep k s) s).power.broken = s.power.broken :=
    congrArg (fun p => p.broken) (power_of_supply (foldl_supply (fun v k => fadeStep_supply k v) _ s))
  have hlocks : ∀ (u : State) (l : List (RingRef × Nat)), (l.foldl (fun s x => wrongLock x.1 s) u).power = u.power := fun u l =>
    power_of_supply (foldl_supply (fun v x => wrongLock_supply x.1 v) l u)
  have hcauses : ∀ (u : State) l, (List.foldl (fun s x => suspectCause x s) u l).power = u.power := fun u l =>
    power_of_supply (foldl_supply (fun v x => suspectCause_supply x v) l u)
  have htrip : ∀ u : State, (if mayTrip u then { u with power.tripWanted := tripFound u } else u).power.phase = u.power.phase ∧
      (if mayTrip u then { u with power.tripWanted := tripFound u } else u).power.broken = u.power.broken := by
    intro u
    split <;> exact ⟨rfl, rfl⟩
  unfold evaluate
  rw [if_pos (by simp [hruns, hphase, hdue])]
  dsimp only
  unfold isBroken
  rw [(htrip _).1, (htrip _).2, hcauses, hlocks]
  refine ⟨rfl, fun c hc => ?_⟩
  dsimp only
  rw [railCheck_broken]
  generalize (List.range 288).foldl (fun s k => fadeStep k s) s = u at hfades
  exact isBroken_markBroken ((congrArg (Tab.has c) hfades).trans hc)

/-! ### The action instant (R338, R339, R678, R700, R701, R705) -/

/-- What a round has reached, the sensors it found broken, and the regions in throttle with their readings. -/
def State.heat (s : State) : Nat × List (Nat × Nat) × List Nat × Tab Int :=
  (s.power.phase, s.power.found, s.power.throttled, s.power.readings)

theorem heat_of_power {s t : State} (h : t.power = s.power) : t.heat = s.heat := by
  unfold State.heat
  rw [h]

theorem throttled_of_heat {s t : State} (h : t.heat = s.heat) : t.power.throttled = s.power.throttled := congrArg (fun x => x.2.2.1) h

theorem phase_of_heat {s t : State} (h : t.heat = s.heat) : t.power.phase = s.power.phase := congrArg Prod.fst h

theorem found_of_heat {s t : State} (h : t.heat = s.heat) : t.power.found = s.power.found := congrArg (fun x => x.2.1) h

theorem logEvent_heat (code : Nat) (args : Bytes) (s : State) : (logEvent code args s).heat = s.heat :=
  heat_of_power (power_of_supply (logEvent_supply code args s))

theorem setThermal_heat (k n : Nat) (s : State) : (setThermal k n s).heat = s.heat := by
  unfold setThermal
  split
  case isTrue => rfl
  case isFalse => exact logEvent_heat _ _ _

theorem thermalAct_heat (k : Nat) (s : State) : (thermalAct k s).heat = s.heat := by
  unfold thermalAct
  dsimp only
  split
  case isTrue => exact setThermal_heat _ _ _
  case isFalse =>
    split
    case isFalse => rfl
    case isTrue =>
      split
      case isTrue => exact setThermal_heat _ _ _
      case isFalse => rfl

theorem marginAct_heat (k : Nat) (s : State) : (marginAct k s).heat = s.heat := by
  unfold marginAct
  dsimp only
  split
  case h_1 =>
    split
    case isTrue => rfl
    case isFalse => exact logEvent_heat _ _ _
  case h_2 =>
    split
    case isTrue => rfl
    case isFalse => split <;> rfl

theorem correctPair_heat (p : Nat) (s : State) : (correctPair p s).heat = s.heat := by
  have hlogged : ∀ (c : Prop) [Decidable c] (k : Nat), (if c then logRail k s else s).heat = s.heat := by
    intro c _ k
    split
    case isTrue => exact logEvent_heat _ _ _
    case isFalse => rfl
  unfold correctPair
  split
  case h_1 => rfl
  case h_2 =>
    dsimp only
    generalize Int.ofNat (max _ _) = v
    split
    case isTrue => rfl
    case isFalse =>
      split
      case isTrue => exact hlogged _ _
      case isFalse => exact hlogged _ _

theorem scheduleStep_heat (k : Nat) (s : State) : (scheduleStep k s).heat = s.heat := by
  unfold scheduleStep
  dsimp only
  split
  case isTrue => rfl
  case isFalse => split <;> rfl

theorem stackActs_heat (s : State) : (stackActs s).heat = s.heat := by
  have hmargins : ∀ u : State, ((List.range 16).foldl (fun s k => if (s.stack k).powered && (s.stack k).clocked then marginAct k s
      else s.updStack k fun x => { x with quiet := 0 }) u).heat = u.heat := fun u =>
    foldl_keeps State.heat (fun v k => by
      split
      case isTrue => exact marginAct_heat k v
      case isFalse => rfl) _ u
  have hlimits : ∀ (u : State) l, (List.foldl (fun s k => thermalAct k s) u l).heat = u.heat := fun u l =>
    foldl_keeps State.heat (fun v k => thermalAct_heat k v) l u
  have hcurrents : ∀ (u : State) l, (List.foldl (fun s p => currentAct p s) u l).heat = u.heat := fun u l =>
    foldl_keeps State.heat (fun v p => setThermal_heat _ _ v) l u
  have hpairs : ∀ (u : State) l, (List.foldl (fun s p => correctPair p s) u l).heat = u.heat := fun u l =>
    foldl_keeps State.heat (fun v p => correctPair_heat p v) l u
  have hsteps : ∀ u : State, (scheduleAll u).heat = u.heat := fun u =>
    foldl_keeps State.heat (fun v k => scheduleStep_heat k v) _ u
  unfold stackActs
  dsimp only
  rw [hsteps, hpairs, hmargins, hcurrents, hlimits]

/-- A region enters throttle or leaves it. -/
def throttledBy (s : State) (r : Nat) (l : List Nat) : List Nat :=
  if throttleAt r ≤ regionReading s r then if l.contains r then l else l ++ [r] else l.erase r

theorem mem_throttledBy {s : State} {r : Nat} {l : List Nat} (hl : l.Nodup) (x : Nat) :
    x ∈ throttledBy s r l ↔ if x = r then throttleAt r ≤ regionReading s r else x ∈ l := by
  unfold throttledBy
  by_cases hx : x = r
  · subst hx
    split
    case isTrue => split <;> simp_all
    case isFalse hcold => simp [hl.mem_erase_iff, hcold]
  · split
    case isTrue => split <;> simp [hx]
    case isFalse => simp [hl.mem_erase_iff, hx]

theorem nodup_throttledBy {s : State} {r : Nat} {l : List Nat} (hl : l.Nodup) : (throttledBy s r l).Nodup := by
  unfold throttledBy
  split
  case isTrue =>
    split
    case isTrue => exact hl
    case isFalse hnew => exact List.nodup_append.mpr ⟨hl, List.nodup_singleton r, by simp_all; rintro a ha rfl; exact hnew ha⟩
  case isFalse => exact hl.erase r

theorem throttleAct_power (r : Nat) (s : State) :
    (throttleAct r s).heat = (s.power.phase, s.power.found, throttledBy s r s.power.throttled, s.power.readings) := by
  unfold throttleAct throttledBy
  split
  case isFalse => rfl
  case isTrue =>
    split
    case isTrue => rfl
    case isFalse => exact logEvent_heat _ _ _

/-- Of the regions gone through, those in throttle are those that stand at their limit. -/
theorem throttleAct_foldl (l : List Nat) (s : State) (hnodup : s.power.throttled.Nodup) :
    ((l.foldl (fun s r => throttleAct r s) s).power.phase = s.power.phase ∧
      (l.foldl (fun s r => throttleAct r s) s).power.found = s.power.found ∧
      (l.foldl (fun s r => throttleAct r s) s).power.readings = s.power.readings) ∧
    ∀ x, x ∈ (l.foldl (fun s r => throttleAct r s) s).power.throttled ↔
      if x ∈ l then throttleAt x ≤ regionReading s x else x ∈ s.power.throttled := by
  induction l generalizing s with
  | nil => exact ⟨⟨rfl, rfl, rfl⟩, fun x => by simp⟩
  | cons r l ih =>
    have hact := throttleAct_power r s
    have hphase : (throttleAct r s).power.phase = s.power.phase := congrArg Prod.fst hact
    have hfound : (throttleAct r s).power.found = s.power.found := congrArg (fun x => x.2.1) hact
    have hthrottled : (throttleAct r s).power.throttled = throttledBy s r s.power.throttled := congrArg (fun x => x.2.2.1) hact
    have hreadings : (throttleAct r s).power.readings = s.power.readings := congrArg (fun x => x.2.2.2) hact
    have hreading : ∀ x, regionReading (throttleAct r s) x = regionReading s x := fun x => by
      unfold regionReading
      rw [hreadings]
    obtain ⟨⟨hp, hf, hr⟩, hmem⟩ := ih (throttleAct r s) (hthrottled ▸ nodup_throttledBy hnodup)
    rw [List.foldl_cons]
    refine ⟨⟨hp.trans hphase, hf.trans hfound, hr.trans hreadings⟩, fun x => (hmem x).trans ?_⟩
    rw [hreading, hthrottled, mem_throttledBy hnodup]
    by_cases hx : x = r
    · subst hx; simp
    · simp [hx]

/-- An action instant due ends the round; the regions in throttle after it are those whose reading stands at the limit. -/
theorem actStep_due {s : State} (hruns : firmwareRuns s = true) (hphase : s.power.phase = 2) (hdue : s.power.roundAt + 65536 ≤ s.ft)
    (hnodup : s.power.throttled.Nodup) :
    (actStep s).power.phase = 3 ∧ (actStep s).power.found = [] ∧
      (∀ r, r < 29 → (r ∈ (actStep s).power.throttled ↔ throttleAt r ≤ regionReading s r)) ∧
      ((actStep s).power.throttled ≠ [] → (actStep s).pins.alertN = false) := by
  have hlogged : ∀ l : List (Nat × Nat),
      (l.foldl (fun s x => logEvent Ev.sensorBroken (leBytes 2 x.1 ++ leBytes 1 x.2) s) s).power = s.power := fun l =>
    power_of_supply (foldl_supply (fun v x => logEvent_supply _ _ v) l s)
  unfold actStep
  rw [if_pos (by simp [hruns, hphase, hdue])]
  dsimp only
  generalize hu : List.foldl (fun s (x : Nat × Nat) => logEvent Ev.sensorBroken _ s) s _ = u
  have hpower : u.power = s.power := hu ▸ hlogged _
  have hfolded := throttleAct_foldl (List.range 29) (compensate { u with power.found := [], power.phase := 3 })
    (show u.power.throttled.Nodup from hpower ▸ hnodup)
  generalize List.foldl (fun s r => throttleAct r s) _ _ = v at hfolded
  obtain ⟨⟨hp, hf, -⟩, hmem⟩ := hfolded
  have hheat := stackActs_heat v
  generalize stackActs v = w at hheat
  have hthrottled := throttled_of_heat hheat
  refine ⟨(phase_of_heat hheat).trans hp, (found_of_heat hheat).trans hf, fun r hr29 => ?_, fun hsome => ?_⟩
  · have hreading : regionReading u r = regionReading s r := by unfold regionReading; rw [hpower]
    have hr := hmem r
    rw [if_pos (List.mem_range.mpr hr29)] at hr
    rw [← hreading]
    exact (iff_of_eq (congrArg (r ∈ ·) hthrottled)).trans hr
  · exact decide_eq_false fun h => hsome h.1

/-! ### The thermal trip (R707, R749) -/

theorem endJobs_plant (p : JobKind → Bool) (status : Nat) (s : State) : (endJobs p status s).plant = s.plant :=
  foldl_plant (f := fun s (j : Nat × Job) => endJob j.1 status [] s) (fun u _ => endJob_plant _ _ _ u) _ _

theorem dropHalts_supply (s : State) : (dropHalts s).supply = s.supply :=
  foldl_supply (f := fun s (j : Nat × Job) => endJob j.1 St.debugLevel [] s) (fun u _ => supply_of_plant (endJob_plant _ _ _ u)) _ _

theorem runAgain_supply (s : State) : (runAgain s).supply = s.supply := by
  have hreleased : ∀ u : State, (releaseTrigger u).supply = u.supply := by
    intro u
    unfold releaseTrigger
    split
    case h_1 => rfl
    case h_2 => exact supply_of_course (nameCut_course _ _ _)
    case h_3 => exact supply_of_course (askClose_course _ _ _)
  unfold runAgain
  split
  case h_1 => rfl
  case h_2 => exact hreleased _

theorem lowerDebug_supply (chan : MailSrc) (level cause : Nat) (s : State) : (lowerDebug chan level cause s).supply = s.supply := by
  have hlevel : (setLevel chan level s).supply = s.supply := by cases chan <;> rfl
  unfold lowerDebug
  dsimp only
  split
  case isTrue => rfl
  case isFalse =>
    split
    case isTrue => rw [logEvent_supply, hlevel]
    case isFalse => rw [runAgain_supply, dropHalts_supply, logEvent_supply, hlevel]

theorem lowerAllDebug_supply (level cause : Nat) (s : State) : (lowerAllDebug level cause s).supply = s.supply :=
  (lowerDebug_supply _ _ _ _).trans (foldl_supply (fun u i => lowerDebug_supply (.session i) level cause u) _ s)

/-- Opening the switches leaves no stack powered, listed or not. -/
theorem stacksOff_unpowered (s : State) (k : Nat) : ((stacksOff s).stack k).powered = false := by
  unfold State.stack Tab.getD stacksOff
  dsimp only
  rw [find?_mapVals]
  cases Tab.find? k s.stk.dies <;> rfl

theorem lightOff_plant (s : State) : ∃ l : LightState, (lightOff s).plant = { s.plant with light := l } :=
  ⟨_, setLinks_plant _ 0 _⟩

theorem leavePartition_plant (s : State) : (leavePartition s).plant = s.plant := by
  unfold leavePartition
  split
  case isTrue => exact logEvent_plant _ _ _
  case isFalse => rfl

theorem discardPound_supply (s : State) : (discardPound s).supply = s.supply := by
  have hback : ∀ (l : List Nat) (u : State), (tablesUpdate (releaseFrames l u)).supply = u.supply := fun l u =>
    supply_of_course (course_of_unpaged ((tablesUpdate_unpaged _).trans (releaseFrames_unpaged _ _)))
  unfold discardPound
  dsimp only
  generalize hv : tablesUpdate (releaseFrames _ _) = v
  have hv : v.supply = s.supply := hv ▸ hback _ _
  exact hv

theorem discardPound_opened (s : State) : (discardPound s).pound.opened = false := by
  unfold discardPound
  rfl

/-- The end of an entry into standby: stacks and light go off, and the partition is left. -/
theorem darkened (u : State) :
    (leavePartition (lightOff (stacksOff u))).supply = u.supply ∧ (leavePartition (lightOff (stacksOff u))).pound = u.pound ∧
      ∀ k, ((leavePartition (lightOff (stacksOff u))).stack k).powered = false := by
  obtain ⟨l, hlight⟩ := lightOff_plant (stacksOff u)
  have hleft := (leavePartition_plant (lightOff (stacksOff u))).trans hlight
  generalize leavePartition (lightOff (stacksOff u)) = t at hleft
  have hstk : t.stk = (stacksOff u).stk := congrArg (fun s => s.stk) hleft
  refine ⟨(congrArg (fun s => (s.power, s.pins)) hleft :), (congrArg (fun s => s.pound) hleft :), fun k => ?_⟩
  have hoff := stacksOff_unpowered u k
  unfold State.stack at hoff ⊢
  rw [hstk]
  exact hoff

theorem enterStandby_ends (s : State) : (enterStandby s).supply = s.supply ∧ (enterStandby s).pound.opened = false ∧
    ∀ k, ((enterStandby s).stack k).powered = false := by
  unfold enterStandby
  dsimp only
  generalize hu : endBarges (fun _ => true) St.powerState (killGraphs St.powerState s) = u
  have hended : u.supply = s.supply := hu ▸ (endBarges_supply _ _ _).trans (killGraphs_supply _ _)
  have hjobs := endJobs_plant lostJob St.powerState (discardPound u)
  generalize endJobs lostJob St.powerState (discardPound u) = v at hjobs
  have hopened : v.pound.opened = false :=
    (congrArg (fun s => s.pound.opened) hjobs :).trans (discardPound_opened u)
  have hsupply : v.supply = s.supply := (supply_of_plant hjobs).trans ((discardPound_supply u).trans hended)
  generalize hw : markDark false _ = w
  have hmarked : w.supply = v.supply := hw ▸ rfl
  have hpound : w.pound = v.pound := hw ▸ rfl
  obtain ⟨hs, hp, hk⟩ := darkened w
  exact ⟨hs.trans (hmarked.trans hsupply), ((congrArg (fun p => p.opened) (hp.trans hpound)).trans hopened), hk⟩

theorem lightOff_supply (s : State) : (lightOff s).supply = s.supply := setLinks_supply _ _ _

/-- A trip asserts THERMTRIP_N, closes the pound without a commit and powers every stack off, at its own instant. -/
theorem tripStep_ends (r cause : Nat) (hw : Bool) (s : State) :
    (tripStep r cause hw s).pins.thermtripN = false ∧ (tripStep r cause hw s).pound.opened = false ∧
      (tripStep r cause hw s).power.tripAt = some s.ft ∧ ∀ k, ((tripStep r cause hw s).stack k).powered = false := by
  unfold tripStep
  dsimp only
  generalize hu : logEvent Ev.thermalTrip _ _ = u
  have hpins : u.pins.thermtripN = false := by
    rw [← hu, pins_of_supply ((logEvent_supply _ _ _).trans ((discardPound_supply _).trans (lightOff_supply _)))]
    rfl
  have hft : u.ft = s.ft := by
    subst hu
    exact ft_of (by simp)
  generalize Option.getD _ _ = stamp
  obtain ⟨hsupply, hopened, hoff⟩ := enterStandby_ends (lowerAllDebug 1 6 u)
  have hft' : (enterStandby (lowerAllDebug 1 6 u)).ft = s.ft := (ft_of (by simp)).trans hft
  have hpins' := (congrArg (fun p => p.thermtripN) (pins_of_supply (hsupply.trans (lowerAllDebug_supply 1 6 u)))).trans hpins
  generalize enterStandby (lowerAllDebug 1 6 u) = v at hsupply hopened hoff hft' hpins'
  unfold flashSuspend
  split <;> exact ⟨hpins', hopened, congrArg some hft', hoff⟩

/-- Once the trip log is written PS4 is in force, in thermal shutdown. -/
theorem tripWritten_ends {s : State} {at' : Nat} {t : Transition} (hat : s.power.tripAt = some at') (ht : s.power.transition = some t) :
    (tripWritten s).power.pstate = 4 ∧ (tripWritten s).power.shutdown = true ∧ (tripWritten s).power.tripAt = none ∧
      (tripWritten s).power.transition = none := by
  have hlast : ∀ u : State, (reselect (closePortB u)).power = u.power := fun u =>
    power_of_supply (supply_of_plant (reselect_plant (closePortB u)))
  have hended : ∀ (u : State) (j : Nat), (endJob j St.powerState [] u).power = u.power := fun u j =>
    power_of_supply (supply_of_plant (endJob_plant j St.powerState [] u))
  have hlogged : ∀ (u : State) (a : Bytes), (if t.source = 4 then u else logEvent Ev.powerState a u).power = u.power := by
    intro u a
    split
    case isTrue => rfl
    case isFalse => exact power_of_supply (logEvent_supply _ _ _)
  unfold tripWritten
  rw [hat, ht]
  dsimp only
  rw [hlast]
  cases t.job with
  | none =>
    rw [hlogged]
    exact ⟨rfl, rfl, rfl, rfl⟩
  | some j =>
    rw [hended, hlogged]
    exact ⟨rfl, rfl, rfl, rfl⟩

/-- A round due notes its number and start, and counts the rounds that a berth running has not answered. -/
theorem roundStep_due {s : State} (round : HouseRound) (hreset : s.pins.resetN = true)
    (hnew : s.power.phase = 0 ∨ s.ft / 131072 ≠ s.power.round) :
    (roundStep round s).power.round = s.ft / 131072 ∧ (roundStep round s).power.phase = 1 ∧
      (roundStep round s).power.roundAt = s.ft / 131072 * 131072 ∧
      (roundStep round s).base.silent = round.silent.foldl (fun t b => Tab.put b (Tab.getD 0 b s.base.silent + 1) t) [] ∧
      (roundStep round s).log = s.log ∧ (roundStep round s).pound = s.pound := by
  unfold roundStep
  dsimp only
  rw [if_pos (by simpa [hreset] using hnew)]
  split
  case isTrue => exact ⟨rfl, rfl, rfl, rfl, rfl, rfl⟩
  case isFalse =>
    obtain ⟨l, h⟩ := roundReads_avs _
    rw [h]
    exact ⟨rfl, rfl, rfl, rfl, rfl, rfl⟩

/-- Settles O50: a round's three instants and the trip, by the equations above. -/
theorem housekeepingAndTrips : Obligations.HousekeepingAndTrips := by
  unfold Obligations.HousekeepingAndTrips
  refine ⟨?round, ?early, ?idle, ?evaluation, ?action, ?trip, ?written⟩
  case round =>
    intro s round hreset hnew
    obtain ⟨hround, hphase, hat, hsilent, hlog, hpound⟩ := roundStep_due round hreset hnew
    refine ⟨roundStep round s, rfl, hround, hphase, hat, fun b hb => ?_, fun b hb => ?_, hlog, hpound⟩
    · rw [hsilent, getD_foldl_put 0 (fun b => Tab.getD 0 b s.base.silent + 1), if_pos hb]
    · rw [hsilent, getD_foldl_put 0 (fun b => Tab.getD 0 b s.base.silent + 1), if_neg hb]
      rfl
  case early =>
    intro s round hearly
    refine congrArg Host.Outcome.next (if_neg ?_)
    rcases hearly with hreset | ⟨hphase, hround⟩
    · simp [hreset]
    · simp [hphase, hround]
  case idle =>
    intro s tones
    refine ⟨fun h => ?_, fun h => ?_, fun h => ?_, fun h => ?_⟩
    · refine congrArg Host.Outcome.next (if_neg ?_)
      rcases h with h | h | h <;> simp [h]
    · refine congrArg Host.Outcome.next (if_neg ?_)
      rcases h with h | h | h <;> simp [h]
    · refine congrArg Host.Outcome.next ?_
      unfold tripCommand
      rcases h with h | h | ⟨hwanted, hhardware⟩
      · simp [h]
      · simp [h]
      · rw [hwanted, hhardware]
        exact ite_self s
    · refine congrArg Host.Outcome.next ?_
      unfold tripWritten
      rw [h]
  case evaluation => exact fun s tones hruns hphase hdue => ⟨evaluate tones s, rfl, evaluate_due tones hruns hphase hdue⟩
  case action => exact fun s hruns hphase hdue hnodup => ⟨actStep s, rfl, actStep_due hruns hphase hdue hnodup⟩
  case trip =>
    intro s r cause hmay hreset hwanted
    have hcommand : tripCommand s =
        if stranded s then stacksOff { s with pins.thermtripN := false } else tripStep r cause false s := by
      unfold tripCommand
      rw [hwanted, if_neg (by simp [hmay, hreset])]
    refine ⟨fun hstands => ?_, fun hstands => congrArg Host.Outcome.next (hcommand.trans (if_pos hstands))⟩
    refine ⟨tripStep r cause false s, congrArg Host.Outcome.next (hcommand.trans (if_neg (by simp [hstands]))), ?_⟩
    exact tripStep_ends r cause false s
  case written => exact fun s at' t hat ht => ⟨tripWritten s, rfl, tripWritten_ends hat ht⟩

end Sys2Proof.Machine
end
